-- ==== Sys2Proof/Word.lean ====
section
/-! DEFINITION. The word types of the BL9480: 32-bit registers (R12, R13) and bytes. -/

namespace Sys2Proof

/-- A register word (R13: registers are 32 bits wide). -/
abbrev Word := BitVec 32

/-- A byte of a message, a frame or a memory. -/
abbrev Byte := BitVec 8

/-- A Light-Engine Channel, lamp link or chain port index 0–3. -/
abbrev Chan := Fin 4

/-- A DRAM channel, CSI-2 receiver or CAN controller index 0–1. -/
abbrev Duo := Fin 2

end Sys2Proof
end

