-- ==== Sys2Proof/Syntax.lean ====
section
/-! DEFINITION. The commands that reach the BL9480 from outside and the events of its own sequencers: one constructor
for each row of the opcode table, with the operands the row's rule gives it.  A value that only the environment
decides (a measured eye, a returned word, a sampled pin) is an operand (log entry 5). -/

namespace Sys2Proof

/-- A CSI-2 packet as received (R148): `ecc` is the header outcome (0 good, 1 corrected, 2 uncorrectable), `crcOk` the
payload check of a long packet. -/
structure CsiPkt where
  ecc : Nat
  vc : Nat
  dt : Nat
  wc : Nat
  payload : List Byte
  crcOk : Bool
  deriving DecidableEq, Repr

/-- How a back-lane packet arrives: in time, after its release instant (R260), or failing its CRC (R273). -/
inductive Arrival | inTime | late | badCrc
  deriving DecidableEq, Repr

/-- The commands: one constructor per row of the opcode table. -/
inductive Instr where
  /-- HSPI_READ (R85): A 0x03 read transaction returns bytes from the host window; if it is addressed into the
      direct window it returns 0xFF for every byte. -/
  | hspiRead (addr : Nat) (n : Nat) (partBits : Nat := 0)
  /-- HSPI_FAST_READ (R85): A 0x0B fast read transaction returns host-window or direct-window data after its dummy
      clocks. -/
  | hspiFastRead (addr : Nat) (n : Nat) (late : List Nat) (partBits : Nat := 0)
  /-- HSPI_QUAD_READ (R85): A 0x6B quad read transaction returns data on four lines; it is honoured only once quad
      use is settled. -/
  | hspiQuadRead (addr : Nat) (n : Nat) (late : List Nat) (partBits : Nat := 0)
  /-- HSPI_WRITE (R87): A 0x02 write transaction writes control-area words, inbox bytes or direct-window words by
      the rules of each region. -/
  | hspiWrite (op : Byte) (addr : Nat) (bytes : List Byte) (partBits : Nat)
  /-- HSPI_QUAD_WRITE (R87): A 0x32 quad write transaction writes the host window on four lines; it is honoured only
      once quad use is settled. -/
  | hspiQuadWrite (addr : Nat) (bytes : List Byte) (partBits : Nat)
  /-- HSPI_READ_STATUS (R85): A 0x05 transaction returns the bytes of MBX_HSTAT repeatedly for as long as clocks
      continue. -/
  | hspiReadStatus (n : Nat) (partBits : Nat := 0)
  /-- FAST_LANE_WRITE (R109): At the rising edge of HSPI_CS_N, a 0xA5 record is accepted into the channel's hard
      mask or dropped with a reason. -/
  | fastLaneWrite (addr : Nat) (bytes : List Byte) (partBits : Nat := 0)
  /-- DOORBELL (R89): Writing a bit of MBX_DOORBELL sets INBOX_BUSY of that mailbox, unless the mailbox is busy or
      full, in which case the write is ignored and logged. -/
  | doorbell (v : Word)
  /-- OUTBOX_ACK (R89): Writing MBX_OUTBOX_ACK clears OUTBOX_FULL of the named outboxes; a successful HELLO takes
      effect on the rising edge of this write. -/
  | outboxAck (v : Word)
  /-- NOTIFICATION_PLACE (R100): 1–50 µs after the MB6 acknowledgement, firmware places the next queued notification
      in the MB6 outbox and sets OUTBOX_FULL[6]. -/
  | notificationPlace
  /-- CAN_REQUEST_FRAME (R103): A CAN FD frame on a request identifier delivers one message to that mailbox, or is
      discarded if the mailbox still holds an unanswered command. -/
  | canRequestFrame (c : Duo) (mb : Fin 6) (bytes : List Byte) (fd : Bool)
  /-- CAN_FRAME_SENT (R103): Completion of a response or notification frame on CAN; a HELLO on CAN takes effect
      here. -/
  | canFrameSent (c : Duo)
  /-- CAN_ERROR_PASSIVE (R103): A CAN controller entering error-passive logs event 0x0311. -/
  | canErrorPassive (c : Duo)
  /-- CAN_BUS_OFF (R103): A CAN controller going bus-off logs event 0x0310; its responses and notifications wait for
      recovery. -/
  | canBusOff (c : Duo)
  /-- CAN_BUS_OFF_RECOVERY (R103): Recovery from bus-off under ISO 11898-1 releases the waiting responses and
      notifications. -/
  | canBusOffRecovery (c : Duo)
  /-- HELLO (R98): Settles version, payload limit, quad, CRC and event notifications for the port, and resets its
      sequence states. -/
  | hello (port : Fin 3) (mb : Fin 6)
  /-- GET_INFO (R117): Returns page 0 about the device, or pages 1–4 about each lamp node and chain. -/
  | getInfo (port : Fin 3) (mb : Fin 6)
  /-- SET_MODE (R119): Requests a mode transition of R39; an accepted one is answered ACCEPTED_PENDING and runs the
      transition. -/
  | setMode (port : Fin 3) (mb : Fin 6)
  /-- GET_STATUS (R118): Returns mode, reset cause, temperature, flags and the per-channel state. -/
  | getStatus (port : Fin 3) (mb : Fin 6)
  /-- SET_TIMING (R121): Stages geometry, rate, timetable and frame lock, and writes COMMIT_GUARD at once. -/
  | setTiming (port : Fin 3) (mb : Fin 6)
  /-- LOAD_ASSET (R130): Writes one piece of an asset into the DRAM asset area and checks CRC and layout when the
      last piece arrives. -/
  | loadAsset (port : Fin 3) (mb : Fin 6)
  /-- SET_LAYER (R122): Stages the source, format, crop, destination, z-order and alpha of one layer. -/
  | setLayer (port : Fin 3) (mb : Fin 6)
  /-- COMMIT (R131): Checks the stage under R31 and, if it passes, copies it to the shadows and issues the commit
      request or Bell strobe. -/
  | commit (port : Fin 3) (mb : Fin 6)
  /-- SET_BEAM (R123): Stages a beam function, its profile asset and its intensity. -/
  | setBeam (port : Fin 3) (mb : Fin 6)
  /-- SET_MASKS (R124): Stages soft mask slot changes of one channel. -/
  | setMasks (port : Fin 3) (mb : Fin 6)
  /-- SET_ANIMATION (R125): Stages the content source of one chain port. -/
  | setAnimation (port : Fin 3) (mb : Fin 6)
  /-- SET_GROUPS (R126): Stages DEFINE, ARM or DELETE of a function group, or sets a LEVEL target and fade at once. -/
  | setGroups (port : Fin 3) (mb : Fin 6)
  /-- SET_DERATE (R127): Stages the derating law parameters, ARM or DISARM. -/
  | setDerate (port : Fin 3) (mb : Fin 6)
  /-- RUN_CALIBRATION (R135): Queues the named calibration items, or reports their Report Cards. -/
  | runCalibration (port : Fin 3) (mb : Fin 6)
  /-- READ_EVENTS (R136): Returns occupied event records at or above a severity, each read under the generation
      check. -/
  | readEvents (port : Fin 3) (mb : Fin 6)
  /-- CLEAR_EVENTS (R137): Empties the whole event log and releases FAULT_N. -/
  | clearEvents (port : Fin 3) (mb : Fin 6)
  /-- SNAPSHOT (R132): Strobes SYS_BELL with SNAP and returns the timestamp and channel snapshots. -/
  | snapshot (port : Fin 3) (mb : Fin 6)
  /-- SET_LEVELLING (R128): Configures the pitch input at once, and stages the aim offset and the offset limits. -/
  | setLevelling (port : Fin 3) (mb : Fin 6)
  /-- LINK_CONTROL (R133): Queries, enables, disables, lowers or renegotiates one link. -/
  | linkControl (port : Fin 3) (mb : Fin 6)
  /-- CHAIN_ROLLCALL (R134): Runs Roll Call on the named stopped ports and returns what each found and settled. -/
  | chainRollcall (port : Fin 3) (mb : Fin 6) (found : List (List Nat))
  /-- SET_DEGRADE (R120): Records a degraded profile and arms advisories; in LIMP a profile change is a transition. -/
  | setDegrade (port : Fin 3) (mb : Fin 6)
  /-- RESET_FUNCTION (R138): Soft-resets a block, schedules a DEVICE reset, or arms the watchdog. -/
  | resetFunction (port : Fin 3) (mb : Fin 6)
  /-- SET_LOOP (R129): Disables, enables, loads a template into, or sets the references of one Tutor context. -/
  | setLoop (port : Fin 3) (mb : Fin 6)
  /-- STORE_CONFIG (R139): Writes the active configuration and the BOOT_LIGHT bits to the flash configuration copy. -/
  | storeConfig (port : Fin 3) (mb : Fin 6)
  /-- HALLPASS_REQ (R105): Grants, extends or refuses a time-limited expert grant for one block. -/
  | hallpassReq (port : Fin 3) (mb : Fin 6)
  /-- HALLPASS_RETURN (R105): Ends a live grant, logs event 0x0307 and sends HALLPASS_END. -/
  | hallpassReturn (port : Fin 3) (mb : Fin 6)
  /-- HALLPASS_EXPIRY (R105): A grant whose time runs out on the timebase ends, logs event 0x0307 and sends
      HALLPASS_END. -/
  | hallpassExpiry (g : Nat)
  /-- REG_READ (R141): Returns aligned register words under a covering grant. -/
  | regRead (port : Fin 3) (mb : Fin 6)
  /-- REG_WRITE (R141): Writes aligned register words under a covering grant, refusing the whole command if any word
      is refused. -/
  | regWrite (port : Fin 3) (mb : Fin 6)
  /-- REG_MODIFY (R141): Performs an atomic masked read-modify-write of one register word. -/
  | regModify (port : Fin 3) (mb : Fin 6)
  /-- MEM_READ (R142): Reads internal memory, a fallback pattern SRAM or a chain frame memory. -/
  | memRead (port : Fin 3) (mb : Fin 6)
  /-- MEM_WRITE (R142): Writes internal memory, a fallback pattern SRAM or a chain frame memory. -/
  | memWrite (port : Fin 3) (mb : Fin 6)
  /-- DRAM_TRAIN_STEP (R371): Runs one training step on the named DRAM channel, ranks and lanes, and returns the
      per-lane results. -/
  | dramTrainStep (port : Fin 3) (mb : Fin 6) (results : List (Nat × Nat))
  /-- CAL_STEP (R348): Measures, selects an element, sets a tap or stores the Report Card of one calibration item. -/
  | calStep (port : Fin 3) (mb : Fin 6) (q : Nat)
  /-- TRACE_SETUP (R328): Configures and arms trace capture on one Tutor context. -/
  | traceSetup (port : Fin 3) (mb : Fin 6)
  /-- INJECT_SETUP (R329): Configures and arms a signal injection on one Tutor context. -/
  | injectSetup (port : Fin 3) (mb : Fin 6)
  /-- TRACE_READ (R145): Returns the capture state and trace words. -/
  | traceRead (port : Fin 3) (mb : Fin 6)
  /-- LOOP_LOAD_MATRIX (R144): Loads one matrix of a disabled Tutor context. -/
  | loopLoadMatrix (port : Fin 3) (mb : Fin 6)
  /-- TIMETABLE_LOAD (R143): Checks and loads one timetable, with an optional D1 variant, as a loaded timetable
      index. -/
  | timetableLoad (port : Fin 3) (mb : Fin 6)
  /-- LINK_EQ (R146): Reads a lane eye, or sets transmit or receive equalisation. -/
  | linkEq (port : Fin 3) (mb : Fin 6) (width : Nat) (height : Nat)
  /-- FW_UPDATE (R146): Erases, writes, verifies or runs a firmware image slot. -/
  | fwUpdate (port : Fin 3) (mb : Fin 6) (fault : Bool)
  /-- FLASH_OP_COMPLETE (R140): A flash write, erase or verify completes and its DONE is sent. -/
  | flashOpComplete (fault : Bool)
  /-- MODE_TRANSITION_COMPLETE (R41): A mode transition completes at its affected frame starts or retrains; SYS_MODE
      is updated, event 0x0101 is logged and DONE is sent. -/
  | modeTransitionComplete
  /-- PWR_WARN_FALL (R252): Recognition of PWR_WARN_N low starts the park sequence on every released channel. -/
  | pwrWarnFall
  /-- PWR_WARN_RISE (R43): PWR_WARN_N returns high; the device stays in DARK-HOLD and SET_MODE is served again. -/
  | pwrWarnRise
  /-- PARK_TIMEOUT (R253): No PARKED report 200 µs after recognition logs event 0x2n12. -/
  | parkTimeout
  /-- STANDBY_MIN_LOW_EXPIRY (R44): STBY_EN_N has been low for 33 AON cycles, and any latched wake condition is then
      acted on. -/
  | standbyMinLowExpiry
  /-- WAKE_PIN (R45): A WAKE pin held at its active level for the debounce time wakes the device from STANDBY. -/
  | wakePin (i : Duo)
  /-- WAKE_CAN_PATTERN (R45): The dominant-recessive-dominant wake pattern on CANn_RX wakes the device. -/
  | wakeCanPattern (c : Duo)
  /-- WAKE_HSPI (R45): A falling edge of HSPI_CS_N in STANDBY wakes the device; its transaction is not served. -/
  | wakeHspi
  /-- WAKE_TIMER (R45): The timebase reaching the 46-bit compare value wakes the device. -/
  | wakeTimer
  /-- CORE_SUPPLY_GOOD (R46): VDD_CORE good after a wake starts the standby-exit reset, and the device enters BOOT. -/
  | coreSupplyGood
  /-- PMIC_TIMEOUT (R46): VDD_CORE not good within PMIC_TMO sets SUPPLY_LATE while the AON keeps waiting. -/
  | pmicTimeout
  /-- CRYSTAL_SWITCH (R47): After 1,024 crystal cycles within ±1 %, the AON clock switches to the crystal and event
      0x0104 is logged with A = 1. -/
  | crystalSwitch
  /-- CRYSTAL_STOP (R47): A crystal that stops for 4 RC cycles returns the AON clock to the RC oscillator and event
      0x0104 is logged with A = 0. -/
  | crystalStop
  /-- PLL_LOCK (R49): A started PLL achieves lock. -/
  | pllLock (i : Fin 9)
  /-- PLL_LOCK_LOSS (R52): A running PLL loses lock; clock-good of its domains drops and event 0x0113 is logged. -/
  | pllLockLoss (i : Fin 9)
  /-- PLL_STOP (R52): A PLL stops 100 µs after the last domain it feeds is disabled. -/
  | pllStop (i : Fin 9)
  /-- CLOCK_GOOD (R51): A domain's clock-good rises 64 domain cycles after its PLL locks, releasing any block
      waiting on it. -/
  | clockGood (d : Fin 256)
  /-- CLOCK_ENABLE_WRITE (R52): A write to SYS_CLKEN enables or disables clock domains, stopping a running block in
      place. -/
  | clockEnableWrite (k : Fin 8) (v : Word)
  /-- DRAM_DRAIN_COMPLETE (R55): Once every channel has switched to its pattern and DRAM traffic has drained, both
      channels enter self-refresh and the DPLLs relock. -/
  | dramDrainComplete
  /-- TRAINING_RESTORE_COMPLETE (R374): Stored training is restored and verified, or full training ends, and self-
      refresh is exited. -/
  | trainingRestoreComplete (outcomes : List Nat)
  /-- DEGRADE_ADVISORY (R56): An armed advisory condition is met and event 0x0110 is logged, at most once per reason
      per second. -/
  | degradeAdvisory (reason : Nat)
  /-- POWER_ON (R61): VAON rising through its good threshold resets everything, including the AON domain and the
      event log, and logs the epoch record. -/
  | powerOn (bank0 : Fin 4 := 0) (win : Bool := false)
  /-- AON_RELEASE (R65): The AON domain is released once VAON is good and the AON clock runs. -/
  | aonRelease
  /-- VDD_CORE_BROWN_OUT (R63): VDD_CORE below 0.72 V for 2 µs isolates the pads and resets everything except AON. -/
  | vddCoreBrownOut
  /-- RESET_N_PULSE (R63): A recognised low pulse on RESET_N resets everything except AON and the event log. -/
  | resetNPulse
  /-- JTAG_RESET (R426): TRST_N low or Test-Logic-Reset resets the test logic only and loads the boundary update
      stage safe. -/
  | jtagReset
  /-- WATCHDOG_EXPIRY (R71): An armed watchdog not kicked in time resets the processor, SRAM and fabric, stops
      channels and drives the lamp enables high. -/
  | watchdogExpiry
  /-- WATCHDOG_KICK (R71): Firmware's write to RST_WDT_KICK restarts the watchdog timeout. -/
  | watchdogKick
  /-- WATCHDOG_ARM (R71): A write to RST_WDT_CFG with ARMED set arms the watchdog with its timeout. -/
  | watchdogArm (v : Word)
  /-- DEVICE_RESET_DELAY (R138): 1 ms after the OK response to a DEVICE reset, firmware writes RST_DEVICE. -/
  | deviceResetDelay
  /-- DEVICE_RESET (R82): Writing the key with GO to RST_DEVICE starts a DEVICE reset on the next AON edge. -/
  | deviceReset (v : Word)
  /-- OPTION_LOADING_COMPLETE (R67): After 1.2 ms the straps, OTP and bank classes are fixed; then either the PLLs
      start or SCAN-TEST is entered on TESTEN_N. -/
  | optionLoadingComplete (straps : Nat) (otp : Word) (otpOk : Bool) (banks : Nat) (testenN : Bool)
  /-- RELEASE_PENDING_TIMEOUT (R66): A release that has waited 1 ms for clock-good logs event 0x0205. -/
  | releasePendingTimeout
  /-- SOFT_RESET (R68): Writing 1 to RST_BLK_CTRL bits holds the selected blocks in reset with their side effects. -/
  | softReset (k : Fin 5) (v : Word)
  /-- SOFT_RESET_RELEASE (R68): A soft-reset block is released 32 control-clock cycles after clock-good, and its bit
      clears. -/
  | softResetRelease (k : Fin 5 := 0) (v : Word := 0xFFFFFFFF)
  /-- IMAGE_SLOT_CHECK (R76): The boot ROM finishes reading an image slot and accepts it or rejects it with event
      0x0401. -/
  | imageSlotCheck (modes : Nat) (fault : Bool)
  /-- DRAM_BRINGUP_COMPLETE (R79): A DRAM channel runs after restore, INIT plus restore, or full training. -/
  | dramBringupComplete (ch : Duo) (how : Nat)
  /-- ASSET_COPY_COMPLETE (R140): The stored assets have all been loaded from flash into DRAM. -/
  | assetCopyComplete
  /-- BOOT_LIGHT_START (R80): Once its link is trained, its pattern is loaded and its law is armed, a BOOT_LIGHT
      channel is committed and shows its D3 pattern. -/
  | bootLightStart (n : Chan)
  /-- BOOT_COMPLETE (R81): When every boot condition holds, the remaining channels are committed, READY is entered
      and BOOT_COMPLETE is notified. -/
  | bootComplete
  /-- FRAME_START (R18): A channel's frame start opens its period: frame count, streaming stage, buffer selection,
      mask lifetimes, frame lock and mode completions act here. -/
  | frameStart (n : Chan)
  /-- LATCH_POINT (R26): At the latch point an armed commit's shadow is copied into the pending bank. -/
  | latchPoint (n : Chan)
  /-- TRANSFER_LINE (R26): At the transfer line the pending bank moves into the composition stage, and new amplitude
      tables are sent. -/
  | transferLine (n : Chan)
  /-- COMPOSITION_COMPLETE (R157): At the end of line rows + 1, the composed frame, its monitor copy and its
      signatures are complete. -/
  | compositionComplete (n : Chan)
  /-- FIELD_START (R195): A field starts; BPF latches trims, sends the FIELD_HEADER, and truncates any unfinished
      field. -/
  | fieldStart (n : Chan)
  /-- LEC_COMMIT_GO (R32): Writing LEC_COMMIT.GO arms a commit without any firmware check. -/
  | lecCommitGo (n : Chan) (v : Word)
  /-- LEC_RUN_WRITE (R29): Writing LEC_CTRL.RUN starts the raster or stops the channel at the next frame start. -/
  | lecRunWrite (n : Chan) (v : Word)
  /-- BELL_WRITE (R35): A write to SYS_BELL with COMMIT or SNAP schedules a strobe, or is lost while BUSY, logging
      event 0x0109. -/
  | bellWrite (v : Word)
  /-- BELL_STROBE (R34): 12 control-clock cycles after the write, the strobe commits or snapshots every selected
      unit on one edge. -/
  | bellStrobe
  /-- FRAME_LOCK_WRITE (R23): A write to SYS_FLOCK takes effect at the next group frame start, or at once if none is
      due. -/
  | frameLockWrite (v : Word)
  /-- LSYNC_IN_EDGE (R25): An LSYNC_IN edge within ±1 % of the programmed period starts the group frame; an edge
      outside the window is counted as missing. -/
  | lsyncInEdge (i : Duo) (inWindow : Bool)
  /-- LSYNC_EDGE_MISSING (R25): No accepted edge at the expected time starts the frame at the programmed period;
      four misses clear REF_OK and log 0x0114. -/
  | lsyncEdgeMissing
  /-- ERR_CLEAR (R17): Writing 1 to an xxx_ERR.SET clears FIRST, MORE, WR_WHILE_RUN and the error count. -/
  | errClear (addr : Nat) (v : Word)
  /-- REGISTER_WRITE (R440): A write to a register without behaviour of its own, taken field by field under its
      attributes. -/
  | registerWrite (addr : Nat) (v : Word)
  /-- CSI_PACKET (R148): A received CSI-2 packet is written to the ring buffer, or ignored and counted. -/
  | csiPacket (rx : Duo) (pkt : CsiPkt)
  /-- CSI_FRAME_COMPLETE (R152): A complete frame is published to the bound layer's live pointer with its TAG. -/
  | csiFrameComplete (rx : Duo) (vc : Fin 16)
  /-- CSI_STOP_TIMEOUT (R150): No Frame End within one source period plus 1 ms of EN clearing loses the frame and
      stops the entry. -/
  | csiStopTimeout (rx : Duo) (vc : Fin 16)
  /-- CSI_ENTRY_ENABLE_WRITE (R150): Writing CSI_VCv_CFG.EN starts or stops a map entry. -/
  | csiEntryEnableWrite (rx : Duo) (vc : Fin 16) (v : Word)
  /-- LAYER_UNDERRUN (R168): Data missing at the end of its due line makes the layer transparent for the rest of the
      frame and logs event 0x1n10. -/
  | layerUnderrun (n : Chan) (x : Fin 4) (row : Nat)
  /-- LUT_PORT_WRITE (R180): A LUT access-port write enters the LUT, or is ignored and logged if it targets a bank
      in use. -/
  | lutPortWrite (n : Chan) (v : Word)
  /-- COEF_RAM_WRITE (R192): A scaler coefficient RAM write enters the RAM, or is ignored if it targets a bank in
      use. -/
  | coefRamWrite (n : Chan) (off : Nat) (v : Word)
  /-- MESH_PORT_WRITE (R184): A mesh access-port write enters the mesh RAM, or is ignored if it targets a bank in
      use. -/
  | meshPortWrite (n : Chan) (v : Word)
  /-- TIMETABLE_RAM_WRITE (R215): A timetable RAM write enters the RAM, or is ignored if it targets a bank in use. -/
  | timetableRamWrite (n : Chan) (off : Nat) (v : Word)
  /-- CHAIN_MEM_WRITE (R305): A CHN_MEM_DATA write enters the chain frame memory, or is ignored in the shift bank
      while the port runs. -/
  | chainMemWrite (n : Chan) (v : Word)
  /-- INJ_TABLE_WRITE (R329): A write to the Tutor injection table, ignored and logged while a TABLE injection runs. -/
  | injTableWrite (n : Chan) (e : Nat) (v : Word)
  /-- BLOCK_PACKET_SEND (R202): BPF sends a plane's block packets once the reset of lit slot n − STAGE has passed. -/
  | blockPacketSend (n : Chan)
  /-- BLOCK_DEADLINE_MISS (R203): A block not sent by its deadline is abandoned, counted as LATE and logged as event
      0x1n30. -/
  | blockDeadlineMiss (n : Chan) (slot : Nat) (blk : Nat)
  /-- SCAN_LINE_START (R209): At each line start, the next scan line is sent; a line not complete in time is
      abandoned and logged as event 0x1n32. -/
  | scanLineStart (n : Chan) (complete : Bool)
  /-- MASK_INJECT (R237): Writing MSK_INJ_GO submits MSK_INJ0–3 as a mask record without a CRC8 check. -/
  | maskInject (n : Chan) (v : Word)
  /-- MASK_LIFETIME_EXPIRY (R221): A mask entry whose lifetime ends at a frame start is emptied, and a CLEAR packet
      is sent for a hard entry. -/
  | maskLifetimeExpiry (n : Chan) (slot : Fin 64)
  /-- MASK_ACK_TIMEOUT (R230): No acknowledgement 40 µs after a hard entry change logs event 0x1n22 and resends the
      entry. -/
  | maskAckTimeout (n : Chan) (slot : Fin 64)
  /-- CONTROL_SLOT (R241): Every 2.56 µs SRC forms a source command and the link sends a control slot. -/
  | controlSlot (n : Chan)
  /-- LAMP_EN_MISMATCH (R248): A LAMPn_EN_N pad level that differs from the driven level for 2 µs logs event 0x1n40
      and sets MISMATCH. -/
  | lampEnMismatch (n : Chan)
  /-- DERATE_EVALUATION (R249): Each 1 ms, the armed derating law updates th and f, and logs derating entry or exit
      as event 0x2n10. -/
  | derateEvaluation (n : Chan)
  /-- TEMP_INPUT_LOSS (R251): A lamp sensor silent for 10 ms counts as lost; f and th are then held and event 0x2n11
      is logged. -/
  | tempInputLoss (n : Chan)
  /-- BACK_SENSOR (R316): A released SENSOR packet presents samples to Tutor's measured inputs, subject to gating. -/
  | backSensor (n : Chan) (arr : Arrival) (stamp : Nat) (payload : List Byte)
  /-- BACK_STATUS (R267): A released STATUS packet updates the node state; it may detect a node reset, a PARKED
      report or a link-down cause. -/
  | backStatus (n : Chan) (arr : Arrival) (payload : List Byte)
  /-- BACK_NAK (R272): A released NAK causes a block replay or a hold, or the re-forming or resending of other
      packets. -/
  | backNak (n : Chan) (arr : Arrival) (payload : List Byte)
  /-- BACK_MASK_ACK (R230): A MASK_ACK updates ACK_GEN and MSK_ACK_TIME of the slot. -/
  | backMaskAck (n : Chan) (arr : Arrival) (payload : List Byte)
  /-- BACK_TABLE_ACK (R245): A TABLE_ACK records a node-acknowledged amplitude table and allows TGEN to rise. -/
  | backTableAck (n : Chan) (arr : Arrival) (payload : List Byte)
  /-- BACK_CACHE_ACK (R210): A CACHE_ACK records a cached plane; once all planes are acknowledged, REPLAY_CMD is
      sent. -/
  | backCacheAck (n : Chan) (arr : Arrival) (payload : List Byte)
  /-- BACK_CAPABILITY (R268): A received capability block is checked and stored, and negotiation continues or the
      link goes DOWN. -/
  | backCapability (n : Chan) (bytes : List Byte) (arr : Arrival := .inTime)
  /-- BACK_ECHO (R270): An ECHO answering SYNC lets the device send LT_ADJ. -/
  | backEcho (n : Chan) (payload : List Byte) (arr : Arrival := .inTime)
  /-- BACK_EYE (R270): An EYE packet reports a lane's eye and errors for an attempt, verification or retrain. -/
  | backEye (n : Chan) (payload : List Byte) (backPass : Bool) (arr : Arrival := .inTime)
  /-- BACK_SYNC_LOSS (R274): Back-lane code-group sync lost for 20.48 µs takes the link DOWN with reason 1. -/
  | backSyncLoss (n : Chan)
  /-- BACK_SILENCE (R274): No CRC-correct back-lane packet for 40.96 µs takes the link DOWN with reason 2. -/
  | backSilence (n : Chan)
  /-- CAP_REQ_REPEAT (R270): Every 1 ms during negotiation, the device sends CAP_REQ again. -/
  | capReqRepeat (n : Chan)
  /-- CAPABILITY_TIMEOUT (R270): No CAPABILITY within 10 ms takes the link DOWN with reason 4. -/
  | capabilityTimeout (n : Chan)
  /-- TRAIN_SWITCH (R270): At the switch LT, both sides change rate and send PRBS-31. -/
  | trainSwitch (n : Chan)
  /-- EYE_TIMEOUT (R270): No EYE by switch + 2.50 ms returns both sides to base mode. -/
  | eyeTimeout (n : Chan) (backPass : Bool := true)
  /-- RETRAIN_START (R276): At S − 2.5 ms (or S − 3.5 ms for a training retrain), the lit slot ends and MGMT RETRAIN
      is sent. -/
  | retrainStart (n : Chan)
  /-- CHAIN_SWAP_POINT (R293): At a swap point, the port latches a completed reload, starts the next reload and
      takes levels and derating. -/
  | chainSwapPoint (n : Chan)
  /-- CHAIN_RELOAD_COMPLETE (R299): The returned reload is checked; deviations, detections and diagnosis are
      recorded. -/
  | chainReloadComplete (n : Chan) (frames : List (List Nat))
  /-- AUDIT_WINDOW_END (R300): At the end of an audit window, unverified positions are logged as event 0x3n21 and
      probing is scheduled. -/
  | auditWindowEnd (n : Chan)
  /-- TUTOR_LATCH (R308): A context latches its inputs and computes one step, including injection, freezing and the
      innovation bound. -/
  | tutorLatch (n : Chan) (c : Fin 4)
  /-- TUTOR_RELEASE (R313): At cycle Φ after the latch, route and tap values are released to receivers and the trace
      record is written. -/
  | tutorRelease (n : Chan) (c : Fin 4)
  /-- PITCH_FRAME (R128): A CAN pitch-rate frame is written by firmware to the firmware input of levelling contexts. -/
  | pitchFrame (can : Duo) (id : Nat) (bytes : List Byte)
  /-- PITCH_TIMEOUT (R128): No pitch frame within the input timeout holds the last value and logs event 0x4n02. -/
  | pitchTimeout (n : Chan)
  /-- TRACE_ARM (R328): Writing TUT_TRC_CFG.ARM discards the capture and arms the trace. -/
  | traceArm (n : Chan) (v : Word)
  /-- INJECTION_GO (R329): Writing TUT_INJ_CFG.GO arms or ends an injection. -/
  | injectionGo (n : Chan) (v : Word)
  /-- SENSOR_CONVERSION (R332): Each 1 ms a die sensor is converted and CAL_TEMPs is updated, which may change the
      DRAM refresh rate. -/
  | sensorConversion (s : Fin 4) (raw : Nat)
  /-- CAL_DUE_CHECK (R334): Every 100 ms with AUTO set, items whose temperature or context has moved become due and
      are queued. -/
  | calDueCheck
  /-- CAL_TAKE_COMPLETE (R337): A take ends; the pair is judged, and the run continues, goes bad or is discarded. -/
  | calTakeComplete (figs : List Nat)
  /-- CAL_RECESS_APPLY (R340): In a Recess slot, a new element or tap is applied and the Report Card is updated. -/
  | calRecessApply
  /-- CAL_DEFER_EXPIRY (R339): The defer limit expires with preconditions unmet; the run ends with result 2 and
      event 0x5002. -/
  | calDeferExpiry
  /-- CAL_STEP_TIMEOUT (R348): No Recess slot within 100 ms answers a CAL_STEP SELECT or SET_TAP with TIMEOUT. -/
  | calStepTimeout
  /-- DRAM_REQUEST (R354): A port request enters a channel queue or waits; it may wake self-refresh or be refused as
      out of range. -/
  | dramRequest (port : Fin 12) (addr : Nat) (write : Bool) (len : Nat)
  /-- DRAM_COMMAND_SLOT (R355): Each command slot, the controller arbitrates by class and issues a command, updating
      the row-disturb tables. -/
  | dramCommandSlot (ch : Duo)
  /-- DRAM_REQUEST_PROMOTION (R356): A BE or BULK request older than its age limit is promoted to RT-B. -/
  | dramRequestPromotion (ch : Duo) (idx : Nat)
  /-- DRAM_READ_RETURN (R367): Returned read data is ECC-checked, corrected, retried or delivered poisoned. -/
  | dramReadReturn (ch : Duo) (syndromes : List Nat)
  /-- REFRESH_DUE (R362): A due refresh is issued, postponed under panic, or forced at the limit with event 0x6n08. -/
  | refreshDue (ch : Duo)
  /-- ZQCS_DUE (R361): Every 128 ms, ZQCS is issued to every rank after a refresh. -/
  | zqcsDue (ch : Duo)
  /-- ROW_DISTURB_WINDOW_END (R370): At each window of 8,192 × tREFI, every row-disturb table and S is cleared. -/
  | rowDisturbWindowEnd (ch : Duo)
  /-- ALERT_PULSE (R363): An ALERT_N pulse is classed as a parity alert or a CRC alert, and commands are replayed or
      bursts rewritten. -/
  | alertPulse (ch : Duo) (clocks : Nat)
  /-- SELF_REFRESH_IDLE (R368): A channel idle for IDLE_US µs enters self-refresh. -/
  | selfRefreshIdle (ch : Duo)
  /-- HOLD_SELF_REFRESH_WRITE (R369): Writing DMC_CTRL.HOLD_SR drains the channel and holds it in self-refresh, or
      releases it. -/
  | holdSelfRefreshWrite (ch : Duo) (v : Word)
  /-- PATTERN_RUN_GO (R371): Writing PHY_PAT_GO clears the compare counters and starts a pattern run. -/
  | patternRunGo (ch : Duo) (v : Word)
  /-- PATTERN_RUN_DONE (R371): A pattern run completes and DONE is set. -/
  | patternRunDone (ch : Duo) (mismatches : List Nat)
  /-- EVENT_REQUEST (R386): A detected error requests a record in the recorder FIFO; IRQ_N and FAULT_N thresholds
      act at once. -/
  | eventRequest (code : Nat) (sev : Fin 8) (a : Nat) (b : Nat) (block : Nat)
  /-- EVENT_RECORD_WRITE (R393): Every 4 control-clock cycles, the recorder writes one new or repeat record and
      offers new records to firmware. -/
  | eventRecordWrite
  /-- FW_QUEUE_OVERFLOW_REPORT (R387): Once the full firmware queue has room, event 0x0405 is logged with the number
      of entries not queued. -/
  | fwQueueOverflowReport
  /-- FAULT_RELEASE_WRITE (R390): Writing 1 to EVR_FAULT.LATCHED releases FAULT_N. -/
  | faultReleaseWrite (v : Word)
  /-- LOG_CLEAR_REQUEST (R396): Writing EVR_CLEAR.GO releases FAULT_N and starts clearing slots one per control-
      clock edge. -/
  | logClearRequest (v : Word)
  /-- LOG_CLEAR_END (R396): After 2,048 cycles, DROPPED and LAST are zeroed and event 0x0130 is written into slot 0. -/
  | logClearEnd
  /-- DRILL_GO (R398): Writing EVR_DRILL_GO in SERVICE injects one fault and logs event 0x7F10, or is refused. -/
  | drillGo (v : Word)
  /-- DRILL_DEADLINE (R400): The expected event is recorded or 100 ms pass; the drill result is logged as event
      0x7F11. -/
  | drillDeadline
  /-- PROCESSOR_HALT (R381): A lockstep mismatch or an uncorrectable SRAM read halts both cores and logs event
      0x0120. -/
  | processorHalt (a : Nat)
  /-- PROCESSOR_SRAM_CORRECTED (R381): A single-bit processor SRAM error is corrected and logged as event 0x0121. -/
  | processorSramCorrected (addr : Nat)
  /-- SCANTEST_HALT (R433): After the DONE is acknowledged or its time passes, the processor halts in SCAN-TEST. -/
  | scantestHalt
  /-- TAP_IDCODE (R429): The IDCODE instruction selects the 32-bit identification register. -/
  | tapIdcode
  /-- TAP_EXTEST (R430): EXTEST drives pins from the boundary register in SCAN-TEST, and is refused otherwise. -/
  | tapExtest
  /-- TAP_SAMPLE (R430): SAMPLE captures pin states into the boundary register without disturbing pins. -/
  | tapSample (pins : Nat)
  /-- TAP_PRELOAD (R430): PRELOAD loads boundary update cells without disturbing pins. -/
  | tapPreload (cells : Nat)
  /-- TAP_CLAMP (R430): CLAMP holds pins from the boundary register with bypass selected, only in SCAN-TEST. -/
  | tapClamp
  /-- TAP_HIGHZ (R430): HIGHZ places outputs in high-impedance, only in SCAN-TEST. -/
  | tapHighz
  /-- TAP_BYPASS (R428): BYPASS, or any unlisted code, selects the bypass register. -/
  | tapBypass
  /-- TAP_FACTORY (R428): Factory scan and debug instructions 0x20–0x3F, served only at factory level. -/
  | tapFactory (code : Nat)
  /-- TAP_EVR_READ (R435): EVR_READ captures the record of the selected slot at each Capture-DR and increments the
      slot; `sel` is the slot that the Update-DR of the scan takes, if any. -/
  | tapEvrRead (sel : Option Nat)
  /-- TAP_EVR_CLEAR (R436): EVR_CLEAR with key 0x9480 starts a log clear at the next Run-Test/Idle. -/
  | tapEvrClear (key : Nat)
  /-- TAP_BIST_CTRL (R437): BIST_CTRL writes TST_BIST_CFG and may start a self-test at Update-DR. -/
  | tapBistCtrl (v : Word)
  /-- TAP_BIST_RESULT (R428): BIST_RESULT reads TST_BIST_STATUS and TST_BIST_FAIL. -/
  | tapBistResult
  /-- BIST_GO (R437): Writing TST_BIST_GO starts a transparent self-test, or refuses the start. -/
  | bistGo (v : Word)
  /-- BIST_COMPLETE (R438): A self-test ends; the result is stored and event 0x7F02 is logged. -/
  | bistComplete (errs : Nat) (word : Nat) (mem : Nat)
  /-- UNDEFINED_OPCODE_COMMAND (R111): A command message whose opcode is not defined (including the notification
      opcodes 0x60–0x63) is answered UNKNOWN_OPCODE. -/
  | undefinedOpcodeCommand (port : Fin 3) (mb : Fin 6)
  /-- VDD_CORE_GOOD (R65): VDD_CORE crossing its good threshold after power-on or a brown-out starts option loading. -/
  | vddCoreGood
  /-- BOOT_ROLL_CALL (R288): During BOOT, firmware runs Roll Call on every port that the stored configuration
      enables, and settles each port's mode. -/
  | bootRollCall (found : List (List Nat))
  /-- CHAIN_SWAP_WAIT_TIMEOUT (R293): A completed reload that has waited more than two channel frame periods for a
      swap point logs event 0x3n01 with parameter B = 2. -/
  | chainSwapWaitTimeout (n : Chan)
  /-- BACK_LANE_SYNC_GAINED (R281): The device's back-lane receiver acquires 8b/10b code-group sync and
      LNK_STATUS.B_LOCK is set. -/
  | backLaneSyncGained (n : Chan)
  /-- CSI_LANE_STATE_CHANGE (R154): A CSI-2 data lane enters or leaves LP-11 or ULPS, or a deskew sequence is
      received, which updates CSI_STATUS.STOP, ULPS and DESKEWED. -/
  | csiLaneStateChange (rx : Duo) (stop : Nat) (ulps : Nat) (deskewed : Bool)
  deriving DecidableEq, Repr

end Sys2Proof
end

