-- ==== Sys2Proof/Decode.lean ====
section
/-! DEFINITION. Decoding of command words.  No row of the opcode table gives bits: a command reaches the block as a
transaction, a message or an event, never as an instruction word (log entry 10). -/

namespace Sys2Proof

/-- The command that a word spells by the table's bits: none, for no row has bits. -/
def decodeTableWord (_nbits _w : Nat) : Option Instr := none

end Sys2Proof
end

