-- ==== Sys2Proof/Machine/Bits.lean ====
section
/-! DEFINITION. Block base addresses (R12, R15), bit fields, sign conversion, byte order (little-endian, chapter
"Conventions") and the checksums the manual names. -/

namespace Sys2Proof.Machine

/-- Base of the window of Light-Engine Channel n (R12). -/
def lecBase (n : Fin 4) : Nat := 0x40100000 + 0x40000 * n.val
/-- Base of CSI-2 receiver A (0) or B (1) (R12). -/
def csiBase (rx : Fin 2) : Nat := 0x40080000 + 0x8000 * rx.val
/-- Base of a DRAM channel controller; its PHY stands at +0x8000 (R12). -/
def dmcBase (ch : Fin 2) : Nat := 0x40200000 + 0x10000 * ch.val

/-- A field of a register: the register's internal address, its lowest bit and its width. -/
structure Fld where
  addr : Nat
  lo : Nat
  w : Nat
  deriving DecidableEq, Repr

/-- Bits [lo+w-1:lo] of a number. -/
def bits (v lo w : Nat) : Nat := v / 2 ^ lo % 2 ^ w

/-- A number with bits [lo+w-1:lo] replaced. -/
def setBits (v lo w x : Nat) : Nat :=
  v / 2 ^ (lo + w) * 2 ^ (lo + w) + x % 2 ^ w * 2 ^ lo + v % 2 ^ lo

/-- Bit i of a number. -/
def bit (v i : Nat) : Bool := v / 2 ^ i % 2 == 1

/-- 1 for true. -/
def b2n (b : Bool) : Nat := if b then 1 else 0

/-- A number with bit i set or cleared. -/
def setBit (v i : Nat) (b : Bool) : Nat := setBits v i 1 (b2n b)

/-- The signed reading of a w-bit two's complement number. -/
def signed (v w : Nat) : Int :=
  let u := v % 2 ^ w
  if u < 2 ^ (w - 1) then (u : Int) else (u : Int) - (2 ^ w : Nat)

/-- The w-bit two's complement pattern of an integer. -/
def unsigned (i : Int) (w : Nat) : Nat := (i % (2 ^ w : Nat)).toNat

/-- An integer held between two bounds. -/
def clampI (lo hi i : Int) : Int := if i < lo then lo else if hi < i then hi else i

/-- A number saturated at 2^w − 1. -/
def satN (w v : Nat) : Nat := min v (2 ^ w - 1)

/-- Division rounded to nearest, halves up. -/
def roundDiv (a b : Nat) : Nat := (2 * a + b) / (2 * b)

/-- Division rounded up. -/
def ceilDiv (a b : Nat) : Nat := (a + b - 1) / b

/-- The k low bytes of a number, little-endian. -/
def leBytes : Nat → Nat → List Byte
  | 0, _ => []
  | k + 1, v => BitVec.ofNat 8 v :: leBytes k (v / 256)

/-- The number that a little-endian byte list spells. -/
def leNat : List Byte → Nat
  | [] => 0
  | b :: bs => b.toNat + 256 * leNat bs

/-- Byte i of a list, 0 beyond its end. -/
def byteAt (bs : List Byte) (i : Nat) : Nat := (bs.getD i 0).toNat
/-- Little-endian 16-bit field at byte i. -/
def le16 (bs : List Byte) (i : Nat) : Nat := byteAt bs i + 256 * byteAt bs (i + 1)
/-- Little-endian 24-bit field at byte i. -/
def le24 (bs : List Byte) (i : Nat) : Nat := le16 bs i + 65536 * byteAt bs (i + 2)
/-- Little-endian 32-bit field at byte i. -/
def le32 (bs : List Byte) (i : Nat) : Nat := le16 bs i + 65536 * le16 bs (i + 2)
/-- Big-endian field of k bytes at byte i. -/
def beAt (bs : List Byte) (i : Nat) : Nat → Nat
  | 0 => 0
  | k + 1 => beAt bs i k * 256 + byteAt bs (i + k)
/-- Sub-list of k bytes at i. -/
def slice (bs : List Byte) (i k : Nat) : List Byte := (bs.drop i).take k

/-- One bit of a most-significant-bit-first CRC of width w. -/
def crcMsbBit (w poly crc : Nat) : Nat :=
  if bit crc (w - 1) then ((2 * crc) % 2 ^ w) ^^^ poly else (2 * crc) % 2 ^ w

/-- Apply a function k times. -/
def iter {α : Type} (f : α → α) : Nat → α → α
  | 0, a => a
  | k + 1, a => iter f k (f a)

/-- Most-significant-bit-first CRC over bytes, width w ≥ 8. -/
def crcMsb (w poly init : Nat) (bs : List Byte) : Nat :=
  bs.foldl (fun c b => iter (crcMsbBit w poly) 8 (c ^^^ (b.toNat * 2 ^ (w - 8)))) init

/-- One bit of a reflected (least-significant-bit-first) CRC. -/
def crcLsbBit (poly crc : Nat) : Nat := if crc % 2 == 1 then (crc / 2) ^^^ poly else crc / 2

/-- Reflected CRC over bytes. -/
def crcLsb (poly init : Nat) (bs : List Byte) : Nat :=
  bs.foldl (fun c b => iter (crcLsbBit poly) 8 (c ^^^ b.toNat)) init

/-- CRC-32 of IEEE 802.3: reflected polynomial 0xEDB88320, initial value and final exclusive-or all ones. -/
def crc32 (bs : List Byte) : Nat := crcLsb 0xEDB88320 0xFFFFFFFF bs ^^^ 0xFFFFFFFF

/-- Per-channel data: one value for each of LEC0–LEC3. -/
structure Four (α : Type) where
  a0 : α
  a1 : α
  a2 : α
  a3 : α
  deriving DecidableEq, Repr

/-- The value of channel n. -/
def Four.get {α : Type} (f : Four α) (n : Fin 4) : α :=
  if n = 0 then f.a0 else if n = 1 then f.a1 else if n = 2 then f.a2 else f.a3

/-- Replace the value of channel n. -/
def Four.set {α : Type} (f : Four α) (n : Fin 4) (v : α) : Four α :=
  if n = 0 then { f with a0 := v } else if n = 1 then { f with a1 := v }
  else if n = 2 then { f with a2 := v } else { f with a3 := v }

/-- The same value for every channel. -/
def Four.all {α : Type} (v : α) : Four α := ⟨v, v, v, v⟩

/-- Data of two like units: DRAM channels, CSI-2 receivers, CAN controllers. -/
structure Two (α : Type) where
  a0 : α
  a1 : α
  deriving DecidableEq, Repr

/-- The value of unit i. -/
def Two.get {α : Type} (f : Two α) (i : Fin 2) : α := if i = 0 then f.a0 else f.a1
/-- Replace the value of unit i. -/
def Two.set {α : Type} (f : Two α) (i : Fin 2) (v : α) : Two α :=
  if i = 0 then { f with a0 := v } else { f with a1 := v }
/-- The same value for both units. -/
def Two.all {α : Type} (v : α) : Two α := ⟨v, v⟩

/-- The four channels in ascending order. -/
def chans : List (Fin 4) := [0, 1, 2, 3]
/-- Channel index of a number, modulo 4. -/
def chan (k : Nat) : Fin 4 := ⟨k % 4, Nat.mod_lt k (by decide)⟩
/-- Unit index of a number, modulo 2. -/
def duo (k : Nat) : Fin 2 := ⟨k % 2, Nat.mod_lt k (by decide)⟩

/-- The element at index i of a list replaced. -/
def setAt {α : Type} (l : List α) (i : Nat) (v : α) : List α := l.set i v

end Sys2Proof.Machine
end

