-- ==== Sys2Proof/Machine/Crypto.lean ====
section
/-! DEFINITION. The algorithms that image authentication names (R75, R76): SHA-256 and ECDSA over P-256 of FIPS 180-4 and
FIPS 186-4, which the manual refers to and does not repeat (PRESUMED, log entry 109). -/

namespace Sys2Proof.Machine

/-! ### SHA-256 -/

/-- Rotation of a 32-bit word to the right. -/
def rotr (x k : Nat) : Nat := (x / 2 ^ k + x * 2 ^ (32 - k)) % 2 ^ 32

/-- The round constants. -/
def shaK : List Nat := [
  0x428a2f98, 0x71374491, 0xb5c0fbcf, 0xe9b5dba5, 0x3956c25b, 0x59f111f1, 0x923f82a4, 0xab1c5ed5,
  0xd807aa98, 0x12835b01, 0x243185be, 0x550c7dc3, 0x72be5d74, 0x80deb1fe, 0x9bdc06a7, 0xc19bf174,
  0xe49b69c1, 0xefbe4786, 0x0fc19dc6, 0x240ca1cc, 0x2de92c6f, 0x4a7484aa, 0x5cb0a9dc, 0x76f988da,
  0x983e5152, 0xa831c66d, 0xb00327c8, 0xbf597fc7, 0xc6e00bf3, 0xd5a79147, 0x06ca6351, 0x14292967] ++ [
  0x27b70a85, 0x2e1b2138, 0x4d2c6dfc, 0x53380d13, 0x650a7354, 0x766a0abb, 0x81c2c92e, 0x92722c85,
  0xa2bfe8a1, 0xa81a664b, 0xc24b8b70, 0xc76c51a3, 0xd192e819, 0xd6990624, 0xf40e3585, 0x106aa070,
  0x19a4c116, 0x1e376c08, 0x2748774c, 0x34b0bcb5, 0x391c0cb3, 0x4ed8aa4a, 0x5b9cca4f, 0x682e6ff3,
  0x748f82ee, 0x78a5636f, 0x84c87814, 0x8cc70208, 0x90befffa, 0xa4506ceb, 0xbef9a3f7, 0xc67178f2]

/-- The initial hash value. -/
def shaInit : List Nat :=
  [0x6a09e667, 0xbb67ae85, 0x3c6ef372, 0xa54ff53a, 0x510e527f, 0x9b05688c, 0x1f83d9ab, 0x5be0cd19]

/-- One more word of the message schedule, newest first. -/
def shaExpand (w : List Nat) : List Nat :=
  let a := w.getD 14 0
  let b := w.getD 1 0
  let s0 := rotr a 7 ^^^ rotr a 18 ^^^ (a / 8)
  let s1 := rotr b 17 ^^^ rotr b 19 ^^^ (b / 1024)
  (w.getD 15 0 + s0 + w.getD 6 0 + s1) % 2 ^ 32 :: w

/-- One round over the working variables a to h, with the schedule word and constant added. -/
def shaRound (v : List Nat) (kw : Nat) : List Nat :=
  match v with
  | [a, b, c, d, e, f, g, h] =>
    let t1 := h + (rotr e 6 ^^^ rotr e 11 ^^^ rotr e 25) + ((e &&& f) ^^^ ((2 ^ 32 - 1 - e) &&& g)) + kw
    let t2 := (rotr a 2 ^^^ rotr a 13 ^^^ rotr a 22) + ((a &&& b) ^^^ (a &&& c) ^^^ (b &&& c))
    [(t1 + t2) % 2 ^ 32, a, b, c, (d + t1) % 2 ^ 32, e, f, g]
  | _ => v

/-- One block of 16 words. -/
def shaBlock (h : List Nat) (block : List Nat) : List Nat :=
  let w := (iter shaExpand 48 block.reverse).reverse
  let v := (List.zipWith (· + ·) w shaK).foldl shaRound h
  List.zipWith (fun x y => (x + y) % 2 ^ 32) h v

/-- A padded message, 64 bytes at a time, n blocks. -/
def shaBlocks : Nat → List Nat → List Byte → List Nat
  | 0, h, _ => h
  | n + 1, h, m => shaBlocks n (shaBlock h ((List.range 16).map fun i => beAt m (4 * i) 4)) (m.drop 64)

/-- The hash of a byte string, as a 256-bit number whose most significant byte comes first. -/
def sha256 (m : List Byte) : Nat :=
  let k := m.length
  let pad := (119 - k % 64) % 64
  let len := (leBytes 8 (8 * k)).reverse
  let padded := m ++ [0x80] ++ List.replicate pad 0 ++ len
  (shaBlocks (padded.length / 64) shaInit padded).foldl (fun acc w => acc * 2 ^ 32 + w) 0

/-! ### P-256 -/

def ecP : Nat := 0xffffffff00000001000000000000000000000000ffffffffffffffffffffffff
def ecN : Nat := 0xffffffff00000000ffffffffffffffffbce6faada7179e84f3b9cac2fc632551
def ecB : Nat := 0x5ac635d8aa3a93e7b3ebbd55769886bc651d06b0cc53b0f63bce3c3e27d2604b
def ecG : Nat × Nat × Nat :=
  (0x6b17d1f2e12c4247f8bce6e563a440f277037d812deb33a0f4a13945d898c296,
   0x4fe342e2fe1a7f9b8ee7eb4a7c0f9e162bce33576b315ececbb6406837bf51f5, 1)

/-- Power modulo m, over the bits of an exponent from the most significant. -/
def powMod (m x : Nat) (e : List Bool) : Nat := e.foldl (fun a b => if b then a * a % m * x % m else a * a % m) 1
/-- The 256 bits of a number, most significant first. -/
def bits256 (v : Nat) : List Bool := (List.range 256).reverse.map fun i => bit v i
/-- Inverse modulo a prime. -/
def invMod (m x : Nat) : Nat := powMod m (x % m) (bits256 (m - 2))

/-- Twice a point in Jacobian coordinates (x = X / Z², y = Y / Z³; Z = 0 is the point at infinity). -/
def ecDouble (q : Nat × Nat × Nat) : Nat × Nat × Nat :=
  let (x, y, z) := q
  let yy := y * y % ecP
  let s := 4 * x * yy % ecP
  let zz := z * z % ecP
  let m := 3 * (x + zz) * (x + ecP - zz) % ecP
  let x3 := (m * m + 2 * (ecP - s)) % ecP
  (x3, (m * (s + ecP - x3) + 8 * (ecP - yy * yy % ecP)) % ecP, 2 * y * z % ecP)

/-- The sum of two points. -/
def ecAdd (a b : Nat × Nat × Nat) : Nat × Nat × Nat :=
  let (x1, y1, z1) := a
  let (x2, y2, z2) := b
  if z1 = 0 then b else if z2 = 0 then a
  else
    let w1 := z1 * z1 % ecP
    let w2 := z2 * z2 % ecP
    let u1 := x1 * w2 % ecP
    let u2 := x2 * w1 % ecP
    let s1 := y1 * w2 % ecP * z2 % ecP
    let s2 := y2 * w1 % ecP * z1 % ecP
    if u1 = u2 then (if s1 = s2 then ecDouble a else (1, 1, 0))
    else
      let h := (u2 + ecP - u1) % ecP
      let r := (s2 + ecP - s1) % ecP
      let hh := h * h % ecP
      let hhh := hh * h % ecP
      let v := u1 * hh % ecP
      let x3 := (r * r + (ecP - hhh) + 2 * (ecP - v)) % ecP
      (x3, (r * (v + ecP - x3) + (ecP - s1) * hhh) % ecP, z1 * z2 % ecP * h % ecP)

/-- u·G + v·Q, both multiples at once. -/
def ecMul2 (u v : Nat) (q : Nat × Nat × Nat) : Nat × Nat × Nat :=
  let both := ecAdd ecG q
  (List.zip (bits256 u) (bits256 v)).foldl (fun acc b =>
    let acc := ecDouble acc
    match b with
    | (true, true) => ecAdd acc both
    | (true, false) => ecAdd acc ecG
    | (false, true) => ecAdd acc q
    | (false, false) => acc) (1, 1, 0)

/-- Is (x, y) a point of the curve? -/
def ecOn (x y : Nat) : Bool :=
  decide (x < ecP ∧ y < ecP) && y * y % ecP == (x * x % ecP * x + (ecP - 3) * x + ecB) % ecP

/-- ECDSA verification of the signature (r, s) of a hash under the public key (x, y). -/
def ecdsaOk (hash r s x y : Nat) : Bool :=
  if !decide (0 < r ∧ r < ecN ∧ 0 < s ∧ s < ecN) || !ecOn x y then false
  else
    let w := invMod ecN s
    let q := ecMul2 (hash % ecN * w % ecN) (r * w % ecN) (x, y, 1)
    if q.2.2 = 0 then false
    else
      let z := invMod ecP q.2.2
      q.1 * (z * z % ecP) % ecP % ecN == r

end Sys2Proof.Machine
end

