-- ==== Sys2Proof/Config.lean ====
section
/-! DEFINITION. What an implementation fixes and the manual does not state: opaque constants without a body, so that a
claim holds whatever they are.  The free-value counter `State.free` or the operands they depend on are their arguments
(log entry 6). -/

namespace Sys2Proof.Config

/-- The 10-bit sub-tick of the 25 MHz reference at the k-th time it is sampled (R48, R392). -/
opaque subTick : Nat → BitVec 10
/-- Where in DRAM firmware places the asset area, in 4 KB, before `areaPage` confines it (R130). -/
opaque areaPage : BitVec 24
/-- DRAM address [35:12] at which firmware places an asset of the given identifier and upload number (R130). -/
opaque assetPage : Nat → Nat → BitVec 24
/-- DRAM address [35:12] at which firmware places frame buffer i (0, 1), monitor buffer i (2, 3) of a channel (R194, R204). -/
opaque framePage : Nat → Nat → BitVec 24
/-- DRAM address [35:12] at which firmware places the ring of an entry of a CSI-2 receiver (16 times the receiver,
plus the virtual channel), for each count of allocations (R151). -/
opaque ringPage : Nat → Nat → BitVec 24
/-- A direct-window or inbox byte whose value the manual leaves open at its k-th occurrence (R84). -/
opaque openByte : Nat → BitVec 8
/-- A word whose value the manual leaves open at its k-th occurrence: the LT of the next field start of a stopped raster. -/
opaque openWord : Nat → BitVec 32
/-- The equalisation a negotiation or retrain adapts, as the words of LNK_EQ_F0, LNK_EQ_F1 and LNK_EQ_B (R281). -/
opaque adaptEq : Nat → Nat → BitVec 32
/-- The grant number firmware picks for the k-th grant (R105). -/
opaque grantNumber : Nat → BitVec 32
/-- A buffer level at the k-th look (R353): source lines that layer i mod 4 of channel i / 4 holds ahead (i below 16), blocks
of read-ahead of channel i − 16 (16 to 19), per cent of the composition write buffer in use (20). -/
opaque level : Nat → Nat → Nat
/-- Which of the requests that may go next a DRAM channel takes at its k-th choice (R355). -/
opaque slotPick : Nat → Nat
/-- What a trained PHY value comes out as: picoseconds, or a VrefDQ code (R371). -/
opaque trained : Nat → BitVec 10
/-- The tap size of the delay lines in picoseconds, less one, when it is measured for the k-th time (R333). -/
opaque tapPs : Nat → BitVec 6
/-- The words of DMC_TIM0–DMC_TIM2 that the stored configuration holds for a speed code, CL and CWL apart (R351). -/
opaque dmcTiming : Nat → Nat → BitVec 31
/-- A word of a loop template whose value the manual leaves to firmware, as the low 31 bits of a Q4.27 word (R324, R325). -/
opaque templateWord : Nat → BitVec 31
/-- Rows between an underrun row and the first row for which the resumed data of a covered layer arrives (R171). -/
opaque resumeRows : Nat → Nat
/-- Whether the reported DRAM demand in MB/s counts the part of a megabyte per second left over, of an exact demand (R131,
R173). -/
opaque demandRound : Nat → BitVec 1

end Sys2Proof.Config
end

