-- ==== Sys2Proof/Machine/RegMap.lean ====
section
/-! DEFINITION. The register maps of every block (R9, R12, R15, R16 and the register tables of the block chapters): one
`RegSpec` for each row, with its offset, its array dimensions and its fields' access and reset values.  A register whose
reset value no table states resets to 0 here (log entry 1). -/

namespace Sys2Proof.Machine

/-- Register attributes of R9; `clr` is a W1C bit CLR that clears the counts of its register. -/
inductive Acc | rw | ro | w1c | clr | wo | rws | rwl | rwx
  deriving DecidableEq, Repr

/-- One field of a field table: bits [hi:lo], access and reset value. -/
structure FieldSpec where
  hi : Nat
  lo : Nat
  acc : Acc
  reset : Nat
  deriving DecidableEq, Repr

/-- One row of a register map: name, offset of its first word, array dimensions (count, stride), fields. -/
structure RegSpec where
  name : String
  off : Nat
  dims : List (Nat × Nat)
  fields : List FieldSpec
  deriving DecidableEq, Repr

/-- Register map of one Light-Engine Channel window, part 0. -/
def lecRegs0 : List RegSpec := [
  ⟨"LEC_CTRL", 0x3f000, [], [⟨0, 0, .rw, 0⟩]⟩,
  ⟨"LEC_STATUS", 0x3f004, [], [⟨0, 0, .ro, 0⟩, ⟨1, 1, .ro, 0⟩, ⟨2, 2, .ro, 0⟩, ⟨3, 3, .ro, 0⟩]⟩,
  ⟨"LEC_COMMIT", 0x3f008, [], [⟨0, 0, .wo, 0⟩]⟩,
  ⟨"LEC_COMMIT_STATUS", 0x3f00c, [], [⟨0, 0, .ro, 0⟩, ⟨1, 1, .ro, 0⟩, ⟨2, 2, .w1c, 0⟩, ⟨31, 8, .ro, 0⟩]⟩,
  ⟨"LEC_COMMIT_CFG", 0x3f010, [], [⟨3, 0, .rwl, 1⟩]⟩,
  ⟨"LEC_FRAME_COUNT", 0x3f014, [], [⟨31, 0, .ro, 0⟩]⟩,
  ⟨"LEC_LINE", 0x3f018, [], [⟨15, 0, .ro, 0⟩]⟩,
  ⟨"LEC_TRANSFER_LINE", 0x3f01c, [], [⟨15, 0, .ro, 0⟩]⟩,
  ⟨"LEC_SNAP_FRAME", 0x3f020, [], [⟨31, 0, .ro, 0⟩]⟩,
  ⟨"LEC_SNAP_LINE", 0x3f024, [], [⟨15, 0, .ro, 0⟩]⟩,
  ⟨"LEC_ERR", 0x3f1f0, [], [⟨15, 0, .ro, 0⟩, ⟨16, 16, .ro, 0⟩, ⟨17, 17, .ro, 0⟩, ⟨31, 31, .w1c, 0⟩]⟩,
  ⟨"LEC_ERR_CNT", 0x3f1f4, [], [⟨15, 0, .ro, 0⟩]⟩,
  ⟨"FETCH_CTRL", 0, [], [⟨0, 0, .rws, 1⟩]⟩,
  ⟨"FETCH_STATUS", 4, [], [⟨3, 0, .ro, 0⟩, ⟨7, 4, .ro, 0⟩, ⟨11, 8, .ro, 0⟩, ⟨15, 12, .ro, 0⟩, ⟨16, 16, .ro, 1⟩]⟩,
  ⟨"FETCH_PANIC", 8, [], [⟨4, 0, .rwl, 4⟩, ⟨12, 8, .rwl, 8⟩]⟩,
  ⟨"FETCH_UNDERRUN_CNT", 0xc, [], [⟨15, 0, .ro, 0⟩, ⟨31, 31, .clr, 0⟩]⟩,
  ⟨"FETCH_Lx_CFG", 0x100, [(4, 0x40)], [⟨0, 0, .rws, 0⟩, ⟨1, 1, .rws, 0⟩, ⟨3, 2, .rws, 0⟩, ⟨6, 4, .rws, 0⟩, ⟨11, 8, .rws, 0⟩, ⟨23, 16, .rws, 1⟩]⟩,
  ⟨"FETCH_Lx_BASE0", 0x104, [(4, 0x40)], [⟨28, 0, .rws, 0⟩]⟩,
  ⟨"FETCH_Lx_BASE1", 0x108, [(4, 0x40)], [⟨28, 0, .rws, 0⟩]⟩,
  ⟨"FETCH_Lx_STRIDE", 0x10c, [(4, 0x40)], [⟨15, 0, .rws, 0x40⟩]⟩,
  ⟨"FETCH_Lx_SRC_SIZE", 0x110, [(4, 0x40)], [⟨13, 0, .rws, 0⟩, ⟨28, 16, .rws, 0⟩]⟩,
  ⟨"FETCH_Lx_CROP_POS", 0x114, [(4, 0x40)], [⟨12, 0, .rws, 0⟩, ⟨27, 16, .rws, 0⟩]⟩,
  ⟨"FETCH_Lx_CROP_SIZE", 0x118, [(4, 0x40)], [⟨13, 0, .rws, 0⟩, ⟨28, 16, .rws, 0⟩]⟩,
  ⟨"FETCH_Lx_LIVE", 0x11c, [(4, 0x40)], [⟨28, 0, .ro, 0⟩]⟩,
  ⟨"FETCH_Lx_STAT", 0x120, [(4, 0x40)], [⟨7, 0, .ro, 0⟩, ⟨11, 8, .ro, 0⟩, ⟨12, 12, .ro, 0⟩, ⟨13, 13, .ro, 0⟩, ⟨14, 14, .ro, 0⟩, ⟨15, 15, .ro, 0⟩]⟩]

/-- Register map of one Light-Engine Channel window, part 1. -/
def lecRegs1 : List RegSpec := [
  ⟨"FETCH_Lx_CNT", 0x124, [(4, 0x40)], [⟨15, 0, .ro, 0⟩, ⟨30, 16, .ro, 0⟩, ⟨31, 31, .clr, 0⟩]⟩,
  ⟨"FETCH_ERR", 0x1f0, [], [⟨15, 0, .ro, 0⟩, ⟨16, 16, .ro, 0⟩, ⟨17, 17, .ro, 0⟩, ⟨31, 31, .w1c, 0⟩]⟩,
  ⟨"FETCH_ERR_CNT", 0x1f4, [], [⟨15, 0, .ro, 0⟩]⟩,
  ⟨"SCL_CTRL", 0x2000, [], [⟨1, 0, .rws, 0⟩, ⟨2, 2, .rws, 0⟩, ⟨5, 4, .rws, 0⟩, ⟨6, 6, .rws, 0⟩, ⟨7, 7, .rws, 0⟩, ⟨8, 8, .rws, 0⟩]⟩,
  ⟨"SCL_STATUS", 0x2004, [], [⟨0, 0, .ro, 0⟩]⟩,
  ⟨"SCL_Sk_HSTEP", 0x2010, [(2, 0x10)], [⟨19, 0, .rws, 0x10000⟩]⟩,
  ⟨"SCL_Sk_VSTEP", 0x2014, [(2, 0x10)], [⟨19, 0, .rws, 0x10000⟩]⟩,
  ⟨"SCL_Sk_HPHASE", 0x2018, [(2, 0x10)], [⟨20, 0, .rws, 0⟩]⟩,
  ⟨"SCL_Sk_VPHASE", 0x201c, [(2, 0x10)], [⟨20, 0, .rws, 0⟩]⟩,
  ⟨"SCL_ERR", 0x21f0, [], [⟨15, 0, .ro, 0⟩, ⟨16, 16, .ro, 0⟩, ⟨17, 17, .ro, 0⟩, ⟨31, 31, .w1c, 0⟩]⟩,
  ⟨"SCL_ERR_CNT", 0x21f4, [], [⟨15, 0, .ro, 0⟩]⟩,
  ⟨"SCL_COEF", 0x2400, [(1280, 4)], [⟨31, 0, .rw, 0⟩]⟩,
  ⟨"CMP_CTRL", 0x4000, [], [⟨0, 0, .rws, 0⟩, ⟨1, 1, .rws, 1⟩]⟩,
  ⟨"CMP_STATUS", 0x4004, [], [⟨0, 0, .ro, 0⟩, ⟨1, 1, .ro, 0⟩, ⟨2, 2, .ro, 0⟩, ⟨14, 8, .ro, 0⟩]⟩,
  ⟨"CMP_BG01", 0x4008, [], [⟨15, 0, .rws, 0⟩, ⟨31, 16, .rws, 0⟩]⟩,
  ⟨"CMP_BG2", 0x400c, [], [⟨15, 0, .rws, 0⟩]⟩,
  ⟨"CMP_GAIN", 0x4010, [], [⟨15, 0, .rws, 0xffff⟩]⟩,
  ⟨"CMP_LUT_ADDR", 0x4014, [], [⟨11, 0, .rw, 0⟩, ⟨12, 12, .rw, 0⟩]⟩,
  ⟨"CMP_LUT_DATA", 0x4018, [], [⟨15, 0, .rw, 0⟩]⟩,
  ⟨"CMP_OMATi", 0x4020, [], [⟨17, 0, .rws, 0x1000⟩]⟩,
  ⟨"CMP_OMATi", 0x4024, [], [⟨17, 0, .rws, 0⟩]⟩,
  ⟨"CMP_OMATi", 0x4028, [], [⟨17, 0, .rws, 0⟩]⟩,
  ⟨"CMP_OMATi", 0x402c, [], [⟨17, 0, .rws, 0⟩]⟩,
  ⟨"CMP_OMATi", 0x4030, [], [⟨17, 0, .rws, 0⟩]⟩,
  ⟨"CMP_OMATi", 0x4034, [], [⟨17, 0, .rws, 0x1000⟩]⟩]

/-- Register map of one Light-Engine Channel window, part 2. -/
def lecRegs2 : List RegSpec := [
  ⟨"CMP_OMATi", 0x4038, [], [⟨17, 0, .rws, 0⟩]⟩,
  ⟨"CMP_OMATi", 0x403c, [], [⟨17, 0, .rws, 0⟩]⟩,
  ⟨"CMP_OMATi", 0x4040, [], [⟨17, 0, .rws, 0⟩]⟩,
  ⟨"CMP_OMATi", 0x4044, [], [⟨17, 0, .rws, 0⟩]⟩,
  ⟨"CMP_OMATi", 0x4048, [], [⟨17, 0, .rws, 0x1000⟩]⟩,
  ⟨"CMP_OMATi", 0x404c, [], [⟨17, 0, .rws, 0⟩]⟩,
  ⟨"CMP_ERR", 0x41f0, [], [⟨15, 0, .ro, 0⟩, ⟨16, 16, .ro, 0⟩, ⟨17, 17, .ro, 0⟩, ⟨31, 31, .w1c, 0⟩]⟩,
  ⟨"CMP_ERR_CNT", 0x41f4, [], [⟨15, 0, .ro, 0⟩]⟩,
  ⟨"CMP_Lx_CFG", 0x4200, [], [⟨1, 0, .rws, 0⟩, ⟨15, 8, .rws, 0xff⟩]⟩,
  ⟨"CMP_Lx_CFG", 0x4280, [], [⟨1, 0, .rws, 1⟩, ⟨15, 8, .rws, 0xff⟩]⟩,
  ⟨"CMP_Lx_CFG", 0x4300, [], [⟨1, 0, .rws, 2⟩, ⟨15, 8, .rws, 0xff⟩]⟩,
  ⟨"CMP_Lx_CFG", 0x4380, [], [⟨1, 0, .rws, 3⟩, ⟨15, 8, .rws, 0xff⟩]⟩,
  ⟨"CMP_Lx_DST_POS", 0x4204, [(4, 0x80)], [⟨12, 0, .rws, 0⟩, ⟨26, 16, .rws, 0⟩]⟩,
  ⟨"CMP_Lx_DST_SIZE", 0x4208, [(4, 0x80)], [⟨12, 0, .rws, 0⟩, ⟨26, 16, .rws, 0⟩]⟩,
  ⟨"CMP_Lx_MATi", 0x4240, [(4, 0x80)], [⟨17, 0, .rws, 0x1000⟩]⟩,
  ⟨"CMP_Lx_MATi", 0x4244, [(4, 0x80)], [⟨17, 0, .rws, 0⟩]⟩,
  ⟨"CMP_Lx_MATi", 0x4248, [(4, 0x80)], [⟨17, 0, .rws, 0⟩]⟩,
  ⟨"CMP_Lx_MATi", 0x424c, [(4, 0x80)], [⟨17, 0, .rws, 0⟩]⟩,
  ⟨"CMP_Lx_MATi", 0x4250, [(4, 0x80)], [⟨17, 0, .rws, 0⟩]⟩,
  ⟨"CMP_Lx_MATi", 0x4254, [(4, 0x80)], [⟨17, 0, .rws, 0x1000⟩]⟩,
  ⟨"CMP_Lx_MATi", 0x4258, [(4, 0x80)], [⟨17, 0, .rws, 0⟩]⟩,
  ⟨"CMP_Lx_MATi", 0x425c, [(4, 0x80)], [⟨17, 0, .rws, 0⟩]⟩,
  ⟨"CMP_Lx_MATi", 0x4260, [(4, 0x80)], [⟨17, 0, .rws, 0⟩]⟩,
  ⟨"CMP_Lx_MATi", 0x4264, [(4, 0x80)], [⟨17, 0, .rws, 0⟩]⟩,
  ⟨"CMP_Lx_MATi", 0x4268, [(4, 0x80)], [⟨17, 0, .rws, 0x1000⟩]⟩]

/-- Register map of one Light-Engine Channel window, part 3. -/
def lecRegs3 : List RegSpec := [
  ⟨"CMP_Lx_MATi", 0x426c, [(4, 0x80)], [⟨17, 0, .rws, 0⟩]⟩,
  ⟨"CMP_SMs", 0x4800, [(64, 0x10), (4, 4)], [⟨31, 0, .ro, 0⟩]⟩,
  ⟨"WRP_CTRL", 0x6000, [], [⟨0, 0, .rws, 0⟩, ⟨1, 1, .rws, 0⟩, ⟨2, 2, .rws, 0⟩, ⟨3, 3, .rws, 0⟩, ⟨4, 4, .rws, 0⟩]⟩,
  ⟨"WRP_STATUS", 0x6004, [], [⟨0, 0, .ro, 0⟩, ⟨1, 1, .ro, 0⟩]⟩,
  ⟨"WRP_OFF_LIM", 0x6008, [], [⟨15, 0, .rws, 0⟩, ⟨31, 16, .rws, 0⟩]⟩,
  ⟨"WRP_AIM", 0x600c, [], [⟨15, 0, .rws, 0⟩]⟩,
  ⟨"WRP_OFF_NOW", 0x6010, [], [⟨15, 0, .ro, 0⟩, ⟨16, 16, .ro, 0⟩]⟩,
  ⟨"WRP_AFF_A", 0x6020, [], [⟨31, 0, .rws, 0⟩]⟩,
  ⟨"WRP_AFF_B", 0x6024, [], [⟨31, 0, .rws, 0⟩]⟩,
  ⟨"WRP_AFF_C", 0x6028, [], [⟨31, 0, .rws, 0⟩]⟩,
  ⟨"WRP_AFF_D", 0x602c, [], [⟨31, 0, .rws, 0⟩]⟩,
  ⟨"WRP_AFF_TX", 0x6030, [], [⟨31, 0, .rws, 0⟩]⟩,
  ⟨"WRP_AFF_TY", 0x6034, [], [⟨31, 0, .rws, 0⟩]⟩,
  ⟨"WRP_MESH_ADDR", 0x6040, [], [⟨10, 0, .rw, 0⟩, ⟨12, 12, .rw, 0⟩]⟩,
  ⟨"WRP_MESH_DATA", 0x6044, [], [⟨31, 0, .rw, 0⟩]⟩,
  ⟨"WRP_TRAJ_CFG", 0x6050, [], [⟨10, 0, .rws, 0⟩, ⟨27, 16, .rws, 0⟩]⟩,
  ⟨"WRP_TRAJ_BASE", 0x6054, [], [⟨23, 0, .rws, 0⟩]⟩,
  ⟨"WRP_ERR", 0x61f0, [], [⟨15, 0, .ro, 0⟩, ⟨16, 16, .ro, 0⟩, ⟨17, 17, .ro, 0⟩, ⟨31, 31, .w1c, 0⟩]⟩,
  ⟨"WRP_ERR_CNT", 0x61f4, [], [⟨15, 0, .ro, 0⟩]⟩,
  ⟨"WBK_CTRL", 0x8000, [], [⟨0, 0, .rws, 0⟩]⟩,
  ⟨"WBK_STATUS", 0x8004, [], [⟨0, 0, .ro, 0⟩]⟩,
  ⟨"WBK_BASEk", 0x8008, [(2, 4)], [⟨23, 0, .rws, 0⟩]⟩,
  ⟨"WBK_Rr_POS", 0x8040, [(16, 8)], [⟨11, 0, .rws, 0⟩, ⟨26, 16, .rws, 0⟩]⟩,
  ⟨"WBK_Rr_SIZE", 0x8044, [(16, 8)], [⟨12, 0, .rws, 0⟩, ⟨26, 16, .rws, 0⟩]⟩,
  ⟨"WBK_SIG_FRAME", 0x8100, [], [⟨31, 0, .ro, 0⟩]⟩]

/-- Register map of one Light-Engine Channel window, part 4. -/
def lecRegs4 : List RegSpec := [
  ⟨"WBK_SIGr", 0x8104, [(16, 4)], [⟨31, 0, .ro, 0⟩]⟩,
  ⟨"WBK_ERR", 0x81f0, [], [⟨15, 0, .ro, 0⟩, ⟨16, 16, .ro, 0⟩, ⟨17, 17, .ro, 0⟩, ⟨31, 31, .w1c, 0⟩]⟩,
  ⟨"WBK_ERR_CNT", 0x81f4, [], [⟨15, 0, .ro, 0⟩]⟩,
  ⟨"BPF_CTRL", 0xa000, [], [⟨0, 0, .rws, 0⟩, ⟨1, 1, .rws, 1⟩, ⟨2, 2, .rws, 0⟩, ⟨3, 3, .rws, 0⟩]⟩,
  ⟨"BPF_STATUS", 0xa004, [], [⟨1, 0, .ro, 0⟩, ⟨13, 8, .ro, 0⟩, ⟨18, 16, .ro, 0⟩]⟩,
  ⟨"BPF_FBk", 0xa008, [(2, 4)], [⟨23, 0, .rws, 0⟩]⟩,
  ⟨"BPF_BLK_CFG", 0xa010, [], [⟨5, 0, .rws, 0x20⟩, ⟨15, 8, .rws, 0⟩, ⟨31, 16, .rws, 0⟩]⟩,
  ⟨"BPF_BLK_TIME", 0xa014, [], [⟨15, 0, .rws, 0⟩, ⟨23, 16, .rws, 2⟩]⟩,
  ⟨"BPF_LEAD", 0xa018, [], [⟨23, 0, .ro, 0⟩]⟩,
  ⟨"BPF_FIELD_T", 0xa01c, [], [⟨23, 0, .ro, 0⟩]⟩,
  ⟨"BPF_TT_CTRL", 0xa020, [], [⟨0, 0, .rws, 0⟩, ⟨14, 8, .rws, 0x10⟩, ⟨22, 16, .rws, 0x10⟩, ⟨30, 24, .rws, 0x10⟩]⟩,
  ⟨"BPF_SRCSEL", 0xa024, [], [⟨0, 0, .rwl, 0⟩]⟩,
  ⟨"BPF_TRIM_STATUS", 0xa030, [], [⟨15, 0, .ro, 0⟩, ⟨30, 16, .ro, 0⟩, ⟨31, 31, .clr, 0⟩]⟩,
  ⟨"BPF_SCAN_CFG", 0xa040, [], [⟨23, 0, .rws, 0⟩]⟩,
  ⟨"BPF_LATE_CNT", 0xa060, [], [⟨15, 0, .ro, 0⟩, ⟨30, 16, .ro, 0⟩, ⟨31, 31, .clr, 0⟩]⟩,
  ⟨"BPF_ERR", 0xa1f0, [], [⟨15, 0, .ro, 0⟩, ⟨16, 16, .ro, 0⟩, ⟨17, 17, .ro, 0⟩, ⟨31, 31, .w1c, 0⟩]⟩,
  ⟨"BPF_ERR_CNT", 0xa1f4, [], [⟨15, 0, .ro, 0⟩]⟩,
  ⟨"BPF_TRIM", 0xa200, [(96, 4)], [⟨31, 0, .ro, 0⟩]⟩,
  ⟨"BPF_TT", 0xa400, [(768, 4)], [⟨31, 0, .rw, 0⟩]⟩,
  ⟨"MSK_CTRL", 0xc000, [], [⟨0, 0, .rwx, 1⟩, ⟨1, 1, .rwx, 1⟩]⟩,
  ⟨"MSK_STATUS", 0xc004, [], [⟨6, 0, .ro, 0⟩, ⟨8, 8, .ro, 0⟩, ⟨9, 9, .ro, 0⟩, ⟨10, 10, .ro, 0⟩]⟩,
  ⟨"MSK_CNT", 0xc008, [], [⟨11, 0, .ro, 0⟩, ⟨23, 12, .ro, 0⟩, ⟨30, 24, .ro, 0⟩, ⟨31, 31, .clr, 0⟩]⟩,
  ⟨"MSK_LAST", 0xc00c, [], [⟨5, 0, .ro, 0⟩, ⟨15, 8, .ro, 0⟩, ⟨18, 16, .ro, 0⟩]⟩,
  ⟨"MSK_ACK_TIME", 0xc010, [], [⟨15, 0, .ro, 0⟩, ⟨31, 16, .ro, 0⟩]⟩,
  ⟨"MSK_INJ", 0xc020, [(4, 4)], [⟨31, 0, .rw, 0⟩]⟩]

/-- Register map of one Light-Engine Channel window, part 5. -/
def lecRegs5 : List RegSpec := [
  ⟨"MSK_INJ_GO", 0xc030, [], [⟨0, 0, .wo, 0⟩]⟩,
  ⟨"MSK_ERR", 0xc1f0, [], [⟨15, 0, .ro, 0⟩, ⟨16, 16, .ro, 0⟩, ⟨17, 17, .ro, 0⟩, ⟨31, 31, .w1c, 0⟩]⟩,
  ⟨"MSK_ERR_CNT", 0xc1f4, [], [⟨15, 0, .ro, 0⟩]⟩,
  ⟨"MSK_HMs", 0xc800, [(64, 0x20), (4, 4)], [⟨31, 0, .ro, 0⟩]⟩,
  ⟨"MSK_HSs", 0xc810, [(64, 0x20)], [⟨7, 0, .ro, 0⟩, ⟨15, 8, .ro, 0⟩, ⟨16, 16, .ro, 0⟩]⟩,
  ⟨"MSK_HRs", 0xc814, [(64, 0x20)], [⟨16, 0, .ro, 0⟩]⟩,
  ⟨"SRC_CTRL", 0xe000, [], [⟨3, 0, .rws, 0⟩, ⟨7, 4, .rws, 0⟩]⟩,
  ⟨"SRC_STATUS", 0xe004, [], [⟨3, 0, .ro, 0⟩, ⟨4, 4, .ro, 0⟩, ⟨5, 5, .ro, 0⟩, ⟨6, 6, .ro, 0⟩, ⟨7, 7, .ro, 0⟩, ⟨8, 8, .w1c, 0⟩, ⟨9, 9, .ro, 0⟩, ⟨10, 10, .ro, 0⟩, ⟨11, 11, .ro, 0⟩, ⟨28, 16, .ro, 0x1000⟩]⟩,
  ⟨"SRC_DERATE_CFG", 0xe008, [], [⟨7, 0, .rws, 0x5f⟩, ⟨14, 8, .rws, 0x14⟩, ⟨22, 16, .rws, 0x28⟩, ⟨25, 24, .rws, 0⟩, ⟨31, 31, .rws, 0⟩]⟩,
  ⟨"SRC_DERATE_TEMP", 0xe00c, [], [⟨15, 0, .ro, 0⟩, ⟨31, 16, .ro, 0⟩]⟩,
  ⟨"SRC_TGEN", 0xe010, [], [⟨3, 0, .ro, 0⟩, ⟨7, 4, .ro, 0⟩]⟩,
  ⟨"SRC_SPs", 0xe020, [(4, 4)], [⟨15, 0, .rws, 0⟩]⟩,
  ⟨"SRC_SPLIMs", 0xe030, [(4, 4)], [⟨15, 0, .rws, 0⟩, ⟨31, 16, .rws, 0⟩]⟩,
  ⟨"SRC_SPNOWs", 0xe040, [(4, 4)], [⟨15, 0, .ro, 0⟩, ⟨31, 16, .ro, 0⟩]⟩,
  ⟨"SRC_AMPs_l", 0xe100, [(4, 0x20)], [⟨16, 0, .rws, 0x200⟩]⟩,
  ⟨"SRC_AMPs_l", 0xe104, [(4, 0x20)], [⟨16, 0, .rws, 0x400⟩]⟩,
  ⟨"SRC_AMPs_l", 0xe108, [(4, 0x20)], [⟨16, 0, .rws, 0x800⟩]⟩,
  ⟨"SRC_AMPs_l", 0xe10c, [(4, 0x20)], [⟨16, 0, .rws, 0x1000⟩]⟩,
  ⟨"SRC_AMPs_l", 0xe110, [(4, 0x20)], [⟨16, 0, .rws, 0x2000⟩]⟩,
  ⟨"SRC_AMPs_l", 0xe114, [(4, 0x20)], [⟨16, 0, .rws, 0x4000⟩]⟩,
  ⟨"SRC_AMPs_l", 0xe118, [(4, 0x20)], [⟨16, 0, .rws, 0x8000⟩]⟩,
  ⟨"SRC_AMPs_l", 0xe11c, [(4, 0x20)], [⟨16, 0, .rws, 0x10000⟩]⟩,
  ⟨"SRC_ERR", 0xe1f0, [], [⟨15, 0, .ro, 0⟩, ⟨16, 16, .ro, 0⟩, ⟨17, 17, .ro, 0⟩, ⟨31, 31, .w1c, 0⟩]⟩,
  ⟨"SRC_ERR_CNT", 0xe1f4, [], [⟨15, 0, .ro, 0⟩]⟩,
  ⟨"LNK_CTRL", 0x10000, [], [⟨0, 0, .rw, 0⟩, ⟨1, 1, .rwx, 1⟩, ⟨2, 2, .rw, 0⟩]⟩]

/-- Register map of one Light-Engine Channel window, part 6. -/
def lecRegs6 : List RegSpec := [
  ⟨"LNK_STATUS", 0x10004, [], [⟨2, 0, .ro, 0⟩, ⟨3, 3, .ro, 0⟩, ⟨4, 4, .ro, 0⟩, ⟨5, 5, .ro, 0⟩, ⟨10, 8, .ro, 0⟩, ⟨23, 16, .ro, 0⟩, ⟨31, 24, .ro, 0⟩]⟩,
  ⟨"LNK_MODE", 0x10008, [], [⟨1, 0, .ro, 0⟩, ⟨6, 4, .ro, 0⟩, ⟨8, 8, .ro, 0⟩]⟩,
  ⟨"LNK_BEST", 0x1000c, [], [⟨1, 0, .ro, 0⟩, ⟨6, 4, .ro, 0⟩, ⟨8, 8, .ro, 0⟩, ⟨22, 16, .ro, 0⟩, ⟨30, 24, .ro, 0⟩]⟩,
  ⟨"LNK_LIMIT", 0x10010, [], [⟨1, 0, .rw, 0⟩, ⟨6, 4, .rw, 0⟩, ⟨8, 8, .rw, 0⟩]⟩,
  ⟨"LNK_EQ_THR", 0x10014, [], [⟨5, 0, .rwx, 0x18⟩, ⟨31, 16, .rwx, 0⟩]⟩,
  ⟨"LNK_TIMING", 0x10018, [], [⟨15, 0, .ro, 0⟩, ⟨31, 16, .ro, 0⟩]⟩,
  ⟨"LNK_LT", 0x1001c, [], [⟨31, 0, .ro, 0⟩]⟩,
  ⟨"LNK_DELAY", 0x10020, [], [⟨15, 0, .ro, 0⟩, ⟨31, 16, .ro, 0⟩]⟩,
  ⟨"LNK_CNT0", 0x10030, [], [⟨15, 0, .ro, 0⟩, ⟨30, 16, .ro, 0⟩, ⟨31, 31, .clr, 0⟩]⟩,
  ⟨"LNK_CNT1", 0x10034, [], [⟨15, 0, .ro, 0⟩, ⟨30, 16, .ro, 0⟩, ⟨31, 31, .clr, 0⟩]⟩,
  ⟨"LNK_CNT2", 0x10038, [], [⟨15, 0, .ro, 0⟩, ⟨30, 16, .ro, 0⟩, ⟨31, 31, .clr, 0⟩]⟩,
  ⟨"LNK_NODE_STAT", 0x10040, [], [⟨31, 0, .ro, 0⟩]⟩,
  ⟨"LNK_EQ_F0", 0x10050, [], [⟨7, 0, .rwx, 0⟩, ⟨15, 8, .rwx, 0⟩, ⟨23, 16, .rwx, 0x3f⟩]⟩,
  ⟨"LNK_EQ_F1", 0x10054, [], [⟨7, 0, .rwx, 0⟩, ⟨15, 8, .rwx, 0⟩, ⟨23, 16, .rwx, 0x3f⟩]⟩,
  ⟨"LNK_EQ_B", 0x10058, [], [⟨3, 0, .rwx, 0⟩]⟩,
  ⟨"LNK_CAP", 0x10100, [(48, 4)], [⟨31, 0, .ro, 0⟩]⟩,
  ⟨"LNK_ERR", 0x101f0, [], [⟨15, 0, .ro, 0⟩, ⟨16, 16, .ro, 0⟩, ⟨17, 17, .ro, 0⟩, ⟨31, 31, .w1c, 0⟩]⟩,
  ⟨"LNK_ERR_CNT", 0x101f4, [], [⟨15, 0, .ro, 0⟩]⟩,
  ⟨"CHN_CTRL", 0x14000, [], [⟨0, 0, .rw, 0⟩, ⟨2, 1, .rwx, 0⟩, ⟨3, 3, .rw, 0⟩, ⟨4, 4, .rw, 0⟩]⟩,
  ⟨"CHN_STATUS", 0x14004, [], [⟨1, 0, .ro, 0⟩, ⟨2, 2, .ro, 0⟩, ⟨3, 3, .ro, 0⟩, ⟨4, 4, .ro, 0⟩, ⟨5, 5, .ro, 0⟩, ⟨6, 6, .ro, 0⟩, ⟨29, 16, .ro, 0⟩]⟩,
  ⟨"CHN_MODE", 0x14008, [], [⟨6, 0, .ro, 0⟩, ⟨11, 8, .ro, 0⟩, ⟨13, 12, .ro, 0⟩, ⟨24, 16, .ro, 0⟩]⟩,
  ⟨"CHN_CFG", 0x1400c, [], [⟨6, 0, .rws, 0x7f⟩, ⟨9, 8, .rws, 0⟩]⟩,
  ⟨"CHN_ASSET", 0x14010, [], [⟨23, 0, .rws, 0⟩]⟩,
  ⟨"CHN_ANIM", 0x14014, [], [⟨15, 0, .rws, 0⟩, ⟨16, 16, .rws, 0⟩]⟩,
  ⟨"CHN_AUDIT", 0x14018, [], [⟨10, 0, .rws, 0⟩]⟩]

/-- Register map of one Light-Engine Channel window, part 7. -/
def lecRegs7 : List RegSpec := [
  ⟨"CHN_GARM", 0x1401c, [], [⟨31, 0, .rws, 0⟩]⟩,
  ⟨"CHN_GPROBE", 0x14020, [], [⟨31, 0, .rws, 0⟩]⟩,
  ⟨"CHN_MEM_ADDR", 0x14024, [], [⟨13, 0, .rw, 0⟩, ⟨14, 14, .rw, 0⟩]⟩,
  ⟨"CHN_MEM_DATA", 0x14028, [], [⟨15, 0, .rw, 0⟩]⟩,
  ⟨"CHN_SEQ", 0x1402c, [], [⟨7, 0, .ro, 0⟩]⟩,
  ⟨"CHN_SNAP", 0x14030, [], [⟨7, 0, .ro, 0⟩, ⟨31, 8, .ro, 0⟩]⟩,
  ⟨"CHN_RC", 0x14034, [], [⟨1, 0, .ro, 0⟩, ⟨15, 8, .ro, 0⟩, ⟨31, 16, .ro, 0⟩]⟩,
  ⟨"CHN_CNT0", 0x14038, [], [⟨15, 0, .ro, 0⟩, ⟨30, 16, .ro, 0⟩, ⟨31, 31, .clr, 0⟩]⟩,
  ⟨"CHN_CNT1", 0x1403c, [], [⟨15, 0, .ro, 0⟩, ⟨30, 16, .ro, 0⟩, ⟨31, 31, .clr, 0⟩]⟩,
  ⟨"CHN_LAST_RET", 0x14040, [], [⟨7, 0, .ro, 0⟩, ⟨9, 8, .ro, 0⟩, ⟨23, 16, .ro, 0⟩]⟩,
  ⟨"CHN_ERR", 0x141f0, [], [⟨15, 0, .ro, 0⟩, ⟨16, 16, .ro, 0⟩, ⟨17, 17, .ro, 0⟩, ⟨31, 31, .w1c, 0⟩]⟩,
  ⟨"CHN_ERR_CNT", 0x141f4, [], [⟨15, 0, .ro, 0⟩]⟩,
  ⟨"CHN_RNGr_A", 0x14200, [(64, 8)], [⟨12, 0, .rws, 0⟩, ⟨29, 16, .rws, 0⟩]⟩,
  ⟨"CHN_RNGr_B", 0x14204, [(64, 8)], [⟨4, 0, .rws, 0⟩, ⟨31, 31, .rws, 0⟩]⟩,
  ⟨"CHN_GTGTg", 0x14400, [(32, 4)], [⟨15, 0, .rwl, 0xffff⟩, ⟨23, 16, .rwl, 0⟩]⟩,
  ⟨"CHN_GLVLg", 0x14480, [(32, 4)], [⟨15, 0, .ro, 0xffff⟩, ⟨24, 24, .ro, 0⟩]⟩,
  ⟨"CHN_DRVd", 0x14500, [(64, 4)], [⟨29, 0, .ro, 0⟩]⟩,
  ⟨"CHN_DSTATd", 0x14600, [(64, 4)], [⟨15, 0, .ro, 0⟩]⟩,
  ⟨"TUT_STATUS", 0x18000, [], [⟨3, 0, .ro, 0⟩, ⟨7, 4, .ro, 0⟩, ⟨11, 8, .ro, 0⟩]⟩,
  ⟨"TUT_SAT", 0x18004, [], [⟨3, 0, .w1c, 0⟩, ⟨7, 4, .w1c, 0⟩, ⟨11, 8, .w1c, 0⟩, ⟨15, 12, .w1c, 0⟩]⟩,
  ⟨"TUT_LAMP_T", 0x18008, [], [⟨15, 0, .ro, 0⟩]⟩,
  ⟨"TUT_TRC_CFG", 0x18010, [], [⟨1, 0, .rw, 0⟩, ⟨3, 2, .rw, 0⟩, ⟨4, 4, .rw, 0⟩, ⟨15, 8, .rw, 1⟩, ⟨29, 16, .rw, 0x2000⟩]⟩,
  ⟨"TUT_TRC_NODES", 0x18014, [], [⟨31, 0, .rw, 0⟩]⟩,
  ⟨"TUT_TRC_EVT", 0x18018, [], [⟨15, 0, .rw, 0⟩]⟩,
  ⟨"TUT_TRC_STATUS", 0x1801c, [], [⟨1, 0, .ro, 0⟩, ⟨2, 2, .ro, 0⟩, ⟨29, 16, .ro, 0⟩]⟩]

/-- Register map of one Light-Engine Channel window, part 8. -/
def lecRegs8 : List RegSpec := [
  ⟨"TUT_TRC_INJ", 0x18020, [], [⟨15, 0, .ro, 0xFFFF⟩]⟩,
  ⟨"TUT_INJ_CFG", 0x18030, [], [⟨1, 0, .rw, 0⟩, ⟨4, 2, .rw, 0⟩, ⟨5, 5, .rw, 0⟩, ⟨6, 6, .rw, 0⟩, ⟨15, 8, .rw, 0⟩, ⟨26, 16, .rw, 0⟩]⟩,
  ⟨"TUT_INJ_AMP", 0x18034, [], [⟨31, 0, .rw, 0⟩]⟩,
  ⟨"TUT_INJ_P1", 0x18038, [], [⟨31, 0, .rw, 0⟩]⟩,
  ⟨"TUT_INJ_P2", 0x1803c, [], [⟨31, 0, .rw, 0⟩]⟩,
  ⟨"TUT_INJ_DUR", 0x18040, [], [⟨31, 0, .rw, 0⟩]⟩,
  ⟨"TUT_INJ_STATUS", 0x18044, [], [⟨1, 0, .ro, 0⟩, ⟨31, 16, .ro, 0⟩]⟩,
  ⟨"TUT_ERR", 0x181f0, [], [⟨15, 0, .ro, 0⟩, ⟨16, 16, .ro, 0⟩, ⟨17, 17, .ro, 0⟩, ⟨31, 31, .w1c, 0⟩]⟩,
  ⟨"TUT_ERR_CNT", 0x181f4, [], [⟨15, 0, .ro, 0⟩]⟩,
  ⟨"TUT_CTXc_CTRL", 0x18400, [(4, 0x100)], [⟨0, 0, .rw, 0⟩, ⟨1, 1, .rwx, 0⟩, ⟨3, 2, .rwx, 0⟩, ⟨7, 4, .rwx, 0⟩, ⟨15, 8, .rwx, 0⟩, ⟨19, 16, .rwx, 0⟩, ⟨22, 20, .rwx, 0⟩, ⟨23, 23, .ro, 0⟩, ⟨25, 24, .rwx, 0⟩]⟩,
  ⟨"TUT_CTXc_PERIOD", 0x18404, [(4, 0x100)], [⟨19, 0, .rwx, 0x927c0⟩, ⟨29, 20, .rwx, 8⟩]⟩,
  ⟨"TUT_CTXc_PHASE", 0x18408, [(4, 0x100)], [⟨19, 0, .rwx, 0⟩]⟩,
  ⟨"TUT_CTXc_STATUS", 0x1840c, [(4, 0x100)], [⟨0, 0, .ro, 0⟩, ⟨1, 1, .ro, 0⟩, ⟨9, 2, .ro, 0⟩, ⟨31, 16, .ro, 0⟩]⟩,
  ⟨"TUT_CTXc_REFi", 0x18410, [(4, 0x100), (4, 4)], [⟨31, 0, .rwl, 0⟩]⟩,
  ⟨"TUT_CTXc_ZSELi", 0x18420, [(4, 0x100), (8, 4)], [⟨2, 0, .rwx, 0⟩, ⟨7, 4, .rwx, 0⟩, ⟨8, 8, .rwx, 0⟩, ⟨11, 9, .rwx, 0⟩, ⟨15, 12, .rwx, 0⟩]⟩,
  ⟨"TUT_CTXc_ZSCALEi", 0x18440, [(4, 0x100), (8, 4)], [⟨31, 0, .rwx, 0⟩]⟩,
  ⟨"TUT_CTXc_ZOFFi", 0x18460, [(4, 0x100), (8, 4)], [⟨31, 0, .rwx, 0⟩]⟩,
  ⟨"TUT_CTXc_EBOUNDi", 0x18480, [(4, 0x100), (8, 4)], [⟨31, 0, .rwx, 0⟩]⟩,
  ⟨"TUT_CTXc_ROUTEj", 0x184a0, [(4, 0x100), (4, 4)], [⟨3, 0, .rwx, 0⟩, ⟨6, 4, .rwx, 0⟩, ⟨11, 8, .rwx, 0⟩, ⟨14, 12, .rwx, 0⟩, ⟨18, 16, .rwx, 0⟩, ⟨28, 24, .rwx, 0⟩]⟩,
  ⟨"TUT_CTXc_TAPt", 0x184b0, [(4, 0x100), (8, 4)], [⟨3, 0, .rwx, 0⟩, ⟨6, 4, .rwx, 0⟩, ⟨11, 8, .rwx, 0⟩, ⟨14, 12, .rwx, 0⟩, ⟨18, 16, .rwx, 0⟩, ⟨28, 24, .rwx, 0⟩]⟩,
  ⟨"TUT_CTXc_ZFWi", 0x184d0, [(4, 0x100), (8, 4)], [⟨15, 0, .rwl, 0⟩]⟩,
  ⟨"TUT_CTXc_MAT", 0x1a000, [(4, 0x1000), (768, 4)], [⟨31, 0, .rwx, 0⟩]⟩,
  ⟨"TUT_CTXc_Xi_LO", 0x1e000, [(4, 0x100), (16, 8)], [⟨31, 0, .ro, 0⟩]⟩,
  ⟨"TUT_CTXc_Xi_HI", 0x1e004, [(4, 0x100), (16, 8)], [⟨7, 0, .ro, 0⟩]⟩,
  ⟨"TUT_CTXc_Uj", 0x1e080, [(4, 0x100), (4, 4)], [⟨31, 0, .ro, 0⟩]⟩]

/-- Register map of one Light-Engine Channel window, part 9. -/
def lecRegs9 : List RegSpec := [
  ⟨"TUT_INJ_TABLEe", 0x1f000, [(1024, 4)], [⟨31, 0, .rw, 0⟩]⟩,
  ⟨"TUT_TRC_WORDw", 0x20000, [(8192, 4)], [⟨31, 0, .ro, 0⟩]⟩]

/-- The whole register map of one Light-Engine Channel window. -/
def lecRegs : List RegSpec :=
  lecRegs0 ++ lecRegs1 ++ lecRegs2 ++ lecRegs3 ++ lecRegs4 ++ lecRegs5 ++ lecRegs6 ++ lecRegs7 ++ lecRegs8 ++ lecRegs9

/-- Register map of SYS. -/
def sysRegs : List RegSpec := [
  ⟨"SYS_ID", 0, [], [⟨31, 0, .ro, 0x9480c201⟩]⟩,
  ⟨"SYS_FEATURES", 4, [], [⟨2, 0, .ro, 4⟩, ⟨5, 4, .ro, 2⟩, ⟨7, 6, .ro, 2⟩, ⟨10, 8, .ro, 4⟩, ⟨12, 12, .ro, 1⟩, ⟨13, 13, .ro, 1⟩, ⟨14, 14, .ro, 1⟩, ⟨17, 16, .ro, 3⟩]⟩,
  ⟨"SYS_MODE", 0x10, [], [⟨3, 0, .ro, 2⟩, ⟨5, 4, .ro, 0⟩, ⟨6, 6, .ro, 0⟩, ⟨11, 8, .ro, 0⟩, ⟨15, 12, .ro, 4⟩]⟩,
  ⟨"SYS_MODE_CTRL", 0x14, [], [⟨3, 0, .rw, 0⟩, ⟨5, 4, .rw, 0⟩, ⟨8, 8, .rw, 0⟩]⟩,
  ⟨"SYS_BELL", 0x40, [], [⟨3, 0, .wo, 0⟩, ⟨4, 4, .wo, 0⟩, ⟨5, 5, .wo, 0⟩, ⟨8, 8, .wo, 0⟩, ⟨9, 9, .wo, 0⟩]⟩,
  ⟨"SYS_BELL_STATUS", 0x44, [], [⟨0, 0, .ro, 0⟩, ⟨1, 1, .w1c, 0⟩]⟩,
  ⟨"SYS_BELL_TS_LO", 0x48, [], [⟨31, 0, .ro, 0⟩]⟩,
  ⟨"SYS_BELL_TS_HI", 0x4c, [], [⟨23, 0, .ro, 0⟩, ⟨24, 24, .ro, 0⟩]⟩,
  ⟨"SYS_FLOCK", 0x50, [], [⟨3, 0, .rw, 0⟩, ⟨5, 4, .rw, 0⟩, ⟨9, 8, .rw, 0⟩, ⟨12, 12, .rw, 0⟩]⟩,
  ⟨"SYS_FLOCK_STATUS", 0x54, [], [⟨3, 0, .ro, 0⟩, ⟨4, 4, .ro, 0⟩, ⟨15, 8, .ro, 0⟩]⟩,
  ⟨"SYS_CLKENk", 0x100, [(7, 4)], [⟨31, 0, .rw, 0⟩]⟩,
  ⟨"SYS_CLKEN7", 0x11c, [], [⟨25, 0, .rw, 0⟩, ⟨31, 26, .ro, 0x3f⟩]⟩,
  ⟨"SYS_CLKGOODk", 0x120, [(7, 4)], [⟨31, 0, .ro, 0⟩]⟩,
  ⟨"SYS_CLKGOOD7", 0x13c, [], [⟨25, 0, .ro, 0⟩, ⟨31, 26, .ro, 0x3f⟩]⟩,
  ⟨"SYS_PLL_STATUS", 0x140, [], [⟨8, 0, .ro, 0⟩, ⟨24, 16, .ro, 0⟩]⟩,
  ⟨"SYS_ERR", 0x1f0, [], [⟨15, 0, .ro, 0⟩, ⟨16, 16, .ro, 0⟩, ⟨17, 17, .ro, 0⟩, ⟨31, 31, .w1c, 0⟩]⟩,
  ⟨"SYS_ERR_CNT", 0x1f4, [], [⟨15, 0, .ro, 0⟩]⟩]

/-- Register map of AON. -/
def aonRegs : List RegSpec := [
  ⟨"AON_TB_LO", 0, [], [⟨31, 0, .ro, 0⟩]⟩,
  ⟨"AON_TB_HI", 4, [], [⟨23, 0, .ro, 0⟩, ⟨24, 24, .ro, 0⟩]⟩,
  ⟨"AON_CLK_STATUS", 8, [], [⟨0, 0, .ro, 0⟩]⟩,
  ⟨"AON_WAKE_CFG", 0x10, [], [⟨0, 0, .rw, 1⟩, ⟨1, 1, .rw, 0⟩, ⟨2, 2, .rw, 0⟩, ⟨3, 3, .rw, 0⟩, ⟨4, 4, .rw, 0⟩, ⟨5, 5, .rw, 0⟩, ⟨6, 6, .rw, 1⟩, ⟨7, 7, .rw, 0⟩, ⟨11, 8, .rw, 4⟩, ⟨13, 12, .rw, 1⟩]⟩,
  ⟨"AON_WAKE_STATUS", 0x14, [], [⟨0, 0, .w1c, 0⟩, ⟨1, 1, .w1c, 0⟩, ⟨2, 2, .w1c, 0⟩, ⟨3, 3, .w1c, 0⟩, ⟨4, 4, .w1c, 0⟩, ⟨5, 5, .w1c, 0⟩, ⟨6, 6, .w1c, 0⟩]⟩,
  ⟨"AON_WAKE_TIMER_LO", 0x18, [], [⟨31, 0, .rw, 0⟩]⟩,
  ⟨"AON_WAKE_TIMER_HI", 0x1c, [], [⟨13, 0, .rw, 0⟩]⟩,
  ⟨"AON_STBY_CFG", 0x20, [], [⟨0, 0, .rw, 0⟩, ⟨7, 4, .rw, 0xa⟩]⟩,
  ⟨"AON_STBY_STATUS", 0x24, [], [⟨0, 0, .ro, 0⟩, ⟨1, 1, .w1c, 0⟩, ⟨31, 16, .ro, 0⟩]⟩,
  ⟨"AON_ERR", 0x1f0, [], [⟨15, 0, .ro, 0⟩, ⟨16, 16, .ro, 0⟩, ⟨17, 17, .ro, 0⟩, ⟨31, 31, .w1c, 0⟩]⟩,
  ⟨"AON_ERR_CNT", 0x1f4, [], [⟨15, 0, .ro, 0⟩]⟩]

/-- Register map of RST. -/
def rstRegs : List RegSpec := [
  ⟨"RST_CAUSE", 0, [], [⟨0, 0, .w1c, 1⟩, ⟨1, 1, .w1c, 0⟩, ⟨2, 2, .w1c, 0⟩, ⟨3, 3, .w1c, 0⟩, ⟨4, 4, .w1c, 0⟩, ⟨5, 5, .w1c, 0⟩, ⟨6, 6, .w1c, 0⟩, ⟨15, 8, .ro, 0⟩]⟩,
  ⟨"RST_STATUS", 4, [], [⟨2, 0, .ro, 0⟩, ⟨3, 3, .ro, 0⟩, ⟨15, 8, .ro, 0⟩]⟩,
  ⟨"RST_DEVICE", 8, [], [⟨15, 0, .wo, 0⟩, ⟨16, 16, .wo, 0⟩]⟩,
  ⟨"RST_BLK_CTRLk", 0x10, [(4, 4)], [⟨11, 0, .rw, 0⟩, ⟨12, 12, .rw, 0⟩, ⟨16, 16, .rw, 0⟩]⟩,
  ⟨"RST_BLK_CTRL4", 0x20, [], [⟨8, 0, .rw, 0⟩]⟩,
  ⟨"RST_WDT_CFG", 0x30, [], [⟨9, 0, .rw, 0x64⟩, ⟨31, 31, .rw, 0⟩]⟩,
  ⟨"RST_WDT_KICK", 0x34, [], [⟨31, 0, .wo, 0⟩]⟩,
  ⟨"RST_OPT", 0x40, [], [⟨1, 0, .ro, 0⟩, ⟨2, 2, .ro, 0⟩, ⟨4, 3, .ro, 0⟩, ⟨8, 5, .ro, 0⟩, ⟨23, 16, .ro, 0⟩, ⟨31, 31, .ro, 0⟩]⟩,
  ⟨"RST_OPT_BANKV", 0x44, [], [⟨15, 0, .ro, 0⟩, ⟨23, 16, .ro, 0⟩]⟩,
  ⟨"RST_ERR", 0x1f0, [], [⟨15, 0, .ro, 0⟩, ⟨16, 16, .ro, 0⟩, ⟨17, 17, .ro, 0⟩, ⟨31, 31, .w1c, 0⟩]⟩,
  ⟨"RST_ERR_CNT", 0x1f4, [], [⟨15, 0, .ro, 0⟩]⟩]

/-- Register map of MBX. -/
def mbxRegs : List RegSpec := [
  ⟨"MBX_HID", 0, [], [⟨31, 0, .ro, 0x9480c201⟩]⟩,
  ⟨"MBX_HSTAT", 4, [], [⟨0, 0, .ro, 0⟩, ⟨1, 1, .ro, 0⟩, ⟨2, 2, .ro, 0⟩, ⟨3, 3, .w1c, 0⟩, ⟨4, 4, .w1c, 0⟩, ⟨14, 8, .ro, 0⟩, ⟨21, 16, .ro, 0⟩, ⟨31, 24, .ro, 0⟩]⟩,
  ⟨"MBX_HCFG", 8, [], [⟨0, 0, .ro, 0⟩, ⟨1, 1, .ro, 0⟩, ⟨2, 2, .ro, 0⟩, ⟨3, 3, .ro, 0⟩, ⟨24, 16, .ro, 0x1f8⟩]⟩,
  ⟨"MBX_DOORBELL", 0x10, [], [⟨5, 0, .wo, 0⟩]⟩,
  ⟨"MBX_OUTBOX_ACK", 0x14, [], [⟨6, 0, .wo, 0⟩]⟩,
  ⟨"MBX_IRQ_STATUS", 0x20, [], [⟨5, 0, .ro, 0⟩, ⟨6, 6, .ro, 0⟩, ⟨7, 7, .w1c, 0⟩]⟩,
  ⟨"MBX_IRQ_EN", 0x24, [], [⟨7, 0, .rw, 0xc0⟩]⟩,
  ⟨"MBX_WINDOW_BASE", 0x30, [], [⟨11, 0, .rw, 0x40⟩]⟩,
  ⟨"MBX_WINDOW_CFG", 0x34, [], [⟨0, 0, .rw, 0⟩, ⟨14, 8, .rw, 0x20⟩]⟩,
  ⟨"MBX_GRANT_STATUS", 0x38, [], [⟨3, 0, .ro, 0⟩, ⟨25, 16, .ro, 0⟩]⟩,
  ⟨"MBX_FL_ACCEPT", 0x40, [], [⟨31, 0, .ro, 0⟩]⟩,
  ⟨"MBX_FL_DROP", 0x44, [], [⟨31, 0, .ro, 0⟩]⟩,
  ⟨"MBX_FL_LAST", 0x48, [], [⟨2, 0, .ro, 0⟩, ⟨5, 4, .ro, 0⟩, ⟨13, 8, .ro, 0⟩]⟩,
  ⟨"MBX_HSPI_ERR_CNT", 0x50, [], [⟨15, 0, .ro, 0⟩]⟩,
  ⟨"MBX_CAN0_CFG", 0x60, [], [⟨1, 0, .ro, 0⟩, ⟨3, 2, .ro, 0⟩, ⟨4, 4, .ro, 0⟩]⟩,
  ⟨"MBX_CAN1_CFG", 0x64, [], [⟨1, 0, .ro, 0⟩, ⟨3, 2, .ro, 0⟩, ⟨4, 4, .ro, 0⟩]⟩,
  ⟨"MBX_ERR", 0x1f0, [], [⟨15, 0, .ro, 0⟩, ⟨16, 16, .ro, 0⟩, ⟨17, 17, .ro, 0⟩, ⟨31, 31, .w1c, 0⟩]⟩,
  ⟨"MBX_ERR_CNT", 0x1f4, [], [⟨15, 0, .ro, 0⟩]⟩]

/-- Register map of CSI. -/
def csiRegs : List RegSpec := [
  ⟨"CSI_CTRL", 0, [], [⟨0, 0, .rw, 0⟩, ⟨2, 1, .rwx, 0⟩, ⟨7, 4, .rwx, 0⟩, ⟨8, 8, .rwx, 0⟩, ⟨27, 16, .rwx, 0x50⟩]⟩,
  ⟨"CSI_STATUS", 4, [], [⟨3, 0, .ro, 0⟩, ⟨7, 4, .ro, 0⟩, ⟨8, 8, .ro, 0⟩]⟩,
  ⟨"CSI_ERR_CNT", 0x10, [], [⟨7, 0, .ro, 0⟩, ⟨15, 8, .ro, 0⟩, ⟨23, 16, .ro, 0⟩, ⟨30, 24, .ro, 0⟩, ⟨31, 31, .clr, 0⟩]⟩,
  ⟨"CSI_VCv_CFG", 0x400, [(16, 0x20)], [⟨0, 0, .rw, 0⟩, ⟨13, 8, .rwx, 0⟩, ⟨17, 16, .rwx, 0⟩, ⟨19, 18, .rwx, 0⟩, ⟨23, 20, .rwx, 0⟩]⟩,
  ⟨"CSI_VCv_SIZE", 0x404, [(16, 0x20)], [⟨13, 0, .rwx, 0⟩, ⟨28, 16, .rwx, 0⟩]⟩,
  ⟨"CSI_VCv_RING_BASE", 0x408, [(16, 0x20)], [⟨23, 0, .rwx, 0⟩]⟩,
  ⟨"CSI_VCv_RING_STRIDE", 0x40c, [(16, 0x20)], [⟨23, 0, .rwx, 0⟩]⟩,
  ⟨"CSI_VCv_PUB", 0x410, [(16, 0x20)], [⟨1, 0, .ro, 3⟩, ⟨3, 2, .ro, 3⟩, ⟨7, 4, .ro, 0⟩, ⟨8, 8, .ro, 1⟩, ⟨31, 16, .ro, 0⟩]⟩,
  ⟨"CSI_VCv_DROP", 0x414, [(16, 0x20)], [⟨14, 0, .ro, 0⟩, ⟨15, 15, .clr, 0⟩, ⟨30, 16, .ro, 0⟩]⟩,
  ⟨"CSI_ERR", 0x1f0, [], [⟨15, 0, .ro, 0⟩, ⟨16, 16, .ro, 0⟩, ⟨17, 17, .ro, 0⟩, ⟨31, 31, .w1c, 0⟩]⟩,
  ⟨"CSI_ERR_CNT2", 0x1f4, [], [⟨15, 0, .ro, 0⟩]⟩]

/-- Register map of CAL, part 0. -/
def calRegs0 : List RegSpec := [
  ⟨"CAL_CTRL", 0, [], [⟨0, 0, .rw, 1⟩]⟩,
  ⟨"CAL_CFG", 4, [], [⟨4, 0, .rw, 8⟩, ⟨15, 8, .rw, 0x14⟩]⟩,
  ⟨"CAL_STATUS", 8, [], [⟨0, 0, .ro, 0⟩, ⟨1, 1, .ro, 0⟩, ⟨2, 2, .ro, 0⟩, ⟨7, 3, .ro, 0⟩, ⟨11, 8, .ro, 0⟩, ⟨13, 12, .ro, 0⟩, ⟨14, 14, .ro, 0⟩, ⟨15, 15, .ro, 0⟩]⟩,
  ⟨"CAL_DUE", 0xc, [], [⟨13, 0, .ro, 0x3fff⟩, ⟨29, 16, .ro, 0⟩]⟩,
  ⟨"CAL_TEMPs", 0x10, [(4, 4)], [⟨15, 0, .ro, 0⟩]⟩,
  ⟨"CAL_TRIM_STATUS", 0x20, [], [⟨0, 0, .ro, 0⟩, ⟨1, 1, .ro, 0⟩, ⟨11, 8, .ro, 0⟩, ⟨31, 16, .ro, 0⟩]⟩,
  ⟨"CAL_ERR", 0x1f0, [], [⟨15, 0, .ro, 0⟩, ⟨16, 16, .ro, 0⟩, ⟨17, 17, .ro, 0⟩, ⟨31, 31, .w1c, 0⟩]⟩,
  ⟨"CAL_ERR_CNT", 0x1f4, [], [⟨15, 0, .ro, 0⟩]⟩,
  ⟨"CAL_Ii_CFG", 0x400, [], [⟨15, 0, .rw, 0x190⟩]⟩,
  ⟨"CAL_Ii_CFG", 0x420, [], [⟨15, 0, .rw, 0xc8⟩]⟩,
  ⟨"CAL_Ii_CFG", 0x440, [], [⟨15, 0, .rw, 0x7d0⟩]⟩,
  ⟨"CAL_Ii_CFG", 0x460, [], [⟨15, 0, .rw, 0x7d0⟩]⟩,
  ⟨"CAL_Ii_CFG", 0x480, [], [⟨15, 0, .rw, 0x7d0⟩]⟩,
  ⟨"CAL_Ii_CFG", 0x4a0, [], [⟨15, 0, .rw, 0x7d0⟩]⟩,
  ⟨"CAL_Ii_CFG", 0x4c0, [], [⟨15, 0, .rw, 2⟩]⟩,
  ⟨"CAL_Ii_CFG", 0x4e0, [], [⟨15, 0, .rw, 2⟩]⟩,
  ⟨"CAL_Ii_CFG", 0x500, [], [⟨15, 0, .rw, 2⟩]⟩,
  ⟨"CAL_Ii_CFG", 0x520, [], [⟨15, 0, .rw, 2⟩]⟩,
  ⟨"CAL_Ii_CFG", 0x540, [], [⟨15, 0, .rw, 0xbb8⟩]⟩,
  ⟨"CAL_Ii_CFG", 0x560, [], [⟨15, 0, .rw, 0xbb8⟩]⟩,
  ⟨"CAL_Ii_CFG", 0x580, [], [⟨15, 0, .rw, 3⟩]⟩,
  ⟨"CAL_Ii_CFG", 0x5a0, [], [⟨15, 0, .rw, 3⟩]⟩,
  ⟨"CAL_Ii_TARGET", 0x404, [], [⟨31, 0, .rw, 0x7d0⟩]⟩,
  ⟨"CAL_Ii_TARGET", 0x424, [], [⟨31, 0, .rw, 0x3e8⟩]⟩,
  ⟨"CAL_Ii_TARGET", 0x444, [], [⟨31, 0, .rw, 0x4e20⟩]⟩]

/-- Register map of CAL, part 1. -/
def calRegs1 : List RegSpec := [
  ⟨"CAL_Ii_TARGET", 0x464, [], [⟨31, 0, .rw, 0x4e20⟩]⟩,
  ⟨"CAL_Ii_TARGET", 0x484, [], [⟨31, 0, .rw, 0x4e20⟩]⟩,
  ⟨"CAL_Ii_TARGET", 0x4a4, [], [⟨31, 0, .rw, 0x4e20⟩]⟩,
  ⟨"CAL_Ii_TARGET", 0x4c4, [], [⟨31, 0, .rw, 0⟩]⟩,
  ⟨"CAL_Ii_TARGET", 0x4e4, [], [⟨31, 0, .rw, 0⟩]⟩,
  ⟨"CAL_Ii_TARGET", 0x504, [], [⟨31, 0, .rw, 0⟩]⟩,
  ⟨"CAL_Ii_TARGET", 0x524, [], [⟨31, 0, .rw, 0⟩]⟩,
  ⟨"CAL_Ii_TARGET", 0x544, [], [⟨31, 0, .rw, 0x7530⟩]⟩,
  ⟨"CAL_Ii_TARGET", 0x564, [], [⟨31, 0, .rw, 0x7530⟩]⟩,
  ⟨"CAL_Ii_TARGET", 0x584, [], [⟨31, 0, .rw, 0xa⟩]⟩,
  ⟨"CAL_Ii_TARGET", 0x5a4, [], [⟨31, 0, .rw, 0xa⟩]⟩,
  ⟨"CAL_Ii_CARD", 0x408, [(14, 0x20)], [⟨7, 0, .ro, 0xff⟩, ⟨15, 8, .ro, 0⟩, ⟨23, 16, .ro, 0⟩, ⟨31, 24, .ro, 0⟩]⟩,
  ⟨"CAL_Ii_QUAL", 0x40c, [(14, 0x20)], [⟨31, 0, .ro, 0⟩]⟩,
  ⟨"CAL_Ii_TAP", 0x410, [(14, 0x20)], [⟨31, 0, .ro, 0⟩]⟩,
  ⟨"CAL_Ii_TIME", 0x414, [(14, 0x20)], [⟨31, 0, .ro, 0⟩]⟩,
  ⟨"CAL_Ii_TAKE1", 0x418, [(14, 0x20)], [⟨31, 0, .ro, 0⟩]⟩,
  ⟨"CAL_Ii_TAKE2", 0x41c, [(14, 0x20)], [⟨31, 0, .ro, 0⟩]⟩]

/-- The whole register map of CAL. -/
def calRegs : List RegSpec :=
  calRegs0 ++ calRegs1

/-- Register map of DMC, part 0. -/
def dmcRegs0 : List RegSpec := [
  ⟨"DMC_CTRL", 0, [], [⟨0, 0, .rw, 0⟩, ⟨1, 1, .rw, 0⟩]⟩,
  ⟨"DMC_STATUS", 4, [], [⟨2, 0, .ro, 0⟩, ⟨3, 3, .ro, 0⟩, ⟨7, 4, .ro, 0⟩, ⟨8, 8, .ro, 0⟩, ⟨9, 9, .ro, 0⟩, ⟨17, 16, .ro, 0⟩]⟩,
  ⟨"DMC_CFG", 8, [], [⟨0, 0, .rwx, 0⟩, ⟨1, 1, .rwx, 0⟩, ⟨3, 2, .rwx, 1⟩, ⟨4, 4, .rwx, 1⟩, ⟨5, 5, .rwx, 1⟩, ⟨6, 6, .rwx, 1⟩, ⟨7, 7, .rwx, 1⟩, ⟨9, 8, .rwx, 3⟩]⟩,
  ⟨"DMC_TIM0", 0xc, [], [⟨5, 0, .rwx, 0x16⟩, ⟨11, 6, .rwx, 0x10⟩, ⟨17, 12, .rwx, 0x16⟩, ⟨23, 18, .rwx, 0x16⟩, ⟨30, 24, .rwx, 0x34⟩]⟩,
  ⟨"DMC_TIM1", 0x10, [], [⟨5, 0, .rwx, 0xa⟩, ⟨11, 6, .rwx, 1⟩, ⟨17, 12, .rwx, 0x22⟩, ⟨23, 18, .rwx, 4⟩, ⟨30, 24, .rwx, 8⟩]⟩,
  ⟨"DMC_TIM2", 0x14, [], [⟨5, 0, .rwx, 4⟩, ⟨11, 6, .rwx, 0xc⟩, ⟨17, 12, .rwx, 8⟩, ⟨23, 18, .rwx, 0x18⟩]⟩,
  ⟨"DMC_SCHED", 0x20, [], [⟨7, 0, .rws, 0x14⟩, ⟨15, 8, .rws, 0x32⟩, ⟨19, 16, .rws, 4⟩, ⟨30, 24, .rws, 8⟩]⟩,
  ⟨"DMC_REF", 0x24, [], [⟨1, 0, .rws, 0⟩, ⟨5, 2, .rws, 8⟩, ⟨26, 16, .rwx, 0x230⟩]⟩,
  ⟨"DMC_SR", 0x28, [], [⟨15, 0, .rws, 0x3e8⟩]⟩,
  ⟨"DMC_RDIST", 0x2c, [], [⟨0, 0, .rws, 1⟩, ⟨1, 1, .rws, 0⟩, ⟨23, 8, .rws, 0x4000⟩]⟩,
  ⟨"DMC_PORTp_CFG", 0x40, [], [⟨1, 0, .rws, 0⟩, ⟨2, 2, .rws, 1⟩, ⟨15, 8, .rws, 0x30⟩]⟩,
  ⟨"DMC_PORTp_CFG", 0x44, [], [⟨1, 0, .rws, 0⟩, ⟨2, 2, .rws, 1⟩, ⟨15, 8, .rws, 0x30⟩]⟩,
  ⟨"DMC_PORTp_CFG", 0x48, [], [⟨1, 0, .rws, 0⟩, ⟨2, 2, .rws, 1⟩, ⟨15, 8, .rws, 0x30⟩]⟩,
  ⟨"DMC_PORTp_CFG", 0x4c, [], [⟨1, 0, .rws, 0⟩, ⟨2, 2, .rws, 1⟩, ⟨15, 8, .rws, 0x30⟩]⟩,
  ⟨"DMC_PORTp_CFG", 0x50, [], [⟨1, 0, .rws, 0⟩, ⟨2, 2, .rws, 1⟩, ⟨15, 8, .rws, 0x30⟩]⟩,
  ⟨"DMC_PORTp_CFG", 0x54, [], [⟨1, 0, .rws, 0⟩, ⟨2, 2, .rws, 1⟩, ⟨15, 8, .rws, 0x30⟩]⟩,
  ⟨"DMC_PORTp_CFG", 0x58, [], [⟨1, 0, .rws, 0⟩, ⟨2, 2, .rws, 1⟩, ⟨15, 8, .rws, 0x30⟩]⟩,
  ⟨"DMC_PORTp_CFG", 0x5c, [], [⟨1, 0, .rws, 0⟩, ⟨2, 2, .rws, 1⟩, ⟨15, 8, .rws, 0x30⟩]⟩,
  ⟨"DMC_PORTp_CFG", 0x60, [], [⟨1, 0, .rws, 0⟩, ⟨2, 2, .rws, 1⟩, ⟨15, 8, .rws, 0x30⟩]⟩,
  ⟨"DMC_PORTp_CFG", 0x64, [], [⟨1, 0, .rws, 1⟩, ⟨2, 2, .rws, 0⟩, ⟨15, 8, .rws, 0x20⟩]⟩,
  ⟨"DMC_PORTp_CFG", 0x68, [], [⟨1, 0, .rws, 2⟩, ⟨2, 2, .rws, 0⟩, ⟨15, 8, .rws, 0x20⟩]⟩,
  ⟨"DMC_PORTp_CFG", 0x6c, [], [⟨1, 0, .rws, 3⟩, ⟨2, 2, .rws, 0⟩, ⟨15, 8, .rws, 0x10⟩]⟩,
  ⟨"DMC_PANIC", 0x80, [], [⟨11, 0, .ro, 0⟩]⟩,
  ⟨"DMC_ECC_CNT", 0x84, [], [⟨15, 0, .ro, 0⟩, ⟨23, 16, .ro, 0⟩, ⟨30, 24, .ro, 0⟩, ⟨31, 31, .clr, 0⟩]⟩,
  ⟨"DMC_ECC_LAST", 0x88, [], [⟨29, 0, .ro, 0⟩, ⟨30, 30, .ro, 0⟩]⟩]

/-- Register map of DMC, part 1. -/
def dmcRegs1 : List RegSpec := [
  ⟨"DMC_CA_CNT", 0x8c, [], [⟨11, 0, .ro, 0⟩, ⟨23, 12, .ro, 0⟩, ⟨30, 24, .ro, 0⟩, ⟨31, 31, .clr, 0⟩]⟩,
  ⟨"DMC_RD_CNT", 0x90, [], [⟨15, 0, .ro, 0⟩, ⟨30, 16, .ro, 0⟩, ⟨31, 31, .clr, 0⟩]⟩,
  ⟨"DMC_PM_CNT", 0x94, [], [⟨15, 0, .ro, 0⟩, ⟨23, 16, .ro, 0⟩]⟩,
  ⟨"DMC_SNAPk", 0xa0, [(4, 4)], [⟨31, 0, .ro, 0⟩]⟩,
  ⟨"DMC_BW", 0xb0, [], [⟨15, 0, .ro, 0⟩]⟩,
  ⟨"DMC_ERR", 0x1f0, [], [⟨15, 0, .ro, 0⟩, ⟨16, 16, .ro, 0⟩, ⟨17, 17, .ro, 0⟩, ⟨31, 31, .w1c, 0⟩]⟩,
  ⟨"DMC_ERR_CNT", 0x1f4, [], [⟨15, 0, .ro, 0⟩]⟩]

/-- The register map of CAN0, CAN1 and FSPI: the manual gives these blocks the error status of R16 alone. -/
def portRegs : List RegSpec := [
  ⟨"ERR", 0x1f0, [], [⟨15, 0, .ro, 0⟩, ⟨16, 16, .ro, 0⟩, ⟨17, 17, .ro, 0⟩, ⟨31, 31, .w1c, 0⟩]⟩,
  ⟨"ERR_CNT", 0x1f4, [], [⟨15, 0, .ro, 0⟩]⟩]

/-- The whole register map of DMC. -/
def dmcRegs : List RegSpec :=
  dmcRegs0 ++ dmcRegs1

/-- Register map of PHY.  The manual gives the addresses 0x81F0 and 0x81F4 twice, to PHY_CMP60 and PHY_CMP61 and to PHY_ERR
and PHY_ERR_CNT: here they are one word each, which reads and clears as PHY_ERR and PHY_ERR_CNT and whose low half a
pattern run also writes (log entry 101). -/
def phyRegs : List RegSpec := [
  ⟨"PHY_STATUS", 0x8000, [], [⟨0, 0, .ro, 0⟩, ⟨1, 1, .ro, 0⟩]⟩,
  ⟨"PHY_PAT_CFG", 0x8010, [], [⟨2, 0, .rw, 0⟩, ⟨3, 3, .rw, 0⟩, ⟨4, 4, .rw, 0⟩, ⟨31, 16, .rw, 0x400⟩]⟩,
  ⟨"PHY_PAT_GO", 0x8014, [], [⟨0, 0, .wo, 0⟩]⟩,
  ⟨"PHY_PAT_STATUS", 0x8018, [], [⟨0, 0, .ro, 0⟩, ⟨1, 1, .ro, 0⟩, ⟨31, 16, .ro, 0⟩]⟩,
  ⟨"PHY_TRAIN_CFG", 0x8020, [], [⟨7, 0, .rw, 8⟩]⟩,
  ⟨"PHY_ERR", 0x81f0, [], [⟨15, 0, .ro, 0⟩, ⟨16, 16, .ro, 0⟩, ⟨17, 17, .ro, 0⟩, ⟨31, 31, .w1c, 0⟩]⟩,
  ⟨"PHY_ERR_CNT", 0x81f4, [], [⟨15, 0, .ro, 0⟩]⟩,
  ⟨"PHY_CMPb", 0x8100, [(72, 4)], [⟨15, 0, .ro, 0⟩]⟩,
  ⟨"PHY_Rr_Ll_DLY0", 0x8400, [(2, 0x100), (9, 0x10)], [⟨9, 0, .rwx, 0⟩, ⟨25, 16, .rwx, 0⟩]⟩,
  ⟨"PHY_Rr_Ll_DLY1", 0x8404, [(2, 0x100), (9, 0x10)], [⟨9, 0, .rwx, 0⟩, ⟨25, 16, .rwx, 0⟩]⟩,
  ⟨"PHY_Rr_Ll_VREF", 0x8408, [(2, 0x100), (9, 0x10)], [⟨6, 0, .rwx, 0⟩]⟩,
  ⟨"PHY_Rr_Ll_DSK", 0x8800, [(2, 0x100), (9, 0x10), (4, 4)], [⟨31, 0, .rwx, 0⟩]⟩,
  ⟨"PHY_Ll_DRV", 0x8c00, [(9, 4)], [⟨1, 0, .rwx, 0⟩, ⟨12, 8, .rwx, 0⟩]⟩,
  ⟨"PHY_Ll_DLINE", 0x8c40, [(9, 4)], [⟨0, 0, .rwx, 0⟩]⟩]

/-- Register map of EVR. -/
def evrRegs : List RegSpec := [
  ⟨"EVR_CFG", 0, [], [⟨0, 0, .rw, 0⟩, ⟨6, 4, .rw, 4⟩, ⟨10, 8, .rw, 5⟩, ⟨23, 16, .rw, 0xa⟩]⟩,
  ⟨"EVR_STATUS", 4, [], [⟨11, 0, .ro, 0⟩, ⟨12, 12, .ro, 0⟩, ⟨13, 13, .ro, 0⟩, ⟨14, 14, .w1c, 0⟩, ⟨15, 15, .w1c, 0⟩]⟩,
  ⟨"EVR_LAST", 8, [], [⟨10, 0, .ro, 0⟩, ⟨31, 31, .ro, 0⟩]⟩,
  ⟨"EVR_DROPPED", 0xc, [], [⟨31, 0, .ro, 0⟩]⟩,
  ⟨"EVR_CLEAR", 0x10, [], [⟨0, 0, .wo, 0⟩]⟩,
  ⟨"EVR_FAULT", 0x14, [], [⟨0, 0, .w1c, 0⟩, ⟨10, 8, .ro, 0⟩, ⟨31, 16, .ro, 0⟩]⟩,
  ⟨"EVR_DRILL_CFG", 0x20, [], [⟨3, 0, .rw, 0⟩, ⟨9, 8, .rw, 0⟩, ⟨31, 16, .rw, 0⟩]⟩,
  ⟨"EVR_DRILL_GO", 0x24, [], [⟨0, 0, .wo, 0⟩]⟩,
  ⟨"EVR_DRILL_STATUS", 0x28, [], [⟨1, 0, .ro, 0⟩, ⟨31, 16, .ro, 0⟩]⟩,
  ⟨"EVR_ERR", 0x1f0, [], [⟨15, 0, .ro, 0⟩, ⟨16, 16, .ro, 0⟩, ⟨17, 17, .ro, 0⟩, ⟨31, 31, .w1c, 0⟩]⟩,
  ⟨"EVR_ERR_CNT", 0x1f4, [], [⟨15, 0, .ro, 0⟩]⟩]

/-- Register map of TST. -/
def tstRegs : List RegSpec := [
  ⟨"TST_STATUS", 0, [], [⟨0, 0, .ro, 0⟩, ⟨1, 1, .ro, 0⟩, ⟨2, 2, .w1c, 0⟩]⟩,
  ⟨"TST_BIST_CFG", 0x10, [], [⟨2, 0, .rw, 0⟩, ⟨9, 8, .rw, 0⟩, ⟨31, 31, .wo, 0⟩]⟩,
  ⟨"TST_BIST_GO", 0x14, [], [⟨0, 0, .wo, 0⟩]⟩,
  ⟨"TST_BIST_STATUS", 0x18, [], [⟨1, 0, .ro, 0⟩, ⟨2, 2, .ro, 0⟩, ⟨10, 8, .ro, 0⟩, ⟨31, 16, .ro, 0⟩]⟩,
  ⟨"TST_BIST_FAIL", 0x1c, [], [⟨19, 0, .ro, 0⟩, ⟨23, 20, .ro, 0⟩]⟩,
  ⟨"TST_ERR", 0x1f0, [], [⟨15, 0, .ro, 0⟩, ⟨16, 16, .ro, 0⟩, ⟨17, 17, .ro, 0⟩, ⟨31, 31, .w1c, 0⟩]⟩,
  ⟨"TST_ERR_CNT", 0x1f4, [], [⟨15, 0, .ro, 0⟩]⟩]

end Sys2Proof.Machine
end

