-- ==== Sys2Proof/Machine/RegNames.lean ====
section
/-! DEFINITION. The manual's register names (`R.SYS_MODE`) as internal addresses, and its field names
(`F.SYS_MODE_MODE`) as bit ranges of them.  A lower-case letter of a name is an index, as in the manual. -/

namespace Sys2Proof.Machine

def R.LEC_CTRL (n : Fin 4) : Nat := lecBase n + 0x3f000
def R.LEC_STATUS (n : Fin 4) : Nat := lecBase n + 0x3f004
def R.LEC_COMMIT (n : Fin 4) : Nat := lecBase n + 0x3f008
def R.LEC_COMMIT_STATUS (n : Fin 4) : Nat := lecBase n + 0x3f00c
def R.LEC_COMMIT_CFG (n : Fin 4) : Nat := lecBase n + 0x3f010
def R.LEC_FRAME_COUNT (n : Fin 4) : Nat := lecBase n + 0x3f014
def R.LEC_LINE (n : Fin 4) : Nat := lecBase n + 0x3f018
def R.LEC_TRANSFER_LINE (n : Fin 4) : Nat := lecBase n + 0x3f01c
def R.LEC_SNAP_FRAME (n : Fin 4) : Nat := lecBase n + 0x3f020
def R.LEC_SNAP_LINE (n : Fin 4) : Nat := lecBase n + 0x3f024
def R.LEC_ERR (n : Fin 4) : Nat := lecBase n + 0x3f1f0
def R.LEC_ERR_CNT (n : Fin 4) : Nat := lecBase n + 0x3f1f4
def R.SYS_ID : Nat := 0x40000000
def R.SYS_FEATURES : Nat := 0x40000004
def R.SYS_MODE : Nat := 0x40000010
def R.SYS_MODE_CTRL : Nat := 0x40000014
def R.SYS_BELL : Nat := 0x40000040
def R.SYS_BELL_STATUS : Nat := 0x40000044
def R.SYS_BELL_TS_LO : Nat := 0x40000048
def R.SYS_BELL_TS_HI : Nat := 0x4000004C
def R.SYS_FLOCK : Nat := 0x40000050
def R.SYS_FLOCK_STATUS : Nat := 0x40000054
def R.SYS_CLKENk (k : Nat) : Nat := 0x40000100 + 4 * k
def R.SYS_CLKEN7 : Nat := 0x4000011C
def R.SYS_CLKGOODk (k : Nat) : Nat := 0x40000120 + 4 * k
def R.SYS_CLKGOOD7 : Nat := 0x4000013C
def R.SYS_PLL_STATUS : Nat := 0x40000140
def R.SYS_ERR : Nat := 0x400001F0
def R.SYS_ERR_CNT : Nat := 0x400001F4
def R.AON_TB_LO : Nat := 0x40020000
def R.AON_TB_HI : Nat := 0x40020004
def R.AON_CLK_STATUS : Nat := 0x40020008
def R.AON_WAKE_CFG : Nat := 0x40020010
def R.AON_WAKE_STATUS : Nat := 0x40020014
def R.AON_WAKE_TIMER_LO : Nat := 0x40020018
def R.AON_WAKE_TIMER_HI : Nat := 0x4002001C
def R.AON_STBY_CFG : Nat := 0x40020020
def R.AON_STBY_STATUS : Nat := 0x40020024
def R.AON_ERR : Nat := 0x400201F0
def R.AON_ERR_CNT : Nat := 0x400201F4
def R.RST_CAUSE : Nat := 0x40010000
def R.RST_STATUS : Nat := 0x40010004
def R.RST_DEVICE : Nat := 0x40010008
def R.RST_BLK_CTRLk (k : Nat) : Nat := 0x40010010 + 4 * k
def R.RST_BLK_CTRL4 : Nat := 0x40010020
def R.RST_WDT_CFG : Nat := 0x40010030
def R.RST_WDT_KICK : Nat := 0x40010034
def R.RST_OPT : Nat := 0x40010040
def R.RST_OPT_BANKV : Nat := 0x40010044
def R.RST_ERR : Nat := 0x400101F0
def R.RST_ERR_CNT : Nat := 0x400101F4
def R.MBX_HID : Nat := 0x40060000
def R.MBX_HSTAT : Nat := 0x40060004
def R.MBX_HCFG : Nat := 0x40060008
def R.MBX_DOORBELL : Nat := 0x40060010
def R.MBX_OUTBOX_ACK : Nat := 0x40060014
def R.MBX_IRQ_STATUS : Nat := 0x40060020
def R.MBX_IRQ_EN : Nat := 0x40060024
def R.MBX_WINDOW_BASE : Nat := 0x40060030
def R.MBX_WINDOW_CFG : Nat := 0x40060034
def R.MBX_GRANT_STATUS : Nat := 0x40060038
def R.MBX_FL_ACCEPT : Nat := 0x40060040
def R.MBX_FL_DROP : Nat := 0x40060044
def R.MBX_FL_LAST : Nat := 0x40060048
def R.MBX_HSPI_ERR_CNT : Nat := 0x40060050
def R.MBX_CAN0_CFG : Nat := 0x40060060
def R.MBX_CAN1_CFG : Nat := 0x40060064
def R.MBX_ERR : Nat := 0x400601F0
def R.MBX_ERR_CNT : Nat := 0x400601F4
def R.CSI_CTRL (rx : Fin 2) : Nat := csiBase rx + 0
def R.CSI_STATUS (rx : Fin 2) : Nat := csiBase rx + 4
def R.CSI_ERR_CNT (rx : Fin 2) : Nat := csiBase rx + 0x10
def R.CSI_VCv_CFG (rx : Fin 2) (v : Nat) : Nat := csiBase rx + 0x400 + 0x20 * v
def R.CSI_VCv_SIZE (rx : Fin 2) (v : Nat) : Nat := csiBase rx + 0x404 + 0x20 * v
def R.CSI_VCv_RING_BASE (rx : Fin 2) (v : Nat) : Nat := csiBase rx + 0x408 + 0x20 * v
def R.CSI_VCv_RING_STRIDE (rx : Fin 2) (v : Nat) : Nat := csiBase rx + 0x40c + 0x20 * v
def R.CSI_VCv_PUB (rx : Fin 2) (v : Nat) : Nat := csiBase rx + 0x410 + 0x20 * v
def R.CSI_VCv_DROP (rx : Fin 2) (v : Nat) : Nat := csiBase rx + 0x414 + 0x20 * v
def R.CSI_ERR (rx : Fin 2) : Nat := csiBase rx + 0x1f0
def R.CSI_ERR_CNT2 (rx : Fin 2) : Nat := csiBase rx + 0x1f4
def R.FETCH_CTRL (n : Fin 4) : Nat := lecBase n + 0
def R.FETCH_STATUS (n : Fin 4) : Nat := lecBase n + 4
def R.FETCH_PANIC (n : Fin 4) : Nat := lecBase n + 8
def R.FETCH_UNDERRUN_CNT (n : Fin 4) : Nat := lecBase n + 0xc
def R.FETCH_Lx_CFG (n : Fin 4) (x : Nat) : Nat := lecBase n + 0x100 + 0x40 * x
def R.FETCH_Lx_BASE0 (n : Fin 4) (x : Nat) : Nat := lecBase n + 0x104 + 0x40 * x
def R.FETCH_Lx_BASE1 (n : Fin 4) (x : Nat) : Nat := lecBase n + 0x108 + 0x40 * x
def R.FETCH_Lx_STRIDE (n : Fin 4) (x : Nat) : Nat := lecBase n + 0x10c + 0x40 * x
def R.FETCH_Lx_SRC_SIZE (n : Fin 4) (x : Nat) : Nat := lecBase n + 0x110 + 0x40 * x
def R.FETCH_Lx_CROP_POS (n : Fin 4) (x : Nat) : Nat := lecBase n + 0x114 + 0x40 * x
def R.FETCH_Lx_CROP_SIZE (n : Fin 4) (x : Nat) : Nat := lecBase n + 0x118 + 0x40 * x
def R.FETCH_Lx_LIVE (n : Fin 4) (x : Nat) : Nat := lecBase n + 0x11c + 0x40 * x
def R.FETCH_Lx_STAT (n : Fin 4) (x : Nat) : Nat := lecBase n + 0x120 + 0x40 * x
def R.FETCH_Lx_CNT (n : Fin 4) (x : Nat) : Nat := lecBase n + 0x124 + 0x40 * x
def R.FETCH_ERR (n : Fin 4) : Nat := lecBase n + 0x1f0
def R.FETCH_ERR_CNT (n : Fin 4) : Nat := lecBase n + 0x1f4
def R.SCL_CTRL (n : Fin 4) : Nat := lecBase n + 0x2000
def R.SCL_STATUS (n : Fin 4) : Nat := lecBase n + 0x2004
def R.SCL_Sk_HSTEP (n : Fin 4) (k : Nat) : Nat := lecBase n + 0x2010 + 0x10 * k
def R.SCL_Sk_VSTEP (n : Fin 4) (k : Nat) : Nat := lecBase n + 0x2014 + 0x10 * k
def R.SCL_Sk_HPHASE (n : Fin 4) (k : Nat) : Nat := lecBase n + 0x2018 + 0x10 * k
def R.SCL_Sk_VPHASE (n : Fin 4) (k : Nat) : Nat := lecBase n + 0x201c + 0x10 * k
def R.SCL_ERR (n : Fin 4) : Nat := lecBase n + 0x21f0
def R.SCL_ERR_CNT (n : Fin 4) : Nat := lecBase n + 0x21f4
def R.SCL_COEF (n : Fin 4) (h : Nat) : Nat := lecBase n + 0x2400 + 4 * h
def R.CMP_CTRL (n : Fin 4) : Nat := lecBase n + 0x4000
def R.CMP_STATUS (n : Fin 4) : Nat := lecBase n + 0x4004
def R.CMP_BG01 (n : Fin 4) : Nat := lecBase n + 0x4008
def R.CMP_BG2 (n : Fin 4) : Nat := lecBase n + 0x400c
def R.CMP_GAIN (n : Fin 4) : Nat := lecBase n + 0x4010
def R.CMP_LUT_ADDR (n : Fin 4) : Nat := lecBase n + 0x4014
def R.CMP_LUT_DATA (n : Fin 4) : Nat := lecBase n + 0x4018
def R.CMP_OMATi (n : Fin 4) (i : Nat) : Nat := lecBase n + 0x4020 + 4 * i
def R.CMP_ERR (n : Fin 4) : Nat := lecBase n + 0x41f0
def R.CMP_ERR_CNT (n : Fin 4) : Nat := lecBase n + 0x41f4
def R.CMP_Lx_CFG (n : Fin 4) (x : Nat) : Nat := lecBase n + 0x4200 + 0x80 * x
def R.CMP_Lx_DST_POS (n : Fin 4) (x : Nat) : Nat := lecBase n + 0x4204 + 0x80 * x
def R.CMP_Lx_DST_SIZE (n : Fin 4) (x : Nat) : Nat := lecBase n + 0x4208 + 0x80 * x
def R.CMP_Lx_MATi (n : Fin 4) (x : Nat) (i : Nat) : Nat := lecBase n + 0x4240 + 0x80 * x + 4 * i
def R.CMP_SMs (n : Fin 4) (s : Nat) (w : Nat) : Nat := lecBase n + 0x4800 + 0x10 * s + 4 * w
def R.WRP_CTRL (n : Fin 4) : Nat := lecBase n + 0x6000
def R.WRP_STATUS (n : Fin 4) : Nat := lecBase n + 0x6004
def R.WRP_OFF_LIM (n : Fin 4) : Nat := lecBase n + 0x6008
def R.WRP_AIM (n : Fin 4) : Nat := lecBase n + 0x600c
def R.WRP_OFF_NOW (n : Fin 4) : Nat := lecBase n + 0x6010
def R.WRP_AFF_A (n : Fin 4) : Nat := lecBase n + 0x6020
def R.WRP_AFF_B (n : Fin 4) : Nat := lecBase n + 0x6024
def R.WRP_AFF_C (n : Fin 4) : Nat := lecBase n + 0x6028
def R.WRP_AFF_D (n : Fin 4) : Nat := lecBase n + 0x602c
def R.WRP_AFF_TX (n : Fin 4) : Nat := lecBase n + 0x6030
def R.WRP_AFF_TY (n : Fin 4) : Nat := lecBase n + 0x6034
def R.WRP_MESH_ADDR (n : Fin 4) : Nat := lecBase n + 0x6040
def R.WRP_MESH_DATA (n : Fin 4) : Nat := lecBase n + 0x6044
def R.WRP_TRAJ_CFG (n : Fin 4) : Nat := lecBase n + 0x6050
def R.WRP_TRAJ_BASE (n : Fin 4) : Nat := lecBase n + 0x6054
def R.WRP_ERR (n : Fin 4) : Nat := lecBase n + 0x61f0
def R.WRP_ERR_CNT (n : Fin 4) : Nat := lecBase n + 0x61f4
def R.WBK_CTRL (n : Fin 4) : Nat := lecBase n + 0x8000
def R.WBK_STATUS (n : Fin 4) : Nat := lecBase n + 0x8004
def R.WBK_BASEk (n : Fin 4) (k : Nat) : Nat := lecBase n + 0x8008 + 4 * k
def R.WBK_Rr_POS (n : Fin 4) (r : Nat) : Nat := lecBase n + 0x8040 + 8 * r
def R.WBK_Rr_SIZE (n : Fin 4) (r : Nat) : Nat := lecBase n + 0x8044 + 8 * r
def R.WBK_SIG_FRAME (n : Fin 4) : Nat := lecBase n + 0x8100
def R.WBK_SIGr (n : Fin 4) (r : Nat) : Nat := lecBase n + 0x8104 + 4 * r
def R.WBK_ERR (n : Fin 4) : Nat := lecBase n + 0x81f0
def R.WBK_ERR_CNT (n : Fin 4) : Nat := lecBase n + 0x81f4
def R.BPF_CTRL (n : Fin 4) : Nat := lecBase n + 0xa000
def R.BPF_STATUS (n : Fin 4) : Nat := lecBase n + 0xa004
def R.BPF_FBk (n : Fin 4) (k : Nat) : Nat := lecBase n + 0xa008 + 4 * k
def R.BPF_BLK_CFG (n : Fin 4) : Nat := lecBase n + 0xa010
def R.BPF_BLK_TIME (n : Fin 4) : Nat := lecBase n + 0xa014
def R.BPF_LEAD (n : Fin 4) : Nat := lecBase n + 0xa018
def R.BPF_FIELD_T (n : Fin 4) : Nat := lecBase n + 0xa01c
def R.BPF_TT_CTRL (n : Fin 4) : Nat := lecBase n + 0xa020
def R.BPF_SRCSEL (n : Fin 4) : Nat := lecBase n + 0xa024
def R.BPF_TRIM_STATUS (n : Fin 4) : Nat := lecBase n + 0xa030
def R.BPF_SCAN_CFG (n : Fin 4) : Nat := lecBase n + 0xa040
def R.BPF_LATE_CNT (n : Fin 4) : Nat := lecBase n + 0xa060
def R.BPF_ERR (n : Fin 4) : Nat := lecBase n + 0xa1f0
def R.BPF_ERR_CNT (n : Fin 4) : Nat := lecBase n + 0xa1f4
def R.BPF_TRIM (n : Fin 4) (h : Nat) : Nat := lecBase n + 0xa200 + 4 * h
def R.BPF_TT (n : Fin 4) (h : Nat) : Nat := lecBase n + 0xa400 + 4 * h
def R.MSK_CTRL (n : Fin 4) : Nat := lecBase n + 0xc000
def R.MSK_STATUS (n : Fin 4) : Nat := lecBase n + 0xc004
def R.MSK_CNT (n : Fin 4) : Nat := lecBase n + 0xc008
def R.MSK_LAST (n : Fin 4) : Nat := lecBase n + 0xc00c
def R.MSK_ACK_TIME (n : Fin 4) : Nat := lecBase n + 0xc010
def R.MSK_INJ (n : Fin 4) (w : Nat) : Nat := lecBase n + 0xc020 + 4 * w
def R.MSK_INJ_GO (n : Fin 4) : Nat := lecBase n + 0xc030
def R.MSK_ERR (n : Fin 4) : Nat := lecBase n + 0xc1f0
def R.MSK_ERR_CNT (n : Fin 4) : Nat := lecBase n + 0xc1f4
def R.MSK_HMs (n : Fin 4) (s : Nat) (w : Nat) : Nat := lecBase n + 0xc800 + 0x20 * s + 4 * w
def R.MSK_HSs (n : Fin 4) (s : Nat) : Nat := lecBase n + 0xc810 + 0x20 * s
def R.MSK_HRs (n : Fin 4) (s : Nat) : Nat := lecBase n + 0xc814 + 0x20 * s
def R.SRC_CTRL (n : Fin 4) : Nat := lecBase n + 0xe000
def R.SRC_STATUS (n : Fin 4) : Nat := lecBase n + 0xe004
def R.SRC_DERATE_CFG (n : Fin 4) : Nat := lecBase n + 0xe008
def R.SRC_DERATE_TEMP (n : Fin 4) : Nat := lecBase n + 0xe00c
def R.SRC_TGEN (n : Fin 4) : Nat := lecBase n + 0xe010
def R.SRC_SPs (n : Fin 4) (s : Nat) : Nat := lecBase n + 0xe020 + 4 * s
def R.SRC_SPLIMs (n : Fin 4) (s : Nat) : Nat := lecBase n + 0xe030 + 4 * s
def R.SRC_SPNOWs (n : Fin 4) (s : Nat) : Nat := lecBase n + 0xe040 + 4 * s
def R.SRC_AMPs_l (n : Fin 4) (s : Nat) (l : Nat) : Nat := lecBase n + 0xe100 + 0x20 * s + 4 * l
def R.SRC_ERR (n : Fin 4) : Nat := lecBase n + 0xe1f0
def R.SRC_ERR_CNT (n : Fin 4) : Nat := lecBase n + 0xe1f4
def R.LNK_CTRL (n : Fin 4) : Nat := lecBase n + 0x10000
def R.LNK_STATUS (n : Fin 4) : Nat := lecBase n + 0x10004
def R.LNK_MODE (n : Fin 4) : Nat := lecBase n + 0x10008
def R.LNK_BEST (n : Fin 4) : Nat := lecBase n + 0x1000c
def R.LNK_LIMIT (n : Fin 4) : Nat := lecBase n + 0x10010
def R.LNK_EQ_THR (n : Fin 4) : Nat := lecBase n + 0x10014
def R.LNK_TIMING (n : Fin 4) : Nat := lecBase n + 0x10018
def R.LNK_LT (n : Fin 4) : Nat := lecBase n + 0x1001c
def R.LNK_DELAY (n : Fin 4) : Nat := lecBase n + 0x10020
def R.LNK_CNT0 (n : Fin 4) : Nat := lecBase n + 0x10030
def R.LNK_CNT1 (n : Fin 4) : Nat := lecBase n + 0x10034
def R.LNK_CNT2 (n : Fin 4) : Nat := lecBase n + 0x10038
def R.LNK_NODE_STAT (n : Fin 4) : Nat := lecBase n + 0x10040
def R.LNK_EQ_F0 (n : Fin 4) : Nat := lecBase n + 0x10050
def R.LNK_EQ_F1 (n : Fin 4) : Nat := lecBase n + 0x10054
def R.LNK_EQ_B (n : Fin 4) : Nat := lecBase n + 0x10058
def R.LNK_CAP (n : Fin 4) (w : Nat) : Nat := lecBase n + 0x10100 + 4 * w
def R.LNK_ERR (n : Fin 4) : Nat := lecBase n + 0x101f0
def R.LNK_ERR_CNT (n : Fin 4) : Nat := lecBase n + 0x101f4
def R.CHN_CTRL (n : Fin 4) : Nat := lecBase n + 0x14000
def R.CHN_STATUS (n : Fin 4) : Nat := lecBase n + 0x14004
def R.CHN_MODE (n : Fin 4) : Nat := lecBase n + 0x14008
def R.CHN_CFG (n : Fin 4) : Nat := lecBase n + 0x1400c
def R.CHN_ASSET (n : Fin 4) : Nat := lecBase n + 0x14010
def R.CHN_ANIM (n : Fin 4) : Nat := lecBase n + 0x14014
def R.CHN_AUDIT (n : Fin 4) : Nat := lecBase n + 0x14018
def R.CHN_GARM (n : Fin 4) : Nat := lecBase n + 0x1401c
def R.CHN_GPROBE (n : Fin 4) : Nat := lecBase n + 0x14020
def R.CHN_MEM_ADDR (n : Fin 4) : Nat := lecBase n + 0x14024
def R.CHN_MEM_DATA (n : Fin 4) : Nat := lecBase n + 0x14028
def R.CHN_SEQ (n : Fin 4) : Nat := lecBase n + 0x1402c
def R.CHN_SNAP (n : Fin 4) : Nat := lecBase n + 0x14030
def R.CHN_RC (n : Fin 4) : Nat := lecBase n + 0x14034
def R.CHN_CNT0 (n : Fin 4) : Nat := lecBase n + 0x14038
def R.CHN_CNT1 (n : Fin 4) : Nat := lecBase n + 0x1403c
def R.CHN_LAST_RET (n : Fin 4) : Nat := lecBase n + 0x14040
def R.CHN_ERR (n : Fin 4) : Nat := lecBase n + 0x141f0
def R.CHN_ERR_CNT (n : Fin 4) : Nat := lecBase n + 0x141f4
def R.CHN_RNGr_A (n : Fin 4) (r : Nat) : Nat := lecBase n + 0x14200 + 8 * r
def R.CHN_RNGr_B (n : Fin 4) (r : Nat) : Nat := lecBase n + 0x14204 + 8 * r
def R.CHN_GTGTg (n : Fin 4) (g : Nat) : Nat := lecBase n + 0x14400 + 4 * g
def R.CHN_GLVLg (n : Fin 4) (g : Nat) : Nat := lecBase n + 0x14480 + 4 * g
def R.CHN_DRVd (n : Fin 4) (d : Nat) : Nat := lecBase n + 0x14500 + 4 * d
def R.CHN_DSTATd (n : Fin 4) (d : Nat) : Nat := lecBase n + 0x14600 + 4 * d
def R.TUT_STATUS (n : Fin 4) : Nat := lecBase n + 0x18000
def R.TUT_SAT (n : Fin 4) : Nat := lecBase n + 0x18004
def R.TUT_LAMP_T (n : Fin 4) : Nat := lecBase n + 0x18008
def R.TUT_TRC_CFG (n : Fin 4) : Nat := lecBase n + 0x18010
def R.TUT_TRC_NODES (n : Fin 4) : Nat := lecBase n + 0x18014
def R.TUT_TRC_EVT (n : Fin 4) : Nat := lecBase n + 0x18018
def R.TUT_TRC_STATUS (n : Fin 4) : Nat := lecBase n + 0x1801c
def R.TUT_TRC_INJ (n : Fin 4) : Nat := lecBase n + 0x18020
def R.TUT_INJ_CFG (n : Fin 4) : Nat := lecBase n + 0x18030
def R.TUT_INJ_AMP (n : Fin 4) : Nat := lecBase n + 0x18034
def R.TUT_INJ_P1 (n : Fin 4) : Nat := lecBase n + 0x18038
def R.TUT_INJ_P2 (n : Fin 4) : Nat := lecBase n + 0x1803c
def R.TUT_INJ_DUR (n : Fin 4) : Nat := lecBase n + 0x18040
def R.TUT_INJ_STATUS (n : Fin 4) : Nat := lecBase n + 0x18044
def R.TUT_ERR (n : Fin 4) : Nat := lecBase n + 0x181f0
def R.TUT_ERR_CNT (n : Fin 4) : Nat := lecBase n + 0x181f4
def R.TUT_CTXc_CTRL (n : Fin 4) (c : Nat) : Nat := lecBase n + 0x18400 + 0x100 * c
def R.TUT_CTXc_PERIOD (n : Fin 4) (c : Nat) : Nat := lecBase n + 0x18404 + 0x100 * c
def R.TUT_CTXc_PHASE (n : Fin 4) (c : Nat) : Nat := lecBase n + 0x18408 + 0x100 * c
def R.TUT_CTXc_STATUS (n : Fin 4) (c : Nat) : Nat := lecBase n + 0x1840c + 0x100 * c
def R.TUT_CTXc_REFi (n : Fin 4) (c : Nat) (i : Nat) : Nat := lecBase n + 0x18410 + 0x100 * c + 4 * i
def R.TUT_CTXc_ZSELi (n : Fin 4) (c : Nat) (i : Nat) : Nat := lecBase n + 0x18420 + 0x100 * c + 4 * i
def R.TUT_CTXc_ZSCALEi (n : Fin 4) (c : Nat) (i : Nat) : Nat := lecBase n + 0x18440 + 0x100 * c + 4 * i
def R.TUT_CTXc_ZOFFi (n : Fin 4) (c : Nat) (i : Nat) : Nat := lecBase n + 0x18460 + 0x100 * c + 4 * i
def R.TUT_CTXc_EBOUNDi (n : Fin 4) (c : Nat) (i : Nat) : Nat := lecBase n + 0x18480 + 0x100 * c + 4 * i
def R.TUT_CTXc_ROUTEj (n : Fin 4) (c : Nat) (j : Nat) : Nat := lecBase n + 0x184a0 + 0x100 * c + 4 * j
def R.TUT_CTXc_TAPt (n : Fin 4) (c : Nat) (t : Nat) : Nat := lecBase n + 0x184b0 + 0x100 * c + 4 * t
def R.TUT_CTXc_ZFWi (n : Fin 4) (c : Nat) (i : Nat) : Nat := lecBase n + 0x184d0 + 0x100 * c + 4 * i
def R.TUT_CTXc_MAT (n : Fin 4) (c : Nat) (w : Nat) : Nat := lecBase n + 0x1a000 + 0x1000 * c + 4 * w
def R.TUT_CTXc_Xi_LO (n : Fin 4) (c : Nat) (i : Nat) : Nat := lecBase n + 0x1e000 + 0x100 * c + 8 * i
def R.TUT_CTXc_Xi_HI (n : Fin 4) (c : Nat) (i : Nat) : Nat := lecBase n + 0x1e004 + 0x100 * c + 8 * i
def R.TUT_CTXc_Uj (n : Fin 4) (c : Nat) (j : Nat) : Nat := lecBase n + 0x1e080 + 0x100 * c + 4 * j
def R.TUT_INJ_TABLEe (n : Fin 4) (e : Nat) : Nat := lecBase n + 0x1f000 + 4 * e
def R.TUT_TRC_WORDw (n : Fin 4) (w : Nat) : Nat := lecBase n + 0x20000 + 4 * w
def R.CAL_CTRL : Nat := 0x40050000
def R.CAL_CFG : Nat := 0x40050004
def R.CAL_STATUS : Nat := 0x40050008
def R.CAL_DUE : Nat := 0x4005000C
def R.CAL_TEMPs (s : Nat) : Nat := 0x40050010 + 4 * s
def R.CAL_TRIM_STATUS : Nat := 0x40050020
def R.CAL_ERR : Nat := 0x400501F0
def R.CAL_ERR_CNT : Nat := 0x400501F4
def R.CAL_Ii_CFG (i : Nat) : Nat := 0x40050400 + 0x20 * i
def R.CAL_Ii_TARGET (i : Nat) : Nat := 0x40050404 + 0x20 * i
def R.CAL_Ii_CARD (i : Nat) : Nat := 0x40050408 + 0x20 * i
def R.CAL_Ii_QUAL (i : Nat) : Nat := 0x4005040C + 0x20 * i
def R.CAL_Ii_TAP (i : Nat) : Nat := 0x40050410 + 0x20 * i
def R.CAL_Ii_TIME (i : Nat) : Nat := 0x40050414 + 0x20 * i
def R.CAL_Ii_TAKE1 (i : Nat) : Nat := 0x40050418 + 0x20 * i
def R.CAL_Ii_TAKE2 (i : Nat) : Nat := 0x4005041C + 0x20 * i
def R.DMC_CTRL (ch : Fin 2) : Nat := dmcBase ch + 0
def R.DMC_STATUS (ch : Fin 2) : Nat := dmcBase ch + 4
def R.DMC_CFG (ch : Fin 2) : Nat := dmcBase ch + 8
def R.DMC_TIM0 (ch : Fin 2) : Nat := dmcBase ch + 0xc
def R.DMC_TIM1 (ch : Fin 2) : Nat := dmcBase ch + 0x10
def R.DMC_TIM2 (ch : Fin 2) : Nat := dmcBase ch + 0x14
def R.DMC_SCHED (ch : Fin 2) : Nat := dmcBase ch + 0x20
def R.DMC_REF (ch : Fin 2) : Nat := dmcBase ch + 0x24
def R.DMC_SR (ch : Fin 2) : Nat := dmcBase ch + 0x28
def R.DMC_RDIST (ch : Fin 2) : Nat := dmcBase ch + 0x2c
def R.DMC_PORTp_CFG (ch : Fin 2) (p : Nat) : Nat := dmcBase ch + 0x40 + 4 * p
def R.DMC_PANIC (ch : Fin 2) : Nat := dmcBase ch + 0x80
def R.DMC_ECC_CNT (ch : Fin 2) : Nat := dmcBase ch + 0x84
def R.DMC_ECC_LAST (ch : Fin 2) : Nat := dmcBase ch + 0x88
def R.DMC_CA_CNT (ch : Fin 2) : Nat := dmcBase ch + 0x8c
def R.DMC_RD_CNT (ch : Fin 2) : Nat := dmcBase ch + 0x90
def R.DMC_PM_CNT (ch : Fin 2) : Nat := dmcBase ch + 0x94
def R.DMC_SNAPk (ch : Fin 2) (k : Nat) : Nat := dmcBase ch + 0xa0 + 4 * k
def R.DMC_BW (ch : Fin 2) : Nat := dmcBase ch + 0xb0
def R.DMC_ERR (ch : Fin 2) : Nat := dmcBase ch + 0x1f0
def R.DMC_ERR_CNT (ch : Fin 2) : Nat := dmcBase ch + 0x1f4
def R.PHY_STATUS (ch : Fin 2) : Nat := dmcBase ch + 0x8000
def R.PHY_PAT_CFG (ch : Fin 2) : Nat := dmcBase ch + 0x8010
def R.PHY_PAT_GO (ch : Fin 2) : Nat := dmcBase ch + 0x8014
def R.PHY_PAT_STATUS (ch : Fin 2) : Nat := dmcBase ch + 0x8018
def R.PHY_TRAIN_CFG (ch : Fin 2) : Nat := dmcBase ch + 0x8020
def R.PHY_CMPb (ch : Fin 2) (b : Nat) : Nat := dmcBase ch + 0x8100 + 4 * b
def R.PHY_Rr_Ll_DLY0 (ch : Fin 2) (r : Nat) (l : Nat) : Nat := dmcBase ch + 0x8400 + 0x100 * r + 0x10 * l
def R.PHY_Rr_Ll_DLY1 (ch : Fin 2) (r : Nat) (l : Nat) : Nat := dmcBase ch + 0x8404 + 0x100 * r + 0x10 * l
def R.PHY_Rr_Ll_VREF (ch : Fin 2) (r : Nat) (l : Nat) : Nat := dmcBase ch + 0x8408 + 0x100 * r + 0x10 * l
def R.PHY_Rr_Ll_DSK (ch : Fin 2) (r : Nat) (l : Nat) (w : Nat) : Nat := dmcBase ch + 0x8800 + 0x100 * r + 0x10 * l + 4 * w
def R.PHY_Ll_DRV (ch : Fin 2) (l : Nat) : Nat := dmcBase ch + 0x8c00 + 4 * l
def R.PHY_Ll_DLINE (ch : Fin 2) (l : Nat) : Nat := dmcBase ch + 0x8c40 + 4 * l
def R.PHY_ERR (ch : Fin 2) : Nat := dmcBase ch + 0x81f0
def R.PHY_ERR_CNT (ch : Fin 2) : Nat := dmcBase ch + 0x81f4
def R.EVR_CFG : Nat := 0x40030000
def R.EVR_STATUS : Nat := 0x40030004
def R.EVR_LAST : Nat := 0x40030008
def R.EVR_DROPPED : Nat := 0x4003000C
def R.EVR_CLEAR : Nat := 0x40030010
def R.EVR_FAULT : Nat := 0x40030014
def R.EVR_DRILL_CFG : Nat := 0x40030020
def R.EVR_DRILL_GO : Nat := 0x40030024
def R.EVR_DRILL_STATUS : Nat := 0x40030028
def R.EVR_ERR : Nat := 0x400301F0
def R.EVR_ERR_CNT : Nat := 0x400301F4
def R.TST_STATUS : Nat := 0x40400000
def R.TST_BIST_CFG : Nat := 0x40400010
def R.TST_BIST_GO : Nat := 0x40400014
def R.TST_BIST_STATUS : Nat := 0x40400018
def R.TST_BIST_FAIL : Nat := 0x4040001C
def R.TST_ERR : Nat := 0x404001F0
def R.TST_ERR_CNT : Nat := 0x404001F4

def F.LEC_CTRL_RUN (n : Fin 4) : Fld := ⟨R.LEC_CTRL n, 0, 1⟩
def F.LEC_STATUS_RUNNING (n : Fin 4) : Fld := ⟨R.LEC_STATUS n, 0, 1⟩
def F.LEC_STATUS_VBLANK (n : Fin 4) : Fld := ⟨R.LEC_STATUS n, 1, 1⟩
def F.LEC_STATUS_GUARD (n : Fin 4) : Fld := ⟨R.LEC_STATUS n, 2, 1⟩
def F.LEC_STATUS_LOCKED (n : Fin 4) : Fld := ⟨R.LEC_STATUS n, 3, 1⟩
def F.LEC_COMMIT_GO (n : Fin 4) : Fld := ⟨R.LEC_COMMIT n, 0, 1⟩
def F.LEC_COMMIT_STATUS_PENDING (n : Fin 4) : Fld := ⟨R.LEC_COMMIT_STATUS n, 0, 1⟩
def F.LEC_COMMIT_STATUS_LATCHED (n : Fin 4) : Fld := ⟨R.LEC_COMMIT_STATUS n, 1, 1⟩
def F.LEC_COMMIT_STATUS_MERGED (n : Fin 4) : Fld := ⟨R.LEC_COMMIT_STATUS n, 2, 1⟩
def F.LEC_COMMIT_STATUS_TARGET (n : Fin 4) : Fld := ⟨R.LEC_COMMIT_STATUS n, 8, 24⟩
def F.LEC_COMMIT_CFG_COMMIT_GUARD (n : Fin 4) : Fld := ⟨R.LEC_COMMIT_CFG n, 0, 4⟩
def F.LEC_FRAME_COUNT_COUNT (n : Fin 4) : Fld := ⟨R.LEC_FRAME_COUNT n, 0, 32⟩
def F.LEC_LINE_LINE (n : Fin 4) : Fld := ⟨R.LEC_LINE n, 0, 16⟩
def F.LEC_TRANSFER_LINE_LINE (n : Fin 4) : Fld := ⟨R.LEC_TRANSFER_LINE n, 0, 16⟩
def F.LEC_SNAP_FRAME_COUNT (n : Fin 4) : Fld := ⟨R.LEC_SNAP_FRAME n, 0, 32⟩
def F.LEC_SNAP_LINE_LINE (n : Fin 4) : Fld := ⟨R.LEC_SNAP_LINE n, 0, 16⟩
def F.LEC_ERR_FIRST (n : Fin 4) : Fld := ⟨R.LEC_ERR n, 0, 16⟩
def F.LEC_ERR_MORE (n : Fin 4) : Fld := ⟨R.LEC_ERR n, 16, 1⟩
def F.LEC_ERR_WR_WHILE_RUN (n : Fin 4) : Fld := ⟨R.LEC_ERR n, 17, 1⟩
def F.LEC_ERR_SET (n : Fin 4) : Fld := ⟨R.LEC_ERR n, 31, 1⟩
def F.LEC_ERR_CNT_COUNT (n : Fin 4) : Fld := ⟨R.LEC_ERR_CNT n, 0, 16⟩
def F.SYS_ID_ID : Fld := ⟨R.SYS_ID, 0, 32⟩
def F.SYS_FEATURES_LECS : Fld := ⟨R.SYS_FEATURES, 0, 3⟩
def F.SYS_FEATURES_DCHS : Fld := ⟨R.SYS_FEATURES, 4, 2⟩
def F.SYS_FEATURES_CSIS : Fld := ⟨R.SYS_FEATURES, 6, 2⟩
def F.SYS_FEATURES_CHAINS : Fld := ⟨R.SYS_FEATURES, 8, 3⟩
def F.SYS_FEATURES_FAST_LANE : Fld := ⟨R.SYS_FEATURES, 12, 1⟩
def F.SYS_FEATURES_SCAN_LINE : Fld := ⟨R.SYS_FEATURES, 13, 1⟩
def F.SYS_FEATURES_RGB : Fld := ⟨R.SYS_FEATURES, 14, 1⟩
def F.SYS_FEATURES_MAX_SPEED : Fld := ⟨R.SYS_FEATURES, 16, 2⟩
def F.SYS_MODE_MODE : Fld := ⟨R.SYS_MODE, 0, 4⟩
def F.SYS_MODE_PROFILE : Fld := ⟨R.SYS_MODE, 4, 2⟩
def F.SYS_MODE_TRANSIT : Fld := ⟨R.SYS_MODE, 6, 1⟩
def F.SYS_MODE_TARGET : Fld := ⟨R.SYS_MODE, 8, 4⟩
def F.SYS_MODE_CAUSE : Fld := ⟨R.SYS_MODE, 12, 4⟩
def F.SYS_MODE_CTRL_REQ : Fld := ⟨R.SYS_MODE_CTRL, 0, 4⟩
def F.SYS_MODE_CTRL_PROFILE : Fld := ⟨R.SYS_MODE_CTRL, 4, 2⟩
def F.SYS_MODE_CTRL_GO : Fld := ⟨R.SYS_MODE_CTRL, 8, 1⟩
def F.SYS_BELL_LEC : Fld := ⟨R.SYS_BELL, 0, 4⟩
def F.SYS_BELL_DRAM : Fld := ⟨R.SYS_BELL, 4, 1⟩
def F.SYS_BELL_CHAINS : Fld := ⟨R.SYS_BELL, 5, 1⟩
def F.SYS_BELL_COMMIT : Fld := ⟨R.SYS_BELL, 8, 1⟩
def F.SYS_BELL_SNAP : Fld := ⟨R.SYS_BELL, 9, 1⟩
def F.SYS_BELL_STATUS_BUSY : Fld := ⟨R.SYS_BELL_STATUS, 0, 1⟩
def F.SYS_BELL_STATUS_LOST : Fld := ⟨R.SYS_BELL_STATUS, 1, 1⟩
def F.SYS_BELL_TS_LO_TS : Fld := ⟨R.SYS_BELL_TS_LO, 0, 32⟩
def F.SYS_BELL_TS_HI_TS : Fld := ⟨R.SYS_BELL_TS_HI, 0, 24⟩
def F.SYS_BELL_TS_HI_VALID : Fld := ⟨R.SYS_BELL_TS_HI, 24, 1⟩
def F.SYS_FLOCK_MEMBERS : Fld := ⟨R.SYS_FLOCK, 0, 4⟩
def F.SYS_FLOCK_REF : Fld := ⟨R.SYS_FLOCK, 4, 2⟩
def F.SYS_FLOCK_LEADER : Fld := ⟨R.SYS_FLOCK, 8, 2⟩
def F.SYS_FLOCK_LSYNC_OUT_EN : Fld := ⟨R.SYS_FLOCK, 12, 1⟩
def F.SYS_FLOCK_STATUS_LOCKED : Fld := ⟨R.SYS_FLOCK_STATUS, 0, 4⟩
def F.SYS_FLOCK_STATUS_REF_OK : Fld := ⟨R.SYS_FLOCK_STATUS, 4, 1⟩
def F.SYS_FLOCK_STATUS_MISSED : Fld := ⟨R.SYS_FLOCK_STATUS, 8, 8⟩
def F.SYS_CLKENk_BITS (k : Nat) : Fld := ⟨R.SYS_CLKENk k, 0, 32⟩
def F.SYS_CLKGOODk_BITS (k : Nat) : Fld := ⟨R.SYS_CLKGOODk k, 0, 32⟩
def F.SYS_PLL_STATUS_LOCK : Fld := ⟨R.SYS_PLL_STATUS, 0, 9⟩
def F.SYS_PLL_STATUS_ON : Fld := ⟨R.SYS_PLL_STATUS, 16, 9⟩
def F.SYS_ERR_FIRST : Fld := ⟨R.SYS_ERR, 0, 16⟩
def F.SYS_ERR_MORE : Fld := ⟨R.SYS_ERR, 16, 1⟩
def F.SYS_ERR_WR_WHILE_RUN : Fld := ⟨R.SYS_ERR, 17, 1⟩
def F.SYS_ERR_SET : Fld := ⟨R.SYS_ERR, 31, 1⟩
def F.SYS_ERR_CNT_COUNT : Fld := ⟨R.SYS_ERR_CNT, 0, 16⟩
def F.AON_TB_LO_TS : Fld := ⟨R.AON_TB_LO, 0, 32⟩
def F.AON_TB_HI_TS : Fld := ⟨R.AON_TB_HI, 0, 24⟩
def F.AON_TB_HI_VALID : Fld := ⟨R.AON_TB_HI, 24, 1⟩
def F.AON_CLK_STATUS_XTAL : Fld := ⟨R.AON_CLK_STATUS, 0, 1⟩
def F.AON_WAKE_CFG_WAKE0_EN : Fld := ⟨R.AON_WAKE_CFG, 0, 1⟩
def F.AON_WAKE_CFG_WAKE1_EN : Fld := ⟨R.AON_WAKE_CFG, 1, 1⟩
def F.AON_WAKE_CFG_WAKE0_POL : Fld := ⟨R.AON_WAKE_CFG, 2, 1⟩
def F.AON_WAKE_CFG_WAKE1_POL : Fld := ⟨R.AON_WAKE_CFG, 3, 1⟩
def F.AON_WAKE_CFG_CAN0_EN : Fld := ⟨R.AON_WAKE_CFG, 4, 1⟩
def F.AON_WAKE_CFG_CAN1_EN : Fld := ⟨R.AON_WAKE_CFG, 5, 1⟩
def F.AON_WAKE_CFG_HSPI_EN : Fld := ⟨R.AON_WAKE_CFG, 6, 1⟩
def F.AON_WAKE_CFG_TIMER_EN : Fld := ⟨R.AON_WAKE_CFG, 7, 1⟩
def F.AON_WAKE_CFG_CAN_PHASE : Fld := ⟨R.AON_WAKE_CFG, 8, 4⟩
def F.AON_WAKE_CFG_DEB : Fld := ⟨R.AON_WAKE_CFG, 12, 2⟩
def F.AON_WAKE_STATUS_WAKE0 : Fld := ⟨R.AON_WAKE_STATUS, 0, 1⟩
def F.AON_WAKE_STATUS_WAKE1 : Fld := ⟨R.AON_WAKE_STATUS, 1, 1⟩
def F.AON_WAKE_STATUS_CAN0 : Fld := ⟨R.AON_WAKE_STATUS, 2, 1⟩
def F.AON_WAKE_STATUS_CAN1 : Fld := ⟨R.AON_WAKE_STATUS, 3, 1⟩
def F.AON_WAKE_STATUS_HSPI : Fld := ⟨R.AON_WAKE_STATUS, 4, 1⟩
def F.AON_WAKE_STATUS_TIMER : Fld := ⟨R.AON_WAKE_STATUS, 5, 1⟩
def F.AON_WAKE_STATUS_RESET : Fld := ⟨R.AON_WAKE_STATUS, 6, 1⟩
def F.AON_WAKE_TIMER_LO_TICK : Fld := ⟨R.AON_WAKE_TIMER_LO, 0, 32⟩
def F.AON_WAKE_TIMER_HI_TICK : Fld := ⟨R.AON_WAKE_TIMER_HI, 0, 14⟩
def F.AON_STBY_CFG_DRAM_SR : Fld := ⟨R.AON_STBY_CFG, 0, 1⟩
def F.AON_STBY_CFG_PMIC_TMO : Fld := ⟨R.AON_STBY_CFG, 4, 4⟩
def F.AON_STBY_STATUS_SR_HELD : Fld := ⟨R.AON_STBY_STATUS, 0, 1⟩
def F.AON_STBY_STATUS_SUPPLY_LATE : Fld := ⟨R.AON_STBY_STATUS, 1, 1⟩
def F.AON_STBY_STATUS_COUNT : Fld := ⟨R.AON_STBY_STATUS, 16, 16⟩
def F.AON_ERR_FIRST : Fld := ⟨R.AON_ERR, 0, 16⟩
def F.AON_ERR_MORE : Fld := ⟨R.AON_ERR, 16, 1⟩
def F.AON_ERR_WR_WHILE_RUN : Fld := ⟨R.AON_ERR, 17, 1⟩
def F.AON_ERR_SET : Fld := ⟨R.AON_ERR, 31, 1⟩
def F.AON_ERR_CNT_COUNT : Fld := ⟨R.AON_ERR_CNT, 0, 16⟩
def F.RST_CAUSE_POR : Fld := ⟨R.RST_CAUSE, 0, 1⟩
def F.RST_CAUSE_BOR : Fld := ⟨R.RST_CAUSE, 1, 1⟩
def F.RST_CAUSE_STBY : Fld := ⟨R.RST_CAUSE, 2, 1⟩
def F.RST_CAUSE_PIN : Fld := ⟨R.RST_CAUSE, 3, 1⟩
def F.RST_CAUSE_WDT : Fld := ⟨R.RST_CAUSE, 4, 1⟩
def F.RST_CAUSE_JTAG : Fld := ⟨R.RST_CAUSE, 5, 1⟩
def F.RST_CAUSE_DEVICE : Fld := ⟨R.RST_CAUSE, 6, 1⟩
def F.RST_CAUSE_RESTARTS : Fld := ⟨R.RST_CAUSE, 8, 8⟩
def F.RST_STATUS_PHASE : Fld := ⟨R.RST_STATUS, 0, 3⟩
def F.RST_STATUS_RELEASE_PENDING : Fld := ⟨R.RST_STATUS, 3, 1⟩
def F.RST_STATUS_PEND_DOMAIN : Fld := ⟨R.RST_STATUS, 8, 8⟩
def F.RST_DEVICE_KEY : Fld := ⟨R.RST_DEVICE, 0, 16⟩
def F.RST_DEVICE_GO : Fld := ⟨R.RST_DEVICE, 16, 1⟩
def F.RST_BLK_CTRLk_SUB (k : Nat) : Fld := ⟨R.RST_BLK_CTRLk k, 0, 12⟩
def F.RST_BLK_CTRLk_CTL (k : Nat) : Fld := ⟨R.RST_BLK_CTRLk k, 12, 1⟩
def F.RST_BLK_CTRLk_ALL (k : Nat) : Fld := ⟨R.RST_BLK_CTRLk k, 16, 1⟩
def F.RST_BLK_CTRL4_BLK : Fld := ⟨R.RST_BLK_CTRL4, 0, 9⟩
def F.RST_WDT_CFG_TIMEOUT : Fld := ⟨R.RST_WDT_CFG, 0, 10⟩
def F.RST_WDT_CFG_ARMED : Fld := ⟨R.RST_WDT_CFG, 31, 1⟩
def F.RST_WDT_KICK_KICK : Fld := ⟨R.RST_WDT_KICK, 0, 32⟩
def F.RST_OPT_BOOTSEL : Fld := ⟨R.RST_OPT, 0, 2⟩
def F.RST_OPT_HOSTSEL : Fld := ⟨R.RST_OPT, 2, 1⟩
def F.RST_OPT_JTAG_LOCK : Fld := ⟨R.RST_OPT, 3, 2⟩
def F.RST_OPT_KEY_REVOKE : Fld := ⟨R.RST_OPT, 5, 4⟩
def F.RST_OPT_MIN_SEC_VER : Fld := ⟨R.RST_OPT, 16, 8⟩
def F.RST_OPT_OTP_OK : Fld := ⟨R.RST_OPT, 31, 1⟩
def F.RST_OPT_BANKV_CLASS : Fld := ⟨R.RST_OPT_BANKV, 0, 16⟩
def F.RST_OPT_BANKV_OUT_WIN : Fld := ⟨R.RST_OPT_BANKV, 16, 8⟩
def F.RST_ERR_FIRST : Fld := ⟨R.RST_ERR, 0, 16⟩
def F.RST_ERR_MORE : Fld := ⟨R.RST_ERR, 16, 1⟩
def F.RST_ERR_WR_WHILE_RUN : Fld := ⟨R.RST_ERR, 17, 1⟩
def F.RST_ERR_SET : Fld := ⟨R.RST_ERR, 31, 1⟩
def F.RST_ERR_CNT_COUNT : Fld := ⟨R.RST_ERR_CNT, 0, 16⟩
def F.MBX_HID_ID : Fld := ⟨R.MBX_HID, 0, 32⟩
def F.MBX_HSTAT_READY : Fld := ⟨R.MBX_HSTAT, 0, 1⟩
def F.MBX_HSTAT_HELLO_DONE : Fld := ⟨R.MBX_HSTAT, 1, 1⟩
def F.MBX_HSTAT_WIN_LIVE : Fld := ⟨R.MBX_HSTAT, 2, 1⟩
def F.MBX_HSTAT_LAST_ERR : Fld := ⟨R.MBX_HSTAT, 3, 1⟩
def F.MBX_HSTAT_FL_DROP : Fld := ⟨R.MBX_HSTAT, 4, 1⟩
def F.MBX_HSTAT_OUTBOX_FULL : Fld := ⟨R.MBX_HSTAT, 8, 7⟩
def F.MBX_HSTAT_INBOX_BUSY : Fld := ⟨R.MBX_HSTAT, 16, 6⟩
def F.MBX_HSTAT_FL_COUNT : Fld := ⟨R.MBX_HSTAT, 24, 8⟩
def F.MBX_HCFG_QUAD : Fld := ⟨R.MBX_HCFG, 0, 1⟩
def F.MBX_HCFG_CRC_OFF : Fld := ⟨R.MBX_HCFG, 1, 1⟩
def F.MBX_HCFG_EVENTS : Fld := ⟨R.MBX_HCFG, 2, 1⟩
def F.MBX_HCFG_HELLO_DONE : Fld := ⟨R.MBX_HCFG, 3, 1⟩
def F.MBX_HCFG_MAX_PAYLOAD : Fld := ⟨R.MBX_HCFG, 16, 9⟩
def F.MBX_DOORBELL_RING : Fld := ⟨R.MBX_DOORBELL, 0, 6⟩
def F.MBX_OUTBOX_ACK_ACK : Fld := ⟨R.MBX_OUTBOX_ACK, 0, 7⟩
def F.MBX_IRQ_STATUS_RESP : Fld := ⟨R.MBX_IRQ_STATUS, 0, 6⟩
def F.MBX_IRQ_STATUS_NOTIFY : Fld := ⟨R.MBX_IRQ_STATUS, 6, 1⟩
def F.MBX_IRQ_STATUS_EVENT : Fld := ⟨R.MBX_IRQ_STATUS, 7, 1⟩
def F.MBX_IRQ_EN_EN : Fld := ⟨R.MBX_IRQ_EN, 0, 8⟩
def F.MBX_WINDOW_BASE_BASE : Fld := ⟨R.MBX_WINDOW_BASE, 0, 12⟩
def F.MBX_WINDOW_CFG_LOW : Fld := ⟨R.MBX_WINDOW_CFG, 0, 1⟩
def F.MBX_WINDOW_CFG_WIN_DUMMY : Fld := ⟨R.MBX_WINDOW_CFG, 8, 7⟩
def F.MBX_GRANT_STATUS_LIVE : Fld := ⟨R.MBX_GRANT_STATUS, 0, 4⟩
def F.MBX_GRANT_STATUS_NEXT_S : Fld := ⟨R.MBX_GRANT_STATUS, 16, 10⟩
def F.MBX_FL_ACCEPT_COUNT : Fld := ⟨R.MBX_FL_ACCEPT, 0, 32⟩
def F.MBX_FL_DROP_COUNT : Fld := ⟨R.MBX_FL_DROP, 0, 32⟩
def F.MBX_FL_LAST_REASON : Fld := ⟨R.MBX_FL_LAST, 0, 3⟩
def F.MBX_FL_LAST_CHANNEL : Fld := ⟨R.MBX_FL_LAST, 4, 2⟩
def F.MBX_FL_LAST_SLOT : Fld := ⟨R.MBX_FL_LAST, 8, 6⟩
def F.MBX_HSPI_ERR_CNT_COUNT : Fld := ⟨R.MBX_HSPI_ERR_CNT, 0, 16⟩
def F.MBX_CAN0_CFG_NOM : Fld := ⟨R.MBX_CAN0_CFG, 0, 2⟩
def F.MBX_CAN0_CFG_DATA : Fld := ⟨R.MBX_CAN0_CFG, 2, 2⟩
def F.MBX_CAN0_CFG_EXT_ID : Fld := ⟨R.MBX_CAN0_CFG, 4, 1⟩
def F.MBX_CAN1_CFG_NOM : Fld := ⟨R.MBX_CAN1_CFG, 0, 2⟩
def F.MBX_CAN1_CFG_DATA : Fld := ⟨R.MBX_CAN1_CFG, 2, 2⟩
def F.MBX_CAN1_CFG_EXT_ID : Fld := ⟨R.MBX_CAN1_CFG, 4, 1⟩
def F.MBX_ERR_FIRST : Fld := ⟨R.MBX_ERR, 0, 16⟩
def F.MBX_ERR_MORE : Fld := ⟨R.MBX_ERR, 16, 1⟩
def F.MBX_ERR_WR_WHILE_RUN : Fld := ⟨R.MBX_ERR, 17, 1⟩
def F.MBX_ERR_SET : Fld := ⟨R.MBX_ERR, 31, 1⟩
def F.MBX_ERR_CNT_COUNT : Fld := ⟨R.MBX_ERR_CNT, 0, 16⟩
def F.CSI_CTRL_EN (rx : Fin 2) : Fld := ⟨R.CSI_CTRL rx, 0, 1⟩
def F.CSI_CTRL_LANES (rx : Fin 2) : Fld := ⟨R.CSI_CTRL rx, 1, 2⟩
def F.CSI_CTRL_PN_INV (rx : Fin 2) : Fld := ⟨R.CSI_CTRL rx, 4, 4⟩
def F.CSI_CTRL_CLK_INV (rx : Fin 2) : Fld := ⟨R.CSI_CTRL rx, 8, 1⟩
def F.CSI_CTRL_RATE (rx : Fin 2) : Fld := ⟨R.CSI_CTRL rx, 16, 12⟩
def F.CSI_STATUS_STOP (rx : Fin 2) : Fld := ⟨R.CSI_STATUS rx, 0, 4⟩
def F.CSI_STATUS_ULPS (rx : Fin 2) : Fld := ⟨R.CSI_STATUS rx, 4, 4⟩
def F.CSI_STATUS_DESKEWED (rx : Fin 2) : Fld := ⟨R.CSI_STATUS rx, 8, 1⟩
def F.CSI_ERR_CNT_ECC_CORR (rx : Fin 2) : Fld := ⟨R.CSI_ERR_CNT rx, 0, 8⟩
def F.CSI_ERR_CNT_ECC_UNCORR (rx : Fin 2) : Fld := ⟨R.CSI_ERR_CNT rx, 8, 8⟩
def F.CSI_ERR_CNT_CRC (rx : Fin 2) : Fld := ⟨R.CSI_ERR_CNT rx, 16, 8⟩
def F.CSI_ERR_CNT_IGNORED (rx : Fin 2) : Fld := ⟨R.CSI_ERR_CNT rx, 24, 7⟩
def F.CSI_ERR_CNT_CLR (rx : Fin 2) : Fld := ⟨R.CSI_ERR_CNT rx, 31, 1⟩
def F.CSI_VCv_CFG_EN (rx : Fin 2) (v : Nat) : Fld := ⟨R.CSI_VCv_CFG rx v, 0, 1⟩
def F.CSI_VCv_CFG_DT (rx : Fin 2) (v : Nat) : Fld := ⟨R.CSI_VCv_CFG rx v, 8, 6⟩
def F.CSI_VCv_CFG_CHANNEL (rx : Fin 2) (v : Nat) : Fld := ⟨R.CSI_VCv_CFG rx v, 16, 2⟩
def F.CSI_VCv_CFG_LAYER (rx : Fin 2) (v : Nat) : Fld := ⟨R.CSI_VCv_CFG rx v, 18, 2⟩
def F.CSI_VCv_CFG_TAG (rx : Fin 2) (v : Nat) : Fld := ⟨R.CSI_VCv_CFG rx v, 20, 4⟩
def F.CSI_VCv_SIZE_WIDTH (rx : Fin 2) (v : Nat) : Fld := ⟨R.CSI_VCv_SIZE rx v, 0, 14⟩
def F.CSI_VCv_SIZE_HEIGHT (rx : Fin 2) (v : Nat) : Fld := ⟨R.CSI_VCv_SIZE rx v, 16, 13⟩
def F.CSI_VCv_RING_BASE_ADDR (rx : Fin 2) (v : Nat) : Fld := ⟨R.CSI_VCv_RING_BASE rx v, 0, 24⟩
def F.CSI_VCv_RING_STRIDE_ADDR (rx : Fin 2) (v : Nat) : Fld := ⟨R.CSI_VCv_RING_STRIDE rx v, 0, 24⟩
def F.CSI_VCv_PUB_NEWEST (rx : Fin 2) (v : Nat) : Fld := ⟨R.CSI_VCv_PUB rx v, 0, 2⟩
def F.CSI_VCv_PUB_WRITING (rx : Fin 2) (v : Nat) : Fld := ⟨R.CSI_VCv_PUB rx v, 2, 2⟩
def F.CSI_VCv_PUB_TAG (rx : Fin 2) (v : Nat) : Fld := ⟨R.CSI_VCv_PUB rx v, 4, 4⟩
def F.CSI_VCv_PUB_STOPPED (rx : Fin 2) (v : Nat) : Fld := ⟨R.CSI_VCv_PUB rx v, 8, 1⟩
def F.CSI_VCv_PUB_FRAMES (rx : Fin 2) (v : Nat) : Fld := ⟨R.CSI_VCv_PUB rx v, 16, 16⟩
def F.CSI_VCv_DROP_INCOMPLETE (rx : Fin 2) (v : Nat) : Fld := ⟨R.CSI_VCv_DROP rx v, 0, 15⟩
def F.CSI_VCv_DROP_CLR (rx : Fin 2) (v : Nat) : Fld := ⟨R.CSI_VCv_DROP rx v, 15, 1⟩
def F.CSI_VCv_DROP_OVERWRITTEN (rx : Fin 2) (v : Nat) : Fld := ⟨R.CSI_VCv_DROP rx v, 16, 15⟩
def F.CSI_ERR_FIRST (rx : Fin 2) : Fld := ⟨R.CSI_ERR rx, 0, 16⟩
def F.CSI_ERR_MORE (rx : Fin 2) : Fld := ⟨R.CSI_ERR rx, 16, 1⟩
def F.CSI_ERR_WR_WHILE_RUN (rx : Fin 2) : Fld := ⟨R.CSI_ERR rx, 17, 1⟩
def F.CSI_ERR_SET (rx : Fin 2) : Fld := ⟨R.CSI_ERR rx, 31, 1⟩
def F.CSI_ERR_CNT2_COUNT (rx : Fin 2) : Fld := ⟨R.CSI_ERR_CNT2 rx, 0, 16⟩
def F.FETCH_CTRL_COVER_STOP (n : Fin 4) : Fld := ⟨R.FETCH_CTRL n, 0, 1⟩
def F.FETCH_STATUS_ACTIVE (n : Fin 4) : Fld := ⟨R.FETCH_STATUS n, 0, 4⟩
def F.FETCH_STATUS_UNDERRUN (n : Fin 4) : Fld := ⟨R.FETCH_STATUS n, 4, 4⟩
def F.FETCH_STATUS_STALE (n : Fin 4) : Fld := ⟨R.FETCH_STATUS n, 8, 4⟩
def F.FETCH_STATUS_COVERED (n : Fin 4) : Fld := ⟨R.FETCH_STATUS n, 12, 4⟩
def F.FETCH_STATUS_IDLE (n : Fin 4) : Fld := ⟨R.FETCH_STATUS n, 16, 1⟩
def F.FETCH_PANIC_PANIC_LINES (n : Fin 4) : Fld := ⟨R.FETCH_PANIC n, 0, 5⟩
def F.FETCH_PANIC_RELEASE_LINES (n : Fin 4) : Fld := ⟨R.FETCH_PANIC n, 8, 5⟩
def F.FETCH_UNDERRUN_CNT_COUNT (n : Fin 4) : Fld := ⟨R.FETCH_UNDERRUN_CNT n, 0, 16⟩
def F.FETCH_UNDERRUN_CNT_CLR (n : Fin 4) : Fld := ⟨R.FETCH_UNDERRUN_CNT n, 31, 1⟩
def F.FETCH_Lx_CFG_EN (n : Fin 4) (x : Nat) : Fld := ⟨R.FETCH_Lx_CFG n x, 0, 1⟩
def F.FETCH_Lx_CFG_REQUIRE_FRESH (n : Fin 4) (x : Nat) : Fld := ⟨R.FETCH_Lx_CFG n x, 1, 1⟩
def F.FETCH_Lx_CFG_SRC (n : Fin 4) (x : Nat) : Fld := ⟨R.FETCH_Lx_CFG n x, 2, 2⟩
def F.FETCH_Lx_CFG_FMT (n : Fin 4) (x : Nat) : Fld := ⟨R.FETCH_Lx_CFG n x, 4, 3⟩
def F.FETCH_Lx_CFG_TAG (n : Fin 4) (x : Nat) : Fld := ⟨R.FETCH_Lx_CFG n x, 8, 4⟩
def F.FETCH_Lx_CFG_TIMEOUT (n : Fin 4) (x : Nat) : Fld := ⟨R.FETCH_Lx_CFG n x, 16, 8⟩
def F.FETCH_Lx_BASE0_ADDR (n : Fin 4) (x : Nat) : Fld := ⟨R.FETCH_Lx_BASE0 n x, 0, 29⟩
def F.FETCH_Lx_BASE1_ADDR (n : Fin 4) (x : Nat) : Fld := ⟨R.FETCH_Lx_BASE1 n x, 0, 29⟩
def F.FETCH_Lx_STRIDE_BYTES (n : Fin 4) (x : Nat) : Fld := ⟨R.FETCH_Lx_STRIDE n x, 0, 16⟩
def F.FETCH_Lx_SRC_SIZE_WIDTH (n : Fin 4) (x : Nat) : Fld := ⟨R.FETCH_Lx_SRC_SIZE n x, 0, 14⟩
def F.FETCH_Lx_SRC_SIZE_HEIGHT (n : Fin 4) (x : Nat) : Fld := ⟨R.FETCH_Lx_SRC_SIZE n x, 16, 13⟩
def F.FETCH_Lx_CROP_POS_X (n : Fin 4) (x : Nat) : Fld := ⟨R.FETCH_Lx_CROP_POS n x, 0, 13⟩
def F.FETCH_Lx_CROP_POS_Y (n : Fin 4) (x : Nat) : Fld := ⟨R.FETCH_Lx_CROP_POS n x, 16, 12⟩
def F.FETCH_Lx_CROP_SIZE_WIDTH (n : Fin 4) (x : Nat) : Fld := ⟨R.FETCH_Lx_CROP_SIZE n x, 0, 14⟩
def F.FETCH_Lx_CROP_SIZE_HEIGHT (n : Fin 4) (x : Nat) : Fld := ⟨R.FETCH_Lx_CROP_SIZE n x, 16, 13⟩
def F.FETCH_Lx_LIVE_ADDR (n : Fin 4) (x : Nat) : Fld := ⟨R.FETCH_Lx_LIVE n x, 0, 29⟩
def F.FETCH_Lx_STAT_AGE (n : Fin 4) (x : Nat) : Fld := ⟨R.FETCH_Lx_STAT n x, 0, 8⟩
def F.FETCH_Lx_STAT_LIVE_TAG (n : Fin 4) (x : Nat) : Fld := ⟨R.FETCH_Lx_STAT n x, 8, 4⟩
def F.FETCH_Lx_STAT_NOT_READY (n : Fin 4) (x : Nat) : Fld := ⟨R.FETCH_Lx_STAT n x, 12, 1⟩
def F.FETCH_Lx_STAT_STALE (n : Fin 4) (x : Nat) : Fld := ⟨R.FETCH_Lx_STAT n x, 13, 1⟩
def F.FETCH_Lx_STAT_UNDERRUN (n : Fin 4) (x : Nat) : Fld := ⟨R.FETCH_Lx_STAT n x, 14, 1⟩
def F.FETCH_Lx_STAT_COVERED (n : Fin 4) (x : Nat) : Fld := ⟨R.FETCH_Lx_STAT n x, 15, 1⟩
def F.FETCH_Lx_CNT_REUSE (n : Fin 4) (x : Nat) : Fld := ⟨R.FETCH_Lx_CNT n x, 0, 16⟩
def F.FETCH_Lx_CNT_DARK (n : Fin 4) (x : Nat) : Fld := ⟨R.FETCH_Lx_CNT n x, 16, 15⟩
def F.FETCH_Lx_CNT_CLR (n : Fin 4) (x : Nat) : Fld := ⟨R.FETCH_Lx_CNT n x, 31, 1⟩
def F.FETCH_ERR_FIRST (n : Fin 4) : Fld := ⟨R.FETCH_ERR n, 0, 16⟩
def F.FETCH_ERR_MORE (n : Fin 4) : Fld := ⟨R.FETCH_ERR n, 16, 1⟩
def F.FETCH_ERR_WR_WHILE_RUN (n : Fin 4) : Fld := ⟨R.FETCH_ERR n, 17, 1⟩
def F.FETCH_ERR_SET (n : Fin 4) : Fld := ⟨R.FETCH_ERR n, 31, 1⟩
def F.FETCH_ERR_CNT_COUNT (n : Fin 4) : Fld := ⟨R.FETCH_ERR_CNT n, 0, 16⟩
def F.SCL_CTRL_S0_LAYER (n : Fin 4) : Fld := ⟨R.SCL_CTRL n, 0, 2⟩
def F.SCL_CTRL_S0_EN (n : Fin 4) : Fld := ⟨R.SCL_CTRL n, 2, 1⟩
def F.SCL_CTRL_S1_LAYER (n : Fin 4) : Fld := ⟨R.SCL_CTRL n, 4, 2⟩
def F.SCL_CTRL_S1_EN (n : Fin 4) : Fld := ⟨R.SCL_CTRL n, 6, 1⟩
def F.SCL_CTRL_GANG (n : Fin 4) : Fld := ⟨R.SCL_CTRL n, 7, 1⟩
def F.SCL_CTRL_COEF_BANK (n : Fin 4) : Fld := ⟨R.SCL_CTRL n, 8, 1⟩
def F.SCL_STATUS_COEF_BANK (n : Fin 4) : Fld := ⟨R.SCL_STATUS n, 0, 1⟩
def F.SCL_Sk_HSTEP_STEP (n : Fin 4) (k : Nat) : Fld := ⟨R.SCL_Sk_HSTEP n k, 0, 20⟩
def F.SCL_Sk_VSTEP_STEP (n : Fin 4) (k : Nat) : Fld := ⟨R.SCL_Sk_VSTEP n k, 0, 20⟩
def F.SCL_Sk_HPHASE_PHASE (n : Fin 4) (k : Nat) : Fld := ⟨R.SCL_Sk_HPHASE n k, 0, 21⟩
def F.SCL_Sk_VPHASE_PHASE (n : Fin 4) (k : Nat) : Fld := ⟨R.SCL_Sk_VPHASE n k, 0, 21⟩
def F.SCL_ERR_FIRST (n : Fin 4) : Fld := ⟨R.SCL_ERR n, 0, 16⟩
def F.SCL_ERR_MORE (n : Fin 4) : Fld := ⟨R.SCL_ERR n, 16, 1⟩
def F.SCL_ERR_WR_WHILE_RUN (n : Fin 4) : Fld := ⟨R.SCL_ERR n, 17, 1⟩
def F.SCL_ERR_SET (n : Fin 4) : Fld := ⟨R.SCL_ERR n, 31, 1⟩
def F.SCL_ERR_CNT_COUNT (n : Fin 4) : Fld := ⟨R.SCL_ERR_CNT n, 0, 16⟩
def F.SCL_COEF_V (n : Fin 4) (h : Nat) : Fld := ⟨R.SCL_COEF n h, 0, 32⟩
def F.CMP_CTRL_LUT_BANK (n : Fin 4) : Fld := ⟨R.CMP_CTRL n, 0, 1⟩
def F.CMP_CTRL_FALLBACK_EN (n : Fin 4) : Fld := ⟨R.CMP_CTRL n, 1, 1⟩
def F.CMP_STATUS_LUT_BANK (n : Fin 4) : Fld := ⟨R.CMP_STATUS n, 0, 1⟩
def F.CMP_STATUS_FALLBACK (n : Fin 4) : Fld := ⟨R.CMP_STATUS n, 1, 1⟩
def F.CMP_STATUS_PATTERN_OK (n : Fin 4) : Fld := ⟨R.CMP_STATUS n, 2, 1⟩
def F.CMP_STATUS_SOFT_COUNT (n : Fin 4) : Fld := ⟨R.CMP_STATUS n, 8, 7⟩
def F.CMP_BG01_C0 (n : Fin 4) : Fld := ⟨R.CMP_BG01 n, 0, 16⟩
def F.CMP_BG01_C1 (n : Fin 4) : Fld := ⟨R.CMP_BG01 n, 16, 16⟩
def F.CMP_BG2_C2 (n : Fin 4) : Fld := ⟨R.CMP_BG2 n, 0, 16⟩
def F.CMP_GAIN_GAIN (n : Fin 4) : Fld := ⟨R.CMP_GAIN n, 0, 16⟩
def F.CMP_LUT_ADDR_ENTRY (n : Fin 4) : Fld := ⟨R.CMP_LUT_ADDR n, 0, 12⟩
def F.CMP_LUT_ADDR_BANK (n : Fin 4) : Fld := ⟨R.CMP_LUT_ADDR n, 12, 1⟩
def F.CMP_LUT_DATA_VALUE (n : Fin 4) : Fld := ⟨R.CMP_LUT_DATA n, 0, 16⟩
def F.CMP_OMATi_VALUE (n : Fin 4) (i : Nat) : Fld := ⟨R.CMP_OMATi n i, 0, 18⟩
def F.CMP_ERR_FIRST (n : Fin 4) : Fld := ⟨R.CMP_ERR n, 0, 16⟩
def F.CMP_ERR_MORE (n : Fin 4) : Fld := ⟨R.CMP_ERR n, 16, 1⟩
def F.CMP_ERR_WR_WHILE_RUN (n : Fin 4) : Fld := ⟨R.CMP_ERR n, 17, 1⟩
def F.CMP_ERR_SET (n : Fin 4) : Fld := ⟨R.CMP_ERR n, 31, 1⟩
def F.CMP_ERR_CNT_COUNT (n : Fin 4) : Fld := ⟨R.CMP_ERR_CNT n, 0, 16⟩
def F.CMP_Lx_CFG_Z (n : Fin 4) (x : Nat) : Fld := ⟨R.CMP_Lx_CFG n x, 0, 2⟩
def F.CMP_Lx_CFG_ALPHA (n : Fin 4) (x : Nat) : Fld := ⟨R.CMP_Lx_CFG n x, 8, 8⟩
def F.CMP_Lx_DST_POS_X (n : Fin 4) (x : Nat) : Fld := ⟨R.CMP_Lx_DST_POS n x, 0, 13⟩
def F.CMP_Lx_DST_POS_Y (n : Fin 4) (x : Nat) : Fld := ⟨R.CMP_Lx_DST_POS n x, 16, 11⟩
def F.CMP_Lx_DST_SIZE_W (n : Fin 4) (x : Nat) : Fld := ⟨R.CMP_Lx_DST_SIZE n x, 0, 13⟩
def F.CMP_Lx_DST_SIZE_H (n : Fin 4) (x : Nat) : Fld := ⟨R.CMP_Lx_DST_SIZE n x, 16, 11⟩
def F.CMP_Lx_MATi_VALUE (n : Fin 4) (x : Nat) (i : Nat) : Fld := ⟨R.CMP_Lx_MATi n x i, 0, 18⟩
def F.CMP_SMs_BYTES (n : Fin 4) (s : Nat) (w : Nat) : Fld := ⟨R.CMP_SMs n s w, 0, 32⟩
def F.WRP_CTRL_MODE (n : Fin 4) : Fld := ⟨R.WRP_CTRL n, 0, 1⟩
def F.WRP_CTRL_AFF_EN (n : Fin 4) : Fld := ⟨R.WRP_CTRL n, 1, 1⟩
def F.WRP_CTRL_MESH_EN (n : Fin 4) : Fld := ⟨R.WRP_CTRL n, 2, 1⟩
def F.WRP_CTRL_MESH_BANK (n : Fin 4) : Fld := ⟨R.WRP_CTRL n, 3, 1⟩
def F.WRP_CTRL_OFFSET_EN (n : Fin 4) : Fld := ⟨R.WRP_CTRL n, 4, 1⟩
def F.WRP_STATUS_MESH_BANK (n : Fin 4) : Fld := ⟨R.WRP_STATUS n, 0, 1⟩
def F.WRP_STATUS_WINDOW (n : Fin 4) : Fld := ⟨R.WRP_STATUS n, 1, 1⟩
def F.WRP_OFF_LIM_MIN (n : Fin 4) : Fld := ⟨R.WRP_OFF_LIM n, 0, 16⟩
def F.WRP_OFF_LIM_MAX (n : Fin 4) : Fld := ⟨R.WRP_OFF_LIM n, 16, 16⟩
def F.WRP_AIM_AIM (n : Fin 4) : Fld := ⟨R.WRP_AIM n, 0, 16⟩
def F.WRP_OFF_NOW_OFFSET (n : Fin 4) : Fld := ⟨R.WRP_OFF_NOW n, 0, 16⟩
def F.WRP_OFF_NOW_CLAMPED (n : Fin 4) : Fld := ⟨R.WRP_OFF_NOW n, 16, 1⟩
def F.WRP_AFF_A_V (n : Fin 4) : Fld := ⟨R.WRP_AFF_A n, 0, 32⟩
def F.WRP_AFF_B_V (n : Fin 4) : Fld := ⟨R.WRP_AFF_B n, 0, 32⟩
def F.WRP_AFF_C_V (n : Fin 4) : Fld := ⟨R.WRP_AFF_C n, 0, 32⟩
def F.WRP_AFF_D_V (n : Fin 4) : Fld := ⟨R.WRP_AFF_D n, 0, 32⟩
def F.WRP_AFF_TX_V (n : Fin 4) : Fld := ⟨R.WRP_AFF_TX n, 0, 32⟩
def F.WRP_AFF_TY_V (n : Fin 4) : Fld := ⟨R.WRP_AFF_TY n, 0, 32⟩
def F.WRP_MESH_ADDR_NODE (n : Fin 4) : Fld := ⟨R.WRP_MESH_ADDR n, 0, 11⟩
def F.WRP_MESH_ADDR_BANK (n : Fin 4) : Fld := ⟨R.WRP_MESH_ADDR n, 12, 1⟩
def F.WRP_MESH_DATA_VALUE (n : Fin 4) : Fld := ⟨R.WRP_MESH_DATA n, 0, 32⟩
def F.WRP_TRAJ_CFG_L (n : Fin 4) : Fld := ⟨R.WRP_TRAJ_CFG n, 0, 11⟩
def F.WRP_TRAJ_CFG_S (n : Fin 4) : Fld := ⟨R.WRP_TRAJ_CFG n, 16, 12⟩
def F.WRP_TRAJ_BASE_ADDR (n : Fin 4) : Fld := ⟨R.WRP_TRAJ_BASE n, 0, 24⟩
def F.WRP_ERR_FIRST (n : Fin 4) : Fld := ⟨R.WRP_ERR n, 0, 16⟩
def F.WRP_ERR_MORE (n : Fin 4) : Fld := ⟨R.WRP_ERR n, 16, 1⟩
def F.WRP_ERR_WR_WHILE_RUN (n : Fin 4) : Fld := ⟨R.WRP_ERR n, 17, 1⟩
def F.WRP_ERR_SET (n : Fin 4) : Fld := ⟨R.WRP_ERR n, 31, 1⟩
def F.WRP_ERR_CNT_COUNT (n : Fin 4) : Fld := ⟨R.WRP_ERR_CNT n, 0, 16⟩
def F.WBK_CTRL_MON_EN (n : Fin 4) : Fld := ⟨R.WBK_CTRL n, 0, 1⟩
def F.WBK_STATUS_BUF (n : Fin 4) : Fld := ⟨R.WBK_STATUS n, 0, 1⟩
def F.WBK_BASEk_ADDR (n : Fin 4) (k : Nat) : Fld := ⟨R.WBK_BASEk n k, 0, 24⟩
def F.WBK_Rr_POS_X (n : Fin 4) (r : Nat) : Fld := ⟨R.WBK_Rr_POS n r, 0, 12⟩
def F.WBK_Rr_POS_Y (n : Fin 4) (r : Nat) : Fld := ⟨R.WBK_Rr_POS n r, 16, 11⟩
def F.WBK_Rr_SIZE_W (n : Fin 4) (r : Nat) : Fld := ⟨R.WBK_Rr_SIZE n r, 0, 13⟩
def F.WBK_Rr_SIZE_H (n : Fin 4) (r : Nat) : Fld := ⟨R.WBK_Rr_SIZE n r, 16, 11⟩
def F.WBK_SIG_FRAME_COUNT (n : Fin 4) : Fld := ⟨R.WBK_SIG_FRAME n, 0, 32⟩
def F.WBK_SIGr_CRC (n : Fin 4) (r : Nat) : Fld := ⟨R.WBK_SIGr n r, 0, 32⟩
def F.WBK_ERR_FIRST (n : Fin 4) : Fld := ⟨R.WBK_ERR n, 0, 16⟩
def F.WBK_ERR_MORE (n : Fin 4) : Fld := ⟨R.WBK_ERR n, 16, 1⟩
def F.WBK_ERR_WR_WHILE_RUN (n : Fin 4) : Fld := ⟨R.WBK_ERR n, 17, 1⟩
def F.WBK_ERR_SET (n : Fin 4) : Fld := ⟨R.WBK_ERR n, 31, 1⟩
def F.WBK_ERR_CNT_COUNT (n : Fin 4) : Fld := ⟨R.WBK_ERR_CNT n, 0, 16⟩
def F.BPF_CTRL_MODE (n : Fin 4) : Fld := ⟨R.BPF_CTRL n, 0, 1⟩
def F.BPF_CTRL_DITHER_EN (n : Fin 4) : Fld := ⟨R.BPF_CTRL n, 1, 1⟩
def F.BPF_CTRL_FIELDS3 (n : Fin 4) : Fld := ⟨R.BPF_CTRL n, 2, 1⟩
def F.BPF_CTRL_REPLAY_EN (n : Fin 4) : Fld := ⟨R.BPF_CTRL n, 3, 1⟩
def F.BPF_STATUS_FIELD (n : Fin 4) : Fld := ⟨R.BPF_STATUS n, 0, 2⟩
def F.BPF_STATUS_SLOT (n : Fin 4) : Fld := ⟨R.BPF_STATUS n, 8, 6⟩
def F.BPF_STATUS_STATE (n : Fin 4) : Fld := ⟨R.BPF_STATUS n, 16, 3⟩
def F.BPF_FBk_ADDR (n : Fin 4) (k : Nat) : Fld := ⟨R.BPF_FBk n k, 0, 24⟩
def F.BPF_BLK_CFG_BLOCKS (n : Fin 4) : Fld := ⟨R.BPF_BLK_CFG n, 0, 6⟩
def F.BPF_BLK_CFG_T_MB (n : Fin 4) : Fld := ⟨R.BPF_BLK_CFG n, 8, 8⟩
def F.BPF_BLK_CFG_T_SETTLE (n : Fin 4) : Fld := ⟨R.BPF_BLK_CFG n, 16, 16⟩
def F.BPF_BLK_TIME_T_BLK (n : Fin 4) : Fld := ⟨R.BPF_BLK_TIME n, 0, 16⟩
def F.BPF_BLK_TIME_STAGE (n : Fin 4) : Fld := ⟨R.BPF_BLK_TIME n, 16, 8⟩
def F.BPF_LEAD_T (n : Fin 4) : Fld := ⟨R.BPF_LEAD n, 0, 24⟩
def F.BPF_FIELD_T_T (n : Fin 4) : Fld := ⟨R.BPF_FIELD_T n, 0, 24⟩
def F.BPF_TT_CTRL_BANK (n : Fin 4) : Fld := ⟨R.BPF_TT_CTRL n, 0, 1⟩
def F.BPF_TT_CTRL_SLOTS0 (n : Fin 4) : Fld := ⟨R.BPF_TT_CTRL n, 8, 7⟩
def F.BPF_TT_CTRL_SLOTS1 (n : Fin 4) : Fld := ⟨R.BPF_TT_CTRL n, 16, 7⟩
def F.BPF_TT_CTRL_SLOTS2 (n : Fin 4) : Fld := ⟨R.BPF_TT_CTRL n, 24, 7⟩
def F.BPF_SRCSEL_PATTERN (n : Fin 4) : Fld := ⟨R.BPF_SRCSEL n, 0, 1⟩
def F.BPF_TRIM_STATUS_CLAMPED (n : Fin 4) : Fld := ⟨R.BPF_TRIM_STATUS n, 0, 16⟩
def F.BPF_TRIM_STATUS_IGNORED (n : Fin 4) : Fld := ⟨R.BPF_TRIM_STATUS n, 16, 15⟩
def F.BPF_TRIM_STATUS_CLR (n : Fin 4) : Fld := ⟨R.BPF_TRIM_STATUS n, 31, 1⟩
def F.BPF_SCAN_CFG_LINE_T (n : Fin 4) : Fld := ⟨R.BPF_SCAN_CFG n, 0, 24⟩
def F.BPF_LATE_CNT_LATE (n : Fin 4) : Fld := ⟨R.BPF_LATE_CNT n, 0, 16⟩
def F.BPF_LATE_CNT_TRUNC (n : Fin 4) : Fld := ⟨R.BPF_LATE_CNT n, 16, 15⟩
def F.BPF_LATE_CNT_CLR (n : Fin 4) : Fld := ⟨R.BPF_LATE_CNT n, 31, 1⟩
def F.BPF_ERR_FIRST (n : Fin 4) : Fld := ⟨R.BPF_ERR n, 0, 16⟩
def F.BPF_ERR_MORE (n : Fin 4) : Fld := ⟨R.BPF_ERR n, 16, 1⟩
def F.BPF_ERR_WR_WHILE_RUN (n : Fin 4) : Fld := ⟨R.BPF_ERR n, 17, 1⟩
def F.BPF_ERR_SET (n : Fin 4) : Fld := ⟨R.BPF_ERR n, 31, 1⟩
def F.BPF_ERR_CNT_COUNT (n : Fin 4) : Fld := ⟨R.BPF_ERR_CNT n, 0, 16⟩
def F.BPF_TRIM_V (n : Fin 4) (h : Nat) : Fld := ⟨R.BPF_TRIM n h, 0, 32⟩
def F.BPF_TT_V (n : Fin 4) (h : Nat) : Fld := ⟨R.BPF_TT n h, 0, 32⟩
def F.MSK_CTRL_HARD_EN (n : Fin 4) : Fld := ⟨R.MSK_CTRL n, 0, 1⟩
def F.MSK_CTRL_RELOAD_EN (n : Fin 4) : Fld := ⟨R.MSK_CTRL n, 1, 1⟩
def F.MSK_STATUS_LIVE (n : Fin 4) : Fld := ⟨R.MSK_STATUS n, 0, 7⟩
def F.MSK_STATUS_RESENDING (n : Fin 4) : Fld := ⟨R.MSK_STATUS n, 8, 1⟩
def F.MSK_STATUS_RELOADING (n : Fin 4) : Fld := ⟨R.MSK_STATUS n, 9, 1⟩
def F.MSK_STATUS_UNACKED (n : Fin 4) : Fld := ⟨R.MSK_STATUS n, 10, 1⟩
def F.MSK_CNT_PACKETS (n : Fin 4) : Fld := ⟨R.MSK_CNT n, 0, 12⟩
def F.MSK_CNT_RELOADS (n : Fin 4) : Fld := ⟨R.MSK_CNT n, 12, 12⟩
def F.MSK_CNT_UNACKED (n : Fin 4) : Fld := ⟨R.MSK_CNT n, 24, 7⟩
def F.MSK_CNT_CLR (n : Fin 4) : Fld := ⟨R.MSK_CNT n, 31, 1⟩
def F.MSK_LAST_SLOT (n : Fin 4) : Fld := ⟨R.MSK_LAST n, 0, 6⟩
def F.MSK_LAST_GEN (n : Fin 4) : Fld := ⟨R.MSK_LAST n, 8, 8⟩
def F.MSK_LAST_CAUSE (n : Fin 4) : Fld := ⟨R.MSK_LAST n, 16, 3⟩
def F.MSK_ACK_TIME_LAST (n : Fin 4) : Fld := ⟨R.MSK_ACK_TIME n, 0, 16⟩
def F.MSK_ACK_TIME_MAX (n : Fin 4) : Fld := ⟨R.MSK_ACK_TIME n, 16, 16⟩
def F.MSK_INJ_BYTES (n : Fin 4) (w : Nat) : Fld := ⟨R.MSK_INJ n w, 0, 32⟩
def F.MSK_INJ_GO_GO (n : Fin 4) : Fld := ⟨R.MSK_INJ_GO n, 0, 1⟩
def F.MSK_ERR_FIRST (n : Fin 4) : Fld := ⟨R.MSK_ERR n, 0, 16⟩
def F.MSK_ERR_MORE (n : Fin 4) : Fld := ⟨R.MSK_ERR n, 16, 1⟩
def F.MSK_ERR_WR_WHILE_RUN (n : Fin 4) : Fld := ⟨R.MSK_ERR n, 17, 1⟩
def F.MSK_ERR_SET (n : Fin 4) : Fld := ⟨R.MSK_ERR n, 31, 1⟩
def F.MSK_ERR_CNT_COUNT (n : Fin 4) : Fld := ⟨R.MSK_ERR_CNT n, 0, 16⟩
def F.MSK_HMs_BYTES (n : Fin 4) (s : Nat) (w : Nat) : Fld := ⟨R.MSK_HMs n s w, 0, 32⟩
def F.MSK_HSs_GEN (n : Fin 4) (s : Nat) : Fld := ⟨R.MSK_HSs n s, 0, 8⟩
def F.MSK_HSs_ACK_GEN (n : Fin 4) (s : Nat) : Fld := ⟨R.MSK_HSs n s, 8, 8⟩
def F.MSK_HSs_LIVE (n : Fin 4) (s : Nat) : Fld := ⟨R.MSK_HSs n s, 16, 1⟩
def F.MSK_HRs_REMAIN (n : Fin 4) (s : Nat) : Fld := ⟨R.MSK_HRs n s, 0, 17⟩
def F.SRC_CTRL_EN (n : Fin 4) : Fld := ⟨R.SRC_CTRL n, 0, 4⟩
def F.SRC_CTRL_SP_SEL (n : Fin 4) : Fld := ⟨R.SRC_CTRL n, 4, 4⟩
def F.SRC_STATUS_ARM (n : Fin 4) : Fld := ⟨R.SRC_STATUS n, 0, 4⟩
def F.SRC_STATUS_PARK (n : Fin 4) : Fld := ⟨R.SRC_STATUS n, 4, 1⟩
def F.SRC_STATUS_PARKED (n : Fin 4) : Fld := ⟨R.SRC_STATUS n, 5, 1⟩
def F.SRC_STATUS_EN_DRIVEN (n : Fin 4) : Fld := ⟨R.SRC_STATUS n, 6, 1⟩
def F.SRC_STATUS_EN_PAD (n : Fin 4) : Fld := ⟨R.SRC_STATUS n, 7, 1⟩
def F.SRC_STATUS_MISMATCH (n : Fin 4) : Fld := ⟨R.SRC_STATUS n, 8, 1⟩
def F.SRC_STATUS_LAW_ARMED (n : Fin 4) : Fld := ⟨R.SRC_STATUS n, 9, 1⟩
def F.SRC_STATUS_DERATING (n : Fin 4) : Fld := ⟨R.SRC_STATUS n, 10, 1⟩
def F.SRC_STATUS_INPUT_LOST (n : Fin 4) : Fld := ⟨R.SRC_STATUS n, 11, 1⟩
def F.SRC_STATUS_F (n : Fin 4) : Fld := ⟨R.SRC_STATUS n, 16, 13⟩
def F.SRC_DERATE_CFG_KNEE (n : Fin 4) : Fld := ⟨R.SRC_DERATE_CFG n, 0, 8⟩
def F.SRC_DERATE_CFG_SLOPE (n : Fin 4) : Fld := ⟨R.SRC_DERATE_CFG n, 8, 7⟩
def F.SRC_DERATE_CFG_FLOOR (n : Fin 4) : Fld := ⟨R.SRC_DERATE_CFG n, 16, 7⟩
def F.SRC_DERATE_CFG_TSEL (n : Fin 4) : Fld := ⟨R.SRC_DERATE_CFG n, 24, 2⟩
def F.SRC_DERATE_CFG_ARMED (n : Fin 4) : Fld := ⟨R.SRC_DERATE_CFG n, 31, 1⟩
def F.SRC_DERATE_TEMP_T (n : Fin 4) : Fld := ⟨R.SRC_DERATE_TEMP n, 0, 16⟩
def F.SRC_DERATE_TEMP_TH (n : Fin 4) : Fld := ⟨R.SRC_DERATE_TEMP n, 16, 16⟩
def F.SRC_TGEN_SENT (n : Fin 4) : Fld := ⟨R.SRC_TGEN n, 0, 4⟩
def F.SRC_TGEN_ACKED (n : Fin 4) : Fld := ⟨R.SRC_TGEN n, 4, 4⟩
def F.SRC_SPs_SP (n : Fin 4) (s : Nat) : Fld := ⟨R.SRC_SPs n s, 0, 16⟩
def F.SRC_SPLIMs_MIN (n : Fin 4) (s : Nat) : Fld := ⟨R.SRC_SPLIMs n s, 0, 16⟩
def F.SRC_SPLIMs_MAX (n : Fin 4) (s : Nat) : Fld := ⟨R.SRC_SPLIMs n s, 16, 16⟩
def F.SRC_SPNOWs_EFF (n : Fin 4) (s : Nat) : Fld := ⟨R.SRC_SPNOWs n s, 0, 16⟩
def F.SRC_SPNOWs_TUTOR (n : Fin 4) (s : Nat) : Fld := ⟨R.SRC_SPNOWs n s, 16, 16⟩
def F.SRC_AMPs_l_A (n : Fin 4) (s : Nat) (l : Nat) : Fld := ⟨R.SRC_AMPs_l n s l, 0, 17⟩
def F.SRC_ERR_FIRST (n : Fin 4) : Fld := ⟨R.SRC_ERR n, 0, 16⟩
def F.SRC_ERR_MORE (n : Fin 4) : Fld := ⟨R.SRC_ERR n, 16, 1⟩
def F.SRC_ERR_WR_WHILE_RUN (n : Fin 4) : Fld := ⟨R.SRC_ERR n, 17, 1⟩
def F.SRC_ERR_SET (n : Fin 4) : Fld := ⟨R.SRC_ERR n, 31, 1⟩
def F.SRC_ERR_CNT_COUNT (n : Fin 4) : Fld := ⟨R.SRC_ERR_CNT n, 0, 16⟩
def F.LNK_CTRL_EN (n : Fin 4) : Fld := ⟨R.LNK_CTRL n, 0, 1⟩
def F.LNK_CTRL_REPLAY_EN (n : Fin 4) : Fld := ⟨R.LNK_CTRL n, 1, 1⟩
def F.LNK_CTRL_LOOPBACK (n : Fin 4) : Fld := ⟨R.LNK_CTRL n, 2, 1⟩
def F.LNK_STATUS_STATE (n : Fin 4) : Fld := ⟨R.LNK_STATUS n, 0, 3⟩
def F.LNK_STATUS_F0_LOCK (n : Fin 4) : Fld := ⟨R.LNK_STATUS n, 3, 1⟩
def F.LNK_STATUS_F1_LOCK (n : Fin 4) : Fld := ⟨R.LNK_STATUS n, 4, 1⟩
def F.LNK_STATUS_B_LOCK (n : Fin 4) : Fld := ⟨R.LNK_STATUS n, 5, 1⟩
def F.LNK_STATUS_DOWN_REASON (n : Fin 4) : Fld := ⟨R.LNK_STATUS n, 8, 3⟩
def F.LNK_STATUS_NODE_BOOT (n : Fin 4) : Fld := ⟨R.LNK_STATUS n, 16, 8⟩
def F.LNK_STATUS_RETRAINS (n : Fin 4) : Fld := ⟨R.LNK_STATUS n, 24, 8⟩
def F.LNK_MODE_LANES (n : Fin 4) : Fld := ⟨R.LNK_MODE n, 0, 2⟩
def F.LNK_MODE_RATE (n : Fin 4) : Fld := ⟨R.LNK_MODE n, 4, 3⟩
def F.LNK_MODE_BACK (n : Fin 4) : Fld := ⟨R.LNK_MODE n, 8, 1⟩
def F.LNK_BEST_LANES (n : Fin 4) : Fld := ⟨R.LNK_BEST n, 0, 2⟩
def F.LNK_BEST_RATE (n : Fin 4) : Fld := ⟨R.LNK_BEST n, 4, 3⟩
def F.LNK_BEST_BACK (n : Fin 4) : Fld := ⟨R.LNK_BEST n, 8, 1⟩
def F.LNK_BEST_TABLE (n : Fin 4) : Fld := ⟨R.LNK_BEST n, 16, 7⟩
def F.LNK_BEST_TWO (n : Fin 4) : Fld := ⟨R.LNK_BEST n, 24, 7⟩
def F.LNK_LIMIT_LANES (n : Fin 4) : Fld := ⟨R.LNK_LIMIT n, 0, 2⟩
def F.LNK_LIMIT_RATE (n : Fin 4) : Fld := ⟨R.LNK_LIMIT n, 4, 3⟩
def F.LNK_LIMIT_BACK (n : Fin 4) : Fld := ⟨R.LNK_LIMIT n, 8, 1⟩
def F.LNK_EQ_THR_MIN_EYE (n : Fin 4) : Fld := ⟨R.LNK_EQ_THR n, 0, 6⟩
def F.LNK_EQ_THR_MAX_ERR (n : Fin 4) : Fld := ⟨R.LNK_EQ_THR n, 16, 16⟩
def F.LNK_TIMING_T_BLK (n : Fin 4) : Fld := ⟨R.LNK_TIMING n, 0, 16⟩
def F.LNK_TIMING_T_W (n : Fin 4) : Fld := ⟨R.LNK_TIMING n, 16, 16⟩
def F.LNK_LT_LT (n : Fin 4) : Fld := ⟨R.LNK_LT n, 0, 32⟩
def F.LNK_DELAY_FWD (n : Fin 4) : Fld := ⟨R.LNK_DELAY n, 0, 16⟩
def F.LNK_DELAY_RT (n : Fin 4) : Fld := ⟨R.LNK_DELAY n, 16, 16⟩
def F.LNK_CNT0_REPLAYED (n : Fin 4) : Fld := ⟨R.LNK_CNT0 n, 0, 16⟩
def F.LNK_CNT0_HELD (n : Fin 4) : Fld := ⟨R.LNK_CNT0 n, 16, 15⟩
def F.LNK_CNT0_CLR (n : Fin 4) : Fld := ⟨R.LNK_CNT0 n, 31, 1⟩
def F.LNK_CNT1_NAKS (n : Fin 4) : Fld := ⟨R.LNK_CNT1 n, 0, 16⟩
def F.LNK_CNT1_BACK_CRC (n : Fin 4) : Fld := ⟨R.LNK_CNT1 n, 16, 15⟩
def F.LNK_CNT1_CLR (n : Fin 4) : Fld := ⟨R.LNK_CNT1 n, 31, 1⟩
def F.LNK_CNT2_LATE (n : Fin 4) : Fld := ⟨R.LNK_CNT2 n, 0, 16⟩
def F.LNK_CNT2_CS_ERR (n : Fin 4) : Fld := ⟨R.LNK_CNT2 n, 16, 15⟩
def F.LNK_CNT2_CLR (n : Fin 4) : Fld := ⟨R.LNK_CNT2 n, 31, 1⟩
def F.LNK_NODE_STAT_BYTES (n : Fin 4) : Fld := ⟨R.LNK_NODE_STAT n, 0, 32⟩
def F.LNK_EQ_F0_PRE (n : Fin 4) : Fld := ⟨R.LNK_EQ_F0 n, 0, 8⟩
def F.LNK_EQ_F0_POST (n : Fin 4) : Fld := ⟨R.LNK_EQ_F0 n, 8, 8⟩
def F.LNK_EQ_F0_MAIN (n : Fin 4) : Fld := ⟨R.LNK_EQ_F0 n, 16, 8⟩
def F.LNK_EQ_F1_PRE (n : Fin 4) : Fld := ⟨R.LNK_EQ_F1 n, 0, 8⟩
def F.LNK_EQ_F1_POST (n : Fin 4) : Fld := ⟨R.LNK_EQ_F1 n, 8, 8⟩
def F.LNK_EQ_F1_MAIN (n : Fin 4) : Fld := ⟨R.LNK_EQ_F1 n, 16, 8⟩
def F.LNK_EQ_B_CTLE (n : Fin 4) : Fld := ⟨R.LNK_EQ_B n, 0, 4⟩
def F.LNK_CAP_BYTES (n : Fin 4) (w : Nat) : Fld := ⟨R.LNK_CAP n w, 0, 32⟩
def F.LNK_ERR_FIRST (n : Fin 4) : Fld := ⟨R.LNK_ERR n, 0, 16⟩
def F.LNK_ERR_MORE (n : Fin 4) : Fld := ⟨R.LNK_ERR n, 16, 1⟩
def F.LNK_ERR_WR_WHILE_RUN (n : Fin 4) : Fld := ⟨R.LNK_ERR n, 17, 1⟩
def F.LNK_ERR_SET (n : Fin 4) : Fld := ⟨R.LNK_ERR n, 31, 1⟩
def F.LNK_ERR_CNT_COUNT (n : Fin 4) : Fld := ⟨R.LNK_ERR_CNT n, 0, 16⟩
def F.CHN_CTRL_EN (n : Fin 4) : Fld := ⟨R.CHN_CTRL n, 0, 1⟩
def F.CHN_CTRL_SWAP_SRC (n : Fin 4) : Fld := ⟨R.CHN_CTRL n, 1, 2⟩
def F.CHN_CTRL_STORED (n : Fin 4) : Fld := ⟨R.CHN_CTRL n, 3, 1⟩
def F.CHN_CTRL_OE (n : Fin 4) : Fld := ⟨R.CHN_CTRL n, 4, 1⟩
def F.CHN_STATUS_STATE (n : Fin 4) : Fld := ⟨R.CHN_STATUS n, 0, 2⟩
def F.CHN_STATUS_RELOADING (n : Fin 4) : Fld := ⟨R.CHN_STATUS n, 2, 1⟩
def F.CHN_STATUS_SHIFT_BANK (n : Fin 4) : Fld := ⟨R.CHN_STATUS n, 3, 1⟩
def F.CHN_STATUS_FILL_READY (n : Fin 4) : Fld := ⟨R.CHN_STATUS n, 4, 1⟩
def F.CHN_STATUS_LAT_WAIT (n : Fin 4) : Fld := ⟨R.CHN_STATUS n, 5, 1⟩
def F.CHN_STATUS_OE_LOW (n : Fin 4) : Fld := ⟨R.CHN_STATUS n, 6, 1⟩
def F.CHN_STATUS_UNVERIFIED (n : Fin 4) : Fld := ⟨R.CHN_STATUS n, 16, 14⟩
def F.CHN_MODE_DRIVERS (n : Fin 4) : Fld := ⟨R.CHN_MODE n, 0, 7⟩
def F.CHN_MODE_MUX (n : Fin 4) : Fld := ⟨R.CHN_MODE n, 8, 4⟩
def F.CHN_MODE_PWM (n : Fin 4) : Fld := ⟨R.CHN_MODE n, 12, 2⟩
def F.CHN_MODE_DIV (n : Fin 4) : Fld := ⟨R.CHN_MODE n, 16, 9⟩
def F.CHN_CFG_GB (n : Fin 4) : Fld := ⟨R.CHN_CFG n, 0, 7⟩
def F.CHN_CFG_SOURCE (n : Fin 4) : Fld := ⟨R.CHN_CFG n, 8, 2⟩
def F.CHN_ASSET_ADDR (n : Fin 4) : Fld := ⟨R.CHN_ASSET n, 0, 24⟩
def F.CHN_ANIM_REPEATS (n : Fin 4) : Fld := ⟨R.CHN_ANIM n, 0, 16⟩
def F.CHN_ANIM_START (n : Fin 4) : Fld := ⟨R.CHN_ANIM n, 16, 1⟩
def F.CHN_AUDIT_WINDOW (n : Fin 4) : Fld := ⟨R.CHN_AUDIT n, 0, 11⟩
def F.CHN_GARM_MASK (n : Fin 4) : Fld := ⟨R.CHN_GARM n, 0, 32⟩
def F.CHN_GPROBE_MASK (n : Fin 4) : Fld := ⟨R.CHN_GPROBE n, 0, 32⟩
def F.CHN_MEM_ADDR_OFFSET (n : Fin 4) : Fld := ⟨R.CHN_MEM_ADDR n, 0, 14⟩
def F.CHN_MEM_ADDR_BANK (n : Fin 4) : Fld := ⟨R.CHN_MEM_ADDR n, 14, 1⟩
def F.CHN_MEM_DATA_VALUE (n : Fin 4) : Fld := ⟨R.CHN_MEM_DATA n, 0, 16⟩
def F.CHN_SEQ_SEQ (n : Fin 4) : Fld := ⟨R.CHN_SEQ n, 0, 8⟩
def F.CHN_SNAP_SEQ (n : Fin 4) : Fld := ⟨R.CHN_SNAP n, 0, 8⟩
def F.CHN_SNAP_SWAPS (n : Fin 4) : Fld := ⟨R.CHN_SNAP n, 8, 24⟩
def F.CHN_RC_RESULT (n : Fin 4) : Fld := ⟨R.CHN_RC n, 0, 2⟩
def F.CHN_RC_COUNTED (n : Fin 4) : Fld := ⟨R.CHN_RC n, 8, 8⟩
def F.CHN_RC_TDIAG (n : Fin 4) : Fld := ⟨R.CHN_RC n, 16, 16⟩
def F.CHN_CNT0_RELOADS (n : Fin 4) : Fld := ⟨R.CHN_CNT0 n, 0, 16⟩
def F.CHN_CNT0_REPEATS (n : Fin 4) : Fld := ⟨R.CHN_CNT0 n, 16, 15⟩
def F.CHN_CNT0_CLR (n : Fin 4) : Fld := ⟨R.CHN_CNT0 n, 31, 1⟩
def F.CHN_CNT1_RET_ERR (n : Fin 4) : Fld := ⟨R.CHN_CNT1 n, 0, 16⟩
def F.CHN_CNT1_PROBES (n : Fin 4) : Fld := ⟨R.CHN_CNT1 n, 16, 15⟩
def F.CHN_CNT1_CLR (n : Fin 4) : Fld := ⟨R.CHN_CNT1 n, 31, 1⟩
def F.CHN_LAST_RET_ADDR (n : Fin 4) : Fld := ⟨R.CHN_LAST_RET n, 0, 8⟩
def F.CHN_LAST_RET_KIND (n : Fin 4) : Fld := ⟨R.CHN_LAST_RET n, 8, 2⟩
def F.CHN_LAST_RET_SEQ (n : Fin 4) : Fld := ⟨R.CHN_LAST_RET n, 16, 8⟩
def F.CHN_ERR_FIRST (n : Fin 4) : Fld := ⟨R.CHN_ERR n, 0, 16⟩
def F.CHN_ERR_MORE (n : Fin 4) : Fld := ⟨R.CHN_ERR n, 16, 1⟩
def F.CHN_ERR_WR_WHILE_RUN (n : Fin 4) : Fld := ⟨R.CHN_ERR n, 17, 1⟩
def F.CHN_ERR_SET (n : Fin 4) : Fld := ⟨R.CHN_ERR n, 31, 1⟩
def F.CHN_ERR_CNT_COUNT (n : Fin 4) : Fld := ⟨R.CHN_ERR_CNT n, 0, 16⟩
def F.CHN_RNGr_A_FIRST (n : Fin 4) (r : Nat) : Fld := ⟨R.CHN_RNGr_A n r, 0, 13⟩
def F.CHN_RNGr_A_COUNT (n : Fin 4) (r : Nat) : Fld := ⟨R.CHN_RNGr_A n r, 16, 14⟩
def F.CHN_RNGr_B_GROUP (n : Fin 4) (r : Nat) : Fld := ⟨R.CHN_RNGr_B n r, 0, 5⟩
def F.CHN_RNGr_B_VALID (n : Fin 4) (r : Nat) : Fld := ⟨R.CHN_RNGr_B n r, 31, 1⟩
def F.CHN_GTGTg_TARGET (n : Fin 4) (g : Nat) : Fld := ⟨R.CHN_GTGTg n g, 0, 16⟩
def F.CHN_GTGTg_FADE (n : Fin 4) (g : Nat) : Fld := ⟨R.CHN_GTGTg n g, 16, 8⟩
def F.CHN_GLVLg_LEVEL (n : Fin 4) (g : Nat) : Fld := ⟨R.CHN_GLVLg n g, 0, 16⟩
def F.CHN_GLVLg_FORCED (n : Fin 4) (g : Nat) : Fld := ⟨R.CHN_GLVLg n g, 24, 1⟩
def F.CHN_DRVd_ID (n : Fin 4) (d : Nat) : Fld := ⟨R.CHN_DRVd n d, 0, 30⟩
def F.CHN_DSTATd_WORD (n : Fin 4) (d : Nat) : Fld := ⟨R.CHN_DSTATd n d, 0, 16⟩
def F.TUT_STATUS_RUNNING (n : Fin 4) : Fld := ⟨R.TUT_STATUS n, 0, 4⟩
def F.TUT_STATUS_FROZEN (n : Fin 4) : Fld := ⟨R.TUT_STATUS n, 4, 4⟩
def F.TUT_STATUS_ALIGNED (n : Fin 4) : Fld := ⟨R.TUT_STATUS n, 8, 4⟩
def F.TUT_SAT_OUT_SAT (n : Fin 4) : Fld := ⟨R.TUT_SAT n, 0, 4⟩
def F.TUT_SAT_ROUTE_SAT (n : Fin 4) : Fld := ⟨R.TUT_SAT n, 4, 4⟩
def F.TUT_SAT_STATE_SAT (n : Fin 4) : Fld := ⟨R.TUT_SAT n, 8, 4⟩
def F.TUT_SAT_INNOV (n : Fin 4) : Fld := ⟨R.TUT_SAT n, 12, 4⟩
def F.TUT_LAMP_T_T (n : Fin 4) : Fld := ⟨R.TUT_LAMP_T n, 0, 16⟩
def F.TUT_TRC_CFG_CTX (n : Fin 4) : Fld := ⟨R.TUT_TRC_CFG n, 0, 2⟩
def F.TUT_TRC_CFG_TRIGGER (n : Fin 4) : Fld := ⟨R.TUT_TRC_CFG n, 2, 2⟩
def F.TUT_TRC_CFG_ARM (n : Fin 4) : Fld := ⟨R.TUT_TRC_CFG n, 4, 1⟩
def F.TUT_TRC_CFG_DECIM (n : Fin 4) : Fld := ⟨R.TUT_TRC_CFG n, 8, 8⟩
def F.TUT_TRC_CFG_LENGTH (n : Fin 4) : Fld := ⟨R.TUT_TRC_CFG n, 16, 14⟩
def F.TUT_TRC_NODES_SEL (n : Fin 4) : Fld := ⟨R.TUT_TRC_NODES n, 0, 32⟩
def F.TUT_TRC_EVT_CODE (n : Fin 4) : Fld := ⟨R.TUT_TRC_EVT n, 0, 16⟩
def F.TUT_TRC_STATUS_STATE (n : Fin 4) : Fld := ⟨R.TUT_TRC_STATUS n, 0, 2⟩
def F.TUT_TRC_STATUS_XSAT (n : Fin 4) : Fld := ⟨R.TUT_TRC_STATUS n, 2, 1⟩
def F.TUT_TRC_STATUS_WORDS (n : Fin 4) : Fld := ⟨R.TUT_TRC_STATUS n, 16, 14⟩
def F.TUT_TRC_INJ_INDEX (n : Fin 4) : Fld := ⟨R.TUT_TRC_INJ n, 0, 16⟩
def F.TUT_INJ_CFG_CTX (n : Fin 4) : Fld := ⟨R.TUT_INJ_CFG n, 0, 2⟩
def F.TUT_INJ_CFG_SIGNAL (n : Fin 4) : Fld := ⟨R.TUT_INJ_CFG n, 2, 3⟩
def F.TUT_INJ_CFG_START (n : Fin 4) : Fld := ⟨R.TUT_INJ_CFG n, 5, 1⟩
def F.TUT_INJ_CFG_GO (n : Fin 4) : Fld := ⟨R.TUT_INJ_CFG n, 6, 1⟩
def F.TUT_INJ_CFG_NODE (n : Fin 4) : Fld := ⟨R.TUT_INJ_CFG n, 8, 8⟩
def F.TUT_INJ_CFG_TABLE_LEN (n : Fin 4) : Fld := ⟨R.TUT_INJ_CFG n, 16, 11⟩
def F.TUT_INJ_AMP_A (n : Fin 4) : Fld := ⟨R.TUT_INJ_AMP n, 0, 32⟩
def F.TUT_INJ_P1_V (n : Fin 4) : Fld := ⟨R.TUT_INJ_P1 n, 0, 32⟩
def F.TUT_INJ_P2_V (n : Fin 4) : Fld := ⟨R.TUT_INJ_P2 n, 0, 32⟩
def F.TUT_INJ_DUR_D (n : Fin 4) : Fld := ⟨R.TUT_INJ_DUR n, 0, 32⟩
def F.TUT_INJ_STATUS_STATE (n : Fin 4) : Fld := ⟨R.TUT_INJ_STATUS n, 0, 2⟩
def F.TUT_INJ_STATUS_SAMPLES (n : Fin 4) : Fld := ⟨R.TUT_INJ_STATUS n, 16, 16⟩
def F.TUT_ERR_FIRST (n : Fin 4) : Fld := ⟨R.TUT_ERR n, 0, 16⟩
def F.TUT_ERR_MORE (n : Fin 4) : Fld := ⟨R.TUT_ERR n, 16, 1⟩
def F.TUT_ERR_WR_WHILE_RUN (n : Fin 4) : Fld := ⟨R.TUT_ERR n, 17, 1⟩
def F.TUT_ERR_SET (n : Fin 4) : Fld := ⟨R.TUT_ERR n, 31, 1⟩
def F.TUT_ERR_CNT_COUNT (n : Fin 4) : Fld := ⟨R.TUT_ERR_CNT n, 0, 16⟩
def F.TUT_CTXc_CTRL_EN (n : Fin 4) (c : Nat) : Fld := ⟨R.TUT_CTXc_CTRL n c, 0, 1⟩
def F.TUT_CTXc_CTRL_INNOV_CLIP (n : Fin 4) (c : Nat) : Fld := ⟨R.TUT_CTXc_CTRL n c, 1, 1⟩
def F.TUT_CTXc_CTRL_TEMPLATE (n : Fin 4) (c : Nat) : Fld := ⟨R.TUT_CTXc_CTRL n c, 2, 2⟩
def F.TUT_CTXc_CTRL_REF_DERATE (n : Fin 4) (c : Nat) : Fld := ⟨R.TUT_CTXc_CTRL n c, 4, 4⟩
def F.TUT_CTXc_CTRL_FREEZE_N (n : Fin 4) (c : Nat) : Fld := ⟨R.TUT_CTXc_CTRL n c, 8, 8⟩
def F.TUT_CTXc_CTRL_NX_M1 (n : Fin 4) (c : Nat) : Fld := ⟨R.TUT_CTXc_CTRL n c, 16, 4⟩
def F.TUT_CTXc_CTRL_NZ_M1 (n : Fin 4) (c : Nat) : Fld := ⟨R.TUT_CTXc_CTRL n c, 20, 3⟩
def F.TUT_CTXc_CTRL_ALIGN (n : Fin 4) (c : Nat) : Fld := ⟨R.TUT_CTXc_CTRL n c, 23, 1⟩
def F.TUT_CTXc_CTRL_NU_M1 (n : Fin 4) (c : Nat) : Fld := ⟨R.TUT_CTXc_CTRL n c, 24, 2⟩
def F.TUT_CTXc_PERIOD_CYCLES (n : Fin 4) (c : Nat) : Fld := ⟨R.TUT_CTXc_PERIOD n c, 0, 20⟩
def F.TUT_CTXc_PERIOD_M (n : Fin 4) (c : Nat) : Fld := ⟨R.TUT_CTXc_PERIOD n c, 20, 10⟩
def F.TUT_CTXc_PHASE_PHI (n : Fin 4) (c : Nat) : Fld := ⟨R.TUT_CTXc_PHASE n c, 0, 20⟩
def F.TUT_CTXc_STATUS_RUNNING (n : Fin 4) (c : Nat) : Fld := ⟨R.TUT_CTXc_STATUS n c, 0, 1⟩
def F.TUT_CTXc_STATUS_FROZEN (n : Fin 4) (c : Nat) : Fld := ⟨R.TUT_CTXc_STATUS n c, 1, 1⟩
def F.TUT_CTXc_STATUS_ABSENT (n : Fin 4) (c : Nat) : Fld := ⟨R.TUT_CTXc_STATUS n c, 2, 8⟩
def F.TUT_CTXc_STATUS_LATCHES (n : Fin 4) (c : Nat) : Fld := ⟨R.TUT_CTXc_STATUS n c, 16, 16⟩
def F.TUT_CTXc_REFi_R (n : Fin 4) (c : Nat) (i : Nat) : Fld := ⟨R.TUT_CTXc_REFi n c i, 0, 32⟩
def F.TUT_CTXc_ZSELi_SRC (n : Fin 4) (c : Nat) (i : Nat) : Fld := ⟨R.TUT_CTXc_ZSELi n c i, 0, 3⟩
def F.TUT_CTXc_ZSELi_SENSOR (n : Fin 4) (c : Nat) (i : Nat) : Fld := ⟨R.TUT_CTXc_ZSELi n c i, 4, 4⟩
def F.TUT_CTXc_ZSELi_GATE_EN (n : Fin 4) (c : Nat) (i : Nat) : Fld := ⟨R.TUT_CTXc_ZSELi n c i, 8, 1⟩
def F.TUT_CTXc_ZSELi_GATE_LEVEL (n : Fin 4) (c : Nat) (i : Nat) : Fld := ⟨R.TUT_CTXc_ZSELi n c i, 9, 3⟩
def F.TUT_CTXc_ZSELi_GATE_SRC (n : Fin 4) (c : Nat) (i : Nat) : Fld := ⟨R.TUT_CTXc_ZSELi n c i, 12, 4⟩
def F.TUT_CTXc_ZSCALEi_V (n : Fin 4) (c : Nat) (i : Nat) : Fld := ⟨R.TUT_CTXc_ZSCALEi n c i, 0, 32⟩
def F.TUT_CTXc_ZOFFi_V (n : Fin 4) (c : Nat) (i : Nat) : Fld := ⟨R.TUT_CTXc_ZOFFi n c i, 0, 32⟩
def F.TUT_CTXc_EBOUNDi_V (n : Fin 4) (c : Nat) (i : Nat) : Fld := ⟨R.TUT_CTXc_EBOUNDi n c i, 0, 32⟩
def F.TUT_CTXc_ROUTEj_SEL (n : Fin 4) (c : Nat) (j : Nat) : Fld := ⟨R.TUT_CTXc_ROUTEj n c j, 0, 4⟩
def F.TUT_CTXc_ROUTEj_DEST (n : Fin 4) (c : Nat) (j : Nat) : Fld := ⟨R.TUT_CTXc_ROUTEj n c j, 4, 3⟩
def F.TUT_CTXc_ROUTEj_SRCMASK (n : Fin 4) (c : Nat) (j : Nat) : Fld := ⟨R.TUT_CTXc_ROUTEj n c j, 8, 4⟩
def F.TUT_CTXc_ROUTEj_LEVEL (n : Fin 4) (c : Nat) (j : Nat) : Fld := ⟨R.TUT_CTXc_ROUTEj n c j, 12, 3⟩
def F.TUT_CTXc_ROUTEj_FMASK (n : Fin 4) (c : Nat) (j : Nat) : Fld := ⟨R.TUT_CTXc_ROUTEj n c j, 16, 3⟩
def F.TUT_CTXc_ROUTEj_SHIFT (n : Fin 4) (c : Nat) (j : Nat) : Fld := ⟨R.TUT_CTXc_ROUTEj n c j, 24, 5⟩
def F.TUT_CTXc_TAPt_SEL (n : Fin 4) (c : Nat) (t : Nat) : Fld := ⟨R.TUT_CTXc_TAPt n c t, 0, 4⟩
def F.TUT_CTXc_TAPt_DEST (n : Fin 4) (c : Nat) (t : Nat) : Fld := ⟨R.TUT_CTXc_TAPt n c t, 4, 3⟩
def F.TUT_CTXc_TAPt_SRCMASK (n : Fin 4) (c : Nat) (t : Nat) : Fld := ⟨R.TUT_CTXc_TAPt n c t, 8, 4⟩
def F.TUT_CTXc_TAPt_LEVEL (n : Fin 4) (c : Nat) (t : Nat) : Fld := ⟨R.TUT_CTXc_TAPt n c t, 12, 3⟩
def F.TUT_CTXc_TAPt_FMASK (n : Fin 4) (c : Nat) (t : Nat) : Fld := ⟨R.TUT_CTXc_TAPt n c t, 16, 3⟩
def F.TUT_CTXc_TAPt_SHIFT (n : Fin 4) (c : Nat) (t : Nat) : Fld := ⟨R.TUT_CTXc_TAPt n c t, 24, 5⟩
def F.TUT_CTXc_ZFWi_SAMPLE (n : Fin 4) (c : Nat) (i : Nat) : Fld := ⟨R.TUT_CTXc_ZFWi n c i, 0, 16⟩
def F.TUT_CTXc_MAT_V (n : Fin 4) (c : Nat) (w : Nat) : Fld := ⟨R.TUT_CTXc_MAT n c w, 0, 32⟩
def F.TUT_CTXc_Xi_LO_V (n : Fin 4) (c : Nat) (i : Nat) : Fld := ⟨R.TUT_CTXc_Xi_LO n c i, 0, 32⟩
def F.TUT_CTXc_Xi_HI_V (n : Fin 4) (c : Nat) (i : Nat) : Fld := ⟨R.TUT_CTXc_Xi_HI n c i, 0, 8⟩
def F.TUT_CTXc_Uj_U (n : Fin 4) (c : Nat) (j : Nat) : Fld := ⟨R.TUT_CTXc_Uj n c j, 0, 32⟩
def F.TUT_INJ_TABLEe_V (n : Fin 4) (e : Nat) : Fld := ⟨R.TUT_INJ_TABLEe n e, 0, 32⟩
def F.TUT_TRC_WORDw_V (n : Fin 4) (w : Nat) : Fld := ⟨R.TUT_TRC_WORDw n w, 0, 32⟩
def F.CAL_CTRL_AUTO : Fld := ⟨R.CAL_CTRL, 0, 1⟩
def F.CAL_CFG_DELTA_T : Fld := ⟨R.CAL_CFG, 0, 5⟩
def F.CAL_CFG_DEFER : Fld := ⟨R.CAL_CFG, 8, 8⟩
def F.CAL_STATUS_BUSY : Fld := ⟨R.CAL_STATUS, 0, 1⟩
def F.CAL_STATUS_COMMANDED : Fld := ⟨R.CAL_STATUS, 1, 1⟩
def F.CAL_STATUS_WAITING : Fld := ⟨R.CAL_STATUS, 2, 1⟩
def F.CAL_STATUS_UNMET : Fld := ⟨R.CAL_STATUS, 3, 5⟩
def F.CAL_STATUS_ITEM : Fld := ⟨R.CAL_STATUS, 8, 4⟩
def F.CAL_STATUS_PAIR : Fld := ⟨R.CAL_STATUS, 12, 2⟩
def F.CAL_STATUS_TAKE : Fld := ⟨R.CAL_STATUS, 14, 1⟩
def F.CAL_STATUS_FALLBACK : Fld := ⟨R.CAL_STATUS, 15, 1⟩
def F.CAL_DUE_DUE : Fld := ⟨R.CAL_DUE, 0, 14⟩
def F.CAL_DUE_CMD : Fld := ⟨R.CAL_DUE, 16, 14⟩
def F.CAL_TEMPs_T (s : Nat) : Fld := ⟨R.CAL_TEMPs s, 0, 16⟩
def F.CAL_TRIM_STATUS_OTP_OK : Fld := ⟨R.CAL_TRIM_STATUS, 0, 1⟩
def F.CAL_TRIM_STATUS_NOMINAL : Fld := ⟨R.CAL_TRIM_STATUS, 1, 1⟩
def F.CAL_TRIM_STATUS_CARDS : Fld := ⟨R.CAL_TRIM_STATUS, 8, 4⟩
def F.CAL_TRIM_STATUS_SEQ : Fld := ⟨R.CAL_TRIM_STATUS, 16, 16⟩
def F.CAL_ERR_FIRST : Fld := ⟨R.CAL_ERR, 0, 16⟩
def F.CAL_ERR_MORE : Fld := ⟨R.CAL_ERR, 16, 1⟩
def F.CAL_ERR_WR_WHILE_RUN : Fld := ⟨R.CAL_ERR, 17, 1⟩
def F.CAL_ERR_SET : Fld := ⟨R.CAL_ERR, 31, 1⟩
def F.CAL_ERR_CNT_COUNT : Fld := ⟨R.CAL_ERR_CNT, 0, 16⟩
def F.CAL_Ii_CFG_TOL (i : Nat) : Fld := ⟨R.CAL_Ii_CFG i, 0, 16⟩
def F.CAL_Ii_TARGET_TARGET (i : Nat) : Fld := ⟨R.CAL_Ii_TARGET i, 0, 32⟩
def F.CAL_Ii_CARD_RESULT (i : Nat) : Fld := ⟨R.CAL_Ii_CARD i, 0, 8⟩
def F.CAL_Ii_CARD_ELEMENT (i : Nat) : Fld := ⟨R.CAL_Ii_CARD i, 8, 8⟩
def F.CAL_Ii_CARD_TEMP (i : Nat) : Fld := ⟨R.CAL_Ii_CARD i, 16, 8⟩
def F.CAL_Ii_CARD_CONTEXT (i : Nat) : Fld := ⟨R.CAL_Ii_CARD i, 24, 8⟩
def F.CAL_Ii_QUAL_Q (i : Nat) : Fld := ⟨R.CAL_Ii_QUAL i, 0, 32⟩
def F.CAL_Ii_TAP_TAP (i : Nat) : Fld := ⟨R.CAL_Ii_TAP i, 0, 32⟩
def F.CAL_Ii_TIME_TICK (i : Nat) : Fld := ⟨R.CAL_Ii_TIME i, 0, 32⟩
def F.CAL_Ii_TAKE1_Q (i : Nat) : Fld := ⟨R.CAL_Ii_TAKE1 i, 0, 32⟩
def F.CAL_Ii_TAKE2_Q (i : Nat) : Fld := ⟨R.CAL_Ii_TAKE2 i, 0, 32⟩
def F.DMC_CTRL_RUN (ch : Fin 2) : Fld := ⟨R.DMC_CTRL ch, 0, 1⟩
def F.DMC_CTRL_HOLD_SR (ch : Fin 2) : Fld := ⟨R.DMC_CTRL ch, 1, 1⟩
def F.DMC_STATUS_STATE (ch : Fin 2) : Fld := ⟨R.DMC_STATUS ch, 0, 3⟩
def F.DMC_STATUS_REF2X (ch : Fin 2) : Fld := ⟨R.DMC_STATUS ch, 3, 1⟩
def F.DMC_STATUS_POSTPONED (ch : Fin 2) : Fld := ⟨R.DMC_STATUS ch, 4, 4⟩
def F.DMC_STATUS_PANIC (ch : Fin 2) : Fld := ⟨R.DMC_STATUS ch, 8, 1⟩
def F.DMC_STATUS_ALERT (ch : Fin 2) : Fld := ⟨R.DMC_STATUS ch, 9, 1⟩
def F.DMC_STATUS_SPEED (ch : Fin 2) : Fld := ⟨R.DMC_STATUS ch, 16, 2⟩
def F.DMC_CFG_RANKS2 (ch : Fin 2) : Fld := ⟨R.DMC_CFG ch, 0, 1⟩
def F.DMC_CFG_X16 (ch : Fin 2) : Fld := ⟨R.DMC_CFG ch, 1, 1⟩
def F.DMC_CFG_DENSITY (ch : Fin 2) : Fld := ⟨R.DMC_CFG ch, 2, 2⟩
def F.DMC_CFG_ECC_EN (ch : Fin 2) : Fld := ⟨R.DMC_CFG ch, 4, 1⟩
def F.DMC_CFG_PARITY_EN (ch : Fin 2) : Fld := ⟨R.DMC_CFG ch, 5, 1⟩
def F.DMC_CFG_WCRC_EN (ch : Fin 2) : Fld := ⟨R.DMC_CFG ch, 6, 1⟩
def F.DMC_CFG_DBI_EN (ch : Fin 2) : Fld := ⟨R.DMC_CFG ch, 7, 1⟩
def F.DMC_CFG_SPEED (ch : Fin 2) : Fld := ⟨R.DMC_CFG ch, 8, 2⟩
def F.DMC_TIM0_CL (ch : Fin 2) : Fld := ⟨R.DMC_TIM0 ch, 0, 6⟩
def F.DMC_TIM0_CWL (ch : Fin 2) : Fld := ⟨R.DMC_TIM0 ch, 6, 6⟩
def F.DMC_TIM0_TRCD (ch : Fin 2) : Fld := ⟨R.DMC_TIM0 ch, 12, 6⟩
def F.DMC_TIM0_TRP (ch : Fin 2) : Fld := ⟨R.DMC_TIM0 ch, 18, 6⟩
def F.DMC_TIM0_TRAS (ch : Fin 2) : Fld := ⟨R.DMC_TIM0 ch, 24, 7⟩
def F.DMC_TIM1_TRC_LO (ch : Fin 2) : Fld := ⟨R.DMC_TIM1 ch, 0, 6⟩
def F.DMC_TIM1_TRC_HI (ch : Fin 2) : Fld := ⟨R.DMC_TIM1 ch, 6, 6⟩
def F.DMC_TIM1_TFAW (ch : Fin 2) : Fld := ⟨R.DMC_TIM1 ch, 12, 6⟩
def F.DMC_TIM1_TRRD_S (ch : Fin 2) : Fld := ⟨R.DMC_TIM1 ch, 18, 6⟩
def F.DMC_TIM1_TRRD_L (ch : Fin 2) : Fld := ⟨R.DMC_TIM1 ch, 24, 7⟩
def F.DMC_TIM2_TWTR_S (ch : Fin 2) : Fld := ⟨R.DMC_TIM2 ch, 0, 6⟩
def F.DMC_TIM2_TWTR_L (ch : Fin 2) : Fld := ⟨R.DMC_TIM2 ch, 6, 6⟩
def F.DMC_TIM2_TCCD_L (ch : Fin 2) : Fld := ⟨R.DMC_TIM2 ch, 12, 6⟩
def F.DMC_TIM2_TWR (ch : Fin 2) : Fld := ⟨R.DMC_TIM2 ch, 18, 6⟩
def F.DMC_SCHED_AGE_BE (ch : Fin 2) : Fld := ⟨R.DMC_SCHED ch, 0, 8⟩
def F.DMC_SCHED_AGE_BULK (ch : Fin 2) : Fld := ⟨R.DMC_SCHED ch, 8, 8⟩
def F.DMC_SCHED_RH_CAP (ch : Fin 2) : Fld := ⟨R.DMC_SCHED ch, 16, 4⟩
def F.DMC_SCHED_RTA_RES (ch : Fin 2) : Fld := ⟨R.DMC_SCHED ch, 24, 7⟩
def F.DMC_REF_MODE (ch : Fin 2) : Fld := ⟨R.DMC_REF ch, 0, 2⟩
def F.DMC_REF_POSTPONE_MAX (ch : Fin 2) : Fld := ⟨R.DMC_REF ch, 2, 4⟩
def F.DMC_REF_TRFC (ch : Fin 2) : Fld := ⟨R.DMC_REF ch, 16, 11⟩
def F.DMC_SR_IDLE_US (ch : Fin 2) : Fld := ⟨R.DMC_SR ch, 0, 16⟩
def F.DMC_RDIST_EN (ch : Fin 2) : Fld := ⟨R.DMC_RDIST ch, 0, 1⟩
def F.DMC_RDIST_NEIGHBOUR2 (ch : Fin 2) : Fld := ⟨R.DMC_RDIST ch, 1, 1⟩
def F.DMC_RDIST_THRESH (ch : Fin 2) : Fld := ⟨R.DMC_RDIST ch, 8, 16⟩
def F.DMC_PORTp_CFG_CLASS (ch : Fin 2) (p : Nat) : Fld := ⟨R.DMC_PORTp_CFG ch p, 0, 2⟩
def F.DMC_PORTp_CFG_PANIC_EN (ch : Fin 2) (p : Nat) : Fld := ⟨R.DMC_PORTp_CFG ch p, 2, 1⟩
def F.DMC_PORTp_CFG_QMAX (ch : Fin 2) (p : Nat) : Fld := ⟨R.DMC_PORTp_CFG ch p, 8, 8⟩
def F.DMC_PANIC_SRC (ch : Fin 2) : Fld := ⟨R.DMC_PANIC ch, 0, 12⟩
def F.DMC_ECC_CNT_CORR (ch : Fin 2) : Fld := ⟨R.DMC_ECC_CNT ch, 0, 16⟩
def F.DMC_ECC_CNT_UNCORR (ch : Fin 2) : Fld := ⟨R.DMC_ECC_CNT ch, 16, 8⟩
def F.DMC_ECC_CNT_POISONED (ch : Fin 2) : Fld := ⟨R.DMC_ECC_CNT ch, 24, 7⟩
def F.DMC_ECC_CNT_CLR (ch : Fin 2) : Fld := ⟨R.DMC_ECC_CNT ch, 31, 1⟩
def F.DMC_ECC_LAST_ADDR (ch : Fin 2) : Fld := ⟨R.DMC_ECC_LAST ch, 0, 30⟩
def F.DMC_ECC_LAST_UNCORR (ch : Fin 2) : Fld := ⟨R.DMC_ECC_LAST ch, 30, 1⟩
def F.DMC_CA_CNT_PARITY (ch : Fin 2) : Fld := ⟨R.DMC_CA_CNT ch, 0, 12⟩
def F.DMC_CA_CNT_WCRC (ch : Fin 2) : Fld := ⟨R.DMC_CA_CNT ch, 12, 12⟩
def F.DMC_CA_CNT_EXHAUSTED (ch : Fin 2) : Fld := ⟨R.DMC_CA_CNT ch, 24, 7⟩
def F.DMC_CA_CNT_CLR (ch : Fin 2) : Fld := ⟨R.DMC_CA_CNT ch, 31, 1⟩
def F.DMC_RD_CNT_TARGETED (ch : Fin 2) : Fld := ⟨R.DMC_RD_CNT ch, 0, 16⟩
def F.DMC_RD_CNT_FORCED (ch : Fin 2) : Fld := ⟨R.DMC_RD_CNT ch, 16, 15⟩
def F.DMC_RD_CNT_CLR (ch : Fin 2) : Fld := ⟨R.DMC_RD_CNT ch, 31, 1⟩
def F.DMC_PM_CNT_SR_ENTRIES (ch : Fin 2) : Fld := ⟨R.DMC_PM_CNT ch, 0, 16⟩
def F.DMC_PM_CNT_SPEED_CHANGES (ch : Fin 2) : Fld := ⟨R.DMC_PM_CNT ch, 16, 8⟩
def F.DMC_SNAPk_V (ch : Fin 2) (k : Nat) : Fld := ⟨R.DMC_SNAPk ch k, 0, 32⟩
def F.DMC_BW_MB_S (ch : Fin 2) : Fld := ⟨R.DMC_BW ch, 0, 16⟩
def F.DMC_ERR_FIRST (ch : Fin 2) : Fld := ⟨R.DMC_ERR ch, 0, 16⟩
def F.DMC_ERR_MORE (ch : Fin 2) : Fld := ⟨R.DMC_ERR ch, 16, 1⟩
def F.DMC_ERR_WR_WHILE_RUN (ch : Fin 2) : Fld := ⟨R.DMC_ERR ch, 17, 1⟩
def F.DMC_ERR_SET (ch : Fin 2) : Fld := ⟨R.DMC_ERR ch, 31, 1⟩
def F.DMC_ERR_CNT_COUNT (ch : Fin 2) : Fld := ⟨R.DMC_ERR_CNT ch, 0, 16⟩
def F.PHY_STATUS_CLKGOOD (ch : Fin 2) : Fld := ⟨R.PHY_STATUS ch, 0, 1⟩
def F.PHY_STATUS_RETAIN (ch : Fin 2) : Fld := ⟨R.PHY_STATUS ch, 1, 1⟩
def F.PHY_PAT_CFG_PATTERN (ch : Fin 2) : Fld := ⟨R.PHY_PAT_CFG ch, 0, 3⟩
def F.PHY_PAT_CFG_RANK (ch : Fin 2) : Fld := ⟨R.PHY_PAT_CFG ch, 3, 1⟩
def F.PHY_PAT_CFG_WRITE (ch : Fin 2) : Fld := ⟨R.PHY_PAT_CFG ch, 4, 1⟩
def F.PHY_PAT_CFG_BURSTS (ch : Fin 2) : Fld := ⟨R.PHY_PAT_CFG ch, 16, 16⟩
def F.PHY_PAT_GO_GO (ch : Fin 2) : Fld := ⟨R.PHY_PAT_GO ch, 0, 1⟩
def F.PHY_PAT_STATUS_DONE (ch : Fin 2) : Fld := ⟨R.PHY_PAT_STATUS ch, 0, 1⟩
def F.PHY_PAT_STATUS_BUSY (ch : Fin 2) : Fld := ⟨R.PHY_PAT_STATUS ch, 1, 1⟩
def F.PHY_PAT_STATUS_COMPARED (ch : Fin 2) : Fld := ⟨R.PHY_PAT_STATUS ch, 16, 16⟩
def F.PHY_TRAIN_CFG_MIN_MARGIN (ch : Fin 2) : Fld := ⟨R.PHY_TRAIN_CFG ch, 0, 8⟩
def F.PHY_CMPb_COUNT (ch : Fin 2) (b : Nat) : Fld := ⟨R.PHY_CMPb ch b, 0, 16⟩
def F.PHY_Rr_Ll_DLY0_WLEV (ch : Fin 2) (r : Nat) (l : Nat) : Fld := ⟨R.PHY_Rr_Ll_DLY0 ch r l, 0, 10⟩
def F.PHY_Rr_Ll_DLY0_GATE (ch : Fin 2) (r : Nat) (l : Nat) : Fld := ⟨R.PHY_Rr_Ll_DLY0 ch r l, 16, 10⟩
def F.PHY_Rr_Ll_DLY1_RDQS (ch : Fin 2) (r : Nat) (l : Nat) : Fld := ⟨R.PHY_Rr_Ll_DLY1 ch r l, 0, 10⟩
def F.PHY_Rr_Ll_DLY1_WDQ (ch : Fin 2) (r : Nat) (l : Nat) : Fld := ⟨R.PHY_Rr_Ll_DLY1 ch r l, 16, 10⟩
def F.PHY_Rr_Ll_VREF_CODE (ch : Fin 2) (r : Nat) (l : Nat) : Fld := ⟨R.PHY_Rr_Ll_VREF ch r l, 0, 7⟩
def F.PHY_Rr_Ll_DSK_TAPS (ch : Fin 2) (r : Nat) (l : Nat) (w : Nat) : Fld := ⟨R.PHY_Rr_Ll_DSK ch r l w, 0, 32⟩
def F.PHY_Ll_DRV_LEGS (ch : Fin 2) (l : Nat) : Fld := ⟨R.PHY_Ll_DRV ch l, 0, 2⟩
def F.PHY_Ll_DRV_TAP (ch : Fin 2) (l : Nat) : Fld := ⟨R.PHY_Ll_DRV ch l, 8, 5⟩
def F.PHY_Ll_DLINE_LINE (ch : Fin 2) (l : Nat) : Fld := ⟨R.PHY_Ll_DLINE ch l, 0, 1⟩
def F.PHY_ERR_FIRST (ch : Fin 2) : Fld := ⟨R.PHY_ERR ch, 0, 16⟩
def F.PHY_ERR_MORE (ch : Fin 2) : Fld := ⟨R.PHY_ERR ch, 16, 1⟩
def F.PHY_ERR_WR_WHILE_RUN (ch : Fin 2) : Fld := ⟨R.PHY_ERR ch, 17, 1⟩
def F.PHY_ERR_SET (ch : Fin 2) : Fld := ⟨R.PHY_ERR ch, 31, 1⟩
def F.PHY_ERR_CNT_COUNT (ch : Fin 2) : Fld := ⟨R.PHY_ERR_CNT ch, 0, 16⟩
def F.EVR_CFG_POLICY : Fld := ⟨R.EVR_CFG, 0, 1⟩
def F.EVR_CFG_IRQ_SEV : Fld := ⟨R.EVR_CFG, 4, 3⟩
def F.EVR_CFG_FAULT_SEV : Fld := ⟨R.EVR_CFG, 8, 3⟩
def F.EVR_CFG_WINDOW : Fld := ⟨R.EVR_CFG, 16, 8⟩
def F.EVR_STATUS_USED : Fld := ⟨R.EVR_STATUS, 0, 12⟩
def F.EVR_STATUS_FULL : Fld := ⟨R.EVR_STATUS, 12, 1⟩
def F.EVR_STATUS_CLEARING : Fld := ⟨R.EVR_STATUS, 13, 1⟩
def F.EVR_STATUS_FIFO_OVF : Fld := ⟨R.EVR_STATUS, 14, 1⟩
def F.EVR_STATUS_Q_OVF : Fld := ⟨R.EVR_STATUS, 15, 1⟩
def F.EVR_LAST_SLOT : Fld := ⟨R.EVR_LAST, 0, 11⟩
def F.EVR_LAST_VALID : Fld := ⟨R.EVR_LAST, 31, 1⟩
def F.EVR_DROPPED_COUNT : Fld := ⟨R.EVR_DROPPED, 0, 32⟩
def F.EVR_CLEAR_GO : Fld := ⟨R.EVR_CLEAR, 0, 1⟩
def F.EVR_FAULT_LATCHED : Fld := ⟨R.EVR_FAULT, 0, 1⟩
def F.EVR_FAULT_SEV : Fld := ⟨R.EVR_FAULT, 8, 3⟩
def F.EVR_FAULT_CODE : Fld := ⟨R.EVR_FAULT, 16, 16⟩
def F.EVR_DRILL_CFG_KIND : Fld := ⟨R.EVR_DRILL_CFG, 0, 4⟩
def F.EVR_DRILL_CFG_UNIT : Fld := ⟨R.EVR_DRILL_CFG, 8, 2⟩
def F.EVR_DRILL_CFG_PARAM : Fld := ⟨R.EVR_DRILL_CFG, 16, 16⟩
def F.EVR_DRILL_GO_GO : Fld := ⟨R.EVR_DRILL_GO, 0, 1⟩
def F.EVR_DRILL_STATUS_STATE : Fld := ⟨R.EVR_DRILL_STATUS, 0, 2⟩
def F.EVR_DRILL_STATUS_CODE : Fld := ⟨R.EVR_DRILL_STATUS, 16, 16⟩
def F.EVR_ERR_FIRST : Fld := ⟨R.EVR_ERR, 0, 16⟩
def F.EVR_ERR_MORE : Fld := ⟨R.EVR_ERR, 16, 1⟩
def F.EVR_ERR_WR_WHILE_RUN : Fld := ⟨R.EVR_ERR, 17, 1⟩
def F.EVR_ERR_SET : Fld := ⟨R.EVR_ERR, 31, 1⟩
def F.EVR_ERR_CNT_COUNT : Fld := ⟨R.EVR_ERR_CNT, 0, 16⟩
def F.TST_STATUS_TESTEN : Fld := ⟨R.TST_STATUS, 0, 1⟩
def F.TST_STATUS_SCAN : Fld := ⟨R.TST_STATUS, 1, 1⟩
def F.TST_STATUS_REFUSED : Fld := ⟨R.TST_STATUS, 2, 1⟩
def F.TST_BIST_CFG_KIND : Fld := ⟨R.TST_BIST_CFG, 0, 3⟩
def F.TST_BIST_CFG_UNIT : Fld := ⟨R.TST_BIST_CFG, 8, 2⟩
def F.TST_BIST_CFG_GO : Fld := ⟨R.TST_BIST_CFG, 31, 1⟩
def F.TST_BIST_GO_GO : Fld := ⟨R.TST_BIST_GO, 0, 1⟩
def F.TST_BIST_STATUS_STATE : Fld := ⟨R.TST_BIST_STATUS, 0, 2⟩
def F.TST_BIST_STATUS_REFUSED : Fld := ⟨R.TST_BIST_STATUS, 2, 1⟩
def F.TST_BIST_STATUS_KIND : Fld := ⟨R.TST_BIST_STATUS, 8, 3⟩
def F.TST_BIST_STATUS_ERRORS : Fld := ⟨R.TST_BIST_STATUS, 16, 16⟩
def F.TST_BIST_FAIL_WORD : Fld := ⟨R.TST_BIST_FAIL, 0, 20⟩
def F.TST_BIST_FAIL_MEM : Fld := ⟨R.TST_BIST_FAIL, 20, 4⟩
def F.TST_ERR_FIRST : Fld := ⟨R.TST_ERR, 0, 16⟩
def F.TST_ERR_MORE : Fld := ⟨R.TST_ERR, 16, 1⟩
def F.TST_ERR_WR_WHILE_RUN : Fld := ⟨R.TST_ERR, 17, 1⟩
def F.TST_ERR_SET : Fld := ⟨R.TST_ERR, 31, 1⟩
def F.TST_ERR_CNT_COUNT : Fld := ⟨R.TST_ERR_CNT, 0, 16⟩

end Sys2Proof.Machine
end

