-- ==== Sys2Proof/Machine/Sparse.lean ====
section
/-! DEFINITION. Sparse maps from addresses to values in one canonical form: keys strictly rising, no entry equal to
what an unlisted key reads as.  Register banks and memories are such lists; a type of the same list carries no
invariant, and `Sparse.wf` states it. -/

namespace Sys2Proof.Machine

/-- A sparse map: (key, value) pairs. -/
abbrev Sparse (α : Type) := List (Nat × α)

/-- The value at key a; d says what an unlisted key reads as. -/
def sget {α : Type} (d : Nat → α) : Sparse α → Nat → α
  | [], a => d a
  | (k, v) :: m, a => if k = a then v else sget d m a

/-- Remove the entries of key a. -/
def sdel {α : Type} : Sparse α → Nat → Sparse α
  | [], _ => []
  | (k, v) :: m, a => if k = a then sdel m a else (k, v) :: sdel m a

/-- Insert an entry before the first larger key. -/
def sins {α : Type} : Sparse α → Nat → α → Sparse α
  | [], a, x => [(a, x)]
  | (k, v) :: m, a, x => if a < k then (a, x) :: (k, v) :: m else (k, v) :: sins m a x

/-- Write x at key a, keeping the canonical form: writing the default removes the entry. -/
def sset {α : Type} [DecidableEq α] (d : Nat → α) (m : Sparse α) (a : Nat) (x : α) : Sparse α :=
  if x = d a then sdel m a else sins (sdel m a) a x

/-- Keep only the entries whose key meets p; every other key reads its default again. -/
def skeep {α : Type} (p : Nat → Bool) : Sparse α → Sparse α
  | [] => []
  | (k, v) :: m => if p k then (k, v) :: skeep p m else skeep p m

/-- Every key of the map is above a. -/
def sabove {α : Type} (a : Nat) : Sparse α → Bool
  | [] => true
  | (k, _) :: m => decide (a < k) && sabove a m

/-- Canonical form: keys strictly rising, no entry equal to its default. -/
def swf {α : Type} [DecidableEq α] (d : Nat → α) : Sparse α → Bool
  | [] => true
  | (k, v) :: m => sabove k m && decide (v ≠ d k) && swf d m

/-- Write a list of values at successive keys. -/
def ssets {α : Type} [DecidableEq α] (d : Nat → α) (m : Sparse α) (a : Nat) : List α → Sparse α
  | [] => m
  | x :: xs => ssets d (sset d m a x) (a + 1) xs

/-- Read k values at successive keys. -/
def sgets {α : Type} (d : Nat → α) (m : Sparse α) (a : Nat) : Nat → List α
  | 0 => []
  | k + 1 => sget d m a :: sgets d m (a + 1) k

end Sys2Proof.Machine
end

