-- ==== Sys2Proof/Machine/State.lean ====
section
/-! DEFINITION. The state of the BL9480: every register of its register maps in one sparse register file (R12), the
banks of its shadowed registers (R26), its memories, and the state the manual gives it that no register shows.  Plain
data throughout. -/

namespace Sys2Proof.Machine

/-- Register banks: values of registers by internal address. -/
abbrev RegFile := Sparse Word
/-- Memories: values of bytes by address, as `Host.Cell` pairs. -/
abbrev Mem := List Host.Cell

/-! ### Event recorder (chapter 17) -/

/-- A request in the recorder FIFO (R386), with the timestamp taken when it entered (R392). -/
structure EvReq where
  code : Nat
  sev : Nat
  a : Nat
  b : Nat
  tick : Nat
  sub : Nat
  subOk : Bool
  deriving DecidableEq, Repr

/-- A clear of the log in progress (R396): the next slot to clear, the records that were in use, the clearing party. -/
structure ClearRun where
  next : Nat
  inUse : Nat
  party : Nat
  deriving DecidableEq, Repr

/-- A Fire Drill in progress (R398–R400): kind, unit, the codes that pass it, the parameter B they must carry if any. -/
structure Drill where
  kind : Nat
  unit : Nat
  codes : List Nat
  needB : Option Nat
  startTick : Nat
  param : Nat
  deriving DecidableEq, Repr

structure Evr where
  fifo : List EvReq          -- oldest first, at most 16 (R386)
  fwq : List (List Byte)     -- records offered to firmware, at most 32 (R387)
  lost : Nat                 -- entries not queued since the last report (R387)
  lastTick : Nat             -- tick of the last record's latest occurrence (R393)
  stampTick : Nat            -- latest timestamp given out (R392)
  stampSub : Nat
  clearing : Option ClearRun
  drill : Option Drill
  drillSbe : Option Nat      -- kind of the drill whose fault is still to be injected (R399)
  deriving DecidableEq, Repr

/-! ### Host ports (chapter 04) -/

/-- Where a response and a DONE notification go: port, mailbox, opcode, SEQ and notify-on-done. -/
structure Tag where
  port : Fin 3
  mb : Nat
  op : Nat
  seq : Nat
  notify : Bool
  deriving DecidableEq, Repr

/-- Sequence state of one mailbox: last accepted SEQ and the cached response (R96). -/
structure SeqSt where
  last : Nat
  cache : List Byte
  deriving DecidableEq, Repr

/-- A partial command (R94). -/
structure Frag where
  op : Nat
  flags : Nat
  next : Nat
  data : List Byte
  tick : Nat
  deriving DecidableEq, Repr

/-- Settings a HELLO has settled and that take effect later (R98). -/
structure HelloSet where
  mb : Nat
  quad : Bool
  crcOff : Bool
  events : Bool
  maxPay : Nat
  deriving DecidableEq, Repr

/-- One host port: HSPI, CAN0 or CAN1. -/
structure Port where
  seqs : Sparse (Option SeqSt)     -- by mailbox
  frags : Sparse (Option Frag)     -- by mailbox
  notifs : List (List Byte)        -- queued notifications, oldest first, at most 16 (R100)
  nseq : Nat                       -- notification sequence counter (R99)
  dropRun : Bool                   -- a run of dropped notifications has been reported (R100)
  hello : List HelloSet            -- settled settings awaiting their effect, by the mailbox of their response
  events : Bool                    -- event notifications settled (CAN; HSPI holds it in MBX_HCFG)
  maxPay : Nat                     -- settled maximum payload (CAN; HSPI holds it in MBX_HCFG)
  rx : Sparse (Option (List Byte)) -- CAN: the request message awaiting firmware, by mailbox
  tx : List (Nat × List Byte)      -- CAN: frames awaiting transmission (identifier, 0xCC-padded message)
  busOff : Bool
  passive : Bool
  ignored : Nat                    -- CAN: ignored classical frames (R103)
  reqId : Nat                      -- CAN identifier bases in force (R102)
  rspId : Nat
  ntfId : Nat
  defer : List Nat                 -- mailboxes whose command firmware still answers (R138, R348)
  sent : Option (Nat × List Byte)  -- CAN: the last frame sent (R103)
  deriving DecidableEq, Repr

/-- A live Hall Pass grant (R105): number, block identifier, tick at which it ends. -/
structure Grant where
  num : Nat
  block : Nat
  endTick : Nat
  deriving DecidableEq, Repr

structure Mbx where
  ports : Four Port                -- ports 0–2; index 3 is not used
  host : Mem                       -- mailbox bytes by host address 0x00_1000–0x00_2FFF (R88)
  grants : List Grant              -- at most 8
  issued : List Nat                -- the grant numbers issued since power-on
  flLast : List Byte               -- the last dropped Fast Lane record as received
  out : List Byte                  -- bytes the last served read transaction returned on HSPI_IO
  order : List (Nat × Nat)         -- commands received and not yet started, as port and mailbox, oldest first (R90)
  deriving DecidableEq, Repr

/-! ### Modes, reset, always-on domain, pins (chapters 02, 03, 18) -/

/-- A mode transition in progress (R41). -/
structure Transit where
  target : Nat
  profile : Nat
  tag : Option Tag
  await : Nat                      -- mask of channels whose frame start or retrain it still awaits
  speed : Bool                     -- it contains a DRAM speed change (R55)
  deriving DecidableEq, Repr

/-- A DRAM speed change in progress (R55): the step 1–5 it is at, the target speed code, the channels whose frame start
that step awaits in bits 0–3, and, in step 5, those that still have to stream a composed frame in bits 4–7. -/
structure SpeedChg where
  step : Nat
  target : Nat
  await : Nat
  deriving DecidableEq, Repr

/-- A park in progress (R252, R253): tick and sub-tick of recognition, those of the last PARKED report, released channels,
channels that reported PARKED. -/
structure Park where
  tick : Nat
  sub : Nat
  lastTick : Nat
  lastSub : Nat
  mask : Nat
  parked : Nat
  late : Nat                       -- channels already reported by event 0x2n12
  deriving DecidableEq, Repr

structure Sys where
  transit : Option Transit
  speed : Option SpeedChg
  pwrLow : Bool                    -- PWR_WARN_N is low
  park : Option Park
  advArm : Nat                     -- advisory reasons armed (R120)
  advTick : Sparse Nat             -- tick + 1 of the last advisory per reason (R56)
  checkOwed : Bool                 -- the next transition into a light mode is checked (R54)
  bell : Option Nat                -- the Bell write awaiting its strobe (R34)
  flockNew : Bool                  -- the written SYS_FLOCK value awaits its effect; `actv` holds the value in force (R23)
  flockOk : Nat                    -- consecutive accepted reference edges (R25)
  flockMiss : Nat                  -- consecutive missing reference edges (R25)
  flockFirst : Bool                -- the next reference edge is accepted without the window (R23)
  marginLow : Bool                 -- a training margin below half its stored value since the last advisory for it (R56)
  clkOff : Nat                     -- clock domains that a write of SYS_CLKEN disabled: their blocks stand still (R52)
  flockOdd : Bool                  -- an edge outside the window has been counted since the last group frame start (R25)
  deriving DecidableEq, Repr

/-- What the control processor does (R65, R76–R78, R381, R433); `starting`: firmware has the fabric released (R78). -/
inductive Cpu | held | bootRom | romService | noImage | starting | running | halted | stopped
  deriving DecidableEq, Repr

structure Rst where
  cpu : Cpu
  device : Bool                    -- a DEVICE reset awaits its 1 ms (R138)
  testenN : Bool                   -- TESTEN_N as sampled at option loading
  tried : Nat                      -- image slots tried so far (R76)
  flashRead : Nat                  -- how the boot ROM reads the flash: 1 1-4-4, 2 1-1-4, 3 1-1-1; 0 not yet (R75)
  flashAddr4 : Bool                -- with 4-byte addressing
  dramUp : Nat                     -- mask of DRAM channels brought up in this boot
  assetsUp : Bool                  -- the stored assets are in DRAM
  rollDone : Bool                  -- the boot Roll Call has run
  fabric : Bool                    -- the fabric is released
  released : Nat                   -- mask of channels whose LEC is released (R65 step 7)
  wdtTick : Nat                    -- tick of the last watchdog kick or arming
  tail : Nat                       -- channels whose BOOT_LIGHT pattern runs on into READY until their frame start (R80)
  softTag : List (Nat × Nat × Tag) -- RESET_FUNCTION BLOCK commands answered after release: register index, bits, tag
  canReset : Nat                   -- CAN controllers whose reset follows the response to their own command (R70)
  edge : Option Nat                -- tick of the AON edge on which the last reset source was recognised (R62)
  edgeArmed : Bool                 -- the watchdog was armed before that edge (R62)
  bootOwed : Bool                  -- the event of a change to BOOT by a reset awaits the sample of TESTEN_N (R40)
  lecWait : Nat                    -- channels whose LEC awaits clock-good for its release (R66)
  deriving DecidableEq, Repr

/-- Standby controller phases (R44–R46). -/
inductive Stby | awake | entering | low | lowDone | waking
  deriving DecidableEq, Repr

structure Aon where
  phase : Stby
  vaonGood : Bool
  coreGood : Bool
  subOk : Bool                     -- the sub-tick is valid (R48)
  wakes : Nat                      -- wake conditions latched, as AON_WAKE_STATUS bits
  supplyLate : Bool                -- event 0x0112 is owed once firmware runs (R46)
  retain : Two Bool                -- the DRAM pad retention latch holds the self-refresh of a channel (R74)
  crystal : Bool
  refOn : Bool                     -- the 25 MHz reference runs (R48)
  wakeTick : Nat                   -- tick of the wake condition acted on (R45)
  bank0 : Nat                      -- I/O class of the VAON bank, plus 4 if it was measured near a threshold (R67)
  deriving DecidableEq, Repr

/-- Output pin levels (true = high) and pad state (R72, R73, R405). -/
structure Pins where
  lampEnN : Four Bool
  lampPad : Four Bool              -- LAMPn_EN_N as read back at the pad (R248)
  oeN : Four Bool
  latN : Four Bool
  stbyEnN : Bool
  faultLow : Bool                  -- FAULT_N is driven low
  isolated : Bool                  -- brown-out isolation of the pads (R63)
  dramResetN : Two Bool
  dramCke : Two Bool
  drivers : Nat                    -- output drivers enabled: bits 0–3 LAMPn_EN_N, 4–7 CHn_OE_N, 8–11 CHn_LAT_N,
                                   -- 12 LSYNC_OUT, 13 and 14 CANn_TX, 15 STBY_EN_N, 16–31 GPIO[15:0]
  high : List (Nat × Nat)          -- drivers held high by a reset, and the tick at which they are disabled (R73)
  hspi : Bool                      -- the HSPI pins are configured
  fspi : Nat                       -- chip selects of FSPI whose pins are configured
  openDrain : Bool                 -- FAULT_N and IRQ_N are configured
  link : Four Bool                 -- LNKn_* are driven
  chain : Four Bool                -- CHn_CLK and CHn_DAT are driven
  retTerm : Four Bool              -- the 100 ohm termination of CHn_RET is on (R416)
  csi : Two Bool                   -- CSIA_* and CSIB_*: the receiver is on, with its termination
  ddr : Two Bool                   -- the DDR4 pins of a channel are driven
  analog : Bool                    -- TREF and XTAL25 are active
  drive : Nat × Nat                -- rated drive in mA of HSPI_IO, FSPI and CHn_LAT_N, and of the other type A pads (R412);
                                   -- 0 before firmware has set it
  deriving DecidableEq, Repr

/-! ### Video inputs (chapter 06) -/

/-- A frame a CSI-2 map entry is receiving (R151–R153): lines received, a fault already reported, Frame End seen. -/
structure CsiRun where
  row : Nat
  bad : Bool
  ended : Bool
  deriving DecidableEq, Repr

structure Csi where
  runs : Sparse (Option CsiRun)    -- by virtual channel
  fetched : Sparse Bool            -- the newest publication has been fetched, by virtual channel (R152)
  rebind : Sparse (Option (List Nat)) -- settings firmware writes once the entry has stopped (R150): data type, channel,
                                   -- layer, width, height, ring stride in 4 KB, ring base in 4 KB, TAG
  deriving DecidableEq, Repr

/-! ### Light-Engine Channels (chapters 01, 07–14) -/

/-- One layer of a channel between frame starts (R165, R151): the buffer last selected, as address or asset identifier
and tag, and the buffer FETCH holds. -/
structure LayerRun where
  key : Option (Nat × Nat)
  held : Option Nat
  on : Bool                        -- composed in the frame being composed
  plane0 : Nat                     -- DRAM addresses and stride of the buffer selected for it
  plane1 : Nat
  stride : Nat
  under : Option Nat               -- output row from which it is transparent after an underrun (R168)
  gap : List (Nat × Nat)           -- rows from and to which resumed data is missing (R171)
  deriving DecidableEq, Repr

/-- The part of a committed channel configuration that no register holds (R121, R122, R155). -/
structure Cfg where
  cols : Nat
  rows : Nat
  rate : Nat                       -- frame rate, units of 0.01 Hz
  fields : Nat                     -- fields per frame, 1 or 3
  tt : Nat                         -- timetable identifier
  d1 : Bool                        -- the D1 variant is in use (R53)
  half : Bool                      -- LIMP D2: the frame period is doubled (R155)
  member : Bool
  leader : Bool
  ref : Nat
  assets : List Nat                -- asset identifiers the configuration names (R159)
  layerId : Four Nat               -- asset identifier of each layer, for the ageing rule of R165
  bind : Four (Option (Nat × Nat × Nat)) -- receiver, virtual channel and ring base of each layer (R150, R151)
  timing : List Byte               -- SET_TIMING and SET_LAYER requests, LUT and output matrix it was made of (R139)
  layers : Four (List Byte)
  lut : Nat
  omat : Nat
  deriving DecidableEq, Repr

/-- A change of a soft mask slot in order of arrival (R222): the record, or none to empty the slot. -/
structure SoftChg where
  slot : Nat
  record : Option (List Byte)
  deriving DecidableEq, Repr

/-- Mask state of a channel beyond the MSK and CMP registers (chapter 10). -/
structure MaskRun where
  softLive : Sparse Bool           -- the soft entry of a slot holds a record
  softLife : Sparse Nat            -- frame starts until it ends; 0: without limit
  arrived : List SoftChg           -- changes that arrived since the last frame start, oldest first
  stageNew : List SoftChg          -- soft-mask changes of an armed commit (R223)
  endNext : List (Nat × Nat)       -- hard entries (slot, GEN) to end at the frame start after next (R224)
  endNow : List (Nat × Nat)        -- hard entries to end at the next frame start
  changed : Sparse Nat             -- LT at which the hard entry of a slot last changed
  since : Sparse Nat               -- block of the frame, 64 * lit slot + block, formed first under the hard entry of a slot (R232)
  unacked : List Nat               -- slots whose change awaits its acknowledgement (R230)
  waiting : List Nat               -- slots whose CLEAR packets wait for the link to come UP (R236)
  reload : List (Nat × Nat × Nat)  -- blocks to reload: first and last row of the old entry, first block under it (R232)
  deriving DecidableEq, Repr

/-- A forward packet started on the link: SEQ, TYPE, payload (R261, R265). -/
structure Tx where
  seq : Nat
  typ : Nat
  payload : List Byte
  deriving DecidableEq, Repr

/-- A negotiation or retrain in progress (R270, R276). -/
structure Neg where
  retrain : Bool
  training : Bool                  -- a training retrain, or an attempt of a negotiation
  step : Nat                       -- 0 waits for its start, 1 CAPABILITY, 2 SYNC, 3 switch of an attempt, 4 its EYE,
                                   -- 5 switch of the verification, 6 its EYE, 7 final SYNC, 8 waits for LPLLn to lock
  rates : List Nat                 -- rates still to try, descending
  rate : Nat                       -- the rate of the attempt or the target
  lanes : Nat
  back : Nat
  backSet : Bool                   -- the back-lane result of the first attempt stands
  eyes : List (Nat × Bool)         -- lanes reported in this attempt and whether they passed
  results : List (Nat × Nat)       -- (rate, n_R) of finished attempts
  cause : Nat                      -- 1 LOWER, 2 RENEGOTIATE, 3 leaving SIGNATURE or OFF
  tag : Option Tag
  deriving DecidableEq, Repr

structure LinkRun where
  seq : Nat                        -- SEQ of the next START
  tx : List Tx                     -- the last 256 STARTs, newest first
  replay : List Tx                 -- the replay buffer: the two most recent BLOCK packets (R272)
  slotSeq : Nat                    -- SLOT_SEQ of the next control slot
  lastSlot : List Byte             -- the last control slot sent (R262)
  neg : Option Neg
  capOk : Bool                     -- a capability block has been accepted (R268)
  seen : List (Nat × List Byte × Nat) -- back-lane packets released within the last 10 us, with their LT (R267)
  retabled : Bool                  -- the node was reset: fields are dark until what it needs is acknowledged (R275)
  oweTabs : Nat                    -- sources whose amplitude table, sent again, it has not acknowledged
  oweMasks : List Nat              -- slots whose hard entry, sent again, it has not acknowledged
  unlit : Bool                     -- the committed configuration failed at the link's mode: dark fields (R442)
  relight : Bool                   -- a COMMIT naming the channel has passed since
  newTrim : Bool                   -- a retrain changed preset durations: trims are zero from the next field start (R277)
  table : List (Nat × Nat)         -- mode table: (rate, n_R) of every rate tried (R271)
  eqs : Sparse (List Nat)          -- words of LNK_EQ_F0, LNK_EQ_F1 and LNK_EQ_B adapted at a rate (R281)
  idle : Bool                      -- IDLE blocks only, after a watchdog expiry (R280)
  boot : Option Nat                -- BOOT_COUNT of the last STATUS since the link came UP (R275)
  adapts : Nat                     -- adaptations so far, the index of the adapted equalisation
  backTx : List Byte               -- cursors that LINK_EQ last sent for the node's back-lane transmitter (R146, R266)
  wire : List (Bool × List Byte)   -- blocks of the item last put on the forward stream: control block or data, 8 bytes (R261)
  spoil : Bool                     -- the CRC of the next BLOCK packet is inverted, for a drill (R399)
  deriving DecidableEq, Repr

/-- Light sources of a channel beyond the SRC registers (chapter 11). -/
structure SrcRun where
  f : Nat                          -- derating factor, 4,096 = 1.0
  th : Option Int                  -- hysteretic temperature, 1/16 °C
  tutorSp : Four Nat               -- Tutor-written set-points
  parkSet : Bool                   -- PARK is set in every command (R254)
  unpark : Bool                    -- a light mode was accepted: PARK clears at the next frame start
  parkDark : Bool                  -- the first field after the park is dark
  tgenNew : Option Nat             -- a table generation that awaits its acknowledgements (R245)
  tgenDue : Bool                   -- its target frame has started
  acks : Nat                       -- sources whose new tables are acknowledged
  amps : List Nat                  -- the 32 amplitude words of generation SRC_TGEN.SENT, and of the one that awaits its
  ampsNew : List Nat               -- acknowledgements (R245)
  temp : Int                       -- the selected temperature at the last evaluation, 1/16 °C (R249)
  tempLost : Bool                  -- the selected inputs are lost (R251)
  sensorLost : Bool                -- the lamp sensor has delivered no sample, or none for 10 ms
  groups : Sparse Nat              -- committed sources of function groups on a segment-only node (R240), by group
  deriving DecidableEq, Repr

/-- A step of a loop context awaiting its release (R313): outputs, next states, and the values traced (R328). -/
structure Rel where
  u : List Int
  xNext : List Int
  x : List Int
  y : List Int
  e : List Int
  r : List Int
  routes : List Int                -- values of routes 0–3 and taps 0–7 after conversion (R318)
  absent : Nat                     -- mask of absent inputs
  trace : Bool                     -- the latch writes a trace record (R328)
  deriving DecidableEq, Repr

/-- A loop context between latches (chapter 14); its states stand in TUT_CTXc_Xi. -/
structure CtxRun where
  fresh : Sparse (Option Int)      -- samples presented since the previous latch, by input
  hold : Nat                       -- firmware inputs that timed out and stay present (R311)
  y : Sparse Int                   -- last value of each input
  absentRun : Nat                  -- consecutive latches at which every used input was absent (R310)
  rel : Option Rel
  wasOn : Bool                     -- enabled before CALIBRATE (R321)
  decim : Nat                      -- latches until the next trace record
  loaded : List (Nat × Nat × Nat)  -- matrices loaded (R144): matrix, rows, columns
  deriving DecidableEq, Repr

/-- A pitch input (R128): controller, identifier (2^29 added for a 29-bit one), byte offset, timeout in ms. -/
structure Pitch where
  can : Nat
  id : Nat
  off : Nat
  timeout : Nat
  deriving DecidableEq, Repr

/-- Tutor of a channel. -/
structure TutRun where
  ctx : Four CtxRun
  junc : Sparse (Option Int)       -- latest DEST 5 values, by 16 * context + route or 4 + tap (R318)
  evtHit : Bool                    -- the trigger event of the trace has been recorded
  injFirst : Bool                  -- an injection has begun since the trace was armed
  injK : Nat                       -- latches injected
  injLfsr : Nat                    -- PRBS-15 generator
  injFrame : Bool                  -- START 1: the frame start has come
  trim : Sparse Int                -- Tutor-written trims, by 64 * field + slot (R199)
  line : Sparse Int                -- Tutor-written line-phase trims, by field (R319)
  offset : Option Int              -- Tutor-written vertical offset, Q12.4 rows
  pitch : Option Pitch             -- the pitch input of the channel
  pitchTick : Nat                  -- tick of its last frame (R128)
  pastLt : Nat                     -- the field before the one in progress: its start, and its lit intervals (R316)
  past : List (Nat × Nat × Nat × Nat) -- those lit intervals: on, off, level and mask (R316)
  deriving DecidableEq, Repr

/-- An audit window (R300): its first tick, positions sent non-zero in it, positions content-verified in it. -/
structure Audit where
  startTick : Nat
  lit : Sparse Bool
  verified : Sparse Bool
  deriving DecidableEq, Repr

/-- An LED chain port beyond the CHN registers (chapter 13). -/
structure ChnRun where
  mem : Mem                        -- frame memory, bank b at 16,384 * b (R293)
  sent : List Nat                  -- values of the last reload, by position
  gb : Nat                         -- GB of its DATA headers, with f as the swap point found it (R249, R293)
  words : List Nat                 -- command words of the last stream or Roll Call, in order (R285)
  frames : List (List Nat)         -- its DATA frames, ADDR 0 first: header, values, CRC-8 (R286); a TAIL of zeros follows
  latEdges : Nat × Nat             -- latch pulses and chain resets driven on CHn_LAT_N (R284)
  probed : List Nat                -- drivers whose header carried PROBE in it
  latched : Bool                   -- a latch has occurred since the port started (R297)
  swaps : Nat                      -- chain frame swaps (R305)
  fade : Sparse (Option (Nat × Nat)) -- by group: level at the first swap point, swap points taken (R304)
  seqOn : Bool                     -- the SEQUENCE content has started
  seqArm : Bool                    -- it waits for an LSYNC_IN[0] edge (start 1)
  seqFrame : Nat                   -- next ANIMATION frame to fill
  seqHold : Nat                    -- swap intervals left of the frame being sent
  seqNext : Nat                    -- HOLD of the frame in the fill bank
  seqDone : Nat                    -- repetitions completed
  audit : Option Audit
  unver : Sparse Bool              -- UNVERIFIED positions
  seenFault : Sparse Nat           -- first detections by position: bit 0 open, bit 1 short (R302)
  confirmed : Sparse Nat           -- confirmed failures by position
  probeDue : Bool                  -- the next reload is the first of a window (R301)
  waitLogged : Bool                -- the wait of the completed reload has been reported
  waitTick : Nat                   -- tick at which that reload was complete (R293)
  deriving DecidableEq, Repr

/-- The bit-plane formatter of a channel beyond the BPF registers (chapter 09). -/
structure BpfRun where
  nextField : Nat                  -- field of the frame that starts next (R195)
  pattern : Bool                   -- PATTERN as sampled at the frame start (R213)
  lit : Nat                        -- lit slot of the frame whose plane is sent next (R202)
  blk : Nat                        -- next block of that plane
  reloads : List (Nat × Nat)       -- reloads due: lit slot and block, in reset order (R232)
  replays : Nat                    -- link replays that the reserve of one block in nine has yet to cover (R232)
  line : Nat                       -- next scan line of the field (R209)
  replay : Nat                     -- 0 none, 1 cache fill, 2 REPLAY_CMD sent, 3 replay (R210)
  replayEnd : Nat                  -- cause that ends it at the next frame start (R211); 0 none
  acks : Sparse Bool               -- cached planes acknowledged, by 16 * field + plane
  deriving DecidableEq, Repr

/-- What a composition has drawn before its frame is complete (R157, R190, R294): region signatures, whether the monitor
copy is written, SAMPLED chain values by position, and PATTERN_OK as the frame found it. -/
structure Drawn where
  sigs : List Nat
  monitor : Bool
  points : Option (List (Nat × Nat))
  pattern : Bool
  deriving DecidableEq, Repr

structure Lec where
  mask : MaskRun
  bpf : BpfRun
  link : LinkRun
  src : SrcRun
  tut : TutRun
  chn : ChnRun
  work : RegFile                   -- configuration of the frame composed in this period, streamed in the next (R157)
  cfgWork : Option Cfg
  lut : Sparse Nat                 -- LUT RAM, bank b at 4,096 * b (R180)
  mesh : Sparse Nat                -- mesh RAM words, bank b at 1,024 * b (R184)
  sram : Mem                       -- fallback pattern SRAM, 256 KB (R212, R214)
  cfgNew : Option Cfg              -- configuration of the shadows
  cfgPend : Option Cfg             -- of the pending bank
  cfgComp : Option Cfg             -- of the composition stage
  cfgStrm : Option Cfg             -- of the streaming stage
  afterLatch : Bool                -- the latch point of this period has passed (R28)
  composing : Bool                 -- a frame is being composed in this period
  composed : Bool                  -- its composition has completed (R359)
  drawn : Option Drawn             -- what the composition in progress has drawn (R157)
  newComp : Bool                   -- a commit has brought the composition stage, or `work`, its configuration, which has not
  newWork : Bool                   -- yet reached the frame it targets
  trajWork : List Byte             -- trajectory table of the last scan frame composed, and of the frame being
  trajStrm : List Byte             -- streamed (R187, R235, R367)
  dark : Bool                      -- field 0 of the period's frame streams dark (R161)
  darkGeo : Bool                   -- for a change of geometry (R231)
  fieldDark : Bool                 -- the field in progress is a dark field
  fieldLt : Nat                    -- device LT of its start
  join : Bool                      -- its frame is replaced by a dark field until the group frame start (R24)
  held : Bool                      -- STATIC: the held frame is streamed (R172)
  recompose : Bool                 -- STATIC: one frame is to be composed (R172)
  patShown : Bool                  -- the previous field showed the D3 pattern, or was dark for want of one (R161)
  starting : Bool                  -- RUN is 1 and the raster waits for its first committed geometry (R29)
  fbuf : Bool                      -- the frame buffer streamed from: BPF_FB1 (R193)
  layers : Four LayerRun
  deriving DecidableEq, Repr

/-! ### DRAM channels (chapter 16) -/

/-- A request of a port for one 64-byte burst (R354). -/
structure DmcReq where
  port : Nat
  addr : Nat                       -- internal address of the burst
  write : Bool
  len : Nat                        -- bytes of the burst it covers
  passed : Nat                     -- times an open-row request went ahead of it (R355)
  promoted : Bool
  num : Nat                        -- its place in the order of the requests of all ports (R357)
  deriving DecidableEq, Repr

/-- A command on a channel's bus (R355, R363): 0 PRE, 1 ACT, 2 read, 3 write, 4 REF, 5 targeted refresh, 6 ZQCS. -/
structure DmcCmd where
  kind : Nat
  rank : Nat
  addr : Nat
  deriving DecidableEq, Repr

/-- A DRAM channel beyond its registers. -/
structure DmcRun where
  queue : List DmcReq              -- at most 512, oldest first (R354)
  wait : List DmcReq               -- requests waiting in their ports, oldest first
  flight : List DmcReq             -- reads on their way back
  back : List DmcReq               -- reads whose data waits for an older read of their port (R357)
  given : Sparse Nat               -- by port, number + 1 of the youngest read delivered
  opened : Sparse (Option Nat)     -- open row by bank
  wrote : Bool                     -- the last burst was a write
  target : List (Nat × Nat)        -- targeted refreshes due: bank and row (R370)
  refOwed : Bool                   -- a refresh that may not be postponed waits for its command slot (R355)
  zqOwed : Bool                    -- ZQCS follows the next refresh (R361)
  table : Sparse (List (Nat × Nat)) -- row-disturb table by bank: rows and counts, at most 16
  spill : Sparse Nat               -- S by bank
  poison : Sparse Bool             -- bursts written poisoned, by burst number (R366)
  recent : List DmcCmd             -- the last 32 commands (R363)
  bursts : List DmcCmd             -- the last 16 write bursts (R364)
  parityRun : Nat                  -- successive replays interrupted by a further parity alert (R365)
  crcRun : Nat                     -- the same for write bursts
  moved : Nat                      -- bytes moved since `movedTick`
  movedTick : Nat
  eccTicks : List Nat              -- ticks of the last 101 corrected beats, newest first (R56)
  parTicks : List Nat              -- ticks of the last 11 parity replays, newest first
  poisonNew : Bool                 -- a poisoned delivery since the last advisory for it
  deriving DecidableEq, Repr

/-- A record of the training area (R373): the words of the trained delays in picoseconds by place, VrefDQ codes included,
for both channels; whether its CRC-32 check word passes. -/
structure TrainRec where
  seq : Nat
  sysId : Nat
  serial : Nat
  ok : Bool
  capMB : Nat
  ranks : Nat
  width : Nat
  words : Sparse Nat
  deriving DecidableEq, Repr

/-! ### Calibration (chapter 15) -/

/-- The calibration run in progress (R335–R342). -/
structure CalRun where
  item : Nat
  cmd : Bool                       -- it runs for a command
  quick : Bool                     -- the single pair of a boot check (R336)
  pair : Nat                       -- 1–3
  first : Option (List Nat × Nat)  -- figures of the first take, and the tick of its end
  apply : Option (Nat × Nat)       -- an agreed choice awaiting its Recess slot: element and figure
  fall : Option (Bool × Nat × Nat) -- fall-back: direction, figure with the tap in force, 0 measuring, 1 step due, 2 step back due
  partner : Nat                    -- partner state counters at the first take (R342)
  elem : Nat                       -- element and taps in force when the run began
  tap : Nat
  tick : Nat                       -- first check of the run (R339)
  defer : Nat                      -- its defer limit, units of 100 ms (R349)
  tol : Nat                        -- tolerance of the pair in progress (R349)
  prev : Nat                       -- taps before the last fall-back step (R338)
  temp : Option Nat                -- °C of the nearest sensor at the last second take (R345)
  deriving DecidableEq, Repr

structure CalState where
  run : Option CalRun
  tag : Option Tag                 -- the commanded RUN_CALIBRATION in progress
  bad : Nat                        -- its items that were bad or deferred
  left : Nat                       -- its items still to end, a bit each (R135)
  pass : Option (Nat × Nat)        -- CALIBRATE pass: items good, items bad or deferred
  bootLeft : Nat                   -- items of the boot work still to run
  stepTag : Option (Tag × Nat × Nat × Nat) -- CAL_STEP awaiting its slot: item, action, value (R348)
  agreed : Sparse (Option (Nat × Nat)) -- figure and temperature of the last agreeing pair, by item (R345, R348)
  sects : Two (List Byte)          -- the two sectors of the flash calibration area (R345); an erased one holds no byte
  ticks : Sparse Nat               -- timebase tick at the end of the last run, by item (R345)
  late : Bool                      -- a write of the area waits for another flash operation (R345)
  touched : Nat                    -- cards changed since the last write of the area
  trimOk : Bool                    -- the check word of the OTP trims passes (R347)
  hotSince : Option Nat            -- tick since which the hottest sensor reads above 140 °C (R56)
  deriving DecidableEq, Repr

/-! ### Test access (chapter 19) -/

/-- The TAP and the self-tests beyond the TST registers. -/
structure Tap where
  ir : Nat                         -- instruction in force, 0xFF for every code that acts as BYPASS
  refused : Bool                   -- the last instruction was refused (R428)
  cells : Nat                      -- update stage of the boundary register, 987 bits, data and enable cells (R432)
  irCap : Nat                      -- what the instruction register captured when the last instruction was entered (R428)
  shift : Nat                      -- what the selected data register captured last
  slot : Nat                       -- slot EVR_READ captures next (R435)
  key : Nat                        -- key register of EVR_CLEAR (R436)
  drive : Nat                      -- pins under 0 functional control, 1 EXTEST, 2 CLAMP, 3 HIGHZ
  bist : Option (Nat × Nat)        -- self-test in progress: kind and unit (R437)
  deriving DecidableEq, Repr

/-! ### Firmware (chapter 05) -/

/-- A configuration as firmware holds it: the stage, or the configuration last committed (R113, R441).  The byte lists
are request payloads; an empty list is a unit never staged. -/
structure Stage where
  regs : RegFile                   -- RWS values that no basic command's layout holds, by address
  timing : Four (List Byte)        -- SET_TIMING of each channel (R121)
  layers : Four (Four (List Byte)) -- SET_LAYER of each layer (R122)
  lut : Four Nat                   -- LUT asset of the beam profile, 0 to keep the LUT (R191)
  omat : Four Nat                  -- output matrix asset, 0 for identity (R191)
  srcEn : Four (Option Nat)        -- SRC_CTRL.EN where a stored configuration supplies it (R441)
  anim : Four (List Byte)          -- SET_ANIMATION of each port (R125)
  groups : Sparse (List Byte)      -- DEFINE of each group (R126)
  garm : Nat                       -- groups armed for group-off, and for probing (R126)
  gprobe : Nat
  window : Nat                     -- audit window, ms
  beams : Sparse Nat               -- beam profile asset stored for a function (R123)
  deriving DecidableEq, Repr

/-- A complete asset (R130): its DRAM pages start at `page`. -/
structure Asset where
  id : Nat
  typ : Nat
  size : Nat
  crc : Nat
  page : Nat
  deriving DecidableEq, Repr

/-- A ring of three buffers that firmware has allocated to a binding (R151): receiver, virtual channel, base in 4 KB, bytes. -/
structure Ring where
  rx : Nat
  v : Nat
  page : Nat
  bytes : Nat
  deriving DecidableEq, Repr

/-- An upload in progress (R130). -/
structure Upload where
  asset : Asset
  store : Bool
  got : Nat
  deriving DecidableEq, Repr

/-- A configuration copy in flash (R140): SYS_ID, the firmware version that wrote it, and whether the CRC-32 of its
header and that of its body pass. -/
structure Stored where
  seq : Nat
  sysId : Nat
  fwVer : Nat
  headOk : Bool
  bodyOk : Bool
  parts : Nat
  request : List Byte              -- STORE_CONFIG request of the last write
  can : List Byte                  -- STORE_CONFIG request that last named the CAN settings
  frames : Four Mem                -- stored chain frames (R296)
  cfg : Stage
  loops : RegFile                  -- registers of the loop contexts
  pitch : Four (Option Pitch)
  offer : Four Nat                 -- highest chain clock offered, kHz; 0 for 50,000 (R288)
  deriving DecidableEq, Repr

/-- A record of the asset store in flash (R140): STATE 0xFE being written, 0xFC valid, 0xF8 superseded. -/
structure AssetRec where
  state : Nat
  seq : Nat
  asset : Asset
  data : List Byte
  deriving DecidableEq, Repr

/-- The content of a flash part on FSPI (R75, R140, R345, R373), and its size in KB. -/
structure FlashPart where
  image : Mem                      -- bytes of image slots A and B by flash offset; an erased byte reads 0xFF (R75)
  copies : Two (Option Stored)
  store : List AssetRec
  train : Sparse (Option TrainRec)
  cal : Two (List Byte)
  kb : Nat
  modes : Nat                      -- what its SFDP table says (R75): bit 0 1-4-4, bit 1 1-1-4, bit 2 4-byte addressing
  deriving DecidableEq, Repr

/-- A commit whose DONE is owed (R131): channels that must still reach their target frame, ports that must swap. -/
structure CommitRun where
  await : Nat
  targets : Four Nat
  ports : Nat
  tag : Option Tag
  deriving DecidableEq, Repr

/-- A flash operation in progress (R116, R140, R146): 0 configuration copy, 1 asset record, 2 slot erase, 3 slot verify. -/
structure FlashOp where
  kind : Nat
  unit : Nat                       -- the copy, the asset identifier or the slot
  tag : Option Tag
  copy : Option Stored
  asset : Option (Asset × List Byte)
  deriving DecidableEq, Repr

structure Fw where
  stage : Stage
  act : Stage                      -- the configuration last committed
  masks : Four (List SoftChg)      -- soft-mask part of the stage (R223)
  assets : List Asset
  uploads : List Upload
  upCount : Nat                    -- uploads started
  rings : List Ring                -- rings allocated (R151)
  banks : Four (Nat × Nat)         -- LUT_BANK and BPF_TT_CTRL as firmware last wrote them (R113)
  tables : Sparse (List Byte)      -- loaded timetables, by 16 * channel + index: TIMETABLE_LOAD from byte 6 (R143)
  grpNew : Nat                     -- groups whose ARM, DEFINE or DELETE the stage took since the last CHAINS commit (R303)
  commits : List CommitRun
  flash : Option FlashOp
  copies : Two (Option Stored)     -- configuration copies in flash
  store : List AssetRec            -- asset store in flash, in the order of its records
  slots : Two (Option Nat)         -- bytes written to an image slot since its ERASE
  image : Mem                      -- bytes of image slots A and B by flash offset; an erased byte reads 0xFF (R75)
  download : Mem                   -- processor SRAM as a host download fills it (R77, R146)
  running : Nat                    -- image slot the firmware runs from; 2 for a downloaded image
  copiesWritten : Nat
  flashKB : Nat                    -- size of the flash in use, KB (R140)
  flashModes : Nat                 -- what its SFDP table says (R75), as in FlashPart
  cs : Nat                         -- chip select of the flash in use (R67)
  spare : FlashPart                -- what the flash on the other chip select holds
  otpKeys : Four Nat               -- OTP key hashes (R76)
  otpSerial : Nat                  -- OTP device serial (R373)
  train : Sparse (Option TrainRec) -- training area in flash, by speed code (R373)
  speed : Nat                      -- configured DRAM speed code (R55)
  delays : Sparse Nat              -- trained delays in picoseconds, by place (R333)
  offer : Four Nat                 -- chain clock that CHAIN_ROLLCALL last offered each port, kHz; 0 for 50,000 (R134)
  deriving DecidableEq, Repr

/-! ### Outcomes -/

/-- A fault stops the machine. No meaning of this block model raises one: the manual reports every fault of the
device as an event and goes on (R379, R385); the constructor keeps the type inhabited and is safe. -/
inductive Fault where
  | none
  deriving DecidableEq, Repr

/-- Refusals. -/
inductive Refusal where
  /-- Raised by `exec` for a command that has no meaning yet; safe: nothing follows from it. -/
  | notModelled (mnemonic : String)
  /-- Raised by TAP_FACTORY at the factory access level: the manual gives the factory instructions no effect (R428);
  safe: the model stops where the hardware goes on. -/
  | factoryInstruction (code : Nat)
  deriving DecidableEq, Repr

/-! ### The machine -/

structure State where
  pending : List Instr             -- commands waiting, first in, first out
  regs : RegFile                   -- every register; of shadowed registers the shadow (R26)
  pend : RegFile                   -- pending bank of the LEC windows
  comp : RegFile                   -- active bank, composition stage
  strm : RegFile                   -- active bank, streaming stage
  actv : RegFile                   -- active bank of CHN and DMC registers (R34)
  dram : Mem                       -- DRAM bytes by internal address (R12)
  tb : BitVec 46                   -- timebase tick (R48)
  evr : Evr
  mbx : Mbx
  sys : Sys
  rst : Rst
  aon : Aon
  pins : Pins
  csi : Two Csi
  lec : Four Lec
  dmc : Two DmcRun
  cal : CalState
  tap : Tap
  fw : Fw
  requests : Nat                   -- DRAM requests taken from the ports (R357)
  free : Nat                       -- the model's own counter of free values (log entry 6)
  deriving DecidableEq, Repr

/-! ### The machine right after reset

Register banks and memories list nothing, so that every register reads its reset value of the register maps (`regReset`)
and every byte reads 0x00; what no register shows starts empty, off and released (log entry 1). -/

/-- The event recorder with an empty log (R397). -/
def Evr.reset : Evr := ⟨[], [], 0, 0, 0, 0, none, none, none⟩

/-- A host port with its default settings (R97); CAN identifier bases by controller (R102). -/
def Port.reset (req rsp ntf : Nat) : Port :=
  ⟨[], [], [], 0, false, [], false, 56, [], [], false, false, 0, req, rsp, ntf, [], none⟩

def Mbx.reset : Mbx :=
  ⟨⟨Port.reset 0 0 0, Port.reset 0x6C0 0x6C8 0x6CF, Port.reset 0x6D0 0x6D8 0x6DF, Port.reset 0 0 0⟩, [], [], [], [], [], []⟩

def Sys.reset : Sys := ⟨none, none, false, none, 0, [], false, none, false, 0, 0, false, false, 0, false⟩

def Rst.reset : Rst := ⟨.held, false, true, 0, 0, false, 0, false, false, false, 0, 0, 0, [], 0, none, false, false, 0⟩

def Aon.reset : Aon := ⟨.awake, false, false, false, 0, false, Two.all false, false, false, 0, 0⟩

/-- Every active-low output at its pull-up level, FAULT_N released, the DRAM pins at their pull-downs (R72, R74). -/
def Pins.reset : Pins :=
  ⟨Four.all true, Four.all true, Four.all true, Four.all true, true, false, false, Two.all false, Two.all false,
   0, [], false, 0, false, Four.all false, Four.all false, Four.all false, Two.all false, Two.all false, false, (0, 0)⟩

def Csi.reset : Csi := ⟨[], [], []⟩

def LayerRun.reset : LayerRun := ⟨none, none, false, 0, 0, 0, none, []⟩

def MaskRun.reset : MaskRun := ⟨[], [], [], [], [], [], [], [], [], [], []⟩

def BpfRun.reset : BpfRun := ⟨0, false, 0, 0, [], 0, 0, 0, 0, []⟩

def LinkRun.reset : LinkRun :=
  { seq := 0, tx := [], replay := [], slotSeq := 0, lastSlot := [], neg := none, capOk := false, seen := [], retabled := false,
    oweTabs := 0, oweMasks := [], unlit := false, relight := false, newTrim := false, table := [], eqs := [], idle := false,
    boot := none, adapts := 0, backTx := [0, 0, 0], wire := [], spoil := false }

/-- The reset values of the amplitude words, source by source (R255). -/
def ampReset : List Nat :=
  (List.replicate 4 [0x200, 0x400, 0x800, 0x1000, 0x2000, 0x4000, 0x8000, 0x10000]).flatten

/-- Without a law f is 1.0 (R249). -/
def SrcRun.reset : SrcRun := ⟨4096, none, Four.all 0, false, false, false, none, false, 0, ampReset, ampReset, 0, false, true, []⟩

def CtxRun.reset : CtxRun := ⟨[], 0, [], 0, none, false, 0, []⟩

def TutRun.reset : TutRun := ⟨Four.all CtxRun.reset, [], false, false, 0, 0, false, [], [], none, none, 0, 0, []⟩

def ChnRun.reset : ChnRun :=
  ⟨[], [], 0, [], [], (0, 0), [], false, 0, [], false, false, 0, 0, 0, 0, none, [], [], [], false, false, 0⟩

/-- A stopped channel; no field is lit. -/
def Lec.reset : Lec :=
  { mask := MaskRun.reset, bpf := BpfRun.reset, link := LinkRun.reset, src := SrcRun.reset, tut := TutRun.reset,
    chn := ChnRun.reset, work := [], cfgWork := none, lut := [], mesh := [], sram := [], cfgNew := none, cfgPend := none,
    cfgComp := none, cfgStrm := none, afterLatch := false, composing := false, composed := false, drawn := none, newComp := false,
    newWork := false, trajWork := [], trajStrm := [], dark := false, darkGeo := false, fieldDark := true, fieldLt := 0, join := false,
    held := false, recompose := false, patShown := false, starting := false, fbuf := false, layers := Four.all LayerRun.reset }

def DmcRun.reset : DmcRun := ⟨[], [], [], [], [], [], false, [], false, false, [], [], [], [], [], 0, 0, 0, 0, [], [], false⟩

def CalState.reset : CalState := ⟨none, none, 0, 0, none, 0, none, [], Two.all [], [], false, 0, true, none⟩

/-- Test-Logic-Reset (R426, R432): IDCODE, every data cell 1 and every driver disabled, which the model's cells hold as 1
(log entry 9). -/
def Tap.reset : Tap := ⟨3, false, 2 ^ 987 - 1, 1, 0, 0, 0, 0, none⟩

/-- A configuration in which nothing is staged. -/
def Stage.reset : Stage :=
  ⟨[], Four.all [], Four.all (Four.all []), Four.all 0, Four.all 0, Four.all none, Four.all [], [], 0, 0, 0, []⟩

/-- An empty flash of the least size (log entry 1). -/
def FlashPart.reset : FlashPart := ⟨[], Two.all none, [], [], Two.all [], 4096, 0⟩

/-- Firmware before it has run, with an empty flash (log entry 1). -/
def Fw.reset : Fw :=
  { stage := Stage.reset, act := Stage.reset, masks := Four.all [], assets := [], uploads := [], upCount := 0, rings := [], banks := Four.all (0, 0x10101000),
    tables := [], grpNew := 0, commits := [], flash := none, copies := Two.all none, store := [], slots := Two.all none,
    image := [], download := [], running := 0, copiesWritten := 0, flashKB := 4096, flashModes := 0, cs := 0, spare := FlashPart.reset, otpKeys := Four.all 0,
    otpSerial := 0, train := [], speed := 3, delays := [], offer := Four.all 0 }

/-- The machine as power-on leaves it, before VAON is reported good by POWER_ON (R61, R72, R397). -/
def State.reset : State :=
  { pending := [], regs := [], pend := [], comp := [], strm := [], actv := [], dram := [], tb := 0, evr := Evr.reset,
    mbx := Mbx.reset, sys := Sys.reset, rst := Rst.reset, aon := Aon.reset, pins := Pins.reset, csi := Two.all Csi.reset,
    lec := Four.all Lec.reset, dmc := Two.all DmcRun.reset, cal := CalState.reset, tap := Tap.reset, fw := Fw.reset,
    requests := 0, free := 0 }

end Sys2Proof.Machine
end

