-- ==== Sys2Proof/Machine/Ops.lean ====
section
/-! DEFINITION. The named operations over registers, memory, error status and the event recorder, which every meaning
uses. -/

namespace Sys2Proof.Machine

/-! ### Register lookup (R9, R10, R12) -/

/-- Does an offset from the first word of a row fall on a word of its array? -/
def hitDims : List (Nat × Nat) → Nat → Bool
  | [], d => d == 0
  | (c, st) :: ds, d => decide (d / st < c) && hitDims ds (d % st)

/-- The row of a map that holds the word at an offset. -/
def specIn (m : List RegSpec) (o : Nat) : Option RegSpec :=
  m.find? (fun r => decide (r.off ≤ o) && hitDims r.dims (o - r.off))

/-- Block base and register map for an internal address (R12). -/
def regionOf (a : Nat) : Option (Nat × List RegSpec) :=
  if a < 0x40000000 then none
  else if a < 0x40010000 then some (0x40000000, sysRegs)
  else if a < 0x40020000 then some (0x40010000, rstRegs)
  else if a < 0x40030000 then some (0x40020000, aonRegs)
  else if a < 0x40040000 then some (0x40030000, evrRegs)
  else if a < 0x40048000 then some (0x40040000, [])
  else if a < 0x40050000 then none
  else if a < 0x40060000 then some (0x40050000, calRegs)
  else if a < 0x40070000 then some (0x40060000, mbxRegs)
  else if a < 0x40080000 then none
  else if a < 0x40090000 then some (csiBase (duo ((a - 0x40080000) / 0x8000)), csiRegs)
  else if a < 0x40100000 then none
  else if a < 0x40200000 then some (lecBase (chan ((a - 0x40100000) / 0x40000)), lecRegs)
  else if a < 0x40220000 then some (dmcBase (duo ((a - 0x40200000) / 0x10000)), dmcRegs ++ phyRegs)
  else if a < 0x40300000 then none
  else if a < 0x40330000 then some (a / 0x10000 * 0x10000, portRegs)
  else if a < 0x40400000 then none
  else if a < 0x40410000 then some (0x40400000, tstRegs)
  else none

/-- The register map row of an internal address; none for a reserved offset (R10). -/
def specAt (a : Nat) : Option RegSpec :=
  match regionOf a with
  | none => none
  | some (b, m) => specIn m (a - b)

/-- Reset value of a word from its fields. -/
def fieldsReset : List FieldSpec → Nat
  | [] => 0
  | f :: fs => setBits (fieldsReset fs) f.lo (f.hi - f.lo + 1) f.reset

/-- What a register that nothing has changed holds: its reset value; 0 for event record words (R397). -/
def regReset (a : Nat) : Word :=
  match specAt a with
  | none => 0
  | some r => BitVec.ofNat 32 (fieldsReset r.fields)

/-- Entries of one bank copied into another for the addresses that p selects. -/
def bankCopy (p : Nat → Bool) (src dst : RegFile) : RegFile :=
  (src.filter fun e => p e.1).foldr (fun e m => sset regReset m e.1 e.2) (skeep (fun a => !p a) dst)

/-- A byte of memory that nothing has written reads 0x00 (log entry 2). -/
def memReset (_ : Nat) : Byte := 0

namespace State

/-- The word a register holds. -/
def get (s : State) (a : Nat) : Nat := (sget regReset s.regs a).toNat
/-- Replace the word a register holds. -/
def put (s : State) (a v : Nat) : State := { s with regs := sset regReset s.regs a (BitVec.ofNat 32 v) }
/-- Read a field. -/
def rd (s : State) (f : Fld) : Nat := bits (s.get f.addr) f.lo f.w
/-- Read a one-bit field. -/
def on (s : State) (f : Fld) : Bool := s.rd f != 0
/-- Replace a field. -/
def wr (s : State) (f : Fld) (v : Nat) : State := s.put f.addr (setBits (s.get f.addr) f.lo f.w v)
/-- Replace a one-bit field. -/
def wrB (s : State) (f : Fld) (b : Bool) : State := s.wr f (b2n b)
/-- Add to a counter field, saturating. -/
def incSat (s : State) (f : Fld) : State := s.wr f (satN f.w (s.rd f + 1))
/-- Add k to a counter field, saturating. -/
def addSat (s : State) (f : Fld) (k : Nat) : State := s.wr f (satN f.w (s.rd f + k))
/-- Add one to a counter field, wrapping. -/
def incWrap (s : State) (f : Fld) : State := s.wr f (s.rd f + 1)

/-- Fields of the composition stage, the streaming stage and the Bell-committed bank (R26, R34). -/
def getC (s : State) (a : Nat) : Nat := (sget regReset s.comp a).toNat
def getS (s : State) (a : Nat) : Nat := (sget regReset s.strm a).toNat
def getA (s : State) (a : Nat) : Nat := (sget regReset s.actv a).toNat
def rdC (s : State) (f : Fld) : Nat := bits (s.getC f.addr) f.lo f.w
def rdS (s : State) (f : Fld) : Nat := bits (s.getS f.addr) f.lo f.w
def rdA (s : State) (f : Fld) : Nat := bits (s.getA f.addr) f.lo f.w
def onC (s : State) (f : Fld) : Bool := s.rdC f != 0
def onS (s : State) (f : Fld) : Bool := s.rdS f != 0
def onA (s : State) (f : Fld) : Bool := s.rdA f != 0

/-- Change one component of the state. -/
def modEvr (s : State) (f : Evr → Evr) : State := { s with evr := f s.evr }
def modMbx (s : State) (f : Mbx → Mbx) : State := { s with mbx := f s.mbx }
def modSys (s : State) (f : Sys → Sys) : State := { s with sys := f s.sys }
def modRst (s : State) (f : Rst → Rst) : State := { s with rst := f s.rst }
def modAon (s : State) (f : Aon → Aon) : State := { s with aon := f s.aon }
def modPins (s : State) (f : Pins → Pins) : State := { s with pins := f s.pins }
def modCal (s : State) (f : CalState → CalState) : State := { s with cal := f s.cal }
def modTap (s : State) (f : Tap → Tap) : State := { s with tap := f s.tap }
def modFw (s : State) (f : Fw → Fw) : State := { s with fw := f s.fw }
def modCh (s : State) (n : Fin 4) (f : Lec → Lec) : State := { s with lec := s.lec.set n (f (s.lec.get n)) }
def modCsi (s : State) (rx : Fin 2) (f : Csi → Csi) : State := { s with csi := s.csi.set rx (f (s.csi.get rx)) }
def modDmc (s : State) (ch : Fin 2) (f : DmcRun → DmcRun) : State := { s with dmc := s.dmc.set ch (f (s.dmc.get ch)) }
def setRegs (s : State) (r : RegFile) : State := { s with regs := r }
def setPend (s : State) (r : RegFile) : State := { s with pend := r }
def setComp (s : State) (r : RegFile) : State := { s with comp := r }
def setStrm (s : State) (r : RegFile) : State := { s with strm := r }
def setActv (s : State) (r : RegFile) : State := { s with actv := r }
def setDram (s : State) (m : Mem) : State := { s with dram := m }
def setFree (s : State) (k : Nat) : State := { s with free := k }
def setRequests (s : State) (k : Nat) : State := { s with requests := k }

/-! ### DRAM bytes -/

/-- A byte of DRAM. -/
def dbyte (s : State) (a : Nat) : Byte := sget memReset s.dram a
/-- Write bytes at ascending DRAM addresses. -/
def dwrite (s : State) (a : Nat) (bs : List Byte) : State := { s with dram := ssets memReset s.dram a bs }
/-- Read k bytes at ascending DRAM addresses. -/
def dread (s : State) (a k : Nat) : List Byte := sgets memReset s.dram a k

/-! ### Error status (R16, R17, R385) -/

/-- An error of the block at `base` is detected: FIRST, MORE, COUNT. -/
def errHit (s : State) (base code : Nat) : State :=
  let e := s.get (base + 0x1F0)
  let c := s.get (base + 0x1F4)
  if bit e 31 then (s.put (base + 0x1F0) (setBit e 16 true)).put (base + 0x1F4) (satN 16 (c + 1))
  else (s.put (base + 0x1F0) (setBit (setBits e 0 16 code) 31 true)).put (base + 0x1F4) (satN 16 (c + 1))

/-- Writing 1 to SET clears FIRST, MORE, WR_WHILE_RUN and the count (R16). -/
def errClear (s : State) (base : Nat) : State := (s.put (base + 0x1F0) 0).put (base + 0x1F4) 0

/-! ### Event requests (R386, R389, R390, R392) -/

/-- MBX_IRQ_STATUS.EVENT follows every occurrence at or above IRQ_SEV (R390). -/
def irqOccur (s : State) (sev : Nat) : State :=
  if s.rd F.EVR_CFG_IRQ_SEV ≤ sev then s.wr F.MBX_IRQ_STATUS_EVENT 1 else s

/-- The latch of FAULT_N: the first request takes its code and severity (R390). -/
def faultLatch (s : State) (code sev : Nat) : State :=
  if s.on F.EVR_FAULT_LATCHED then s
  else ((s.wr F.EVR_FAULT_LATCHED 1).wr F.EVR_FAULT_SEV sev).wr F.EVR_FAULT_CODE code

/-- FAULT_N is driven low once it is configured (R72). -/
def faultDrive (s : State) : State :=
  s.modPins fun p => { p with faultLow := p.faultLow || (s.rst.cpu != .held && s.rst.cpu != .stopped) }

/-- IRQ and FAULT thresholds act on every occurrence at once (R390). -/
def occur (s : State) (code sev : Nat) : State :=
  let s := s.irqOccur sev
  if s.rd F.EVR_CFG_FAULT_SEV ≤ sev then s.faultDrive.faultLatch code sev else s

/-- The sub-tick sampled now: free within R48, never running backwards within one tick (R392). -/
def subNow (s : State) : Nat :=
  if s.aon.subOk then
    (if s.evr.stampTick = s.tb.toNat then max s.evr.stampSub (Config.subTick s.free).toNat
     else (Config.subTick s.free).toNat)
  else 0

/-- Microseconds from one moment to a later one, each a tick and a sub-tick of 25 MHz cycles, rounded down (log entry 112). -/
def microsBetween (t0 s0 t1 s1 : Nat) : Nat := ((t1 - t0) * 25000000 / 32768 + s1 - s0) / 25

/-- Take the timestamp: the stamp given is remembered and the free-value counter moves on. -/
def stamped (s : State) : State :=
  (s.modEvr fun e => { e with stampTick := s.tb.toNat, stampSub := s.subNow }).setFree (s.free + 1)

/-- The request enters the recorder FIFO with its timestamp (R386, R392). -/
def enqueue (s : State) (code sev a b : Nat) : State :=
  let q : EvReq := ⟨code, sev, a % 65536, b % 65536, s.tb.toNat, s.subNow, s.aon.subOk⟩
  s.stamped.modEvr fun e => { e with fifo := e.fifo ++ [q] }

/-- The FIFO is full: DROPPED and FIFO_OVF (R386). -/
def dropReq (s : State) : State := (s.addSat F.EVR_DROPPED_COUNT 1).wr F.EVR_STATUS_FIFO_OVF 1

/-- An event request: thresholds, then the recorder FIFO, or DROPPED when it is full. -/
def logEvent (s : State) (code sev a b : Nat) : State :=
  if s.evr.fifo.length < 16 then (s.occur code sev).enqueue code sev a b else (s.occur code sev).dropReq

/-- A block detects an error: its status and its event request (R385). -/
def errEvent (s : State) (base code sev a b : Nat) : State := (s.errHit base code).logEvent code sev a b

/-- Apply a change for every channel of a mask, in ascending order. -/
def forMask (s : State) (mask : Nat) (f : State → Fin 4 → State) : State :=
  chans.foldl (fun s n => if bit mask n.val then f s n else s) s

/-- Fold over a list of numbers. -/
def forEach {α : Type} (s : State) (l : List α) (f : State → α → State) : State := l.foldl f s

/-- Take the next free-value index. -/
def nextFree (s : State) : State := { s with free := s.free + 1 }

end State

/-- Sub-block bases of a channel window (R15). -/
def fetchBase (n : Fin 4) : Nat := lecBase n
def sclBase (n : Fin 4) : Nat := lecBase n + 0x2000
def cmpBase (n : Fin 4) : Nat := lecBase n + 0x4000
def wrpBase (n : Fin 4) : Nat := lecBase n + 0x6000
def wbkBase (n : Fin 4) : Nat := lecBase n + 0x8000
def bpfBase (n : Fin 4) : Nat := lecBase n + 0xA000
def mskBase (n : Fin 4) : Nat := lecBase n + 0xC000
def srcBase (n : Fin 4) : Nat := lecBase n + 0xE000
def lnkBase (n : Fin 4) : Nat := lecBase n + 0x10000
def chnBase (n : Fin 4) : Nat := lecBase n + 0x14000
def tutBase (n : Fin 4) : Nat := lecBase n + 0x18000
def trcBase (n : Fin 4) : Nat := lecBase n + 0x20000
def ctlBase (n : Fin 4) : Nat := lecBase n + 0x3F000
def sysBase : Nat := 0x40000000
def rstBase : Nat := 0x40010000
def aonBase : Nat := 0x40020000
def evrBase : Nat := 0x40030000
def recBase : Nat := 0x40040000
def calBase : Nat := 0x40050000
def mbxBase : Nat := 0x40060000
def tstBase : Nat := 0x40400000
def phyBase (ch : Fin 2) : Nat := dmcBase ch + 0x8000

/-- The 4-bit mode encodings of R37. -/
def modeSTANDBY : Nat := 1
def modeBOOT : Nat := 2
def modeREADY : Nat := 3
def modeBEAM : Nat := 4
def modePROJECT : Nat := 5
def modeSIGNATURE : Nat := 6
def modeSTATIC : Nat := 7
def modeLIMP : Nat := 8
def modeCALIBRATE : Nat := 9
def modeSERVICE : Nat := 10
def modeDARKHOLD : Nat := 11
def modeSCANTEST : Nat := 12

/-- The light modes (R114): BEAM, PROJECT, SIGNATURE, STATIC, LIMP. -/
def lightMode (m : Nat) : Bool := decide (4 ≤ m ∧ m ≤ 8)

namespace State

/-- The mode in force. -/
def mode (s : State) : Nat := s.rd F.SYS_MODE_MODE

/-- The mode changes: SYS_MODE.MODE and CAUSE, and event 0x0101 (R40). -/
def setMode (s : State) (m cause : Nat) : State :=
  ((s.wr F.SYS_MODE_MODE m).wr F.SYS_MODE_CAUSE cause).logEvent 0x0101 1 m cause

/-- Firmware runs: it serves mailboxes and performs the sequences the manual gives it (R65, R381), unless a write of
SYS_CLKEN stopped the processor, its SRAM or ROM (R52). -/
def fwRuns (s : State) : Bool := decide (s.rst.cpu = .running) && bits s.sys.clkOff 224 3 == 0

/-- A self-test of a kind runs on unit n: its RAM access port is locked (R438). -/
def bistOn (s : State) (kind : Nat) (n : Fin 4) : Bool := decide (s.tap.bist = some (kind, n.val))

end State

end Sys2Proof.Machine
end

