-- ==== Sys2Proof/Machine/Clocks.lean ====
section
/-! DEFINITION. Clock domains and PLLs (R49–R52). -/

namespace Sys2Proof.Machine

/-- The PLL that feeds a clock domain (R49, R50); none for the always-on domains.  The table gives domains 208–223 "DPLL0,
control" and "DPLL1, control" and does not say which of them run from the control clock: here none does (DESIGN CHOICE,
log entry 107). -/
def pllOf (d : Nat) : Option Nat :=
  if d < 208 then (if 34 ≤ d % 52 ∧ d % 52 ≤ 41 then some (4 + d / 52) else some 0)
  else if d < 216 then some 2 else if d < 224 then some 3
  else if d < 227 then some 1
  else if 235 ≤ d ∧ d ≤ 238 then some 8
  else if d < 250 then some 0 else none

namespace State

def clkOn (s : State) (d : Nat) : Bool := bit (s.get (R.SYS_CLKENk (d / 32))) (d % 32)
def clkGood (s : State) (d : Nat) : Bool := bit (s.get (R.SYS_CLKGOODk (d / 32))) (d % 32)
def pllOn (s : State) (i : Nat) : Bool := bit (s.rd F.SYS_PLL_STATUS_ON) i
def pllLocked (s : State) (i : Nat) : Bool := bit (s.rd F.SYS_PLL_STATUS_LOCK) i
def setPll (s : State) (i : Nat) (on lock : Bool) : State :=
  (s.wr F.SYS_PLL_STATUS_ON (setBit (s.rd F.SYS_PLL_STATUS_ON) i on)).wr F.SYS_PLL_STATUS_LOCK
    (setBit (s.rd F.SYS_PLL_STATUS_LOCK) i lock)

/-- The clock-good of every domain of a PLL falls (R51). -/
def dropGood (s : State) (i : Nat) : State :=
  (List.range 250).foldl (fun (s : State) d =>
    if pllOf d == some i then s.put (R.SYS_CLKGOODk (d / 32)) (setBit (s.get (R.SYS_CLKGOODk (d / 32))) (d % 32) false) else s) s

/-- Enable or disable a domain: disabling drops its clock-good; enabling powers its PLL. -/
def setClk (s : State) (d : Nat) (on : Bool) : State :=
  if 250 ≤ d then s
  else
    let s : State := if on then (s.modSys fun y => { y with clkOff := setBit s.sys.clkOff d false }) else s
    let s := s.put (R.SYS_CLKENk (d / 32)) (setBit (s.get (R.SYS_CLKENk (d / 32))) (d % 32) on)
    if on then
      match pllOf d with
      | some i => if s.pllOn i then s else s.setPll i true false
      | none => s
    else s.put (R.SYS_CLKGOODk (d / 32)) (setBit (s.get (R.SYS_CLKGOODk (d / 32))) (d % 32) false)
/-- The same for domains lo to hi. -/
def setClks (s : State) (lo hi : Nat) (on : Bool) : State :=
  (List.range (hi + 1 - lo)).foldl (fun s i => s.setClk (lo + i) on) s

/-! ### Blocks of the resets and their domains (R50, R68) -/

/-- The clock domains of sub-block i of channel n: first and last (R50). -/
def subDoms (n : Fin 4) (i : Nat) : Nat × Nat :=
  let d := [(0, 5), (6, 9), (10, 15), (16, 19), (20, 21), (22, 29), (30, 31), (32, 33), (34, 41), (42, 45), (46, 49), (50, 50), (51, 51)].getD i (51, 51)
  (52 * n.val + d.1, 52 * n.val + d.2)
/-- The clock domains of system block i of RST_BLK_CTRL4. -/
def sysDoms (i : Nat) : Nat × Nat :=
  [(235, 236), (237, 238), (208, 215), (216, 223), (246, 246), (247, 247), (240, 240), (231, 231), (239, 239)].getD i (239, 239)

/-- Sub-block i of channel n is held by a soft reset (R68). -/
def subHeld (s : State) (n : Fin 4) (i : Nat) : Bool :=
  bit (s.get (R.RST_BLK_CTRLk n.val)) i || s.on (F.RST_BLK_CTRLk_ALL n.val)
/-- System block i is held by a soft reset. -/
def sysHeld (s : State) (i : Nat) : Bool := bit (s.get R.RST_BLK_CTRL4) i

/-- A write of SYS_CLKEN disabled one of the domains lo to hi (R52). -/
def stood (s : State) (lo hi : Nat) : Bool := bits s.sys.clkOff lo (hi + 1 - lo) != 0
/-- Sub-block i of channel n does nothing: it is held in reset or its clock stands (R52, R68). -/
def subStill (s : State) (n : Fin 4) (i : Nat) : Bool := s.subHeld n i || s.stood (subDoms n i).1 (subDoms n i).2
/-- The same of system block i. -/
def sysStill (s : State) (i : Nat) : Bool := s.sysHeld i || s.stood (sysDoms i).1 (sysDoms i).2
/-- The DRAM channels do nothing: held, or without the clock of controller, PHY, fabric or scheduler. -/
def dramStill (s : State) (ch : Fin 2) : Bool := s.sysStill (2 + ch.val) || s.stood 227 230 || s.stood 241 241

/-! ### Releases that wait for clock-good (R66) -/

/-- Domains lo to hi. -/
def domRange (q : Nat × Nat) : List Nat := (List.range (q.2 + 1 - q.1)).map fun i => q.1 + i
/-- The domains a release of a block waits for: not good, and enabled or disabled by a write of SYS_CLKEN.  A domain that
firmware has left disabled is not waited for (log entry 110). -/
def domWait (s : State) (ds : List Nat) : List Nat := ds.filter fun d => !s.clkGood d && (s.clkOn d || bit s.sys.clkOff d)
/-- The domains that the release of channel n's LEC waits for. -/
def lecDoms (s : State) (n : Fin 4) : List Nat := s.domWait (domRange (52 * n.val, 52 * n.val + 51))
/-- The domains that the release of the soft-reset blocks of a register index waits for. -/
def softDoms (s : State) (k : Nat) : List Nat :=
  if k < 4 then (List.range 13).flatMap fun i => if s.subHeld (chan k) i then s.domWait (domRange (subDoms (chan k) i)) else []
  else (List.range 9).flatMap fun i => if s.sysHeld i then s.domWait (domRange (sysDoms i)) else []
/-- The domains of the release in progress by its step of R65: processor, fabric, DRAM. -/
def stepDoms (s : State) : List Nat :=
  let ph := s.rd F.RST_STATUS_PHASE
  let ds := if (ph = 3 ∨ ph = 4) ∧ s.rst.cpu = .held then [224, 225, 226]
    else if ph = 5 then domRange (227, 230) else if ph = 6 then domRange (208, 223) else []
  ds.filter fun d => !s.clkGood d
/-- Every domain that some release waits for. -/
def pendDomains (s : State) : List Nat :=
  s.stepDoms ++ (chans.flatMap fun n => if bit s.rst.lecWait n.val then s.lecDoms n else []) ++ (List.range 5).flatMap s.softDoms
/-- RST_STATUS shows whether a release waits, and the lowest domain it waits for (R66). -/
def showPend (s : State) : State :=
  match s.pendDomains with
  | [] => (s.wr F.RST_STATUS_RELEASE_PENDING 0).wr F.RST_STATUS_PEND_DOMAIN 0
  | d :: ds => (s.wr F.RST_STATUS_RELEASE_PENDING 1).wr F.RST_STATUS_PEND_DOMAIN (ds.foldl min d)

/-- Is an I/O bank powered, by its class at option loading (R67)?  The pins of class 0 stay high-impedance. -/
def bankOn (s : State) (b : Nat) : Bool := bits (s.rd F.RST_OPT_BANKV_CLASS) (2 * b) 2 != 0
/-- Firmware enables output drivers of a bank. -/
def drivePins (s : State) (b mask : Nat) : State :=
  if s.bankOn b then s.modPins fun p => { p with drivers := p.drivers ||| mask } else s
/-- Firmware configures LAMPn_EN_N, CHn_OE_N, CHn_LAT_N, LSYNC_OUT, CHn_CLK and CHn_DAT of a channel (R72, log entry 113). -/
def lecPins (s : State) (n : Fin 4) : State :=
  (s.drivePins 3 (2 ^ n.val + 2 ^ (4 + n.val) + 2 ^ (8 + n.val) + 2 ^ 12)).modPins fun p => { p with chain := s.pins.chain.set n true }

/-- The LEC of a channel leaves reset (R65 step 7). -/
def lecFree (s : State) (n : Fin 4) : State :=
  (s.modRst fun r => { r with released := setBit s.rst.released n.val true, lecWait := setBit s.rst.lecWait n.val false }).lecPins n
/-- A channel is released with its clock domains, but for those of the link, once they are good (R50, R65 step 7, R66). -/
def releaseLec (s : State) (n : Fin 4) : State :=
  if bit s.rst.released n.val then s
  else
    let s := (s.setClks (52 * n.val) (52 * n.val + 33) true).setClks (52 * n.val + 42) (52 * n.val + 51) true
    if (s.lecDoms n).isEmpty then s.lecFree n
    else (s.modRst fun r => { r with lecWait := setBit s.rst.lecWait n.val true }).showPend

/-- The clock domains and pins of a link follow its use (R49, R52, R72). -/
def linkClk (s : State) (n : Fin 4) (on : Bool) : State :=
  (s.setClks (52 * n.val + 34) (52 * n.val + 41) on).modPins fun p => { p with link := s.pins.link.set n on }
/-- The clock domains and pins of a CSI-2 receiver follow its use (R49, R52, R149). -/
def csiClk (s : State) (rx : Fin 2) (on : Bool) : State :=
  (s.setClks (sysDoms rx.val).1 (sysDoms rx.val).2 on).modPins fun p => { p with csi := s.pins.csi.set rx on }

end State

end Sys2Proof.Machine
end

