-- ==== Sys2Proof/Machine/Notify.lean ====
section
/-! DEFINITION. Messages and notifications (R91, R92, R99, R100): building a message with its CRC, queueing a
notification on a port, DONE. -/

namespace Sys2Proof.Machine

/-- CRC-16/CCITT-FALSE of R92. -/
def crc16 (bs : List Byte) : Nat := crcMsb 16 0x1021 0xFFFF bs

/-- A whole message with its CRC (R91, R92): the CRC runs over bytes 0–5, two zero bytes and the payload. -/
def mkMessage (op flags seq : Nat) (payload : List Byte) : List Byte :=
  let h := leBytes 1 op ++ leBytes 1 flags ++ leBytes 2 seq ++ leBytes 2 payload.length
  h ++ leBytes 2 (crc16 (h ++ [0, 0] ++ payload)) ++ payload

/-- The 4-byte status word of R93. -/
def statusWord (st detail : Nat) : List Byte := leBytes 1 st ++ leBytes 1 detail ++ [0, 0]

/-- Status codes of R112. -/
def stOK : Nat := 0x00
def stACCEPTED : Nat := 0x01
def stBAD_CRC : Nat := 0x10
def stBAD_LENGTH : Nat := 0x11
def stUNKNOWN_OPCODE : Nat := 0x12
def stBAD_PARAM : Nat := 0x13
def stWRONG_MODE : Nat := 0x14
def stBUSY : Nat := 0x15
def stNO_HALLPASS : Nat := 0x16
def stHALLPASS_EXPIRED : Nat := 0x17
def stREJECTED_CONFIG : Nat := 0x18
def stNOT_PRESENT : Nat := 0x19
def stTIMEOUT : Nat := 0x1A
def stSEQ_ERROR : Nat := 0x1B
def stINTERNAL : Nat := 0x1F

/-- Ports as indices of `Mbx.ports`. -/
def portIx (p : Fin 3) : Fin 4 := ⟨p.val, by omega⟩

namespace State

/-- A host port. -/
def port (s : State) (p : Fin 3) : Port := s.mbx.ports.get (portIx p)
/-- Change a host port. -/
def modPort (s : State) (p : Fin 3) (f : Port → Port) : State :=
  s.modMbx fun m => { m with ports := s.mbx.ports.set (portIx p) (f (s.port p)) }

/-- Event notifications settled on a port (R97, R98). -/
def eventsOn (s : State) (p : Fin 3) : Bool :=
  if p = 0 then s.on F.MBX_HCFG_EVENTS else (s.port p).events
/-- Settled maximum payload of a port. -/
def maxPay (s : State) (p : Fin 3) : Nat :=
  if p = 0 then s.rd F.MBX_HCFG_MAX_PAYLOAD else (s.port p).maxPay
/-- Command CRCs are checked on a port. -/
def crcOn (s : State) (p : Fin 3) : Bool := p != 0 || !s.on F.MBX_HCFG_CRC_OFF

/-- Queue a notification on a port (R99, R100): at most 16 wait; a dropped one still consumes its SEQ, and the
first of a run of drops logs event 0x0305. -/
def notify (s : State) (p : Fin 3) (op : Nat) (payload : List Byte) : State :=
  let q := s.port p
  let m := mkMessage op 1 q.nseq payload
  if q.notifs.length < 16 then
    s.modPort p fun q => { q with notifs := q.notifs ++ [m], nseq := (q.nseq + 1) % 65536, dropRun := false }
  else
    let s' := s.modPort p fun q => { q with nseq := (q.nseq + 1) % 65536, dropRun := true }
    if q.dropRun then s' else s'.errEvent mbxBase 0x0305 2 0 p.val

/-- DONE for the command of a tag, if it asked for one (R99). -/
def done (s : State) (t : Tag) (st detail : Nat) : State :=
  if t.notify then
    s.notify t.port 0x60 (statusWord st detail ++ leBytes 1 t.mb ++ leBytes 1 t.op ++ leBytes 2 t.seq)
  else s

/-- DONE for an optional tag. -/
def doneOpt (s : State) (t : Option Tag) (st detail : Nat) : State :=
  match t with
  | none => s
  | some t => s.done t st detail

/-- A record goes to every port that has settled event notifications. -/
def eventTo (s : State) (r : List Byte) (p : Fin 3) : State := if s.eventsOn p then s.notify p 0x61 r else s
def eventAll (s : State) (r : List Byte) : State := ([0, 1, 2] : List (Fin 3)).foldl (fun s p => s.eventTo r p) s

/-- Firmware turns every queued record into an EVENT notification on each port that has settled them (R387). -/
def fwDrain (s : State) : State :=
  if s.fwRuns && s.mode != modeSCANTEST then s.evr.fwq.foldl eventAll (s.modEvr fun e => { e with fwq := [] }) else s

end State

end Sys2Proof.Machine
end

