-- ==== Sys2Proof/Machine/Recorder.lean ====
section
/-! DEFINITION. The event recorder, FAULT_N, the log clear, Fire Drill and the processor fault events (chapter 17). -/

namespace Sys2Proof.Machine

/-- Word w of log slot k (R391). -/
def recWord (k w : Nat) : Nat := 0x40040000 + 16 * k + 4 * w

/-- Ticks of the timebase in which no more than `ms` milliseconds have passed (R48: 32,768 ticks a second). -/
def withinMs (ticks ms : Nat) : Bool := decide (ticks * 1000 ≤ ms * 32768)

/-- Have `ms` milliseconds passed in a number of ticks, to a tick (log entry 23)? -/
def pastMs (ticks ms : Nat) : Bool := decide (ms * 32768 ≤ (ticks + 1) * 1000)

/-- The slots of the log, ascending. -/
def slots : List Nat := List.range 2048

namespace State

/-- Event code in a slot; 0 marks an empty slot. -/
def slotCode (s : State) (k : Nat) : Nat := bits (s.get (recWord k 0)) 0 16
/-- Severity in a slot. -/
def slotSev (s : State) (k : Nat) : Nat := bits (s.get (recWord k 0)) 16 3
/-- Generation of a slot. -/
def slotGen (s : State) (k : Nat) : Nat := bits (s.get (recWord k 2)) 24 8
/-- 56-bit timestamp in a slot. -/
def slotStamp (s : State) (k : Nat) : Nat := s.get (recWord k 1) + bits (s.get (recWord k 2)) 0 24 * 2 ^ 32
/-- Slot k as stored, 16 bytes. -/
def slotBytes (s : State) (k : Nat) : List Byte :=
  leBytes 4 (s.get (recWord k 0)) ++ leBytes 4 (s.get (recWord k 1)) ++ leBytes 4 (s.get (recWord k 2)) ++
  leBytes 4 (s.get (recWord k 3))

/-- Write all four words of a slot on one edge and increment its generation (R391). -/
def slotWrite (s : State) (k w0 w1 w2lo w3 : Nat) : State :=
  let g := (s.slotGen k + 1) % 256
  (((s.put (recWord k 0) w0).put (recWord k 1) w1).put (recWord k 2) (w2lo % 2 ^ 24 + g * 2 ^ 24)).put (recWord k 3) w3

/-- Clear a slot: its words but the generation read 0 (R396). -/
def slotClear (s : State) (k : Nat) : State := s.slotWrite k 0 0 0 0

/-- The first empty slot (R394). -/
def emptySlot (s : State) : Option Nat := slots.find? fun k => s.slotCode k == 0

/-- The lowest severity present. -/
def lowSev (s : State) : Nat := slots.foldl (fun v k => min v (s.slotSev k)) 7

/-- The slot that policy 1 overwrites: severity v, smallest timestamp, lowest slot on a tie (R394). -/
def victim (s : State) (v : Nat) : Option Nat :=
  slots.foldl (fun o k => if s.slotSev k == v then
    (match o with
     | none => some k
     | some j => if s.slotStamp k < s.slotStamp j then some k else some j) else o) none

/-- Does a request repeat the last record (R393)? -/
def repeats (s : State) (q : EvReq) : Bool :=
  let k := s.rd F.EVR_LAST_SLOT
  let w := s.rd F.EVR_CFG_WINDOW
  s.on F.EVR_LAST_VALID && w != 0 && s.slotCode k == q.code % 65536 && s.slotSev k == q.sev % 8 &&
  s.get (recWord k 3) == q.a % 65536 + q.b % 65536 * 65536 && withinMs (q.tick - s.evr.lastTick) w

/-- Offer a new record to firmware (R387). -/
def offer (s : State) (k sev : Nat) : State :=
  if s.rd F.EVR_CFG_IRQ_SEV ≤ sev then
    (if s.evr.fwq.length < 32 then (s.modEvr fun e => { e with fwq := s.evr.fwq ++ [s.slotBytes k] })
     else (s.wr F.EVR_STATUS_Q_OVF 1).modEvr fun e => { e with lost := e.lost + 1 })
  else s

/-- A new record in slot k: it becomes the last record and is offered to firmware (R391–R394). -/
def newRecord (s : State) (k : Nat) (q : EvReq) (fresh : Bool) : State :=
  let st := q.tick * 1024 + q.sub
  let s := s.slotWrite k (q.code % 65536 + q.sev % 8 * 2 ^ 16 + b2n q.subOk * 2 ^ 19) (st % 2 ^ 32) (st / 2 ^ 32)
    (q.a % 65536 + q.b % 65536 * 65536)
  let s := (s.wr F.EVR_LAST_SLOT k).wr F.EVR_LAST_VALID 1
  let s := if fresh then s.wr F.EVR_STATUS_USED (s.rd F.EVR_STATUS_USED + 1) else s
  let s := s.wrB F.EVR_STATUS_FULL (s.rd F.EVR_STATUS_USED == 2048)
  (s.modEvr fun e => { e with lastTick := q.tick }).offer k q.sev

/-- A recorded event triggers the traces that wait for its code (R328). -/
def traceHit (s : State) (code : Nat) : State :=
  chans.foldl (fun s n =>
    if s.rd (F.TUT_TRC_STATUS_STATE n) == 1 && s.rd (F.TUT_TRC_CFG_TRIGGER n) == 2 && s.rd (F.TUT_TRC_EVT_CODE n) == code % 65536 then
      s.modCh n fun c => { c with tut := { (s.lec.get n).tut with evtHit := true } }
    else s) s

/-- The recorder completes one request (R393, R394): repeat, new record, overwrite or drop. -/
def recordOne (s : State) (q : EvReq) : State :=
  if s.repeats q then
    let k := s.rd F.EVR_LAST_SLOT
    let w0 := s.get (recWord k 0)
    let w0 := setBits w0 20 12 (satN 12 (bits w0 20 12 + 1))
    let s := s.slotWrite k w0 (s.get (recWord k 1)) (s.get (recWord k 2)) (s.get (recWord k 3))
    s.modEvr fun e => { e with lastTick := q.tick }
  else
    match s.emptySlot with
    | some k => s.newRecord k q true
    | none =>
      let v := s.lowSev
      if s.on F.EVR_CFG_POLICY && decide (v ≤ q.sev) then
        match s.victim v with
        | some k => s.newRecord k q false
        | none => s.addSat F.EVR_DROPPED_COUNT 1
      else s.addSat F.EVR_DROPPED_COUNT 1

/-- Is a request the event that the running drill expects (R399, R400)? -/
def drillHit (s : State) (q : EvReq) : Bool :=
  match s.evr.drill with
  | none => false
  | some d => d.codes.contains q.code && (match d.needB with | none => true | some b => q.b == b) &&
      withinMs (q.tick - d.startTick) 100

/-- The result of a drill: event 0x7F11 and EVR_DRILL_STATUS (R400). -/
def drillEnd (s : State) (kind : Nat) (code : Nat) (pass : Bool) : State :=
  let s := (s.wr F.EVR_DRILL_STATUS_STATE (if pass then 2 else 3)).wr F.EVR_DRILL_STATUS_CODE (if pass then code else 0)
  let s := s.modEvr fun e => { e with drill := none, drillSbe := none }
  let s := chans.foldl (fun (s : State) n => s.modCh n fun c => { c with link := { c.link with spoil := false } }) s
  s.logEvent 0x7F11 1 kind (if pass then 1 else 2)

/-- FAULT_N is released and the latch cleared (R390). -/
def faultRelease (s : State) : State :=
  let s := (s.wr F.EVR_FAULT_LATCHED 0)
  s.modPins fun p => { p with faultLow := false }

/-- A clear of the log is requested by a party (R396); merged into one in progress. -/
def clearRequest (s : State) (party : Nat) : State :=
  let s := s.faultRelease
  match s.evr.clearing with
  | some _ => s
  | none =>
    let s := s.wr F.EVR_STATUS_CLEARING 1
    s.modEvr fun e => { e with clearing := some ⟨0, s.rd F.EVR_STATUS_USED, party⟩ }

/-- Clear the next k slots of a clear in progress. -/
def clearSome (s : State) (c : ClearRun) (k : Nat) : State :=
  (List.range k).foldl (fun s i => if c.next + i < 2048 then s.slotClear (c.next + i) else s) s

/-- The end of a clear (R396): DROPPED and LAST read 0, and 0x0130 is written into slot 0. -/
def clearEnd (s : State) (c : ClearRun) : State :=
  let s := s.clearSome c (2048 - c.next)
  let s := ((s.wr F.EVR_DROPPED_COUNT 0).put R.EVR_LAST 0).wr F.EVR_STATUS_CLEARING 0
  let s := (s.wr F.EVR_STATUS_USED 0).wr F.EVR_STATUS_FULL 0
  let q : EvReq := ⟨0x0130, 1, c.inUse, c.party, s.tb.toNat, s.subNow, s.aon.subOk⟩
  let s := s.occur 0x0130 1
  let s := s.stamped
  let s := s.modEvr fun e => { e with clearing := none }
  s.newRecord 0 q true

/-- The recorder's turn (R386): during a clear it clears four slots, otherwise it takes the oldest request. -/
def recordWrite (s : State) : State :=
  match s.evr.clearing with
  | some c =>
    let k := ((List.range 4).filter fun i => decide (c.next + i < 2048) && s.slotCode (c.next + i) != 0).length
    let s := ((s.clearSome c 4).wr F.EVR_STATUS_USED (s.rd F.EVR_STATUS_USED - k)).wrB F.EVR_STATUS_FULL (s.on F.EVR_STATUS_FULL && k == 0)
    s.modEvr fun e => { e with clearing := some { c with next := min 2048 (c.next + 4) } }
  | none =>
    match s.evr.fifo with
    | [] => s
    | q :: qs =>
      let s := s.modEvr fun e => { e with fifo := qs }
      let dropped := s.rd F.EVR_DROPPED_COUNT
      let hit := s.drillHit q
      let s := s.recordOne q
      let s := if s.rd F.EVR_DROPPED_COUNT == dropped then s.traceHit q.code else s
      if hit && s.rd F.EVR_DROPPED_COUNT == dropped then
        match s.evr.drill with
        | some d => s.drillEnd d.kind q.code true
        | none => s
      else s

/-- Bases of the blocks by Hall Pass identifier (R104), where the block has an error status. -/
def blockBase (id : Nat) : Option Nat :=
  match id with
  | 1 => some sysBase | 2 => some rstBase | 3 => some aonBase | 4 => some evrBase | 5 => some calBase
  | 6 => some mbxBase | 7 => some (csiBase 0) | 8 => some (csiBase 1) | 9 => some (dmcBase 0)
  | 10 => some (dmcBase 1) | 11 => some 0x40300000 | 12 => some 0x40310000 | 13 => some 0x40320000 | 14 => some tstBase
  | _ =>
    if 0x10 ≤ id ∧ id < 0x50 ∧ id % 16 < 11 then some (lecBase (chan ((id - 16) / 16)) + [0, 0x2000, 0x4000, 0x6000,
      0x8000, 0xA000, 0xC000, 0xE000, 0x10000, 0x14000, 0x18000].getD (id % 16) 0)
    else if 0x10 ≤ id ∧ id < 0x50 ∧ id % 16 = 11 then some (tutBase (chan ((id - 16) / 16)))
    else if 0x10 ≤ id ∧ id < 0x50 ∧ id % 16 = 12 then some (ctlBase (chan ((id - 16) / 16)))
    else none

/-- An event request as it arrives, by a block (Hall Pass identifier) or by firmware (block 0). -/
def request (s : State) (code sev a b block : Nat) : State :=
  match blockBase block with
  | some base => s.errEvent base code sev a b
  | none => s.logEvent code sev a b

/-- Codes that pass a drill kind on a unit (R399). -/
def drillCodes (kind unit : Nat) : List Nat :=
  match kind with
  | 0 => [0x7F12] | 1 => [0x6002 + 256 * (unit % 2)] | 2 => [0x6003 + 256 * (unit % 2)]
  | 3 => [0x6001 + 256 * (unit % 2)] | 4 => [0x6007 + 256 * (unit % 2)]
  | 5 => [0x2002 + 256 * unit, 0x2003 + 256 * unit] | 6 => [0x3002 + 256 * unit]
  | 7 => [0x1010 + 256 * unit] | 8 => [0x4001 + 256 * unit] | 9 => [0x7F20] | _ => []

/-- Is a layer of the channel composed: the channel runs and the layer is enabled (R399 kind 7)? -/
def layerComposed (s : State) (n : Fin 4) (x : Nat) : Bool :=
  s.on (F.LEC_STATUS_RUNNING n) && s.onC (F.FETCH_Lx_CFG_EN n x)

/-- The precondition of a drill kind (R399). -/
def drillReady (s : State) (kind unit param : Nat) : Bool :=
  let n := chan unit
  match kind with
  | 0 => true
  | 1 | 2 | 3 | 4 => s.rd (F.DMC_STATUS_STATE (duo unit)) == 3
  | 5 => s.rd (F.LNK_STATUS_STATE n) == 3 && s.on (F.LEC_STATUS_RUNNING n)
  | 6 => s.rd (F.CHN_STATUS_STATE n) == 2
  | 7 => s.layerComposed n (param % 4)
  | 8 => s.on (F.TUT_CTXc_CTRL_EN n (param % 4))
  | 9 => (blockBase (param % 256)).isSome
  | _ => false

/-- The parameter of a running drill whose fault is still to be injected, for a kind and unit (R399). -/
def drillDue (s : State) (kind unit : Nat) : Option Nat :=
  match s.evr.drill with
  | some d => if s.evr.drillSbe = some kind ∧ d.unit = unit then some d.param else none
  | none => none
/-- The fault of the running drill has been injected. -/
def drillDone (s : State) : State := s.modEvr fun e => { e with drillSbe := none }

/-- Both processor cores halt (R381). -/
def cpuHalt (s : State) : State :=
  (s.modRst fun r => { r with cpu := .halted }).wr F.MBX_HSTAT_READY 0

end State

open Host (Outcome)

/-- EVENT_REQUEST (R386). -/
def execEventRequest (code : Nat) (sev : Fin 8) (a b block : Nat) (s : State) : Outcome State Fault Refusal :=
  .next (s.request (code % 65536) sev.val a b block)

/-- EVENT_RECORD_WRITE (R386, R391–R394); the recorder does nothing without its clock (R52). -/
def execEventRecordWrite (s : State) : Outcome State Fault Refusal :=
  .next (if s.stood 233 233 then s else s.recordWrite)

/-- FW_QUEUE_OVERFLOW_REPORT (R387): once the queue has room, 0x0405 reports the entries not queued. -/
def execFwQueueOverflowReport (s : State) : Outcome State Fault Refusal :=
  .next (if s.fwRuns && decide (s.evr.lost ≠ 0 ∧ s.evr.fwq.length < 32) then
    (s.modEvr fun e => { e with lost := 0 }).logEvent 0x0405 4 (satN 16 s.evr.lost) 0 else s)

/-- FAULT_RELEASE_WRITE (R390): a write of EVR_FAULT. -/
def execFaultReleaseWrite (v : Word) (s : State) : Outcome State Fault Refusal :=
  .next (if bit v.toNat 0 then s.faultRelease else s)

/-- LOG_CLEAR_REQUEST (R396): a write of EVR_CLEAR by HSPI under a Hall Pass. -/
def execLogClearRequest (v : Word) (s : State) : Outcome State Fault Refusal :=
  .next (if bit v.toNat 0 then s.clearRequest 0 else s)

/-- LOG_CLEAR_END (R396). -/
def execLogClearEnd (s : State) : Outcome State Fault Refusal :=
  .next (if s.stood 233 233 then s else match s.evr.clearing with | some c => s.clearEnd c | none => s)

/-- DRILL_DEADLINE (R400): 100 ms after GO a drill whose event was not recorded fails. -/
def execDrillDeadline (s : State) : Outcome State Fault Refusal :=
  .next (match s.evr.drill with
    | some d => if pastMs (s.tb.toNat - d.startTick) 100 then s.drillEnd d.kind 0 false else s
    | none => s)

/-- PROCESSOR_HALT (R381): 1 core mismatch, 2 uncorrectable SRAM read. -/
def execProcessorHalt (a : Nat) (s : State) : Outcome State Fault Refusal :=
  .next (s.cpuHalt.logEvent 0x0120 7 a 0)

/-- PROCESSOR_SRAM_CORRECTED (R381): parameter B is the SRAM address [18:3]. -/
def execProcessorSramCorrected (addr : Nat) (s : State) : Outcome State Fault Refusal :=
  .next (s.logEvent 0x0121 0 0 (bits addr 3 16))

end Sys2Proof.Machine
end

