-- ==== Sys2Proof/Machine/RegWrite.lean ====
section
/-! DEFINITION. Register writes and reads by attribute (R9, R10, R17, R440), and the identity of the block that holds an
address (R12, R15, R104). -/

namespace Sys2Proof.Machine

/-- Sub-block index of a channel-window offset (R15): 0–11 as in RST_BLK_CTRLn.SUB, 12 CTL; none for reserved space. -/
def subOf (o : Nat) : Option Nat :=
  if o < 0x10000 then some (o / 0x2000)
  else if o < 0x14000 then some 8
  else if o < 0x18000 then some 9
  else if o < 0x20000 then some 10
  else if o < 0x28000 then some 11
  else if 0x3F000 ≤ o ∧ o < 0x40000 then some 12
  else none

/-- Base offset of a sub-block (R15). -/
def subBase (i : Nat) : Nat :=
  [0, 0x2000, 0x4000, 0x6000, 0x8000, 0xA000, 0xC000, 0xE000, 0x10000, 0x14000, 0x18000, 0x20000, 0x3F000].getD i 0

/-- Hall Pass block identifier and block base of an internal address (R12, R104); none outside every range. -/
def blockOf (a : Nat) : Option (Nat × Nat) :=
  if a < 0x40000000 then none
  else if a < 0x40010000 then some (1, 0x40000000)
  else if a < 0x40020000 then some (2, 0x40010000)
  else if a < 0x40030000 then some (3, 0x40020000)
  else if a < 0x40040000 then some (4, 0x40030000)
  else if a < 0x40048000 then some (4, 0x40040000)
  else if a < 0x40050000 then none
  else if a < 0x40060000 then some (5, 0x40050000)
  else if a < 0x40070000 then some (6, 0x40060000)
  else if a < 0x40080000 then none
  else if a < 0x40088000 then some (7, 0x40080000)
  else if a < 0x40090000 then some (8, 0x40088000)
  else if a < 0x40100000 then none
  else if a < 0x40200000 then
    let n := (a - 0x40100000) / 0x40000
    match subOf ((a - 0x40100000) % 0x40000) with
    | some i => some (0x10 + 16 * n + i, 0x40100000 + 0x40000 * n + subBase i)
    | none => some (0x10 + 16 * n + 13, 0x40100000 + 0x40000 * n)
  else if a < 0x40210000 then some (9, 0x40200000)
  else if a < 0x40220000 then some (10, 0x40210000)
  else if a < 0x40300000 then none
  else if a < 0x40310000 then some (11, 0x40300000)
  else if a < 0x40320000 then some (12, 0x40310000)
  else if a < 0x40330000 then some (13, 0x40320000)
  else if a < 0x40400000 then none
  else if a < 0x40410000 then some (14, 0x40400000)
  else if a < 0x100000000 then none
  else if a < 0x500000000 then some (15, 0x100000000)
  else none

/-- The block whose error registers take the errors of an address: TRC reports in TUT_ERR, the record RAM in EVR_ERR,
the PHY in its own (R16). -/
def errBaseOf (a : Nat) : Nat :=
  match blockOf a with
  | none => sysBase
  | some (id, b) =>
    if id = 4 then evrBase
    else if id = 9 ∧ a - b ≥ 0x8000 then b + 0x8000
    else if id = 10 ∧ a - b ≥ 0x8000 then b + 0x8000
    else if 0x10 ≤ id ∧ id % 16 = 11 then b - 0x8000
    else if 0x10 ≤ id ∧ id % 16 = 13 then b + 0x3F000
    else b

namespace State

/-- All four loop contexts of a channel are disabled (R15). -/
def tutorIdle (s : State) (n : Fin 4) : Bool := [0, 1, 2, 3].all fun c => !s.on (F.TUT_CTXc_CTRL_EN n c)

/-- Is the block that owns an address stopped, so that its RWX fields may be written (R15, R154, R350)? -/
def stoppedFor (s : State) (a : Nat) : Bool :=
  match blockOf a with
  | none => true
  | some (id, b) =>
    if id = 7 ∨ id = 8 then
      let rx := duo (id - 7)
      if 0x400 ≤ a - b then s.on (F.CSI_VCv_PUB_STOPPED rx ((a - b - 0x400) / 0x20)) else !s.on (F.CSI_CTRL_EN rx)
    else if id = 9 ∨ id = 10 then
      let st := s.rd (F.DMC_STATUS_STATE (duo (id - 9)))
      decide (st ≤ 2) || st == 5 || decide (0x8400 ≤ a - b)
    else if 0x10 ≤ id ∧ id < 0x50 then
      let n := chan ((id - 16) / 16)
      let i := id % 16
      if i < 8 then !s.on (F.LEC_CTRL_RUN n)
      else if i = 8 then !s.on (F.LNK_CTRL_EN n)
      else if i = 9 then !s.on (F.CHN_CTRL_EN n)
      else if i = 10 ∨ i = 11 then s.tutorIdle n
      else true
    else true

end State

/-- A field of a register after a write of v (R9, R440). -/
def writeField (stopped : Bool) (v old : Nat) (f : FieldSpec) : Nat :=
  let w := f.hi - f.lo + 1
  match f.acc with
  | .rw | .rws | .rwl => setBits old f.lo w (bits v f.lo w)
  | .ro | .wo | .clr => old
  | .w1c => setBits old f.lo w (bits old f.lo w &&& (2 ^ w - 1 - bits v f.lo w))
  | .rwx => if stopped then setBits old f.lo w (bits v f.lo w) else old

/-- Does a write while running carry a different value for an RWX field (R440)? -/
def reportField (stopped : Bool) (v old : Nat) (f : FieldSpec) : Bool :=
  let w := f.hi - f.lo + 1
  decide (f.acc = .rwx) && !stopped && bits v f.lo w != bits old f.lo w

/-- Does a write clear the counts of the register? -/
def clearField (v : Nat) (f : FieldSpec) : Bool := decide (f.acc = .clr) && bit v f.lo

/-- A field as software reads it: write-only fields read 0. -/
def readField (old : Nat) (acc : Nat) (f : FieldSpec) : Nat :=
  if f.acc = .wo then acc else setBits acc f.lo (f.hi - f.lo + 1) (bits old f.lo (f.hi - f.lo + 1))

namespace State

/-- Report a write while running, or a write ignored at a RAM in use: WR_WHILE_RUN, error 0x0108, event 0x0108 with the
block identifier and the offset (R17, R440). -/
def report0108 (s : State) (a : Nat) : State :=
  match blockOf a with
  | none => s
  | some (id, b) =>
    let e := errBaseOf a
    let s := s.errHit e 0x0108
    let s := s.put (e + 0x1F0) (setBit (s.get (e + 0x1F0)) 17 true)
    s.logEvent 0x0108 2 id (a - b)

/-- A write of a register without behaviour of its own, field by field (R9, R440). -/
def plainWrite (s : State) (a v : Nat) : State :=
  match specAt a with
  | none => s
  | some r =>
    let st := s.stoppedFor a
    let old := s.get a
    let new := if r.fields.any (clearField v) then 0 else r.fields.foldl (writeField st v) old
    let s := s.put a new
    if r.fields.any (reportField st v old) then s.report0108 a else s

/-- The word software reads at an address: reserved and write-only bits read 0 (R9, R10). -/
def plainRead (s : State) (a : Nat) : Nat :=
  if 0x40040000 ≤ a ∧ a < 0x40048000 then s.get a
  else match specAt a with
  | none => 0
  | some r => r.fields.foldl (readField (s.get a)) 0

/-- Writing an xxx_ERR register: 1 to SET clears the status (R16, R17). -/
def errWrite (s : State) (a v : Nat) : State := if bit v 31 then s.errClear (a - 0x1F0) else s

/-- Is an address an xxx_ERR register, that is, does its row have the layout of R16? -/
def isErr (a : Nat) : Bool :=
  match specAt a with
  | some r => decide (r.fields = [⟨15, 0, .ro, 0⟩, ⟨16, 16, .ro, 0⟩, ⟨17, 17, .ro, 0⟩, ⟨31, 31, .w1c, 0⟩])
  | none => false

end State

end Sys2Proof.Machine
end

