-- ==== Sys2Proof/Machine/Dram.lean ====
section
/-! DEFINITION. DRAM as its requestors see it: population and poison (R14, R358, R366, R367), and the pages that firmware
gives to assets, rings and frame buffers (R130, R151, R194). -/

namespace Sys2Proof.Machine

/-- The DRAM channel of an internal address (R14). -/
def dramCh (a : Nat) : Fin 2 := duo (a / 4096)

/-- First page of DRAM in the internal map (R12). -/
def dramPage0 : Nat := 0x100000
/-- Pages of the asset area, 256 MB (R130). -/
def areaPages : Nat := 65536
/-- Pages that firmware may hand out: the smallest population, 4 GB, without the area of R371 at its top (log entry 94). -/
def firmPages : Nat := 0x100000 - 64

/-- First page of the asset area: free, within DRAM. -/
def areaPage : Nat := dramPage0 + Config.areaPage.toNat % (firmPages - areaPages)
/-- A place for k pages within the asset area, from a free number. -/
def inArea (raw k : Nat) : Nat := areaPage + raw % (areaPages - min k (areaPages - 1))
/-- The page of a frame or monitor buffer (R194, R204): free, within DRAM, with room for the largest of them. -/
def bufferPage (n i : Nat) : Nat := dramPage0 + (Config.framePage n i).toNat % (firmPages - 16384)

/-- Bursts that k bytes from an address touch. -/
def burstsOf (a k : Nat) : List Nat :=
  let first := a / 64 * 64
  (List.range (ceilDiv (a + k - first) 64)).map fun i => first + 64 * i

namespace State

/-- Code of an event of a DRAM channel (R377). -/
def dmcCode (ch : Fin 2) (k : Nat) : Nat := 0x6000 + 256 * ch.val + k

/-- Capacity of a channel in bytes (R350). -/
def dramBytes (s : State) (ch : Fin 2) : Nat :=
  (if s.on (F.DMC_CFG_X16 ch) then 2 else 4) * 2 ^ 30 * 2 ^ s.rd (F.DMC_CFG_DENSITY ch) * (s.rd (F.DMC_CFG_RANKS2 ch) + 1)
/-- Does an internal address lie in populated DRAM (R14)? -/
def dramHit (s : State) (a : Nat) : Bool :=
  decide (0x100000000 ≤ a) && decide (a < 0x100000000 + 2 * s.dramBytes (dramCh a))

/-- A request outside DRAM (R358). -/
def dramOutside (s : State) (port a : Nat) : State :=
  s.errEvent (dmcBase (dramCh a)) (dmcCode (dramCh a) 6) 4 port (bits a 20 16)

/-- A burst written poisoned (R366). -/
def poisoned (s : State) (a : Nat) : Bool := sget (fun _ => false) (s.dmc.get (dramCh a)).poison (a / 64)
def setPoison (s : State) (a : Nat) (b : Bool) : State :=
  s.modDmc (dramCh a) fun d => { d with poison := sset (fun _ => false) d.poison (a / 64) b }

/-- Do k bytes from an address lie in populated DRAM? -/
def dramIn (s : State) (a k : Nat) : Bool :=
  decide (0x100000000 ≤ a ∧ a + k ≤ 0x100000000 + 2 * min (s.dramBytes 0) (s.dramBytes 1)) || (burstsOf a k).all s.dramHit

/-- Does a burst that k bytes from an address touch hold poison? -/
def poisonIn (s : State) (a k : Nat) : Bool :=
  ([0, 1] : List (Fin 2)).any fun c => (s.dmc.get c).poison.any fun e => decide (a / 64 ≤ e.1 ∧ 64 * e.1 < a + k)

/-- A read that an engine cannot use: part of it lies outside DRAM or is delivered poisoned (R358, R367). -/
def badRead (s : State) (a k : Nat) : Bool := k != 0 && (!s.dramIn a k || s.poisonIn a k)

/-- A port reads k bytes: a part outside DRAM is reported, once for the whole access (R358, log entry 95). -/
def portRead (s : State) (port a k : Nat) : State :=
  if s.dramIn a k then s
  else match (burstsOf a k).find? fun b => !s.dramHit b with
    | some b => s.dramOutside port b
    | none => s

/-- A port writes bytes: those outside DRAM are discarded and reported, and a burst written whole holds no poison (R358,
R366). -/
def portWrite (s : State) (port a : Nat) (bs : List Byte) : State :=
  let k := bs.length
  let s := ([0, 1] : List (Fin 2)).foldl (fun (s : State) c =>
    if (s.dmc.get c).poison.isEmpty then s
    else s.modDmc c fun d => { d with poison := skeep (fun b => !decide (a ≤ 64 * b ∧ 64 * b + 64 ≤ a + k)) d.poison }) s
  if s.dramIn a k then s.dwrite a bs
  else ((burstsOf a k).filter s.dramHit).foldl (fun (s : State) b =>
    s.dwrite (max a b) ((bs.drop (max a b - a)).take (min (a + k) (b + 64) - max a b))) (s.portRead port a k)

end State

end Sys2Proof.Machine
end

