-- ==== Sys2Proof/Machine/Csi.lean ====
section
/-! DEFINITION. The two CSI-2 receivers (chapter 06): packets, the buffer ring, publication, incomplete frames. -/

namespace Sys2Proof.Machine

/-- The pixel format code that a CSI-2 data type produces (R148). -/
def csiFormat (dt : Nat) : Option Nat :=
  match dt with
  | 0x18 => some 2 | 0x19 => some 3 | 0x1E => some 4 | 0x24 => some 5 | 0x2A => some 0 | _ => none

/-- Bytes of a line's payload that a data type and width require; for YUV420, odd-numbered lines (row even) carry luma
only (R148). -/
def csiLineBytes (dt width row : Nat) : Nat :=
  match dt with
  | 0x18 => if row % 2 = 0 then width else 2 * width
  | 0x19 => if row % 2 = 0 then width * 5 / 4 else 2 * width * 5 / 4
  | 0x1E => 2 * width
  | 0x24 => 3 * width
  | _ => width

/-- Luma line length of the DRAM format, rounded up to 64 bytes (R163). -/
def csiStride (dt width : Nat) : Nat :=
  let b := match dt with | 0x19 => 2 * width | 0x24 => 3 * width | _ => width
  ceilDiv b 64 * 64

/-- Every second byte from a list, starting with the first. -/
def everyOther : List Byte → List Byte
  | [] => []
  | [b] => [b]
  | b :: _ :: bs => b :: everyOther bs

/-- Unpack 10-bit samples, four to five bytes. -/
def unpack10 : List Byte → List Nat
  | a :: b :: c :: d :: l :: bs =>
    let s := fun (x : Byte) k => x.toNat * 4 + l.toNat / 4 ^ k % 4
    s a 0 :: s b 1 :: s c 2 :: s d 3 :: unpack10 bs
  | _ => []

/-- P010 samples: 10 bits in [15:6]. -/
def p010 (l : List Nat) : List Byte := (l.map fun v => leBytes 2 (v * 64)).flatten

/-- Reorder CSI-2 RGB888 (B, G, R on the wire) to R, G, B in DRAM. -/
def rgbSwap : List Byte → List Byte
  | b :: g :: r :: bs => r :: g :: b :: rgbSwap bs
  | _ => []

/-- Every second number from a list, starting with the first. -/
def everyOtherN : List Nat → List Nat
  | [] => []
  | [b] => [b]
  | b :: _ :: bs => b :: everyOtherN bs

/-- The (plane, row of the plane, bytes) that a received line writes. UYVY order on the wire. -/
def csiLine (dt row : Nat) (p : List Byte) : List (Nat × Nat × List Byte) :=
  match dt with
  | 0x18 => if row % 2 = 0 then [(0, row, p)] else [(0, row, everyOther (p.drop 1)), (1, row / 2, everyOther p)]
  | 0x19 =>
    let l := unpack10 p
    if row % 2 = 0 then [(0, row, p010 l)] else [(0, row, p010 (everyOtherN (l.drop 1))), (1, row / 2, p010 (everyOtherN l))]
  | 0x1E => [(0, row, everyOther (p.drop 1)), (1, row, everyOther p)]
  | 0x24 => [(0, row, rgbSwap p)]
  | _ => [(0, row, p)]

namespace State

/-- Runtime state of a receiver. -/
def csiRun (s : State) (rx : Fin 2) (v : Nat) : Option CsiRun := sget (fun _ => none) (s.csi.get rx).runs v
/-- Replace the frame in progress of an entry. -/
def setCsiRun (s : State) (rx : Fin 2) (v : Nat) (r : Option CsiRun) : State :=
  s.modCsi rx fun c => { c with runs := sset (fun _ => none) (s.csi.get rx).runs v r }
/-- Record whether the newest publication of an entry has been fetched. -/
def setFetched (s : State) (rx : Fin 2) (v : Nat) (b : Bool) : State :=
  s.modCsi rx fun c => { c with fetched := sset (fun _ => false) (s.csi.get rx).fetched v b }

/-- DRAM takes writes: both channels run or are in automatic self-refresh, no speed change, not LIMP D3 (R153). -/
def dramOk (s : State) : Bool :=
  let ok := fun ch => let st := s.rd (F.DMC_STATUS_STATE ch); st == 3 || st == 4
  ok 0 && ok 1 && s.sys.speed.isNone && !(s.mode == modeLIMP && s.rd F.SYS_MODE_PROFILE == 3)

/-- DRAM address of buffer i of an entry (R151). -/
def ringAddr (s : State) (rx : Fin 2) (v i : Nat) : Nat :=
  (s.rd (F.CSI_VCv_RING_BASE_ADDR rx v) + i * s.rd (F.CSI_VCv_RING_STRIDE_ADDR rx v)) * 4096

/-- The layer an entry is bound to. -/
def csiTarget (s : State) (rx : Fin 2) (v : Nat) : Fin 4 × Fin 4 :=
  (chan (s.rd (F.CSI_VCv_CFG_CHANNEL rx v)), chan (s.rd (F.CSI_VCv_CFG_LAYER rx v)))

/-- The lowest buffer that is neither the newest published nor held by FETCH (R151). -/
def csiPick (s : State) (rx : Fin 2) (v : Nat) : Nat :=
  let (n, x) := s.csiTarget rx v
  let held := ((s.lec.get n).layers.get x).held
  ([0, 1, 2].find? fun i => i != s.rd (F.CSI_VCv_PUB_NEWEST rx v) && held != some (s.ringAddr rx v i)).getD 0

/-- An incomplete frame (R153): counted, event 0x7001, never published; packets are then ignored to the next start. -/
def csiIncomplete (s : State) (rx : Fin 2) (v reason : Nat) : State :=
  let s := s.incSat (F.CSI_VCv_DROP_INCOMPLETE rx v)
  let s := s.errEvent (csiBase rx) 0x7001 2 (16 * rx.val + v) reason
  match s.csiRun rx v with
  | some r => s.setCsiRun rx v (some { r with bad := true })
  | none => s

/-- Firmware writes the new binding of a stopped entry and enables it (R150 steps 2 and 3). -/
def csiBind (s : State) (rx : Fin 2) (v : Nat) (w : List Nat) : State :=
  let g := fun i => w.getD i 0
  let s := (s.wr (F.CSI_VCv_CFG_DT rx v) (g 0)).wr (F.CSI_VCv_CFG_CHANNEL rx v) (g 1)
  let s := (s.wr (F.CSI_VCv_CFG_LAYER rx v) (g 2)).wr (F.CSI_VCv_CFG_TAG rx v) (g 7)
  let s := (s.wr (F.CSI_VCv_SIZE_WIDTH rx v) (g 3)).wr (F.CSI_VCv_SIZE_HEIGHT rx v) (g 4)
  let s := (s.wr (F.CSI_VCv_RING_STRIDE_ADDR rx v) (g 5)).wr (F.CSI_VCv_RING_BASE_ADDR rx v) (g 6)
  (s.wr (F.CSI_VCv_CFG_EN rx v) 1).wr (F.CSI_VCv_PUB_STOPPED rx v) 0

/-- The entry stops once EN is 0 and no frame is in progress (R150); a binding that waits for that is then written. -/
def csiMaybeStop (s : State) (rx : Fin 2) (v : Nat) : State :=
  if !s.on (F.CSI_VCv_CFG_EN rx v) && (s.csiRun rx v).isNone then
    let s := s.wr (F.CSI_VCv_PUB_STOPPED rx v) 1
    match sget (fun _ => none) (s.csi.get rx).rebind v with
    | some w =>
      let s := s.modCsi rx fun c => { c with rebind := sset (fun _ => none) (s.csi.get rx).rebind v none }
      s.csiBind rx v w
    | none => s
  else s

/-- A commit binds, rebinds (`some`) or unbinds an entry (R150): EN is cleared first. -/
def csiRebind (s : State) (rx : Fin 2) (v : Nat) (w : Option (List Nat)) : State :=
  let s := s.modCsi rx fun c => { c with rebind := sset (fun _ => none) (s.csi.get rx).rebind v w }
  (s.wr (F.CSI_VCv_CFG_EN rx v) 0).csiMaybeStop rx v

/-- Publication of a complete frame (R152): the live pointer, PUB and the count of unfetched buffers. -/
def csiPublish (s : State) (rx : Fin 2) (v : Nat) : State :=
  let (n, x) := s.csiTarget rx v
  let i := s.rd (F.CSI_VCv_PUB_WRITING rx v)
  let tag := s.rd (F.CSI_VCv_CFG_TAG rx v)
  let unread := s.rd (F.CSI_VCv_PUB_NEWEST rx v) != 3 && !(sget (fun _ => false) (s.csi.get rx).fetched v)
  let s := if unread then s.incSat (F.CSI_VCv_DROP_OVERWRITTEN rx v) else s
  let s := s.wr (F.FETCH_Lx_LIVE_ADDR n x.val) (s.ringAddr rx v i / 64)
  let s := s.wr (F.FETCH_Lx_STAT_LIVE_TAG n x.val) tag
  let s := ((s.wr (F.CSI_VCv_PUB_NEWEST rx v) i).wr (F.CSI_VCv_PUB_WRITING rx v) 3).wr (F.CSI_VCv_PUB_TAG rx v) tag
  let s := s.incWrap (F.CSI_VCv_PUB_FRAMES rx v)
  ((s.setFetched rx v false).setCsiRun rx v none).csiMaybeStop rx v

/-- Frame Start: a frame whose Frame End and lines are in counts as acknowledged and is published before the next begins
(log entry 121). -/
def csiStart (s : State) (rx : Fin 2) (v : Nat) : State :=
  let s := match s.csiRun rx v with
    | some r => if r.bad then s else if r.ended then s.csiPublish rx v else s.csiIncomplete rx v 6
    | none => s
  if s.on (F.CSI_VCv_CFG_EN rx v) then
    let s := s.setCsiRun rx v (some ⟨0, false, false⟩)
    if s.dramOk then s.wr (F.CSI_VCv_PUB_WRITING rx v) (s.csiPick rx v)
    else s.csiIncomplete rx v 7
  else (s.setCsiRun rx v none).wr (F.CSI_VCv_PUB_WRITING rx v) 3 |>.csiMaybeStop rx v

/-- Frame End: the line count is checked; an incomplete frame ends here. -/
def csiEnd (s : State) (rx : Fin 2) (v : Nat) : State :=
  match s.csiRun rx v with
  | none => s
  | some r =>
    let wrong := r.row != s.rd (F.CSI_VCv_SIZE_HEIGHT rx v)
    let s := if !r.bad && wrong then s.csiIncomplete rx v 3 else s
    if r.bad || wrong then
      ((s.setCsiRun rx v none).wr (F.CSI_VCv_PUB_WRITING rx v) 3).csiMaybeStop rx v
    else s.setCsiRun rx v (some { r with ended := true })

/-- A long packet of a frame in progress. -/
def csiData (s : State) (rx : Fin 2) (p : CsiPkt) : State :=
  match s.csiRun rx p.vc with
  | none => s
  | some r =>
    if r.bad || r.ended then s
    else
      let dt := s.rd (F.CSI_VCv_CFG_DT rx p.vc)
      let w := s.rd (F.CSI_VCv_SIZE_WIDTH rx p.vc)
      let h := s.rd (F.CSI_VCv_SIZE_HEIGHT rx p.vc)
      if p.dt != dt then s.csiIncomplete rx p.vc 5
      else if !p.crcOk then s.csiIncomplete rx p.vc 2
      else if p.payload.length != csiLineBytes dt w r.row then s.csiIncomplete rx p.vc 4
      else if !s.dramOk then s.csiIncomplete rx p.vc 7
      else
        let base := s.ringAddr rx p.vc (s.rd (F.CSI_VCv_PUB_WRITING rx p.vc))
        let st := csiStride dt w
        let parts := if r.row < h then (csiLine dt r.row p.payload).map fun q => (base + q.1 * st * h + q.2.1 * st, q.2.2) else []
        let t := (s.forEach parts fun s q => s.portWrite 9 q.1 q.2).setCsiRun rx p.vc (some { r with row := r.row + 1 })
        if parts.all fun q => s.dramIn q.1 q.2.length then t else t.csiIncomplete rx p.vc 7

/-- A received packet (R147, R148, R153): the payload CRC is checked on every long packet, also of one that is then ignored. -/
def csiPacket (s : State) (rx : Fin 2) (p : CsiPkt) : State :=
  if !s.on (F.CSI_CTRL_EN rx) || s.sysStill rx.val then s
  else if p.ecc ≥ 2 then
    let s := s.incSat (F.CSI_ERR_CNT_ECC_UNCORR rx)
    match s.csiRun rx (p.vc % 16) with
    | some r => if r.bad || r.ended then s else s.csiIncomplete rx (p.vc % 16) 1
    | none => s
  else
    let p := { p with vc := p.vc % 16 }
    let s := if p.ecc = 1 then s.incSat (F.CSI_ERR_CNT_ECC_CORR rx) else s
    let s := if decide (0x10 ≤ p.dt) && !p.crcOk then s.incSat (F.CSI_ERR_CNT_CRC rx) else s
    if s.on (F.CSI_VCv_PUB_STOPPED rx p.vc) then s.incSat (F.CSI_ERR_CNT_IGNORED rx)
    else if p.dt = 0 then s.csiStart rx p.vc
    else if p.dt = 1 then s.csiEnd rx p.vc
    else if (csiFormat p.dt).isNone then s.incSat (F.CSI_ERR_CNT_IGNORED rx)
    else s.csiData rx p

/-- A write of CSI_VCv_CFG (R150, R154). -/
def csiCfgWrite (s : State) (rx : Fin 2) (v : Nat) (val : Nat) : State :=
  let was := s.on (F.CSI_VCv_CFG_EN rx v)
  let s := s.plainWrite (R.CSI_VCv_CFG rx v) val
  if bit val 0 then (if was then s else s.wr (F.CSI_VCv_PUB_STOPPED rx v) 0) else s.csiMaybeStop rx v

/-- The frame of an entry ends without publication. -/
def csiDrop (s : State) (rx : Fin 2) (v : Nat) : State :=
  ((s.setCsiRun rx v none).wr (F.CSI_VCv_PUB_WRITING rx v) 3).csiMaybeStop rx v

/-- The last write of a frame whose Frame End has arrived is acknowledged (R152), or DRAM has been lost before that (R153). -/
def csiComplete (s : State) (rx : Fin 2) (v : Nat) : State :=
  match s.csiRun rx v with
  | some r =>
    if s.sysStill rx.val || !r.ended || r.bad then s
    else if s.dramOk then s.csiPublish rx v
    else (s.csiIncomplete rx v 7).csiDrop rx v
  | none => s

/-- No Frame End came in time after EN was cleared (R150, R153 reason 6); a frame whose Frame End is in only awaits its
acknowledgement. -/
def csiTimeout (s : State) (rx : Fin 2) (v : Nat) : State :=
  if s.on (F.CSI_VCv_CFG_EN rx v) || s.sysStill rx.val then s
  else match s.csiRun rx v with
    | some r => if r.ended then s else (if r.bad then s else s.csiIncomplete rx v 6).csiDrop rx v
    | none => s

/-- Firmware enables a receiver, and CPLL with it, while rings are allocated to layers bound to it and DRAM runs: RUN of both
controllers (R49, R149, log entry 122). -/
def csiEnable (s : State) : State :=
  ([0, 1] : List (Fin 2)).foldl (fun (s : State) rx =>
    let want := s.fw.rings.any (fun q => q.rx == rx.val) && s.on (F.DMC_CTRL_RUN 0) && s.on (F.DMC_CTRL_RUN 1)
    if want && !s.on (F.CSI_CTRL_EN rx) then ((s.wr (F.CSI_CTRL_EN rx) 1).wr (F.CSI_STATUS_DESKEWED rx) 0).csiClk rx true
    else if !want && s.on (F.CSI_CTRL_EN rx) then (s.wr (F.CSI_CTRL_EN rx) 0).csiClk rx false
    else s) s

end State

open Host (Outcome)

/-- CSI_PACKET (R148, R151, R153). -/
def execCsiPacket (rx : Duo) (pkt : CsiPkt) (s : State) : Outcome State Fault Refusal := .next (s.csiPacket rx pkt)

/-- CSI_FRAME_COMPLETE (R152): every line and the last DRAM write are in. -/
def execCsiFrameComplete (rx : Duo) (vc : Fin 16) (s : State) : Outcome State Fault Refusal := .next (s.csiComplete rx vc.val)

/-- CSI_STOP_TIMEOUT (R150, R153 reason 6). -/
def execCsiStopTimeout (rx : Duo) (vc : Fin 16) (s : State) : Outcome State Fault Refusal := .next (s.csiTimeout rx vc.val)

/-- CSI_ENTRY_ENABLE_WRITE (R150): a write of CSI_VCv_CFG. -/
def execCsiEntryEnableWrite (rx : Duo) (vc : Fin 16) (v : Word) (s : State) : Outcome State Fault Refusal :=
  .next (if s.sysHeld rx.val then s else s.csiCfgWrite rx vc.val v.toNat)

/-- CSI_LANE_STATE_CHANGE (R154): lane states and the deskew flag as received. -/
def execCsiLaneStateChange (rx : Duo) (stop ulps : Nat) (deskewed : Bool) (s : State) : Outcome State Fault Refusal :=
  .next (if s.sysStill rx.val then s else
    let s := (s.wr (F.CSI_STATUS_STOP rx) stop).wr (F.CSI_STATUS_ULPS rx) ulps
    if deskewed && s.on (F.CSI_CTRL_EN rx) then s.wr (F.CSI_STATUS_DESKEWED rx) 1 else s)

end Sys2Proof.Machine
end

