-- ==== Sys2Proof/Machine/LinkBase.lean ====
section
/-! DEFINITION. Forward packets of the lamp link (R261, R265, R266), the node's capability block (R268), link rates and
times (R256, R264). -/

namespace Sys2Proof.Machine

/-- Forward lane rate of an index, Mb/s (R256). -/
def rateMb (k : Nat) : Nat := [1250, 2500, 3125, 5000, 6250, 10000, 12500].getD k 0

/-- Rate index of a rate in Mb/s. -/
def rateIx (mb : Nat) : Option Nat := (List.range 7).find? fun k => rateMb k == mb

/-- Word time in ps: 66 / (N × R) (R256). -/
def wordPs (lanes rate : Nat) : Nat := if lanes = 0 ∨ rateMb rate = 0 then 0 else 66 * 1000000 / (lanes * rateMb rate)

/-- Words of a packet of LEN payload bytes (R261). -/
def pktWords (len : Nat) : Nat := 1 + ceilDiv (len + 2) 8

/-- Cut a byte string into blocks of 8; `k` bounds their number. -/
def blocks8 : Nat → List Byte → List (List Byte)
  | 0, _ => []
  | k + 1, b => if b.isEmpty then [] else b.take 8 :: blocks8 k (b.drop 8)

/-- The blocks of a packet (R261): the START block, then payload, zero padding and the CRC-32 over header, payload and
padding, in data blocks; a drill inverts the CRC (R399). -/
def pktBlocks (typ seq : Nat) (p : List Byte) (spoil : Bool) : List (Bool × List Byte) :=
  let head := leBytes 1 typ ++ leBytes 1 seq ++ leBytes 3 p.length
  let words := ceilDiv (p.length + 2) 8
  let body := p ++ List.replicate (8 * words - (p.length + 2)) 0
  (true, 0x78 :: (head ++ body.take 2)) ::
    (blocks8 words (body.drop 2 ++ leBytes 4 (crc32 (head ++ body) ^^^ (if spoil then 0xFFFFFFFF else 0)))).map fun b => (false, b)

/-- The seven CS blocks of a control slot (R261, R262). -/
def slotBlocks (seq : Nat) (body : List Byte) : List (Bool × List Byte) :=
  (List.range 7).map fun j => (true, 0x4B :: (leBytes 1 (j + 8 * (seq % 32)) ++ (body.drop (6 * j)).take 6))

/-- The IDLE block (R261). -/
def idleBlock : Bool × List Byte := (true, 0x1E :: List.replicate 7 0)

/-- Block time t_blk in units of 10 ns, rounded up to 0.1 us (R264). -/
def blockUnits (cols rows blocks lanes rate : Nat) : Nat :=
  let tw := wordPs lanes rate
  if blocks = 0 ∨ tw = 0 then 0
  else
    let w := max (pktWords (cols * rows / (8 * blocks) + 4)) 67
    ceilDiv (w * tw * 2560000) ((2560000 - 7 * tw) * 100000) * 10

namespace State

/-- Per-channel state. -/
def ch (s : State) (n : Fin 4) : Lec := s.lec.get n
/-- Change a channel's link state. -/
def modLink (s : State) (n : Fin 4) (f : LinkRun → LinkRun) : State := s.modCh n fun c => { c with link := f c.link }
/-- Change a channel's mask state. -/
def modMask (s : State) (n : Fin 4) (f : MaskRun → MaskRun) : State := s.modCh n fun c => { c with mask := f c.mask }
/-- Change a channel's source state. -/
def modSrc (s : State) (n : Fin 4) (f : SrcRun → SrcRun) : State := s.modCh n fun c => { c with src := f c.src }

/-- Byte i of the node's capability block; 0 without one (R268). -/
def cap (s : State) (n : Fin 4) (i : Nat) : Nat :=
  if (s.ch n).link.capOk then s.get (R.LNK_CAP n (i / 4)) / 256 ^ (i % 4) % 256 else 0
/-- Two bytes of the capability block. -/
def cap16 (s : State) (n : Fin 4) (i : Nat) : Nat := s.cap n i + 256 * s.cap n (i + 1)
/-- Node type: 0 none, 1 mirror array, 2 scanner, 3 segment-only. -/
def nodeType (s : State) (n : Fin 4) : Nat := s.cap n 3
/-- Reset blocks, sources present, t_mb and t_settle (10 ns), plane cache bytes of the node. -/
def nodeBlocks (s : State) (n : Fin 4) : Nat := s.cap n 8
def nodeSources (s : State) (n : Fin 4) : Nat := s.cap n 9 % 16
def nodeTmb (s : State) (n : Fin 4) : Nat := s.cap16 n 10
def nodeSettle (s : State) (n : Fin 4) : Nat := s.cap16 n 12
def nodeCacheKB (s : State) (n : Fin 4) : Nat := s.cap16 n 18 + 65536 * s.cap16 n 20

/-- Link state of R279. -/
def linkState (s : State) (n : Fin 4) : Nat := s.rd (F.LNK_STATUS_STATE n)
/-- The link is UP or in plane cache replay. -/
def linkUp (s : State) (n : Fin 4) : Bool := let st := s.linkState n; st == 3 || st == 4

/-- Start a forward packet: it takes the next SEQ (R261); in OFF and DOWN, and after a watchdog expiry, no packet is sent
(R274, R279, R280).  BLOCK packets enter the replay buffer (R272). -/
def send (s : State) (n : Fin 4) (typ : Nat) (payload : List Byte) : State :=
  let st := s.linkState n
  if st == 0 || st == 5 || (s.ch n).link.idle then s
  else s.modLink n fun l =>
    let t : Tx := ⟨l.seq, typ, payload⟩
    { l with seq := (l.seq + 1) % 256, tx := (t :: l.tx).take 256, wire := pktBlocks typ l.seq payload (l.spoil && typ == 2), spoil := l.spoil && typ != 2,
             replay := if typ = 2 then (t :: l.replay).take 2 else l.replay }

/-- MGMT packet: command byte and arguments, 16 bytes (R266). -/
def mgmt (s : State) (n : Fin 4) (cmd : Nat) (args : List Byte) : State :=
  s.send n 8 ((leBytes 1 cmd ++ args ++ List.replicate 15 0).take 16)

end State

end Sys2Proof.Machine
end

