-- ==== Sys2Proof/Machine/Masks.lean ====
section
/-! DEFINITION. Glare masks (chapter 10): primitives, hard and soft entries, HARD_MASK packets, lifetimes, register
submission. -/

namespace Sys2Proof.Machine

/-- Signed 16-bit coordinate C_k of a record. -/
def coord (r : List Byte) (k : Nat) : Int := signed (le16 r (4 + 2 * k)) 16

/-- Is the pixel inside the primitive of a record (R217)? -/
def inside (r : List Byte) (x y : Int) : Bool :=
  let c0 := coord r 0; let c1 := coord r 1; let c2 := coord r 2; let c3 := coord r 3
  match byteAt r 2 with
  | 0 => decide (c0 ≤ x ∧ x ≤ c2 ∧ c1 ≤ y ∧ y ≤ c3)
  | 1 =>
    let ht : Int := 4 * (byteAt r 10 : Int)
    let hb : Int := 4 * (byteAt r 11 : Int)
    let d := if x < c0 then c0 - x else x - c0
    decide (c1 ≤ y ∧ y ≤ c2 ∧ (if c2 = c1 then d ≤ ht else d * (c2 - c1) ≤ ht * (c2 - y) + hb * (y - c1)))
  | 2 => decide (1 ≤ c2 ∧ 1 ≤ c3 ∧ c3 * c3 * ((x - c0) * (x - c0)) + c2 * c2 * ((y - c1) * (y - c1)) ≤ c2 * c2 * (c3 * c3))
  | _ => false

/-- First and last column of row y of an array that the primitive covers (R218). -/
def rowSpan (r : List Byte) (cols y : Nat) : Option (Nat × Nat) :=
  let xs := (List.range cols).filter fun (x : Nat) => inside r (x : Int) (y : Int)
  match xs, xs.getLast? with
  | a :: _, some b => some (a, b)
  | _, _ => none

/-- The covered rows of an array: (row, first column, last column), ascending (R228). -/
def spans (r : List Byte) (cols rows : Nat) : List (Nat × Nat × Nat) :=
  (List.range rows).filterMap fun y => (rowSpan r cols y).map fun p => (y, p.1, p.2)

/-- CRC-8/AUTOSAR (R108): polynomial 0x2F, initial 0xFF, final XOR 0xFF. -/
def crc8 (bs : List Byte) : Nat := crcMsb 8 0x2F 0xFF bs ^^^ 0xFF

/-- LIFETIME of a record, frames. -/
def lifetime (r : List Byte) : Nat := le16 r 13

/-- A record with CLEAR set removes the primitive in its slot (R108). -/
def isClear (r : List Byte) : Bool := bit (byteAt r 1) 6

/-- The four words of record bytes 0–15. -/
def recordWords (r : List Byte) : List Nat := [le32 r 0, le32 r 4, le32 r 8, le32 r 12]

/-- Reserved bits of a record are 0 and its shape is defined (R108, R109); a CLEAR ignores bytes 2–14. -/
def recordOk (r : List Byte) : Bool :=
  decide (byteAt r 0 < 4) && !bit (byteAt r 1) 7 && (isClear r || decide (byteAt r 2 ≤ 2 ∧ byteAt r 3 < 16))

namespace State

/-- Array of the streaming stage (columns, rows). -/
def array (s : State) (n : Fin 4) : Nat × Nat :=
  match (s.ch n).cfgStrm with | some c => (c.cols, c.rows) | none => (0, 0)

/-- The mode that governs a channel: in a transition, the target from the channel's own frame start on (R41); a BOOT_LIGHT
pattern that is still shown in READY runs as in BOOT (R80). -/
def modeOf (s : State) (n : Fin 4) : Nat :=
  let now := if s.mode = modeREADY ∧ bit s.rst.tail n.val = true then modeBOOT else s.mode
  match s.sys.transit with
  | some t => if bit t.await n.val then now else t.target
  | none => now

/-- The channel streams in the current mode (R37, R38, R236). -/
def streams (s : State) (n : Fin 4) : Bool :=
  let m := s.modeOf n
  s.on (F.LEC_STATUS_RUNNING n) && s.nodeType n != 3 &&
  (m == modeBEAM || m == modePROJECT || m == modeSTATIC || m == modeLIMP || m == modeSERVICE ||
   (m == modeBOOT && s.on (F.BPF_SRCSEL_PATTERN n)))

/-- The hard entry of a slot holds a record. -/
def hardLive (s : State) (n : Fin 4) (k : Nat) : Bool := s.on (F.MSK_HSs_LIVE n k)
/-- The record of a hard entry. -/
def hardRec (s : State) (n : Fin 4) (k : Nat) : List Byte :=
  leBytes 4 (s.get (R.MSK_HMs n k 0)) ++ leBytes 4 (s.get (R.MSK_HMs n k 1)) ++ leBytes 4 (s.get (R.MSK_HMs n k 2)) ++
  leBytes 4 (s.get (R.MSK_HMs n k 3))
/-- The lifetime of a live hard entry has ended (R221): it masks no more, and awaits its expiry. -/
def hardEnded (s : State) (n : Fin 4) (k : Nat) : Bool :=
  s.hardLive n k && lifetime (s.hardRec n k) != 0 && s.rd (F.MSK_HRs_REMAIN n k) == 0

/-- Does the hard stage force a pixel dark (R227)? -/
def hardDark (s : State) (n : Fin 4) (x y : Nat) : Bool :=
  s.on (F.MSK_CTRL_HARD_EN n) && (List.range 64).any fun k =>
    s.hardLive n k && !s.hardEnded n k && inside (s.hardRec n k) (x : Int) (y : Int)

/-- MSK_STATUS counts: live entries and unacknowledged slots. -/
def mskStatus (s : State) (n : Fin 4) : State :=
  let live := ((List.range 64).filter fun k => s.hardLive n k).length
  let un := (List.range 64).any fun k => s.hardLive n k && s.rd (F.MSK_HSs_GEN n k) != s.rd (F.MSK_HSs_ACK_GEN n k)
  (s.wr (F.MSK_STATUS_LIVE n) live).wrB (F.MSK_STATUS_UNACKED n) un

/-- The payload of a HARD_MASK packet for a slot (R228). -/
def hardPayload (s : State) (n : Fin 4) (k : Nat) : List Byte :=
  let gen := s.rd (F.MSK_HSs_GEN n k)
  if s.hardLive n k then
    let (cols, rows) := s.array n
    let sp := spans (s.hardRec n k) cols rows
    let first := match sp with | [] => 0 | (y, _) :: _ => y
    leBytes 1 k ++ leBytes 1 gen ++ leBytes 2 first ++ leBytes 2 sp.length ++
      (sp.map fun p => leBytes 2 p.2.1 ++ leBytes 2 p.2.2).flatten
  else leBytes 1 (k + 64) ++ leBytes 1 gen ++ [0, 0, 0, 0]

/-- Send the HARD_MASK packet of a slot, or let it wait for the link to come UP (R228, R230, R236); a scanner node
receives none (R235). -/
def sendHard (s : State) (n : Fin 4) (k : Nat) : State :=
  if s.nodeType n == 2 || !s.on (F.MSK_CTRL_HARD_EN n) then s
  else if s.linkUp n then
    let s := (s.send n 3 (s.hardPayload n k)).incSat (F.MSK_CNT_PACKETS n)
    s.modMask n fun m => { m with unacked := k :: m.unacked.filter (· ≠ k), waiting := m.waiting.filter (· ≠ k) }
  else s.modMask n fun m => { m with waiting := k :: m.waiting.filter (· ≠ k) }

/-- A change of the hard entry of a slot: GEN, MSK_LAST, the time of the change, its packet (R230, R237). -/
def hardChanged (s : State) (n : Fin 4) (k cause : Nat) : State :=
  let s := s.incWrap (F.MSK_HSs_GEN n k)
  let s := ((s.wr (F.MSK_LAST_SLOT n) k).wr (F.MSK_LAST_GEN n) (s.rd (F.MSK_HSs_GEN n k))).wr (F.MSK_LAST_CAUSE n) cause
  let lt := s.rd (F.LNK_LT_LT n)
  let s := s.modMask n fun m => { m with changed := sset (fun _ => 0) m.changed k lt }
  (s.sendHard n k).mskStatus n

/-- Reloads for the rows of an entry that ends or shrinks other than at a frame start (R232). -/
def queueReload (s : State) (n : Fin 4) (k : Nat) : State :=
  let (cols, rows) := s.array n
  if s.on (F.MSK_CTRL_RELOAD_EN n) && s.hardLive n k then
    match spans (s.hardRec n k) cols rows with
    | [] => s
    | p :: ps =>
      let last := match ps.getLast? with | some q => q.1 | none => p.1
      let from' := sget (fun _ => 0) (s.ch n).mask.since k
      (s.modMask n fun m => { m with reload := m.reload ++ [(p.1, last, from')] }).wr (F.MSK_STATUS_RELOADING n) 1
  else s

/-- An entry ends at a frame start: during plane cache replay its rows are relit in the cache (R234). -/
def replayReload (s : State) (n : Fin 4) (k : Nat) : State :=
  if (s.ch n).bpf.replay = 3 then s.queueReload n k else s

/-- Empty a hard entry (R225, R221, R224, R236). -/
def hardEmpty (s : State) (n : Fin 4) (k cause : Nat) : State :=
  let s := (s.wr (F.MSK_HSs_LIVE n k) 0).wr (F.MSK_HRs_REMAIN n k) 0
  let s := [0, 1, 2, 3].foldl (fun s w => s.put (R.MSK_HMs n k w) 0) s
  s.hardChanged n k cause

/-- Write a hard entry (R220, R225): REMAIN is L + 1, 0 without a lifetime. -/
def hardWrite (s : State) (n : Fin 4) (r : List Byte) (cause : Nat) : State :=
  let k := byteAt r 1 % 64
  let s := s.queueReload n k
  let s := (recordWords r).zipIdx.foldl (fun s p => s.put (R.MSK_HMs n k p.2) p.1) s
  let s := s.wr (F.MSK_HSs_LIVE n k) 1
  let s := s.wr (F.MSK_HRs_REMAIN n k) (if lifetime r = 0 then 0 else lifetime r + 1)
  let next := 64 * (s.ch n).bpf.lit + (s.ch n).bpf.blk
  (s.modMask n fun m => { m with since := sset (fun _ => 0) m.since k next }).hardChanged n k cause

/-- An accepted record acts on its hard entry at once and on the soft entry at the next frame start (R220, R225). -/
def maskAccept (s : State) (n : Fin 4) (r : List Byte) (cause : Nat) : State :=
  let k := byteAt r 1 % 64
  let s := s.incWrap F.MBX_FL_ACCEPT_COUNT
  let s := s.wr F.MBX_HSTAT_FL_COUNT (s.rd F.MBX_FL_ACCEPT_COUNT)
  let s := if isClear r then (if s.hardLive n k then (s.queueReload n k).hardEmpty n k 2 else s.hardChanged n k 2)
    else s.hardWrite n r cause
  s.modMask n fun m => { m with arrived := m.arrived ++ [⟨k, if isClear r then none else some r⟩] }

/-- A dropped record (R109): counts, MBX_FL_LAST, the MB7 report, the event. -/
def maskDrop (s : State) (r : List Byte) (reason : Nat) : State :=
  let s := s.addSat F.MBX_FL_DROP_COUNT 1
  let s := s.wr F.MBX_HSTAT_FL_DROP 1
  let s := s.wr F.MBX_FL_LAST_REASON reason
  let s := (s.wr F.MBX_FL_LAST_CHANNEL (byteAt r 0 % 4)).wr F.MBX_FL_LAST_SLOT (byteAt r 1 % 64)
  let s := s.modMbx fun m => { m with flLast := (r ++ List.replicate 16 0).take 16 }
  if reason ≤ 2 then s.errEvent mbxBase 0x0320 2 reason 0
  else
    let n := chan (byteAt r 0)
    s.errEvent (mskBase n) (0x1020 + 256 * n.val) 2 reason (byteAt r 1 % 64)

/-- The checks of R109 on a record of 16 bytes: the lowest reason that applies, 0 when accepted. -/
def maskCheck (s : State) (r : List Byte) (addr : Nat) (crc : Bool) : Nat :=
  if r.length ≠ 16 then 1
  else if addr ≠ 0x2C00 then 2
  else if crc && decide (crc8 (r.take 15) ≠ byteAt r 15) then 3
  else if !recordOk r then 4
  else if !s.streams (chan (byteAt r 0)) then 5
  else 0

/-- A Fast Lane record or a register submission (R108, R109, R237). -/
def maskSubmit (s : State) (r : List Byte) (addr : Nat) (crc : Bool) (cause : Nat) : State :=
  let reason := s.maskCheck r addr crc
  if reason = 0 then s.maskAccept (chan (byteAt r 0)) r cause else s.maskDrop r reason

/-- The soft entry of a slot changes: CMP_SMs and its lifetime (R220, R221). -/
def softSet (s : State) (n : Fin 4) (c : SoftChg) : State :=
  match c.record with
  | some r =>
    let s := (recordWords r).zipIdx.foldl (fun s p => s.put (R.CMP_SMs n c.slot p.2) p.1) s
    s.modMask n fun m => { m with softLive := sset (fun _ => false) m.softLive c.slot true,
                                  softLife := sset (fun _ => 0) m.softLife c.slot (lifetime r) }
  | none =>
    let s := [0, 1, 2, 3].foldl (fun s w => s.put (R.CMP_SMs n c.slot w) 0) s
    s.modMask n fun m => { m with softLive := sset (fun _ => false) m.softLive c.slot false,
                                  softLife := sset (fun _ => 0) m.softLife c.slot 0 }

/-- The soft entry of a slot is live. -/
def softLive (s : State) (n : Fin 4) (k : Nat) : Bool := sget (fun _ => false) (s.ch n).mask.softLive k
/-- The record of a soft entry. -/
def softRec (s : State) (n : Fin 4) (k : Nat) : List Byte :=
  leBytes 4 (s.get (R.CMP_SMs n k 0)) ++ leBytes 4 (s.get (R.CMP_SMs n k 1)) ++ leBytes 4 (s.get (R.CMP_SMs n k 2)) ++
  leBytes 4 (s.get (R.CMP_SMs n k 3))

/-- One slot at a frame start: lifetimes count down (R221); an ended soft entry is emptied. -/
def lifeTick (s : State) (n : Fin 4) (k : Nat) : State :=
  let r := s.rd (F.MSK_HRs_REMAIN n k)
  let s := if r = 0 then s else s.wr (F.MSK_HRs_REMAIN n k) (r - 1)
  let l := sget (fun _ => 0) (s.ch n).mask.softLife k
  if l = 0 then s
  else if l = 1 then s.softSet n ⟨k, none⟩
  else s.modMask n fun m => { m with softLife := sset (fun _ => 0) m.softLife k (l - 1) }

/-- The mask part of a frame start (R221, R222, R224). -/
def maskFrame (s : State) (n : Fin 4) : State :=
  let s := (List.range 64).foldl (fun s k => s.lifeTick n k) s
  let s := (s.ch n).mask.arrived.foldl (fun s c => s.softSet n c) s
  let ends := (s.ch n).mask.endNow
  let s := s.modMask n fun m => { m with arrived := [], endNow := m.endNext, endNext := [] }
  let s := ends.foldl (fun s p => if s.hardLive n p.1 && s.rd (F.MSK_HSs_GEN n p.1) == p.2 then (s.replayReload n p.1).hardEmpty n p.1 4 else s) s
  let live := ((List.range 64).filter fun k => s.softLive n k).length
  s.wr (F.CMP_STATUS_SOFT_COUNT n) live

/-- The soft-mask changes of a commit arrive at its latch point (R222–R224). -/
def maskLatch (s : State) (n : Fin 4) : State :=
  let cs := (s.ch n).mask.stageNew
  let ends := (cs.filter fun c => s.hardLive n c.slot).map fun c => (c.slot, s.rd (F.MSK_HSs_GEN n c.slot))
  s.modMask n fun m => { m with stageNew := [], arrived := m.arrived ++ cs, endNext := m.endNext ++ ends }

/-- MSK sends every live hard entry again, and the CLEAR packets that waited (R231, R236). -/
def maskResend (s : State) (n : Fin 4) : State :=
  (List.range 64).foldl (fun s k => if s.hardLive n k || (s.ch n).mask.waiting.contains k then s.sendHard n k else s) s

/-- The channel stops: both lists are emptied (R236). -/
def maskStop (s : State) (n : Fin 4) : State :=
  let hard := (List.range 64).filter fun k => s.hardLive n k
  let soft := (List.range 64).filter fun k => s.softLive n k
  let s := hard.foldl (fun s k => s.hardEmpty n k 5) s
  let s := soft.foldl (fun s k => s.softSet n ⟨k, none⟩) s
  let s := s.modMask n fun m => { m with arrived := [], endNext := [], endNow := [], reload := [] }
  let s := (s.wr (F.CMP_STATUS_SOFT_COUNT n) 0).wr (F.MSK_STATUS_RELOADING n) 0
  s.logEvent (0x1021 + 256 * n.val) 1 hard.length soft.length

end State

open Host (Outcome)

/-- MASK_INJECT (R237): a write of MSK_INJ_GO submits MSK_INJ0–MSK_INJ3 without a CRC8 check. -/
def execMaskInject (n : Chan) (v : Word) (s : State) : Outcome State Fault Refusal :=
  .next (if bit v.toNat 0 && !s.subHeld n 6 then
    s.maskSubmit (leBytes 4 (s.get (R.MSK_INJ n 0)) ++ leBytes 4 (s.get (R.MSK_INJ n 1)) ++
      leBytes 4 (s.get (R.MSK_INJ n 2)) ++ leBytes 4 (s.get (R.MSK_INJ n 3))) 0x2C00 false 1
    else s)

/-- MASK_LIFETIME_EXPIRY (R221): a hard entry whose lifetime has ended is emptied and its CLEAR packet sent. -/
def execMaskLifetimeExpiry (n : Chan) (slot : Fin 64) (s : State) : Outcome State Fault Refusal :=
  .next (if s.hardEnded n slot.val && !s.subStill n 6 then (s.replayReload n slot.val).hardEmpty n slot.val 3 else s)

/-- MASK_ACK_TIMEOUT (R230): no acknowledgement within 40 us of the change. -/
def execMaskAckTimeout (n : Chan) (slot : Fin 64) (s : State) : Outcome State Fault Refusal :=
  .next (if (s.ch n).mask.unacked.contains slot.val && s.linkUp n && !s.subStill n 6 then
    (let s := s.errEvent (mskBase n) (0x1022 + 256 * n.val) 4 slot.val (s.rd (F.MSK_HSs_GEN n slot.val))
     (s.incSat (F.MSK_CNT_UNACKED n)).sendHard n slot.val)
    else s)

/-- BACK_MASK_ACK: the acknowledgement of a slot and GEN (R230, R237). -/
def State.maskAck (s : State) (n : Fin 4) (slot gen : Nat) : State :=
  let k := slot % 64
  let s := s.wr (F.MSK_HSs_ACK_GEN n k) gen
  if gen % 256 == s.rd (F.MSK_HSs_GEN n k) then
    let t := satN 16 ((s.rd (F.LNK_LT_LT n) + 2 ^ 32 - sget (fun _ => 0) (s.ch n).mask.changed k) % 2 ^ 32)
    let s := s.wr (F.MSK_ACK_TIME_LAST n) t
    let s := s.wr (F.MSK_ACK_TIME_MAX n) (max (s.rd (F.MSK_ACK_TIME_MAX n)) t)
    let s := s.modLink n fun l => { l with oweMasks := l.oweMasks.filter (· ≠ k) }
    (s.modMask n fun m => { m with unacked := m.unacked.filter (· ≠ k) }).mskStatus n
  else s.mskStatus n

end Sys2Proof.Machine
end

