-- ==== Sys2Proof/Machine/Source.lean ====
section
/-! DEFINITION. Light sources (chapter 11): source commands, set-points, amplitude tables, LAMPn_EN_N, derating. -/

namespace Sys2Proof.Machine

namespace State

/-- Block errors: an event of severity 2 or higher that a block detects is an error of the block (R385); one of severity
0 or 1 reports an action and is none (log entry 8). -/
def blockEvent (s : State) (base code sev a b : Nat) : State :=
  if 2 ≤ sev then s.errEvent base code sev a b else s.logEvent code sev a b

/-- The mode permits light on the channel (R242). -/
def lightPermit (s : State) (n : Fin 4) : Bool :=
  let m := s.modeOf n
  m == modeBEAM || m == modePROJECT || m == modeSTATIC || m == modeLIMP || m == modeSERVICE ||
  (m == modeSIGNATURE && s.nodeType n == 3) || (m == modeBOOT && s.on (F.BPF_SRCSEL_PATTERN n))

/-- The ARM bits but for the dark field in progress (R242, R247). -/
def armRaw (s : State) (n : Fin 4) : Nat :=
  if s.lightPermit n && s.on (F.LEC_STATUS_RUNNING n) && !(s.ch n).src.parkSet then
    s.rdS (F.SRC_CTRL_EN n) &&& s.nodeSources n
  else 0

/-- The ARM bits of the next command (R242). -/
def arm (s : State) (n : Fin 4) : Nat := if (s.ch n).fieldDark then 0 else s.armRaw n

/-- The LAMPn_EN_N pin is driven; the pad follows unless the board holds it (R247, R248). -/
def setLampEn (s : State) (n : Fin 4) (high : Bool) : State :=
  let s := if s.pins.lampEnN.get n == high then s
    else s.modPins fun p => { p with lampEnN := s.pins.lampEnN.set n high, lampPad := s.pins.lampPad.set n (high || !bit s.pins.drivers n.val) }
  (s.wrB (F.SRC_STATUS_EN_DRIVEN n) (!high)).wrB (F.SRC_STATUS_EN_PAD n) (!s.pins.lampPad.get n)

/-- LAMPn_EN_N follows the ARM conditions (R247). -/
def lampUpdate (s : State) (n : Fin 4) : State := s.setLampEn n (s.armRaw n == 0)

/-- LAMPn_EN_N of every channel. -/
def lampAll (s : State) : State := chans.foldl (fun s n => s.lampUpdate n) s

/-- CHn_OE_N follows its conditions (R297), and the termination of CHn_RET the port's enable (R416). -/
def chnOe (s : State) (n : Fin 4) : State :=
  let low := s.on (F.CHN_CTRL_EN n) && s.on (F.CHN_CTRL_OE n) && !(s.ch n).src.parkSet && !(s.ch n).link.idle && (s.ch n).chn.latched
  let ret := s.on (F.CHN_CTRL_EN n)
  (s.modPins fun p => { p with oeN := s.pins.oeN.set n (!low), retTerm := s.pins.retTerm.set n ret }).wrB (F.CHN_STATUS_OE_LOW n) low

/-- Level in force of the function groups that hold source k of a segment-only node: the smallest, 0 when none does
(R240, R304). -/
def sourceLevel (s : State) (n : Fin 4) (k : Nat) : Nat :=
  let gs := (List.range 32).filter fun g => bit (sget (fun _ => 0) (s.ch n).src.groups g) k
  match gs with
  | [] => 0
  | _ => gs.foldl (fun v g => min v (if s.on (F.CHN_GLVLg_FORCED n g) then 0 else s.rd (F.CHN_GLVLg_LEVEL n g))) 65535

/-- The effective set-point of source k (R239, R240). -/
def spEff (s : State) (n : Fin 4) (k : Fin 4) : Nat :=
  let sp := if bit (s.rdS (F.SRC_CTRL_SP_SEL n)) k.val then (s.ch n).src.tutorSp.get k else s.rdS (F.SRC_SPs_SP n k.val)
  let c := min (max sp (s.rdS (F.SRC_SPLIMs_MIN n k.val))) (s.rdS (F.SRC_SPLIMs_MAX n k.val))
  let e := roundDiv (c * (s.ch n).src.f) 4096
  if s.nodeType n == 3 then roundDiv (e * s.sourceLevel n k.val) 65535 else e

/-- The 12-byte source command (R241). -/
def sourceCommand (s : State) (n : Fin 4) : List Byte :=
  leBytes 1 (s.arm n + 16 * b2n (s.ch n).src.parkSet) ++ leBytes 1 (s.rd (F.SRC_TGEN_SENT n)) ++
  leBytes 2 (s.spEff n 0) ++ leBytes 2 (s.spEff n 1) ++ leBytes 2 (s.spEff n 2) ++ leBytes 2 (s.spEff n 3) ++
  leBytes 2 (s.ch n).src.f

/-- The values of the last command, as SRC_STATUS, SRC_DERATE_TEMP and SRC_SPNOWs report them (R255). -/
def reportCommand (s : State) (n : Fin 4) : State :=
  let s := (s.wr (F.SRC_STATUS_ARM n) (s.arm n)).wrB (F.SRC_STATUS_PARK n) (s.ch n).src.parkSet
  let s := s.wr (F.SRC_STATUS_F n) (s.ch n).src.f
  let s := s.wr (F.SRC_DERATE_TEMP_T n) (unsigned (s.ch n).src.temp 16)
  let s := s.wr (F.SRC_DERATE_TEMP_TH n) (match (s.ch n).src.th with | some t => unsigned t 16 | none => 0)
  chans.foldl (fun s k => (s.wr (F.SRC_SPNOWs_EFF n k.val) (s.spEff n k)).wr (F.SRC_SPNOWs_TUTOR n k.val)
    ((s.ch n).src.tutorSp.get k)) s

/-- PARK of a stopped raster clears in the first command formed after a light mode was accepted (R254). -/
def unparkStopped (s : State) (n : Fin 4) : State :=
  if (s.ch n).src.unpark && !s.on (F.LEC_STATUS_RUNNING n) then
    ((s.modSrc n fun r => { r with parkSet := false, unpark := false, parkDark := true }).wr (F.SRC_STATUS_PARKED n) 0).chnOe n
  else s

/-- The 42-byte control slot (R262). -/
def slotContent (s : State) (n : Fin 4) : List Byte :=
  let l := (s.ch n).link
  let run := s.on (F.LEC_STATUS_RUNNING n)
  let fields := match (s.ch n).cfgStrm with | some c => c.fields | none => 1
  let next := if run then ((s.ch n).fieldLt + s.rd (F.BPF_FIELD_T_T n)) % 2 ^ 32 else (Config.openWord s.free).toNat
  let ix := if run then (s.rd (F.BPF_STATUS_FIELD n) + 1) % max 1 fields else 0
  let flags := b2n (s.ch n).fieldDark + 2 * b2n (s.linkState n == 4) + 4 * b2n (match l.neg with | some g => g.retrain | none => false)
  let body := leBytes 4 (s.rd (F.LNK_LT_LT n)) ++ leBytes 2 l.slotSeq ++ leBytes 1 flags ++ [0] ++ s.sourceCommand n ++
    leBytes 4 (s.get (R.LEC_FRAME_COUNT n)) ++ leBytes 4 next ++ leBytes 1 ix ++ List.replicate 9 0
  body ++ leBytes 4 (crc32 body)

/-- One control slot time: the link time moves on by 256 units; in UP, REPLAY and DOWN a slot is sent (R241, R258,
R262, R279, R280). -/
def controlSlot (s : State) (n : Fin 4) : State :=
  let s := s.wr (F.LNK_LT_LT n) ((s.rd (F.LNK_LT_LT n) / 256 * 256 + 256) % 2 ^ 32)
  let s := (s.unparkStopped n).lampUpdate n
  let st := s.linkState n
  if (st == 3 || st == 4 || st == 5) && !(s.ch n).link.idle && !s.subHeld n 7 then
    let body := s.slotContent n
    let s := s.reportCommand n
    (s.modLink n fun l => { l with lastSlot := body, slotSeq := (l.slotSeq + 1) % 65536, wire := slotBlocks l.slotSeq body }).nextFree
  else if st != 0 && (s.ch n).link.idle then s.modLink n fun l => { l with wire := [idleBlock] }
  else s

/-! ### Amplitude tables (R245) -/

/-- The amplitude words of a channel in a bank, source by source. -/
def ampWords (n : Fin 4) (bank : RegFile) : List Nat :=
  chans.flatMap fun k => (List.range 8).map fun l =>
    bits (sget regReset bank (F.SRC_AMPs_l_A n k.val l).addr).toNat (F.SRC_AMPs_l_A n k.val l).lo (F.SRC_AMPs_l_A n k.val l).w

/-- Send one source's table as an AMP_TABLE packet. -/
def sendAmp (s : State) (n : Fin 4) (words : List Nat) (gen k : Nat) : State :=
  s.send n 4 (leBytes 1 k ++ leBytes 1 gen ++ (((words.drop (8 * k)).take 8).map fun v => leBytes 4 v).flatten)

/-- A commit that changes any table: between its transfer line and its target frame start the tables of a new generation
are sent (R245).  The configuration that composes next is compared with the one before it, at the frame start between the
two (log entry 93). -/
def ampTransfer (s : State) (n : Fin 4) : State :=
  let new := ampWords n s.comp
  if new = ampWords n (s.ch n).work then s
  else
    let g := (s.rd (F.SRC_TGEN_SENT n) + 1) % 16
    let s := s.modSrc n fun r => { r with tgenNew := some g, tgenDue := false, acks := 0, ampsNew := new }
    [0, 1, 2, 3].foldl (fun s k => s.sendAmp n new g k) s

/-- A new generation whose four tables are acknowledged goes into the commands. -/
def tgenRaise (s : State) (n : Fin 4) : State :=
  match (s.ch n).src.tgenNew with
  | some g =>
    if (s.ch n).src.acks == 15 && (s.ch n).src.tgenDue then
      ((s.wr (F.SRC_TGEN_SENT n) g).modSrc n fun r => { r with tgenNew := none, tgenDue := false, amps := r.ampsNew }).modLink n
        fun l => { l with oweTabs := 0 }
    else s
  | none => s

/-- The frame start of the target frame: TGEN is raised, or the old one kept and 0x1n42 logged; unacknowledged tables
are sent again (R245, R273). -/
def ampFrame (s : State) (n : Fin 4) : State :=
  match (s.ch n).src.tgenNew with
  | some g =>
    let was := (s.ch n).src.tgenDue
    let s := s.modSrc n fun r => { r with tgenDue := true }
    if (s.ch n).src.acks == 15 then s.tgenRaise n
    else
      let s := if was then s else s.blockEvent (srcBase n) (0x1042 + 256 * n.val) 3 g 0
      [0, 1, 2, 3].foldl (fun s k => if bit (s.ch n).src.acks k then s else s.sendAmp n (s.ch n).src.ampsNew g k) s
  | none => s

/-- TABLE_ACK: source and generation acknowledged by the node; of the generation in force it counts after a node reset (R275). -/
def tableAck (s : State) (n : Fin 4) (k g : Nat) : State :=
  let s := if g % 16 = s.rd (F.SRC_TGEN_SENT n) ∧ k < 4 then s.modLink n fun l => { l with oweTabs := setBit l.oweTabs k false } else s
  match (s.ch n).src.tgenNew with
  | some g' =>
    if g % 16 = g' ∧ k < 4 then
      let s := s.modSrc n fun r => { r with acks := setBit r.acks k true }
      if (s.ch n).src.acks == 15 then s.wr (F.SRC_TGEN_ACKED n) g' else s
    else s
  | none => s

/-- The tables in force are sent again after a retrain or a node reset, and those of a generation on its way. -/
def ampResend (s : State) (n : Fin 4) : State :=
  let r := (s.ch n).src
  let s := [0, 1, 2, 3].foldl (fun s k => s.sendAmp n r.amps (s.rd (F.SRC_TGEN_SENT n)) k) s
  match r.tgenNew with
  | some g => [0, 1, 2, 3].foldl (fun s k => s.sendAmp n r.ampsNew g k) s
  | none => s

/-! ### Derating (R249–R251) -/

/-- A PHOTOMETRIC context of the channel is enabled (R251). -/
def photometric (s : State) (n : Fin 4) : Bool :=
  [0, 1, 2, 3].any fun c => s.on (F.TUT_CTXc_CTRL_EN n c) && s.rd (F.TUT_CTXc_CTRL_TEMPLATE n c) == 1

/-- The larger of two readings, either of which may be missing. -/
def maxOpt (a b : Option Int) : Option Int :=
  match a, b with
  | some x, some y => some (if x < y then y else x)
  | some x, none => some x
  | none, y => y

/-- Tutor's junction estimate: the highest of the latest values of the enabled contexts (R318). -/
def junction (s : State) (n : Fin 4) : Option Int :=
  (s.ch n).tut.junc.foldl (fun o p => if s.on (F.TUT_CTXc_CTRL_EN n (p.1 / 16)) then maxOpt o p.2 else o) none

/-- The selected temperature in 1/16 °C; none when every selected input is lost (R249, R251). -/
def selTemp (s : State) (n : Fin 4) : Option Int :=
  let t := if s.photometric n then s.junction n else none
  let l := if (s.ch n).src.sensorLost then none else some (signed (s.rd (F.TUT_LAMP_T_T n)) 16)
  match s.rdS (F.SRC_DERATE_CFG_TSEL n) with
  | 0 => t
  | 1 => l
  | 2 => maxOpt t l
  | _ => none

/-- Loss and return of the selected inputs (R251). -/
def tempCheck (s : State) (n : Fin 4) : State :=
  if !s.onS (F.SRC_DERATE_CFG_ARMED n) then s
  else
    let lost := (s.ch n).src.tempLost
    let sel := s.rdS (F.SRC_DERATE_CFG_TSEL n)
    match s.selTemp n with
    | none =>
      if lost then s
      else ((s.modSrc n fun r => { r with tempLost := true }).wr (F.SRC_STATUS_INPUT_LOST n) 1).blockEvent (srcBase n)
        (0x2011 + 256 * n.val) 4 sel 0
    | some _ =>
      if lost then ((s.modSrc n fun r => { r with tempLost := false }).wr (F.SRC_STATUS_INPUT_LOST n) 0).blockEvent
        (srcBase n) (0x2011 + 256 * n.val) 1 (0x80 + sel) 0
      else s

/-- f takes a new value; entry into and exit from derating are logged (R250). -/
def setF (s : State) (n : Fin 4) (f : Nat) : State :=
  let was := s.on (F.SRC_STATUS_DERATING n)
  let th := match (s.ch n).src.th with | some t => unsigned (t / 16) 16 | none => 0
  let s := s.modSrc n fun r => { r with f := f }
  let s := s.wrB (F.SRC_STATUS_DERATING n) (decide (f < 4096))
  if f < 4096 && !was then s.blockEvent (srcBase n) (0x2010 + 256 * n.val) 2 1 th
  else if decide (4096 ≤ f) && was then s.blockEvent (srcBase n) (0x2010 + 256 * n.val) 1 0 th
  else s

/-- The hysteretic temperature after a reading t, 1/16 °C (R249). -/
def thNext (th : Option Int) (t : Int) : Int :=
  match th with
  | none => t
  | some h => if h < t then t else if t < h - 48 then t + 48 else h

/-- The derating factor of a hysteretic temperature in 1/16 °C (R249). -/
def derateF (knee slope floor : Nat) (th : Int) : Nat :=
  if (16 * knee : Nat) < th then
    max (roundDiv (4096 * floor) 100) (4096 - roundDiv (4096 * slope * (th - (16 * knee : Nat)).toNat) 16000)
  else 4096

/-- One evaluation of the armed law (R249). -/
def derateEval (s : State) (n : Fin 4) : State :=
  if !s.onS (F.SRC_DERATE_CFG_ARMED n) then s
  else
    let s := s.tempCheck n
    match s.selTemp n with
    | none => s
    | some t =>
      let th := thNext (s.ch n).src.th t
      let s := s.modSrc n fun r => { r with th := some th, temp := t }
      s.setF n (derateF (s.rdS (F.SRC_DERATE_CFG_KNEE n)) (s.rdS (F.SRC_DERATE_CFG_SLOPE n))
        (s.rdS (F.SRC_DERATE_CFG_FLOOR n)) th)

/-- The law as armed in the streaming stage: arming starts with th unset; disarming returns f to 4,096 (R249, R251). -/
def lawUpdate (s : State) (n : Fin 4) (was : Bool) : State :=
  let now := s.onS (F.SRC_DERATE_CFG_ARMED n)
  let s := s.wrB (F.SRC_STATUS_LAW_ARMED n) now
  if was == now then s
  else
    let s := if now then s else s.setF n 4096
    let s := s.modSrc n fun r => { r with th := none, tempLost := false }
    s.wr (F.SRC_STATUS_INPUT_LOST n) 0

/-- LAMPn_EN_N pad and driven level differ (R248). -/
def lampMismatch (s : State) (n : Fin 4) : State :=
  let high := s.pins.lampEnN.get n
  let s := s.modPins fun p => { p with lampPad := s.pins.lampPad.set n (!high) }
  let s := (s.wrB (F.SRC_STATUS_EN_PAD n) high).wr (F.SRC_STATUS_MISMATCH n) 1
  s.blockEvent (srcBase n) (0x1040 + 256 * n.val) (if high then 6 else 3) (if high then 1 else 2) 0

end State

open Host (Outcome)

/-- LAMP_EN_MISMATCH (R248): the pad has differed from the driven level for more than 2 us. -/
def execLampEnMismatch (n : Chan) (s : State) : Outcome State Fault Refusal := .next (if s.subStill n 7 then s else (s.lampMismatch n))

/-- DERATE_EVALUATION (R249). -/
def execDerateEvaluation (n : Chan) (s : State) : Outcome State Fault Refusal :=
  .next (if s.subStill n 7 then s else s.derateEval n)

/-- TEMP_INPUT_LOSS (R251): the lamp sensor has been silent for 10 ms. -/
def execTempInputLoss (n : Chan) (s : State) : Outcome State Fault Refusal :=
  .next (if s.subStill n 7 then s else (s.modSrc n fun r => { r with sensorLost := true }).tempCheck n)

end Sys2Proof.Machine
end

