-- ==== Sys2Proof/Machine/Chains.lean ====
section
/-! DEFINITION. LED chain ports and function groups (chapter 13): Roll Call, swap points, reloads, levels, returned
diagnosis, audit, probing and group-off. -/

namespace Sys2Proof.Machine

/-! ### Command words (R285) -/

/-- A command word: SYNC, OP, the 12-bit argument and its CRC-8. -/
def chainWord (op arg : Nat) : Nat :=
  let h := 0xD2 * 2 ^ 16 + op * 2 ^ 12 + arg % 4096
  h * 256 + crc8 [BitVec.ofNat 8 (h / 65536), BitVec.ofNat 8 (h / 256), BitVec.ofNat 8 h]
/-- LOAD carries SEQ; SETTLE the multiplex ratio and the PWM code; ADDRESS and READ_ID nothing. -/
def loadWord (seq : Nat) : Nat := chainWord 1 (seq % 256 * 16)
def addressWord : Nat := chainWord 2 0
def readIdWord : Nat := chainWord 3 0
def settleWord (mux pwm : Nat) : Nat := chainWord 4 ((mux - 1) % 8 * 512 + pwm % 4 * 128)

/-- A driver frame: header with ADDR, TYPE 0, PROBE and GB, the values of its rows, and the CRC-8 over both (R286). -/
def dataFrame (addr : Nat) (probe : Bool) (gb : Nat) (vs : List Nat) : List Nat :=
  let ws := (addr % 64 * 1024 + 128 * b2n probe + gb % 128) :: vs
  ws ++ [crc8 (ws.flatMap fun w => [BitVec.ofNat 8 (w / 256), BitVec.ofNat 8 w])]

/-! ### Roll Call (R288–R292) -/

/-- One bit of the identity record's CRC: x^4 + x + 1, most significant bit first (R290). -/
def crc4Bit (c : Nat) (b : Bool) : Nat :=
  let t := c / 8 % 2 == 1
  let c := 2 * c % 16
  if t != b then c ^^^ 3 else c

/-- CRC of bits [29:4] of an identity record (R290). -/
def crc4 (r : Nat) : Nat := (List.range 26).foldl (fun c i => crc4Bit c (bit r (29 - i))) 0

/-- A valid identity record for address a: marker, address and CRC (R290, R292). -/
def idOk (a r : Nat) : Bool := bits r 28 2 == 2 && bits r 22 6 == a && bits r 0 4 == crc4 r

/-- Highest clock of a record, kHz; reserved codes are taken as 20 MHz (R290). -/
def idClock (r : Nat) : Nat := [20000, 25000, 30000, 40000, 50000].getD (bits r 12 3) 20000

/-- What a port returns to Roll Call: the fate of the command words (0 no ADDRESS word, 1 returned, 2 a command word
failed its CRC), the count N, and the records in address order. -/
structure RollIn where
  words : Nat
  count : Nat
  recs : List Nat
  deriving DecidableEq, Repr

/-- Read an operand list: words, count, records. -/
def rollIn : List Nat → RollIn
  | w :: c :: rs => ⟨w, min c 64, rs⟩
  | _ => ⟨0, 0, []⟩

/-- Valid records counted from address 0. -/
def validRun : Nat → List Nat → Nat
  | _, [] => 0
  | a, r :: rs => if idOk a r then validRun (a + 1) rs + 1 else 0

/-- Result code and drivers found (R292). -/
def rollResult (i : RollIn) : Nat × Nat :=
  if i.words = 0 ∨ i.count = 0 then (1, 0)
  else if i.words = 2 then (2, 0)
  else
    let k := min i.count (validRun 0 i.recs)
    if k < i.count then (3, k) else (0, i.count)

namespace State

/-- Chain state of a channel. -/
def cn (s : State) (n : Fin 4) : ChnRun := (s.ch n).chn
/-- Change a channel's chain state. -/
def modChn (s : State) (n : Fin 4) (f : ChnRun → ChnRun) : State := s.modCh n fun c => { c with chn := f c.chn }

/-- CHn_LAT_N is driven low and high again: a latch pulse, or a chain reset of 40 bit times (R284, R288). -/
def latPulse (s : State) (n : Fin 4) (reset : Bool) : State :=
  (s.modPins fun p => { p with latN := p.latN.set n true }).modChn n fun c =>
    { c with latEdges := if reset then (c.latEdges.1, c.latEdges.2 + 1) else (c.latEdges.1 + 1, c.latEdges.2) }

/-- Roll Call on a port with the highest clock offered (kHz) and the stored multiplex ratio (R288–R292): a chain reset, and
the ADDRESS, READ_ID and SETTLE words; the termination of CHn_RET is on while it runs (R416), which is within this step. -/
def rollCall (s : State) (n : Fin 4) (offKhz ratio : Nat) (i : RollIn) : State :=
  let (res, k) := rollResult i
  let found := i.recs.take k
  let clk := found.foldl (fun c r => min c (idClock r)) offKhz
  let pwm := found.foldl (fun c r => min c (bits r 18 2)) 2
  let mux := found.foldl (fun c r => min c (bits r 15 3 + 1)) ratio
  let tdiag := 50 * found.foldl (fun c r => max c (bits r 4 8)) 0
  let s := (s.latPulse n true).modChn n fun c => { c with words := [addressWord, readIdWord, settleWord mux pwm] }
  let s := (List.range 64).foldl (fun s d => s.wr (F.CHN_DRVd_ID n d) (found.getD d 0)) s
  let s := s.wr (F.CHN_MODE_DRIVERS n) k
  let s := if k = 0 then ((s.wr (F.CHN_MODE_MUX n) 0).wr (F.CHN_MODE_PWM n) 0).wr (F.CHN_MODE_DIV n) 0
    else ((s.wr (F.CHN_MODE_MUX n) mux).wr (F.CHN_MODE_PWM n) pwm).wr (F.CHN_MODE_DIV n) (ceilDiv 300000 clk)
  let s := ((s.wr (F.CHN_RC_RESULT n) res).wr (F.CHN_RC_COUNTED n) i.count).wr (F.CHN_RC_TDIAG n) tdiag
  if res = 0 then s else s.blockEvent (chnBase n) (0x3003 + 256 * n.val) 3 res i.count

/-! ### Groups and levels (R303, R304) -/

/-- The committed groups that hold position p of a port, ascending. -/
def groupsOf (s : State) (n : Fin 4) (p : Nat) : List Nat :=
  (List.range 32).filter fun g => (List.range 64).any fun r =>
    s.onA (F.CHN_RNGr_B_VALID n r) && s.rdA (F.CHN_RNGr_B_GROUP n r) == g &&
    decide (s.rdA (F.CHN_RNGr_A_FIRST n r) ≤ p ∧ p < s.rdA (F.CHN_RNGr_A_FIRST n r) + s.rdA (F.CHN_RNGr_A_COUNT n r))

/-- Does a port hold a group, in a range or in the sources of its channel? -/
def holdsGroup (s : State) (n : Fin 4) (g : Nat) : Bool :=
  sget (fun _ => 0) (s.ch n).src.groups g != 0 ||
  (List.range 64).any fun r => s.onA (F.CHN_RNGr_B_VALID n r) && s.rdA (F.CHN_RNGr_B_GROUP n r) == g

/-- Level in force of a position: the smallest among its groups (R304). -/
def levelAt (s : State) (n : Fin 4) (p : Nat) : Nat :=
  (s.groupsOf n p).foldl (fun v g => min v (s.rd (F.CHN_GLVLg_LEVEL n g))) 65535

/-- A level moved by (target − start) / fade, rounded. -/
def fadeStep (level target start fade : Nat) : Nat :=
  if start ≤ target then min 65535 (level + roundDiv (target - start) fade)
  else level - roundDiv (start - target) fade

/-- Group g of a port at a swap point (R303, R304). -/
def levelTick (s : State) (n : Fin 4) (g : Nat) : State :=
  if s.on (F.CHN_GLVLg_FORCED n g) then
    (s.wr (F.CHN_GLVLg_LEVEL n g) 0).modChn n fun c => { c with fade := sset (fun _ => none) c.fade g none }
  else
    let lv := s.rd (F.CHN_GLVLg_LEVEL n g)
    let tg := s.rd (F.CHN_GTGTg_TARGET n g)
    let fd := s.rd (F.CHN_GTGTg_FADE n g)
    if lv = tg then s
    else
      let (st, k) := (sget (fun _ => none) (s.cn n).fade g).getD (lv, 0)
      let last := decide (fd ≤ k + 1)
      (s.wr (F.CHN_GLVLg_LEVEL n g) (if last then tg else fadeStep lv tg st fd)).modChn n fun c =>
        { c with fade := sset (fun _ => none) c.fade g (if last then none else some (st, k + 1)) }

/-- A LEVEL or a write of CHN_GTGTg starts a new move. -/
def levelNew (s : State) (n : Fin 4) (g : Nat) : State :=
  s.modChn n fun c => { c with fade := sset (fun _ => none) c.fade g none }

/-! ### CHn_OE_N and run state (R293, R296, R297) -/

/-- The run state after a change of CHN_CTRL or of the settled mode. -/
def chnSync (s : State) (n : Fin 4) : State :=
  let run := s.on (F.CHN_CTRL_EN n) && s.rd (F.CHN_MODE_MUX n) != 0
  let s := if run then s.wr (F.CHN_STATUS_STATE n) (if s.on (F.CHN_CTRL_STORED n) then 3 else 2)
    else (((s.wr (F.CHN_STATUS_STATE n) 0).wr (F.CHN_STATUS_RELOADING n) 0).wr (F.CHN_STATUS_LAT_WAIT n) 0).modChn n fun c =>
      { c with latched := false, waitLogged := false }
  s.chnOe n

/-! ### Frame memory and content (R293, R294) -/

/-- The 16-bit value of position p in a bank. -/
def bankVal (s : State) (n : Fin 4) (b p : Nat) : Nat := leNat (sgets memReset (s.cn n).mem (16384 * b + 2 * p) 2)
/-- Write the value of position p in a bank. -/
def bankSet (s : State) (n : Fin 4) (b p v : Nat) : State :=
  s.modChn n fun c => { c with mem := ssets memReset c.mem (16384 * b + 2 * p) (leBytes 2 v) }
/-- Write a whole bank. -/
def bankFill (s : State) (n : Fin 4) (b : Nat) (vs : List Nat) : State :=
  (List.range 8192).foldl (fun s p => s.bankSet n b p (vs.getD p 0)) s

/-- The bank that is not being sent. -/
def fillBank (s : State) (n : Fin 4) : Nat := 1 - s.rd (F.CHN_STATUS_SHIFT_BANK n)

/-- SEQUENCE: read the next ANIMATION frame into the fill bank (R294); a fill that cannot be read stays incomplete (R367). -/
def seqFill (s : State) (n : Fin 4) : State :=
  if s.rdA (F.CHN_CFG_SOURCE n) = 1 ∧ (s.cn n).seqOn ∧ s.dramOk ∧ ¬ s.on (F.CHN_CTRL_STORED n) then
    let a := s.rdA (F.CHN_ASSET_ADDR n) * 4096
    let frames := leNat (s.dread (a + 4) 2)
    let pos := leNat (s.dread (a + 6) 2)
    let reps := s.rdA (F.CHN_ANIM_REPEATS n)
    if reps ≠ 0 ∧ reps ≤ (s.cn n).seqDone then s
    else
      let k := (s.cn n).seqFrame
      let base := a + 16 + ceilDiv frames 64 * 64 + k * 2 * pos
      if s.badRead (a + 4) 4 || s.badRead (a + 16 + k) 1 || s.badRead base (2 * min pos 8192) then
        ((s.portRead 10 (a + 4) 4).portRead 10 base (2 * min pos 8192))
      else
      let vs := (List.range (min pos 8192)).map fun p => leNat (s.dread (base + 2 * p) 2)
      let s := (s.bankFill n (s.fillBank n) vs).wr (F.CHN_STATUS_FILL_READY n) 1
      let hold := leNat (s.dread (a + 16 + k) 1)
      let wrap := decide (frames ≤ k + 1)
      s.modChn n fun c => { c with seqNext := max 1 hold, seqFrame := if wrap then 0 else k + 1,
                                   seqDone := if wrap then c.seqDone + 1 else c.seqDone }
  else s

/-- Exchange the banks: the fill bank, with a completed frame, becomes the shift bank (R293). -/
def bankExchange (s : State) (n : Fin 4) : State :=
  let s := (s.wr (F.CHN_STATUS_SHIFT_BANK n) (s.fillBank n)).wr (F.CHN_STATUS_FILL_READY n) 0
  let s := s.modChn n fun c => { c with seqHold := c.seqNext }
  s.seqFill n

/-- Is a frame of the content source due at a reload's start? -/
def frameDue (s : State) (n : Fin 4) : Bool :=
  match s.rdA (F.CHN_CFG_SOURCE n) with
  | 1 => (s.cn n).seqOn && (s.cn n).seqHold == 0 &&
      !(s.rdA (F.CHN_ANIM_REPEATS n) != 0 && decide (s.rdA (F.CHN_ANIM_REPEATS n) ≤ (s.cn n).seqDone))
  | 2 => true
  | _ => false

/-- Bank exchange or repetition at a reload's start (R293, R294, R296). -/
def reloadBank (s : State) (n : Fin 4) : State :=
  if s.on (F.CHN_CTRL_STORED n) then s
  else if s.on (F.CHN_STATUS_FILL_READY n) && (s.rdA (F.CHN_CFG_SOURCE n) != 1 || (s.cn n).seqHold == 0) then s.bankExchange n
  else if s.frameDue n && (s.rdA (F.CHN_CFG_SOURCE n) == 1 ||
      (s.rd (F.CHN_CTRL_SWAP_SRC n) == 0 && s.on (F.LEC_STATUS_RUNNING n) && (s.ch n).composing)) then
    ((s.logEvent (0x3001 + 256 * n.val) 1 0 1).incSat (F.CHN_CNT0_REPEATS n)).seqFill n
  else s

/-- Value sent for position p (R295). -/
def sentVal (s : State) (n : Fin 4) (p : Nat) : Nat :=
  if s.rdA (F.CHN_CFG_SOURCE n) = 0 ∧ ¬ s.on (F.CHN_CTRL_STORED n) then 0
  else if s.rd (F.CHN_MODE_MUX n) ≤ p % 128 / 16 then 0
  else
    let v := roundDiv (s.bankVal n (s.rd (F.CHN_STATUS_SHIFT_BANK n)) p * s.levelAt n p) 65535
    let low := 4 - 2 * s.rd (F.CHN_MODE_PWM n)
    v / 2 ^ low * 2 ^ low

/-- GB of every DATA header of a reload that starts now (R249, R293, R295). -/
def sentGb (s : State) (n : Fin 4) : Nat := roundDiv (s.rdA (F.CHN_CFG_GB n) * (s.ch n).src.f) 4096

/-- A position belongs to a committed group of a mask register. -/
def inArmed (s : State) (n : Fin 4) (mask p : Nat) : Bool := (s.groupsOf n p).any fun g => bit mask g

/-- UNVERIFIED count in CHN_STATUS. -/
def unverCount (s : State) (n : Fin 4) : State := s.wr (F.CHN_STATUS_UNVERIFIED n) (s.cn n).unver.length

/-- Drivers whose header carries PROBE in the first reload of a window (R301). -/
def probeSet (s : State) (n : Fin 4) : List Nat :=
  if (s.cn n).probeDue then
    (List.range (s.rd (F.CHN_MODE_DRIVERS n))).filter fun d => (s.cn n).unver.any fun u =>
      u.1 / 128 == d && s.inArmed n (s.rdA (F.CHN_GPROBE_MASK n)) u.1
  else []

/-- Start a reload: SEQ, DATA frames, probes, audit (R285–R287, R293, R295, R300, R301). -/
def reloadStart (s : State) (n : Fin 4) : State :=
  let s := s.reloadBank n
  let vs := (List.range (128 * s.rd (F.CHN_MODE_DRIVERS n))).map fun p => s.sentVal n p
  let probes := s.probeSet n
  let frames := (List.range (s.rd (F.CHN_MODE_DRIVERS n))).map fun d =>
    dataFrame d (probes.contains d) (s.sentGb n) ((vs.drop (128 * d)).take (16 * s.rd (F.CHN_MODE_MUX n)))
  let s := (s.incWrap (F.CHN_SEQ_SEQ n)).wr (F.CHN_STATUS_RELOADING n) 1
  let s := s.addSat (F.CHN_CNT1_PROBES n) probes.length
  let armed := s.rdA (F.CHN_GARM_MASK n) ||| s.rdA (F.CHN_GPROBE_MASK n)
  let oe := s.on (F.CHN_STATUS_OE_LOW n)
  let lit := if armed = 0 ∨ ¬ oe then [] else
    (vs.zipIdx.filter fun p => p.1 != 0 && s.inArmed n armed p.2).map fun p => p.2
  s.modChn n fun c =>
    { c with sent := vs, gb := s.sentGb n, words := [loadWord (s.rd (F.CHN_SEQ_SEQ n))], frames := frames, probed := probes, probeDue := false,
             audit := c.audit.map fun a => { a with lit := lit.foldl (fun m p => sset (fun _ => false) m p true) a.lit } }

/-- CHN_LAT_N pulses: the chain frame swap (R284, R293). -/
def chainLatch (s : State) (n : Fin 4) : State :=
  let s := (s.wr (F.CHN_STATUS_LAT_WAIT n) 0).latPulse n false
  (s.modChn n fun c => { c with latched := true, swaps := (c.swaps + 1) % 2 ^ 24, waitLogged := false }).chnOe n

/-- A swap point of a port (R293). -/
def swapPoint (s : State) (n : Fin 4) : State :=
  let s := (List.range 32).foldl (fun s g => s.levelTick n g) s
  if s.rd (F.CHN_STATUS_STATE n) < 2 then s
  else
    let s := if s.on (F.CHN_STATUS_LAT_WAIT n) then s.chainLatch n else s
    let armed := s.rdA (F.CHN_GARM_MASK n) ||| s.rdA (F.CHN_GPROBE_MASK n)
    let s := if armed ≠ 0 ∧ (s.cn n).audit = none then s.modChn n fun c => { c with audit := some ⟨s.tb.toNat, [], []⟩, probeDue := true } else s
    let s := if s.on (F.CHN_STATUS_RELOADING n) then s else s.reloadStart n
    s.modChn n fun c => { c with seqHold := c.seqHold - 1 }

/-! ### Returned reloads (R298–R303) -/

/-- A deviation of a returned reload (R299). -/
def retErr (s : State) (n : Fin 4) (addr kind : Nat) : State :=
  let s := s.blockEvent (chnBase n) (0x3002 + 256 * n.val) 3 addr kind
  let s := s.incSat (F.CHN_CNT1_RET_ERR n)
  ((s.wr (F.CHN_LAST_RET_ADDR n) addr).wr (F.CHN_LAST_RET_KIND n) kind).wr (F.CHN_LAST_RET_SEQ n) (s.rd (F.CHN_SEQ_SEQ n))

/-- Group-off fires for group g at position p (R303); firmware carries FORCED to the other ports that hold it. -/
def groupOff (s : State) (n : Fin 4) (g p : Nat) : State :=
  let s := (s.blockEvent (chnBase n) (0x3020 + 256 * n.val) 5 g p).wr (F.CHN_GLVLg_FORCED n g) 1
  if s.fwRuns then chans.foldl (fun s k => if s.holdsGroup k g then s.wr (F.CHN_GLVLg_FORCED k g) 1 else s) s else s

/-- A confirmed failure of kind 0 open, 1 short (R302). -/
def confirmFault (s : State) (n : Fin 4) (p kind : Nat) : State :=
  let gs := s.groupsOf n p
  let s := s.blockEvent (chnBase n) (0x3022 + kind + 256 * n.val) 4 p (gs.headD 0xFFFF)
  (gs.filter fun g => bit (s.rdA (F.CHN_GARM_MASK n)) g).foldl (fun s g => s.groupOff n g p) s

/-- One status of a position for one kind of failure (R302). -/
def detect (s : State) (n : Fin 4) (p kind : Nat) (valid flag : Bool) : State :=
  if !valid then s
  else
    let seen := sget (fun _ => 0) (s.cn n).seenFault p
    let conf := sget (fun _ => 0) (s.cn n).confirmed p
    let set := fun (s : State) (a b : Bool) => s.modChn n fun c =>
      { c with seenFault := sset (fun _ => 0) c.seenFault p (setBit seen kind a),
               confirmed := sset (fun _ => 0) c.confirmed p (setBit conf kind b) }
    if !flag then set s false false
    else if bit conf kind then s
    else if bit seen kind then (set s false true).confirmFault n p kind
    else set s true false

/-- One position of a status frame: verification (R300) and detections (R302). -/
def posStatus (s : State) (n : Fin 4) (p : Nat) (openB shortB validB probed : Bool) : State :=
  let s := if validB && !probed then
      s.modChn n fun c => { c with
        audit := c.audit.map fun a => { a with verified := sset (fun _ => false) a.verified p true },
        unver := sset (fun _ => false) c.unver p false }
    else s
  (s.detect n p 0 validB openB).detect n p 1 validB shortB

/-- A valid STATUS frame of driver d: words of its payload (R298, R299). -/
def driverStatus (s : State) (n : Fin 4) (d : Nat) (w : List Nat) : State :=
  let w0 := w.getD 0 0
  let s := s.wr (F.CHN_DSTATd_WORD n d) w0
  let s := if bit w0 8 || bit w0 9 then s.blockEvent (chnBase n) (0x3004 + 256 * n.val) 2 d w0 else s
  (List.range (s.rd (F.CHN_MODE_MUX n))).foldl (fun s r => (List.range 16).foldl (fun s o =>
    s.posStatus n (128 * d + 16 * r + o) (bit (w.getD (1 + 3 * r) 0) o) (bit (w.getD (2 + 3 * r) 0) o)
      (bit (w.getD (3 + 3 * r) 0) o) (bit w0 10)) s) s

/-- The returned frame of driver d: header, CRC outcome (1 correct), payload words; an empty list is missing data.  A drill
compares the next one with an inverted CRC (R399). -/
def retFrame (s : State) (n : Fin 4) (d : Nat) (f : List Nat) : State :=
  match f with
  | h :: ok :: w =>
    if (s.drillDue 6 n.val).isSome then s.drillDone.retErr n d 1
    else if ok ≠ 1 then s.retErr n d 1
    else if bits h 10 6 ≠ d ∨ bits h 8 2 ≠ 1 then s.retErr n d 2
    else s.driverStatus n d w
  | _ => s.retErr n d 3

/-- The returned LOAD word: as sent, failing its CRC, another word, or missing (R299). -/
def retWord (s : State) (n : Fin 4) (f : List Nat) : State :=
  match f with
  | [] => s.retErr n 0xFF 3
  | w :: _ =>
    if w = loadWord (s.rd (F.CHN_SEQ_SEQ n)) then s
    else if crc8 [BitVec.ofNat 8 (w / 2 ^ 24), BitVec.ofNat 8 (w / 2 ^ 16), BitVec.ofNat 8 (w / 256)] ≠ w % 256 then s.retErr n 0xFF 1
    else s.retErr n 0xFF 2

/-- The returned TAIL. -/
def retTail (s : State) (n : Fin 4) (f : List Nat) : State :=
  match f with
  | [] => s.retErr n 0xFF 3
  | w :: _ => if w = 0 then s else s.retErr n 0xFF 2

/-- A reload has been sent and returned (R293, R299): `fs` holds the LOAD word, N status frames, the TAIL. -/
def reloadComplete (s : State) (n : Fin 4) (fs : List (List Nat)) : State :=
  if !s.on (F.CHN_STATUS_RELOADING n) then s
  else
    let s := ((s.wr (F.CHN_STATUS_RELOADING n) 0).wr (F.CHN_STATUS_LAT_WAIT n) 1).incSat (F.CHN_CNT0_RELOADS n)
    let s := s.modChn n fun c => { c with waitTick := s.tb.toNat }
    let k := s.rd (F.CHN_MODE_DRIVERS n)
    let s := s.retWord n (fs.getD 0 [])
    let s := (List.range k).foldl (fun s d => s.retFrame n d (fs.getD (d + 1) [])) s
    (s.retTail n (fs.getD (k + 1) [])).unverCount n

/-- The end of an audit window (R300, R301). -/
def auditEnd (s : State) (n : Fin 4) : State :=
  match (s.cn n).audit with
  | none => s
  | some a =>
    if !pastMs (s.tb.toNat - a.startTick) (s.rdA (F.CHN_AUDIT_WINDOW n)) then s
    else
    let armed := s.rdA (F.CHN_GARM_MASK n) ||| s.rdA (F.CHN_GPROBE_MASK n)
    let fresh := (a.lit.filter fun p => s.inArmed n armed p.1 && !sget (fun _ => false) a.verified p.1 &&
      !sget (fun _ => false) (s.cn n).unver p.1).map fun p => p.1
    let s := fresh.foldl (fun s p =>
      (s.blockEvent (chnBase n) (0x3021 + 256 * n.val) 2 p ((s.groupsOf n p).headD 0xFFFF)).modChn n fun c =>
        { c with unver := sset (fun _ => false) c.unver p true }) s
    (s.modChn n fun c => { c with audit := some ⟨s.tb.toNat, [], []⟩, probeDue := true }).unverCount n

/-- A write of CHN_MEM_DATA (R305): ignored in the shift bank while EN is 1. -/
def chnMemWrite (s : State) (n : Fin 4) (v : Nat) : State :=
  let b := s.rd (F.CHN_MEM_ADDR_BANK n)
  let o := s.rd (F.CHN_MEM_ADDR_OFFSET n)
  let s := if s.bistOn 1 n || (s.on (F.CHN_CTRL_EN n) && b == s.rd (F.CHN_STATUS_SHIFT_BANK n)) then s.report0108 (R.CHN_MEM_DATA n)
    else if o < 8192 then s.bankSet n b o (v % 65536) else s
  s.wr (F.CHN_MEM_ADDR_OFFSET n) (o + 1)

/-- A write of CHN_CTRL: SWAP_SRC is stopped-only (R305), EN, STORED and OE act (R293, R296, R297). -/
def chnCtrlWrite (s : State) (n : Fin 4) (v : Nat) : State := (s.plainWrite (R.CHN_CTRL n) v).chnSync n

/-- The CHN shadow configuration of a port becomes active (R34): content restarts when it changed, the audit restarts
when the arming changed. -/
def chnCommit (s : State) (n : Fin 4) : State :=
  let keep := fun a => decide (chnBase n ≤ a ∧ a < chnBase n + 0x4000)
  let src := [s.getA (R.CHN_CFG n) / 256 % 4, s.getA (R.CHN_ASSET n), s.getA (R.CHN_ANIM n)]
  let arm := [s.getA (R.CHN_AUDIT n), s.getA (R.CHN_GARM n), s.getA (R.CHN_GPROBE n)]
  let s := s.setActv (bankCopy keep s.regs s.actv)
  let src' := [s.getA (R.CHN_CFG n) / 256 % 4, s.getA (R.CHN_ASSET n), s.getA (R.CHN_ANIM n)]
  let arm' := [s.getA (R.CHN_AUDIT n), s.getA (R.CHN_GARM n), s.getA (R.CHN_GPROBE n)]
  let s : State := if src = src' then s
    else
      let on : Bool := s.rdA (F.CHN_CFG_SOURCE n) == 1
      let now : Bool := s.rdA (F.CHN_ANIM_START n) == 0
      let s := s.modChn n fun c =>
        { c with seqFrame := 0, seqDone := 0, seqHold := 0, seqNext := 0, seqOn := on && now, seqArm := on && !now }
      let s := s.wr (F.CHN_STATUS_FILL_READY n) 0
      s.seqFill n
  if arm = arm' then s
  else
    let off := decide (s.rdA (F.CHN_GARM_MASK n) = 0 ∧ s.rdA (F.CHN_GPROBE_MASK n) = 0)
    (s.modChn n fun c =>
      { c with audit := none, probeDue := false, unver := if off then [] else c.unver }).unverCount n

/-- An LSYNC_IN[0] edge starts the sequences that wait for it (R294). -/
def seqEdge (s : State) (n : Fin 4) : State :=
  if (s.cn n).seqArm then (s.modChn n fun c => { c with seqArm := false, seqOn := true }).seqFill n else s

end State

open Host (Outcome)

/-- CHAIN_RELOAD_COMPLETE (R299). -/
def execChainReloadComplete (n : Chan) (frames : List (List Nat)) (s : State) : Outcome State Fault Refusal :=
  .next (if s.subStill n 9 then s else (s.reloadComplete n frames))

/-- AUDIT_WINDOW_END (R300). -/
def execAuditWindowEnd (n : Chan) (s : State) : Outcome State Fault Refusal := .next (if s.subStill n 9 then s else (s.auditEnd n))

/-- More than two channel frame periods have passed since the reload was complete, to a tick; without a committed frame
period only the command tells (R293, log entry 23). -/
def State.waitedLong (s : State) (n : Fin 4) : Bool :=
  match (s.ch n).cfgComp with
  | some c => decide ((if c.half then 400 else 200) * 32768 ≤ (s.tb.toNat - (s.cn n).waitTick + 1) * c.rate)
  | none => true

/-- CHAIN_SWAP_WAIT_TIMEOUT (R293). -/
def execChainSwapWaitTimeout (n : Chan) (s : State) : Outcome State Fault Refusal :=
  .next (if s.on (F.CHN_STATUS_LAT_WAIT n) && !s.subStill n 9 && !(s.cn n).waitLogged && s.waitedLong n then
    (s.blockEvent (chnBase n) (0x3001 + 256 * n.val) 2 0 2).modChn n fun c => { c with waitLogged := true } else s)

/-- CHAIN_MEM_WRITE (R305): a write of CHN_MEM_DATA. -/
def execChainMemWrite (n : Chan) (v : Word) (s : State) : Outcome State Fault Refusal := .next (if s.subHeld n 9 then s else (s.chnMemWrite n v.toNat))

end Sys2Proof.Machine
end

