-- ==== Sys2Proof/Machine/Timetable.lean ====
section
/-! DEFINITION. Timetables (chapter 09): slots, presets and their D1 variants, the checks of R198, the RAM of R216. -/

namespace Sys2Proof.Machine

/-- A timetable slot (R143): plane 0–15, or 31 for DARK; amplitude level; source mask; duration in units of 10 ns. -/
structure Slot where
  plane : Nat
  level : Nat
  mask : Nat
  dur : Nat
  deriving DecidableEq, Repr

/-- A slot that shows a plane. -/
def Slot.lit (x : Slot) : Bool := decide (x.plane < 16)

/-- Bytes 0 and 1 of a slot (R143). -/
def Slot.head (x : Slot) : Nat := x.plane % 32 + 256 * (x.level % 8 + 16 * (x.mask % 16))

/-- A slot from the two words of R216. -/
def slotOf (w0 w1 : Nat) : Slot := ⟨bits w0 0 5, bits w0 8 3, bits w0 12 4, w1⟩

/-- Split counts n_15 … n_8 of a preset identifier (R206): 0 MONO-16, 1 MONO-24, 2 MONO-32, 3 MONO-48, 4 MONO-64. -/
def presetSplits : Nat → List Nat
  | 0 => [1, 1, 1, 1, 1, 1, 1, 1]
  | 1 => [4, 3, 2, 2, 2, 1, 1, 1]
  | 2 => [8, 6, 4, 2, 1, 1, 1, 1]
  | 3 => [12, 10, 6, 4, 3, 2, 2, 1]
  | _ => [16, 14, 9, 6, 4, 3, 2, 2]

/-- One merge: a slot less for the plane with the largest count, the lowest plane on a tie; counts run from plane 15 down
(R207). -/
def mergeOnce (c : List Nat) : List Nat :=
  let m := c.foldl max 0
  let i := (c.zipIdx.filter fun p => p.1 == m).foldl (fun _ p => p.2) 0
  if m ≤ 1 then c else c.set i (m - 1)

/-- Split counts of a preset or of its D1 variant (R207). -/
def splitsOf (preset : Nat) (d1 : Bool) : List Nat := if d1 then iter mergeOnce 4 (presetSplits preset) else presetSplits preset

/-- Times a timetable is derived and checked with, in units of 10 ns (R195, R196, R198). -/
structure TtTimes where
  tf : Nat
  guard : Nat
  blocks : Nat
  tmb : Nat
  settle : Nat
  stage : Nat
  tblk : Nat
  deriving DecidableEq, Repr

/-- t_lead (R196). -/
def TtTimes.lead (t : TtTimes) : Nat := ceilDiv (9 * t.blocks * t.tblk) 8 + t.blocks * t.tmb

/-- The base duration D of a preset field of k slots: the largest multiple of 20 units that fits (R206). -/
def presetD (t : TtTimes) (k g : Nat) : Nat :=
  let room := 97 * t.tf - 100 * (g + t.lead + k * t.settle)
  room / 25921 / 20 * 20

/-- Put a slot into a list ordered by descending duration, ties by descending plane (R206). -/
def slotInsert (x : Slot) : List Slot → List Slot
  | [] => [x]
  | y :: ys => if y.dur < x.dur ∨ (y.dur = x.dur ∧ y.plane < x.plane) then x :: y :: ys else y :: slotInsert x ys

/-- The slots of plane p split k ways (R206). -/
def planeSlots (d p k mask : Nat) : List Slot :=
  let total := d * 2 ^ (p - 8)
  let part := total / max 1 k
  (List.range k).map fun i => ⟨p, 7, mask, if i + 1 = k then total - part * (k - 1) else part⟩

/-- One field of a preset (R206). -/
def presetField (t : TtTimes) (splits : List Nat) (g mask : Nat) : List Slot :=
  let k := 8 + splits.foldl (· + ·) 0
  let d := presetD t k g
  let high := (splits.zipIdx.map fun q => planeSlots d (15 - q.2) q.1 mask).flatten
  let low := (List.range 8).map fun p => (⟨p, p, mask, d / 2⟩ : Slot)
  (high ++ low).foldl (fun l x => slotInsert x l) []

/-- Distance between two numbers. -/
def absDiff (a b : Nat) : Nat := if a < b then b - a else a - b

/-- Item 1 of R198. -/
def ttShape (f : List Slot) : Bool :=
  decide (16 ≤ f.length ∧ f.length ≤ 64) && (List.range 16).all fun p => f.any fun x => x.plane == p

/-- Item 2 of R198; without a node only a non-zero mask is asked for. -/
def ttMasks (sources : Option Nat) (f : List Slot) : Bool :=
  f.all fun x => if x.lit then x.mask != 0 && (match sources with | some m => x.mask &&& m == x.mask | none => true)
    else x.plane == 31 && x.level == 0 && x.mask == 0

/-- Weight of plane p for source k (R197), untrimmed, in units of duration × A. -/
def weight (amp : Nat → Nat → Nat) (f : List Slot) (k p : Nat) : Nat :=
  f.foldl (fun w x => if x.plane == p && bit x.mask k then w + x.dur * amp k x.level else w) 0

/-- Item 3 of R198. -/
def ttWeights (amp : Nat → Nat → Nat) (f : List Slot) : Bool :=
  [0, 1, 2, 3].all fun k => !(f.any fun x => x.lit && bit x.mask k) ||
    (List.range 15).all fun q =>
      decide (100 * absDiff (weight amp f k (q + 1)) (2 * weight amp f k q) ≤ weight amp f k q)

/-- Duration of a slot in hundredths of a unit with every lit slot below level 7 changed by c per cent. -/
def slotDur (c : Nat) (x : Slot) : Nat := if x.lit && decide (x.level < 7) then x.dur * c else x.dur * 100

/-- Item 4 of R198. -/
def ttShortest (t : TtTimes) (f : List Slot) : Bool :=
  f.all fun x => !x.lit || decide (100 * max t.tblk (t.blocks * t.tmb) ≤ slotDur 94 x)

/-- End of a field in hundredths of a unit from the field start, low slots lengthened by 6 %. -/
def fieldEnd (t : TtTimes) (f : List Slot) : Nat :=
  f.foldl (fun e x => e + slotDur 106 x + (if x.lit then 100 * t.settle else 0)) (100 * t.lead)

/-- Item 5 of R198; G applies to the last field. -/
def ttEnds (t : TtTimes) (fs : List (List Slot)) : Bool :=
  fs.zipIdx.all fun q => decide (fieldEnd t q.1 + (if q.2 + 1 = fs.length then 100 * t.guard else 0) ≤ 100 * t.tf)

/-- Reset times of the lit slots of a field, in 1/800 units, low slots shortened by 6 %. -/
def fieldResets (t : TtTimes) (start : Nat) (f : List Slot) : List Nat :=
  (f.foldl (fun (acc : Nat × List Nat) x =>
    (acc.1 + 8 * slotDur 94 x + (if x.lit then 800 * t.settle else 0), if x.lit then acc.1 :: acc.2 else acc.2))
    (start + 800 * t.lead, [])).2.reverse

/-- Reset times of the lit slots of a frame from the frame start, in 1/800 units. -/
def frameResets (t : TtTimes) (fs : List (List Slot)) : List Nat :=
  (fs.zipIdx.map fun q => fieldResets t (800 * t.tf * q.2) q.1).flatten

/-- Item 6 of R198: the loading test. -/
def ttLoads (t : TtTimes) (fs : List (List Slot)) : Bool :=
  let rs := frameResets t fs
  (rs.zipIdx.foldl (fun (acc : Nat × Bool) q =>
    let start := if t.stage ≤ q.2 then max acc.1 (rs.getD (q.2 - t.stage) 0) else acc.1
    let tl := start + 900 * t.blocks * t.tblk
    (tl, acc.2 && decide (tl + 800 * t.blocks * t.tmb ≤ q.1))) (0, true)).2

namespace State

/-- The word address of slot j of field f in a timetable bank (R216). -/
def ttAddr (n : Fin 4) (b f j : Nat) : Nat := bpfBase n + 0x400 + 0x600 * b + 0x200 * f + 8 * j

/-- A slot of the timetable RAM. -/
def ttSlot (s : State) (n : Fin 4) (b f j : Nat) : Slot := slotOf (s.get (ttAddr n b f j)) (s.get (ttAddr n b f j + 4))

/-- Write a field's slots into the timetable RAM. -/
def ttWriteField (s : State) (n : Fin 4) (b f : Nat) (xs : List Slot) : State :=
  xs.zipIdx.foldl (fun s q => (s.put (ttAddr n b f q.2) q.1.head).put (ttAddr n b f q.2 + 4) q.1.dur) s

/-- Slots of field f of the streaming stage's timetable. -/
def strmSlots (s : State) (n : Fin 4) (f : Nat) : List Slot :=
  let k := if f = 0 then s.rdS (F.BPF_TT_CTRL_SLOTS0 n) else if f = 1 then s.rdS (F.BPF_TT_CTRL_SLOTS1 n) else s.rdS (F.BPF_TT_CTRL_SLOTS2 n)
  (List.range k).map fun j => s.ttSlot n (s.rdS (F.BPF_TT_CTRL_BANK n)) f j

/-- Fields per frame of the streaming stage. -/
def strmFields (s : State) (n : Fin 4) : Nat := if s.onS (F.BPF_CTRL_FIELDS3 n) then 3 else 1

/-- Lit slots of the frame being streamed before field f. -/
def litBefore (s : State) (n : Fin 4) (f : Nat) : Nat :=
  (List.range f).foldl (fun k g => k + ((s.strmSlots n g).filter Slot.lit).length) 0

end State

end Sys2Proof.Machine
end

