-- ==== Sys2Proof/Machine/Tutor.lean ====
section
/-! DEFINITION. The Tutor control engine (chapter 14): one step of a context, its release, inputs, trace and injection. -/

namespace Sys2Proof.Machine

/-! ### Number formats (R307, R309) -/

/-- a / b rounded to nearest, ties away from zero; b > 0. -/
def roundAway (a : Int) (b : Nat) : Int :=
  if a < 0 then -(roundDiv a.natAbs b : Nat) else (roundDiv a.natAbs b : Nat)

/-- A register word as Q4.27; a word whose bits 31 and 30 differ is the saturated value of its sign (R307). -/
def q27 (w : Nat) : Int := clampI (-(2 ^ 30 : Int)) (2 ^ 30 - 1) (signed w 32)
/-- Saturate to Q4.27. -/
def sat27 (v : Int) : Int := clampI (-(2 ^ 30 : Int)) (2 ^ 30 - 1) v
/-- Saturate to Q8.32. -/
def sat40 (v : Int) : Int := clampI (-(2 ^ 39 : Int)) (2 ^ 39 - 1) v

/-- Sum of integers. -/
def sumI (l : List Int) : Int := l.foldl (· + ·) 0

/-- sin of a phase in 2^-32 turns, in units of 2^-20 (R329: computed to 2^-20 of A). -/
def sinQ (p : Nat) : Int :=
  let p := p % 2 ^ 32
  let h := p % 2 ^ 31
  let q := if h < 2 ^ 30 then h else 2 ^ 31 - h
  -- x = angle in radians, 2^-40: q / 2^32 · 2π
  let x := q * 6908435304716 / 2 ^ 32
  let sq := x * x / 2 ^ 40
  let t := fun (a k : Nat) => a * sq / 2 ^ 40 / k
  let t3 := t x 6; let t5 := t t3 20; let t7 := t t5 42; let t9 := t t7 72; let t11 := t t9 110; let t13 := t t11 156
  let y := x + t5 + t9 + t13 - (t3 + t7 + t11)
  let v : Int := min (roundDiv y (2 ^ 20)) (2 ^ 20)
  if p < 2 ^ 31 then v else -v

namespace State

/-- Tutor state of a channel. -/
def tu (s : State) (n : Fin 4) : TutRun := (s.ch n).tut
/-- Change a channel's Tutor state. -/
def modTut (s : State) (n : Fin 4) (f : TutRun → TutRun) : State := s.modCh n fun c => { c with tut := f c.tut }
/-- Change a context's state. -/
def modCtx (s : State) (n c : Fin 4) (f : CtxRun → CtxRun) : State :=
  s.modTut n fun t => { t with ctx := t.ctx.set c (f (t.ctx.get c)) }
/-- A context's state. -/
def ctx (s : State) (n c : Fin 4) : CtxRun := (s.tu n).ctx.get c

/-- Coefficient word w of a context's matrix memory. -/
def coef (s : State) (n c : Fin 4) (w : Nat) : Int := q27 (s.get (R.TUT_CTXc_MAT n c.val w))
/-- State x_i as stored, Q8.32. -/
def xOf (s : State) (n c : Fin 4) (i : Nat) : Int :=
  signed (s.get (R.TUT_CTXc_Xi_LO n c.val i) + bits (s.get (R.TUT_CTXc_Xi_HI n c.val i)) 0 8 * 2 ^ 32) 40
/-- Store state x_i. -/
def setX (s : State) (n c : Fin 4) (i : Nat) (v : Int) : State :=
  let u := unsigned v 40
  (s.put (R.TUT_CTXc_Xi_LO n c.val i) (u % 2 ^ 32)).put (R.TUT_CTXc_Xi_HI n c.val i) (u / 2 ^ 32)

/-- Dimensions of a context (R306). -/
def nx (s : State) (n c : Fin 4) : Nat := s.rd (F.TUT_CTXc_CTRL_NX_M1 n c.val) + 1
def nz (s : State) (n c : Fin 4) : Nat := min 8 (s.rd (F.TUT_CTXc_CTRL_NZ_M1 n c.val) + 1)
def nu (s : State) (n c : Fin 4) : Nat := s.rd (F.TUT_CTXc_CTRL_NU_M1 n c.val) + 1

/-- A saturation of a quantity of a context: flag and event 0x4n01 (R309); `kind` 0 output, 1 route or tap, 2 state. -/
def satEvent (s : State) (n c : Fin 4) (kind b : Nat) : State :=
  let f := if kind = 0 then F.TUT_SAT_OUT_SAT n else if kind = 1 then F.TUT_SAT_ROUTE_SAT n else F.TUT_SAT_STATE_SAT n
  (s.wr f (setBit (s.rd f) c.val true)).blockEvent (tutBase n) (0x4001 + 256 * n.val) 2 c.val b

/-- Saturation events of the values of a list that differ from their saturated values; the first has number `b`. -/
def satEvents (s : State) (n c : Fin 4) (kind b : Nat) (raw sat : List Int) : State :=
  (raw.zip sat).zipIdx.foldl (fun s p => if p.1.1 = p.1.2 then s else s.satEvent n c kind (b + p.2)) s

/-! ### Inputs (R310, R316, R317) -/

/-- Is input i of a context used? -/
def inUsed (s : State) (n c : Fin 4) (i : Nat) : Bool :=
  let k := s.rd (F.TUT_CTXc_ZSELi_SRC n c.val i)
  k == 1 || k == 2

/-- The sample presented to an input since the previous latch, if any; a timed-out firmware input stays present (R311). -/
def sample (s : State) (n c : Fin 4) (i : Nat) : Option Int :=
  if !s.inUsed n c i then none
  else match sget (fun _ => none) (s.ctx n c).fresh i with
    | some v => some v
    | none => if bit (s.ctx n c).hold i && s.rd (F.TUT_CTXc_ZSELi_SRC n c.val i) == 2
        then some (signed (s.rd (F.TUT_CTXc_ZFWi_SAMPLE n c.val i)) 16) else none

/-- Input scaling (R317). -/
def scaled (s : State) (n c : Fin 4) (i : Nat) (v : Int) : Int :=
  sat27 (v * q27 (s.get (R.TUT_CTXc_ZSCALEi n c.val i)) + q27 (s.get (R.TUT_CTXc_ZOFFi n c.val i)))

/-- Present a sample to an input. -/
def present (s : State) (n c : Fin 4) (i : Nat) (v : Int) : State :=
  s.modCtx n c fun x => { x with fresh := sset (fun _ => none) x.fresh i (some v) }

/-- A firmware input is written (R20, R316). -/
def zfwWrite (s : State) (n c : Fin 4) (i v : Nat) : State :=
  let s := s.wr (F.TUT_CTXc_ZFWi_SAMPLE n c.val i) v
  let s := s.modCtx n c fun x => { x with hold := setBit x.hold i false }
  if s.rd (F.TUT_CTXc_ZSELi_SRC n c.val i) == 2 then s.present n c i (signed v 16) else s

/-- Trimmed duration (R199). -/
def trimmed (d : Nat) (t : Int) : Nat := (d + roundAway (d * t) 32768).toNat

/-- The trim in force of a slot, from BPF_TRIM (R199). -/
def trimOf (s : State) (n : Fin 4) (f j : Nat) : Int :=
  signed (bits (s.get (R.BPF_TRIM n ((64 * f + j) / 2))) (16 * (j % 2)) 16) 16

/-- Lit intervals (on, off, level, mask) of field f in units from the field start (R196). -/
def litIntervals (s : State) (n : Fin 4) (f : Nat) : List (Nat × Nat × Nat × Nat) :=
  ((s.strmSlots n f).zipIdx.foldl (fun (acc : Nat × List (Nat × Nat × Nat × Nat)) p =>
    let x := p.1
    if x.lit then
      let on := acc.1 + s.rdS (F.BPF_BLK_CFG_T_SETTLE n)
      let off := on + trimmed x.dur (s.trimOf n f p.2)
      (off, (on, off, x.level, x.mask) :: acc.2)
    else (acc.1 + x.dur, acc.2)) (s.get (R.BPF_LEAD n), [])).2.reverse

/-- The lit intervals of the field in progress: none in a dark field, nor while ARM is 0 (R316). -/
def litNow (s : State) (n : Fin 4) : List (Nat × Nat × Nat × Nat) :=
  if s.arm n = 0 ∨ (s.ch n).fieldDark then [] else s.litIntervals n (s.rd (F.BPF_STATUS_FIELD n))

/-- At a field start the lit intervals of the field before it are kept: its last samples are released after it (R260, R316). -/
def litKeep (s : State) (n : Fin 4) : State := s.modTut n fun t => { t with pastLt := (s.ch n).fieldLt, past := s.litNow n }

/-- Does a stamp qualify for a gated input (R316)? -/
def gateOk (s : State) (n c : Fin 4) (i stamp : Nat) : Bool :=
  let within := fun (start : Nat) (l : List (Nat × Nat × Nat × Nat)) =>
    let t := (stamp + 2 ^ 33 - start - 256) % 2 ^ 32
    l.any fun q => decide (q.1 + 200 ≤ t ∧ t ≤ q.2.1) && q.2.2.1 == s.rd (F.TUT_CTXc_ZSELi_GATE_LEVEL n c.val i) &&
      (q.2.2.2 &&& s.rd (F.TUT_CTXc_ZSELi_GATE_SRC n c.val i)) != 0
  !s.on (F.TUT_CTXc_ZSELi_GATE_EN n c.val i) || within (s.ch n).fieldLt (s.litNow n) || within (s.tu n).pastLt (s.tu n).past

/-- Index of the first sensor of a kind in the capability block, among k entries. -/
def sensorOf (s : State) (n : Fin 4) (kind : Nat) : Option Nat :=
  (List.range (s.cap n 17)).find? fun i => s.cap n (64 + 8 * i) == kind

/-- LSB weight of a sensor, Q8.24 (R268). -/
def sensorWeight (s : State) (n : Fin 4) (i : Nat) : Nat := s.cap16 n (68 + 8 * i) + 65536 * s.cap16 n (70 + 8 * i)

/-- A SENSOR packet's samples reach the inputs and the lamp temperature (R316, R251). -/
def sensorPacket (s : State) (n : Fin 4) (stamp : Nat) (p : List Byte) : State :=
  let val := fun i => signed (le16 p (2 * i)) 16
  let count := min (s.cap n 17) (p.length / 2)
  let s := chans.foldl (fun s c => (List.range (s.nz n c)).foldl (fun s i =>
    let k := s.rd (F.TUT_CTXc_ZSELi_SENSOR n c.val i)
    if s.on (F.TUT_CTXc_CTRL_EN n c.val) && s.rd (F.TUT_CTXc_ZSELi_SRC n c.val i) == 1 && decide (k < count) && s.gateOk n c i stamp
    then s.present n c i (val k) else s) s) s
  match s.sensorOf n 3 with
  | some k =>
    if k < count then
      let t := clampI (-32768) 32767 (roundAway (val k * (s.sensorWeight n k : Nat)) (2 ^ 20))
      ((s.wr (F.TUT_LAMP_T_T n) (unsigned t 16)).modSrc n fun r => { r with sensorLost := false }).tempCheck n
    else s
  | none => s

/-! ### Injection (R329) -/

/-- The PRBS-15 generator x^15 + x^14 + 1: one step. -/
def lfsrStep (v : Nat) : Nat := (2 * v + b2n (bit v 14 != bit v 13)) % 2 ^ 15

/-- Sample period of a context in pipeline cycles (R312). -/
def ctxPeriod (s : State) (n c : Fin 4) : Nat :=
  if s.on (F.TUT_CTXc_CTRL_ALIGN n c.val) then s.rd (F.TUT_CTXc_PERIOD_M n c.val) * 1536 else s.rd (F.TUT_CTXc_PERIOD_CYCLES n c.val)

/-- w[k] of the running injection at index i (R329); a CHIRP without a duration has no stated value (log entry 6). -/
def injValue (s : State) (n c : Fin 4) (i : Nat) : Int :=
  let a := q27 (s.get (R.TUT_INJ_AMP n))
  let p1 := s.get (R.TUT_INJ_P1 n)
  match s.rd (F.TUT_INJ_CFG_SIGNAL n) with
  | 1 => a
  | 2 => if bit (s.tu n).injLfsr 14 then a else -a
  | 3 =>
    let p2 := s.get (R.TUT_INJ_P2 n)
    let d := s.get (R.TUT_INJ_DUR n)
    let ts := s.ctxPeriod n c
    let lin : Int := (p1 * i * ts * 2 ^ 32 : Nat) / 600000000
    let quad : Int := ((p2 : Int) - p1) * (i * i * ts * 2 ^ 32 : Nat) / ((2 * d * 600000000 : Nat) : Int)
    if d = 0 then q27 (Config.openWord s.free).toNat
    else roundAway (a * sinQ ((lin + quad) % 2 ^ 32).toNat) (2 ^ 20)
  | 4 => q27 (s.get (R.TUT_INJ_TABLEe n (i / max 1 p1 % max 1 (s.rd (F.TUT_INJ_CFG_TABLE_LEN n)))))
  | _ => 0

/-- The injection at a latch of context c: it ends, begins or goes on; the value to add, if one applies (R329). -/
def injTick (s : State) (n c : Fin 4) : State × Option Int :=
  let st := s.rd (F.TUT_INJ_STATUS_STATE n)
  if st != 1 && st != 2 then (s, none)
  else if s.rd (F.TUT_INJ_CFG_SIGNAL n) = 0 then ((s.wr (F.TUT_INJ_STATUS_STATE n) 3).wr (F.TUT_INJ_CFG_GO n) 0, none)
  else if s.rd (F.TUT_INJ_CFG_CTX n) != c.val then (s, none)
  else if st == 1 && s.on (F.TUT_INJ_CFG_START n) && !(s.tu n).injFrame then (s, none)
  else
    let s := if st == 1 then (s.wr (F.TUT_INJ_STATUS_STATE n) 2).modTut n fun t =>
        { t with injK := 0, injLfsr := 0x7FFF, injFirst := t.injFirst || s.rd (F.TUT_TRC_CFG_CTX n) == c.val } else s
    let i := (s.tu n).injK
    let s := if 0 < i && i % max 1 (s.get (R.TUT_INJ_P1 n)) == 0 then s.modTut n fun t => { t with injLfsr := lfsrStep t.injLfsr } else s
    let w := s.injValue n c i
    let s := ((s.modTut n fun t => { t with injK := i + 1 }).incSat (F.TUT_INJ_STATUS_SAMPLES n)).nextFree
    let d := s.get (R.TUT_INJ_DUR n)
    let s := if d ≠ 0 ∧ d ≤ i + 1 then (s.wr (F.TUT_INJ_STATUS_STATE n) 3).wr (F.TUT_INJ_CFG_GO n) 0 else s
    (s, some w)

/-- w added to element i of a vector of kind `kind` named by the node selector. -/
def injAdd (s : State) (n : Fin 4) (w : Option Int) (kind i : Nat) (v : Int) : Int :=
  let sel := s.rd (F.TUT_INJ_CFG_NODE n)
  match w with
  | some d => if sel / 32 = kind ∧ sel % 32 = i then v + d else v
  | none => v

/-! ### One step (R308) -/

/-- Range of a destination (R318). -/
def destClamp (dest : Nat) (v : Int) : Int := if dest = 1 then clampI 0 65535 v else clampI (-32768) 32767 v

/-- Conversion of the four routes and eight taps (R318): raw and saturated values. -/
def convert (s : State) (n c : Fin 4) (u x : List Int) : List (Int × Int) :=
  let r := [0, 1, 2, 3].map fun j =>
    let d := s.rd (F.TUT_CTXc_ROUTEj_DEST n c.val j)
    let v := roundAway (u.getD (s.rd (F.TUT_CTXc_ROUTEj_SEL n c.val j)) 0 * 2 ^ s.rd (F.TUT_CTXc_ROUTEj_SHIFT n c.val j)) (2 ^ 27)
    if d = 0 then (0, 0) else (v, destClamp d v)
  let t := (List.range 8).map fun j =>
    let d := s.rd (F.TUT_CTXc_TAPt_DEST n c.val j)
    let v := roundAway (x.getD (s.rd (F.TUT_CTXc_TAPt_SEL n c.val j)) 0 * 2 ^ s.rd (F.TUT_CTXc_TAPt_SHIFT n c.val j)) (2 ^ 32)
    if d = 0 then (0, 0) else (v, destClamp d v)
  r ++ t

/-- Route and tap conversion with its saturation events. -/
def converted (s : State) (n c : Fin 4) (u x : List Int) : State × List Int :=
  let l := s.convert n c u x
  let s := s.satEvents n c 1 0x18 ((l.take 4).map (·.1)) ((l.take 4).map (·.2))
  let s := s.satEvents n c 1 0x10 ((l.drop 4).map (·.1)) ((l.drop 4).map (·.2))
  (s, l.map (·.2))

/-- The context's frozen state (R310). -/
def setFrozen (s : State) (n c : Fin 4) (b : Bool) : State :=
  if s.on (F.TUT_CTXc_STATUS_FROZEN n c.val) == b then s
  else
    let s := s.wrB (F.TUT_CTXc_STATUS_FROZEN n c.val) b
    let s := s.wr (F.TUT_STATUS_FROZEN n) (setBit (s.rd (F.TUT_STATUS_FROZEN n)) c.val b)
    s.blockEvent (tutBase n) (0x4003 + 256 * n.val) 1 c.val (b2n b)

/-- Capture of a latch (R328): the trigger, the decimation, and whether this latch writes a record. -/
def traceTick (s : State) (n c : Fin 4) (began : Bool) : State × Bool :=
  if s.rd (F.TUT_TRC_CFG_CTX n) != c.val then (s, false)
  else
    let st := s.rd (F.TUT_TRC_STATUS_STATE n)
    let go := st == 1 && (match s.rd (F.TUT_TRC_CFG_TRIGGER n) with
      | 0 => true | 1 => began | 2 => (s.tu n).evtHit | _ => false)
    let s := if go then ((s.wr (F.TUT_TRC_STATUS_STATE n) 2).modTut n fun t => { t with injFirst := began }).modCtx n c fun x =>
      { x with decim := 0 } else s
    if go || st == 2 then
      let d := (s.ctx n c).decim
      let per := max 1 (s.rd (F.TUT_TRC_CFG_DECIM n))
      (s.modCtx n c fun x => { x with decim := if d = 0 then per - 1 else d - 1 }, d == 0)
    else (s, false)

/-- Innovation of an input and the bound test (R308 step 4, R311). -/
def innovation (s : State) (n c : Fin 4) (i : Nat) (e : Int) : State × Int :=
  let b := q27 (s.get (R.TUT_CTXc_EBOUNDi n c.val i))
  if b ≠ 0 ∧ (e.natAbs : Int) > b then
    let s := (s.wr (F.TUT_SAT_INNOV n) (setBit (s.rd (F.TUT_SAT_INNOV n)) c.val true)).blockEvent (tutBase n)
      (0x4002 + 256 * n.val) 2 c.val i
    (s, if s.on (F.TUT_CTXc_CTRL_INNOV_CLIP n c.val) then clampI (-b) b e else e)
  else (s, e)

/-- One latch of an enabled context (R308–R311); the latches of an injection count on while it is frozen (log entry 128). -/
def tutorStep (s : State) (n c : Fin 4) : State :=
  let nx := s.nx n c; let nz := s.nz n c; let nu := s.nu n c
  let ins := (List.range nz).map fun i => s.sample n c i
  let used := (List.range nz).filter fun i => s.inUsed n c i
  let allAbsent := !used.isEmpty && used.all fun i => (ins.getD i none).isNone
  let absent := ins.zipIdx.foldl (fun m p => if p.1.isNone then m + 2 ^ p.2 else m) 0
  let s := s.wr (F.TUT_CTXc_STATUS_ABSENT n c.val) absent
  let s := s.incWrap (F.TUT_CTXc_STATUS_LATCHES n c.val)
  let run := if allAbsent then (s.ctx n c).absentRun + 1 else 0
  let fz := s.rd (F.TUT_CTXc_CTRL_FREEZE_N n c.val)
  let frozen := decide (fz ≠ 0 ∧ fz ≤ run)
  let x := (List.range nx).map fun i => s.xOf n c i
  let s := s.modCtx n c fun k => { k with absentRun := run, fresh := [] }
  let s := s.setFrozen n c frozen
  let f : Int := ((s.ch n).src.f : Nat)
  let r0 := [0, 1, 2, 3].map fun i =>
    let v := q27 (s.get (R.TUT_CTXc_REFi n c.val i))
    if bit (s.rd (F.TUT_CTXc_CTRL_REF_DERATE n c.val)) i then roundAway (v * f) 4096 else v
  let y0 := ins.zipIdx.map fun p => match p.1 with
    | some v => s.scaled n c p.2 v
    | none => sget (fun _ => 0) (s.ctx n c).y p.2
  let st0 := s.rd (F.TUT_INJ_STATUS_STATE n)
  let (s, w) := s.injTick n c
  let began := st0 == 1 && w.isSome
  let r := r0.zipIdx.map fun p => sat27 (s.injAdd n w 5 p.2 p.1)
  if frozen then
    let u := (List.range nu).map fun j => q27 (s.get (R.TUT_CTXc_Uj n c.val j))
    let routes := (s.convert n c u x).map (·.2)
    let (s, tr) := s.traceTick n c began
    s.modCtx n c fun k => { k with rel := some ⟨u, x, x, y0, y0.map fun _ => 0, r, routes, absent, tr⟩ }
  else
    let y := y0.zipIdx.map fun p => if bit absent p.2 then p.1 else sat27 (s.injAdd n w 3 p.2 p.1)
    let s := s.modCtx n c fun k => { k with y := y.zipIdx.foldl (fun m p => sset (fun _ => 0) m p.2 p.1) k.y }
    -- u = -K x + N r
    let ur := (List.range nu).map fun j => roundAway
      (sumI (x.zipIdx.map fun p => -(s.coef n c (576 + 16 * j + p.2) * p.1)) +
       32 * sumI (r.zipIdx.map fun p => s.coef n c (640 + 4 * j + p.2) * p.1)) (2 ^ 32)
    -- a drill saturates output 0 (R399)
    let trip := s.drillDue 8 n.val == some c.val
    let ur := if trip then ur.set 0 (if bit (Config.openWord s.free).toNat 0 then 2 ^ 30 else -(2 ^ 30) - 1) else ur
    let s : State := if trip then s.drillDone.nextFree else s
    let s := s.satEvents n c 0 0 ur (ur.map sat27)
    let ui := ur.zipIdx.map fun p => s.injAdd n w 2 p.2 (sat27 p.1)
    let s := s.satEvents n c 0 0 ui (ui.map sat27)
    let u := ui.map sat27
    -- innovations
    let (s, e) := y.zipIdx.foldl (fun (acc : State × List Int) p =>
      if bit absent p.2 then (acc.1, acc.2 ++ [0])
      else
        let yh := sat27 (roundAway (sumI (x.zipIdx.map fun q => s.coef n c (448 + 16 * p.2 + q.2) * q.1)) (2 ^ 32))
        let (s', v) := acc.1.innovation n c p.2 (sat27 (p.1 - yh))
        (s', acc.2 ++ [v])) (s, [])
    -- x[k+1] = A x + B u + L e
    let xr := (List.range nx).map fun i => roundAway
      (sumI (x.zipIdx.map fun q => s.coef n c (16 * i + q.2) * q.1) +
       32 * sumI (u.zipIdx.map fun q => s.coef n c (256 + 4 * i + q.2) * q.1) +
       32 * sumI (e.zipIdx.map fun q => s.coef n c (320 + 8 * i + q.2) * q.1)) (2 ^ 27)
    let s := s.satEvents n c 2 0x20 xr (xr.map sat40)
    let xi := xr.zipIdx.map fun p => sat40 p.1 + 32 * s.injAdd n w 1 p.2 0
    let s := s.satEvents n c 2 0x20 xi (xi.map sat40)
    let xn := xi.map sat40
    let (s, routes) := s.converted n c u xn
    let (s, tr) := s.traceTick n c began
    let s := xn.zipIdx.foldl (fun s p => s.setX n c p.2 p.1) s
    s.modCtx n c fun k => { k with rel := some ⟨u, xn, x, y, e, r, routes, absent, tr⟩ }

/-- A latch of a context: only an enabled context latches (R312, R320). -/
def tutorLatch (s : State) (n c : Fin 4) : State :=
  if s.on (F.TUT_CTXc_CTRL_EN n c.val) then s.tutorStep n c else s

/-! ### Release (R313, R318, R328) -/

/-- One trim: clamped to ±1,966; ignored for a slot at level 7 (R199). -/
def trimWrite (s : State) (n : Fin 4) (key : Nat) (level : Nat) (w : Int) : State :=
  if level = 7 then s.incSat (F.BPF_TRIM_STATUS_IGNORED n)
  else
    let t := clampI (-1966) 1966 w
    let s := if t = w then s else s.incSat (F.BPF_TRIM_STATUS_CLAMPED n)
    s.modTut n fun k => { k with trim := sset (fun _ => 0) k.trim key t }

/-- Write one converted value to its destination (R318). -/
def destWrite (s : State) (n c : Fin 4) (ix dest srcs level fmask : Nat) (w : Int) : State :=
  match dest with
  | 1 =>
    let up := fun (a : Four Nat) => chans.foldl (fun a k => if bit srcs k.val then a.set k w.toNat else a) a
    s.modSrc n fun r => { r with tutorSp := up r.tutorSp }
  | 2 => s.modTut n fun t => { t with offset := some w }
  | 3 =>
    (List.range (s.strmFields n)).foldl (fun s f =>
      if bit fmask f then
        (s.strmSlots n f).zipIdx.foldl (fun s p =>
          if p.1.lit && p.1.level == level && (p.1.mask &&& srcs) != 0 then s.trimWrite n (64 * f + p.2) level w else s) s
      else s) s
  | 4 =>
    let up := fun (m : Sparse Int) => [0, 1, 2].foldl (fun m f => if bit fmask f then sset (fun _ => 0) m f w else m) m
    s.modTut n fun t => { t with line := up t.line }
  | 5 =>
    let v := w + signed (s.rd (F.TUT_LAMP_T_T n)) 16
    s.modTut n fun t => { t with junc := sset (fun _ => none) t.junc (16 * c.val + ix) (some v) }
  | _ => s

/-- The word a trace selector takes (R328): bits [7:5] kind, [4:0] index; and whether a state saturated. -/
def traceWord (r : Rel) (sel : Nat) : Nat × Bool :=
  let i := sel % 32
  match sel / 32 with
  | 1 => let v := roundAway (r.x.getD i 0) 32; (unsigned (sat27 v) 32, decide (sat27 v ≠ v))
  | 2 => (unsigned (r.u.getD i 0) 32, false)
  | 3 => (if bit r.absent i then 0x80000000 else unsigned (r.y.getD i 0) 32, false)
  | 4 => (unsigned (r.e.getD i 0) 32, false)
  | 5 => (unsigned (r.r.getD i 0) 32, false)
  | _ => (0, false)

/-- The trace record of a latch (R328). -/
def traceRecord (s : State) (n : Fin 4) (r : Rel) : State :=
  let sels := (leBytes 4 (s.get (R.TUT_TRC_NODES n))).map (·.toNat) |>.filter (· ≠ 0)
  let k := sels.length
  let w := s.rd (F.TUT_TRC_STATUS_WORDS n)
  let len := s.rd (F.TUT_TRC_CFG_LENGTH n)
  let fin := fun (s : State) => (s.wr (F.TUT_TRC_STATUS_STATE n) 3).wr (F.TUT_TRC_CFG_ARM n) 0
  if s.rd (F.TUT_TRC_STATUS_STATE n) ≠ 2 then s
  else if k = 0 ∨ len < w + k then fin s
  else
    let ws := sels.map (traceWord r)
    let s := ws.zipIdx.foldl (fun s p => s.put (R.TUT_TRC_WORDw n (w + p.2)) p.1.1) s
    let s := if ws.any (·.2) then s.wr (F.TUT_TRC_STATUS_XSAT n) 1 else s
    let s := if (s.tu n).injFirst && s.rd (F.TUT_TRC_INJ_INDEX n) == 0xFFFF then s.wr (F.TUT_TRC_INJ_INDEX n) w else s
    let s := s.wr (F.TUT_TRC_STATUS_WORDS n) (w + k)
    if len < w + 2 * k then fin s else s

/-- The release of a context's latch (R313); routes before taps, ascending (R320). -/
def tutorRelease (s : State) (n c : Fin 4) : State :=
  match (s.ctx n c).rel with
  | none => s
  | some r =>
    let s := s.modCtx n c fun k => { k with rel := none }
    if !s.on (F.TUT_CTXc_CTRL_EN n c.val) then s
    else
      let s := r.u.zipIdx.foldl (fun s p => s.put (R.TUT_CTXc_Uj n c.val p.2) (unsigned p.1 32)) s
      let s := [0, 1, 2, 3].foldl (fun s j => s.destWrite n c j (s.rd (F.TUT_CTXc_ROUTEj_DEST n c.val j))
        (s.rd (F.TUT_CTXc_ROUTEj_SRCMASK n c.val j)) (s.rd (F.TUT_CTXc_ROUTEj_LEVEL n c.val j))
        (s.rd (F.TUT_CTXc_ROUTEj_FMASK n c.val j)) (r.routes.getD j 0)) s
      let s := (List.range 8).foldl (fun s j => s.destWrite n c (4 + j) (s.rd (F.TUT_CTXc_TAPt_DEST n c.val j))
        (s.rd (F.TUT_CTXc_TAPt_SRCMASK n c.val j)) (s.rd (F.TUT_CTXc_TAPt_LEVEL n c.val j))
        (s.rd (F.TUT_CTXc_TAPt_FMASK n c.val j)) (r.routes.getD (4 + j) 0)) s
      if r.trace then s.traceRecord n r else s

/-! ### Enable and disable (R312, R320, R321) -/

/-- A context is slot-aligned when any route writes a source set-point (R312). -/
def alignUpdate (s : State) (n c : Fin 4) : State :=
  let a := [0, 1, 2, 3].any fun j => s.rd (F.TUT_CTXc_ROUTEj_DEST n c.val j) == 1
  (s.wrB (F.TUT_CTXc_CTRL_ALIGN n c.val) a).wr (F.TUT_STATUS_ALIGNED n) (setBit (s.rd (F.TUT_STATUS_ALIGNED n)) c.val a)

/-- RUNNING bits follow EN. -/
def ctxRunning (s : State) (n c : Fin 4) (b : Bool) : State :=
  let s := (s.wrB (F.TUT_CTXc_CTRL_EN n c.val) b).wrB (F.TUT_CTXc_STATUS_RUNNING n c.val) b
  s.wr (F.TUT_STATUS_RUNNING n) (setBit (s.rd (F.TUT_STATUS_RUNNING n)) c.val b)

/-- The junction estimates of a context are forgotten (R251, R318). -/
def juncClear (s : State) (n c : Fin 4) : State :=
  s.modTut n fun u => { u with junc := skeep (fun k => k / 16 != c.val) u.junc }

/-- Enable: x from X0, frozen state and saturation flags cleared (R320). -/
def ctxEnable (s : State) (n c : Fin 4) : State :=
  let s := (List.range 16).foldl (fun s i => s.setX n c i (32 * s.coef n c (656 + i))) s
  let s := s.wr (F.TUT_CTXc_STATUS_FROZEN n c.val) 0
  let s := s.wr (F.TUT_STATUS_FROZEN n) (setBit (s.rd (F.TUT_STATUS_FROZEN n)) c.val false)
  let s := [F.TUT_SAT_OUT_SAT n, F.TUT_SAT_ROUTE_SAT n, F.TUT_SAT_STATE_SAT n, F.TUT_SAT_INNOV n].foldl
    (fun s f => s.wr f (setBit (s.rd f) c.val false)) s
  let s := s.wr (F.TUT_CTXc_STATUS_LATCHES n c.val) 0
  let s := s.modCtx n c fun k => { k with fresh := [], hold := 0, absentRun := 0, rel := none }
  ((s.juncClear n c).alignUpdate n c).ctxRunning n c true

/-- Disable: a release not yet made is suppressed (R320), and its junction estimate ends (R251). -/
def ctxDisable (s : State) (n c : Fin 4) : State :=
  ((s.juncClear n c).modCtx n c fun k => { k with rel := none }).ctxRunning n c false

/-- Disable every context of every channel (R321); `keep` remembers which were enabled. -/
def tutorAllOff (s : State) (keep : Bool) : State :=
  chans.foldl (fun s n => chans.foldl (fun s c =>
    let was := s.on (F.TUT_CTXc_CTRL_EN n c.val)
    let s := if keep then s.modCtx n c fun k => { k with wasOn := was } else s
    if was then s.ctxDisable n c else s) s) s

/-- Enable again the contexts that were enabled before CALIBRATE (R321). -/
def tutorBack (s : State) : State :=
  chans.foldl (fun s n => chans.foldl (fun s c =>
    if (s.ctx n c).wasOn then (s.modCtx n c fun k => { k with wasOn := false }).ctxEnable n c else s) s) s

/-- A write of TUT_CTXc_CTRL: RWX fields, then EN (R320, R330). -/
def ctxCtrlWrite (s : State) (n c : Fin 4) (v : Nat) : State :=
  let was := s.on (F.TUT_CTXc_CTRL_EN n c.val)
  let s := s.plainWrite (R.TUT_CTXc_CTRL n c.val) v
  if bit v 0 && !was then s.ctxEnable n c else if !bit v 0 && was then s.ctxDisable n c else s

/-- A write of TUT_TRC_CFG: ARM discards the capture and arms (R328). -/
def trcCfgWrite (s : State) (n : Fin 4) (v : Nat) : State :=
  let s := s.plainWrite (R.TUT_TRC_CFG n) v
  let s := if bit v 4 then
      (((s.put (R.TUT_TRC_STATUS n) 0).wr (F.TUT_TRC_STATUS_STATE n) 1).wr (F.TUT_TRC_INJ_INDEX n) 0xFFFF).modTut n fun t =>
        { t with evtHit := false, injFirst := false }
    else s
  let st := s.rd (F.TUT_TRC_STATUS_STATE n)
  s.wrB (F.TUT_TRC_CFG_ARM n) (st == 1 || st == 2)

/-- A write of TUT_INJ_CFG: GO arms an injection, or with SIGNAL 0 ends one at the next latch (R329). -/
def injCfgWrite (s : State) (n : Fin 4) (v : Nat) : State :=
  let st := s.rd (F.TUT_INJ_STATUS_STATE n)
  let s := s.plainWrite (R.TUT_INJ_CFG n) v
  let run := st == 1 || st == 2
  if bit v 6 then
    if bits v 2 3 = 0 then s.wrB (F.TUT_INJ_CFG_GO n) run
    else ((s.wr (F.TUT_INJ_STATUS_STATE n) 1).wr (F.TUT_INJ_STATUS_SAMPLES n) 0).modTut n fun t => { t with injFrame := false, injK := 0 }
  else s.wrB (F.TUT_INJ_CFG_GO n) run

/-- A write of the injection table: ignored while a TABLE injection runs (R329). -/
def injTableWrite (s : State) (n : Fin 4) (e v : Nat) : State :=
  if 1024 ≤ e then s
  else if s.bistOn 0 n || (s.rd (F.TUT_INJ_STATUS_STATE n) == 2 && s.rd (F.TUT_INJ_CFG_SIGNAL n) == 4) then s.report0108 (R.TUT_INJ_TABLEe n e)
  else s.put (R.TUT_INJ_TABLEe n e) v

/-- The LEVELLING contexts that run, with their firmware inputs (R128). -/
def pitchInputs (s : State) (n : Fin 4) : List (Fin 4 × Nat) :=
  (chans.map fun c => if s.on (F.TUT_CTXc_CTRL_EN n c.val) && s.rd (F.TUT_CTXc_CTRL_TEMPLATE n c.val) == 3 then
    ((List.range (s.nz n c)).filter fun i => s.rd (F.TUT_CTXc_ZSELi_SRC n c.val i) == 2).map fun i => (c, i) else []).flatten

/-- A pitch-rate frame reaches the levelling contexts of every channel it is configured for (R128). -/
def pitchFrame (s : State) (can id : Nat) (bytes : List Byte) : State :=
  if !s.fwRuns then s
  else chans.foldl (fun s n =>
    match (s.tu n).pitch with
    | some p =>
      if p.can = can ∧ p.id = id ∧ p.off + 2 ≤ bytes.length then
        let s := s.modTut n fun t => { t with pitchTick := s.tb.toNat }
        (s.pitchInputs n).foldl (fun s q => s.zfwWrite n q.1 q.2 (le16 bytes p.off)) s
      else s
    | none => s) s

/-- The pitch input times out: the last value is held and 0x4n02 logged, once until the next frame (R128, R311). -/
def pitchTimeout (s : State) (n : Fin 4) : State :=
  match (s.tu n).pitch with
  | some p =>
    if s.fwRuns && pastMs (s.tb.toNat - (s.tu n).pitchTick) p.timeout then
      (s.pitchInputs n).foldl (fun s q =>
        if bit (s.ctx n q.1).hold q.2 then s
        else (s.modCtx n q.1 fun k => { k with hold := setBit k.hold q.2 true }).blockEvent (tutBase n) (0x4002 + 256 * n.val) 2
          q.1.val (0x80 + q.2)) s
    else s
  | none => s

end State

open Host (Outcome)

/-- TUTOR_LATCH (R308). -/
def execTutorLatch (n : Chan) (c : Fin 4) (s : State) : Outcome State Fault Refusal :=
  .next (if s.subStill n 10 then s else s.tutorLatch n c)

/-- TUTOR_RELEASE (R313). -/
def execTutorRelease (n : Chan) (c : Fin 4) (s : State) : Outcome State Fault Refusal :=
  .next (if s.subStill n 10 then s else s.tutorRelease n c)

/-- PITCH_FRAME (R128): `id` has 2^29 added for a 29-bit identifier. -/
def execPitchFrame (can : Duo) (id : Nat) (bytes : List Byte) (s : State) : Outcome State Fault Refusal :=
  .next (s.pitchFrame can.val id bytes)

/-- PITCH_TIMEOUT (R128). -/
def execPitchTimeout (n : Chan) (s : State) : Outcome State Fault Refusal := .next (s.pitchTimeout n)

/-- TRACE_ARM (R328): a write of TUT_TRC_CFG. -/
def execTraceArm (n : Chan) (v : Word) (s : State) : Outcome State Fault Refusal := .next (if s.subHeld n 10 then s else (s.trcCfgWrite n v.toNat))

/-- INJECTION_GO (R329): a write of TUT_INJ_CFG. -/
def execInjectionGo (n : Chan) (v : Word) (s : State) : Outcome State Fault Refusal := .next (if s.subHeld n 10 then s else (s.injCfgWrite n v.toNat))

/-- INJ_TABLE_WRITE (R329). -/
def execInjTableWrite (n : Chan) (e : Nat) (v : Word) (s : State) : Outcome State Fault Refusal :=
  .next (if s.subHeld n 10 then s else (s.injTableWrite n e v.toNat))

end Sys2Proof.Machine
end

