-- ==== Sys2Proof/Machine/Compose.lean ====
section
/-! DEFINITION. Layers, scaling, composition, warp, soft masks and write-back of one frame (chapters 07 and 08). -/

namespace Sys2Proof.Machine

/-- a / b rounded to nearest, ties up; b > 0. -/
def roundUp (a : Int) (b : Nat) : Int := (2 * a + b) / ((2 * b : Nat) : Int)

/-- Pixel formats (R122, R162): bytes of luma per pixel, two planes, chroma halved across and down. -/
def fmtBytes (f : Nat) : Nat := [1, 2, 1, 2, 1, 3, 4].getD f 1
def fmtPlanes (f : Nat) : Bool := f == 2 || f == 3 || f == 4
def fmtSub (f : Nat) : Nat × Nat := if f = 2 ∨ f = 3 then (2, 2) else if f = 4 then (2, 1) else (1, 1)
/-- A sample of the format enters as 12 bits; Y16 as 16 (R179). -/
def fmtExpand (f v : Nat) : Nat :=
  if f = 1 then v else if f = 3 then v * 4 + v / 256 else v * 16 + v / 16
/-- Largest sample value after expansion. -/
def fmtMax (f : Nat) : Nat := if f = 1 then 65535 else 4095

/-- Runs of one row of a FALLBACK pattern: the value at column x (R212). -/
def runAt : List (Nat × Nat) → Nat → Nat
  | [], _ => 0
  | (v, len) :: rs, x => if x < len then v else runAt rs (x - len)

/-- Split a run list into rows of a width; the k-th row's runs. -/
def runRow (cols : Nat) : List (Nat × Nat) → Nat → Nat → List (Nat × Nat)
  | [], _, _ => []
  | (v, len) :: rs, k, x =>
    if k = 0 then (if cols ≤ x then [] else (v, len) :: runRow cols rs 0 (x + len))
    else runRow cols rs (if cols ≤ x + len then k - 1 else k) (if cols ≤ x + len then 0 else x + len)

/-- Run lengths of rows sum to the width, none crossing (R212): the number of whole rows, or none when a run crosses. -/
def runRows (cols : Nat) : List (Nat × Nat) → Nat → Nat → Option Nat
  | [], x, k => if x = 0 then some k else none
  | (_, len) :: rs, x, k =>
    if x + len < cols then runRows cols rs (x + len) k else if x + len = cols then runRows cols rs 0 (k + 1) else none

/-- The runs from byte o to the end of a FALLBACK asset. -/
def runsOf : List Byte → List (Nat × Nat)
  | v :: l :: bs => (v.toNat, l.toNat + 1) :: runsOf bs
  | _ => []

/-- Is a byte string a FALLBACK asset of the given size, with every rule of R212 but the array size? -/
def fallbackOk (b : List Byte) : Bool :=
  let cols := le16 b 2
  let rows := le16 b 4
  let groups := le16 b 6
  let len := le32 b 8
  let start := 16 + 4 * groups
  le16 b 0 == 0x4C46 && groups * 8 == rows && decide (start ≤ len ∧ len ≤ 262144 ∧ len ≤ b.length ∧ 0 < cols ∧ 0 < rows) &&
  (len - start) % 2 == 0 && crc32 (slice b 16 (len - 16)) == le32 b 12 &&
  runRows cols (runsOf (slice b start (len - start))) 0 0 == some rows &&
  (List.range groups).all fun g =>
    let o := le32 b (16 + 4 * g)
    decide (start ≤ o ∧ o ≤ len) && (o - start) % 2 == 0 && runRows cols (runsOf (slice b start (o - start))) 0 0 == some (8 * g)

/-- Value of a FALLBACK pattern at a pixel (R213). -/
def fallbackAt (b : List Byte) (x y : Nat) : Nat :=
  let o := le32 b (16 + 4 * (y / 8))
  runAt (runRow (le16 b 2) (runsOf (slice b o (le32 b 8 - o))) (y % 8) 0) x

/-- The dither matrix M (R204). -/
def ditherM (r c : Nat) : Nat := ([0, 8, 2, 10, 12, 4, 14, 6, 3, 11, 1, 9, 15, 7, 13, 5] : List Nat).getD (4 * (r % 4) + c % 4) 0

/-- Plane value of an 18-bit value at a pixel of frame k (R204). -/
def planeValue (v x y k : Nat) : Nat :=
  let k := k % 16
  if 4 * (v % 4) > ditherM (y + k / 4) (x + k) then v / 4 + 1 else v / 4

/-- Six or four tap positions around a source position (R178): edges repeat. -/
def tapSum (sample : Int → Int) (coef : Nat → Int) (taps : Nat) (first last pos : Int) (maxV : Nat) : Int :=
  let base := pos / 65536 - (if taps = 6 then 2 else 1)
  let sum := (List.range taps).foldl (fun (a : Int) t => a + coef t * sample (clampI first last (base + t))) 0
  clampI 0 maxV (roundAway sum 256)

/-- Table position of sample x of line k in a trajectory table of lines of `len` samples, 1/16 pixel (R187, R191). -/
def trajAt (tab : List Byte) (len k x : Nat) : Nat × Nat :=
  (le16 tab (4 * (k * len + x)), le16 tab (4 * (k * len + x) + 2))

/-- The array pixel of a table position: the nearest, ties up (R235). -/
def trajPixel (p : Nat × Nat) : Nat × Nat := ((p.1 + 8) / 16, (p.2 + 8) / 16)

namespace State

/-- A register of the composition in progress (R157). -/
def getW (s : State) (n : Fin 4) (a : Nat) : Nat := (sget regReset (s.ch n).work a).toNat
def rdW (s : State) (n : Fin 4) (f : Fld) : Nat := bits (s.getW n f.addr) f.lo f.w
def onW (s : State) (n : Fin 4) (f : Fld) : Bool := s.rdW n f != 0

/-- The fallback pattern SRAM as bytes. -/
def sramBytes (s : State) (n : Fin 4) : List Byte :=
  let hdr := sgets memReset (s.ch n).sram 0 16
  sgets memReset (s.ch n).sram 0 (min 262144 (max 16 (le32 hdr 8)))

/-- PATTERN_OK is evaluated against an array size (R212). -/
def patternCheck (s : State) (n : Fin 4) (size : Option (Nat × Nat)) : State :=
  let b := s.sramBytes n
  let ok := match size with
    | some (c, r) => fallbackOk b && le16 b 2 == c && le16 b 4 == r
    | none => false
  s.wrB (F.CMP_STATUS_PATTERN_OK n) ok

/-- The active array size of a channel (R212): the composition stage's, else the shadows'. -/
def activeSize (s : State) (n : Fin 4) : Option (Nat × Nat) :=
  match (s.ch n).cfgComp with
  | some c => some (c.cols, c.rows)
  | none => none

/-- Layer state of the composition. -/
def lay (s : State) (n x : Fin 4) : LayerRun := (s.ch n).layers.get x
/-- Change a layer's state. -/
def modLay (s : State) (n x : Fin 4) (f : LayerRun → LayerRun) : State :=
  s.modCh n fun c => { c with layers := c.layers.set x (f (c.layers.get x)) }

/-! ### Source samples (R162, R163, R178, R179) -/

/-- A raw sample of component k (0 luma or R, 1 Cb or G, 2 Cr or B, 3 alpha) at sample position (x, y), expanded. -/
def srcSample (s : State) (n x : Fin 4) (k : Nat) (px py : Int) : Int :=
  let l := s.lay n x
  let f := s.rdW n (F.FETCH_Lx_CFG_FMT n x.val)
  let px := px.toNat
  let py := py.toNat
  let b := fun a w => leNat (s.dread a w)
  let line := l.plane0 + py * l.stride
  let v : Nat :=
    match f with
    | 0 => fmtExpand 0 (b (line + px) 1)
    | 1 => b (line + 2 * px) 2
    | 3 => if k = 0 then fmtExpand 3 (b (line + 2 * px) 2 / 64)
        else fmtExpand 3 (b (l.plane1 + py * l.stride + 4 * px + 2 * (k - 1)) 2 / 64)
    | 5 => fmtExpand 0 (b (line + 3 * px + k) 1)
    | 6 => if k = 3 then b (line + 4 * px + 3) 1 else fmtExpand 0 (b (line + 4 * px + 2 - k) 1)
    | _ => if k = 0 then fmtExpand 0 (b (line + px) 1) else fmtExpand 0 (b (l.plane1 + py * l.stride + 2 * px + (k - 1)) 1)
  v

/-- The scaler that serves a layer, if any (R177). -/
def scalerOf (s : State) (n x : Fin 4) : Option Nat :=
  if s.onW n (F.SCL_CTRL_S0_EN n) && s.rdW n (F.SCL_CTRL_S0_LAYER n) == x.val then some 0
  else if s.onW n (F.SCL_CTRL_S1_EN n) && !s.onW n (F.SCL_CTRL_GANG n) && s.rdW n (F.SCL_CTRL_S1_LAYER n) == x.val then some 1
  else none

/-- Coefficient of the bank in use (R192). -/
def sclCoef (s : State) (n : Fin 4) (chroma : Bool) (phase t : Nat) : Int :=
  let b := s.rdW n (F.SCL_CTRL_COEF_BANK n)
  let o := 0xA00 * b + (if chroma then 0x600 + 4 * (4 * phase + t) else 4 * (6 * phase + t))
  signed (s.get (sclBase n + 0x400 + o)) 10

/-- Bilinear interpolation of the unscaled chroma (R163): weights in quarters. -/
def chromaFixed (sample : Int → Int → Int) (sx sy : Nat) (x y : Int) : Int :=
  let hx := fun (row : Int) => if sx = 1 then 2 * sample x row
    else if x % 2 = 0 then 2 * sample (x / 2) row else sample (x / 2) row + sample (x / 2 + 1) row
  let v := if sy = 1 then 4 * hx y
    else if y % 2 = 0 then 3 * hx (y / 2) + hx (y / 2 - 1) else 3 * hx (y / 2) + hx (y / 2 + 1)
  roundAway v 8

/-- Component k of a layer at destination pixel (i, j): step 1 (R176, R178).  A layer that a scaler serves goes through the
horizontal taps at every pixel; the vertical taps act where its heights differ (R177). -/
def scaledSample (s : State) (n x : Fin 4) (k i j : Nat) : Int :=
  let f := s.rdW n (F.FETCH_Lx_CFG_FMT n x.val)
  let cx : Int := s.rdW n (F.FETCH_Lx_CROP_POS_X n x.val)
  let cy : Int := s.rdW n (F.FETCH_Lx_CROP_POS_Y n x.val)
  let cw : Int := s.rdW n (F.FETCH_Lx_CROP_SIZE_WIDTH n x.val)
  let chh : Int := s.rdW n (F.FETCH_Lx_CROP_SIZE_HEIGHT n x.val)
  let (sx, sy) := if k = 1 ∨ k = 2 then fmtSub f else (1, 1)
  let x0 := cx / sx; let x1 := (cx + cw - 1) / sx
  let y0 := cy / sy; let y1 := (cy + chh - 1) / sy
  let maxV := if k = 3 then 255 else fmtMax f
  let chroma := decide (sx ≠ 1)
  let raw := fun (a b : Int) => s.srcSample n x k (clampI x0 x1 a) (clampI y0 y1 b)
  match s.scalerOf n x with
  | none => if chroma then chromaFixed raw sx sy (cx + i) (cy + j) else raw (cx + i) (cy + j)
  | some q =>
    let hp := signed (s.rdW n (F.SCL_Sk_HPHASE_PHASE n q)) 21 + i * s.rdW n (F.SCL_Sk_HSTEP_STEP n q) + cx * 65536
    let vp := signed (s.rdW n (F.SCL_Sk_VPHASE_PHASE n q)) 21 + j * s.rdW n (F.SCL_Sk_VSTEP_STEP n q) + cy * 65536
    let hpos := hp / sx
    let vpos := if sy = 2 then (vp - 32768) / 2 else vp
    let taps := if chroma then 4 else 6
    let ph := fun (p : Int) => (p % 65536).toNat / 1024
    let vert := s.rdW n (F.CMP_Lx_DST_SIZE_H n x.val) != s.rdW n (F.FETCH_Lx_CROP_SIZE_HEIGHT n x.val)
    let col := fun (a : Int) =>
      if vert then tapSum (fun b => raw a b) (s.sclCoef n chroma (ph vpos)) taps y0 y1 vpos maxV
      else if sy = 2 then
        (let b := vpos / 65536
         let w := vpos % 65536
         roundAway (raw a b * (65536 - w) + raw a (b + 1) * w) 65536)
      else raw a (vpos / 65536)
    tapSum col (s.sclCoef n chroma (ph hpos)) taps x0 x1 hpos maxV

/-- The source lines that destination line j of layer x is formed from, of luma or of chroma (R163, R178). -/
def linesOf (s : State) (n x : Fin 4) (chroma : Bool) (j : Nat) : List Nat :=
  let f := s.rdW n (F.FETCH_Lx_CFG_FMT n x.val)
  let cy : Int := s.rdW n (F.FETCH_Lx_CROP_POS_Y n x.val)
  let chh : Int := s.rdW n (F.FETCH_Lx_CROP_SIZE_HEIGHT n x.val)
  let sy := if chroma then (fmtSub f).2 else 1
  let ls : List Int :=
    match s.scalerOf n x with
    | none => if sy = 1 then [cy + j] else [(cy + j) / 2, (cy + j) / 2 + (if (cy + j) % 2 = 0 then -1 else 1)]
    | some q =>
      let vp := signed (s.rdW n (F.SCL_Sk_VPHASE_PHASE n q)) 21 + j * s.rdW n (F.SCL_Sk_VSTEP_STEP n q) + cy * 65536
      let p := (if sy = 2 then (vp - 32768) / 2 else vp) / 65536
      if s.rdW n (F.CMP_Lx_DST_SIZE_H n x.val) = s.rdW n (F.FETCH_Lx_CROP_SIZE_HEIGHT n x.val) then
        (if sy = 2 then [p, p + 1] else [p])
      else if chroma then [p - 1, p, p + 1, p + 2] else [p - 2, p - 1, p, p + 1, p + 2, p + 3]
  ls.map fun l => (clampI (cy / sy) ((cy + chh - 1) / sy) l).toNat

/-- The bytes of a source line of plane 0 or plane 1 that the crop of a layer covers: address and length (R162). -/
def lineBytes (s : State) (n x : Fin 4) (chroma : Bool) (l : Nat) : Nat × Nat :=
  let f := s.rdW n (F.FETCH_Lx_CFG_FMT n x.val)
  let cx := s.rdW n (F.FETCH_Lx_CROP_POS_X n x.val)
  let cw := s.rdW n (F.FETCH_Lx_CROP_SIZE_WIDTH n x.val)
  let r := s.lay n x
  if chroma then
    let a := cx / 2
    let b := (cx + cw + 1) / 2
    (r.plane1 + l * r.stride + 2 * fmtBytes f * a, 2 * fmtBytes f * (b - a))
  else (r.plane0 + l * r.stride + fmtBytes f * cx, fmtBytes f * cw)

/-- The first destination line of a composed layer that needs data FETCH cannot use: outside DRAM, or poisoned (R358,
R367). -/
def badLine (s : State) (n x : Fin 4) : Option Nat :=
  let f := s.rdW n (F.FETCH_Lx_CFG_FMT n x.val)
  let bad := fun c l => let q := s.lineBytes n x c l; s.badRead q.1 q.2
  let h := s.rdW n (F.FETCH_Lx_CROP_POS_Y n x.val) + s.rdW n (F.FETCH_Lx_CROP_SIZE_HEIGHT n x.val)
  let r := s.lay n x
  if !r.on || (!s.badRead r.plane0 (h * r.stride) && !(fmtPlanes f && s.badRead r.plane1 (h * r.stride))) then none
  else (List.range (s.rdW n (F.CMP_Lx_DST_SIZE_H n x.val))).find? fun j =>
    (s.linesOf n x false j).any (bad false) || (fmtPlanes f && (s.linesOf n x true j).any (bad true))

/-- Matrix entry as a signed 18-bit number. -/
def lmat (s : State) (n x : Fin 4) (i : Nat) : Int := signed (s.getW n (R.CMP_Lx_MATi n x.val i)) 18
def omat (s : State) (n : Fin 4) (i : Nat) : Int := signed (s.getW n (R.CMP_OMATi n i)) 18

/-- Linear components C0–C2 of a layer at destination pixel (i, j): steps 1 to 3 (R179, R180). -/
def layerLinear (s : State) (n x : Fin 4) (i j : Nat) : List Int :=
  let f := s.rdW n (F.FETCH_Lx_CFG_FMT n x.val)
  let v := fun k => s.scaledSample n x k i j
  if f = 1 then [v 0, v 0, v 0]
  else
    let inp : List Int := if f = 0 then [v 0, 0, 0]
      else if f = 5 ∨ f = 6 then [v 0, v 1, v 2] else [v 0, v 1 - 2048, v 2 - 2048]
    [0, 1, 2].map fun r =>
      let sum := sumI (inp.zipIdx.map fun p => s.lmat n x (4 * r + p.2) * p.1)
      let c := clampI 0 4095 (roundUp (sum + 4096 * s.lmat n x (4 * r + 3)) 4096)
      (sget (fun _ => 0) (s.ch n).lut (4096 * s.rdW n (F.CMP_CTRL_LUT_BANK n) + c.toNat) : Nat)

/-! ### Levelling, blending, fill (R181–R185) -/

/-- The offset o of the frame, Q12.4 rows, and whether the clamp acted (R185). -/
def offsetNow (s : State) (n : Fin 4) : Int × Bool :=
  let t := if s.onC (F.WRP_CTRL_OFFSET_EN n) then ((s.tu n).offset).getD 0 else 0
  let raw := signed (s.rdC (F.WRP_AIM_AIM n)) 16 + t
  let o := clampI (signed (s.rdC (F.WRP_OFF_LIM_MIN n)) 16) (signed (s.rdC (F.WRP_OFF_LIM_MAX n)) 16) raw
  (o, decide (o ≠ raw))

/-- Offset in force for the frame being composed. -/
def offW (s : State) (n : Fin 4) : Int := signed (s.rd (F.WRP_OFF_NOW_OFFSET n)) 16

/-- Is a layer's content present at a translated row y of the frame (R166–R168, R171)? -/
def layerRow (s : State) (n x : Fin 4) (y : Int) : Bool :=
  let l := s.lay n x
  l.on && (match l.under with | some r => decide (y < (r : Int)) | none => true) &&
  l.gap.all fun g => decide (y < (g.1 : Int) ∨ (g.2 : Int) ≤ y)

/-- Destination of a layer after the translation of R185: x, y, width, height. -/
def dest (s : State) (n x : Fin 4) : Int × Int × Nat × Nat :=
  ((s.rdW n (F.CMP_Lx_DST_POS_X n x.val) : Nat), (s.rdW n (F.CMP_Lx_DST_POS_Y n x.val) : Nat) + s.offW n / 16,
   s.rdW n (F.CMP_Lx_DST_SIZE_W n x.val), s.rdW n (F.CMP_Lx_DST_SIZE_H n x.val))

/-- The base layer is the lowest in z-order; layers of equal z lie in ascending index. -/
def zOrder (s : State) (n : Fin 4) : List (Fin 4) :=
  ([0, 1, 2, 3] : List Nat).flatMap fun z => chans.filter fun x => s.rdW n (F.CMP_Lx_CFG_Z n x.val) == z

/-- Layer 0 is the base layer. -/
def baseGone (s : State) (n : Fin 4) (y : Int) : Bool := s.onW n (F.FETCH_Lx_CFG_EN n 0) && !s.layerRow n 0 y

/-- PATTERN_OK for the frame in composition: a transfer does not alter what its drawing has found (R157, R212). -/
def patternOk (s : State) (n : Fin 4) : Bool :=
  match (s.ch n).drawn with
  | some d => d.pattern
  | none => s.on (F.CMP_STATUS_PATTERN_OK n)

/-- Fill of a pixel of the composed frame (R182). -/
def fill (s : State) (n : Fin 4) (pat : List Byte) (x y : Int) : List Int :=
  let yp := y - s.offW n / 16
  if s.onW n (F.CMP_CTRL_FALLBACK_EN n) && s.patternOk n && s.baseGone n y then
    if 0 ≤ yp ∧ yp < (le16 pat 4 : Nat) ∧ 0 ≤ x ∧ x < (le16 pat 2 : Nat) then
      (let v : Int := (fallbackAt pat x.toNat yp.toNat * 257 : Nat); [v, v, v])
    else [(s.rdW n (F.CMP_BG01_C0 n) : Nat), (s.rdW n (F.CMP_BG01_C1 n) : Nat), (s.rdW n (F.CMP_BG2_C2 n) : Nat)]
  else [(s.rdW n (F.CMP_BG01_C0 n) : Nat), (s.rdW n (F.CMP_BG01_C1 n) : Nat), (s.rdW n (F.CMP_BG2_C2 n) : Nat)]

/-- Step 4 at a pixel (R181). -/
def blend (s : State) (n : Fin 4) (pat : List Byte) (x y : Int) : List Int :=
  (s.zOrder n).foldl (fun out l =>
    let (dx, dy, w, h) := s.dest n l
    if s.layerRow n l y && decide (dx ≤ x ∧ x < dx + w ∧ dy ≤ y ∧ y < dy + h) then
      let i := (x - dx).toNat
      let j := (y - dy).toNat
      let c := s.layerLinear n l i j
      let ap : Int := if s.rdW n (F.FETCH_Lx_CFG_FMT n l.val) = 6 then s.scaledSample n l 3 i j else 255
      let a := (s.rdW n (F.CMP_Lx_CFG_ALPHA n l.val) : Nat) * ap
      (c.zip out).map fun p => roundUp (a * p.1 + (65025 - a) * p.2) 65025
    else out) (s.fill n pat x y)

/-- Quarter steps: 4 with dither, 1 without (R204). -/
def quarters (s : State) (n : Fin 4) : Nat := if s.onW n (F.BPF_CTRL_DITHER_EN n) then 4 else 1

/-- Step 5: field value f of components (R183). -/
def fieldValue (s : State) (n : Fin 4) (f : Nat) (c : List Int) : Int :=
  let q := s.quarters n
  let sum := sumI (c.zipIdx.map fun p => s.omat n (4 * f + p.2) * p.1) + 4096 * s.omat n (4 * f + 3)
  let v := clampI 0 (65535 * q : Nat) (roundUp (q * sum) 4096)
  roundUp (v * (s.rdW n (F.CMP_GAIN_GAIN n) : Nat)) 65535

/-- Field value of the composed frame at a pixel; outside the array the background passed through step 5 (R184). -/
def composedAt (s : State) (n : Fin 4) (pat : List Byte) (cols rows f : Nat) (x y : Int) : Int :=
  if 0 ≤ x ∧ x < (cols : Int) ∧ 0 ≤ y ∧ y < (rows : Int) then s.fieldValue n f (s.blend n pat x y)
  else s.fieldValue n f [(s.rdW n (F.CMP_BG01_C0 n) : Nat), (s.rdW n (F.CMP_BG01_C1 n) : Nat), (s.rdW n (F.CMP_BG2_C2 n) : Nat)]

/-! ### Warp (R184–R187) -/

/-- Mesh node (i, j): dx, dy in 1/16 pixel. -/
def meshNode (s : State) (n : Fin 4) (i j : Nat) : Int × Int :=
  let w := sget (fun _ => 0) (s.ch n).mesh (1024 * s.rdW n (F.WRP_CTRL_MESH_BANK n) + 33 * j + i)
  (signed w 16, signed (w / 65536) 16)

/-- Mesh displacement at (x, y), in units of 1 / (16 · cols · rows) pixel, bilinear over the four nodes around (R184). -/
def meshAt (s : State) (n : Fin 4) (cols rows x y : Nat) : Int × Int :=
  let i := min 31 (32 * x / cols); let j := min 15 (16 * y / rows)
  let fx : Int := (32 * x : Nat) - (i * cols : Nat)
  let fy : Int := (16 * y : Nat) - (j * rows : Nat)
  let a := s.meshNode n i j; let b := s.meshNode n (i + 1) j
  let c := s.meshNode n i (j + 1); let d := s.meshNode n (i + 1) (j + 1)
  let mix := fun (p q r t : Int) => (((rows : Int) - fy) * (((cols : Int) - fx) * p + fx * q) + fy * (((cols : Int) - fx) * r + fx * t))
  (mix a.1 b.1 c.1 d.1, mix a.2 b.2 c.2 d.2)

/-- Denominator of source positions: 2^24 · cols · rows. -/
def warpDen (cols rows : Nat) : Nat := 2 ^ 24 * cols * rows

/-- Source position of an output pixel in units of 1 / warpDen, before the window (R184). -/
def warpSrc (s : State) (n : Fin 4) (cols rows x y : Nat) : Int × Int :=
  let v := fun a => signed (s.getW n a) 32
  let k : Int := (cols * rows : Nat)
  let xa := if s.onW n (F.WRP_CTRL_AFF_EN n) then v (R.WRP_AFF_A n) * x + v (R.WRP_AFF_B n) * y + 256 * v (R.WRP_AFF_TX n) else (2 ^ 24 * x : Nat)
  let ya := if s.onW n (F.WRP_CTRL_AFF_EN n) then v (R.WRP_AFF_C n) * x + v (R.WRP_AFF_D n) * y + 256 * v (R.WRP_AFF_TY n) else (2 ^ 24 * y : Nat)
  let m := if s.onW n (F.WRP_CTRL_MESH_EN n) then s.meshAt n cols rows x y else (0, 0)
  let f := s.offW n % 16
  (xa * k + m.1 * 2 ^ 20, ya * k + m.2 * 2 ^ 20 - f * (2 ^ 20) * k)

/-- Bilinear interpolation of the composed frame at a position given in units of 1 / den (R184). -/
def bilinear (p : Int → Int → Int) (den : Nat) (xs ys : Int) : Int :=
  let x0 := xs / (den : Int); let fx := xs % (den : Int)
  let y0 := ys / (den : Int); let fy := ys % (den : Int)
  let g := fun (x y wx wy : Int) => if wx = 0 ∨ wy = 0 then 0 else p x y * wx * wy
  roundUp (g x0 y0 (den - fx) (den - fy) + g (x0 + 1) y0 fx (den - fy) + g x0 (y0 + 1) (den - fx) fy + g (x0 + 1) (y0 + 1) fx fy) (den * den)

/-- Is the source row of an output row outside the window of R186? -/
def outside (den : Nat) (y : Nat) (ys : Int) : Bool := decide (ys < ((y : Int) - 62) * den ∨ ((y : Int) + 1) * den < ys)

/-- Step 6 at an output pixel of the raster or sample x of scan line y (R184, R186, R187). -/
def warpedAt (s : State) (n : Fin 4) (pat : List Byte) (cols rows : Nat) (f x y : Nat) : Int :=
  let p := fun a b => s.composedAt n pat cols rows f a b
  if s.onW n (F.WRP_CTRL_MODE n) then
    let (xs, ys) := trajAt (s.ch n).trajWork (s.rdW n (F.WRP_TRAJ_CFG_S n)) y x
    bilinear p 16 (xs : Int) ((ys : Int) - s.offW n % 16)
  else
    let (xs, ys) := s.warpSrc n cols rows x y
    let den := warpDen cols rows
    bilinear p den xs (clampI (((y : Int) - 62) * den) (((y : Int) + 1) * den) ys)

/-! ### Soft masks (R188, R219) -/

/-- Distance of a pixel to a primitive: the smallest n ≤ limit for which a pixel inside lies within n columns and rows. -/
def maskDist (r : List Byte) (limit : Nat) (x y : Int) : Option Nat :=
  (List.range (limit + 1)).find? fun d =>
    (List.range (2 * d + 1)).any fun a => (List.range (2 * d + 1)).any fun b => inside r (x - d + a) (y - d + b)

/-- g of one primitive at a pixel, as numerator over 255 · (FEATHER + 1) (R188). -/
def softG (r : List Byte) (x y : Nat) : Nat × Nat :=
  let fe := byteAt r 3 % 16
  let at' := byteAt r 12
  match maskDist r fe x y with
  | some d => (255 * (fe + 1) - at' * (fe + 1 - d), 255 * (fe + 1))
  | none => (255 * (fe + 1), 255 * (fe + 1))

/-- Step 7: the smallest g of the active soft masks (R188). -/
def softAt (recs : List (List Byte)) (x y : Nat) (v : Int) : Int :=
  let g := recs.foldl (fun (m : Nat × Nat) r => let q := softG r x y; if q.1 * m.2 < m.1 * q.2 then q else m) (1, 1)
  roundUp (v * g.1) g.2

/-! ### The frame (R189, R190, R193, R204, R208) -/

/-- Output size of the frame: columns and rows, or samples and lines. -/
def outSize (s : State) (n : Fin 4) (cols rows : Nat) : Nat × Nat :=
  if s.onW n (F.WRP_CTRL_MODE n) then (s.rdW n (F.WRP_TRAJ_CFG_S n), s.rdW n (F.WRP_TRAJ_CFG_L n)) else (cols, rows)

/-- Step 7 values of field f: rows of columns.  A scan sample takes the soft masks of the array pixel at its table position
(R176, R188; the rounding is that of R235, log entry 96). -/
def stepSeven (s : State) (n : Fin 4) (cols rows f : Nat) : List (List Nat) :=
  let pat := s.sramBytes n
  let recs := ((List.range 64).filter fun k => s.softLive n k).map fun k => s.softRec n k
  let (w, h) := s.outSize n cols rows
  (List.range h).map fun y => (List.range w).map fun x =>
    let (px, py) := if s.onW n (F.WRP_CTRL_MODE n) then trajPixel (trajAt (s.ch n).trajWork w y x) else (x, y)
    (softAt recs px py (s.warpedAt n pat cols rows f x y)).toNat

/-- Monitor value of a step 7 value: rounded from quarters, ties up (R204). -/
def monValue (q v : Nat) : Nat := if q = 4 then roundDiv v 4 else v

/-- The eight-pixel bytes of a plane, leftmost pixel in bit 0 (R193). -/
def planeBytes (p : Nat) : List Nat → List Byte
  | a :: b :: c :: d :: e :: f :: g :: h :: r =>
    let t := fun v k => if bit v p then 2 ^ k else 0
    BitVec.ofNat 8 (t a 0 + t b 1 + t c 2 + t d 3 + t e 4 + t f 5 + t g 6 + t h 7) :: planeBytes p r
  | _ => []

/-- Plane values of a field (R204). -/
def planeRows (q k : Nat) (rows : List (List Nat)) : List (List Nat) :=
  rows.zipIdx.map fun r => r.1.zipIdx.map fun c => if q = 4 then planeValue c.1 c.2 r.2 k else c.1

/-- The bytes of a region, pixels low byte first (R190). -/
def regionBytes (mon : List (List Nat)) (x y w h : Nat) : List Byte :=
  ((slice' mon y h).map fun r => ((slice' r x w).map fun v => leBytes 2 v).flatten).flatten
where
  /-- k elements of a list from i. -/
  slice' {α : Type} (l : List α) (i k : Nat) : List α := (l.drop i).take k

/-- One field as the frame buffer holds it (R193, R208). -/
def fieldBytes (s : State) (n : Fin 4) (pl : List (List Nat)) : List Byte :=
  if s.onW n (F.BPF_CTRL_MODE n) then (pl.flatten.map fun v => leBytes 2 v).flatten
  else ((List.range 16).map fun p => planeBytes p pl.flatten).flatten

/-- The trajectory table of the frame in composition is read; poisoned or outside DRAM, the previous frame's stands (R187,
R367). -/
def trajLoad (s : State) (n : Fin 4) : State :=
  if s.onW n (F.WRP_CTRL_MODE n) then
    let a := s.rdW n (F.WRP_TRAJ_BASE_ADDR n) * 4096 + 16
    let k := 4 * s.rdW n (F.WRP_TRAJ_CFG_S n) * s.rdW n (F.WRP_TRAJ_CFG_L n)
    if s.badRead a k then s.portRead 10 a k else s.modCh n fun c => { c with trajWork := s.dread a k }
  else s

/-- The values a SAMPLED chain source takes from a composed frame, by position (R294). -/
def samplePoints (s : State) (n : Fin 4) (mon : List (List (List Nat))) : Option (List (Nat × Nat)) :=
  if s.rdA (F.CHN_CFG_SOURCE n) = 2 ∧ ¬ s.on (F.CHN_CTRL_STORED n) then
    let a := s.rdA (F.CHN_ASSET_ADDR n) * 4096
    let rows := mon.getD (leNat (s.dread (a + 3) 1)) []
    some (((List.range (min 8192 (leNat (s.dread (a + 4) 2)))).map fun i =>
      let e := a + 16 + 8 * i
      (leNat (s.dread e 2), (rows.getD (leNat (s.dread (e + 4) 2)) []).getD (leNat (s.dread (e + 2) 2)) 0)).filter fun p =>
        decide (p.1 < 8192))
  else none

/-- Write-back of composed frame k: planes, monitor copy, and what its completion publishes (R157, R189, R190, R193, R213,
R294). -/
def drawFrame (s : State) (n : Fin 4) (cols rows fields k : Nat) : State :=
  let q := s.quarters n
  let vals := (List.range fields).map fun f => s.stepSeven n cols rows f
  let mon := vals.map fun r => r.map fun c => c.map (monValue q)
  let enabled := (List.range 16).filter fun r => s.rdW n (F.WBK_Rr_SIZE_W n r) != 0 && s.rdW n (F.WBK_Rr_SIZE_H n r) != 0
  let sig := fun r => if enabled.contains r then
      crc32 ((mon.map fun m => regionBytes m (s.rdW n (F.WBK_Rr_POS_X n r)) (s.rdW n (F.WBK_Rr_POS_Y n r))
        (s.rdW n (F.WBK_Rr_SIZE_W n r)) (s.rdW n (F.WBK_Rr_SIZE_H n r))).flatten)
    else 0
  let sigs := (List.range 16).map sig
  let monitor := s.onW n (F.WBK_CTRL_MON_EN n) && !(s.ch n).bpf.pattern
  let d : Drawn := ⟨sigs, monitor, s.samplePoints n mon, s.patternOk n⟩
  let planes := (vals.map fun v => s.fieldBytes n (planeRows q k v)).flatten
  let s := s.portWrite 8 (s.rdW n (F.BPF_FBk_ADDR n (k % 2)) * 4096) planes
  let mask := enabled.foldl (fun m r => m + 2 ^ r) 0
  let copy := (mon.map fun p => (p.flatten.map fun v => leBytes 2 v).flatten).flatten ++ leBytes 4 k ++ leBytes 2 mask ++ [0, 0] ++
    (sigs.map fun c => leBytes 4 c).flatten ++ List.replicate 56 0
  let s := if monitor then s.portWrite 8 (s.rdW n (F.WBK_BASEk_ADDR n (k % 2)) * 4096) copy else s
  s.modCh n fun c => { c with drawn := some d }

/-- The composed frame is complete: its signatures, its monitor copy and its chain values are published (R157, R190, R294). -/
def publishFrame (s : State) (n : Fin 4) (d : Drawn) (k : Nat) : State :=
  let s := d.sigs.zipIdx.foldl (fun s p => s.put (R.WBK_SIGr n p.2) p.1) s
  let s := s.put (R.WBK_SIG_FRAME n) k
  let s := if d.monitor then s.wr (F.WBK_STATUS_BUF n) (k % 2) else s
  match d.points with
  | some ps =>
    let s := s.bankFill n (s.fillBank n) []
    (ps.foldl (fun s p => s.bankSet n (s.fillBank n) p.1 p.2) s).wr (F.CHN_STATUS_FILL_READY n) 1
  | none => s

/-- Does any output row of the frame need the clamp of R186? -/
def windowHit (s : State) (n : Fin 4) (cols rows : Nat) : Bool :=
  !s.onW n (F.WRP_CTRL_MODE n) && (List.range rows).any fun y => (List.range cols).any fun x =>
    outside (warpDen cols rows) y (s.warpSrc n cols rows x y).2

/-! ### Buffer selection and freshness (R165–R168, R170, R171) -/

/-- Plane 0, plane 1 and stride of the buffer a layer selects, with its address and tag; none without a buffer. -/
def selectBuffer (s : State) (n x : Fin 4) : Option ((Nat × Nat) × Nat × Nat × Nat) :=
  let src := s.rdC (F.FETCH_Lx_CFG_SRC n x.val)
  let fmt := s.rdC (F.FETCH_Lx_CFG_FMT n x.val)
  if src = 0 then
    let id := match (s.ch n).cfgComp with | some c => c.layerId.get x | none => 0
    some ((id, 0), s.rdC (F.FETCH_Lx_BASE0_ADDR n x.val) * 64, s.rdC (F.FETCH_Lx_BASE1_ADDR n x.val) * 64,
      s.rdC (F.FETCH_Lx_STRIDE_BYTES n x.val))
  else if src = 3 then none
  else
    let a := s.rd (F.FETCH_Lx_LIVE_ADDR n x.val)
    let tag := s.rd (F.FETCH_Lx_STAT_LIVE_TAG n x.val)
    if a ≠ 0 ∧ tag = s.rdC (F.FETCH_Lx_CFG_TAG n x.val) then
      let stride := ceilDiv (s.rdC (F.FETCH_Lx_SRC_SIZE_WIDTH n x.val) * fmtBytes fmt) 64 * 64
      some ((a * 64, tag), a * 64, a * 64 + stride * s.rdC (F.FETCH_Lx_SRC_SIZE_HEIGHT n x.val), stride)
    else none

/-- The buffer of a receiver layer is fetched: its publication counts as fetched (R152). -/
def markFetched (s : State) (n x : Fin 4) : State :=
  match (s.ch n).cfgComp with
  | some c =>
    match c.bind.get x with
    | some (rx, v, _) => s.setFetched (duo rx) v true
    | none => s
  | none => s

/-- One enabled layer at the frame start that opens a composition (R165–R167). -/
def layerSelect (s : State) (n x : Fin 4) (static : Bool) : State :=
  let f := F.FETCH_Lx_STAT_AGE n x.val
  let sel := s.selectBuffer n x
  let s := s.wrB (F.FETCH_Lx_STAT_NOT_READY n x.val) sel.isNone
  let same := match sel with | some b => (s.lay n x).key == some b.1 | none => false
  let s := match sel with
    | some _ => if same then (s.wr f (satN 8 (s.rd f + 1))).incSat (F.FETCH_Lx_CNT_REUSE n x.val) else s.wr f 1
    | none => s.wr f (satN 8 (s.rd f + 1))
  let fresh := s.onC (F.FETCH_Lx_CFG_REQUIRE_FRESH n x.val)
  let was := s.on (F.FETCH_Lx_STAT_STALE n x.val)
  let stale := if !fresh then false
    else if sel.isSome && !same then false
    else was || (!static && decide (s.rdC (F.FETCH_Lx_CFG_TIMEOUT n x.val) < s.rd f))
  let s := s.wrB (F.FETCH_Lx_STAT_STALE n x.val) stale
  let s := if stale && !was then s.blockEvent (fetchBase n) (0x1012 + 256 * n.val) 2 x.val 1
    else if was && !stale then s.blockEvent (fetchBase n) (0x1012 + 256 * n.val) 2 x.val 0 else s
  let on := sel.isSome && !stale
  let s := if on then s else s.incSat (F.FETCH_Lx_CNT_DARK n x.val)
  let s := if on then s.markFetched n x else s
  match sel with
  | some (k, p0, p1, st) =>
    s.modLay n x fun l =>
      { l with key := some k, held := if s.rdC (F.FETCH_Lx_CFG_SRC n x.val) = 0 then none else some p0, on := on, plane0 := p0, plane1 := p1, stride := st, under := none, gap := [] }
  | none => s.modLay n x fun l => { l with on := false, held := none, under := none, gap := [] }

/-- A layer that is not enabled. -/
def layerOff (s : State) (n x : Fin 4) : State :=
  let s := ((s.wr (F.FETCH_Lx_STAT_NOT_READY n x.val) 0).wr (F.FETCH_Lx_STAT_STALE n x.val) 0)
  s.modLay n x fun l => { l with on := false, held := none, key := none, under := none, gap := [] }

/-- Opaque in the frame (R170). -/
def opaqueLayer (s : State) (n x : Fin 4) : Bool :=
  (s.lay n x).on && s.rdW n (F.CMP_Lx_CFG_ALPHA n x.val) == 255 && s.rdW n (F.FETCH_Lx_CFG_FMT n x.val) != 6

/-- Row j of layer x's destination lies across its whole width inside opaque layer u above it (R170). -/
def rowCoveredBy (s : State) (n x u : Fin 4) (j : Nat) : Bool :=
  let (ax, ay, aw, _) := s.dest n x
  let (bx, by', bw, bh) := s.dest n u
  s.opaqueLayer n u && decide (s.rdW n (F.CMP_Lx_CFG_Z n x.val) < s.rdW n (F.CMP_Lx_CFG_Z n u.val)) &&
  decide (bx ≤ ax ∧ ax + aw ≤ bx + bw ∧ by' ≤ ay + j ∧ ay + j < by' + bh)

/-- Every line of the layer is skipped. -/
def allCovered (s : State) (n x : Fin 4) : Bool :=
  s.onW n (F.FETCH_CTRL_COVER_STOP n) && (s.lay n x).on &&
  (List.range (s.rdW n (F.CMP_Lx_DST_SIZE_H n x.val))).all fun j => chans.any fun u => u != x && s.rowCoveredBy n x u j

/-- FETCH_STATUS follows the layers. -/
def fetchStatus (s : State) (n : Fin 4) : State :=
  let mask := fun (p : Fin 4 → Bool) => chans.foldl (fun m x => if p x then m + 2 ^ x.val else m) 0
  let s := s.wr (F.FETCH_STATUS_ACTIVE n) (mask fun x => (s.lay n x).on)
  let s := s.wr (F.FETCH_STATUS_UNDERRUN n) (mask fun x => s.on (F.FETCH_Lx_STAT_UNDERRUN n x.val))
  let s := s.wr (F.FETCH_STATUS_STALE n) (mask fun x => s.on (F.FETCH_Lx_STAT_STALE n x.val))
  s.wr (F.FETCH_STATUS_COVERED n) (mask fun x => s.on (F.FETCH_Lx_STAT_COVERED n x.val))

/-- A commit enables the layer or changes its source binding, between the configuration of the last frame start and that
of this one: AGE starts at 0 (R165). -/
def rebound (s : State) (n x : Fin 4) : Bool :=
  let bind := fun (c : Option Cfg) => match c with | some q => q.bind.get x | none => none
  s.onC (F.FETCH_Lx_CFG_EN n x.val) &&
  (!s.onW n (F.FETCH_Lx_CFG_EN n x.val) ||
   ([F.FETCH_Lx_CFG_SRC n x.val, F.FETCH_Lx_CFG_FMT n x.val, F.FETCH_Lx_CFG_TAG n x.val].any fun f => s.rdC f != s.rdW n f) ||
   bind (s.ch n).cfgComp != bind (s.ch n).cfgWork)

/-- At a frame start the composition stage becomes the configuration of the frame that this period composes and the next
one streams (R26, R157); layers it enables or rebinds start with AGE 0 (R165). -/
def workLoad (s : State) (n : Fin 4) : State :=
  let s := chans.foldl (fun s x => if s.rebound n x then s.wr (F.FETCH_Lx_STAT_AGE n x.val) 0 else s) s
  let comp := skeep (fun a => decide (lecBase n ≤ a ∧ a < lecBase n + 0x40000)) s.comp
  s.modCh n fun c => { c with work := comp, cfgWork := c.cfgComp, newWork := c.newComp, newComp := false, drawn := none }

/-- A new frame start ends the underruns and coverages of the frame before (R168, R170). -/
def layersFresh (s : State) (n : Fin 4) : State :=
  chans.foldl (fun s x => (s.wr (F.FETCH_Lx_STAT_UNDERRUN n x.val) 0).wr (F.FETCH_Lx_STAT_COVERED n x.val) 0) s

/-- An underrun of a composed layer (R168, R171). -/
def underrun (s : State) (n x : Fin 4) (row : Nat) : State :=
  if (s.ch n).composing && !(s.ch n).composed && (s.lay n x).on && (s.lay n x).under.isNone then
    let s := s.blockEvent (fetchBase n) (0x1010 + 256 * n.val) 3 x.val row
    let s := (s.incSat (F.FETCH_UNDERRUN_CNT_COUNT n)).wr (F.FETCH_Lx_STAT_UNDERRUN n x.val) 1
    let covers := s.onW n (F.FETCH_CTRL_COVER_STOP n)
    let until' := row + 1 + Config.resumeRows s.free
    let hidden := chans.filter fun y => y != x && covers && (s.lay n y).on &&
      s.rowCoveredBy n y x ((row : Int) - (s.dest n y).2.1).toNat
    let s := hidden.foldl (fun s y => s.modLay n y fun l => { l with gap := (row, until') :: l.gap }) s
    let s := s.modLay n x fun l => { l with under := some row }
    let s := if x = 0 ∧ s.onW n (F.CMP_CTRL_FALLBACK_EN n) ∧ s.patternOk n = true then s.wr (F.CMP_STATUS_FALLBACK n) 1 else s
    (s.fetchStatus n).nextFree
  else s

/-- A drill makes a layer of the frame that starts underrun at a row (R399). -/
def drillUnderrun (s : State) (n : Fin 4) : State :=
  match s.drillDue 7 n.val with
  | some p =>
    if (match (s.ch n).cfgWork with | some c => decide (p / 16 < c.rows) | none => false) then
      s.drillDone.underrun n (chan (p % 4)) (p / 16)
    else s
  | none => s

/-- The frame start that opens a composition: offset and layers are taken (R157, R165–R170, R185). -/
def composeStart (s : State) (n : Fin 4) : State :=
  let s := s.modCh n fun c => { c with composing := true, composed := false }
  let (o, cl) := s.offsetNow n
  let s := (s.wr (F.WRP_OFF_NOW_OFFSET n) (unsigned o 16)).wrB (F.WRP_OFF_NOW_CLAMPED n) cl
  let static := s.modeOf n == modeSTATIC
  let s := chans.foldl (fun s x =>
    if s.onC (F.FETCH_Lx_CFG_EN n x.val) then s.layerSelect n x static else s.layerOff n x) (s.layersFresh n)
  let s := chans.foldl (fun s x => s.wrB (F.FETCH_Lx_STAT_COVERED n x.val) (s.allCovered n x)) s
  let s := s.wr (F.WRP_STATUS_WINDOW n) 0
  let s := s.wrB (F.CMP_STATUS_FALLBACK n) (s.onW n (F.CMP_CTRL_FALLBACK_EN n) && s.on (F.CMP_STATUS_PATTERN_OK n) &&
    s.onW n (F.FETCH_Lx_CFG_EN n 0) && !(s.lay n 0).on)
  ((s.fetchStatus n).wr (F.FETCH_STATUS_IDLE n) 0).drillUnderrun n

/-- No layer is composed: FETCH holds no buffer and reports none (R168, R172, R175). -/
def layersIdle (s : State) (n : Fin 4) : State :=
  let s := chans.foldl (fun s x => s.modLay n x fun l => { l with on := false, held := none, under := none, gap := [] })
    (s.layersFresh n)
  (s.fetchStatus n).wr (F.FETCH_STATUS_IDLE n) 1

/-- A frame start at which nothing is composed: FETCH is idle; AGE keeps counting in STATIC (R172). -/
def composeIdle (s : State) (n : Fin 4) : State :=
  let s := s.modCh n fun c => { c with composing := false, composed := false }
  let s := if s.modeOf n = modeSTATIC then
      chans.foldl (fun s x => if s.onC (F.FETCH_Lx_CFG_EN n x.val) then
        s.wr (F.FETCH_Lx_STAT_AGE n x.val) (satN 8 (s.rd (F.FETCH_Lx_STAT_AGE n x.val) + 1)) else s) s
    else s
  s.layersIdle n

/-- The number of the frame in composition. -/
def composedCount (s : State) (n : Fin 4) : Nat := (s.get (R.LEC_FRAME_COUNT n) + 1) % 2 ^ 32

/-- The frame in composition is drawn, once: FETCH reads its layers and the pipeline writes its pixels.  A layer whose data
FETCH cannot use underruns at the row that needs it (R367). -/
def composeDraw (s : State) (n : Fin 4) : State :=
  if !(s.ch n).composing || (s.ch n).composed || (s.ch n).drawn.isSome then s
  else match (s.ch n).cfgWork with
  | none => s
  | some c =>
    let s := chans.foldl (fun (s : State) x => match s.badLine n x with
      | some j =>
        let l := s.lay n x
        let s := s.portRead n.val l.plane0 ((s.linesOf n x false j).getLastD 0 * l.stride + 64)
        s.underrun n x ((s.dest n x).2.1 + j).toNat
      | none => s) s
    let s := (s.trajLoad n).drawFrame n c.cols c.rows c.fields (s.composedCount n)
    if s.windowHit n c.cols c.rows then s.wr (F.WRP_STATUS_WINDOW n) 1 else s

/-- An underrun that is found after the frame was drawn changes the rows still in the pipeline (R157, R168). -/
def underrunNow (s : State) (n x : Fin 4) (row : Nat) : State :=
  let was := (s.lay n x).under
  let s := s.underrun n x row
  if (s.ch n).drawn.isSome && (s.lay n x).under != was then
    match (s.ch n).cfgWork with
    | some c => s.drawFrame n c.cols c.rows c.fields (s.composedCount n)
    | none => s
  else s

/-- The end of composition line rows + 1 (R157): the frame is complete, held buffers are released. -/
def composeEnd (s : State) (n : Fin 4) : State :=
  if !(s.ch n).composing then s
  else
    let s := s.composeDraw n
    let s := match (s.ch n).drawn with
      | some d => s.publishFrame n d (s.composedCount n)
      | none => s
    let s := s.modCh n fun c => { c with composed := true }
    chans.foldl (fun s x => s.modLay n x fun l => { l with held := none }) s

/-! ### Access ports (R180, R184, R192, R215) -/

/-- A bank of an access-port RAM is in use: the composition stage or the frame in composition names it, or a pending value
does; for the timetable, also the streaming stage (R27, R180, R192, R215). -/
def bankNamed (s : State) (n : Fin 4) (f : Fld) (b : Nat) : Bool :=
  let at' := fun (bank : RegFile) => bits (sget regReset bank f.addr).toNat f.lo f.w == b
  s.rdC f == b || ((s.ch n).composing && (s.ch n).drawn.isNone && s.rdW n f == b) ||
  (f.addr == R.BPF_TT_CTRL n && (s.rdW n f == b || s.rdS f == b)) ||
  (s.on (F.LEC_COMMIT_STATUS_LATCHED n) && at' s.pend)

/-- A write through an access port to a bank is ignored: the channel runs and the bank is in use, or an armed commit names
it (R180). -/
def bankBusy (s : State) (n : Fin 4) (f : Fld) (b : Nat) : Bool :=
  s.on (F.LEC_STATUS_RUNNING n) && (s.bankNamed n f b || (s.on (F.LEC_COMMIT_STATUS_PENDING n) && s.rd f == b))

/-- A write of CMP_LUT_DATA (R180). -/
def lutWrite (s : State) (n : Fin 4) (v : Nat) : State :=
  let b := s.rd (F.CMP_LUT_ADDR_BANK n)
  let e := s.rd (F.CMP_LUT_ADDR_ENTRY n)
  let s := if s.bistOn 0 n || s.bankBusy n (F.CMP_CTRL_LUT_BANK n) b then s.report0108 (R.CMP_LUT_DATA n)
    else s.modCh n fun c => { c with lut := sset (fun _ => 0) c.lut (4096 * b + e) (v % 65536) }
  s.wr (F.CMP_LUT_ADDR_ENTRY n) (e + 1)

/-- A write of WRP_MESH_DATA (R184). -/
def meshWrite (s : State) (n : Fin 4) (v : Nat) : State :=
  let b := s.rd (F.WRP_MESH_ADDR_BANK n)
  let e := s.rd (F.WRP_MESH_ADDR_NODE n)
  let s := if s.bistOn 0 n || s.bankBusy n (F.WRP_CTRL_MESH_BANK n) b then s.report0108 (R.WRP_MESH_DATA n)
    else if e < 561 then s.modCh n fun c => { c with mesh := sset (fun _ => 0) c.mesh (1024 * b + e) v } else s
  s.wr (F.WRP_MESH_ADDR_NODE n) (e + 1)

/-- A write of a scaler coefficient word at an offset from 0x0_2400 (R192). -/
def coefWrite (s : State) (n : Fin 4) (o v : Nat) : State :=
  let a := sclBase n + 0x400 + o / 4 * 4
  if 0x1400 ≤ o then s
  else if s.bistOn 0 n || s.bankBusy n (F.SCL_CTRL_COEF_BANK n) (o / 0xA00) then s.report0108 a
  else s.put a (v % 1024)

/-- A write of a timetable word at an offset from 0x0_A400 (R215). -/
def ttWrite (s : State) (n : Fin 4) (o v : Nat) : State :=
  let a := bpfBase n + 0x400 + o / 4 * 4
  if 0xC00 ≤ o then s
  else if s.bistOn 0 n || s.bankBusy n (F.BPF_TT_CTRL_BANK n) (o / 0x600) then s.report0108 a
  else s.put a v

/-- A write into the fallback pattern SRAM; PATTERN_OK is evaluated again (R212, R214). -/
def sramWrite (s : State) (n : Fin 4) (o : Nat) (bs : List Byte) : State :=
  let s := s.modCh n fun c => { c with sram := ssets memReset c.sram o bs }
  s.patternCheck n (s.activeSize n)

end State

open Host (Outcome)

/-- COMPOSITION_COMPLETE (R157): the end of line rows + 1. -/
def execCompositionComplete (n : Chan) (s : State) : Outcome State Fault Refusal :=
  .next (if s.on (F.LEC_STATUS_RUNNING n) && !s.subStill n 2 then
    (let s := (s.composeEnd n).wr (F.LEC_STATUS_GUARD n) 0
     match (s.ch n).cfgComp with
     | some c => s.wr (F.LEC_LINE_LINE n) (c.rows + 2)
     | none => s)
    else s)

/-- LAYER_UNDERRUN (R168). -/
def execLayerUnderrun (n : Chan) (x : Fin 4) (row : Nat) (s : State) : Outcome State Fault Refusal :=
  .next (if s.subStill n 0 then s else (s.underrunNow n x row))

/-- LUT_PORT_WRITE (R180): a write of CMP_LUT_DATA. -/
def execLutPortWrite (n : Chan) (v : Word) (s : State) : Outcome State Fault Refusal := .next (if s.subHeld n 2 then s else (s.lutWrite n v.toNat))

/-- MESH_PORT_WRITE (R184): a write of WRP_MESH_DATA. -/
def execMeshPortWrite (n : Chan) (v : Word) (s : State) : Outcome State Fault Refusal := .next (if s.subHeld n 3 then s else (s.meshWrite n v.toNat))

/-- COEF_RAM_WRITE (R192): a write at an offset from 0x0_2400. -/
def execCoefRamWrite (n : Chan) (off : Nat) (v : Word) (s : State) : Outcome State Fault Refusal :=
  .next (if s.subHeld n 1 then s else (s.coefWrite n off v.toNat))

/-- TIMETABLE_RAM_WRITE (R215): a write at an offset from 0x0_A400. -/
def execTimetableRamWrite (n : Chan) (off : Nat) (v : Word) (s : State) : Outcome State Fault Refusal :=
  .next (if s.subHeld n 5 then s else (s.ttWrite n off v.toNat))

end Sys2Proof.Machine
end

