-- ==== Sys2Proof/Machine/Bpf.lean ====
section
/-! DEFINITION. The bit-plane formatter (chapter 09): field starts, block packets, reloads, scan lines, plane cache
replay; and the field times that the checks use. -/

namespace Sys2Proof.Machine

/-- Frame period in pipeline cycles (R155). -/
def cyclesOf (rate : Nat) (half : Bool) : Nat := roundDiv 60000000000 (max 1 rate) * (if half then 2 else 1)

/-- T_F in units of 10 ns (R195). -/
def fieldUnits (c : Cfg) : Nat := cyclesOf c.rate c.half / (6 * max 1 c.fields)

/-- G of R198 item 5, units: one percent of the frame period for a member of a group that follows a reference. -/
def guardUnits (c : Cfg) : Nat := if c.member && c.ref != 0 then ceilDiv (cyclesOf c.rate c.half) 600 else 0

/-- Link time t_line_x of one scan line of S samples, units (R208). -/
def lineX (samples lanes rate : Nat) : Nat := if lanes * rateMb rate = 0 then 0 else ceilDiv (18 * samples * 6600) (lanes * rateMb rate * 64)

/-- Replace bits of a plane's byte list by 0 where a mask holds: pixel i of the block is bit (i mod 8) of byte i / 8. -/
def maskBits (dark : Nat → Bool) : Nat → List Byte → List Byte
  | _, [] => []
  | i, b :: bs =>
    BitVec.ofNat 8 ((List.range 8).foldl (fun a k => if bit b.toNat k && !dark (8 * i + k) then a + 2 ^ k else a) 0) ::
      maskBits dark (i + 1) bs

namespace State

/-- Formatter state of a channel. -/
def bp (s : State) (n : Fin 4) : BpfRun := (s.ch n).bpf
/-- Change a channel's formatter state. -/
def modBpf (s : State) (n : Fin 4) (f : BpfRun → BpfRun) : State := s.modCh n fun c => { c with bpf := f c.bpf }

/-- Times of the streaming stage (R195, R196). -/
def strmTimes (s : State) (n : Fin 4) : TtTimes :=
  let (tf, g) := match (s.ch n).cfgStrm with | some c => (fieldUnits c, guardUnits c) | none => (0, 0)
  ⟨tf, g, s.rdS (F.BPF_BLK_CFG_BLOCKS n), s.rdS (F.BPF_BLK_CFG_T_MB n), s.rdS (F.BPF_BLK_CFG_T_SETTLE n),
   s.rdS (F.BPF_BLK_TIME_STAGE n), s.rdS (F.BPF_BLK_TIME_T_BLK n)⟩

/-- Start of every slot of field f in units from the field start, with its trimmed duration (R196, R199). -/
def slotTimes (s : State) (n : Fin 4) (f : Nat) : List (Nat × Nat × Slot) :=
  ((s.strmSlots n f).zipIdx.foldl (fun (acc : Nat × List (Nat × Nat × Slot)) p =>
    let x := p.1
    let d := if x.lit then trimmed x.dur (s.trimOf n f p.2) else x.dur
    (acc.1 + d + (if x.lit then s.rdS (F.BPF_BLK_CFG_T_SETTLE n) else 0), (acc.1, d, x) :: acc.2))
    (s.get (R.BPF_LEAD n), [])).2.reverse

/-- The slot in progress t units after the field start, if any. -/
def slotAt (s : State) (n : Fin 4) (f t : Nat) : Option Nat :=
  (s.slotTimes n f).zipIdx.foldl (fun o p =>
    if p.1.1 ≤ t ∧ t < p.1.1 + p.1.2.1 + (if p.1.2.2.lit then s.rdS (F.BPF_BLK_CFG_T_SETTLE n) else 0) then some p.2 else o) none

/-- Lit slots of the frame whose reset has passed: those of the fields before, and those of field f reset by t. -/
def resetsPassed (s : State) (n : Fin 4) (f t : Nat) : Nat :=
  s.litBefore n f + ((s.slotTimes n f).filter fun p => p.2.2.lit && decide (p.1 ≤ t)).length

/-- Units of the field in progress that have passed, as the link time shows them. -/
def fieldTime (s : State) (n : Fin 4) : Nat := (s.rd (F.LNK_LT_LT n) + 2 ^ 32 - (s.ch n).fieldLt) % 2 ^ 32

/-- Resets of the frame that have passed now. -/
def resetsNow (s : State) (n : Fin 4) : Nat := s.resetsPassed n (s.rd (F.BPF_STATUS_FIELD n)) (s.fieldTime n)

/-- BPF_STATUS.SLOT follows the link time (R215). -/
def slotTick (s : State) (n : Fin 4) : State :=
  if s.rd (F.BPF_STATUS_STATE n) = 0 then s
  else
    match s.slotAt n (s.rd (F.BPF_STATUS_FIELD n)) (s.fieldTime n) with
    | some j => s.wr (F.BPF_STATUS_SLOT n) j
    | none => s

/-! ### Packets -/

/-- DRAM address of the frame buffer being streamed (R193). -/
def strmFb (s : State) (n : Fin 4) : Nat := s.rdS (F.BPF_FBk_ADDR n (b2n (s.ch n).fbuf)) * 4096

/-- Bytes of a block, and the DRAM address of block b of plane p of field f (R193, R194). -/
def blockLen (s : State) (n : Fin 4) : Nat := (s.array n).1 * (s.array n).2 / 8 / max 1 (s.rdS (F.BPF_BLK_CFG_BLOCKS n))
def blockAddr (s : State) (n : Fin 4) (f p b : Nat) : Nat :=
  s.strmFb n + (16 * f + p) * ((s.array n).1 * (s.array n).2 / 8) + s.blockLen n * b

/-- A block that BPF reads from DRAM lies outside it, or is delivered poisoned (R358, R367). -/
def blockBad (s : State) (n : Fin 4) (f p b : Nat) : Bool := !(s.bp n).pattern && s.badRead (s.blockAddr n f p b) (s.blockLen n)

/-- Bytes of block b of plane p of field f before the hard masks (R193, R194, R213). -/
def planeBlock (s : State) (n : Fin 4) (f p b : Nat) : List Byte :=
  let cols := (s.array n).1
  let len := s.blockLen n
  if (s.bp n).pattern then
    (let pat := s.sramBytes n
     (List.range len).map fun i => BitVec.ofNat 8 ((List.range 8).foldl (fun a k =>
       let px := 8 * (len * b + i) + k
       if bit (fallbackAt pat (px % max 1 cols) (px / max 1 cols) * 257) p then a + 2 ^ k else a) 0))
  else s.dread (s.blockAddr n f p b) len

/-- BLOCK payload (R265): flags 1 CACHE, 2 REPLAY, 4 RELOAD. -/
def blockPayload (s : State) (n : Fin 4) (lit f p b flags : Nat) : List Byte :=
  let (cols, _) := s.array n
  let bits := s.planeBlock n f p b
  let first := 8 * bits.length * b
  leBytes 1 lit ++ leBytes 1 b ++ leBytes 1 (p % 16 + 16 * f) ++ leBytes 1 flags ++
    maskBits (fun i => s.hardDark n ((first + i) % max 1 cols) ((first + i) / max 1 cols)) 0 bits

/-- The lit slots of the frame in order: field and slot (R202). -/
def litSlots (s : State) (n : Fin 4) : List (Nat × Slot) :=
  ((List.range (s.strmFields n)).map fun f => ((s.strmSlots n f).filter Slot.lit).map fun x => (f, x)).flatten

/-- FIELD_HEADER payload (R265). -/
def headerPayload (s : State) (n : Fin 4) (f : Nat) (dark : Bool) : List Byte :=
  let ts := if dark then [] else s.slotTimes n f
  leBytes 4 (s.get (R.LEC_FRAME_COUNT n)) ++ leBytes 1 f ++ leBytes 1 ts.length ++
    leBytes 1 (b2n dark + 2 * b2n (s.bp n).pattern) ++ [0] ++ leBytes 4 (s.ch n).fieldLt ++
    (ts.map fun q => leBytes 3 q.1 ++ leBytes 2 q.2.2.head ++ leBytes 3 q.2.1).flatten

/-- ARRAY_PARAMS payload (R265). -/
def arrayParams (s : State) (n : Fin 4) : List Byte :=
  let (cols, rows) := s.array n
  let per := match (s.ch n).cfgStrm with | some c => cyclesOf c.rate c.half / 6 | none => 0
  leBytes 2 cols ++ leBytes 2 rows ++ leBytes 1 (s.rdS (F.BPF_BLK_CFG_BLOCKS n)) ++ leBytes 1 (s.strmFields n) ++
    leBytes 1 (s.rdS (F.BPF_CTRL_MODE n)) ++ [0] ++ leBytes 4 (s.get (R.BPF_FIELD_T n)) ++ leBytes 4 per ++
    leBytes 2 (s.rdS (F.WRP_TRAJ_CFG_L n)) ++ leBytes 2 (s.rdS (F.WRP_TRAJ_CFG_S n)) ++
    leBytes 4 (s.rdS (F.BPF_SCAN_CFG_LINE_T n)) ++ leBytes 4 (s.get (R.BPF_LEAD n)) ++ [0, 0, 0, 0]

/-- Pixel of a scan sample: the position the frame's own trajectory table gives it, rounded to the nearest pixel, ties up
(R26, R235); a frame that was not composed, a pattern, takes the table in DRAM. -/
def scanPixel (s : State) (n : Fin 4) (x k : Nat) : Nat × Nat :=
  let len := s.rdS (F.WRP_TRAJ_CFG_S n)
  let own := (s.ch n).trajStrm
  let k4 := 4 * len * s.rdS (F.WRP_TRAJ_CFG_L n)
  let tab := if own.length = k4 then own else s.dread (s.rdS (F.WRP_TRAJ_BASE_ADDR n) * 4096 + 16) k4
  trajPixel (trajAt tab len k x)

/-- SCAN_LINE payload of line k of field f (R208, R209, R235). -/
def linePayload (s : State) (n : Fin 4) (f k : Nat) : List Byte :=
  let len := s.rdS (F.WRP_TRAJ_CFG_S n)
  let lines := s.rdS (F.WRP_TRAJ_CFG_L n)
  let pat := s.sramBytes n
  let vals := (List.range len).map fun x =>
    let (px, py) := s.scanPixel n x k
    if s.hardDark n px py then 0
    else if (s.bp n).pattern then fallbackAt pat x k * 257
    else leNat (s.dread (s.strmFb n + 2 * (lines * len * f + len * k + x)) 2)
  leBytes 2 k ++ leBytes 1 f ++ [0] ++ (vals.map fun v => leBytes 2 v).flatten

/-! ### Trims (R199, R319) -/

/-- The trim set of field f is latched at its start: 0 for slots at level 7, DARK slots and absent slots. -/
def latchTrims (s : State) (n : Fin 4) (f : Nat) : State :=
  let xs := s.strmSlots n f
  let t := fun j => match xs[j]? with
    | some x => if x.lit && decide (x.level < 7) then unsigned (sget (fun _ => (0 : Int)) (s.tu n).trim (64 * f + j)) 16 else 0
    | none => 0
  (List.range 32).foldl (fun s i => s.put (R.BPF_TRIM n (32 * f + i)) (t (2 * i) + 65536 * t (2 * i + 1))) s

/-- The line-phase shift of a field in units, and whether it was limited (R319). -/
def lineShift (s : State) (n : Fin 4) (f : Nat) : Int × Bool :=
  let t := sget (fun _ => (0 : Int)) (s.tu n).line f
  let lt : Int := s.rdS (F.BPF_SCAN_CFG_LINE_T n)
  let c := clampI (-1966) 1966 t
  let raw := roundAway (lt * c) 32768
  let x : Int := lineX (s.rdS (F.WRP_TRAJ_CFG_S n)) (s.rd (F.LNK_MODE_LANES n)) (s.rd (F.LNK_MODE_RATE n))
  let q := s.strmTimes n
  let lines : Int := s.rdS (F.WRP_TRAJ_CFG_L n)
  let v := clampI (-x) ((q.tf : Int) - q.guard - 2 * x - lines * lt) raw
  (v, decide (v ≠ raw))

/-! ### Field starts (R195, R201, R202) -/

/-- Must the field that starts now be dark (R161, R24, R252, R254, R274–R276, R442)? -/
def darkField (s : State) (n : Fin 4) (f : Nat) : Bool :=
  let c := s.ch n
  !s.linkUp n || c.join || c.link.unlit || c.link.retabled || c.src.parkSet || (c.bpf.pattern && !s.on (F.CMP_STATUS_PATTERN_OK n)) ||
  (f == 0 && (c.dark || c.src.parkDark))

/-- The state BPF_STATUS reports for a field. -/
def bpfState (s : State) (n : Fin 4) (dark : Bool) : Nat :=
  if dark then 2 else if (s.bp n).pattern then 5 else if s.onS (F.BPF_CTRL_MODE n) then 6
  else if (s.bp n).replay = 3 then 4 else if (s.bp n).replay = 1 ∨ (s.bp n).replay = 2 then 3 else 1

/-- The slot that a field start t units after the start of field f truncates: the first that has not ended by then. -/
def cutSlot (s : State) (n : Fin 4) (f t : Nat) : Option Nat :=
  (s.slotTimes n f).findIdx? fun p => decide (t < p.1 + p.2.1 + (if p.2.2.lit then s.rdS (F.BPF_BLK_CFG_T_SETTLE n) else 0))

/-- The time from the start of the last field to the frame start that follows it: T_F, or as the link time shows it where an
accepted reference edge, at most one per cent of the frame early, gives that start (R25, R201). -/
def lastField (s : State) (n : Fin 4) (edge : Bool) : Nat :=
  let tf := s.get (R.BPF_FIELD_T n)
  let per := match (s.ch n).cfgStrm with | some c => cyclesOf c.rate c.half | none => 0
  if edge then max (tf - ceilDiv per 600) (min (s.fieldTime n) tf) else tf

/-- A field start t units after that of the previous field truncates it if slots of it remain (R201). -/
def truncated (s : State) (n : Fin 4) (t : Nat) : State :=
  let g := s.rd (F.BPF_STATUS_FIELD n)
  if s.rd (F.BPF_STATUS_STATE n) = 0 ∨ (s.ch n).fieldDark ∨ s.onS (F.BPF_CTRL_MODE n) then s
  else match s.cutSlot n g t with
    | some j => (s.incSat (F.BPF_LATE_CNT_TRUNC n)).blockEvent (bpfBase n) (0x1031 + 256 * n.val) 2 j g
    | none => s

/-- What a retrain left for field S (R277): t_lead of the new mode, and trims of zero where preset durations changed. -/
def fieldRetimed (s : State) (n : Fin 4) : State :=
  let s := s.put (R.BPF_LEAD n) ((s.strmTimes n).lead % 2 ^ 24)
  if (s.ch n).link.newTrim then (s.modTut n fun u => { u with trim := [] }).modLink n fun l => { l with newTrim := false } else s

/-- A node reset is over once the node has acknowledged the tables and the hard entries sent again (R275). -/
def nodeReady (s : State) (n : Fin 4) : State :=
  let l := (s.ch n).link
  if l.retabled && l.oweTabs == 0 && l.oweMasks.isEmpty then s.modLink n fun l => { l with retabled := false } else s

/-- A field start (R195).  Planes of a field before it are no longer sent (R161); the dark field of a geometry change sends
the hard entries again (R231). -/
def fieldStart (s : State) (n : Fin 4) : State :=
  let f := (s.bp n).nextField
  if !s.on (F.LEC_STATUS_RUNNING n) || decide (s.strmFields n ≤ f) then s
  else
    let s := if f = 0 then s else s.truncated n (s.get (R.BPF_FIELD_T n))
    let lt := s.rd (F.LNK_LT_LT n)
    let s := ((s.litKeep n).fieldRetimed n).nodeReady n
    let skip := s.litBefore n f
    let s := s.modBpf n fun b => { b with nextField := f + 1, line := 0, lit := max b.lit skip, blk := if b.lit < skip then 0 else b.blk }
    let s := (s.wr (F.BPF_STATUS_FIELD n) f).wr (F.BPF_STATUS_SLOT n) 0
    let s := s.latchTrims n f
    let dark := s.darkField n f
    let s := s.modCh n fun c => { c with fieldDark := dark, fieldLt := lt, src := { c.src with parkDark := c.src.parkDark && f != 0 } }
    let s := s.tgenRaise n
    let s : State :=
      if s.streams n then
        let s := s.wr (F.BPF_STATUS_STATE n) (s.bpfState n dark)
        if !s.linkUp n then s
        else
          let s := s.send n 1 (s.headerPayload n f dark)
          if dark then
            let s := s.send n 5 (s.arrayParams n)
            if f = 0 ∧ (s.ch n).dark = true ∧ (s.ch n).darkGeo = true then s.maskResend n else s
          else if s.onS (F.BPF_CTRL_MODE n) then
            let s := if (s.lineShift n f).2 then s.incSat (F.BPF_TRIM_STATUS_CLAMPED n) else s
            (s.send n 7 (s.linePayload n f 0)).modBpf n fun b => { b with line := 1 }
          else s
      else s.wr (F.BPF_STATUS_STATE n) 0
    s.lampUpdate n

/-! ### Blocks (R202, R203, R232) -/

/-- Planes cross the link: the field streams planes, from DRAM or the pattern. -/
def loading (s : State) (n : Fin 4) : Bool :=
  let st := s.rd (F.BPF_STATUS_STATE n)
  s.linkUp n && (st == 1 || st == 3 || st == 5)

/-- The reload requests of MSK become the blocks due: every block holding a row of the old entry that was formed while it was
live, of each plane not yet reset; during replay, of every cached plane (R232, R234). -/
def expandReloads (s : State) (n : Fin 4) : State :=
  let (_, rows) := s.array n
  let blocks := max 1 (s.rdS (F.BPF_BLK_CFG_BLOCKS n))
  let per := max 1 (rows / blocks)
  let cached := s.rd (F.BPF_STATUS_STATE n) = 4
  let formed := 64 * (s.bp n).lit + (s.bp n).blk
  let gone := s.resetsNow n
  let want := fun (since m b : Nat) => cached || decide (gone ≤ m ∧ since ≤ 64 * m + b ∧ 64 * m + b < formed)
  let due := ((s.ch n).mask.reload.map fun r =>
    ((List.range (s.litSlots n).length).map fun m =>
      ((List.range blocks).filter fun b => decide (r.1 / per ≤ b ∧ b ≤ r.2.1 / per) && want r.2.2 m b).map fun b => (m, b)).flatten).flatten
  (s.modMask n fun m => { m with reload := [] }).modBpf n fun b => { b with reloads := b.reloads ++ due.filter fun x => !b.reloads.contains x }

/-- A block is abandoned: LATE and event 0x1n30 (R203). -/
def blockLost (s : State) (n : Fin 4) (m b : Nat) : State :=
  (s.incSat (F.BPF_LATE_CNT_LATE n)).blockEvent (bpfBase n) (0x1030 + 256 * n.val) 3 m b

/-- Send block b of lit slot m, plane p of field f; one that cannot be read is abandoned (R202, R367). -/
def sendBlock (s : State) (n : Fin 4) (m f p b flags : Nat) : State :=
  if s.blockBad n f p b then (s.portRead (4 + n.val) (s.blockAddr n f p b) (s.blockLen n)).blockLost n m b
  else s.send n 2 (s.blockPayload n m f p b flags)

/-- Send one reload packet (R232). -/
def sendReload (s : State) (n : Fin 4) (m b : Nat) : State :=
  match (s.litSlots n)[m]? with
  | some (f, x) => (s.sendBlock n m f x.plane b 4).incSat (F.MSK_CNT_RELOADS n)
  | none => s

/-- Send up to k reloads; those that cannot be complete by the reset of their slot less B × t_mb are abandoned, except into
the cache (R232). -/
def sendReloads (s : State) (n : Fin 4) (k : Nat) : State :=
  let write := s.rdS (F.BPF_BLK_CFG_BLOCKS n) * s.rdS (F.BPF_BLK_CFG_T_MB n)
  let gone := if s.rd (F.BPF_STATUS_STATE n) = 4 then 0 else s.resetsPassed n (s.rd (F.BPF_STATUS_FIELD n)) (s.fieldTime n + write)
  let due := (s.bp n).reloads.filter fun r => decide (gone ≤ r.1)
  let s := (due.take k).foldl (fun s r => s.sendReload n r.1 r.2) s
  let s := s.modBpf n fun b => { b with reloads := due.drop k }
  s.wrB (F.MSK_STATUS_RELOADING n) (decide (k < due.length))

/-- Is this the frame's first transfer of a plane of a field? -/
def firstTransfer (s : State) (n : Fin 4) (m : Nat) : Bool :=
  match (s.litSlots n)[m]? with
  | some (f, x) => ((s.litSlots n).take m).all fun q => !(q.1 == f && q.2.plane == x.plane)
  | none => false

/-- Reloads go where no regular block is pending; a stopped or dark field takes none. -/
def idleReloads (s : State) (n : Fin 4) : State :=
  if s.loading n || (s.linkUp n && s.rd (F.BPF_STATUS_STATE n) == 4) then s.sendReloads n (s.bp n).reloads.length else s

/-- BPF sends the plane due next, with reloads and replays in the share of one block in nine, or the reloads when none is due
(R202, R232). -/
def blockSend (s : State) (n : Fin 4) : State :=
  let s := s.expandReloads n
  let m := (s.bp n).lit
  match (s.litSlots n)[m]? with
  | some (f, x) =>
    if s.loading n && decide (m < s.resetsNow n + s.rdS (F.BPF_BLK_TIME_STAGE n)) then
      let blocks := s.rdS (F.BPF_BLK_CFG_BLOCKS n)
      let todo := (List.range blocks).drop (s.bp n).blk
      let flags := if (s.bp n).replay = 1 ∧ s.firstTransfer n m then 1 else 0
      let s := todo.foldl (fun s b => s.sendBlock n m f x.plane b flags) s
      let share := todo.length / 8
      let used := (s.bp n).replays
      let s := s.modBpf n fun b => { b with lit := m + 1, blk := 0, replays := used - share }
      s.sendReloads n (share - used)
    else s.idleReloads n
  | none => s.idleReloads n

/-- A block that was not sent by its deadline is abandoned (R203); it must be the block due next. -/
def blockMiss (s : State) (n : Fin 4) (m b : Nat) : State :=
  let blocks := s.rdS (F.BPF_BLK_CFG_BLOCKS n)
  if s.loading n && (s.bp n).lit == m && (s.bp n).blk == b && decide (b < blocks) && (s.litSlots n)[m]?.isSome then
    let s := s.modBpf n fun q => if b + 1 = blocks then { q with lit := m + 1, blk := 0 } else { q with blk := b + 1 }
    s.blockLost n m b
  else s

/-- The samples of a line lie outside DRAM, or are delivered poisoned (R358, R367). -/
def lineBad (s : State) (n : Fin 4) (f k : Nat) : Bool :=
  let len := s.rdS (F.WRP_TRAJ_CFG_S n)
  !(s.bp n).pattern && s.badRead (s.strmFb n + 2 * (s.rdS (F.WRP_TRAJ_CFG_L n) * len * f + len * k)) (2 * len)

/-- A line start: the next scan line has been sent completely, or is abandoned, as one is that cannot be read (R209, R367). -/
def scanLine (s : State) (n : Fin 4) (complete : Bool) : State :=
  let k := (s.bp n).line
  let f := s.rd (F.BPF_STATUS_FIELD n)
  if s.rd (F.BPF_STATUS_STATE n) = 6 ∧ s.linkUp n ∧ k < s.rdS (F.WRP_TRAJ_CFG_L n) then
    let s := s.modBpf n fun b => { b with line := k + 1 }
    if complete && !s.lineBad n f k then s.send n 7 (s.linePayload n f k)
    else s.blockEvent (bpfBase n) (0x1032 + 256 * n.val) 3 k f
  else s

/-! ### Plane cache replay (R210, R211) -/

/-- The node's plane cache holds the whole frame (R210). -/
def cacheFits (s : State) (n : Fin 4) : Bool :=
  let (cols, rows) := s.array n
  decide (2 * s.strmFields n * cols * rows ≤ s.nodeCacheKB n * 1024)

/-- Device LT of the next frame start. -/
def nextFrameLt (s : State) (n : Fin 4) : Nat :=
  ((s.ch n).fieldLt + (s.strmFields n - s.rd (F.BPF_STATUS_FIELD n)) * s.get (R.BPF_FIELD_T n)) % 2 ^ 32

/-- Replay ends at the next frame start for a cause (R211). -/
def replayStop (s : State) (n : Fin 4) (cause : Nat) : State :=
  if 2 ≤ (s.bp n).replay ∧ (s.bp n).replayEnd = 0 then
    (s.send n 6 ([2, 0, 0, 0] ++ leBytes 4 (s.nextFrameLt n))).modBpf n fun b => { b with replayEnd := cause }
  else s

/-- CACHE_ACK: a plane of a field is in the cache; when all are, the replay command is sent (R210). -/
def cacheAck (s : State) (n : Fin 4) (f p : Nat) : State :=
  if (s.bp n).replay = 1 ∧ f < s.strmFields n ∧ p < 16 then
    let s := s.modBpf n fun b => { b with acks := sset (fun _ => false) b.acks (16 * f + p) true }
    if (s.bp n).acks.length = 16 * s.strmFields n then
      (s.send n 6 ([1, 0, 0, 0] ++ leBytes 4 (s.nextFrameLt n))).modBpf n fun b => { b with replay := 2 }
    else s
  else s

/-- Replay or the cache fill ends now for a cause (R211); a node in replay that has no STOP yet is sent one. -/
def replayQuit (s : State) (n : Fin 4) (cause : Nat) : State :=
  let r := (s.bp n).replay
  let s := (s.replayStop n cause).modBpf n fun b => { b with replay := 0, replayEnd := 0, acks := [] }
  let s := if s.linkState n == 4 then s.wr (F.LNK_STATUS_STATE n) 3 else s
  if r = 3 then s.logEvent (0x1033 + 256 * n.val) 1 0 cause else s

/-- In STATIC firmware sets REPLAY_EN in every bank by the size of the node's plane cache (R210, log entry 123). -/
def replayEnable (s : State) (n : Fin 4) : State :=
  if s.modeOf n ≠ modeSTATIC ∨ ¬ s.fwRuns then s
  else
    let f := F.BPF_CTRL_REPLAY_EN n
    let w := b2n (s.cacheFits n)
    let into := fun (b : RegFile) => sset regReset b f.addr (BitVec.ofNat 32 (setBits (sget regReset b f.addr).toNat f.lo f.w w))
    let s := ((((s.setRegs (into s.regs)).setPend (into s.pend)).setComp (into s.comp)).setStrm (into s.strm))
    s.modCh n fun c => { c with work := into c.work }

/-- The replay part of a frame start; `fresh` marks the first period of a held frame. -/
def replayFrame (s : State) (n : Fin 4) (fresh : Bool) : State :=
  let r := (s.bp n).replay
  let cause := if (s.bp n).replayEnd ≠ 0 then (s.bp n).replayEnd else if s.modeOf n ≠ modeSTATIC then 2 else if fresh then 1 else 0
  let s := s.replayEnable n
  let s : State := if r ≠ 0 ∧ cause ≠ 0 then s.replayQuit n cause
    else if r = 2 then
      let s := s.modBpf n fun b => { b with replay := 3 }
      if s.linkState n == 3 then s.wr (F.LNK_STATUS_STATE n) 4 else s
    else s
  if (s.bp n).replay = 0 ∧ s.modeOf n = modeSTATIC ∧ (s.ch n).held ∧ s.onS (F.BPF_CTRL_REPLAY_EN n) ∧ s.cacheFits n then
    s.modBpf n fun b => { b with replay := 1, acks := [] }
  else s

/-- The formatter at a frame start: field times, the pattern sample, the first lit slot (R195, R196, R202, R213). -/
def bpfFrame (s : State) (n : Fin 4) (fresh : Bool) : State :=
  let t := s.strmTimes n
  let s := (s.put (R.BPF_LEAD n) (t.lead % 2 ^ 24)).put (R.BPF_FIELD_T n) (t.tf % 2 ^ 24)
  let s := s.replayFrame n fresh
  let keep := (s.bp n).replay = 3
  let s := s.modBpf n fun b => { b with nextField := 0, lit := 0, blk := 0, replays := 0, reloads := if keep then b.reloads else [],
                                        pattern := s.on (F.BPF_SRCSEL_PATTERN n) }
  let s := s.modMask n fun m => { m with since := [] }
  if keep then s else (s.modMask n fun m => { m with reload := [] }).wr (F.MSK_STATUS_RELOADING n) 0

end State

open Host (Outcome)

/-- FIELD_START (R195, R202). -/
def execFieldStart (n : Chan) (s : State) : Outcome State Fault Refusal :=
  .next (if s.subStill n 5 then s else s.fieldStart n)

/-- BLOCK_PACKET_SEND (R202, R232). -/
def execBlockPacketSend (n : Chan) (s : State) : Outcome State Fault Refusal :=
  .next (if s.subStill n 5 then s else s.blockSend n)

/-- BLOCK_DEADLINE_MISS (R203). -/
def execBlockDeadlineMiss (n : Chan) (slot blk : Nat) (s : State) : Outcome State Fault Refusal :=
  .next (if s.subStill n 5 then s else (s.blockMiss n slot blk))

/-- SCAN_LINE_START (R209). -/
def execScanLineStart (n : Chan) (complete : Bool) (s : State) : Outcome State Fault Refusal :=
  .next (if s.subStill n 5 then s else s.scanLine n complete)

/-- CONTROL_SLOT (R241, R262). -/
def execControlSlot (n : Chan) (s : State) : Outcome State Fault Refusal :=
  .next (if s.subStill n 7 then s else (s.controlSlot n).slotTick n)

end Sys2Proof.Machine
end

