-- ==== Sys2Proof/Machine/Checks.lean ====
section
/-! DEFINITION. The checks that firmware applies to a configuration before it commits it (R31, R38, R54), and the field
lists, demand and limits they use. -/

namespace Sys2Proof.Machine

/-- Rejection reasons of R31. -/
def rjLINEBUF : Nat := 1
def rjBANDWIDTH : Nat := 2
def rjGEOMETRY : Nat := 3
def rjFORMAT : Nat := 4
def rjTIMETABLE : Nat := 5
def rjPARTNER : Nat := 6
def rjMODE : Nat := 7

/-- What the stage holds where nothing was staged or stored: the operational defaults of R441, else the reset value. -/
def stageDefault (a : Nat) : Word :=
  if chans.any fun n => a = R.WBK_CTRL n then 1
  else if chans.any fun n => decide (R.SRC_SPs n 0 ≤ a ∧ a ≤ R.SRC_SPs n 3) then 0x8000
  else if chans.any fun n => decide (R.SRC_SPLIMs n 0 ≤ a ∧ a ≤ R.SRC_SPLIMs n 3) then 0xFFFF0000
  else regReset a

namespace Stage

/-- A staged register, and a field of it. -/
def reg (m : Stage) (a : Nat) : Nat := (sget stageDefault m.regs a).toNat
def fld (m : Stage) (f : Fld) : Nat := bits (m.reg f.addr) f.lo f.w
/-- Stage a field. -/
def setFld (m : Stage) (f : Fld) (v : Nat) : Stage :=
  { m with regs := sset stageDefault m.regs f.addr (BitVec.ofNat 32 (setBits (m.reg f.addr) f.lo f.w v)) }
/-- Stage a whole register. -/
def setReg (m : Stage) (a v : Nat) : Stage := { m with regs := sset stageDefault m.regs a (BitVec.ofNat 32 v) }

/-- SET_TIMING of a channel has been staged or committed. -/
def timed (m : Stage) (n : Fin 4) : Bool := !(m.timing.get n).isEmpty
/-- Fields of SET_TIMING (R121). -/
def fields (m : Stage) (n : Fin 4) : Nat := byteAt (m.timing.get n) 1
def tt (m : Stage) (n : Fin 4) : Nat := byteAt (m.timing.get n) 2
def cols (m : Stage) (n : Fin 4) : Nat := le16 (m.timing.get n) 4
def rows (m : Stage) (n : Fin 4) : Nat := le16 (m.timing.get n) 6
def rate (m : Stage) (n : Fin 4) : Nat := le16 (m.timing.get n) 8
def member (m : Stage) (n : Fin 4) : Bool := bit (byteAt (m.timing.get n) 10) 0
def leader (m : Stage) (n : Fin 4) : Bool := bit (byteAt (m.timing.get n) 10) 1
/-- REF of the frame-lock group: read from the leader only (R121). -/
def ref (m : Stage) : Nat :=
  match chans.find? fun n => m.leader n with
  | some n => bits (byteAt (m.timing.get n) 10) 2 2
  | none => 0

/-- SET_LAYER of a layer (R122). -/
def lay (m : Stage) (n x : Fin 4) : List Byte := (m.layers.get n).get x
def layOn (m : Stage) (n x : Fin 4) : Bool := bit (byteAt (m.lay n x) 2) 0
def layFresh (m : Stage) (n x : Fin 4) : Bool := bit (byteAt (m.lay n x) 2) 1
def layGang (m : Stage) (n x : Fin 4) : Bool := bit (byteAt (m.lay n x) 2) 2
def laySrc (m : Stage) (n x : Fin 4) : Nat := byteAt (m.lay n x) 3
def layId (m : Stage) (n x : Fin 4) : Nat := le16 (m.lay n x) 4
def layFmt (m : Stage) (n x : Fin 4) : Nat := byteAt (m.lay n x) 6
/-- Word i of bytes 8–27: source size, crop, destination. -/
def layW (m : Stage) (n x : Fin 4) (i : Nat) : Nat := le16 (m.lay n x) (8 + 2 * i)
def layZ (m : Stage) (n x : Fin 4) : Nat := byteAt (m.lay n x) 28
def layAlpha (m : Stage) (n x : Fin 4) : Nat := byteAt (m.lay n x) 29
def layMat (m : Stage) (n x : Fin 4) : Nat := le16 (m.lay n x) 30
/-- The enabled layers of a channel. -/
def layersOn (m : Stage) (n : Fin 4) : List (Fin 4) := chans.filter fun x => m.layOn n x

/-- The unit of another configuration for the channels of a mask, and for the chains (R31). -/
def merge (a b : Stage) (mask : Nat) (chains : Bool) : Stage :=
  let pick := fun {α : Type} (f : Stage → Four α) =>
    chans.foldl (fun (q : Four α) n => if bit mask n.val then q.set n ((f b).get n) else q) (f a)
  let inCh := fun (k : Nat) => chans.any fun n => bit mask n.val && decide (lecBase n ≤ k ∧ k < lecBase n + 0x40000) &&
    !decide (chnBase n ≤ k ∧ k < chnBase n + 0x4000)
  let inChn := fun (k : Nat) => chains && chans.any fun n => decide (chnBase n ≤ k ∧ k < chnBase n + 0x4000)
  let mine := fun (k : Nat) => inCh k || inChn k
  let regs := (b.regs.filter fun p => mine p.1).foldr (fun p r => sset stageDefault r p.1 p.2) (skeep (fun k => !mine k) a.regs)
  { regs := regs, timing := pick timing, layers := pick layers, lut := pick lut, omat := pick omat, srcEn := pick srcEn,
    anim := if chains then b.anim else a.anim, groups := if chains then b.groups else a.groups,
    garm := if chains then b.garm else a.garm, gprobe := if chains then b.gprobe else a.gprobe,
    window := if chains then b.window else a.window, beams := a.beams }

/-- Do two configurations agree on a channel but for its sources and its chain (R38)? -/
def sameButSource (a b : Stage) (n : Fin 4) : Bool :=
  let keep := fun (k : Nat) => decide (lecBase n ≤ k ∧ k < lecBase n + 0x40000) &&
    !decide (chnBase n ≤ k ∧ k < chnBase n + 0x4000) && !decide (srcBase n ≤ k ∧ k < srcBase n + 0x2000)
  a.timing.get n == b.timing.get n && a.layers.get n == b.layers.get n && a.lut.get n == b.lut.get n &&
  a.omat.get n == b.omat.get n && skeep keep a.regs == skeep keep b.regs

end Stage

/-- The effect of a LIMP profile on a configuration (R53). -/
structure Profile where
  half : Bool
  d1 : Bool
  none : Bool                      -- D3: nothing is counted
  speed : Nat                      -- DRAM speed code
  deriving DecidableEq, Repr

/-- The budget limit in MB/s of a DRAM speed code (R173). -/
def budget (speed : Nat) : Nat := match speed with | 3 => 40960 | 2 => 30720 | 1 => 20480 | _ => 0

/-- Slots of a TIMETABLE_LOAD field list (R143): k fields from byte o. -/
def ttParse (b : List Byte) : Nat → Nat → List (List Slot) × Nat
  | 0, o => ([], o)
  | k + 1, o =>
    let c := byteAt b o
    let f := (List.range c).map fun j =>
      let e := o + 4 + 8 * j
      (⟨byteAt b e, bits (byteAt b (e + 1)) 0 3, bits (byteAt b (e + 1)) 4 4, le32 b (e + 4)⟩ : Slot)
    let r := ttParse b k (o + 4 + 8 * c)
    (f :: r.1, r.2)

namespace State

/-- The profile in force for the current mode and SYS_MODE.PROFILE. -/
def profileOf (s : State) (mode prof : Nat) : Profile :=
  if mode = modeLIMP ∧ prof = 1 then ⟨false, true, false, 2⟩
  else if mode = modeLIMP ∧ prof = 2 then ⟨true, false, false, 1⟩
  else if mode = modeLIMP ∧ prof = 3 then ⟨false, false, true, 0⟩
  else ⟨false, false, false, s.fw.speed⟩

/-- The mode of a link that the checks use: (lanes, rate) (R198). -/
def linkMode (s : State) (n : Fin 4) : Nat × Nat :=
  if s.linkUp n then (s.rd (F.LNK_MODE_LANES n), s.rd (F.LNK_MODE_RATE n))
  else (s.rd (F.LNK_LIMIT_LANES n), s.rd (F.LNK_LIMIT_RATE n))

/-- A node is known (R198). -/
def hasNode (s : State) (n : Fin 4) : Bool := (s.ch n).link.capOk

/-- STAGE of a node for an array (R194). -/
def stageOf (s : State) (n : Fin 4) (cols rows : Nat) : Nat := s.nodeCacheKB n * 1024 / max 1 (cols * rows / 8)

/-- G of a channel of a configuration (R198 item 5). -/
def guardOf (m : Stage) (n : Fin 4) (p : Profile) : Nat :=
  if m.member n && m.ref != 0 then ceilDiv (cyclesOf (m.rate n) p.half) 600 else 0

/-- The times of a channel's configuration at a link mode (R195, R196). -/
def checkTimes (s : State) (m : Stage) (n : Fin 4) (p : Profile) (mode : Nat × Nat) : TtTimes :=
  let b := s.nodeBlocks n
  ⟨cyclesOf (m.rate n) p.half / (6 * max 1 (m.fields n)), guardOf m n p, b, s.nodeTmb n, s.nodeSettle n,
   s.stageOf n (m.cols n) (m.rows n), blockUnits (m.cols n) (m.rows n) b mode.1 mode.2⟩

/-- Preset of a timetable identifier: (preset, fields) (R121). -/
def presetOf (id : Nat) : Option (Nat × Nat) :=
  if 1 ≤ id ∧ id ≤ 5 then some (id - 1, 1) else if id = 0x11 then some (0, 3) else if id = 0x13 then some (2, 3) else none

/-- The fields of a channel's timetable, or none if its identifier does not fit (R121, R205–R207). -/
def ttFields (s : State) (m : Stage) (n : Fin 4) (p : Profile) (mode : Nat × Nat) : Option (List (List Slot)) :=
  match presetOf (m.tt n) with
  | some (k, f) =>
    if f = m.fields n then
      (let t := s.checkTimes m n p mode
       some ((List.range f).map fun i =>
         presetField t (splitsOf k p.d1) (if i + 1 = f then t.guard else 0) (if f = 1 then s.nodeSources n else 2 ^ i)))
    else none
  | none =>
    let b := sget (fun _ => []) s.fw.tables (16 * n.val + m.tt n % 16)
    if 0x80 ≤ m.tt n ∧ m.tt n < 0x90 ∧ b ≠ [] ∧ byteAt b 0 = m.fields n ∧ (!p.d1 ∨ bit (byteAt b 1) 0) then
      (let r := ttParse b (m.fields n) 2
       some (if p.d1 then (ttParse b (m.fields n) r.2).1 else r.1))
    else none

/-! ### GEOMETRY -/

/-- Groups of R23: one leader, a member; equal rates and field counts. -/
def groupOk (m : Stage) : Bool :=
  let mem := chans.filter fun n => m.member n
  let lead := chans.filter fun n => m.leader n
  match lead with
  | [] => mem.isEmpty
  | [l] => mem.contains l && mem.all fun n => m.rate n == m.rate l && m.fields n == m.fields l
  | _ => false

/-- Line period in pipeline cycles (R155). -/
def linePeriod (m : Stage) (n : Fin 4) (p : Profile) : Nat := cyclesOf (m.rate n) p.half / (m.rows n + 32)

/-- Rectangle inside an array. -/
def fits (x y w h cols rows : Nat) : Bool := decide (x + w ≤ cols ∧ y + h ≤ rows)

/-- Ratio dst / src within 1/4 to 8 (R177). -/
def ratioOk (src dst : Nat) : Bool := decide (src ≤ 4 * dst ∧ dst ≤ 8 * src)

/-- The warp window at the mesh nodes (R186). -/
def windowOk (s : State) (m : Stage) (n : Fin 4) : Bool :=
  let aff := m.fld (F.WRP_CTRL_AFF_EN n) = 1
  let v := fun a => signed (m.reg a) 32
  let c := if aff then v (R.WRP_AFF_C n) else 0
  let d := if aff then v (R.WRP_AFF_D n) else 2 ^ 24
  let t := if aff then 256 * v (R.WRP_AFF_TY n) else 0
  m.fld (F.WRP_CTRL_MODE n) == 1 || (List.range 17).all fun j => (List.range 33).all fun i =>
    let x : Int := (i * m.cols n * 16 : Nat)
    let y : Int := (j * m.rows n * 32 : Nat)
    let w := sget (fun _ => 0) (s.ch n).mesh (1024 * m.fld (F.WRP_CTRL_MESH_BANK n) + 33 * j + i)
    let dy := if m.fld (F.WRP_CTRL_MESH_EN n) = 1 then signed (w / 65536) 16 else 0
    let k := c * x + d * y + 512 * t + dy * 2 ^ 29 - 2 ^ 24 * y
    decide (-61 * 2 ^ 33 ≤ k ∧ k ≤ 2 ^ 33)

/-- Smallest and largest y, Q12.4, of scan line k. -/
def lineSpan (s : State) (base samples k : Nat) : Nat × Nat :=
  (List.range samples).foldl (fun (a : Nat × Nat) i =>
    let y := leNat (s.dread (base + 16 + 4 * (k * samples + i) + 2) 2)
    (min a.1 y, max a.2 y)) (65535, 0)

/-- Scan geometry of R187. -/
def scanOk (s : State) (m : Stage) (n : Fin 4) (p : Profile) : Bool :=
  let lines := m.fld (F.WRP_TRAJ_CFG_L n)
  let samples := m.fld (F.WRP_TRAJ_CFG_S n)
  let base := m.fld (F.WRP_TRAJ_BASE_ADDR n) * 4096
  let sp := (List.range lines).map fun k => s.lineSpan base samples k
  let tl := linePeriod m n p
  m.fld (F.WRP_CTRL_MODE n) == 0 ||
  ((sp.zip (sp.drop 1)).all (fun q => decide (q.1.2 ≤ q.2.2)) && sp.all (fun q => decide (q.2 ≤ q.1 + 16 * 61)) &&
   (List.range (m.rows n + 1)).all fun r =>
     decide ((sp.filter fun q => q.2 / 16 + 1 == r).length * samples ≤ 2 * (tl - 168)))

/-- GEOMETRY of a named channel (R156, R122, R177, R186, R187, R190). -/
def geometryOk (s : State) (m : Stage) (n : Fin 4) (p : Profile) : Bool :=
  let on := m.layersOn n
  (!m.timed n || (decide (m.cols n / 2 + 168 ≤ linePeriod m n p) && decide (3000 ≤ m.rate n ∧ m.rate n ≤ 24000) &&
    (!p.half || decide (6000 ≤ m.rate n)))) &&
  on.all (fun x => fits (m.layW n x 6) (m.layW n x 7) (m.layW n x 8) (m.layW n x 9) (m.cols n) (m.rows n) &&
    ratioOk (m.layW n x 4) (m.layW n x 8) && ratioOk (m.layW n x 5) (m.layW n x 9) &&
    on.all fun y => x == y || m.layZ n x != m.layZ n y) &&
  ((List.range 16).all fun r =>
    let w := m.fld (F.WBK_Rr_SIZE_W n r)
    let h := m.fld (F.WBK_Rr_SIZE_H n r)
    w == 0 || h == 0 || fits (m.fld (F.WBK_Rr_POS_X n r)) (m.fld (F.WBK_Rr_POS_Y n r)) w h (m.cols n) (m.rows n)) &&
  (!m.timed n || (s.windowOk m n && s.scanOk m n p))

/-! ### FORMAT and LINEBUF -/

/-- A complete asset of an identifier. -/
def asset (s : State) (id : Nat) : Option Asset := s.fw.assets.find? fun a => a.id == id
/-- Bytes of an asset. -/
def assetBytes (s : State) (a : Asset) (o k : Nat) : List Byte := s.dread (a.page * 4096 + o) k

/-- Byte offset of the image header in an asset that a layer may use. -/
def imageAt (a : Asset) : Option Nat := if a.typ = 1 then some 0 else if a.typ = 2 then some 64 else none

/-- A colour matrix identifier names a matrix of a role, or is 0 (R122, R191). -/
def matrixOk (s : State) (id role : Nat) : Bool :=
  id == 0 || match s.asset id with
    | some a => a.typ == 10 && byteAt (s.assetBytes a 0 4) 2 == role
    | none => false

/-- Bytes of one ring of three frames in 4 KB units per frame (R151). -/
def ringPages (fmt w h : Nat) : Nat :=
  let st := ceilDiv (w * fmtBytes fmt) 64 * 64
  ceilDiv (st * h + (if fmt = 2 ∨ fmt = 3 then st * h / 2 else if fmt = 4 then st * h else 0)) 4096

/-- The receiver bindings of a configuration: (receiver, virtual channel, channel, layer). -/
def bindings (m : Stage) : List (Nat × Nat × Fin 4 × Fin 4) :=
  (chans.map fun n => ((m.layersOn n).filter fun x => m.laySrc n x == 1 || m.laySrc n x == 2).map fun x =>
    (m.laySrc n x - 1, m.layId n x, n, x)).flatten

/-- The CSI-2 data type of a pixel format (R148, R149). -/
def csiType (fmt : Nat) : Nat := match fmt with | 2 => 0x18 | 3 => 0x19 | 4 => 0x1E | 5 => 0x24 | _ => 0x2A

/-- The binding an entry must have: data type, channel, layer, width, height, ring stride in 4 KB (R149–R151). -/
def wantBind (m : Stage) (rx v : Nat) : Option (List Nat) :=
  match (bindings m).find? fun q => q.1 == rx && q.2.1 == v with
  | some (_, _, n, x) =>
    some [csiType (m.layFmt n x), n.val, x.val, m.layW n x 0, m.layW n x 1, ringPages (m.layFmt n x) (m.layW n x 0) (m.layW n x 1)]
  | none => none

/-- The settings that wait for an entry to stop (R150). -/
def rebinding (s : State) (rx : Fin 2) (v : Nat) : Option (List Nat) := sget (fun _ => none) (s.csi.get rx).rebind v

/-- The binding an entry has, or waits for. -/
def hasBind (s : State) (rx : Fin 2) (v : Nat) : Option (List Nat) :=
  match s.rebinding rx v with
  | some w => some (w.take 6)
  | none =>
    if s.on (F.CSI_VCv_CFG_EN rx v) then
      some [s.rd (F.CSI_VCv_CFG_DT rx v), s.rd (F.CSI_VCv_CFG_CHANNEL rx v), s.rd (F.CSI_VCv_CFG_LAYER rx v),
        s.rd (F.CSI_VCv_SIZE_WIDTH rx v), s.rd (F.CSI_VCv_SIZE_HEIGHT rx v), s.rd (F.CSI_VCv_RING_STRIDE_ADDR rx v)]
    else none

/-- The ring base, in 4 KB, of an entry's binding (R151), and the tag its publications carry (R150). -/
def bindPage (s : State) (rx : Fin 2) (v : Nat) : Nat :=
  match s.rebinding rx v with | some w => w.getD 6 0 | none => s.rd (F.CSI_VCv_RING_BASE_ADDR rx v)
def bindTag (s : State) (rx : Fin 2) (v : Nat) : Nat :=
  match s.rebinding rx v with | some w => w.getD 7 0 | none => s.rd (F.CSI_VCv_CFG_TAG rx v)

/-- Free space of the asset area in bytes: the area less every complete asset, every upload and every ring (R130, R151). -/
def freeAssets (s : State) : Nat :=
  268435456 - ((s.fw.assets.foldl (fun a x => a + x.size) 0) + (s.fw.uploads.foldl (fun a x => a + x.asset.size) 0) +
    s.fw.rings.foldl (fun a r => a + r.bytes) 0)

/-- FORMAT of a named channel (R149, R151, R162–R164, R122). -/
def formatOk (s : State) (m : Stage) (n : Fin 4) : Bool :=
  (m.layersOn n).all (fun x =>
    let fmt := m.layFmt n x
    let w := m.layW n x 0
    let h := m.layW n x 1
    s.matrixOk (m.layMat n x) 0 &&
    (if m.laySrc n x = 0 then
      match s.asset (m.layId n x) with
      | some a =>
        match imageAt a with
        | some o =>
          let b := s.assetBytes a o 12
          byteAt b 2 == fmt && le16 b 4 == w && le16 b 6 == h
        | none => false
      | none => false
    else
      (fmt == 0 || fmt == 2 || fmt == 3 || fmt == 4 || fmt == 5) && decide (2 ≤ w) &&
      (!(fmt == 2 || fmt == 3 || fmt == 4) || w % 2 == 0) && (!(fmt == 2 || fmt == 3) || h % 2 == 0) &&
      ((bindings m).filter fun q => q.1 == m.laySrc n x - 1 && q.2.1 == m.layId n x).length == 1)) &&
  (m.omat.get n == 0 || s.matrixOk (m.omat.get n) 1) &&
  (m.lut.get n == 0 || match s.asset (m.lut.get n) with | some a => a.typ == 3 | none => false)

/-- The rings that a configuration needs anew fit in the free space (R151): a binding that stands keeps its ring. -/
def ringsOk (s : State) (m : Stage) : Bool :=
  let need := (bindings m).foldl (fun a q =>
    match wantBind m q.1 q.2.1 with
    | some g => if s.hasBind (duo q.1) q.2.1 = some g then a else a + 3 * 4096 * g.getD 5 0
    | none => a) 0
  decide (need ≤ s.freeAssets)

/-- A layer is scaled vertically, or at all (R177). -/
def layerScaledV (m : Stage) (n x : Fin 4) : Bool := m.layW n x 5 != m.layW n x 9
def layerScaled (m : Stage) (n x : Fin 4) : Bool := layerScaledV m n x || m.layW n x 4 != m.layW n x 8

/-- LINEBUF (R177). -/
def lineBufOk (m : Stage) (n : Fin 4) : Bool :=
  let sc := (m.layersOn n).filter fun x => layerScaled m n x
  decide ((sc.foldl (fun k x => k + (if m.layGang n x then 2 else 1)) 0) ≤ 2) &&
  sc.all fun x => !layerScaledV m n x || decide (m.layW n x 4 ≤ (if m.layGang n x then 8192 else 4096))

/-! ### TIMETABLE and PARTNER_CAP -/

/-- Amplitude tables follow R238. -/
def ampsOk (m : Stage) (n : Fin 4) : Bool :=
  chans.all fun k => m.fld (F.SRC_AMPs_l_A n k.val 7) == 65536 && (List.range 7).all fun l =>
    let a := m.fld (F.SRC_AMPs_l_A n k.val l)
    decide (1 ≤ a ∧ a ≤ 65536)

/-- LINE_T of scan-line mode, units (R208). -/
def lineT (s : State) (m : Stage) (n : Fin 4) (p : Profile) (mode : Nat × Nat) : Nat :=
  let t := s.checkTimes m n p mode
  (t.tf - t.guard - 2 * lineX (m.fld (F.WRP_TRAJ_CFG_S n)) mode.1 mode.2) / max 1 (m.fld (F.WRP_TRAJ_CFG_L n))

/-- TIMETABLE of a channel at a link mode (R198, R208, R121, R238): in scan-line mode the rules of R208 stand in place of items
3 to 6; a scanner outside it is left to PARTNER_CAP (R268). -/
def timetableOk (s : State) (m : Stage) (n : Fin 4) (p : Profile) (mode : Nat × Nat) : Bool :=
  ampsOk m n && (!m.timed n || s.nodeType n == 3 ||
    match s.ttFields m n p mode with
    | none => false
    | some fs =>
      let sources := if s.hasNode n then some (s.nodeSources n) else none
      if m.fld (F.WRP_CTRL_MODE n) = 1 then
        (m.tt n == 1 || m.tt n == 0x11) && fs.all (fun f => ttShape f && (!s.hasNode n || ttMasks sources f)) &&
        decide (lineX (m.fld (F.WRP_TRAJ_CFG_S n)) mode.1 mode.2 ≤ s.lineT m n p mode)
      else if s.nodeType n = 2 then fs.all fun f => ttShape f && ttMasks sources f
      else
        let t := s.checkTimes m n p mode
        let amp := fun k l => m.fld (F.SRC_AMPs_l_A n k l)
        fs.all (fun f => ttShape f && ttWeights amp f) &&
        (!s.hasNode n || (fs.all (fun f => ttMasks sources f && ttShortest t f) && ttEnds t fs && ttLoads t fs)))

/-- SRC_CTRL.EN that a commit would write (R441). -/
def enOf (s : State) (m : Stage) (n : Fin 4) : Nat := match m.srcEn.get n with | some e => e | none => s.nodeSources n

/-- PARTNER_CAP of a named channel (R194, R187, R268, the SPLIM rule of R255).  A channel without SET_TIMING has no array to
compare, and does not fail for want of scan-line mode on a scanner (log entry 43). -/
def partnerOk (s : State) (m : Stage) (n : Fin 4) : Bool :=
  let scan := m.fld (F.WRP_CTRL_MODE n) == 1
  chans.all (fun k => decide (m.fld (F.SRC_SPLIMs_MIN n k.val) ≤ m.fld (F.SRC_SPLIMs_MAX n k.val))) &&
  (!s.hasNode n ||
    (s.enOf m n &&& s.nodeSources n == s.enOf m n &&
     (if s.nodeType n = 1 then
        !scan && (!m.timed n || (m.cols n == s.cap16 n 4 && m.rows n == s.cap16 n 6 && m.rows n % max 1 (s.nodeBlocks n) == 0 &&
          decide (2 ≤ s.stageOf n (m.cols n) (m.rows n))))
      else if s.nodeType n = 2 then
        (scan || !m.timed n) && (!scan || decide (m.fld (F.WRP_TRAJ_CFG_S n) ≤ s.cap16 n 4 ∧ m.fld (F.WRP_TRAJ_CFG_L n) ≤ s.cap16 n 6))
      else !scan)))

/-! ### Chains (R126, R294, R303, R304) -/

/-- Ranges of a DEFINE: (port, first, count). -/
def rangesOf (b : List Byte) : List (Nat × Nat × Nat) :=
  (List.range (byteAt b 2)).map fun i => (byteAt b (4 + 6 * i), le16 b (6 + 6 * i), le16 b (8 + 6 * i))

/-- The ranges of a port over all groups: (group, first, count). -/
def portRanges (m : Stage) (port : Nat) : List (Nat × Nat × Nat) :=
  (m.groups.map fun g => ((rangesOf g.2).filter fun r => r.1 == port).map fun r => (g.1, r.2)).flatten

/-- Sources of a group, if it includes any: (channel, mask) (R126). -/
def groupSources (b : List Byte) : Option (Fin 4 × Nat) :=
  if bit (byteAt b 3) 7 then some (chan (byteAt b 3 % 4), bits (byteAt b 3) 2 4) else none

/-- The chain part of the checks: GEOMETRY, FORMAT, PARTNER_CAP. -/
def chainReason (s : State) (m : Stage) : Nat :=
  let mapBad := fun (n : Fin 4) =>
    match s.asset (le16 (m.anim.get n) 2) with
    | some a =>
      a.typ == 6 && (List.range (le16 (s.assetBytes a 0 8) 4)).any fun i =>
        let e := s.assetBytes a (16 + 8 * i) 8
        !decide (le16 e 2 < m.cols n ∧ le16 e 4 < m.rows n)
    | none => false
  let src := fun (n : Fin 4) => byteAt (m.anim.get n) 1
  if chans.any fun n => decide (64 < (portRanges m n.val).length) || (src n == 2 && mapBad n) then rjGEOMETRY
  else if chans.any fun n => src n != 0 && (match s.asset (le16 (m.anim.get n) 2) with
      | some a => a.typ != (if src n = 1 then 5 else 6) | none => true) then rjFORMAT
  else if (chans.any fun n => (portRanges m n.val).any fun r => decide (128 * s.rd (F.CHN_MODE_DRIVERS n) < r.2.1 + r.2.2)) ||
      (m.groups.any fun g => match groupSources g.2 with | some (n, _) => s.nodeType n != 3 | none => false) then rjPARTNER
  else 0

/-! ### BANDWIDTH (R173, R174) -/

/-- Bytes per pixel, doubled (R122). -/
def bytes2 (fmt : Nat) : Nat := [2, 4, 3, 6, 4, 6, 8].getD fmt 0

/-- A layer is entirely inside an opaque asset layer above it without REQUIRE_FRESH (R174). -/
def hidden (m : Stage) (n x : Fin 4) : Bool :=
  (m.layersOn n).any fun u => u != x && decide (m.layZ n x < m.layZ n u) && m.layAlpha n u == 255 && m.layFmt n u != 6 &&
    m.laySrc n u == 0 && !m.layFresh n u &&
    decide (m.layW n u 6 ≤ m.layW n x 6 ∧ m.layW n x 6 + m.layW n x 8 ≤ m.layW n u 6 + m.layW n u 8 ∧
      m.layW n u 7 ≤ m.layW n x 7 ∧ m.layW n x 7 + m.layW n x 9 ≤ m.layW n u 7 + m.layW n u 9)

/-- Slots per frame of a channel's timetable (R173). -/
def slotCount (s : State) (m : Stage) (n : Fin 4) (p : Profile) : Nat :=
  match presetOf (m.tt n) with
  | some (k, f) => f * (8 + (splitsOf k p.d1).foldl (· + ·) 0)
  | none => match s.ttFields m n p (0, 0) with
    | some fs => fs.foldl (fun a f => a + f.length) 0
    | none => 0

/-- Demand of one channel in units of 1/400 byte per second. -/
def channelDemand (s : State) (m : Stage) (n : Fin 4) (p : Profile) : Nat :=
  if !m.timed n || p.none then 0
  else
    let area := m.cols n * m.rows n
    let lay := ((m.layersOn n).filter fun x => !hidden m n x).foldl (fun a x => a + bytes2 (m.layFmt n x) * m.layW n x 4 * m.layW n x 5) 0
    let x2 := s.slotCount m n p * area / 4 + 4 * m.fields n * area * (1 + m.fld (F.WBK_CTRL_MON_EN n)) + lay
    m.rate n * x2 * (if p.half then 1 else 2)

/-- Demand D of a configuration in units of 1/400 byte per second, exact (R173). -/
def demand (s : State) (m : Stage) (p : Profile) : Nat :=
  let ch := chans.foldl (fun a n => a + s.channelDemand m n p) 0
  let rx := ([0, 1] : List (Fin 2)).foldl (fun a r =>
    if (bindings m).any fun q => q.1 == r.val then a + 2 ^ s.rd (F.CSI_CTRL_LANES r) * s.rd (F.CSI_CTRL_RATE r) * 125000 else a) 0
  ch + 400 * (rx + 2000000000)

/-- The demand in MB/s that COMMIT reports; how a fraction is rounded is open (R131, log entry 6). -/
def demandMb (s : State) (m : Stage) (p : Profile) : Nat :=
  let d := s.demand m p
  d / 400000000 + if d % 400000000 = 0 then 0 else (Config.demandRound d).toNat

/-! ### The checks in order (R31, R38) -/

/-- MODE: what R38 accepts in the current mode; pending soft masks of a channel are settings that only STATIC lists. -/
def modeOk (s : State) (m : Stage) (mask : Nat) : Bool :=
  let md := s.mode
  if md = modeREADY ∨ md = modeDARKHOLD ∨ md = modeSERVICE ∨ md = modePROJECT ∨ md = modeBOOT then true
  else if md = modeBEAM then chans.all fun n => !m.timed n || m.fields n == 1
  else if md = modeSIGNATURE ∨ md = modeSTATIC ∨ (md = modeLIMP ∧ s.rd F.SYS_MODE_PROFILE = 3) then
    chans.all fun n => !bit mask n.val || (m.sameButSource s.fw.act n && (md == modeSTATIC || (s.fw.masks.get n).isEmpty))
  else md = modeLIMP

/-- GEOMETRY to PARTNER_CAP of the channels of a mask; 0 when all pass. -/
def channelReason (s : State) (m : Stage) (mask : Nat) (p : Profile) (mode : Fin 4 → Nat × Nat) : Nat :=
  let all := fun (f : Fin 4 → Bool) => chans.all fun n => !bit mask n.val || f n
  if !(groupOk m && all fun n => s.geometryOk m n p) then rjGEOMETRY
  else if !(all (fun n => s.formatOk m n) && s.ringsOk m) then rjFORMAT
  else if !(all fun n => lineBufOk m n) then rjLINEBUF
  else if !(all fun n => s.timetableOk m n p (mode n)) then rjTIMETABLE
  else if !(all fun n => s.partnerOk m n) then rjPARTNER
  else 0

/-- The first check of R31 that fails for a configuration; 0 when it passes. -/
def rejectReason (s : State) (m : Stage) (mask : Nat) (chains : Bool) (p : Profile) : Nat :=
  let c := if chains then s.chainReason m else 0
  let r := s.channelReason m mask p s.linkMode
  if !s.modeOk m mask then rjMODE
  else if r = rjGEOMETRY ∨ c = rjGEOMETRY then rjGEOMETRY
  else if r = rjFORMAT ∨ c = rjFORMAT then rjFORMAT
  else if r ≠ 0 then r
  else if c ≠ 0 then c
  else if !p.none && decide (400000000 * budget p.speed < s.demand m p) then rjBANDWIDTH
  else 0

/-- The profile of the mode in force. -/
def profileNow (s : State) : Profile := s.profileOf s.mode (s.rd F.SYS_MODE_PROFILE)

end State

end Sys2Proof.Machine
end

