-- ==== Sys2Proof/Machine/Link.lean ====
section
/-! DEFINITION. The Darpor lamp link (chapter 12): negotiation, retrain, back-lane packets, link down, and the check of
R442. -/

namespace Sys2Proof.Machine

/-- A capability block follows the table of R268. -/
def capBlockOk (b : List Byte) : Bool :=
  let typ := byteAt b 3
  decide (64 ≤ b.length) && b.length == 64 + 8 * byteAt b 17 && le16 b 0 == 0x4344 && byteAt b 2 == 1 &&
  (typ == 1 || typ == 2 || typ == 3) && decide (byteAt b 17 ≤ 16) &&
  (if typ = 1 then decide (8 ≤ byteAt b 8 ∧ byteAt b 8 ≤ 32) else byteAt b 8 == 0) &&
  (typ != 3 || (le16 b 4 == 0 && le16 b 6 == 0)) && byteAt b 9 % 16 != 0 &&
  (byteAt b 14 == 1 || byteAt b 14 == 2) && bit (byteAt b 15) 0 && bit (byteAt b 16) 0 &&
  decide (1 ≤ le16 b 22 ∧ le16 b 22 ≤ 10000) && (typ == 2 || le16 b 28 == 0) && le16 b 30 == 0 &&
  (List.range 16).all fun i => byteAt b (48 + i) == 0

namespace State

/-- The operation in progress on a link. -/
def neg (s : State) (n : Fin 4) : Option Neg := (s.ch n).link.neg
/-- Replace it. -/
def setNeg (s : State) (n : Fin 4) (g : Option Neg) : State := s.modLink n fun l => { l with neg := g }
/-- Device LT. -/
def lt (s : State) (n : Fin 4) : Nat := s.rd (F.LNK_LT_LT n)

/-- LNK_TIMING of the mode in force and the active geometry (R264). -/
def linkTiming (s : State) (n : Fin 4) : State :=
  let (cols, rows) := s.array n
  let l := s.rd (F.LNK_MODE_LANES n)
  let r := s.rd (F.LNK_MODE_RATE n)
  (s.wr (F.LNK_TIMING_T_BLK n) (blockUnits cols rows (s.nodeBlocks n) l r)).wr (F.LNK_TIMING_T_W n) (wordPs l r)

/-- The mode in force. -/
def setLinkMode (s : State) (n : Fin 4) (lanes rate back : Nat) : State :=
  (((s.wr (F.LNK_MODE_LANES n) lanes).wr (F.LNK_MODE_RATE n) rate).wr (F.LNK_MODE_BACK n) back).linkTiming n

/-- An operation ends: DONE of its command (R133). -/
def negDone (s : State) (n : Fin 4) (st detail : Nat) : State :=
  match s.neg n with
  | some g => (s.setNeg n none).doneOpt g.tag st detail
  | none => s

/-- The link goes DOWN with a reason (R274, R133). -/
def linkDown (s : State) (n : Fin 4) (reason : Nat) : State :=
  let s := (s.wr (F.LNK_STATUS_STATE n) 5).wr (F.LNK_STATUS_DOWN_REASON n) reason
  let s := s.blockEvent (lnkBase n) (0x2005 + 256 * n.val) 4 reason 0
  s.negDone n stNOT_PRESENT reason

/-- SYNC carries the device LT at its START block (R266). -/
def sendSync (s : State) (n : Fin 4) : State := s.mgmt n 2 (leBytes 4 (s.lt n))

/-- TRAIN or RETRAIN: lanes, rate, back rate, switch LT 50 us ahead, phase (R266, R270, R276). -/
def sendTrain (s : State) (n : Fin 4) (cmd : Nat) (g : Neg) (phase : Nat) : State :=
  s.mgmt n cmd (leBytes 1 g.lanes ++ leBytes 1 g.rate ++ leBytes 1 g.back ++ leBytes 4 ((s.lt n + 5000) % 2 ^ 32) ++ leBytes 1 phase)

/-- Time 0 of a negotiation, the lock of LPLLn (R270 step 1). -/
def negStart (s : State) (n : Fin 4) (g : Neg) : State :=
  ((s.setNeg n (some { g with step := 1 })).mgmt n 8 []).mgmt n 1 []

/-- ENABLE, or RENEGOTIATE of a DOWN link: a negotiation at base mode, once LPLLn is locked (R270); the results of the last
one no longer stand (R271). -/
def negotiate (s : State) (n : Fin 4) (cause : Nat) (tag : Option Tag) : State :=
  let s := s.replayStop n 3
  let s := (((s.linkClk n true).wr (F.LNK_CTRL_EN n) 1).wr (F.LNK_STATUS_STATE n) 1).setLinkMode n 1 0 0
  let s := (s.modLink n fun l => { l with idle := false, boot := none, table := [] }).put (R.LNK_BEST n) 0
  let g : Neg := ⟨false, true, 8, [], 0, 0, 0, false, [], [], cause, tag⟩
  if s.pllLocked (4 + n.val) then s.negStart n g else s.setNeg n (some g)

/-- n_R of an attempt (R271). -/
def lanesPassed (lanes : Nat) (eyes : List (Nat × Bool)) : Nat :=
  let ok := fun k => eyes.any fun e => e.1 == k && e.2
  if lanes = 2 ∧ ok 0 ∧ ok 1 then 2 else if ok 0 then 1 else 0

/-- The best of the finished attempts: largest n_R × R, the higher rate on a tie (R271). -/
def bestOf (rs : List (Nat × Nat)) : Nat × Nat :=
  rs.foldl (fun (b : Nat × Nat) r => if b.2 * rateMb b.1 < r.2 * rateMb r.1 ∨ (b.2 * rateMb b.1 = r.2 * rateMb r.1 ∧ b.1 < r.1) then r else b) (0, 0)

/-- LNK_BEST shows the mode table and the chosen mode (R271). -/
def showBest (s : State) (n : Fin 4) (rate lanes back : Nat) (table : List (Nat × Nat)) : State :=
  let bitsOf := fun (k : Nat) => table.foldl (fun m r => if k ≤ r.2 then setBit m r.1 true else m) 0
  let s := ((s.wr (F.LNK_BEST_LANES n) lanes).wr (F.LNK_BEST_RATE n) rate).wr (F.LNK_BEST_BACK n) back
  let s := (s.wr (F.LNK_BEST_TABLE n) (bitsOf 1)).wr (F.LNK_BEST_TWO n) (bitsOf 2)
  s.modLink n fun l => { l with table := table }

/-- LNK_LIMIT is set to a mode. -/
def setLimit (s : State) (n : Fin 4) (lanes rate back : Nat) : State :=
  ((s.wr (F.LNK_LIMIT_LANES n) lanes).wr (F.LNK_LIMIT_RATE n) rate).wr (F.LNK_LIMIT_BACK n) back

/-- The next attempt, or the choice of the mode and its verification (R270 steps 4 and 5, R271). -/
def negNext (s : State) (n : Fin 4) (g : Neg) : State :=
  let best := bestOf g.results
  let top := min 2 (s.cap n 14)
  let choose := fun (s : State) =>
    if best.2 = 0 then (s.showBest n 0 0 0 g.results).linkDown n 5
    else
      let s := (s.showBest n best.1 best.2 g.back g.results).setLimit n best.2 best.1 g.back
      let h := { g with rate := best.1, lanes := best.2, eyes := [] }
      if g.rate = best.1 ∧ g.lanes = best.2 then (s.setNeg n (some { h with step := 7 })).sendSync n
      else (s.setNeg n (some { h with step := 5 })).sendTrain n 4 h 1
  match g.rates with
  | [] => choose s
  | r :: rs =>
    if top * rateMb r ≤ best.2 * rateMb best.1 then choose s
    else
      let h := { g with rates := rs, rate := r, lanes := top, eyes := [], step := 3 }
      (s.setNeg n (some h)).sendTrain n 4 h 0

/-- The capability block is checked and stored (R268, R270 step 2). -/
def backCapability (s : State) (n : Fin 4) (b : List Byte) : State :=
  match s.neg n with
  | some g =>
    if g.retrain || g.step != 1 then s
    else if !capBlockOk b then s.linkDown n 6
    else
      let s := (List.range 48).foldl (fun s w => s.put (R.LNK_CAP n w) (le32 b (4 * w))) s
      let s := s.modLink n fun l => { l with capOk := true }
      (s.setNeg n (some { g with step := 2 })).sendSync n
  | none => s

/-- The committed configuration is checked against the node and mode found (R442). -/
def check442 (s : State) (n : Fin 4) : State :=
  if s.fw.act.timed n then
    let r := s.channelReason s.fw.act (2 ^ n.val) s.profileNow s.linkMode
    if r = 0 then s
    else (s.modLink n fun l => { l with unlit := true, relight := false }).logEvent (0x1011 + 256 * n.val) 2 r (2 ^ n.val)
  else s

/-- After a retrain firmware writes t_blk and STAGE into the active bank, and the preset durations of the new mode; a change of
these resets the trims from field S (R277). -/
def retimed (s : State) (n : Fin 4) : State :=
  match (s.ch n).cfgStrm with
  | none => s
  | some c =>
    let m := s.fw.act
    let p := s.profileNow
    let mode := s.linkMode n
    let t := s.checkTimes m n p mode
    let a := R.BPF_BLK_TIME n
    let w := BitVec.ofNat 32 (t.tblk % 65536 + min 255 t.stage * 65536)
    let s := (s.setStrm (sset regReset s.strm a w)).setComp (sset regReset s.comp a w)
    match presetOf c.tt, s.ttFields m n p mode with
    | some _, some fs =>
      let bank := s.rdS (F.BPF_TT_CTRL_BANK n)
      let same := fs.zipIdx.all fun q => q.1.zipIdx.all fun x => s.ttSlot n bank q.2 x.2 == x.1
      if same then s
      else (fs.zipIdx.foldl (fun s q => s.ttWriteField n bank q.2 q.1) s).modLink n fun l => { l with newTrim := true }
    | _, _ => s

/-- The link is UP: parameters, tables, masks and GO are sent; R442 is applied (R270 steps 5 and 6, R276). -/
def linkComplete (s : State) (n : Fin 4) (g : Neg) : State :=
  let s := (s.mgmt n 3 (leBytes 4 (Config.openWord s.free).toNat)).nextFree
  let s := (s.wr (F.LNK_STATUS_STATE n) 3).setLinkMode n g.lanes g.rate g.back
  let s := s.modLink n fun l => { l with boot := none, idle := false, retabled := false, oweTabs := 0, oweMasks := [] }
  let s := if g.retrain then s.retimed n else s
  let s := ((s.send n 5 (s.arrayParams n)).ampResend n).maskResend n
  let s := s.mgmt n 5 (leBytes 4 (s.lt n))
  let b := g.lanes + 256 * (if g.retrain then g.cause else g.back)
  let s := s.logEvent ((if g.retrain then 0x2001 else 0x2004) + 256 * n.val) (if g.retrain then 1 else 0) (rateMb g.rate) b
  let s := s.negDone n stOK 0
  s.check442 n

/-- The equalisation registers take the values adapted at a rate (R281). -/
def eqTake (s : State) (n : Fin 4) (ws : List Nat) : State :=
  ((s.put (R.LNK_EQ_F0 n) (ws.getD 0 0)).put (R.LNK_EQ_F1 n) (ws.getD 1 0)).put (R.LNK_EQ_B n) (ws.getD 2 0)

/-- Negotiation or training adapts at a rate, and overwrites the equalisation registers with the adapted values (R281). -/
def adaptNow (s : State) (n : Fin 4) (rate : Nat) : State :=
  let k := (s.ch n).link.adapts
  let w := fun i => (Config.adaptEq (4 * k + n.val) i).toNat
  let ws := [w 0 % 2 ^ 24, w 1 % 2 ^ 24, w 2 % 16]
  (s.modLink n fun l => { l with adapts := k + 1, eqs := sset (fun _ => []) l.eqs rate ws }).eqTake n ws

/-- A verification or a proven retrain goes back to what was adapted at its rate: values of LINK_EQ no longer hold (R281). -/
def eqRestore (s : State) (n : Fin 4) (rate : Nat) : State :=
  match sget (fun _ => []) (s.ch n).link.eqs rate with
  | [] => s
  | ws => s.eqTake n ws

/-- ECHO answers a SYNC (R270 steps 3 and 5). -/
def backEcho (s : State) (n : Fin 4) : State :=
  match s.neg n with
  | some g =>
    if g.step = 2 then
      let s := (s.mgmt n 3 (leBytes 4 (Config.openWord s.free).toNat)).nextFree
      let s := (s.put (R.LNK_DELAY n) (Config.openWord s.free).toNat).nextFree
      let common := (List.range 7).reverse.filter fun k => bit (s.cap n 15) k
      let back := if bit (s.cap n 16) 1 then 1 else 0
      s.negNext n { g with rates := common, back := back, results := [] }
    else if g.step = 7 then s.linkComplete n g
    else s
  | none => s

/-- The switch LT: both sides take the rate of the attempt, verification or retrain. -/
def trainSwitch (s : State) (n : Fin 4) : State :=
  match s.neg n with
  | some g =>
    if g.step = 3 then
      (((s.setLinkMode n g.lanes g.rate g.back).adaptNow n g.rate).setNeg n (some { g with step := 4, eyes := [] }))
    else if g.step = 5 then
      let s := s.setLinkMode n g.lanes g.rate g.back
      let s := if g.retrain && g.training then s.adaptNow n g.rate else s.eqRestore n g.rate
      s.setNeg n (some { g with step := 6, eyes := [] })
    else s
  | none => s

/-- An attempt ends with n_R lanes and the device's own back-lane result (R270 step 4). -/
def attemptEnd (s : State) (n : Fin 4) (g : Neg) (eyes : List (Nat × Bool)) (backOk : Bool) : State :=
  let nR := if backOk then lanesPassed (min 2 (s.cap n 14)) eyes else 0
  let back := if g.backSet || backOk then g.back else 0
  s.negNext n { g with results := g.results ++ [(g.rate, nR)], backSet := true, back := back, eyes := [] }

/-- A verification or retrain check ends (R270 step 5, R276). -/
def verifyEnd (s : State) (n : Fin 4) (g : Neg) (ok : Bool) : State :=
  if !ok then s.linkDown n 5
  else
    let s := if g.retrain && g.training then
        s.showBest n (s.rd (F.LNK_BEST_RATE n)) (s.rd (F.LNK_BEST_LANES n)) (s.rd (F.LNK_BEST_BACK n))
          (((s.ch n).link.table.filter fun r => r.1 != g.rate) ++ [(g.rate, g.lanes)])
      else s
    (s.setNeg n (some { g with step := 7 })).sendSync n

/-- EYE packet of a lane, with the device's measurement of the back lane in the same interval. -/
def backEye (s : State) (n : Fin 4) (p : List Byte) (backOk : Bool) : State :=
  match s.neg n with
  | some g =>
    if (g.step = 4 ∨ g.step = 6) ∧ byteAt p 1 = g.rate ∧ byteAt p 0 < g.lanes then
      let ok := decide (s.rd (F.LNK_EQ_THR_MIN_EYE n) ≤ le16 p 2 ∧ le32 p 6 ≤ s.rd (F.LNK_EQ_THR_MAX_ERR n))
      let eyes := (byteAt p 0, ok) :: g.eyes.filter fun e => e.1 != byteAt p 0
      if eyes.length < g.lanes then s.setNeg n (some { g with eyes := eyes })
      else if g.step = 4 then s.attemptEnd n g eyes backOk
      else s.verifyEnd n g (backOk && eyes.all fun e => e.2)
    else s
  | none => s

/-- The EYE packets due are not all in by the end of an attempt or check (R270): with none, an attempt returns to base mode; a
lane without one has not passed (log entry 126); a verification has failed. -/
def eyeTimeout (s : State) (n : Fin 4) (backOk : Bool) : State :=
  match s.neg n with
  | some g =>
    if g.step = 4 then (if g.eyes.isEmpty then s.setLinkMode n 1 0 0 else s).attemptEnd n g g.eyes backOk
    else if g.step = 6 then s.verifyEnd n g false
    else s
  | none => s

/-- A retrain begins: the lit slot ends, fields are dark, RETRAIN is sent (R276). -/
def retrainBegin (s : State) (n : Fin 4) (g : Neg) : State :=
  let s := (s.replayStop n 3).wr (F.LNK_STATUS_STATE n) 2
  let s := (s.sendTrain n 6 g (if g.training then 0 else 1)).incSat (F.LNK_STATUS_RETRAINS n)
  let s := s.setNeg n (some { g with step := 5 })
  if s.on (F.LEC_STATUS_RUNNING n) then
    let s := s.modCh n fun c => { c with fieldDark := true }
    if s.rd (F.BPF_STATUS_STATE n) = 0 then s else s.wr (F.BPF_STATUS_STATE n) 2
  else s

/-- LPLLn has locked: a negotiation, or a retrain from OFF, that waited for it begins (R270, log entry 125). -/
def linkLocked (s : State) (n : Fin 4) : State :=
  match s.neg n with
  | some g => if g.step ≠ 8 then s else if g.retrain then s.retrainBegin n g else s.negStart n g
  | none => s

/-- A retrain to a mode is accepted (R276): on a running channel it waits for its begin before field S; from OFF the link's
clocks start, and it waits for LPLLn to lock. -/
def retrain (s : State) (n : Fin 4) (lanes rate back cause : Nat) (tag : Option Tag) : State :=
  let tried := (s.ch n).link.table.any fun r => r.1 == rate
  let g : Neg := ⟨true, !tried, 0, [], rate, lanes, back, true, [], [], cause, tag⟩
  if s.linkState n == 0 then
    let s := s.linkClk n true
    if s.pllLocked (4 + n.val) then s.retrainBegin n g else s.setNeg n (some { g with step := 8 })
  else if s.on (F.LEC_STATUS_RUNNING n) && s.linkUp n then s.setNeg n (some g) else s.retrainBegin n g

/-- RETRAIN_START: S − 2.5 ms, or S − 3.5 ms for a training retrain. -/
def retrainStart (s : State) (n : Fin 4) : State :=
  match s.neg n with
  | some g => if g.retrain && g.step == 0 then s.retrainBegin n g else s
  | none => s

/-- The link enters OFF (R279); with `bye` the device sends POWER_DOWN first.  An operation in progress is abandoned. -/
def linkOff (s : State) (n : Fin 4) (bye : Bool) : State :=
  let s := if bye && s.linkUp n then s.mgmt n 7 [] else s
  let s := (s.negDone n stWRONG_MODE 0).linkClk n false
  let s := (s.put (R.LNK_STATUS n) (setBits (s.get (R.LNK_STATUS n)) 0 6 0)).setLinkMode n 0 0 0
  s.modLink n fun l => { l with boot := none, idle := false, seen := [] }

/-! ### Back-lane packets (R260, R267) -/

/-- A packet that arrives after its release instant (R260). -/
def backLate (s : State) (n : Fin 4) (typ : Nat) : State :=
  (s.incSat (F.LNK_CNT2_LATE n)).blockEvent (lnkBase n) (0x2007 + 256 * n.val) 2 typ 0

/-- Is a packet a copy of one of its type released within 10 us (R267)? -/
def isCopy (s : State) (n : Fin 4) (typ : Nat) (p : List Byte) : Bool :=
  (s.ch n).link.seen.any fun e => e.1 == typ && e.2.1 == p && decide ((s.lt n + 2 ^ 32 - e.2.2) % 2 ^ 32 ≤ 1000)

/-- Remember a released packet. -/
def markSeen (s : State) (n : Fin 4) (typ : Nat) (p : List Byte) : State :=
  let now := s.lt n
  s.modLink n fun l =>
    { l with seen := (typ, p, now) :: l.seen.filter fun e => decide ((now + 2 ^ 32 - e.2.2) % 2 ^ 32 ≤ 1000) }

/-- A back-lane packet is released to its consumer, unless it is late, a copy, or failed its CRC, which is counted (R273); in
OFF the lane is unpowered, and a link in reset or without its clocks receives nothing (R52, R68). -/
def released (s : State) (n : Fin 4) (arr : Arrival) (typ : Nat) (p : List Byte) (f : State → State) : State :=
  if s.linkState n == 0 || s.subStill n 8 then s
  else if arr = .badCrc then s.incSat (F.LNK_CNT1_BACK_CRC n)
  else if arr = .late then s.backLate n typ
  else if 0x83 ≤ typ ∧ typ ≤ 0x86 then (if s.isCopy n typ p then s else f (s.markSeen n typ p))
  else f s

/-- The node was reset while the link stayed UP (R275). -/
def nodeReset (s : State) (n : Fin 4) (boot : Nat) : State :=
  let s := s.blockEvent (lnkBase n) (0x2008 + 256 * n.val) 3 boot 0
  let owe := if s.nodeType n == 2 || !s.on (F.MSK_CTRL_HARD_EN n) then [] else (List.range 64).filter fun k => s.hardLive n k
  let s := s.modLink n fun l => { l with retabled := true, oweTabs := 15, oweMasks := owe }
  ((s.send n 5 (s.arrayParams n)).ampResend n).maskResend n

/-- A released STATUS packet (R267, R253, R274, R275, R211). -/
def status (s : State) (n : Fin 4) (p : List Byte) : State :=
  let flags := byteAt p 1
  let boot := byteAt p 2
  let s := s.put (R.LNK_NODE_STAT n) (le32 p 0)
  let s := (s.wrB (F.LNK_STATUS_F0_LOCK n) (bit flags 2)).wrB (F.LNK_STATUS_F1_LOCK n) (bit flags 3)
  let s := (s.wr (F.LNK_STATUS_NODE_BOOT n) boot).wr (F.LNK_CNT2_CS_ERR n) (min 32767 (le16 p 4))
  let s := if bit flags 0 then
      let s := s.wr (F.SRC_STATUS_PARKED n) 1
      match s.sys.park with
      | some k =>
        if bit k.mask n.val && !bit k.parked n.val then
          let k' : Park := { k with parked := setBit k.parked n.val true, lastTick := s.tb.toNat, lastSub := s.subNow }
          (s.modSys fun y => { y with park := some k' }).stamped
        else s
      | none => s
    else s
  if !s.linkUp n then s
  else
    let lanes := s.rd (F.LNK_MODE_LANES n)
    let was := (s.ch n).link.boot
    let s := s.modLink n fun l => { l with boot := some boot }
    if !bit flags 2 || (lanes == 2 && !bit flags 3) then s.linkDown n 3
    else if byteAt p 0 = 0 then s.linkDown n 7
    else
      let s := if !bit flags 1 then s.replayStop n 4 else s
      if was.isSome && was != some boot then s.nodeReset n boot else s

/-- Reset time of lit slot m in units from the start of the field in progress; negative once passed. -/
def resetIn (s : State) (n : Fin 4) (m : Nat) : Int :=
  let all := ((List.range (s.strmFields n)).map fun f =>
    ((s.slotTimes n f).filter fun q => q.2.2.lit).map fun q => f * s.get (R.BPF_FIELD_T n) + q.1).flatten
  (all.getD m 0 : Int) - (s.rd (F.BPF_STATUS_FIELD n) * s.get (R.BPF_FIELD_T n) : Nat)

/-- A NAKed BLOCK packet (R272). -/
def nakBlock (s : State) (n : Fin 4) (t : Tx) : State :=
  let m := byteAt t.payload 0
  let b := byteAt t.payload 1
  let due := s.resetIn n m - (s.rdS (F.BPF_BLK_CFG_BLOCKS n) * s.rdS (F.BPF_BLK_CFG_T_MB n) : Nat)
  let fitsIn := decide (((s.fieldTime n + s.rdS (F.BPF_BLK_TIME_T_BLK n) : Nat) : Int) ≤ due)
  match (s.litSlots n)[m]? with
  | some (f, x) =>
    if (s.ch n).link.replay.any (fun r => r.seq == t.seq) && s.on (F.LNK_CTRL_REPLAY_EN n) && fitsIn && !s.blockBad n f x.plane b then
      let s := s.send n 2 (s.blockPayload n m f x.plane b (byteAt t.payload 3 % 8 ||| 2))
      let s := s.modBpf n fun b => { b with replays := b.replays + 1 }
      (s.incSat (F.LNK_CNT0_REPLAYED n)).logEvent (0x2002 + 256 * n.val) 1 m b
    else (s.incSat (F.LNK_CNT0_HELD n)).blockEvent (lnkBase n) (0x2003 + 256 * n.val) 3 m b
  | none => (s.incSat (F.LNK_CNT0_HELD n)).blockEvent (lnkBase n) (0x2003 + 256 * n.val) 3 m b

/-- The answer to one NAKed packet (R265, R272, R273); a SYNC sent again carries the LT at its own START (R266). -/
def nakOne (s : State) (n : Fin 4) (seq : Nat) : State :=
  match (s.ch n).link.tx.find? fun t => t.seq == seq with
  | none => s
  | some t =>
    match t.typ with
    | 1 => s.send n 1 (s.headerPayload n (s.rd (F.BPF_STATUS_FIELD n)) (s.ch n).fieldDark)
    | 2 => s.nakBlock n t
    | 3 => s.sendHard n (byteAt t.payload 0 % 64)
    | 7 => s.blockEvent (lnkBase n) (0x2003 + 256 * n.val) 3 (le16 t.payload 0) 0xFFFF
    | k => if k = 8 ∧ byteAt t.payload 0 = 2 then s.sendSync n else s.send n k t.payload

/-- A released NAK: 1 to 8 SEQ values. -/
def nak (s : State) (n : Fin 4) (p : List Byte) : State :=
  (p.take 8).foldl (fun s q => s.nakOne n q.toNat) (s.incSat (F.LNK_CNT1_NAKS n))

/-- Back-lane loss while UP or in REPLAY (R274). -/
def backLoss (s : State) (n : Fin 4) (reason : Nat) : State := if s.linkUp n then s.linkDown n reason else s

end State

open Host (Outcome)

/-- BACK_SENSOR (R316). -/
def execBackSensor (n : Chan) (arr : Arrival) (stamp : Nat) (payload : List Byte) (s : State) : Outcome State Fault Refusal :=
  .next (s.released n arr 0x81 payload fun s => s.sensorPacket n stamp payload)

/-- BACK_NAK (R272, R273). -/
def execBackNak (n : Chan) (arr : Arrival) (payload : List Byte) (s : State) : Outcome State Fault Refusal :=
  .next (s.released n arr 0x83 payload fun s => s.nak n payload)

/-- BACK_MASK_ACK (R230). -/
def execBackMaskAck (n : Chan) (arr : Arrival) (payload : List Byte) (s : State) : Outcome State Fault Refusal :=
  .next (s.released n arr 0x84 payload fun s => s.maskAck n (byteAt payload 0) (byteAt payload 1))

/-- BACK_TABLE_ACK (R245). -/
def execBackTableAck (n : Chan) (arr : Arrival) (payload : List Byte) (s : State) : Outcome State Fault Refusal :=
  .next (s.released n arr 0x85 payload fun s => s.tableAck n (byteAt payload 0) (byteAt payload 1))

/-- BACK_CACHE_ACK (R210). -/
def execBackCacheAck (n : Chan) (arr : Arrival) (payload : List Byte) (s : State) : Outcome State Fault Refusal :=
  .next (s.released n arr 0x86 payload fun s => s.cacheAck n (byteAt payload 0) (byteAt payload 1))

/-- BACK_CAPABILITY (R268, R270). -/
def execBackCapability (n : Chan) (bytes : List Byte) (s : State) (arr : Arrival := .inTime) : Outcome State Fault Refusal :=
  .next (s.released n arr 0x87 bytes fun s => s.backCapability n bytes)

/-- BACK_ECHO (R270); the ECHO's figures go into the measured delays, which the manual leaves to the device. -/
def execBackEcho (n : Chan) (payload : List Byte) (s : State) (arr : Arrival := .inTime) : Outcome State Fault Refusal :=
  .next (s.released n arr 0x88 payload fun s => s.backEcho n)

/-- BACK_EYE (R270). -/
def execBackEye (n : Chan) (payload : List Byte) (backPass : Bool) (s : State) (arr : Arrival := .inTime) : Outcome State Fault Refusal :=
  .next (s.released n arr 0x89 payload fun s => s.backEye n payload backPass)

/-- BACK_SYNC_LOSS (R274 reason 1). -/
def execBackSyncLoss (n : Chan) (s : State) : Outcome State Fault Refusal :=
  .next (if s.subStill n 8 then s else (s.wr (F.LNK_STATUS_B_LOCK n) 0).backLoss n 1)

/-- BACK_SILENCE (R274 reason 2). -/
def execBackSilence (n : Chan) (s : State) : Outcome State Fault Refusal := .next (if s.subStill n 8 then s else s.backLoss n 2)

/-- CAP_REQ_REPEAT (R270 step 1). -/
def execCapReqRepeat (n : Chan) (s : State) : Outcome State Fault Refusal :=
  .next (match s.neg n with
    | some g => if !g.retrain && g.step == 1 && !s.subStill n 8 then s.mgmt n 1 [] else s
    | none => s)

/-- CAPABILITY_TIMEOUT (R274 reason 4). -/
def execCapabilityTimeout (n : Chan) (s : State) : Outcome State Fault Refusal :=
  .next (match s.neg n with
    | some g => if !g.retrain && g.step == 1 && !s.subStill n 8 then s.linkDown n 4 else s
    | none => s)

/-- TRAIN_SWITCH (R270, R276). -/
def execTrainSwitch (n : Chan) (s : State) : Outcome State Fault Refusal := .next (if s.subStill n 8 then s else s.trainSwitch n)

/-- EYE_TIMEOUT (R270), with the device's measurement of the back lane. -/
def execEyeTimeout (n : Chan) (s : State) (backPass : Bool := true) : Outcome State Fault Refusal :=
  .next (if s.subStill n 8 then s else s.eyeTimeout n backPass)

/-- RETRAIN_START (R276). -/
def execRetrainStart (n : Chan) (s : State) : Outcome State Fault Refusal := .next (if s.subStill n 8 then s else s.retrainStart n)

/-- BACK_LANE_SYNC_GAINED (R281). -/
def execBackLaneSyncGained (n : Chan) (s : State) : Outcome State Fault Refusal :=
  .next (if s.linkState n == 0 || s.subStill n 8 then s else s.wr (F.LNK_STATUS_B_LOCK n) 1)

end Sys2Proof.Machine
end

