-- ==== Sys2Proof/Machine/Frame.lean ====
section
/-! DEFINITION. Frame timing of a channel and of the frame-lock group, commits and their banks, and the Bell (chapter 01,
and R155–R161 and R172 of chapter 07). -/

namespace Sys2Proof.Machine

/-- Addresses of the sub-blocks of channel n that hold RWS fields: FETCH to SRC (R27). -/
def rwsRange (n : Fin 4) (a : Nat) : Bool := decide (lecBase n ≤ a ∧ a < lecBase n + 0x10000)

namespace State

/-! ### Commits (R26–R30) -/

/-- The configuration under which the period before composed a frame governs its streaming (R26–R28, log entry 97): the
streaming stage holds all of it, of which its own fields and the trajectory size act (R27, R208). -/
def toStream (s : State) (n : Fin 4) : State :=
  (s.setStrm (bankCopy (rwsRange n) (s.ch n).work s.strm)).modCh n fun c =>
    { c with cfgStrm := c.cfgWork, trajStrm := c.trajWork }

/-- Rings that neither the composition stages, nor a bank before them, nor the last commit name are freed, and a receiver
without one is disabled (R149, R151). -/
def ringsTrim (s : State) : State :=
  let named := fun (r : Ring) => chans.any fun n =>
    let has := fun (o : Option Cfg) => match o with
      | some c => chans.any fun x => c.bind.get x == some (r.rx, r.v, r.page)
      | none => false
    has (s.ch n).cfgNew || has (s.ch n).cfgPend || has (s.ch n).cfgComp
  (s.modFw fun w => { w with rings := s.fw.rings.filter named }).csiEnable

/-- A running member leaves or waits: LOCKED in both registers. -/
def setLocked (s : State) (n : Fin 4) (b : Bool) : State :=
  (s.wr F.SYS_FLOCK_STATUS_LOCKED (setBit (s.rd F.SYS_FLOCK_STATUS_LOCKED) n.val b)).wrB (F.LEC_STATUS_LOCKED n) b

/-- In-force frame-lock settings. -/
def flMember (s : State) (n : Fin 4) : Bool := bit (s.rdA F.SYS_FLOCK_MEMBERS) n.val
def flLeader (s : State) : Fin 4 := chan (s.rdA F.SYS_FLOCK_LEADER)
def flRef (s : State) : Nat := s.rdA F.SYS_FLOCK_REF

/-- A group frame start is due: a member runs, and with REF 0 the leader does (R23). -/
def flDue (s : State) : Bool :=
  (chans.any fun n => s.flMember n && s.on (F.LEC_STATUS_RUNNING n)) &&
  (s.flRef != 0 || (s.flMember s.flLeader && s.on (F.LEC_STATUS_RUNNING s.flLeader)))

/-- Running members that are not locked replace their frame by a dark field until the group frame start (R24). -/
def flJoin (s : State) : State :=
  if !s.flDue then s
  else chans.foldl (fun s n =>
    if s.flMember n && s.on (F.LEC_STATUS_RUNNING n) && !s.on (F.LEC_STATUS_LOCKED n) &&
        !(s.flRef == 0 && n == s.flLeader) then
      let s := s.modCh n fun c => { c with join := true, fieldDark := true }
      if s.rd (F.BPF_STATUS_STATE n) = 0 then s else s.wr (F.BPF_STATUS_STATE n) 2
    else s) s

/-- The written frame-lock settings take effect (R23, R24). -/
def flApply (s : State) : State :=
  let ref := s.flRef
  let lead := s.flLeader
  let v := s.get R.SYS_FLOCK
  let s := (s.setActv (sset regReset s.actv R.SYS_FLOCK (BitVec.ofNat 32 v))).modSys fun y => { y with flockNew := false }
  let moved := decide (s.flRef ≠ ref) || s.flLeader != lead
  let y : Sys := { s.sys with flockOk := 0, flockMiss := 0, flockOdd := false, flockFirst := s.flRef != 0 }
  let s : State := if moved then ((s.wr F.SYS_FLOCK_STATUS_REF_OK 0).modSys fun _ => y) else s
  let s := chans.foldl (fun s n =>
    let was := s.on (F.LEC_STATUS_LOCKED n)
    let s : State := if was && !s.flMember n then
        (s.setLocked n false).logEvent (0x1014 + 256 * n.val) 1 0 2
      else if was && moved then s.setLocked n false else s
    if s.flMember n then s else s.modCh n fun c => { c with join := false }) s
  s.flJoin

/-- A write of SYS_FLOCK (R23). -/
def flWrite (s : State) (v : Nat) : State :=
  let ref := s.rd F.SYS_FLOCK_REF
  let s := s.plainWrite R.SYS_FLOCK v
  let s := if s.rd F.SYS_FLOCK_REF = ref then s else s.wr F.SYS_FLOCK_STATUS_MISSED 0
  if s.flDue then (s.modSys fun y => { y with flockNew := true }) else s.flApply

/-- The frame-lock settings of a channel's configuration are written when its composition opens (R121). -/
def flFrom (s : State) (n : Fin 4) : State :=
  match (s.ch n).cfgComp with
  | none => s
  | some c =>
    let old := s.get R.SYS_FLOCK
    let v := setBit old n.val c.member
    let v := if c.leader then setBits (setBits v 4 2 c.ref) 8 2 n.val else v
    if v = old then s else s.flWrite v

/-- DONE of the commits whose channels and ports have all taken their configuration (R131). -/
def commitsDone (s : State) : State :=
  let fin := s.fw.commits.filter fun c => c.await == 0 && c.ports == 0
  let s := s.modFw fun w => { w with commits := s.fw.commits.filter fun c => !(c.await == 0 && c.ports == 0) }
  s.forEach fin fun s c => s.doneOpt c.tag stOK 0

/-- Channel n streams the frame now shown by LEC_FRAME_COUNT, or has stopped: its commits have reached their targets. -/
def commitTick (s : State) (n : Fin 4) (stopped : Bool) : State :=
  let now := s.get (R.LEC_FRAME_COUNT n)
  let f := fun (c : CommitRun) =>
    if stopped || decide ((now + 2 ^ 32 - c.targets.get n) % 2 ^ 32 < 2 ^ 31) then { c with await := setBit c.await n.val false } else c
  (s.modFw fun w => { w with commits := s.fw.commits.map f }).commitsDone

/-- Port n takes its configuration at its swap. -/
def portTick (s : State) (n : Fin 4) : State :=
  (s.modFw fun w => { w with commits := s.fw.commits.map fun c => { c with ports := setBit c.ports n.val false } }).commitsDone

/-- The raster starts (R29). -/
def rasterStart (s : State) (n : Fin 4) : State :=
  let s := ((s.wr (F.LEC_STATUS_RUNNING n) 1).wr (F.LEC_LINE_LINE n) 0).modCh n fun c =>
    { c with starting := false, afterLatch := false, composing := false, composed := false, held := false, link := { c.link with idle := false } }
  (s.lampUpdate n).flJoin

/-- The raster starts if RUN is 1, a frame rate and row count are committed, and no release of the LEC waits (R29, R66). -/
def tryStart (s : State) (n : Fin 4) : State :=
  if s.on (F.LEC_CTRL_RUN n) && !s.on (F.LEC_STATUS_RUNNING n) then
    (if (s.ch n).cfgComp.isSome && !bit s.rst.lecWait n.val then s.rasterStart n else s.modCh n fun c => { c with starting := true })
  else s.modCh n fun c => { c with starting := false }

/-- Does a change of configuration change the timetable (R22, R160, R215)? -/
def ttChange (a b : Option Cfg) (old new : Nat × Nat) : Bool :=
  (match a, b with
   | some x, some y => x.tt != y.tt || x.d1 != y.d1
   | _, _ => false) || old != new

/-- The words of the streaming stage that a timetable change is seen by: BPF_TT_CTRL and FIELDS3 (R215). -/
def ttWords (s : State) (n : Fin 4) : Nat × Nat := (s.getS (R.BPF_TT_CTRL n), s.rdS (F.BPF_CTRL_FIELDS3 n))

/-- The target frame of a commit: a channel that R442 holds dark lights again, if a COMMIT naming it has passed. -/
def relit (s : State) (n : Fin 4) : State :=
  if (s.ch n).link.relight then s.modLink n fun l => { l with unlit := false, relight := false } else s

/-- The given bank and configuration move into all active stages (R29); `commit` tells whether they come of a commit. -/
def moveAll (s : State) (n : Fin 4) (bank : RegFile) (cfg : Option Cfg) (commit : Bool) : State :=
  let was := s.onS (F.SRC_DERATE_CFG_ARMED n)
  let old := s.ttWords n
  let cfgOld := (s.ch n).cfgStrm
  let s := s.setComp (bankCopy (rwsRange n) bank s.comp)
  let s := (s.ampTransfer n).modCh n fun c => { c with cfgPend := cfg, cfgComp := cfg }
  let s := ((s.workLoad n).toStream n).modCh n fun c => { c with newComp := false, newWork := false, recompose := commit }
  let s := s.lawUpdate n was
  let s := if ttChange cfgOld cfg old (s.ttWords n) then s.modTut n fun u => { u with trim := [] } else s
  let s := match cfg with
    | some c => s.wr (F.LEC_TRANSFER_LINE_LINE n) c.rows
    | none => s
  let s := (s.patternCheck n (s.activeSize n)).linkTiming n
  let s := if commit then s.relit n else s
  (s.ringsTrim.flFrom n)

/-- The channel is stopped, or stops at its next frame start: a commit request moves the shadow at once (R29; log entry 98
on the time between the write of RUN = 0 and that frame start). -/
def halted (s : State) (n : Fin 4) : Bool := !s.on (F.LEC_STATUS_RUNNING n) || !s.on (F.LEC_CTRL_RUN n)

/-- A commit request reaches a channel (R28, R29). -/
def commitReq (s : State) (n : Fin 4) : State :=
  let now := s.get (R.LEC_FRAME_COUNT n)
  if s.halted n then
    let s := (s.maskLatch n).moveAll n s.regs (s.ch n).cfgNew true
    let s := (s.wr (F.LEC_COMMIT_STATUS_PENDING n) 0).wr (F.LEC_COMMIT_STATUS_LATCHED n) 0
    (s.wr (F.LEC_COMMIT_STATUS_TARGET n) ((now + 1) % 2 ^ 24)).tryStart n
  else
    let s := if s.on (F.LEC_COMMIT_STATUS_PENDING n) then s.wr (F.LEC_COMMIT_STATUS_MERGED n) 1 else s
    (s.wr (F.LEC_COMMIT_STATUS_PENDING n) 1).wr (F.LEC_COMMIT_STATUS_TARGET n)
      ((now + (if (s.ch n).afterLatch then 3 else 2)) % 2 ^ 24)

/-- The frame number a request of now would target (R28, R29). -/
def targetNow (s : State) (n : Fin 4) : Nat :=
  (s.get (R.LEC_FRAME_COUNT n) + (if s.halted n then 1 else if (s.ch n).afterLatch then 3 else 2)) % 2 ^ 32

/-- The latch point, from which GUARD reads 1 (R26), and the copy of an armed commit. -/
def latch (s : State) (n : Fin 4) : State :=
  let s := (s.modCh n fun c => { c with afterLatch := true }).wr (F.LEC_STATUS_GUARD n) 1
  if s.on (F.LEC_COMMIT_STATUS_PENDING n) then
    let s := s.setPend (bankCopy (rwsRange n) s.regs s.pend)
    let s := s.modCh n fun c => { c with cfgPend := c.cfgNew }
    ((s.wr (F.LEC_COMMIT_STATUS_PENDING n) 0).wr (F.LEC_COMMIT_STATUS_LATCHED n) 1).maskLatch n
  else s

/-- Does the latch point fall on the frame start (R26)? -/
def latchAtStart (s : State) (n : Fin 4) : Bool :=
  decide (s.rd (F.LEC_TRANSFER_LINE_LINE n) < s.rd (F.LEC_COMMIT_CFG_COMMIT_GUARD n))

/-- LATCH_POINT. -/
def latchPoint (s : State) (n : Fin 4) : State :=
  if !s.on (F.LEC_STATUS_RUNNING n) || s.latchAtStart n then s
  else
    let s := s.wr (F.LEC_LINE_LINE n) (s.rd (F.LEC_TRANSFER_LINE_LINE n) - s.rd (F.LEC_COMMIT_CFG_COMMIT_GUARD n))
    s.latch n

/-- TRANSFER_LINE: FETCH has read the frame in composition, then the pending bank moves into the composition stage (R26,
R157, R212). -/
def transferLine (s : State) (n : Fin 4) : State :=
  if !s.on (F.LEC_STATUS_RUNNING n) then s
  else
    let s := (s.wr (F.LEC_LINE_LINE n) (s.rd (F.LEC_TRANSFER_LINE_LINE n))).wr (F.LEC_STATUS_VBLANK n) 1
    let s := if s.subStill n 2 then s else s.composeDraw n
    let s := if s.on (F.LEC_COMMIT_STATUS_LATCHED n) then
        (let s := s.setComp (bankCopy (rwsRange n) s.pend s.comp)
         let s := s.modCh n fun c => { c with cfgComp := c.cfgPend, recompose := true, newComp := true }
         (s.wr (F.LEC_COMMIT_STATUS_LATCHED n) 0).ringsTrim)
      else s
    s.patternCheck n (s.activeSize n)

/-! ### Frame starts (R18, R29, R155–R161, R172) -/

/-- The profile that governs a channel in LIMP (R41, R54). -/
def profileAt (s : State) (n : Fin 4) : Nat :=
  match s.sys.transit with
  | some t => if !bit t.await n.val && t.target == modeLIMP then t.profile else s.rd F.SYS_MODE_PROFILE
  | none => s.rd F.SYS_MODE_PROFILE

/-- The mode in force lets the channel compose (R29, R37, R55, R172). -/
def composes (s : State) (n : Fin 4) : Bool :=
  let m := s.modeOf n
  let spd := match s.sys.speed with
    | some c => decide (c.step = 5) || (decide (c.step = 1) && bit c.await n.val)
    | none => true
  spd && (m == modeREADY || m == modeDARKHOLD || m == modeBEAM || m == modePROJECT || m == modeSERVICE ||
    (m == modeSIGNATURE && s.nodeType n == 3) || (m == modeLIMP && s.profileAt n != 3) ||
    (m == modeSTATIC && (s.ch n).recompose))

/-- The end of a speed change (R55 step 5): every channel streams composed frames again; chains leave stored frames. -/
def speedEnd (s : State) : State :=
  match s.sys.speed with
  | some c =>
    if c.step = 5 ∧ c.await = 0 then
      chans.foldl (fun (s : State) n => (s.wr (F.CHN_CTRL_STORED n) 0).chnSync n) (s.modSys fun y => { y with speed := none })
    else s
  | none => s

/-- A transition or speed change no longer waits for a channel. -/
def noAwait (s : State) (n : Fin 4) : State :=
  let y : Sys := { s.sys with
    transit := s.sys.transit.map fun t => { t with await := setBit t.await n.val false }
    speed := s.sys.speed.map fun c => { c with await := setBit (setBit c.await n.val false) (4 + n.val) false } }
  (s.modSys fun _ => y).speedEnd

/-- The leader of a group with REF 0 stops: its members go back to their own periods (R23). -/
def groupEnd (s : State) : State :=
  chans.foldl (fun s k =>
    let s := if s.on (F.LEC_STATUS_LOCKED k) then s.setLocked k false else s
    if (s.ch k).join then s.modCh k fun c => { c with join := false } else s) s

/-- The channel stops at its frame start (R29, R236). -/
def channelStop (s : State) (n : Fin 4) : State :=
  let c := s.ch n
  let s : State := if s.on (F.LEC_COMMIT_STATUS_PENDING n) then (s.maskLatch n).moveAll n s.regs c.cfgNew true
    else if s.on (F.LEC_COMMIT_STATUS_LATCHED n) then s.moveAll n s.pend c.cfgPend true
    else s.moveAll n s.comp c.cfgComp false
  let s := (s.wr (F.LEC_COMMIT_STATUS_PENDING n) 0).wr (F.LEC_COMMIT_STATUS_LATCHED n) 0
  let s := (s.put (R.LEC_STATUS n) 0).setLocked n false
  let s := if (s.bp n).replay = 0 then s else s.replayQuit n (if (s.bp n).replayEnd = 0 then 2 else (s.bp n).replayEnd)
  let s := s.modCh n fun c => { c with composing := false, composed := false, join := false, fieldDark := true, held := false,
                                       patShown := false, dark := false, bpf := { c.bpf with pattern := false } }
  let s := (s.wr (F.BPF_STATUS_STATE n) 0).layersIdle n
  let s := (s.maskStop n).lampUpdate n
  let s := if s.flRef = 0 ∧ n = s.flLeader then s.groupEnd else s
  let s := if s.sys.flockNew && !s.flDue then s.flApply else s
  (s.noAwait n).commitTick n true

/-- Events and the dark field of a change of timing that reaches its target frame (R160, R161, R22, R215). -/
def timingChange (s : State) (n : Fin 4) (old new : Option Cfg) (ttOld : Nat × Nat) (k : Nat) : State :=
  match old, new with
  | some a, some b =>
    let geo := a.cols != b.cols || a.rows != b.rows || a.fields != b.fields
    let tt := ttChange old new ttOld (s.ttWords n)
    let no := (s.ch n).patShown
    let s := if tt then s.modTut n fun u => { u with trim := [] } else s
    if geo || tt then
      let s := s.logEvent (0x1013 + 256 * n.val) 1 k ((if geo then 1 else 2) + (if no then 0x80 else 0))
      if no then s else s.modCh n fun c => { c with dark := true, darkGeo := geo }
    else if a.rate != b.rate then s.logEvent (0x1015 + 256 * n.val) 0 b.rate 0
    else s
  | _, _ => s

/-- The frame that streams now was not composed in time (R359). -/
def notComposed (s : State) (n : Fin 4) : State :=
  let rows := match (s.ch n).cfgWork with | some c => max 1 c.rows | none => 1
  let s := (s.logEvent (0x1016 + 256 * n.val) 4 ((Config.openWord s.free).toNat % rows) 0).nextFree
  s.modCh n fun c => { c with dark := true }


/-- The shadow, which firmware has written for the new DRAM speed, enters the composition stage (R55 step 5). -/
def moveComp (s : State) (n : Fin 4) : State :=
  let s := s.setComp (bankCopy (rwsRange n) s.regs s.comp)
  s.modCh n fun c => { c with cfgComp := c.cfgNew, cfgPend := c.cfgNew }

/-- The speed change of R55 at a channel's frame start. -/
def speedFrame (s : State) (n : Fin 4) : State :=
  match s.sys.speed with
  | none => s
  | some c =>
    if c.step = 1 ∧ bit c.await n.val then
      let s := s.modSys fun y => { y with speed := some { c with await := setBit c.await n.val false } }
      if s.on (F.CMP_STATUS_PATTERN_OK n) then s else s.logEvent (0x1017 + 256 * n.val) 3 0 0
    else if c.step = 5 then
      if bit c.await n.val then (s.moveComp n).modSys fun y => { y with speed := some { c with await := setBit c.await n.val false } }
      else (s.modSys fun y => { y with speed := some { c with await := setBit c.await (4 + n.val) false } }).speedEnd
    else s

/-- A BOOT_LIGHT pattern that ran on into READY ends at the frame start (R80). -/
def tailEnd (s : State) (n : Fin 4) : State :=
  if s.mode != modeBOOT && bit s.rst.tail n.val then
    (s.modRst fun r => { r with tail := setBit s.rst.tail n.val false }).wr (F.BPF_SRCSEL_PATTERN n) 0
  else s

/-- A running channel's frame start opens period `count` (R18); `edge` tells whether an accepted reference edge gives it. -/
def period (s : State) (n : Fin 4) (count : Nat) (edge : Bool) : State :=
  let s := (s.truncated n (s.lastField n edge)).tailEnd n
  let c := s.ch n
  let was := s.onS (F.SRC_DERATE_CFG_ARMED n)
  let ttOld := s.ttWords n
  let s := match s.sys.transit with
    | some t => s.modSys fun y => { y with transit := some { t with await := setBit t.await n.val false } }
    | none => s
  let s := s.modCh n fun c => { c with dark := false, darkGeo := false,
                                       patShown := s.sys.speed.isSome && c.bpf.pattern }
  let s := s.put (R.LEC_FRAME_COUNT n) count
  let s := (((s.toStream n).timingChange n c.cfgStrm c.cfgWork ttOld count).ampFrame n).lawUpdate n was
  let s := if c.newWork then s.relit n else s
  let s := s.linkTiming n
  let late := c.composing && !c.composed
  let held := s.modeOf n == modeSTATIC
  let late := late && !(held && !c.held)
  let s := if late then s.notComposed n else s
  let fresh := held && (!c.held || (c.composing && c.composed))
  let s := s.modCh n fun c => { c with fbuf := if c.composing && c.composed then count % 2 == 1 else c.fbuf, held := held }
  let s := s.speedFrame n
  let s := s.bpfFrame n fresh
  let s := match s.sys.speed with
    | some c => if c.step = 5 ∧ !bit c.await n.val then s.wr (F.BPF_SRCSEL_PATTERN n) 0 else s
    | none => s
  let s := s.maskFrame n
  let s := s.modTut n fun u => { u with injFrame := true }
  let s := if c.src.unpark then
      ((s.wr (F.SRC_STATUS_PARKED n) 0).modSrc n fun r => { r with parkSet := false, unpark := false, parkDark := true }).chnOe n else s
  let s := (s.ampTransfer n).workLoad n
  let s : State := if s.composes n && (s.ch n).cfgComp.isSome then
      (if s.modeOf n == modeSTATIC then s.replayStop n 1 else s).composeStart n else s.composeIdle n
  let s := s.modCh n fun c => { c with recompose := false, afterLatch := false }
  let s := match (s.ch n).cfgComp with
    | some q => s.wr (F.LEC_TRANSFER_LINE_LINE n) q.rows
    | none => s
  let s := ((s.wr (F.LEC_LINE_LINE n) 0).wr (F.LEC_STATUS_VBLANK n) 0).wr (F.LEC_STATUS_GUARD n) 0
  let s := if s.latchAtStart n then s.latch n else s
  ((s.lampUpdate n).commitTick n false).flFrom n

/-- A channel's frame start with the frame number it opens. -/
def frameAt (s : State) (n : Fin 4) (count : Nat) (edge : Bool) : State :=
  if s.on (F.LEC_CTRL_RUN n) then s.period n count edge else (s.tailEnd n).channelStop n

/-- The next frame number of a channel. -/
def nextCount (s : State) (n : Fin 4) : Nat := (s.get (R.LEC_FRAME_COUNT n) + 1) % 2 ^ 32

/-- The frame number a group frame start opens (R23, R24): the leader's next one, or, while the leader of a group with a
reference is stopped, that of the members it has left (log entry 99). -/
def groupCount (s : State) : Nat :=
  if s.on (F.LEC_STATUS_RUNNING s.flLeader) then s.nextCount s.flLeader
  else match chans.find? fun n => s.flMember n && s.on (F.LEC_STATUS_RUNNING n) && s.on (F.LEC_STATUS_LOCKED n) with
    | some n => s.nextCount n
    | none => s.nextCount s.flLeader

/-- A member's frame start at a group frame start: one that joins is reported and copies the count (R24). -/
def memberStart (s : State) (n : Fin 4) (count : Nat) (edge : Bool) : State :=
  if s.flMember n && s.on (F.LEC_STATUS_RUNNING n) then
    let was := s.on (F.LEC_STATUS_LOCKED n)
    let s := if was then s else (s.setLocked n true).logEvent (0x1014 + 256 * n.val) 1 0 1
    (s.modCh n fun c => { c with join := false }).frameAt n count edge
  else s

/-- A group frame start (R23, R24): every running member starts its frame, the leader last.  Where the leader of a group
with REF 0 stops at it, no member joins, and those that were locked go on alone. -/
def groupStart (s : State) (edge : Bool) : State :=
  let lead := s.flLeader
  let count := s.groupCount
  let ends := s.flRef == 0 && !s.on (F.LEC_CTRL_RUN lead)
  let s := s.modSys fun y => { y with flockOdd := false }
  let s := chans.foldl (fun s n =>
    if n != lead && (!ends || s.on (F.LEC_STATUS_LOCKED n)) then s.memberStart n count edge else s) s
  let s := s.memberStart lead count edge
  if s.sys.flockNew then s.flApply else s

/-- FRAME_START of a channel's own raster (R18, R23, R24). -/
def frameStart (s : State) (n : Fin 4) : State :=
  if !s.on (F.LEC_STATUS_RUNNING n) then s
  else if s.flMember n && s.flRef == 0 && n == s.flLeader then s.groupStart false
  else if s.on (F.LEC_STATUS_LOCKED n) || (s.ch n).join then s
  else s.frameAt n (s.nextCount n) false

/-- An LSYNC_IN edge (R25, R294). -/
def lsyncEdge (s : State) (i : Fin 2) (ok : Bool) : State :=
  let s := if i = 0 then chans.foldl (fun s n => s.seqEdge n) s else s
  if s.flRef ≠ i.val + 1 ∨ !s.flDue then s
  else if ok || s.sys.flockFirst then
    let s := s.modSys fun y => { y with flockFirst := false, flockMiss := 0, flockOk := s.sys.flockOk + 1 }
    let s := if !s.on F.SYS_FLOCK_STATUS_REF_OK && decide (2 ≤ s.sys.flockOk) then
        (s.wr F.SYS_FLOCK_STATUS_REF_OK 1).logEvent 0x0115 1 s.flRef 0
      else s
    s.groupStart true
  else ((s.incSat F.SYS_FLOCK_STATUS_MISSED).modSys fun y => { y with flockOk := 0, flockOdd := true })

/-- No edge was accepted at the expected time (R25). -/
def lsyncMissing (s : State) : State :=
  if s.flRef = 0 ∨ !s.flDue ∨ s.sys.flockFirst then s
  else
    let s := if s.sys.flockOdd then s else s.incSat F.SYS_FLOCK_STATUS_MISSED
    let s := s.modSys fun y => { y with flockOk := 0, flockMiss := s.sys.flockMiss + 1 }
    let s := if s.sys.flockMiss = 4 then (s.wr F.SYS_FLOCK_STATUS_REF_OK 0).blockEvent sysBase 0x0114 3 s.flRef 0 else s
    s.groupStart false

/-! ### The Bell (R34, R35, R376) -/

/-- Snapshot of the selected units, before any commit of the strobe. -/
def bellSnap (s : State) (v : Nat) : State :=
  let st := s.tb.toNat * 1024 + s.subNow
  let s := (s.put R.SYS_BELL_TS_LO (st % 2 ^ 32)).put R.SYS_BELL_TS_HI (st / 2 ^ 32 % 2 ^ 24 + b2n s.aon.subOk * 2 ^ 24)
  let s := s.stamped
  let s := s.forMask (v % 16) fun s n =>
    (s.put (R.LEC_SNAP_FRAME n) (s.get (R.LEC_FRAME_COUNT n))).put (R.LEC_SNAP_LINE n) (s.get (R.LEC_LINE n))
  let s := if bit v 4 then ([0, 1] : List (Fin 2)).foldl (fun s c =>
      (((s.put (R.DMC_SNAPk c 0) (s.get (R.DMC_ECC_CNT c))).put (R.DMC_SNAPk c 1) (s.get (R.DMC_CA_CNT c))).put (R.DMC_SNAPk c 2)
        (s.get (R.DMC_RD_CNT c))).put (R.DMC_SNAPk c 3) (s.get (R.DMC_PM_CNT c))) s else s
  if bit v 5 then chans.foldl (fun s n =>
    (s.wr (F.CHN_SNAP_SEQ n) (s.rd (F.CHN_SEQ_SEQ n))).wr (F.CHN_SNAP_SWAPS n) (s.cn n).swaps) s else s

/-- Commit of the selected units. -/
def bellCommit (s : State) (v : Nat) : State :=
  let s := s.forMask (v % 16) fun s n => s.commitReq n
  let s := if bit v 4 then (s.setActv (bankCopy (fun a => decide (0x40200000 ≤ a ∧ a < 0x40220000)) s.regs s.actv)) else s
  if bit v 5 then chans.foldl (fun s n => s.chnCommit n) s else s

/-- The strobe. -/
def bellStrobe (s : State) : State :=
  match s.sys.bell with
  | none => s
  | some v =>
    let s := (s.modSys fun y => { y with bell := none }).wr F.SYS_BELL_STATUS_BUSY 0
    let s := if bit v 9 then s.bellSnap v else s
    if bit v 8 then s.bellCommit v else s

/-- A write of SYS_BELL. -/
def bellWrite (s : State) (v : Nat) : State :=
  if s.on F.SYS_BELL_STATUS_BUSY then (s.wr F.SYS_BELL_STATUS_LOST 1).blockEvent sysBase 0x0109 2 0 0
  else if (bit v 8 || bit v 9) && v % 64 != 0 then
    (s.modSys fun y => { y with bell := some (v % 1024) }).wr F.SYS_BELL_STATUS_BUSY 1
  else s

/-- Firmware writes the Bell and waits for its strobe; a write still awaiting its strobe goes first. -/
def fwBell (s : State) (v : Nat) : State := (s.bellStrobe.bellWrite v).bellStrobe

/-- A write of LEC_CTRL (R29). -/
def runWrite (s : State) (n : Fin 4) (v : Nat) : State := (s.plainWrite (R.LEC_CTRL n) v).tryStart n

end State

open Host (Outcome)

/-- FRAME_START (R18). -/
def execFrameStart (n : Chan) (s : State) : Outcome State Fault Refusal :=
  .next (if s.subStill n 12 then s else s.frameStart n)

/-- LATCH_POINT (R26). -/
def execLatchPoint (n : Chan) (s : State) : Outcome State Fault Refusal :=
  .next (if s.subStill n 12 then s else s.latchPoint n)

/-- TRANSFER_LINE (R26). -/
def execTransferLine (n : Chan) (s : State) : Outcome State Fault Refusal :=
  .next (if s.subStill n 12 then s else s.transferLine n)

/-- LEC_COMMIT_GO (R32): a write of LEC_COMMIT. -/
def execLecCommitGo (n : Chan) (v : Word) (s : State) : Outcome State Fault Refusal :=
  .next (if bit v.toNat 0 && !s.subHeld n 12 then s.commitReq n else s)

/-- LEC_RUN_WRITE (R29): a write of LEC_CTRL. -/
def execLecRunWrite (n : Chan) (v : Word) (s : State) : Outcome State Fault Refusal := .next (if s.subHeld n 12 then s else (s.runWrite n v.toNat))

/-- BELL_WRITE (R34, R35): a write of SYS_BELL. -/
def execBellWrite (v : Word) (s : State) : Outcome State Fault Refusal := .next (s.bellWrite v.toNat)

/-- BELL_STROBE (R34): 12 control-clock cycles after the write. -/
def execBellStrobe (s : State) : Outcome State Fault Refusal := .next (if s.stood 242 242 then s else s.bellStrobe)

/-- FRAME_LOCK_WRITE (R23): a write of SYS_FLOCK. -/
def execFrameLockWrite (v : Word) (s : State) : Outcome State Fault Refusal := .next (s.flWrite v.toNat)

/-- LSYNC_IN_EDGE (R25): a rising edge of LSYNC_IN[i]. -/
def execLsyncInEdge (i : Duo) (inWindow : Bool) (s : State) : Outcome State Fault Refusal := .next (if s.stood 242 242 then s else (s.lsyncEdge i inWindow))

/-- LSYNC_EDGE_MISSING (R25). -/
def execLsyncEdgeMissing (s : State) : Outcome State Fault Refusal := .next (if s.stood 242 242 then s else s.lsyncMissing)

/-- CHAIN_SWAP_POINT (R293). -/
def execChainSwapPoint (n : Chan) (s : State) : Outcome State Fault Refusal :=
  .next (if s.subStill n 9 then s else (s.swapPoint n).portTick n)

end Sys2Proof.Machine
end

