-- ==== Sys2Proof/Machine/Commit.lean ====
section
/-! DEFINITION. Firmware's part of a COMMIT (R31, R113, R131): the shadows written from the stage, the bindings of the
receivers, the chains, and the issue. -/

namespace Sys2Proof.Machine

/-- Offsets of the words of a register map row. -/
def rowOffs (r : RegSpec) : List Nat :=
  r.dims.foldl (fun os d => (os.map fun o => (List.range d.1).map fun i => o + i * d.2).flatten) [r.off]

/-- The rows of a channel window with RWS fields, but for those of the chain port. -/
def rwsRows : List RegSpec := lecRegs.filter fun r => decide (r.off < 0x10000) && r.fields.any fun f => f.acc = .rws

/-- RWS bits of a word replaced. -/
def rwsMerge (old new : Nat) (f : FieldSpec) : Nat :=
  if f.acc = .rws then setBits old f.lo (f.hi - f.lo + 1) (bits new f.lo (f.hi - f.lo + 1)) else old

/-- Identity matrix entry i. -/
def identityAt (i : Nat) : Nat := if i % 5 = 0 then 4096 else 0

/-- The step of a scaler: crop size over destination size, Q4.16, rounded (R178). -/
def sclStep (src dst : Nat) : Nat := roundDiv (src * 65536) (max 1 dst)
/-- The initial phase that aligns pixel centres (R178). -/
def sclPhase (step : Nat) : Nat := unsigned (roundAway ((step : Int) - 65536) 2) 21

/-- An answer: state, status code, detail code, bytes after the status word. -/
structure Ans where
  s : State
  st : Nat
  detail : Nat
  data : List Byte
  deriving DecidableEq, Repr

namespace State

/-- Write a list of fields. -/
def wrs (s : State) (l : List (Fld × Nat)) : State := l.foldl (fun s p => s.wr p.1 p.2) s

/-- The stage of channel n over its shadows; the bank selections are those firmware last wrote (R113, R180). -/
def shadowCopy (s : State) (m : Stage) (n : Fin 4) : State :=
  let q := s.fw.banks.get n
  let s := rwsRows.foldl (fun s r => (rowOffs r).foldl (fun s o =>
    let a := lecBase n + o
    s.put a (r.fields.foldl (fun v f => rwsMerge v (m.reg a) f) (s.get a))) s) s
  (s.wr (F.CMP_CTRL_LUT_BANK n) q.1).put (R.BPF_TT_CTRL n) q.2

/-- Firmware takes note of the bank selections it has written. -/
def noteBanks (s : State) (n : Fin 4) : State :=
  s.modFw fun w => { w with banks := s.fw.banks.set n (s.rd (F.CMP_CTRL_LUT_BANK n), s.get (R.BPF_TT_CTRL n)) }

/-- Entries 0–11 of a COLOUR_MATRIX asset, or identity (R191). -/
def matrixOf (s : State) (id : Nat) : List Nat :=
  match s.asset id with
  | some a => if id = 0 then (List.range 12).map identityAt
    else (List.range 12).map fun i => leNat (s.assetBytes a (16 + 4 * i) 4) % 2 ^ 18
  | none => (List.range 12).map identityAt

/-- The shadows of one layer (R122, R163–R165, R175). -/
def layerShadow (s : State) (m : Stage) (n x : Fin 4) : State :=
  let src := m.laySrc n x
  let fmt := m.layFmt n x
  let (b0, b1, st) := if src = 0 then
      match s.asset (m.layId n x) with
      | some a =>
        match imageAt a with
        | some o =>
          let h := s.assetBytes a o 16
          let b := a.page * 4096 + o + 64
          (b, b + le32 h 12, le32 h 8)
        | none => (0, 0, 64)
      | none => (0, 0, 64)
    else (0, 0, ceilDiv (m.layW n x 0 * fmtBytes fmt) 64 * 64)
  let tag := if src = 0 then 0 else s.bindTag (duo (src - 1)) (m.layId n x)
  let s := s.wrs [(F.FETCH_Lx_CFG_EN n x.val, b2n (m.layOn n x)), (F.FETCH_Lx_CFG_REQUIRE_FRESH n x.val, b2n (m.layFresh n x)),
    (F.FETCH_Lx_CFG_SRC n x.val, src), (F.FETCH_Lx_CFG_FMT n x.val, fmt), (F.FETCH_Lx_CFG_TAG n x.val, tag),
    (F.FETCH_Lx_CFG_TIMEOUT n x.val, byteAt (m.lay n x) 7), (F.FETCH_Lx_BASE0_ADDR n x.val, b0 / 64),
    (F.FETCH_Lx_BASE1_ADDR n x.val, b1 / 64), (F.FETCH_Lx_STRIDE_BYTES n x.val, st),
    (F.FETCH_Lx_SRC_SIZE_WIDTH n x.val, m.layW n x 0), (F.FETCH_Lx_SRC_SIZE_HEIGHT n x.val, m.layW n x 1),
    (F.FETCH_Lx_CROP_POS_X n x.val, m.layW n x 2), (F.FETCH_Lx_CROP_POS_Y n x.val, m.layW n x 3),
    (F.FETCH_Lx_CROP_SIZE_WIDTH n x.val, m.layW n x 4), (F.FETCH_Lx_CROP_SIZE_HEIGHT n x.val, m.layW n x 5),
    (F.CMP_Lx_DST_POS_X n x.val, m.layW n x 6), (F.CMP_Lx_DST_POS_Y n x.val, m.layW n x 7),
    (F.CMP_Lx_DST_SIZE_W n x.val, m.layW n x 8), (F.CMP_Lx_DST_SIZE_H n x.val, m.layW n x 9),
    (F.CMP_Lx_CFG_Z n x.val, m.layZ n x), (F.CMP_Lx_CFG_ALPHA n x.val, m.layAlpha n x)]
  (s.matrixOf (m.layMat n x)).zipIdx.foldl (fun s q => s.wr (F.CMP_Lx_MATi_VALUE n x.val q.2) q.1) s

/-- Scaler k serves layer x (R178). -/
def sclAssign (s : State) (m : Stage) (n x : Fin 4) (k : Nat) : State :=
  let h := sclStep (m.layW n x 4) (m.layW n x 8)
  let v := sclStep (m.layW n x 5) (m.layW n x 9)
  s.wrs [(F.SCL_Sk_HSTEP_STEP n k, h), (F.SCL_Sk_VSTEP_STEP n k, v), (F.SCL_Sk_HPHASE_PHASE n k, sclPhase h),
    (F.SCL_Sk_VPHASE_PHASE n k, sclPhase v)]

/-- Scaler assignment in ascending layer order (R177). -/
def sclShadow (s : State) (m : Stage) (n : Fin 4) : State :=
  let sc := (m.layersOn n).filter fun x => layerScaled m n x
  let s := s.wrs [(F.SCL_CTRL_S0_EN n, b2n !sc.isEmpty), (F.SCL_CTRL_S1_EN n, 0), (F.SCL_CTRL_GANG n, 0)]
  match sc with
  | [] => s
  | x :: r =>
    let s := (s.wr (F.SCL_CTRL_S0_LAYER n) x.val).sclAssign m n x 0
    if m.layGang n x then ((s.wr (F.SCL_CTRL_GANG n) 1).wr (F.SCL_CTRL_S1_EN n) 1).sclAssign m n x 1
    else match r with
    | y :: _ => ((s.wr (F.SCL_CTRL_S1_LAYER n) y.val).wr (F.SCL_CTRL_S1_EN n) 1).sclAssign m n y 1
    | [] => s

/-- The bank that firmware loads: one that no stage names, else the one the composition stage does not name (R180, R215,
log entry 100). -/
def freeBank (s : State) (n : Fin 4) (f : Fld) : Nat :=
  if !s.bankNamed n f 0 then 0 else if !s.bankNamed n f 1 then 1 else 1 - s.rdC f

/-- The LUT asset goes into the bank the composition stage does not name, unless the shadow's bank holds it (R180). -/
def lutShadow (s : State) (m : Stage) (n : Fin 4) : State :=
  match s.asset (m.lut.get n) with
  | none => s
  | some a =>
    if m.lut.get n = 0 then s
    else
      let vs := (List.range 4096).map fun i => leNat (s.assetBytes a (2 * i) 2)
      let now := s.rd (F.CMP_CTRL_LUT_BANK n)
      if sgets (fun _ => 0) (s.ch n).lut (4096 * now) 4096 = vs then s
      else
        let b := s.freeBank n (F.CMP_CTRL_LUT_BANK n)
        let s := if s.bankNamed n (F.CMP_CTRL_LUT_BANK n) b then s.composeDraw n else s
        (s.modCh n fun c => { c with lut := ssets (fun _ => 0) c.lut (4096 * b) vs }).wr (F.CMP_CTRL_LUT_BANK n) b

/-- The timetable's slots go into the bank the composition stage does not name, unless the shadow's bank holds them. -/
def ttShadow (s : State) (n : Fin 4) (fs : List (List Slot)) : State :=
  let k := fun i => match fs[i]? with | some f => f.length | none => 16
  let now := s.rd (F.BPF_TT_CTRL_BANK n)
  let same := s.rd (F.BPF_TT_CTRL_SLOTS0 n) == k 0 && s.rd (F.BPF_TT_CTRL_SLOTS1 n) == k 1 && s.rd (F.BPF_TT_CTRL_SLOTS2 n) == k 2 &&
    fs.zipIdx.all fun q => q.1.zipIdx.all fun x => s.ttSlot n now q.2 x.2 == x.1
  if same then s
  else
    let b := s.freeBank n (F.BPF_TT_CTRL_BANK n)
    let s := fs.zipIdx.foldl (fun s q => s.ttWriteField n b q.2 q.1) s
    s.wrs [(F.BPF_TT_CTRL_BANK n, b), (F.BPF_TT_CTRL_SLOTS0 n, k 0), (F.BPF_TT_CTRL_SLOTS1 n, k 1), (F.BPF_TT_CTRL_SLOTS2 n, k 2)]

/-- The formatter's shadows (R193–R196, R208, R215). -/
def bpfShadow (s : State) (m : Stage) (n : Fin 4) (p : Profile) : State :=
  let mode := s.linkMode n
  let t := s.checkTimes m n p mode
  let scan := m.fld (F.WRP_CTRL_MODE n)
  let s := s.wrs ([(F.BPF_CTRL_MODE n, scan), (F.BPF_CTRL_FIELDS3 n, b2n (m.fields n == 3))] ++
    (List.range 2).map (fun i => (F.BPF_FBk_ADDR n i, bufferPage n.val i)) ++
    (List.range 2).map (fun i => (F.WBK_BASEk_ADDR n i, bufferPage n.val (2 + i))))
  let s := if s.nodeType n = 1 then
      s.wrs [(F.BPF_BLK_CFG_BLOCKS n, t.blocks), (F.BPF_BLK_CFG_T_MB n, t.tmb), (F.BPF_BLK_CFG_T_SETTLE n, t.settle),
        (F.BPF_BLK_TIME_T_BLK n, t.tblk), (F.BPF_BLK_TIME_STAGE n, min 255 t.stage)]
    else s
  let s := if scan = 1 then s.wr (F.BPF_SCAN_CFG_LINE_T n) (s.lineT m n p mode) else s
  match s.ttFields m n p mode with
  | some fs => s.ttShadow n fs
  | none => s

/-- The configuration of the shadows that no register holds. -/
def newCfg (s : State) (m : Stage) (n : Fin 4) (p : Profile) (old : Option Cfg) : Option Cfg :=
  if !m.timed n then old
  else
    let on := m.layersOn n
    let ids := (on.filter fun x => m.laySrc n x == 0).map fun x => m.layId n x
    let mats := (on.map fun x => m.layMat n x).filter (· != 0)
    let bind := chans.foldl (fun (f : Four (Option (Nat × Nat × Nat))) x =>
      f.set x (if on.contains x && m.laySrc n x != 0 then
          some (m.laySrc n x - 1, m.layId n x, s.bindPage (duo (m.laySrc n x - 1)) (m.layId n x)) else none)) (Four.all none)
    let layerId := chans.foldl (fun (f : Four Nat) x => f.set x (if m.laySrc n x == 0 then m.layId n x else 0)) (Four.all 0)
    some { cols := m.cols n, rows := m.rows n, rate := m.rate n, fields := m.fields n, tt := m.tt n, d1 := p.d1, half := p.half,
           member := m.member n, leader := m.leader n, ref := m.ref,
           assets := ids ++ mats ++ [m.lut.get n, m.omat.get n].filter (· != 0), layerId := layerId, bind := bind,
           timing := m.timing.get n, layers := m.layers.get n, lut := m.lut.get n, omat := m.omat.get n }

/-- A channel's shadows from a checked configuration under a profile (R113). -/
def writeShadow (s : State) (m : Stage) (n : Fin 4) (p : Profile) : State :=
  let s := s.shadowCopy m n
  let s := chans.foldl (fun s x => s.layerShadow m n x) s
  let s := (s.matrixOf (m.omat.get n)).zipIdx.foldl (fun s q => s.wr (F.CMP_OMATi_VALUE n q.2) q.1) s
  let s := ((s.sclShadow m n).lutShadow m n).wr (F.SRC_CTRL_EN n) (s.enOf m n)
  let s := if m.timed n then s.bpfShadow m n p else s
  (s.noteBanks n).modCh n fun c => { c with cfgNew := s.newCfg m n p c.cfgNew }

/-- A binding of an entry changes (R150, R151): a new one gets a ring of its own in the asset area and the next TAG. -/
def bindEntry (s : State) (rx : Fin 2) (v : Nat) (w : Option (List Nat)) : State :=
  match w with
  | none => s.csiRebind rx v none
  | some g =>
    let pages := 3 * g.getD 5 0
    let page := inArea (Config.ringPage (16 * rx.val + v) s.fw.upCount).toNat pages
    let tag := (s.bindTag rx v + 1) % 16
    let s : State := s.modFw fun w => { w with upCount := s.fw.upCount + 1, rings := s.fw.rings ++ [⟨rx.val, v, page, 4096 * pages⟩] }
    s.csiRebind rx v (some (g ++ [page, tag]))

/-- The entries of the receivers follow a configuration (R149–R151). -/
def bindAll (s : State) (m : Stage) : State :=
  (([0, 1] : List (Fin 2)).foldl (fun s rx =>
    (List.range 16).foldl (fun (s : State) v =>
      let w := wantBind m rx.val v
      if s.hasBind rx v = w then s else s.bindEntry rx v w) s) s).csiEnable

/-- The chain shadows of every port, the sources of the groups, and the end of FORCED (R126, R240, R303–R305). -/
def chainShadow (s : State) (m : Stage) : State :=
  let touched := s.fw.grpNew
  let s := s.modFw fun w => { w with grpNew := 0 }
  chans.foldl (fun s n =>
    let a := m.anim.get n
    let page := match s.asset (le16 a 2) with | some x => x.page | none => 0
    let s := s.wrs [(F.CHN_CFG_GB n, m.fld (F.CHN_CFG_GB n)), (F.CHN_CFG_SOURCE n, byteAt a 1), (F.CHN_ASSET_ADDR n, page),
      (F.CHN_ANIM_REPEATS n, le16 a 4), (F.CHN_ANIM_START n, byteAt a 6), (F.CHN_AUDIT_WINDOW n, m.window),
      (F.CHN_GARM_MASK n, m.garm), (F.CHN_GPROBE_MASK n, m.gprobe)]
    let rs := portRanges m n.val
    let s := (List.range 64).foldl (fun s r => match rs[r]? with
      | some (g, first, count) => s.wrs [(F.CHN_RNGr_A_FIRST n r, first), (F.CHN_RNGr_A_COUNT n r, count),
          (F.CHN_RNGr_B_GROUP n r, g), (F.CHN_RNGr_B_VALID n r, 1)]
      | none => s.wr (F.CHN_RNGr_B_VALID n r) 0) s
    let gs := m.groups.foldl (fun (q : Sparse Nat) g => match groupSources g.2 with
      | some (k, mask) => if k = n then sset (fun _ => 0) q g.1 mask else q
      | none => q) []
    let s := s.modSrc n fun r => { r with groups := gs }
    (List.range 32).foldl (fun s g => if bit touched g then s.wr (F.CHN_GLVLg_FORCED n g) 0 else s) s) s

/-- The mode lets firmware start a stopped channel (R29). -/
def mayRun (s : State) (n : Fin 4) : Bool :=
  let m := s.mode
  m == modeREADY || m == modeDARKHOLD || m == modeSERVICE ||
  (lightMode m && !(m == modeSIGNATURE && (s.nodeType n == 1 || s.nodeType n == 2)))

/-- RUN = 1 for every stopped channel of a mask that the mode lets compose. -/
def runAll (s : State) (mask : Nat) : State :=
  s.forMask mask fun s n => if !s.on (F.LEC_CTRL_RUN n) && s.mayRun n then s.runWrite n 1 else s

/-- Firmware runs a settled port whose committed source is not OFF, and lets CHn_OE_N go low in the modes that permit it
(R125, R296, R297). -/
def chnRun (s : State) (n : Fin 4) (on : Bool) : State :=
  let on := on && s.rd (F.CHN_MODE_MUX n) != 0
  let oe := lightMode s.mode || (s.mode == modeSERVICE && on)
  let s := ((s.wrB (F.CHN_CTRL_EN n) on).wrB (F.CHN_CTRL_OE n) oe).chnSync n
  if on then s else s.portTick n

/-- An accepted commit is issued: shadows, bindings, chains, then the request on one edge (R30, R113, R131). -/
def issue (s : State) (m : Stage) (mask : Nat) (chains : Bool) (tag : Option Tag) : State :=
  let p := s.profileNow
  let s := chans.foldl (fun (s : State) n =>
    if bit mask n.val || (chains && byteAt (m.anim.get n) 1 != 0) then s.releaseLec n else s) s
  let s := s.bindAll m
  let s := s.forMask mask fun (s : State) (n : Fin 4) =>
    let s := (s.writeShadow m n p).modLink n fun l => { l with relight := l.unlit }
    let cs := s.fw.masks.get n
    s.modMask n fun k => { k with stageNew := k.stageNew ++ cs }
  let left := chans.foldl (fun (f : Four (List SoftChg)) (n : Fin 4) => if bit mask n.val then f.set n [] else f) s.fw.masks
  let s : State := s.modFw fun w => { w with act := m, masks := left }
  let s : State := if chains then s.chainShadow m else s
  let targets := chans.foldl (fun (f : Four Nat) n => f.set n (s.targetNow n)) (Four.all 0)
  let await := chans.foldl (fun (k : Nat) (n : Fin 4) => if bit mask n.val && s.on (F.LEC_STATUS_RUNNING n) then setBit k n.val true else k) 0
  let ports := if chains then chans.foldl (fun (k : Nat) (n : Fin 4) => if decide (2 ≤ s.rd (F.CHN_STATUS_STATE n)) then setBit k n.val true else k) 0 else 0
  let run : CommitRun := ⟨await, targets, ports, tag⟩
  let s : State := s.modFw fun w => { w with commits := s.fw.commits ++ [run] }
  let s := if chains || 1 < (chans.filter fun n => bit mask n.val).length then s.fwBell (256 + 32 * b2n chains + mask % 16)
    else s.forMask mask fun s n => s.commitReq n
  let s := if chains then chans.foldl (fun s n => s.chnRun n (byteAt (m.anim.get n) 1 != 0)) s else s
  (s.runAll mask).commitsDone

/-- COMMIT (R31, R131): the checks, the answer, the issue. -/
def commitCmd (s : State) (mask : Nat) (chains dry : Bool) (tag : Option Tag) : Ans :=
  let m := s.fw.act.merge s.fw.stage mask chains
  let p := s.profileNow
  let why := s.rejectReason m mask chains p
  if why ≠ 0 then
    ⟨s.forMask mask fun (s : State) (n : Fin 4) => s.logEvent (0x1011 + 256 * n.val) 2 why mask, stREJECTED_CONFIG, why, []⟩
  else
    let tg := (chans.map fun n => leBytes 4 (if bit mask n.val && !dry then s.targetNow n else 0xFFFFFFFF)).flatten
    let data := tg ++ leBytes 4 (s.demandMb m p) ++ leBytes 4 (budget (s.rd (F.DMC_STATUS_SPEED 0)))
    if dry then ⟨s, stOK, 0, data⟩ else ⟨s.issue m mask chains tag, stACCEPTED, 0, data⟩

end State

end Sys2Proof.Machine
end

