-- ==== Sys2Proof/Machine/Mail.lean ====
section
/-! DEFINITION. Host ports and mailbox transport (chapter 04): waiting messages, the message checks of R95, responses,
HELLO, notifications, CAN frames, Hall Pass grants. -/

namespace Sys2Proof.Machine

/-- The status of a command whose response comes later; it is not a status code of R112. -/
def stDEFER : Nat := 256

/-- What a command does after the checks of R95: from the payload to an answer. -/
abbrev Handler := State → Tag → List Byte → Ans

/-- A refusal that changes nothing. -/
def refuse (s : State) (st detail : Nat) : Ans := ⟨s, st, detail, []⟩

/-- A port by its number. -/
def portOf (k : Nat) : Fin 3 := if k = 0 then 0 else if k = 1 then 1 else 2

/-- Host address of an inbox and of an outbox (R88). -/
def inboxAt (mb : Nat) : Nat := 0x1000 + 0x400 * mb
def outboxAt (mb : Nat) : Nat := 0x1000 + 0x400 * mb + 0x200

/-- Is an opcode an expert one, a defined one (R111), one that accepts fragments (R115)? -/
def expertOp (op : Nat) : Bool := decide (0x80 ≤ op ∧ op < 0x90)
def definedOp (op : Nat) : Bool := decide (1 ≤ op ∧ op ≤ 0x18) || expertOp op
def fragLimit (op : Nat) : Nat := if op = 0x0A then 1028 else if op = 0x8C then 1036 else if op = 0x8D then 3104 else 0

/-- FLAGS as step 4 of R95 requires them; fragments are not accepted on CAN (R94). -/
def flagsOk (p : Fin 3) (op flags : Nat) : Bool :=
  !bit flags 0 && decide (flags < 16) && (bit flags 1 == expertOp op) &&
  (!bit flags 2 || (decide (0 < fragLimit op) && decide (p = 0)))

/-- Does a grant for block g cover block t (R104, R105)? -/
def covers (g t : Nat) : Bool :=
  g == 0 || g == t || (decide (0x10 ≤ g ∧ 0x10 ≤ t) && g % 16 == 13 && g / 16 == t / 16)

/-- Is a number a Hall Pass block identifier (R104)? -/
def blockId (b : Nat) : Bool := decide (b < 0x10) || (decide (b < 0x50) && decide (b % 16 ≤ 13))

/-- Blocks of k words from an internal address. -/
def wordBlocks (a k : Nat) : List (Option Nat) := (List.range (min k 4096)).map fun i => (blockOf (a + 4 * i)).map (·.1)

/-- The block of sub-block i of the channel that a byte names. -/
def subTarget (c i : Nat) : List (Option Nat) := [if c < 4 then some (0x10 + 16 * c + i) else none]

/-- The blocks an expert command acts on (R141–R146). -/
def targetsOf (op : Nat) (pl : List Byte) : List (Option Nat) :=
  match op with
  | 0x82 => wordBlocks (le32 pl 4) (max 1 (le16 pl 8))
  | 0x83 => wordBlocks (le32 pl 4) (max 1 ((pl.length - 8) / 4))
  | 0x84 => wordBlocks (le32 pl 4) 1
  | 0x85 | 0x86 =>
    let sp := byteAt pl 4
    if sp = 0 then wordBlocks (le32 pl 8 + 2 ^ 32 * le32 pl 12) (max 1 (le16 pl 16 / 4))
    else if sp ≤ 4 then [some (0x10 + 16 * (sp - 1) + 13)]
    else if sp ≤ 8 then [some (0x10 + 16 * (sp - 5) + 9)] else [none]
  | 0x87 => [if byteAt pl 4 < 2 then some (9 + byteAt pl 4) else none]
  | 0x88 => [some 5]
  | 0x89 | 0x8A | 0x8B | 0x8C => subTarget (byteAt pl 4) 10
  | 0x8D => subTarget (byteAt pl 4) 5
  | 0x8E => subTarget (byteAt pl 4) 8
  | 0x8F => [some 13]
  | _ => []

/-- The boot ROM serves only these opcodes (R77). -/
def romOp (op : Nat) : Bool := op == 0x01 || op == 0x04 || op == 0x8F

/-- Is a command legal in a mode (R114)?  d3 says that LIMP shows D3; fn is byte 0 of the payload. -/
def legalIn (op fn m : Nat) (d3 : Bool) : Bool :=
  let light := lightMode m
  let ready := m == modeREADY
  let cal := m == modeCALIBRATE
  let srv := m == modeSERVICE
  let hold := m == modeDARKHOLD
  let all := ready || light || cal || srv || hold
  match op with
  | 0x01 | 0x04 | 0x02 | 0x0F => all || m == modeBOOT
  | 0x03 | 0x15 | 0x10 | 0x11 | 0x0E | 0x81 => all
  | 0x05 | 0x07 | 0x09 | 0x0A | 0x0B | 0x0C | 0x0D | 0x12 | 0x08 => all
  | 0x06 => ready || (light && !d3) || srv || hold
  | 0x17 | 0x13 => ready || light || srv || hold
  | 0x14 | 0x18 => ready || srv || hold
  | 0x16 => if fn = 0 then ready || srv || hold else all
  | 0x80 | 0x82 | 0x83 | 0x84 | 0x85 | 0x86 => ready || cal || srv || hold
  | 0x8C | 0x8D | 0x8F => ready || srv || hold
  | 0x88 | 0x8E => cal || srv
  | 0x87 | 0x89 | 0x8A | 0x8B => srv
  | _ => false

namespace State

/-! ### Serving (R83, R90) -/

/-- HSPI serves the host: the HOSTSEL strap or host download, outside STANDBY and SCAN-TEST, once the system clocks run
(R52, R65, R67, R84). -/
def hspiServed (s : State) : Bool :=
  (s.on F.RST_OPT_HOSTSEL || s.rd F.RST_OPT_BOOTSEL == 0) && (s.aon.phase == .awake || s.aon.phase == .entering) && !s.pins.isolated &&
  (s.rd F.RST_STATUS_PHASE == 0 || decide (4 ≤ s.rd F.RST_STATUS_PHASE)) && s.mode != modeSTANDBY &&
  (s.mode != modeSCANTEST || s.fwRuns) && !s.stood 232 232 && !s.stood 244 244 && !s.stood 249 249

/-- Who serves a mailbox: firmware every one, the boot ROM MB0 of HSPI (R77). -/
def serves (s : State) (p : Fin 3) (mb : Nat) : Bool :=
  (s.fwRuns && s.mode != modeSCANTEST && (p != 0 || s.on F.RST_OPT_HOSTSEL || s.rd F.RST_OPT_BOOTSEL == 0)) ||
  (decide (s.rst.cpu = .romService) && p == 0 && mb == 0)

/-- An ignored mailbox access (R90): LAST_ERR and event 0x0302. -/
def ignoredMb (s : State) (mb : Nat) (p : Fin 3) : State :=
  (s.wr F.MBX_HSTAT_LAST_ERR 1).logEvent 0x0302 1 mb p.val

/-- OUTBOX_FULL of one mailbox, mirrored in MBX_IRQ_STATUS. -/
def setFull (s : State) (mb : Nat) (b : Bool) : State :=
  let s := s.wr F.MBX_HSTAT_OUTBOX_FULL (setBit (s.rd F.MBX_HSTAT_OUTBOX_FULL) mb b)
  let f := s.rd F.MBX_HSTAT_OUTBOX_FULL
  (s.wr F.MBX_IRQ_STATUS_RESP (f % 64)).wrB F.MBX_IRQ_STATUS_NOTIFY (bit f 6)
/-- INBOX_BUSY of one mailbox. -/
def setBusy (s : State) (mb : Nat) (b : Bool) : State :=
  s.wr F.MBX_HSTAT_INBOX_BUSY (setBit (s.rd F.MBX_HSTAT_INBOX_BUSY) mb b)
def isFull (s : State) (mb : Nat) : Bool := bit (s.rd F.MBX_HSTAT_OUTBOX_FULL) mb
def isBusy (s : State) (mb : Nat) : Bool := bit (s.rd F.MBX_HSTAT_INBOX_BUSY) mb

/-- IRQ_N is driven low (R101). -/
def irqLow (s : State) : Bool :=
  s.on F.RST_OPT_HOSTSEL && bits (s.get R.MBX_IRQ_STATUS) 0 8 &&& s.rd F.MBX_IRQ_EN_EN != 0

/-- Write bytes of the host window. -/
def hostWrite (s : State) (a : Nat) (bs : List Byte) : State :=
  s.modMbx fun m => { m with host := ssets memReset s.mbx.host a bs }
/-- Read bytes of the host window's mailboxes. -/
def hostRead (s : State) (a k : Nat) : List Byte := sgets memReset s.mbx.host a k

/-- A command is received: it takes its place in the order of receipt (R90). -/
def received (s : State) (p : Fin 3) (mb : Nat) : State := s.modMbx fun m => { m with order := s.mbx.order ++ [(p.val, mb)] }

/-- One write of MBX_DOORBELL (R89, R90): its bits act together; of the commands they announce the
one in the lower mailbox counts as received first (log entry 102). -/
def doorbell (s : State) (v : Nat) : State :=
  let free := fun mb => s.serves 0 mb && !s.isBusy mb && !s.isFull mb
  (List.range 6).foldl (fun (s : State) mb =>
    if bit v mb then (if free mb then (s.setBusy mb true).received 0 mb else s.ignoredMb mb 0) else s) s

/-! ### Messages waiting for firmware -/

/-- The message that waits in a mailbox. -/
def waiting (s : State) (p : Fin 3) (mb : Nat) : Option (List Byte) :=
  if p = 0 then (if s.isBusy mb then some (s.hostRead (inboxAt mb) 512) else none)
  else match sget (fun _ => none) (s.port p).rx mb with
  | some (b :: bs) => some (b :: bs)
  | _ => none

/-- A command leaves the order of receipt as firmware takes it (R90). -/
def begun (s : State) (p : Fin 3) (mb : Nat) : State :=
  s.modMbx fun m => { m with order := s.mbx.order.filter (· != (p.val, mb)) }

/-- Firmware takes the message: on HSPI INBOX_BUSY clears (R89); on CAN the mailbox stays unanswered. -/
def take (s : State) (p : Fin 3) (mb : Nat) : State :=
  let s := s.begun p mb
  if p = 0 then s.setBusy mb false
  else s.modPort p fun q => { q with rx := sset (fun _ => none) q.rx mb (some []) }

/-- The opcodes that are started alone (R90): COMMIT and SNAPSHOT. -/
def aloneOp (op : Nat) : Bool := op == 0x08 || op == 0x11

/-- May firmware start the command of a mailbox (R90)?  COMMIT and SNAPSHOT wait for every command received before them to
have its first response, and a command received after a waiting one of these waits for it. -/
def turn (s : State) (p : Fin 3) (mb op : Nat) : Bool :=
  let before := s.mbx.order.takeWhile (· != (p.val, mb))
  let held := before.any fun x =>
    match s.waiting (portOf x.1) x.2 with
    | some m => aloneOp op || aloneOp (byteAt m 0)
    | none => false
  !held && (!aloneOp op || ([0, 1, 2] : List (Fin 3)).all fun q => (s.port q).defer.isEmpty)

/-- Another mailbox of the port holds a command not yet answered (R98). -/
def unanswered (s : State) (p : Fin 3) (mb : Nat) : Bool :=
  (List.range 6).any fun k => k != mb &&
    ((s.port p).defer.contains k ||
     (if p = 0 then s.isBusy k else (sget (fun _ => none) (s.port p).rx k).isSome))

/-- A CAN frame of a message, padded with 0xCC to a CAN FD frame size (R103). -/
def canPad (m : List Byte) : List Byte :=
  let size := (([8, 12, 16, 20, 24, 32, 48, 64] : List Nat).find? fun k => decide (m.length ≤ k)).getD 64
  m ++ List.replicate (size - m.length) 0xCC

/-- Place a response message (R89, R103). -/
def place (s : State) (p : Fin 3) (mb : Nat) (m : List Byte) : State :=
  if p = 0 then (s.hostWrite (outboxAt mb) m).setFull mb true
  else s.modPort p fun q => { q with tx := q.tx ++ [(q.rspId + mb, canPad m)] }

/-- The response message of a command (R93). -/
def response (t : Tag) (st detail : Nat) (data : List Byte) : List Byte :=
  mkMessage t.op 1 t.seq (statusWord st detail ++ (if st = stOK ∨ st = stACCEPTED then data else []))

/-- The default settings of a port; HELLO_DONE stays, and so does a settled HELLO that still awaits its effect. -/
def portDefaults (s : State) (p : Fin 3) : State :=
  let s := s.modPort p fun q => { q with events := false, maxPay := 56 }
  if p = 0 then
    (((s.wr F.MBX_HCFG_QUAD 0).wr F.MBX_HCFG_CRC_OFF 0).wr F.MBX_HCFG_EVENTS 0).wr F.MBX_HCFG_MAX_PAYLOAD 504
  else s

/-- A HELLO that is answered with a failure leaves its port with the default settings (R97). -/
def helloFailed (s : State) (t : Tag) (st : Nat) : State := if t.op = 1 ∧ st ≠ stOK then s.portDefaults t.port else s

/-- Answer without accepting the sequence number (R95 steps 1–3). -/
def reply (s : State) (t : Tag) (st : Nat) : State := (s.helloFailed t st).place t.port t.mb (response t st 0 [])

/-- Answer a command whose sequence number was accepted (R95): the response is cached while no later command of the mailbox
has been accepted (R96). -/
def answer (s : State) (t : Tag) (st detail : Nat) (data : List Byte) : State :=
  let m := response t st detail data
  let s := (s.helloFailed t st).modPort t.port fun q =>
    { q with seqs := (match sget (fun _ => none) q.seqs t.mb with
                      | some x => if x.last = t.seq then sset (fun _ => none) q.seqs t.mb (some ⟨t.seq, m⟩) else q.seqs
                      | none => q.seqs),
             defer := q.defer.erase t.mb }
  s.place t.port t.mb m

/-! ### Hall Pass (R104, R105) -/

/-- A live grant by number: it stands in the list and its time has not run out. -/
def liveGrant (s : State) (num : Nat) : Option Grant :=
  s.mbx.grants.find? fun g => g.num == num && decide (s.tb.toNat < g.endTick)

/-- A live grant covers a block. -/
def granted (s : State) (t : Nat) : Bool :=
  s.mbx.grants.any fun g => covers g.block t && decide (s.tb.toNat < g.endTick)

/-- The live grants: their time has not run out (R105). -/
def liveGrants (s : State) : List Grant := s.mbx.grants.filter fun g => decide (s.tb.toNat < g.endTick)

/-- MBX_GRANT_STATUS and WIN_LIVE follow the live grants. -/
def grantStatus (s : State) : State :=
  let gs := s.liveGrants
  let ends := gs.map fun g => (g.endTick - s.tb.toNat) / 32768
  let s := (s.wr F.MBX_GRANT_STATUS_LIVE gs.length).wr F.MBX_GRANT_STATUS_NEXT_S (ends.foldl min (ends.headD 0))
  s.wrB F.MBX_HSTAT_WIN_LIVE (!gs.isEmpty)

/-- A grant ends: event 0x0307 and HALLPASS_END (R99, R105). -/
def endGrant (s : State) (g : Grant) (reason : Nat) : State :=
  let s := (s.modMbx fun m => { m with grants := s.mbx.grants.filter fun x => x.num != g.num }).grantStatus
  let s := s.logEvent 0x0307 1 g.block reason
  s.notify 0 0x63 (leBytes 4 g.num ++ leBytes 1 g.block ++ leBytes 1 reason)

/-- Every grant ends. -/
def endGrants (s : State) (reason : Nat) : State := s.forEach s.mbx.grants fun s g => s.endGrant g reason

/-- Grants whose time has run out end (R105). -/
def expireGrants (s : State) : State :=
  s.forEach (s.mbx.grants.filter fun g => decide (g.endTick ≤ s.tb.toNat)) fun s g => s.endGrant g 1

/-- Modes in which grants live (R105). -/
def grantMode (m : Nat) : Bool := m == modeREADY || m == modeDARKHOLD || m == modeCALIBRATE || m == modeSERVICE

/-- The mode changes and grants end with it (R40, R105). -/
def enterMode (s : State) (m cause : Nat) : State :=
  let s := s.setMode m cause
  if grantMode m then s else s.endGrants 3

/-- Step 6 of R95. -/
def grantCheck (s : State) (op : Nat) (pl : List Byte) : Nat :=
  if !expertOp op || op == 0x80 then stOK
  else
    let num := le32 pl 0
    if s.rst.cpu = .romService then (if num = 0 then stOK else stNO_HALLPASS)
    else match s.liveGrant num with
    | some g =>
      if (targetsOf op pl).all fun t => g.block == 0 || (match t with | some b => covers g.block b | none => false)
      then stOK else stNO_HALLPASS
    | none => if s.mbx.issued.contains num then stHALLPASS_EXPIRED else stNO_HALLPASS

/-- HALLPASS_REQ (R104, R105). -/
def hallpassReq (s : State) (pl : List Byte) : Ans :=
  let blk := byteAt pl 0
  let ext := bit (byteAt pl 1) 0
  let dur := if le16 pl 2 = 0 then 10 else le16 pl 2
  let num := le32 pl 4
  if pl.length != 8 then refuse s stBAD_LENGTH 0
  else if !blockId blk || decide (1 < byteAt pl 1) || decide (600 < dur) || (!ext && num != 0) then refuse s stBAD_PARAM 0
  else if ext then
    match s.liveGrant num with
    | none => refuse s (if s.mbx.issued.contains num then stHALLPASS_EXPIRED else stNO_HALLPASS) 0
    | some g =>
      if g.block != blk then refuse s stBAD_PARAM 0
      else
        let gs := s.mbx.grants.map fun x => if x.num == num then { x with endTick := s.tb.toNat + 32768 * dur } else x
        ⟨(s.modMbx fun m => { m with grants := gs }).grantStatus, stOK, 0, leBytes 4 num ++ leBytes 2 dur⟩
  else if decide (8 ≤ s.liveGrants.length) || s.liveGrants.any fun g => covers g.block blk || covers blk g.block then
    refuse s stBUSY 0
  else
    let s := s.expireGrants
    let pick := (Config.grantNumber s.free).toNat
    let num := if pick = 0 ∨ s.mbx.issued.contains pick then s.mbx.issued.foldl max 0 + 1 else pick
    let m : Mbx := { s.mbx with grants := s.mbx.grants ++ [⟨num, blk, s.tb.toNat + 32768 * dur⟩], issued := s.mbx.issued ++ [num] }
    let s := (s.nextFree.modMbx fun _ => m).grantStatus
    ⟨s.logEvent 0x0306 1 blk 0, stOK, 0, leBytes 4 num ++ leBytes 2 dur⟩

/-- HALLPASS_RETURN (R105). -/
def hallpassReturn (s : State) (pl : List Byte) : Ans :=
  if pl.length != 4 then refuse s stBAD_LENGTH 0
  else match s.liveGrant (le32 pl 0) with
  | none => refuse s stNO_HALLPASS 0
  | some g => ⟨s.endGrant g 2, stOK, 0, []⟩

/-! ### HELLO (R97, R98) -/

/-- A settled HELLO takes effect. -/
def helloEffect (s : State) (p : Fin 3) (h : HelloSet) : State :=
  let s := s.modPort p fun q =>
    { q with hello := q.hello.filter (·.mb != h.mb), seqs := [], frags := [], nseq := 0, events := h.events, maxPay := h.maxPay }
  if p = 0 then
    let s := ((s.wrB F.MBX_HCFG_QUAD h.quad).wrB F.MBX_HCFG_CRC_OFF h.crcOff).wrB F.MBX_HCFG_EVENTS h.events
    ((s.wr F.MBX_HCFG_MAX_PAYLOAD h.maxPay).wr F.MBX_HCFG_HELLO_DONE 1).wr F.MBX_HSTAT_HELLO_DONE 1
  else s

/-- The HELLO whose response left mailbox mb takes effect. -/
def helloLeaves (s : State) (p : Fin 3) (mb : Nat) : State :=
  match (s.port p).hello.find? (·.mb == mb) with
  | some h => s.helloEffect p h
  | none => s

/-- HELLO (R97, R98): what it settles, quad never under the boot ROM service, which is 1-1-1 (R77), takes effect when its response leaves; a failure restores the defaults (`answer`). -/
def hello (s : State) (t : Tag) (pl : List Byte) : Ans :=
  let lo := if t.port = 0 then 64 else 8
  let hi := if t.port = 0 then 504 else 56
  let caps := byteAt pl 6
  let fail := fun st d => refuse s st d
  if pl.length != 8 then fail stBAD_LENGTH 0
  else if decide (7 < caps) || byteAt pl 7 != 0 then fail stBAD_PARAM 0
  else if decide (le16 pl 0 < 2) || decide (2 < le16 pl 2) then fail stBAD_PARAM 1
  else if le16 pl 4 < lo then fail stBAD_PARAM 2
  else if s.unanswered t.port t.mb then fail stBUSY 0
  else
    let h : HelloSet := ⟨t.mb, t.port = 0 && bit caps 0 && s.rst.cpu != .romService, t.port = 0 && bit caps 1, bit caps 2, min hi (le16 pl 4)⟩
    let s := s.modPort t.port fun q => { q with hello := q.hello.filter (·.mb != t.mb) ++ [h] }
    ⟨s, stOK, 0, leBytes 2 2 ++ leBytes 2 h.maxPay ++ leBytes 1 (b2n h.quad + 2 * b2n h.crcOff + 4 * b2n h.events) ++
      leBytes 1 8 ++ leBytes 2 0x0302 ++ leBytes 4 (s.get R.SYS_ID)⟩

/-! ### The message checks (R94–R96) -/

/-- Steps 4–9 of R95 for an assembled command. -/
def runCommand (s : State) (t : Tag) (flags : Nat) (pl : List Byte) (h : Handler) : Ans :=
  let d3 := s.mode == modeLIMP && s.rd F.SYS_MODE_PROFILE == 3
  if !flagsOk t.port t.op flags then refuse s stBAD_PARAM 0
  else if s.rst.cpu = .romService && !romOp t.op then refuse s stWRONG_MODE 0
  else if !definedOp t.op || (expertOp t.op && t.port != 0) then refuse s stUNKNOWN_OPCODE 0
  else
    let g := s.grantCheck t.op pl
    if g != stOK then refuse s g 0
    else if !(legalIn t.op (byteAt pl 0) s.mode d3 || (s.rst.cpu = .romService && t.op == 0x8F)) then
      refuse s stWRONG_MODE 0
    else
      let a := h s t pl
      if s.maxPay t.port < 4 + a.data.length && (a.st == stOK || a.st == stACCEPTED) then refuse s stBAD_LENGTH 0 else a

/-- The partial command of a mailbox. -/
def frag (s : State) (p : Fin 3) (mb : Nat) : Option Frag := sget (fun _ => none) (s.port p).frags mb
/-- Replace it. -/
def setFrag (s : State) (p : Fin 3) (mb : Nat) (f : Option Frag) : State :=
  s.modPort p fun q => { q with frags := sset (fun _ => none) q.frags mb f }

/-- A command whose sequence number is acceptable (R94): a fragment is collected, any other command is run. -/
def accepted (s : State) (t : Tag) (flags : Nat) (pl : List Byte) (h : Handler) : State :=
  let old := s.frag t.port t.mb
  let sofar := match old with | some f => f.data | none => []
  let all := sofar ++ pl
  let s := s.modPort t.port fun q => { q with seqs := sset (fun _ => none) q.seqs t.mb (some ⟨t.seq, []⟩) }
  if flagsOk t.port t.op flags && (old.isSome || bit flags 2) && decide (fragLimit t.op < all.length) then
    (s.setFrag t.port t.mb none).answer t stBAD_LENGTH 0 []
  else if flagsOk t.port t.op flags && bit flags 2 then
    (s.setFrag t.port t.mb (some ⟨t.op, flags, t.seq + 1, all, s.tb.toNat⟩)).answer t stOK 0 []
  else
    let s := s.setFrag t.port t.mb none
    let a := s.runCommand t flags all h
    if a.st = stDEFER then a.s.modPort t.port fun q => { q with defer := q.defer ++ [t.mb] }
    else a.s.answer t a.st a.detail a.data

/-- Step 3 of R95: sequence number, duplicates and the continuity of fragments.  The manual gives no status for a fragment
with the same OPCODE and other FLAGS: it abandons the partial command as another OPCODE does (log entry 103).  Nor does it
say what a duplicate of a command that is accepted and not yet answered gets: it is consumed, and the one response follows
(log entry 104). -/
def sequenced (s : State) (t : Tag) (flags : Nat) (pl : List Byte) (h : Handler) : State :=
  let go := fun (_ : Unit) =>
    match s.frag t.port t.mb with
    | none => s.accepted t flags pl h
    | some f =>
      if f.op != t.op || setBit f.flags 2 false != setBit flags 2 false then
        (s.setFrag t.port t.mb none).reply t stSEQ_ERROR
      else if f.tick + 32768 < s.tb.toNat then (s.setFrag t.port t.mb none).reply t stTIMEOUT
      else s.accepted t flags pl h
  match sget (fun _ => none) (s.port t.port).seqs t.mb with
  | none => go ()
  | some q =>
    if t.seq = q.last then (if q.cache.isEmpty then s else s.place t.port t.mb q.cache)
    else if t.seq = (q.last + 1) % 65536 then go ()
    else s.reply t stSEQ_ERROR

/-- Firmware serves the message that waits in a mailbox, if its opcode is one of the row's and its turn has come (R89, R90,
R95). -/
def serve (s : State) (p : Fin 3) (mb : Fin 6) (mine : Nat → Bool) (h : Handler) : State :=
  match s.waiting p mb.val with
  | none => s
  | some m =>
    let op := byteAt m 0
    if !(s.serves p mb.val && mine op && s.turn p mb.val op) then s
    else
      let flags := byteAt m 1
      let len := le16 m 4
      let t : Tag := ⟨p, mb.val, op, le16 m 2, bit flags 3⟩
      let s := s.take p mb.val
      let pl := slice m 8 len
      if s.maxPay p < len || m.length < 8 + len then s.reply t stBAD_LENGTH
      else if (s.crcOn p || op == 1) && crc16 (slice m 0 6 ++ [0, 0] ++ pl) != le16 m 6 then s.reply t stBAD_CRC
      else s.sequenced t flags pl h

/-- OUTBOX_ACK (R89, R98): a bit for an empty outbox has no effect. -/
def outboxAck (s : State) (v : Nat) : State :=
  (List.range 7).foldl (fun (s : State) mb =>
    if bit v mb && s.isFull mb then (s.setFull mb false).helloLeaves 0 mb else s) s

/-- NOTIFICATION_PLACE (R100). -/
def notifPlace (s : State) : State :=
  match (s.port 0).notifs with
  | [] => s
  | m :: ms =>
    if s.isFull 6 then s
    else ((s.modPort 0 fun q => { q with notifs := ms }).hostWrite (outboxAt 6) m).setFull 6 true

/-! ### CAN (R102, R103) -/

/-- The port of a CAN controller. -/
def canPort (c : Fin 2) : Fin 3 := ⟨c.val + 1, by omega⟩

/-- Block base of a CAN controller (R12). -/
def canBase (c : Fin 2) : Nat := 0x40300000 + 0x10000 * c.val

/-- A frame on a request identifier.  A classical or remote frame is ignored and counted in the controller's error status;
the manual gives that error no code, so the code is free (R103, log entry 105). -/
def canRequest (s : State) (c : Fin 2) (mb : Fin 6) (bytes : List Byte) (fd : Bool) : State :=
  let p := canPort c
  let q := s.port p
  if q.busOff then s
  else if !fd then
    ((s.modPort p fun q => { q with ignored := q.ignored + 1 }).errHit (canBase c) (Config.openWord s.free).toNat).nextFree
  else if !s.fwRuns then s
  else if (sget (fun _ => none) q.rx mb.val).isSome then s.logEvent 0x0302 1 mb.val p.val
  else if bytes.isEmpty then s
  else (s.modPort p fun q => { q with rx := sset (fun _ => none) q.rx mb.val (some bytes) }).received p mb.val

/-- The response or notification frame on the wire is complete; responses go first. -/
def canSent (s : State) (c : Fin 2) : State :=
  let p := canPort c
  let q := s.port p
  if q.busOff then s
  else match q.tx with
  | (id, m) :: rest =>
    let mb := id - q.rspId
    (s.modPort p fun q => { q with tx := rest, rx := sset (fun _ => none) q.rx mb none, sent := some (id, m) }).helloLeaves p mb
  | [] =>
    match q.notifs with
    | m :: ms => s.modPort p fun q => { q with notifs := ms, sent := some (q.ntfId, canPad m) }
    | [] => s

end State

open Host (Outcome)

/-- DOORBELL (R89, R90). -/
def execDoorbell (v : Word) (s : State) : Outcome State Fault Refusal :=
  .next (if s.hspiServed then s.doorbell v.toNat else s)

/-- OUTBOX_ACK (R89, R98). -/
def execOutboxAck (v : Word) (s : State) : Outcome State Fault Refusal :=
  .next (if s.hspiServed then s.outboxAck v.toNat else s)

/-- NOTIFICATION_PLACE (R100). -/
def execNotificationPlace (s : State) : Outcome State Fault Refusal :=
  .next (if s.fwRuns then s.notifPlace else s)

/-- CAN_REQUEST_FRAME (R103). -/
def execCanRequestFrame (c : Duo) (mb : Fin 6) (bytes : List Byte) (fd : Bool) (s : State) : Outcome State Fault Refusal :=
  .next (if s.sysStill (4 + c.val) then s else s.canRequest c mb bytes fd)

/-- CAN_ERROR_PASSIVE (R103): event 0x0311 as the controller enters the state. -/
def execCanErrorPassive (c : Duo) (s : State) : Outcome State Fault Refusal :=
  .next (if s.sysStill (4 + c.val) || (s.port (State.canPort c)).passive then s
    else (s.modPort (State.canPort c) fun q => { q with passive := true }).logEvent 0x0311 2 c.val 0)

/-- CAN_BUS_OFF (R103): event 0x0310; responses and notifications wait. -/
def execCanBusOff (c : Duo) (s : State) : Outcome State Fault Refusal :=
  .next (if s.sysStill (4 + c.val) || (s.port (State.canPort c)).busOff then s
    else (s.modPort (State.canPort c) fun q => { q with busOff := true }).logEvent 0x0310 3 c.val 0)

/-- CAN_BUS_OFF_RECOVERY (R103): the waiting frames may be sent again. -/
def execCanBusOffRecovery (c : Duo) (s : State) : Outcome State Fault Refusal :=
  .next (if s.sysStill (4 + c.val) then s
    else s.modPort (State.canPort c) fun q => { q with busOff := false, passive := false })

/-- HALLPASS_EXPIRY (R105): the time of the named grant has run out on the timebase. -/
def execHallpassExpiry (g : Nat) (s : State) : Outcome State Fault Refusal :=
  .next (match s.mbx.grants.find? fun x => x.num == g && decide (x.endTick ≤ s.tb.toNat) with
    | some x => s.endGrant x 1
    | none => s)

end Sys2Proof.Machine
end

