-- ==== Sys2Proof/Machine/Dmc.lean ====
section
/-! DEFINITION. The DRAM controllers and their PHYs (chapter 16): requests, arbitration, refresh, bus errors, ECC,
self-refresh, row-disturb defence, pattern runs and training. -/

namespace Sys2Proof.Machine

/-- The 8-bit values of a weight, ascending. -/
def weighted (k : Nat) : List Nat :=
  (List.range 256).filter fun v => ((List.range 8).filter fun j => bit v j).length == k
/-- The columns of the SECDED code (R366): data bits 0–63, then check bits 0–7. -/
def eccColumns : List Nat := weighted 3 ++ (weighted 5).take 8 ++ (List.range 8).map fun j => 2 ^ j
/-- The bit a syndrome names; none for no error or an uncorrectable one. -/
def eccBit (syn : Nat) : Option Nat := if syn = 0 then none else (List.range 72).find? fun i => eccColumns.getD i 0 == syn
/-- A syndrome that is neither zero nor a column. -/
def eccBad (syn : Nat) : Bool := syn != 0 && (eccBit syn).isNone

/-- A change of a bank's table at an ACT (R370): the table, S, and whether the count reached the threshold. -/
def actCount (t : List (Nat × Nat)) (sp row thresh : Nat) : List (Nat × Nat) × Nat × Bool :=
  let bump := fun (t : List (Nat × Nat)) =>
    let c := ((t.find? fun e => e.1 == row).map (·.2)).getD 0
    if thresh ≤ c then (t.map fun e => if e.1 == row then (row, sp) else e, sp, true) else (t, sp, false)
  if t.any fun e => e.1 == row then bump (t.map fun e => if e.1 == row then (row, e.2 + 1) else e)
  else if t.length < 16 then bump (t ++ [(row, sp + 1)])
  else
    let low := t.foldl (fun m e => min m e.2) (t.headD (0, 0)).2
    if low = sp then
      let i := (t.findIdx? fun e => e.2 == low).getD 0
      bump (t.set i (row, sp + 1))
    else (t, sp + 1, false)

namespace State

/-- The channel address (R352). -/
def chanAddr (a : Nat) : Nat := (a - 0x100000000) / 8192 * 4096 + a % 4096
/-- The internal address of a channel address. -/
def fromChan (ch : Fin 2) (ca : Nat) : Nat := 0x100000000 + ca / 4096 * 8192 + 4096 * ch.val + ca % 4096

/-- Rank, bank (rank × 16 + bank group × 4 + bank) and row of an internal address (R352, R370). -/
def decodeAddr (s : State) (ch : Fin 2) (a : Nat) : Nat × Nat × Nat :=
  let ca := chanAddr a
  let x16 := s.on (F.DMC_CFG_X16 ch)
  let bg := if x16 then bits ca 6 1 else bits ca 6 2
  let ba := if x16 then bits ca 14 2 else bits ca 15 2
  let top := if x16 then 16 else 17
  let two := s.on (F.DMC_CFG_RANKS2 ch)
  let rank := if two then bits ca top 1 else 0
  (rank, rank * 16 + bg * 4 + ba, ca / 2 ^ (if two then top + 1 else top))
/-- Rows of a bank. -/
def rowCount (s : State) (ch : Fin 2) : Nat :=
  (if s.on (F.DMC_CFG_X16 ch) then 2 * 2 ^ 30 / 2 ^ 16 else 4 * 2 ^ 30 / 2 ^ 17) * 2 ^ s.rd (F.DMC_CFG_DENSITY ch)

/-- Free bytes at ascending DRAM addresses: content the manual calls undefined. -/
def dramFree (s : State) (a k : Nat) : State :=
  (s.dwrite a ((List.range k).map fun i => Config.openByte (s.free + i))) |> fun s => (s.setFree (s.free + k))

/-- The content of a DRAM channel is lost (R69, R74, R79): its bytes read as unwritten memory. -/
def dramLost (s : State) (ch : Fin 2) : State :=
  (s.setDram (skeep (fun a => dramCh a != ch) s.dram)).modDmc ch fun d => { d with poison := [] }

/-- Burst i of the top 64 KB of a rank, the training area (R371). -/
def trainAddr (s : State) (ch : Fin 2) (rank i : Nat) : Nat :=
  let two := s.on (F.DMC_CFG_RANKS2 ch)
  let top := if s.on (F.DMC_CFG_X16 ch) then 16 else 17
  let l := s.dramBytes ch / (if two then 2 else 1) - 65536 + 64 * i
  fromChan ch (if two then l / 2 ^ top * 2 ^ (top + 1) + rank % 2 * 2 ^ top + l % 2 ^ top else l)
/-- Training and pattern runs write the training area of a rank (R371). -/
def trainArea (s : State) (ch : Fin 2) (rank : Nat) : State :=
  (List.range 1024).foldl (fun s i => s.dramFree (s.trainAddr ch rank i) 64) s

/-! ### Requests, panic, arbitration -/

def classOf (s : State) (ch : Fin 2) (p : Nat) : Nat := s.rdA (F.DMC_PORTp_CFG_CLASS ch p)

/-- Requests enter the queue from their ports, in order per port (R354); none while held (R369).  A read keeps its entry until
its data is back, so that the queue and the reads in flight together hold at most 512. -/
def takeIn (s : State) (ch : Fin 2) : State :=
  if s.rd (F.DMC_STATUS_STATE ch) != 3 then s
  else
    let cap := 512 - 8 * s.rdA (F.DMC_SCHED_RTA_RES ch)
    let flight := (s.dmc.get ch).flight
    let step := fun (acc : List DmcReq × List DmcReq) (r : DmcReq) =>
      let q := acc.1
      let mine := ((flight ++ q).filter fun x => x.port == r.port).length
      let blocked := acc.2.any fun x => x.port == r.port
      let used := flight.length + q.length
      let room := decide (used < 512) && (s.classOf ch r.port == 0 || decide (used < cap))
      if !blocked && room && decide (mine < s.rdA (F.DMC_PORTp_CFG_QMAX ch r.port)) then (q ++ [r], acc.2)
      else (q, acc.2 ++ [r])
    let r := (s.dmc.get ch).wait.foldl step ((s.dmc.get ch).queue, [])
    s.modDmc ch fun d => { d with queue := r.1, wait := r.2 }

/-- The channel leaves automatic self-refresh (R368). -/
def srExit (s : State) (ch : Fin 2) : State :=
  if s.rd (F.DMC_STATUS_STATE ch) == 4 then s.wr (F.DMC_STATUS_STATE ch) 3 else s

/-- A port request arrives (R354, R358, R368): one entry per burst it touches; the part outside DRAM reaches none. -/
def dramReq (s : State) (port a : Nat) (write : Bool) (len : Nat) : State :=
  let first := a / 64 * 64
  let n := ceilDiv (a + max 1 len - first) 64
  let bs := (List.range n).map fun i => first + 64 * i
  let s := match bs.find? fun b => !s.dramHit b with
    | some b => s.dramOutside port b
    | none => s
  (bs.filter s.dramHit).foldl (fun (s : State) b =>
    let ch := dramCh b
    let lo := max a b
    let hi := min (a + max 1 len) (b + 64)
    let s := s.modDmc ch fun d => { d with wait := d.wait ++ [⟨port, b, write, hi - lo, 0, false, s.requests⟩] }
    ((s.setRequests (s.requests + 1)).srExit ch).takeIn ch) s

/-- The reads of a port that the two channels still owe. -/
def owedReads (s : State) (p : Nat) : List DmcReq :=
  ([0, 1] : List (Fin 2)).flatMap fun ch =>
    let d := s.dmc.get ch
    (d.wait ++ d.queue ++ d.flight).filter fun x => x.port == p && !x.write

/-- Every port receives its read data in the order of its requests: a returned read is delivered once no older read of its
port is owed by either channel (R357). -/
def deliver (s : State) : State :=
  ([0, 1] : List (Fin 2)).foldl (fun (s : State) ch =>
    let free := fun (x : DmcReq) => (s.owedReads x.port).all fun y => decide (x.num < y.num)
    let done := (s.dmc.get ch).back.filter free
    s.modDmc ch fun d =>
      { d with back := d.back.filter fun x => !free x,
               given := done.foldl (fun m x => sset (fun _ => 0) m x.port (max (x.num + 1) (sget (fun _ => 0) m x.port))) d.given }) s

/-- The buffer level i at this look. -/
def level (s : State) (i : Nat) : Nat := Config.level s.free i

/-- A port's reason for panic (R353): FETCH holds too few lines of a layer that it still reads (R169), with the release level
once it has raised panic; BPF reads planes from DRAM and holds fewer than two blocks (R203); the write buffer of the
compositions in progress is more than half full. -/
def panicCause (s : State) (ch : Fin 2) (p : Nat) : Bool :=
  if p < 4 then
    let n := chan p
    let held := bit (s.rd (F.DMC_PANIC_SRC ch)) p
    let need := if held then s.rdC (F.FETCH_PANIC_RELEASE_LINES n) else s.rdC (F.FETCH_PANIC_PANIC_LINES n)
    (s.ch n).composing && (s.ch n).drawn.isNone &&
      chans.any fun x => (s.lay n x).on && (s.lay n x).under.isNone && decide (s.level (4 * p + x.val) < need)
  else if p < 8 then
    let n := chan (p - 4)
    s.loading n && !(s.bp n).pattern && ((s.litSlots n)[(s.bp n).lit]?).isSome && decide (s.level (12 + p) < 2)
  else p == 8 && (chans.any fun n => (s.ch n).composing && !(s.ch n).composed) && decide (50 < s.level 20)

/-- The RT-A ports raise or drop panic with their buffer levels, on both channels (R353, R360, log entry 82). -/
def panicNow (s : State) : State :=
  ([0, 1] : List (Fin 2)).foldl (fun (s : State) ch =>
    let m := (List.range 9).foldl (fun m p => if s.classOf ch p == 0 && s.panicCause ch p then setBit m p true else m) 0
    (s.wr (F.DMC_PANIC_SRC ch) m).wrB (F.DMC_STATUS_PANIC ch) (m != 0)) s |>.nextFree

/-- The ports whose panic has effect (R360). -/
def panicMask (s : State) (ch : Fin 2) : Nat :=
  (List.range 12).foldl (fun m p =>
    if bit (s.rd (F.DMC_PANIC_SRC ch)) p && s.onA (F.DMC_PORTp_CFG_PANIC_EN ch p) && s.classOf ch p == 0
    then setBit m p true else m) 0

/-- Arbitration rank of a request (R355, R356); none while panic pauses it. -/
def rankOf (s : State) (ch : Fin 2) (r : DmcReq) : Option Nat :=
  let c := s.classOf ch r.port
  let pm := s.panicMask ch
  if bit pm r.port then some 2
  else if c = 0 then some 3
  else if c = 1 ∨ r.promoted then some 4
  else if c = 2 then some 5
  else if pm = 0 then some 6 else none

/-- A command is issued: the retry buffers move on (R363, R364). -/
def issueCmd (s : State) (ch : Fin 2) (c : DmcCmd) : State :=
  s.modDmc ch fun d =>
    let r := d.recent ++ [c]
    let b := if c.kind = 3 then d.bursts ++ [c] else d.bursts
    { d with recent := r.drop (r.length - 32), bursts := b.drop (b.length - 16), parityRun := 0, crcRun := 0 }

/-- The open row of a bank. -/
def openRow (s : State) (ch : Fin 2) (bank : Nat) : Option Nat := sget (fun _ => none) (s.dmc.get ch).opened bank
def setRow (s : State) (ch : Fin 2) (bank : Nat) (r : Option Nat) : State :=
  s.modDmc ch fun d => { d with opened := sset (fun _ => none) d.opened bank r }

/-- Row-disturb counting at an ACT (R370). -/
def disturb (s : State) (ch : Fin 2) (bank row : Nat) : State :=
  if !s.onA (F.DMC_RDIST_EN ch) then s
  else
    let d := s.dmc.get ch
    let r := actCount (sget (fun _ => []) d.table bank) (sget (fun _ => 0) d.spill bank) row (s.rdA (F.DMC_RDIST_THRESH ch))
    let near := (if 1 ≤ row then [row - 1] else []) ++ [row + 1]
    let far := if s.onA (F.DMC_RDIST_NEIGHBOUR2 ch) then (if 2 ≤ row then [row - 2] else []) ++ [row + 2] else []
    let due := if r.2.2 then ((near ++ far).filter fun x => decide (x < s.rowCount ch)).map fun x => (bank, x) else []
    s.modDmc ch fun d => { d with table := sset (fun _ => []) d.table bank r.1, spill := sset (fun _ => 0) d.spill bank r.2.1,
                                  target := d.target ++ due }

/-- A refresh of every bank: all rows close, and ZQCS follows if due (R361). -/
def refresh (s : State) (ch : Fin 2) : State :=
  let zq := (s.dmc.get ch).zqOwed
  let s := (s.modDmc ch fun d => { d with opened := [], refOwed := false, zqOwed := false }).issueCmd ch ⟨4, 0, 0⟩
  if !zq then s
  else
    let s := s.issueCmd ch ⟨6, 0, 0⟩
    if s.on (F.DMC_CFG_RANKS2 ch) then s.issueCmd ch ⟨6, 1, 0⟩ else s

/-- The requests that may be taken next: the oldest of the best rank, an open-row request within RH_CAP, or one of the
last direction; never ahead of an older access of its port to its address (R355). -/
def candidates (s : State) (ch : Fin 2) : List Nat :=
  let q := (s.dmc.get ch).queue
  let ranks := q.map fun r => s.rankOf ch r
  match ranks.filterMap id |>.min? with
  | none => []
  | some best =>
    let at' := fun i => ranks.getD i none == some best
    let ok := fun i =>
      match q[i]? with
      | none => false
      | some r =>
        let older := ((List.range i).filter at').filterMap fun j => q[j]?
        let d := s.decodeAddr ch r.addr
        let free := !(q.take i).any fun x => x.port == r.port && x.addr == r.addr
        at' i && (older.isEmpty || (free &&
          ((s.openRow ch d.2.1 == some d.2.2 && older.all fun x => decide (x.passed < s.rdA (F.DMC_SCHED_RH_CAP ch))) ||
           r.write == (s.dmc.get ch).wrote)))
    (List.range q.length).filter ok

/-- Bytes moved in the last 1 ms (DMC_BW), published when a burst finds that time passed. -/
def countBurst (s : State) (ch : Fin 2) : State :=
  let d := s.dmc.get ch
  if withinMs (s.tb.toNat - d.movedTick) 1 then s.modDmc ch fun d => { d with moved := d.moved + 64 }
  else (s.wr (F.DMC_BW_MB_S ch) (satN 16 (d.moved / 1000))).modDmc ch fun d => { d with moved := 64, movedTick := s.tb.toNat }

/-- The request at index i goes ahead by one command: PRE, ACT or its burst (R355). -/
def serveReq (s : State) (ch : Fin 2) (i : Nat) : State :=
  match (s.dmc.get ch).queue[i]? with
  | none => s
  | some r =>
    let d := s.decodeAddr ch r.addr
    match s.openRow ch d.2.1 with
    | none => ((s.setRow ch d.2.1 (some d.2.2)).issueCmd ch ⟨1, d.1, r.addr⟩).disturb ch d.2.1 d.2.2
    | some row =>
      if row != d.2.2 then (s.setRow ch d.2.1 none).issueCmd ch ⟨0, d.1, r.addr⟩
      else
        let best := s.rankOf ch r
        let q := (s.dmc.get ch).queue
        let q := (List.range q.length).filterMap fun j =>
          if j = i then none
          else (q[j]?).map fun x => if j < i ∧ s.rankOf ch x = best then { x with passed := x.passed + 1 } else x
        let back := !r.write || decide (r.len < 64)
        let s := s.modDmc ch fun d =>
          { d with queue := q, wrote := r.write, flight := if back then d.flight ++ [r] else d.flight }
        let s := if r.write && !back then s.setPoison r.addr false else s
        ((s.issueCmd ch ⟨if r.write then 3 else 2, d.1, r.addr⟩).countBurst ch).takeIn ch

/-- One command slot (R355, R362, R370). -/
def dmcSlot (s : State) (ch : Fin 2) : State :=
  if s.rd (F.DMC_STATUS_STATE ch) != 3 || !s.on (F.DMC_CTRL_RUN ch) then s
  else
    let s := s.panicNow.takeIn ch
    match (s.dmc.get ch).target with
    | (bank, row) :: rest =>
      let s := (s.modDmc ch fun d => { d with target := rest }).setRow ch bank none
      ((s.issueCmd ch ⟨5, bank / 16, 0⟩).incSat (F.DMC_RD_CNT_TARGETED ch)).logEvent (dmcCode ch 4) 0 bank (row % 65536)
    | [] =>
      if (s.dmc.get ch).refOwed then s.refresh ch
      else if s.panicMask ch = 0 ∧ s.rd (F.DMC_STATUS_POSTPONED ch) ≠ 0 then
        (s.refresh ch).wr (F.DMC_STATUS_POSTPONED ch) (s.rd (F.DMC_STATUS_POSTPONED ch) - 1)
      else
        let cs := s.candidates ch
        if cs.isEmpty then s else s.nextFree.serveReq ch (cs.getD (Config.slotPick s.free % cs.length) 0)

/-- A request older than its age limit is promoted (R356); aging is suspended during a hold (R369). -/
def promote (s : State) (ch : Fin 2) (idx : Nat) : State :=
  let d := s.dmc.get ch
  let may := fun (r : DmcReq) =>
    (s.classOf ch r.port == 2 && s.rdA (F.DMC_SCHED_AGE_BE ch) != 0) ||
    (s.classOf ch r.port == 3 && s.rdA (F.DMC_SCHED_AGE_BULK ch) != 0)
  let up := fun (r : DmcReq) => if may r then { r with promoted := true } else r
  if s.rd (F.DMC_STATUS_STATE ch) == 5 then s
  else if idx < d.queue.length then s.modDmc ch fun d => { d with queue := d.queue.modify idx up }
  else s.modDmc ch fun d => { d with wait := d.wait.modify (idx - d.queue.length) up }

/-! ### Refresh -/

/-- The refresh rate follows MODE and die sensor S3 (R361). -/
def refRate (s : State) (ch : Fin 2) : State :=
  let t := signed (s.rd (F.CAL_TEMPs_T 3)) 16
  let now := s.on (F.DMC_STATUS_REF2X ch)
  let new := match s.rdA (F.DMC_REF_MODE ch) with
    | 0 => if t ≥ 85 * 16 then true else if t < 83 * 16 then false else now
    | 1 => false | 2 => true | _ => now
  if new = now then s
  else (s.wrB (F.DMC_STATUS_REF2X ch) new).logEvent (dmcCode ch 9) 1 (b2n new) (unsigned ((t + 8) / 16) 16)

/-- A refresh falls due (R362). -/
def refreshDue (s : State) (ch : Fin 2) : State :=
  if s.rd (F.DMC_STATUS_STATE ch) != 3 then s
  else
    let s := (s.refRate ch).panicNow
    let pm := s.panicMask ch
    if pm = 0 then s.modDmc ch fun d => { d with refOwed := true }
    else if s.rd (F.DMC_STATUS_POSTPONED ch) < min 8 (s.rdA (F.DMC_REF_POSTPONE_MAX ch)) then
      s.wr (F.DMC_STATUS_POSTPONED ch) (s.rd (F.DMC_STATUS_POSTPONED ch) + 1)
    else
      let s := s.modDmc ch fun d => { d with refOwed := true }
      (s.incSat (F.DMC_RD_CNT_FORCED ch)).errEvent (dmcBase ch) (dmcCode ch 8) 2 (s.rd (F.DMC_PANIC_SRC ch)) 0

/-! ### Bus errors (R363–R365) -/

/-- A command or burst is abandoned (R365): a read is delivered poisoned, a write leaves its bytes undefined. -/
def abandon (s : State) (ch : Fin 2) (c : DmcCmd) : State :=
  let s := (s.incSat (F.DMC_CA_CNT_EXHAUSTED ch)).errEvent (dmcBase ch) (dmcCode ch 5) 5 c.rank (if c.kind = 3 then 2 else 1)
  if c.kind = 3 then s.dramFree c.addr 64
  else
    let mine := fun (r : DmcReq) => r.addr == c.addr && !r.write
    let s := s.modDmc ch fun d =>
      { d with flight := d.flight.eraseP mine, back := d.back ++ (d.flight.find? mine).toList }
    s.deliver.incSat (F.DMC_ECC_CNT_POISONED ch)

/-- An ALERT_N pulse: 24 clocks or more a parity alert, shorter a CRC alert.  Which commands were unconfirmed and which
bursts it covers depends on clocks the model does not count: a free number of the last ones. -/
def alert (s : State) (ch : Fin 2) (clocks : Nat) : State :=
  let d := s.dmc.get ch
  if s.rd (F.DMC_STATUS_STATE ch) != 3 then s
  else if 24 ≤ clocks then
    if !s.on (F.DMC_CFG_PARITY_EN ch) || d.recent.isEmpty then s
    else
      let k := 1 + Config.slotPick s.free % d.recent.length
      let un := d.recent.drop (d.recent.length - k)
      let rank := (un.headD ⟨0, 0, 0⟩).rank
      let s := s.nextFree.modDmc ch fun d =>
        { d with opened := skeep (fun b => b / 16 != rank) d.opened, parityRun := d.parityRun + 1,
                 parTicks := (s.tb.toNat :: d.parTicks).take 11 }
      let s := (s.incSat (F.DMC_CA_CNT_PARITY ch)).logEvent (dmcCode ch 1) 1 rank k
      if d.parityRun < 3 then s
      else match un.find? fun c => c.kind == 2 || c.kind == 3 with
        | some c => (s.abandon ch c).modDmc ch fun d => { d with parityRun := 0, recent := d.recent.erase c }
        | none => s.modDmc ch fun d => { d with parityRun := 0 }
  else
    if !s.on (F.DMC_CFG_WCRC_EN ch) || d.bursts.isEmpty then s
    else
      let k := 1 + Config.slotPick s.free % d.bursts.length
      let un := d.bursts.drop (d.bursts.length - k)
      let c := un.headD ⟨3, 0, 0⟩
      let s := s.nextFree.modDmc ch fun d => { d with crcRun := d.crcRun + 1 }
      let s := (s.incSat (F.DMC_CA_CNT_WCRC ch)).logEvent (dmcCode ch 7) 1 c.rank k
      if d.crcRun < 3 then s
      else (s.abandon ch c).modDmc ch fun d => { d with crcRun := 0, bursts := d.bursts.erase c }

/-! ### ECC (R366, R367) -/

/-- A corrected beat: count, event 0x6n02, last address. -/
def eccCorrected (s : State) (ch : Fin 2) (a i : Nat) : State :=
  let s := (s.incSat (F.DMC_ECC_CNT_CORR ch)).logEvent (dmcCode ch 2) 0 (i / 8) (bits a 20 16)
  let s := (s.wr (F.DMC_ECC_LAST_ADDR ch) (a / 64)).wr (F.DMC_ECC_LAST_UNCORR ch) 0
  s.modDmc ch fun d => { d with eccTicks := (s.tb.toNat :: d.eccTicks).take 101 }

/-- The corrected beats of a burst that is delivered. -/
def eccBeats (s : State) (ch : Fin 2) (a : Nat) (beats : List Nat) : State :=
  beats.foldl (fun (s : State) x => match eccBit x with | some i => s.eccCorrected ch a i | none => s) s

/-- An uncorrectable burst is delivered poisoned: counts, event 0x6n03, last address (R367). -/
def eccPoison (s : State) (ch : Fin 2) (a lane : Nat) : State :=
  let s := (s.incSat (F.DMC_ECC_CNT_POISONED ch)).errEvent (dmcBase ch) (dmcCode ch 3) 4 lane (bits a 20 16)
  let s := (s.wr (F.DMC_ECC_LAST_ADDR ch) (a / 64)).wr (F.DMC_ECC_LAST_UNCORR ch) 1
  s.modDmc ch fun d => { d with poisonNew := true }

/-- The oldest read of a channel returns: eight syndromes of the first reading, then eight of the second. -/
def readReturn (s : State) (ch : Fin 2) (syn : List Nat) : State :=
  match (s.dmc.get ch).flight with
  | [] => s
  | r :: rest =>
    let s := (s.panicNow.modDmc ch fun d => { d with flight := rest, back := if r.write then d.back else d.back ++ [r] }).deliver
    let mark := if s.poisoned r.addr then 3 else 0
    let beat := fun i => (syn.getD i 0 % 256) ^^^ mark
    let one := (List.range 8).map beat
    let two := (List.range 8).map fun i => beat (8 + i)
    let lane := Config.slotPick s.free % 9
    if !s.on (F.DMC_CFG_ECC_EN ch) || one.all (· == 0) then (if r.write then s.setPoison r.addr false else s)
    else if !one.any eccBad then
      let s := s.eccBeats ch r.addr one
      if r.write then s.setPoison r.addr false else s
    else
      let s := (s.incSat (F.DMC_ECC_CNT_UNCORR ch)).nextFree
      if !two.any eccBad then
        let s := (s.errEvent (dmcBase ch) (dmcCode ch 10) 2 lane (bits r.addr 20 16)).eccBeats ch r.addr two
        if r.write then s.setPoison r.addr false else s
      else
        let s := s.eccPoison ch r.addr lane
        if r.write then s.setPoison r.addr true else s

/-! ### Self-refresh (R368, R369) -/

/-- Every request in the queue is served and every read returned. -/
def drain (s : State) (ch : Fin 2) : State :=
  (s.modDmc ch fun d => { d with queue := [], flight := [], opened := [],
                                 back := d.back ++ (d.queue ++ d.flight).filter fun x => !x.write }).deliver

/-- Entry into self-refresh: 4 automatic, 5 held. -/
def srEnter (s : State) (ch : Fin 2) (st : Nat) : State :=
  let was := s.rd (F.DMC_STATUS_STATE ch)
  let s := (s.drain ch).wr (F.DMC_STATUS_STATE ch) st
  if was = 4 ∨ was = 5 then s else s.incWrap (F.DMC_PM_CNT_SR_ENTRIES ch)

/-- A write of DMC_CTRL (R369). -/
def dmcCtrlWrite (s : State) (ch : Fin 2) (v : Nat) : State :=
  let s := (s.plainWrite (R.DMC_CTRL ch) v).csiEnable
  let st := s.rd (F.DMC_STATUS_STATE ch)
  if !s.on (F.DMC_CTRL_RUN ch) then
    ((s.wr (F.DMC_STATUS_STATE ch) 0).wr (F.DMC_STATUS_SPEED ch) 0).modDmc ch fun d => { d with opened := [] }
  else if s.on (F.DMC_CTRL_HOLD_SR ch) then (if st = 5 then s else s.srEnter ch 5)
  else if st = 0 ∨ st = 5 then
    ((s.wr (F.DMC_STATUS_STATE ch) 3).wr (F.DMC_STATUS_SPEED ch) (s.rd (F.DMC_CFG_SPEED ch))).takeIn ch
  else s

/-- SELF_REFRESH_IDLE (R368). -/
def srIdle (s : State) (ch : Fin 2) : State :=
  let d := s.dmc.get ch
  if s.rd (F.DMC_STATUS_STATE ch) == 3 && s.rdA (F.DMC_SR_IDLE_US ch) != 0 && d.queue.isEmpty && d.wait.isEmpty &&
     d.flight.isEmpty then s.srEnter ch 4 else s

/-! ### Pattern runs and training (R371–R375) -/

/-- PHY_PAT_GO. -/
def patGo (s : State) (ch : Fin 2) (v : Nat) : State :=
  if !bit v 0 then s
  else
    let s := (List.range 72).foldl (fun (s : State) b => s.wr (F.PHY_CMPb_COUNT ch b) 0) s
    let s := if s.on (F.PHY_PAT_CFG_WRITE ch) then s.trainArea ch (s.rd (F.PHY_PAT_CFG_RANK ch)) else s
    ((s.wr (F.PHY_PAT_STATUS_DONE ch) 0).wr (F.PHY_PAT_STATUS_BUSY ch) 1).wr (F.PHY_PAT_STATUS_COMPARED ch) 0

/-- A pattern run completes with the mismatches of each DQ bit. -/
def patDone (s : State) (ch : Fin 2) (mism : List Nat) : State :=
  if !s.on (F.PHY_PAT_STATUS_BUSY ch) then s
  else
    let s := (List.range 72).foldl (fun (s : State) b => s.wr (F.PHY_CMPb_COUNT ch b) (satN 16 (mism.getD b 0))) s
    ((s.wr (F.PHY_PAT_STATUS_DONE ch) 1).wr (F.PHY_PAT_STATUS_BUSY ch) 0).wr (F.PHY_PAT_STATUS_COMPARED ch)
      (s.rd (F.PHY_PAT_CFG_BURSTS ch))

/-- The delay fields that a training step sets on a lane (R371). -/
def stepFields (ch : Fin 2) (r l step : Nat) : List Fld :=
  let dsk := fun k => (List.range 4).map fun i => (⟨R.PHY_Rr_Ll_DSK ch r l k, 8 * i, 8⟩ : Fld)
  match step with
  | 1 => [F.PHY_Rr_Ll_DLY0_WLEV ch r l]
  | 2 => [F.PHY_Rr_Ll_DLY0_GATE ch r l]
  | 3 => dsk 0 ++ dsk 1 ++ [F.PHY_Rr_Ll_DLY1_RDQS ch r l]
  | 4 => dsk 2 ++ dsk 3 ++ [F.PHY_Rr_Ll_DLY1_WDQ ch r l]
  | 5 => [F.PHY_Rr_Ll_VREF_CODE ch r l] ++ dsk 2 ++ dsk 3 ++ [F.PHY_Rr_Ll_DLY1_WDQ ch r l]
  | _ => []
/-- The place of a trained value. -/
def placeOf (f : Fld) : Nat := 8 * f.addr + f.lo / 8
/-- Is a field a VrefDQ code, not a delay? -/
def isVref (f : Fld) : Bool := f.w == 7

/-- The taps of a trained delay at a tap size (R333). -/
def writeDelay (s : State) (f : Fld) (tap : Nat) : State :=
  let v := sget (fun _ => 0) s.fw.delays (placeOf f)
  s.wr f (if isVref f then v else satN f.w (roundDiv v (max 1 tap)))

/-- Every trained value of a channel is written at the tap size measured now on its delay line (R333). -/
def writeDelays (s : State) (ch : Fin 2) : State :=
  let places := (List.range 2).flatMap fun r => (List.range 9).flatMap fun l => [1, 2, 3, 5].flatMap (stepFields ch r l)
  places.foldl (fun s f => (s.writeDelay f ((Config.tapPs s.free).toNat + 1)).nextFree) s

/-- A lane passes a step: its trained values are new ones, free. -/
def trainLane (s : State) (ch : Fin 2) (r l step : Nat) : State :=
  (stepFields ch r l step).foldl (fun (s : State) f =>
    let v := (Config.trained s.free).toNat
    let s := s.nextFree.modFw fun w => { w with delays := sset (fun _ => 0) s.fw.delays (placeOf f) (if isVref f then v % 128 else v) }
    s.writeDelay f ((Config.tapPs s.free).toNat + 1)) s |> State.nextFree

/-- A record of the training area: of a speed code, in the first or the second of its two sectors (R373). -/
def trainSector (s : State) (sp half : Nat) : Option TrainRec := sget (fun _ => none) s.fw.train (2 * sp + half)

/-- A valid training record: its check word passes and its device identity matches (R79, R373). -/
def trainOk (s : State) (r : TrainRec) : Bool :=
  r.ok && r.sysId == s.get R.SYS_ID && r.serial == s.fw.otpSerial && r.capMB == s.dramBytes 0 / 2 ^ 20 &&
  r.ranks == s.rd (F.DMC_CFG_RANKS2 0) + 1 && r.width == (if s.on (F.DMC_CFG_X16 0) then 16 else 8)

/-- The sector of a speed that holds the valid copy with the higher SEQ (R373). -/
def trainHalf (s : State) (sp : Nat) : Option (Nat × TrainRec) :=
  let v := fun h => (s.trainSector sp h).filter s.trainOk
  match v 0, v 1 with
  | some a, some b => if a.seq < b.seq then some (1, b) else some (0, a)
  | some a, none => some (0, a)
  | none, some b => some (1, b)
  | none, none => none

/-- The valid training record of a speed. -/
def trainRecord (s : State) (sp : Nat) : Option TrainRec := (s.trainHalf sp).map (·.2)

/-- STORE (R373): the trained values of both channels go to the sector of the speed in force that does not hold its valid
copy. -/
def trainStore (s : State) : State :=
  let sp := s.rd (F.DMC_CFG_SPEED 0)
  let (half, seq) := match s.trainHalf sp with | some (h, o) => (1 - h, o.seq + 1) | none => (0, 1)
  let r : TrainRec := ⟨seq, s.get R.SYS_ID, s.fw.otpSerial, true, s.dramBytes 0 / 2 ^ 20, s.rd (F.DMC_CFG_RANKS2 0) + 1,
    if s.on (F.DMC_CFG_X16 0) then 16 else 8, s.fw.delays⟩
  s.modFw fun w => { w with train := sset (fun _ => none) s.fw.train (2 * sp + half) (some r) }

/-- Stored training of a channel is restored (R374); verification leaves free bytes in the training area. -/
def trainRestore (s : State) (ch : Fin 2) (r : TrainRec) : State :=
  let mine := fun k => decide (8 * dmcBase ch ≤ k ∧ k < 8 * (dmcBase ch + 0x10000))
  let ds := (r.words.filter fun e => mine e.1).foldl (fun m e => sset (fun _ => 0) m e.1 e.2) (skeep (fun k => !mine k) s.fw.delays)
  let s := (s.modFw fun w => { w with delays := ds }).writeDelays ch
  let s := s.trainArea ch 0
  if s.on (F.DMC_CFG_RANKS2 ch) then s.trainArea ch 1 else s

/-- Full training of a channel (R372): content undefined, every lane newly trained but those on which a step failed twice,
which keep their values; results stored. -/
def fullTraining (s : State) (ch : Fin 2) (failStep failMask : Nat) : State :=
  let s := s.dramLost ch
  let rs := if s.on (F.DMC_CFG_RANKS2 ch) then [0, 1] else [0]
  let s := rs.foldl (fun (s : State) r => (List.range 9).foldl (fun (s : State) l =>
    ([1, 2, 3, 5] : List Nat).foldl (fun (s : State) st =>
      if (st = failStep ∨ (st = 5 ∧ failStep = 4)) ∧ bit failMask l then s else s.trainLane ch r l st) s) s) s
  s.trainStore

/-- A channel runs at a speed. -/
def dmcRun (s : State) (ch : Fin 2) : State :=
  let s := ((s.wr (F.DMC_CTRL_RUN ch) 1).wr (F.DMC_CTRL_HOLD_SR ch) 0).wr (F.DMC_STATUS_STATE ch) 3
  ((s.wr (F.DMC_STATUS_SPEED ch) (s.rd (F.DMC_CFG_SPEED ch))).takeIn ch).csiEnable

/-- The settings of a speed (R351, R375): the timing parameters of the stored configuration, CL and CWL. -/
def dmcSpeed (s : State) (ch : Fin 2) (sp : Nat) : State :=
  let s := s.wr (F.DMC_CFG_SPEED ch) sp
  let cl := match sp with | 1 => (11, 9) | 2 => (16, 12) | _ => (22, 16)
  let s := ((s.put (R.DMC_TIM0 ch) (Config.dmcTiming sp 0).toNat).put (R.DMC_TIM1 ch) (Config.dmcTiming sp 1).toNat).put (R.DMC_TIM2 ch)
    ((Config.dmcTiming sp 2).toNat % 2 ^ 24)
  (s.wr (F.DMC_TIM0_CL ch) cl.1).wr (F.DMC_TIM0_CWL ch) cl.2

/-- DRAM_TRAIN_STEP (R146, R371). -/
def trainStep (s : State) (pl : List Byte) (results : List (Nat × Nat)) : Ans :=
  let c := byteAt pl 4
  let step := byteAt pl 5
  let rank := byteAt pl 6
  let mask := le16 pl 8
  let ch := duo c
  if pl.length != 12 then refuse s stBAD_LENGTH 0
  else if decide (1 < c) || decide (6 < step) || decide (s.rd (F.DMC_CFG_RANKS2 ch) < rank) || byteAt pl 7 != 0 ||
     decide (511 < mask) || le16 pl 10 != 0 then refuse s stBAD_PARAM 0
  else if chans.any fun n => s.on (F.LEC_STATUS_RUNNING n) then refuse s stBUSY 0
  else
    -- a margin below MIN_MARGIN is result 2 of the steps that measure one
    let lane := fun l =>
      let q := results.getD l (0, 0)
      if !bit mask l then (3, 0)
      else if q.1 = 0 ∧ 3 ≤ step ∧ step ≤ 5 ∧ q.2 < s.rd (F.PHY_TRAIN_CFG_MIN_MARGIN ch) then (2, q.2) else q
    let s := if step = 0 then s.dramLost ch else s
    let s := if step = 3 ∨ step = 4 ∨ step = 5 then s.trainArea ch rank else s
    let s := (List.range 9).foldl (fun (s : State) l =>
      if bit mask l && (lane l).1 == 0 then s.trainLane ch rank l step else s) s
    let s := if step = 6 then s.trainStore else s
    ⟨s.dmcRun ch, stOK, 0, ((List.range 9).map fun l => leBytes 2 (lane l).1 ++ leBytes 2 (lane l).2).flatten⟩

end State

open Host (Outcome)

/-- DRAM_REQUEST (R354, R358, R368). -/
def execDramRequest (port : Fin 12) (addr : Nat) (write : Bool) (len : Nat) (s : State) : Outcome State Fault Refusal :=
  .next (s.dramReq port.val addr write len)
/-- DRAM_COMMAND_SLOT (R355). -/
def execDramCommandSlot (ch : Duo) (s : State) : Outcome State Fault Refusal := .next (if s.dramStill ch then s else s.dmcSlot ch)
/-- DRAM_REQUEST_PROMOTION (R356). -/
def execDramRequestPromotion (ch : Duo) (idx : Nat) (s : State) : Outcome State Fault Refusal := .next (if s.dramStill ch then s else s.promote ch idx)
/-- DRAM_READ_RETURN (R367). -/
def execDramReadReturn (ch : Duo) (syndromes : List Nat) (s : State) : Outcome State Fault Refusal :=
  .next (if s.dramStill ch then s else s.readReturn ch syndromes)
/-- REFRESH_DUE (R362). -/
def execRefreshDue (ch : Duo) (s : State) : Outcome State Fault Refusal := .next (if s.dramStill ch then s else s.refreshDue ch)
/-- ZQCS_DUE (R361): ZQCS follows the next refresh. -/
def execZqcsDue (ch : Duo) (s : State) : Outcome State Fault Refusal :=
  .next (if s.rd (F.DMC_STATUS_STATE ch) == 3 && !s.dramStill ch then s.modDmc ch fun d => { d with zqOwed := true } else s)
/-- ROW_DISTURB_WINDOW_END (R370). -/
def execRowDisturbWindowEnd (ch : Duo) (s : State) : Outcome State Fault Refusal :=
  .next (if s.dramStill ch then s else s.modDmc ch fun d => { d with table := [], spill := [] })
/-- ALERT_PULSE (R363–R365). -/
def execAlertPulse (ch : Duo) (clocks : Nat) (s : State) : Outcome State Fault Refusal := .next (if s.dramStill ch then s else s.alert ch clocks)
/-- SELF_REFRESH_IDLE (R368). -/
def execSelfRefreshIdle (ch : Duo) (s : State) : Outcome State Fault Refusal := .next (if s.dramStill ch then s else s.srIdle ch)
/-- HOLD_SELF_REFRESH_WRITE (R369): a write of DMC_CTRL. -/
def execHoldSelfRefreshWrite (ch : Duo) (v : Word) (s : State) : Outcome State Fault Refusal :=
  .next (if s.sysHeld (2 + ch.val) then s else s.dmcCtrlWrite ch v.toNat)
/-- PATTERN_RUN_GO (R371). -/
def execPatternRunGo (ch : Duo) (v : Word) (s : State) : Outcome State Fault Refusal := .next (if s.dramStill ch then s else s.patGo ch v.toNat)
/-- PATTERN_RUN_DONE (R371). -/
def execPatternRunDone (ch : Duo) (mismatches : List Nat) (s : State) : Outcome State Fault Refusal :=
  .next (if s.dramStill ch then s else s.patDone ch mismatches)
/-- DRAM_TRAIN_STEP (R146, R371). -/
def execDramTrainStep (port : Fin 3) (mb : Fin 6) (results : List (Nat × Nat)) (s : State) : Outcome State Fault Refusal :=
  .next (s.serve port mb (· == 0x87) fun s _ pl => s.trainStep pl results)

end Sys2Proof.Machine
end

