-- ==== Sys2Proof/Machine/Cal.lean ====
section
/-! DEFINITION. The calibration engine (chapter 15): due items, takes and pairs, fall-back taps, Recess slots, Report
Cards, RUN_CALIBRATION and CAL_STEP. -/

namespace Sys2Proof.Machine

/-- Redundant elements of an item (R331); of each sensor for item 0. -/
def calElements (i : Nat) : Nat := if i = 0 then 3 else if i = 1 then 4 else if i < 6 then 8 else if i < 10 then 3 else if i < 12 then 4 else 2
/-- The nearest die sensor of an item (R332). -/
def calSensor (i : Nat) : Nat := [0, 0, 1, 1, 2, 2, 1, 1, 2, 2, 3, 3, 3, 3].getD i 0
/-- Is q an eye width, where more is better (R331)? -/
def calEye (i : Nat) : Bool := decide (6 ≤ i ∧ i ≤ 9)
/-- The link of items 2–9 and the DRAM channel of items 10–13. -/
def calLink (i : Nat) : Fin 4 := chan (i - 2)
def calDram (i : Nat) : Fin 2 := duo i
/-- One signed tap, or one signed byte per sensor or lane (R345). -/
def calBytes (i : Nat) : Bool := i == 0 || decide (6 ≤ i)
/-- Range of the fall-back taps (R331). -/
def calLo (i : Nat) : Int := if i = 0 ∨ calEye i then -31 else if 12 ≤ i then -128 else 0
def calHi (i : Nat) : Int := if i = 0 ∨ calEye i then 31 else if i = 1 then 63 else if 12 ≤ i then 127 else 31
/-- Tap bytes moved by one step, held in their range. -/
def tapStep (i v : Nat) (up : Bool) : Nat :=
  let d : Int := if up then 1 else -1
  if calBytes i then
    (List.range 4).foldl (fun acc k => setBits acc (8 * k) 8 (unsigned (clampI (calLo i) (calHi i) (signed (bits v (8 * k) 8) 8 + d)) 8)) 0
  else unsigned (clampI (calLo i) (calHi i) (signed v 32 + d)) 32
/-- The signed tap of an item: of its first sensor or lane. -/
def tapInt (i v : Nat) : Int := if calBytes i then signed v 8 else signed v 32

/-- A reading in 1/16 °C as a whole number of °C, to nearest: 80.6 °C reads 81 (worked example of R349). -/
def degC (t : Int) : Nat := unsigned ((t + 8) / 16) 8

/-- |q|. -/
def mag (q : Nat) : Nat := (signed q 32).natAbs
/-- Is figure a better than figure b (R331)? -/
def figBetter (i a b : Nat) : Bool := if calEye i then decide (signed b 32 < signed a 32) else decide (mag a < mag b)
/-- By how much. -/
def figGain (i a b : Nat) : Int := if calEye i then signed a 32 - signed b 32 else (mag b : Int) - mag a
/-- The worse of two figures (R338). -/
def figWorse (i a b : Nat) : Nat := if figBetter i a b then b else a

/-- The best of k figures from index j; ties go to the lowest element. -/
def bestAt (i : Nat) (figs : List Nat) (j k : Nat) : Nat :=
  (List.range k).foldl (fun b e => if figBetter i (figs.getD (j + e) 0) (figs.getD (j + b) 0) then e else b) 0
/-- The figure of an element choice; of item 0, the worst of its four sensors. -/
def figOf (i : Nat) (figs : List Nat) (e : Nat) : Nat :=
  if i = 0 then
    let f := fun b => figs.getD (3 * b + bits e (2 * b) 2) 0
    [1, 2, 3].foldl (fun w b => figWorse 0 w (f b)) (f 0)
  else figs.getD e 0
/-- The best element of a take (R337). -/
def calBestOf (i : Nat) (figs : List Nat) : Nat :=
  if i = 0 then (List.range 4).foldl (fun e b => setBits e (2 * b) 2 (bestAt 0 figs (3 * b) 3)) 0
  else bestAt i figs 0 (calElements i)

/-- The order of the queue within a class (R335). -/
def calOrder : List Nat := [1, 0] ++ (List.range 12).map (· + 2)

namespace State


/-- Corrected reading of a sensor, 1/16 °C (R332). -/
def calTemp (s : State) (k : Nat) : Int := signed (s.rd (F.CAL_TEMPs_T k)) 16
/-- The hottest of the four readings. -/
def hottest (s : State) : Int := [1, 2, 3].foldl (fun m k => max m (s.calTemp k)) (s.calTemp 0)

/-- The target of an item (R331, R349). -/
def calTarget (s : State) (i : Nat) : Int :=
  let t := signed (s.rd (F.CAL_Ii_TARGET_TARGET i)) 32
  if calEye i && t == 0 then s.rd (F.LNK_EQ_THR_MIN_EYE (calLink i)) else t
/-- A figure meets the target. -/
def calMeets (s : State) (i q : Nat) : Bool :=
  if calEye i then decide (s.calTarget i ≤ signed q 32) else decide ((mag q : Int) ≤ s.calTarget i)

/-- The unit of an item is on (R334). -/
def calOn (s : State) (i : Nat) : Bool :=
  if i < 2 then true else if i < 10 then s.linkUp (calLink i)
  else let st := s.rd (F.DMC_STATUS_STATE (calDram i)); st == 3 || st == 4
/-- The context in force (R334). -/
def calContext (s : State) (i : Nat) : Nat :=
  if i < 2 then 0 else if i < 10 then s.rd (F.LNK_MODE_RATE (calLink i)) else s.rd (F.DMC_STATUS_SPEED (calDram i))
/-- The partner state counters (R342). -/
def calPartner (s : State) (i : Nat) : Nat :=
  if i < 2 then 0
  else if i < 10 then s.rd (F.LNK_STATUS_NODE_BOOT (calLink i)) * 256 + s.rd (F.LNK_STATUS_RETRAINS (calLink i))
  else s.get (R.DMC_PM_CNT (calDram i))

/-- Unmet preconditions (R339), bit 3 apart; step: under CAL_STEP. -/
def calUnmet (s : State) (i : Nat) (step : Bool) : Nat :=
  let cal := s.mode == modeCALIBRATE
  let n := calLink i
  let st := s.rd (F.DMC_STATUS_STATE (calDram i))
  b2n (!s.calOn i) +
  2 * b2n (calEye i && (cal || step) && !s.on (F.LNK_CTRL_LOOPBACK n)) +
  4 * b2n (decide (10 ≤ i) && (st == 1 || st == 2 || st == 4 || st == 5 || s.sys.speed.isSome)) +
  16 * b2n (decide (2 ≤ i ∧ i ≤ 9) && cal && s.arm n != 0)

/-- CAL_STATUS follows the run. -/
def calStatus (s : State) : State :=
  match s.cal.run with
  | none => s.put R.CAL_STATUS 0
  | some r =>
    let wait := r.apply.isSome || (match r.fall with | some f => f.2.2 != 0 | none => false)
    let un := s.calUnmet r.item false
    (s.put R.CAL_STATUS 0).wrs [(F.CAL_STATUS_BUSY, 1), (F.CAL_STATUS_COMMANDED, b2n r.cmd),
      (F.CAL_STATUS_WAITING, b2n (wait || un != 0)), (F.CAL_STATUS_UNMET, un + (if wait && un == 0 then 8 else 0)),
      (F.CAL_STATUS_ITEM, r.item), (F.CAL_STATUS_PAIR, r.pair), (F.CAL_STATUS_TAKE, b2n r.first.isSome),
      (F.CAL_STATUS_FALLBACK, b2n r.fall.isSome)]

/-- Replace the run in progress; a pair that has not ended its first take works with the tolerance that stands now (R349). -/
def setRun (s : State) (r : Option CalRun) : State :=
  (s.modCal fun c => { c with
    run := r.map fun r => if r.first.isNone then { r with tol := s.rd (F.CAL_Ii_CFG_TOL r.item) } else r }).calStatus

def calDue (s : State) (i : Nat) : Bool := bit (s.rd F.CAL_DUE_DUE) i
def setDue (s : State) (i : Nat) (b : Bool) : State := s.wr F.CAL_DUE_DUE (setBit (s.rd F.CAL_DUE_DUE) i b)
def setCmd (s : State) (i : Nat) (b : Bool) : State := s.wr F.CAL_DUE_CMD (setBit (s.rd F.CAL_DUE_CMD) i b)

/-- Due by temperature or context (R334 conditions 1 and 2). -/
def calMoved (s : State) (i : Nat) : Bool :=
  let t := s.calTemp (calSensor i) - 16 * signed (s.rd (F.CAL_Ii_CARD_TEMP i)) 8
  s.calOn i && (decide ((16 * s.rd F.CAL_CFG_DELTA_T : Int) < t.natAbs) ||
    (decide (2 ≤ i) && s.rd (F.CAL_Ii_CARD_CONTEXT i) != s.calContext i))

/-- The card may serve the quick check of boot (R336). -/
def calCardOk (s : State) (i : Nat) : Bool :=
  let r := s.rd (F.CAL_Ii_CARD_RESULT i)
  decide (2 ≤ i) && (r == 0 || r == 3) && s.rd (F.CAL_Ii_CARD_CONTEXT i) == s.calContext i

/-- The loopback of a link for items 6–9 in CALIBRATE (R339). -/
def calLoop (s : State) (i : Nat) (b : Bool) : State :=
  let n := calLink i
  if calEye i && s.mode == modeCALIBRATE && s.on (F.LNK_CTRL_LOOPBACK n) != b then
    (s.wrB (F.LNK_CTRL_LOOPBACK n) b).mgmt n 9 (leBytes 1 (b2n b))
  else s

/-- The next item starts (R335, R336). -/
def calNext (s : State) : State :=
  if s.cal.run.isSome || !s.fwRuns || s.cal.stepTag.isSome then s
  else
    let start := fun (s : State) (i : Nat) (cmd : Bool) =>
      let quick := bit s.cal.bootLeft i && s.calCardOk i
      (s.calLoop i true).setRun (some ⟨i, cmd, quick, 1, none, none, none, s.calPartner i, s.rd (F.CAL_Ii_CARD_ELEMENT i), s.rd (F.CAL_Ii_TAP_TAP i),
        s.tb.toNat, s.rd F.CAL_CFG_DEFER, 0, 0, none⟩)
    match calOrder.find? fun i => bit (s.rd F.CAL_DUE_CMD) i with
    | some i => start s i true
    | none =>
      if s.granted 5 || s.mode == modeSTANDBY || s.mode == modeSCANTEST then s
      else match calOrder.find? fun i => s.calDue i && s.calOn i with
      | some i => start s i false
      | none => s

/-- The hardware takes the element and taps in force (R333, R340). -/
def calDrive (s : State) (i : Nat) : State :=
  let e := s.rd (F.CAL_Ii_CARD_ELEMENT i)
  let t := s.rd (F.CAL_Ii_TAP_TAP i)
  let ch := calDram i
  if i = 10 ∨ i = 11 then
    (List.range 9).foldl (fun (s : State) l => (s.wr (F.PHY_Ll_DRV_LEGS ch l) e).wr (F.PHY_Ll_DRV_TAP ch l) (bits t (8 * (l % 4)) 8)) s
  else if 12 ≤ i then
    ((List.range 9).foldl (fun (s : State) l => s.wr (F.PHY_Ll_DLINE_LINE ch l) e) s).writeDelays ch
  else s

/-- The Report Card record of an item (R345). -/
def calRecord (s : State) (i : Nat) : List Byte :=
  let b := leBytes 1 i ++ leBytes 1 (s.rd (F.CAL_Ii_CARD_RESULT i)) ++ leBytes 1 (s.rd (F.CAL_Ii_CARD_ELEMENT i)) ++
    leBytes 1 (s.rd (F.CAL_Ii_CARD_TEMP i)) ++ leBytes 4 (s.get (R.CAL_Ii_QUAL i)) ++ leBytes 4 (s.get (R.CAL_Ii_TAP i)) ++
    leBytes 6 (sget (fun _ => 0) s.cal.ticks i) ++ leBytes 1 (s.rd (F.CAL_Ii_CARD_CONTEXT i)) ++ List.replicate 9 0
  b ++ leBytes 4 (crc32 b)
/-- The calibration sector that the cards make (R345). -/
def calSector (s : State) (seq : Nat) : List Byte :=
  let h := leBytes 2 0x4352 ++ [1, 14] ++ leBytes 4 seq ++ leBytes 4 (s.get R.SYS_ID)
  h ++ leBytes 4 (crc32 h) ++ (List.range 14).flatMap s.calRecord
/-- The header of a sector passes: MAGIC, version, count, SYS_ID and CRC-32 (R345, R346). -/
def calHeadOk (s : State) (b : List Byte) : Bool :=
  le16 b 0 == 0x4352 && byteAt b 2 == 1 && byteAt b 3 == 14 && le32 b 8 == s.get R.SYS_ID && le32 b 12 == crc32 (b.take 12)
/-- The valid sector with the higher SEQ (R345, R346). -/
def calValid (s : State) : Option (Fin 2) :=
  match s.calHeadOk (s.cal.sects.get 0), s.calHeadOk (s.cal.sects.get 1) with
  | true, true => some (if le32 (s.cal.sects.get 0) 4 < le32 (s.cal.sects.get 1) 4 then 1 else 0)
  | true, false => some 0
  | false, true => some 1
  | false, false => none

/-- Cards go to the sector of the flash calibration area that does not hold the valid copy with the higher SEQ, once no
other flash operation runs (R345); with no valid copy, to the first with SEQ 1 (log entry 127). -/
def calFlash (s : State) : State :=
  if s.fw.flash.isSome then s.modCal fun c => { c with late := true }
  else
    let (u, seq) : Fin 2 × Nat := match s.calValid with
      | some k => (1 - k, (le32 (s.cal.sects.get k) 4 + 1) % 2 ^ 32)
      | none => (0, 1)
    let b := s.calSector seq
    (s.modCal fun c => { c with sects := c.sects.set u b, touched := 0, late := false }).wr F.CAL_TRIM_STATUS_SEQ seq

/-- A write of the calibration area that waited for another flash operation is made (R345). -/
def calFlashDue (s : State) : State := if s.cal.late then s.calFlash else s

/-- The last item of a commanded run or of a CALIBRATE pass has ended (R135, R336). -/
def calClose (s : State) : State :=
  let s : State := match s.cal.pass with
    | some (g, b) =>
      if s.rd F.CAL_DUE_CMD ≠ 0 then s else ((s.modCal fun c => { c with pass := none }).calFlash).logEvent 0x5010 0 g b
    | none => s
  match s.cal.tag with
  | some t => if s.cal.left ≠ 0 then s else (s.modCal fun c => { c with tag := none, bad := 0 }).done t stOK s.cal.bad
  | none => s

/-- °C of an item's nearest sensor. -/
def calDeg (s : State) (i : Nat) : Nat := degC (s.calTemp (calSensor i))

/-- TEMP, TIME and RESULT of a card (R344). -/
def calCard (s : State) (i res temp : Nat) : State :=
  let s := s.wrs [(F.CAL_Ii_CARD_RESULT i, res), (F.CAL_Ii_CARD_TEMP i, temp), (F.CAL_Ii_TIME_TICK i, s.tb.toNat / 16384)]
  s.modCal fun c => { c with touched := setBit c.touched i true, ticks := sset (fun _ => 0) c.ticks i (s.tb.toNat % 2 ^ 46) }

/-- A run ends (R344): res 0 good, 1 bad, 2 deferred, 3 good with fall-back taps. -/
def calEnd (s : State) (r : CalRun) (res : Nat) : State :=
  let i := r.item
  let good := res == 0 || res == 3
  let s := (((s.calCard i res (r.temp.getD (s.calDeg i))).setDue i false).setCmd i false).calLoop i false
  let s := if good then s.wr (F.CAL_Ii_CARD_CONTEXT i) (s.calContext i) else s
  let s := s.modCal fun c =>
    { c with bootLeft := setBit c.bootLeft i false, bad := if bit c.left i && !good then c.bad + 1 else c.bad, left := setBit c.left i false,
             pass := c.pass.map fun p => if good then (p.1 + 1, p.2) else (p.1, p.2 + 1) }
  (s.setRun none).calClose

/-- A good run: the card takes its figure, and what depends on it becomes due (R334 conditions 3 and 4). -/
def calGood (s : State) (r : CalRun) (res q : Nat) : State :=
  let i := r.item
  let oldQ := signed (s.rd (F.CAL_Ii_QUAL_Q i)) 32
  let s := s.wr (F.CAL_Ii_QUAL_Q i) q
  let s := if i == 1 && (s.rd (F.CAL_Ii_CARD_ELEMENT i) != r.elem || decide (200 < (signed q 32 - oldQ).natAbs)) then
      (List.range 14).foldl (fun (s : State) k => if k != 1 && s.calOn k then s.setDue k true else s) s else s
  let new := s.rd (F.CAL_Ii_TAP_TAP 0)
  let s := if i == 0 then
      (List.range 4).foldl (fun (s : State) b =>
        if 16 * s.rd F.CAL_CFG_DELTA_T < 2 * (signed (bits new (8 * b) 8) 8 - signed (bits r.tap (8 * b) 8) 8).natAbs then
          (List.range 14).foldl (fun (s : State) k => if calSensor k == b && s.calOn k then s.setDue k true else s) s
        else s) s else s
  s.calEnd r res

/-- The start of the next pair or step. -/
def calPair (s : State) (r : CalRun) (k : Nat) : State := s.setRun (some { r with pair := k, first := none, apply := none })

/-- A run has begun measuring: from its first take on, a change of the partner state counters discards it (R342). -/
def calBegun (r : CalRun) : Bool := r.first.isSome || decide (1 < r.pair) || r.fall.isSome || r.apply.isSome

/-- The run is discarded and starts again (R342). -/
def calDiscard (s : State) (r : CalRun) : State :=
  let now := s.calPartner r.item
  let b := if 10 ≤ r.item then 3 else if now / 256 != r.partner / 256 then 1 else 2
  let s := s.logEvent 0x5004 1 r.item b
  s.setRun (some { r with pair := 1, first := none, apply := none, fall := none, partner := now })

/-- Three pairs disagreed (R337). -/
def calBad (s : State) (r : CalRun) (diff : Nat) : State :=
  (s.errEvent calBase 0x5001 3 r.item (satN 16 diff)).calEnd r 1

/-- The fall-back ends (R338). -/
def calFallEnd (s : State) (r : CalRun) (q : Nat) : State :=
  let i := r.item
  let tap := s.rd (F.CAL_Ii_TAP_TAP i)
  let s := s.errEvent calBase 0x5003 (if s.calMeets i q then 2 else 3) i (unsigned (tapInt i tap) 16)
  s.calGood r 3 q

/-- A tap step of the fall-back that is due is taken, or taken back (R338, R340). -/
def calMove (s : State) (r : CalRun) : State :=
  let i := r.item
  let old := s.rd (F.CAL_Ii_TAP_TAP i)
  match r.fall with
  | some (dir, q, 1) => ((s.wr (F.CAL_Ii_TAP_TAP i) (tapStep i old dir)).calDrive i).calPair { r with fall := some (dir, q, 0), prev := old } 1
  | some (_, q, 2) => ((s.wr (F.CAL_Ii_TAP_TAP i) r.prev).calDrive i).calFallEnd r q
  | _ => s

/-- A step of the fall-back becomes due, unless the taps are at the end of their range; item 1 needs no Recess slot (R338, R340). -/
def calNextTap (s : State) (r : CalRun) (dir : Bool) (q : Nat) : State :=
  let old := s.rd (F.CAL_Ii_TAP_TAP r.item)
  let r := { r with apply := none, first := none, fall := some (dir, q, 1) }
  if tapStep r.item old dir = old then s.calFallEnd r q else if r.item = 1 then s.calMove r else s.setRun (some r)

/-- An agreeing pair of the fall-back, with its figure: a tap that makes q worse is taken back (R338). -/
def calFall (s : State) (r : CalRun) (dir : Bool) (last q : Nat) : State :=
  if s.calMeets r.item q then s.calFallEnd r q
  else if figBetter r.item last q then
    let r := { r with first := none, fall := some (dir, last, 2) }
    if r.item = 1 then s.calMove r else s.setRun (some r)
  else s.calNextTap r dir q

/-- An element change or tap step that awaits its slot is applied (R340). -/
def calApply (s : State) (r : CalRun) : State :=
  match r.apply with
  | some (e, q) =>
    let s := (s.wr (F.CAL_Ii_CARD_ELEMENT r.item) e).calDrive r.item
    if s.calMeets r.item q then s.calGood r 0 q
    else s.nextFree.calNextTap r (bit (Config.openWord s.free).toNat 0) q
  | none => s.calMove r

/-- An agreeing pair with its figures: the element to apply (R338). -/
def calSelect (s : State) (r : CalRun) (f1 f2 : List Nat) : State :=
  let i := r.item
  let fig := fun e => figWorse i (figOf i f1 e) (figOf i f2 e)
  let cur := s.rd (F.CAL_Ii_CARD_ELEMENT i)
  let best := calBestOf i f1
  let keep := s.calMeets i (fig cur) && decide (figGain i (fig best) (fig cur) ≤ r.tol)
  let e := if keep then cur else best
  let s := s.modCal fun c => { c with agreed := sset (fun _ => none) c.agreed i (some (fig e, s.calDeg i)) }
  if r.quick then
    (if s.calMeets i (fig cur) then s.calEnd r (s.rd (F.CAL_Ii_CARD_RESULT i)) else s.calPair { r with quick := false } 1)
  else
    match r.fall with
    | some (dir, last, _) => s.calFall r dir last (fig cur)
    | none =>
      if e = cur ∧ s.calMeets i (fig e) ∧ i < 12 then s.calGood r 0 (fig e)
      else
        let r := { r with apply := some (e, fig e), first := none }
        if i = 1 then s.calApply r else s.setRun (some r)

/-- A take ends with the figures of its elements (R337). -/
def calTake (s : State) (figs : List Nat) : State :=
  match s.cal.run with
  | none => s
  | some r =>
    let i := r.item
    let waits := r.apply.isSome || (match r.fall with | some f => f.2.2 != 0 | none => false)
    if waits || s.calUnmet i false != 0 then s.calStatus
    else if calBegun r && s.calPartner i != r.partner then s.calDiscard r
    else
      let cur := s.rd (F.CAL_Ii_CARD_ELEMENT i)
      let own := r.quick || r.fall.isSome
      let e2 := if own then cur else calBestOf i figs
      match r.first with
      | none =>
        let s := (s.wr (F.CAL_Ii_TAKE1_Q i) (figOf i figs e2))
        s.setRun (some { r with first := some (figs, s.tb.toNat), partner := s.calPartner i })
      | some (f1, tick) =>
        if !withinMs (s.tb.toNat - tick) 100 then
          (s.wr (F.CAL_Ii_TAKE1_Q i) (figOf i figs e2)).setRun (some { r with first := some (figs, s.tb.toNat) })
        else
          let s := s.wr (F.CAL_Ii_TAKE2_Q i) (figOf i figs e2)
          let r := { r with temp := some (s.calDeg i) }
          let e1 := if own then cur else calBestOf i f1
          let diff := (signed (figOf i f1 e2) 32 - signed (figOf i figs e2) 32).natAbs
          if e1 = e2 ∧ diff ≤ r.tol then s.calSelect r f1 figs
          else if r.quick then s.calPair { r with quick := false } 1
          else if 3 ≤ r.pair then s.calBad r diff
          else s.calPair r (r.pair + 1)

/-- The run in progress is given up: the item stays due (R343). -/
def calAbandon (s : State) : State :=
  let s := (s.modCal fun c => { c with tag := none, left := 0, pass := none, bad := 0 }).setRun none
  s.wr F.CAL_DUE_CMD 0

/-- A park: the run starts again from its first pair (R343). -/
def calRestart (s : State) : State :=
  match s.cal.run with
  | some r => s.setRun (some { r with pair := 1, first := none, apply := none, fall := none })
  | none => s

/-- Items are queued by a command (R334, R335). -/
def calQueue (s : State) (mask : Nat) : State :=
  (s.wr F.CAL_DUE_DUE (s.rd F.CAL_DUE_DUE ||| mask)).wr F.CAL_DUE_CMD (s.rd F.CAL_DUE_CMD ||| mask)

/-- Entry into CALIBRATE runs every item with FORCE; an item in progress completes first (R335, R336). -/
def calPass (s : State) : State :=
  ((s.modCal fun c => { c with pass := some (0, 0), bootLeft := 0 }).calQueue 0x3FFF).calNext

/-- The 12 bytes of an item in a QUERY (R135). -/
def calQuery (s : State) (i : Nat) : List Byte :=
  leBytes 1 i ++ leBytes 1 (s.rd (F.CAL_Ii_CARD_RESULT i)) ++ leBytes 1 (s.rd (F.CAL_Ii_CARD_ELEMENT i)) ++
  leBytes 1 (s.rd (F.CAL_Ii_CARD_TEMP i)) ++ leBytes 4 (s.get (R.CAL_Ii_QUAL i)) ++ leBytes 4 (s.get (R.CAL_Ii_TIME i))

/-- RUN_CALIBRATION (R135). -/
def runCalibration (s : State) (t : Tag) (pl : List Byte) : Ans :=
  let mask := le16 pl 0
  let act := byteAt pl 2
  let fl := byteAt pl 3
  if pl.length != 4 then refuse s stBAD_LENGTH 0
  else if mask = 0 ∨ 0x3FFF < mask ∨ 1 < act ∨ 1 < fl then refuse s stBAD_PARAM 0
  else if act = 1 then ⟨s, stOK, 0, ((List.range 14).filter (bit mask ·)).flatMap fun i => s.calQuery i⟩
  else if s.rd F.CAL_DUE_CMD ≠ 0 ∨ s.cal.tag.isSome ∨ s.cal.pass.isSome then refuse s stBUSY 0
  else
    let run := (List.range 14).foldl (fun m i => if bit mask i && (fl == 1 || s.calDue i) then setBit m i true else m) 0
    if run = 0 then ⟨s.done t stOK 0, stACCEPTED, 0, []⟩
    else ⟨((s.modCal fun c => { c with tag := some t, left := run, bad := 0 }).calQueue run).calNext, stACCEPTED, 0, []⟩

/-- The answer of CAL_STEP (R146). -/
def calStepData (s : State) (i res : Nat) : List Byte :=
  leBytes 1 res ++ leBytes 1 (s.rd (F.CAL_Ii_CARD_ELEMENT i)) ++ leBytes 1 (s.calDeg i) ++ [0] ++
  leBytes 4 (s.get (R.CAL_Ii_TAKE1 i)) ++ leBytes 4 (s.get (R.CAL_Ii_TAKE2 i))

/-- SELECT (1) or SET_TAP (2) is applied. -/
def calSet (s : State) (i act v : Nat) : State :=
  (if act = 1 then s.wr (F.CAL_Ii_CARD_ELEMENT i) v else s.wr (F.CAL_Ii_TAP_TAP i) v).calDrive i

/-- Does a CAL_STEP element exist? -/
def calElemOk (i e : Nat) : Bool := if i = 0 then (List.range 4).all fun b => decide (bits e (2 * b) 2 < 3) else decide (e < calElements i)
/-- Is a CAL_STEP tap in range? -/
def calTapOk (i v : Nat) : Bool :=
  let ok := fun (t : Int) => decide (calLo i ≤ t ∧ t ≤ calHi i)
  if calBytes i then (List.range 4).all fun k => ok (signed (bits v (8 * k) 8) 8) else ok (signed v 32)

/-- CAL_STEP (R146, R348); q holds the figures of the two takes of MEASURE, the first in its low 32 bits. -/
def calStep (s : State) (t : Tag) (pl : List Byte) (q : Nat) : Ans :=
  let i := byteAt pl 4
  let act := byteAt pl 5
  let e := byteAt pl 6
  let v := le32 pl 8
  if pl.length != 12 then refuse s stBAD_LENGTH 0
  else if decide (13 < i) || decide (3 < act) || byteAt pl 7 != 0 || (decide (act < 2) && !calElemOk i e) ||
     (act == 2 && !calTapOk i v) then refuse s stBAD_PARAM 0
  else if s.cal.run.isSome || s.rd F.CAL_DUE_CMD != 0 || s.cal.stepTag.isSome then refuse s stBUSY 0
  else if act = 3 then
    let last := sget (fun _ => none) s.cal.agreed i
    let s := s.calCard i 0 (match last with | some p => p.2 | none => s.calDeg i)
    let s := s.wr (F.CAL_Ii_CARD_CONTEXT i) (s.calContext i)
    let s := match last with | some p => s.wr (F.CAL_Ii_QUAL_Q i) p.1 | none => s
    let s := (s.setDue i false).calFlash
    ⟨s, stOK, 0, s.calStepData i 0⟩
  else if s.calUnmet i true != 0 then ⟨s, stOK, 0, s.calStepData i 2⟩
  else if act = 0 then
    let a := bits q 0 32
    let b := bits q 32 32
    let ok := decide ((signed a 32 - signed b 32).natAbs ≤ s.rd (F.CAL_Ii_CFG_TOL i))
    let s := (s.wr (F.CAL_Ii_TAKE1_Q i) a).wr (F.CAL_Ii_TAKE2_Q i) b
    let s := if ok then s.modCal fun c => { c with agreed := sset (fun _ => none) c.agreed i (some (figWorse i a b, s.calDeg i)) } else s
    ⟨s, stOK, 0, s.calStepData i (if ok then 0 else 1)⟩
  else if i = 1 then
    let s := s.calSet i act (if act = 1 then e else v)
    ⟨s, stOK, 0, s.calStepData i 0⟩
  else ⟨s.modCal fun c => { c with stepTag := some (t, i, act, if act = 1 then e else v) }, stDEFER, 0, []⟩

/-- A Recess slot of the item that waits for one (R340, R348). -/
def calRecess (s : State) : State :=
  match s.cal.stepTag with
  | some (t, i, act, v) =>
    let s := (s.modCal fun c => { c with stepTag := none }).calSet i act v
    (s.answer t stOK 0 (s.calStepData i 0)).calNext
  | none =>
    match s.cal.run with
    | none => s
    | some r =>
      let waits := r.apply.isSome || (match r.fall with | some f => f.2.2 != 0 | none => false)
      if !waits || s.calUnmet r.item false != 0 then s.calStatus
      else if s.calPartner r.item != r.partner then s.calDiscard r
      else (s.calApply r).calNext

/-- The defer limit expires (R339). -/
def calDefer (s : State) : State :=
  match s.cal.run with
  | none => s
  | some r =>
    let waits := r.apply.isSome || (match r.fall with | some f => f.2.2 != 0 | none => false)
    let un := s.calUnmet r.item false
    let un := if waits && un == 0 then 8 else un
    if un = 0 ∨ withinMs (s.tb.toNat - r.tick) (100 * r.defer) then s
    else ((s.errEvent calBase 0x5002 2 r.item un).calEnd r 2).calNext

/-- A die sensor is converted (R332, R361, R56). -/
def sensorConv (s : State) (k : Fin 4) (raw : Nat) : State :=
  if s.aon.phase != .awake || s.pins.isolated then s
  else
    let off := signed (bits (s.get (R.CAL_Ii_TAP 0)) (8 * k.val) 8) 8
    let s := s.wr (F.CAL_TEMPs_T k.val) (unsigned (signed raw 16 + off) 16)
    let s := if k = 3 then ([0, 1] : List (Fin 2)).foldl (fun (s : State) c =>
        if s.rd (F.DMC_STATUS_STATE c) == 3 && s.rdA (F.DMC_REF_MODE c) == 0 then s.refRate c else s) s else s
    s.modCal fun c => { c with hotSince :=
      if 140 * 16 < s.hottest then (match c.hotSince with | some h => some h | none => some s.tb.toNat) else none }

/-- Firmware's due check (R334). -/
def calCheck (s : State) : State :=
  if !s.fwRuns || !s.on F.CAL_CTRL_AUTO then s
  else ((List.range 14).foldl (fun (s : State) i => if s.calMoved i then s.setDue i true else s) s).calNext

/-- One record of the sector in use goes into its card; a record whose CRC-32 fails leaves the item as never run (R346). -/
def calRestore (s : State) (b : List Byte) (i : Nat) : State :=
  let q := slice b (16 + 32 * i) 32
  if q.length = 32 ∧ byteAt q 0 = i ∧ le32 q 28 = crc32 (q.take 28) then
    let s := s.wrs [(F.CAL_Ii_CARD_RESULT i, byteAt q 1), (F.CAL_Ii_CARD_ELEMENT i, byteAt q 2), (F.CAL_Ii_CARD_TEMP i, byteAt q 3),
      (F.CAL_Ii_CARD_CONTEXT i, byteAt q 18), (F.CAL_Ii_QUAL_Q i, le32 q 4), (F.CAL_Ii_TAP_TAP i, le32 q 8),
      (F.CAL_Ii_TIME_TICK i, (le32 q 12 + 2 ^ 32 * le16 q 16) / 16384)]
    (s.wr F.CAL_TRIM_STATUS_CARDS (s.rd F.CAL_TRIM_STATUS_CARDS + 1)).modCal fun c =>
      { c with ticks := sset (fun _ => 0) c.ticks i (le32 q 12 + 2 ^ 32 * le16 q 16) }
  else (s.wr (F.CAL_Ii_CARD_RESULT i) 0xFF).errEvent calBase 0x5005 2 i 1

/-- Firmware restores trims and Report Cards at boot and starts the boot work (R78, R336, R346, R347).  With no valid sector,
a sector that holds bytes is a header or SYS_ID mismatch, which every item reports (log entry 127). -/
def calBoot (s : State) : State :=
  let s := if s.cal.trimOk then s.wr F.CAL_TRIM_STATUS_OTP_OK 1
    else (s.wr F.CAL_TRIM_STATUS_NOMINAL 1).errEvent calBase 0x5006 4 0 0
  let s : State := match s.calValid with
    | some k =>
      let b := s.cal.sects.get k
      (List.range 14).foldl (fun (s : State) i => s.calRestore b i)
        ((s.wr F.CAL_TRIM_STATUS_CARDS 0).wr F.CAL_TRIM_STATUS_SEQ (le16 b 4))
    | none =>
      let s := (List.range 14).foldl (fun (s : State) i => s.wr (F.CAL_Ii_CARD_RESULT i) 0xFF) (s.wr F.CAL_TRIM_STATUS_CARDS 0)
      if (s.cal.sects.get 0).isEmpty && (s.cal.sects.get 1).isEmpty then s.errEvent calBase 0x5005 2 0xFF 3
      else (List.range 14).foldl (fun (s : State) i => s.errEvent calBase 0x5005 2 i 2) s
  ((s.wr F.CAL_DUE_DUE 0x3FFF).modCal fun c => { c with bootLeft := 0x3FFF }).calNext

end State

open Host (Outcome)

/-- SENSOR_CONVERSION (R332): raw is the reading before item 0's correction, signed Q12.4 °C. -/
def execSensorConversion (k : Fin 4) (raw : Nat) (s : State) : Outcome State Fault Refusal :=
  .next (if s.stood 243 243 then s else s.sensorConv k raw)
/-- CAL_DUE_CHECK (R334). -/
def execCalDueCheck (s : State) : Outcome State Fault Refusal := .next s.calCheck
/-- CAL_TAKE_COMPLETE (R337). -/
def execCalTakeComplete (figs : List Nat) (s : State) : Outcome State Fault Refusal :=
  .next (if s.sysStill 7 then s else (s.calTake figs).calNext)
/-- CAL_RECESS_APPLY (R340). -/
def execCalRecessApply (s : State) : Outcome State Fault Refusal := .next (if s.sysStill 7 then s else s.calRecess)
/-- CAL_DEFER_EXPIRY (R339). -/
def execCalDeferExpiry (s : State) : Outcome State Fault Refusal := .next s.calDefer
/-- CAL_STEP_TIMEOUT (R348): nothing changes, and the answer is TIMEOUT. -/
def execCalStepTimeout (s : State) : Outcome State Fault Refusal :=
  .next (match s.cal.stepTag with
    | some (t, _) => ((s.modCal fun c => { c with stepTag := none }).answer t stTIMEOUT 0 []).calNext
    | none => s)
/-- RUN_CALIBRATION (R135). -/
def execRunCalibration (port : Fin 3) (mb : Fin 6) (s : State) : Outcome State Fault Refusal :=
  .next (s.serve port mb (· == 0x0E) State.runCalibration)
/-- CAL_STEP (R146, R348). -/
def execCalStep (port : Fin 3) (mb : Fin 6) (q : Nat) (s : State) : Outcome State Fault Refusal :=
  .next (s.serve port mb (· == 0x88) fun s t pl => s.calStep t pl q)

end Sys2Proof.Machine
end

