-- ==== Sys2Proof/Machine/Power.lean ====
section
/-! DEFINITION. Operating modes and their transitions, park, standby and wake, clocks and PLLs, speed change and degrade
advisories (chapter 02). -/

namespace Sys2Proof.Machine

/-- The transitions SET_MODE may request (R39). -/
def mayMove (a b : Nat) : Bool :=
  if a = modeREADY then decide (4 ≤ b ∧ b ≤ 11) || b == modeSTANDBY || b == modeSCANTEST
  else if lightMode a then lightMode b || b == modeREADY || b == modeDARKHOLD
  else if a = modeDARKHOLD then lightMode b || b == modeREADY || b == modeSERVICE || b == modeSTANDBY
  else if a = modeCALIBRATE then b == modeREADY || b == modeDARKHOLD
  else if a = modeSERVICE then b == modeREADY || b == modeDARKHOLD || b == modeSCANTEST
  else false

namespace State

/-! ### PLLs (R49–R52) -/

/-- Both DPLLs have relocked at the new speed (R55 step 3): the timing registers of the speed are written. -/
def relocked (s : State) : State :=
  match s.sys.speed with
  | none => s
  | some c =>
    if c.step = 3 ∧ s.pllLocked 2 ∧ s.pllLocked 3 then
      let s := ([0, 1] : List (Fin 2)).foldl (fun (s : State) ch => s.dmcSpeed ch c.target) s
      s.modSys fun y => { y with speed := some { c with step := 4 } }
    else s

/-- A PLL achieves lock (R49); the first lock of SYSPLL starts the 25 MHz reference (R48); a link that waited for LPLLn begins
its negotiation or retrain (R270). -/
def pllLock (s : State) (i : Nat) : State :=
  if !s.pllOn i || s.pllLocked i then s
  else
    let s := s.setPll i true true
    let s := (if i = 0 then (s.modAon fun a => { a with refOn := true }) else s).relocked
    if 4 ≤ i ∧ i < 8 then s.linkLocked (chan (i - 4)) else s

/-- A running PLL loses lock (R51, R52). -/
def pllLoss (s : State) (i : Nat) : State :=
  if !s.pllLocked i then s
  else
    (((s.setPll i true false).dropGood i).showPend).errEvent sysBase 0x0113 4 i 0

/-- A PLL that feeds no enabled domain stops (R52). -/
def pllStop (s : State) (i : Nat) : State :=
  if (List.range 250).any fun d => pllOf d == some i && s.clkOn d then s else s.setPll i false false

/-- A write of SYS_CLKEN (R51, R52): the always-on bits stay 1. -/
def clkWrite (s : State) (k v : Nat) : State :=
  State.showPend <| (List.range 32).foldl (fun (s : State) i =>
    let d := 32 * k + i
    if s.clkOn d != bit v i && decide (d < 250) then
      let s := s.setClk d (bit v i)
      if bit v i then s else (s.modSys fun y => { y with clkOff := setBit s.sys.clkOff d true })
    else s) s

/-! ### DRAM speed change (R55, R375) -/

/-- The DRAM speed code of a mode and profile; 0 in D3. -/
def speedOf (s : State) (m prof : Nat) : Nat := (s.profileOf m prof).speed

/-- The speed in force on both channels; 0 while the DRAM is held. -/
def speedNow (s : State) : Nat :=
  if s.rd (F.DMC_STATUS_STATE 0) == 5 then 0 else s.rd (F.DMC_STATUS_SPEED 0)

/-- The running channels. -/
def runMask (s : State) : Nat := chans.foldl (fun m n => if s.on (F.LEC_STATUS_RUNNING n) then setBit m n.val true else m) 0
/-- The channels with a committed configuration. -/
def committed (s : State) : Nat := chans.foldl (fun m n => if (s.ch n).cfgComp.isSome then setBit m n.val true else m) 0

/-- A speed change begins (R55): from the running DRAM with step 1, from D3 with step 2. -/
def speedStart (s : State) (target : Nat) : State :=
  let held := s.rd (F.DMC_STATUS_STATE 0) == 5
  let s := s.forMask s.runMask fun (s : State) (n : Fin 4) => s.wr (F.BPF_SRCSEL_PATTERN n) 1
  let s := chans.foldl (fun (s : State) n => (s.wr (F.CHN_CTRL_STORED n) 1).chnSync n) s
  s.modSys fun y => { y with speed := some ⟨if held then 2 else 1, target, if held then 0 else s.runMask⟩ }

/-- DRAM_DRAIN_COMPLETE (R55 steps 2 and 3): the DPLLs of a new speed lose their lock until they relock at it, which is no
loss of lock that R52 reports (log entry 114). -/
def drained (s : State) : State :=
  match s.sys.speed with
  | none => s
  | some c =>
    if (c.step ≠ 1 ∧ c.step ≠ 2) ∨ c.await ≠ 0 then s
    else
      let s := ([0, 1] : List (Fin 2)).foldl (fun (s : State) ch =>
        let s := if s.rd (F.DMC_STATUS_STATE ch) == 5 then s else s.srEnter ch 5
        let s := (s.wr (F.DMC_CTRL_HOLD_SR ch) 1).wr (F.DMC_STATUS_SPEED ch) 0
        if c.target = 0 then s
        else (((s.incWrap (F.DMC_PM_CNT_SPEED_CHANGES ch)).setPll (2 + ch.val) true false).dropGood (2 + ch.val)).showPend) s
      s.modSys fun y => { y with speed := if c.target = 0 then none else some { c with step := 3 } }

/-- Full training after event 0x0403; outcomes from 16 on name a failing step and its lane mask. -/
def trainFull (s : State) (ch : Fin 2) (o : Nat) : State :=
  let s := (s.logEvent 0x0403 2 ch.val 0).fullTraining ch (o % 16) (o / 16)
  if 16 ≤ o then s.errEvent (dmcBase ch) (dmcCode ch 11) 4 (o % 16) (o / 16) else s

/-- The outcome of restoring stored training on a channel, or of full training (R79, R372, R374): 0 verified, 1 verified
with a margin below half, anything else full training; from 16 on, a step (low four bits) failed on a lane mask. -/
def trainOutcome (s : State) (ch : Fin 2) (o : Nat) : State :=
  match s.trainRecord (s.rd (F.DMC_CFG_SPEED ch)) with
  | some r =>
    if o = 0 then s.trainRestore ch r
    else if o = 1 then (s.trainRestore ch r).modSys fun y => { y with marginLow := true }
    else s.trainFull ch o
  | none => s.trainFull ch o

/-- The mode and profile the speed change leads to. -/
def speedGoal (s : State) : Nat × Nat :=
  match s.sys.transit with
  | some t => (t.target, t.profile)
  | none => (s.mode, s.rd F.SYS_MODE_PROFILE)

/-- TRAINING_RESTORE_COMPLETE (R55 steps 4 and 5). -/
def trained (s : State) (outs : List Nat) : State :=
  match s.sys.speed with
  | none => s
  | some c =>
    if c.step ≠ 4 then s
    else
      let s := ([0, 1] : List (Fin 2)).foldl (fun (s : State) ch => (s.trainOutcome ch (outs.getD ch.val 0)).dmcRun ch) s
      let g := s.speedGoal
      let p := s.profileOf g.1 g.2
      let run := s.runMask
      let s := s.forMask s.committed fun (s : State) (n : Fin 4) =>
        let s := s.writeShadow s.fw.act n p
        if bit run n.val then s else s.commitReq n
      (s.modSys fun y => { y with speed := some { c with step := 5, await := run + 16 * run } }).speedEnd

/-! ### Transitions (R39–R42) -/

/-- LAMPn_EN_N, CHN_CTRL.OE and CHn_OE_N follow the mode (R247, R297); in BOOT the ports of shown channels keep OE. -/
def modePins (s : State) : State :=
  chans.foldl (fun (s : State) n =>
    let s := s.lampUpdate n
    let oe := lightMode s.mode || (s.mode == modeSERVICE && s.on (F.CHN_CTRL_EN n)) ||
      (s.mode == modeBOOT && s.on (F.CHN_CTRL_OE n))
    (s.wrB (F.CHN_CTRL_OE n) oe).chnSync n) s

/-- Channels of a mask stop at once. -/
def stopNow (s : State) (mask : Nat) : State :=
  s.forMask mask fun (s : State) (n : Fin 4) =>
    let s := s.wr (F.LEC_CTRL_RUN n) 0
    if s.on (F.LEC_STATUS_RUNNING n) then s.channelStop n else s

/-- Mirror and scanner channels, which SIGNATURE stops. -/
def pictureMask (s : State) : Nat :=
  chans.foldl (fun m n => if s.nodeType n == 1 || s.nodeType n == 2 then setBit m n.val true else m) 0

/-- A check of the committed configuration under the mode and profile it would run in (R54): reason, or 0. -/
def modeCheck (s : State) (m prof : Nat) : Nat :=
  (s.wrs [(F.SYS_MODE_MODE, m), (F.SYS_MODE_PROFILE, prof)]).rejectReason s.fw.act s.committed false (s.profileOf m prof)

/-- D3 finds a channel without a valid pattern (R54). -/
def patternMissing (s : State) : Bool :=
  chans.any fun n => bit s.committed n.val && s.nodeType n != 3 && !s.on (F.CMP_STATUS_PATTERN_OK n)

/-- The mode changes, with what leaving and entering it does (R37, R54, R55, R321). -/
def arrive (s : State) (m prof cause : Nat) : State :=
  let old := s.mode
  let s := if m = modeLIMP then s.wr F.SYS_MODE_PROFILE prof else s
  let s := s.enterMode m cause
  let s := s.modSys fun y => { y with checkOwed := if lightMode m then false
    else y.checkOwed || (old == modeLIMP && (m == modeREADY || m == modeDARKHOLD)) }
  let s : State := if old = modeCALIBRATE ∧ m ≠ modeCALIBRATE then
      let s := chans.foldl (fun (s : State) n => if s.on (F.LNK_CTRL_LOOPBACK n) then
        (s.wr (F.LNK_CTRL_LOOPBACK n) 0).mgmt n 9 [0] else s) s
      s.tutorBack.runAll s.committed
    else s
  let s : State := if m = modeCALIBRATE then (match s.cal.run with | some r => s.calLoop r.item true | none => s) else s
  let s := if m = modeSIGNATURE then s.forMask s.pictureMask fun (s : State) (n : Fin 4) => s.linkOff n true else s
  let s := if m = modeDARKHOLD ∧ old = modeLIMP ∧ s.sys.speed.isNone ∧ s.speedNow ≠ s.fw.speed then s.speedStart s.fw.speed else s
  s.modePins

/-- TRANSIT and TARGET show a transition. -/
def showTransit (s : State) (on : Bool) (target : Nat) : State :=
  (s.wrB F.SYS_MODE_TRANSIT on).wr F.SYS_MODE_TARGET target

/-- An accepted transition begins. -/
def transitStart (s : State) (target prof : Nat) (tag : Option Tag) : State :=
  let old := s.mode
  let sp := s.speedOf target prof
  let move := (target == modeLIMP || old == modeLIMP) && target != modeDARKHOLD && sp != s.speedNow
  let frames := target != modeDARKHOLD && target != modeSTANDBY && target != modeCALIBRATE
  let t : Transit := ⟨target, prof, tag, if frames then s.runMask else 0, move⟩
  let s := (s.modSys fun y => { y with transit := some t }).showTransit true target
  let s := if lightMode target then chans.foldl (fun (s : State) n =>
      if (s.ch n).src.parkSet then s.modSrc n fun r => { r with unpark := true } else s) s else s
  let s := if target = modeSIGNATURE then
      s.forMask s.pictureMask fun (s : State) (n : Fin 4) => s.wr (F.LEC_CTRL_RUN n) 0 else s
  let s := if old = modeSIGNATURE then
      s.forMask s.pictureMask fun (s : State) (n : Fin 4) =>
        let s := if (s.ch n).cfgComp.isSome then s.runWrite n 1 else s
        if s.on (F.LNK_CTRL_EN n) && s.linkState n == 0 then
          s.retrain n (s.rd (F.LNK_LIMIT_LANES n)) (s.rd (F.LNK_LIMIT_RATE n)) (s.rd (F.LNK_LIMIT_BACK n)) 3 none
        else s
    else s
  let s := if move then s.speedStart sp else s
  let s := if old = modeSTATIC then chans.foldl (fun (s : State) n => s.replayStop n 2) s else s
  let s : State := if target = modeCALIBRATE then ((s.tutorAllOff true).stopNow 15).calPass else s
  let s : State := if target = modeSTANDBY then
      let s := ((s.calAbandon.tutorAllOff false).stopNow 15)
      let s := chans.foldl (fun (s : State) n => ((s.wr (F.CHN_CTRL_EN n) 0).chnSync n).linkOff n true) s
      s.modAon fun a => { a with phase := .entering }
    else s
  s.modePins

/-- SCAN-TEST entry from firmware (R433 steps 1–4); the clocks of LEC, DRAM and receivers are no longer needed (R52, log
entry 108), and an open park is no longer awaited. -/
def scanEnter (s : State) (t : Tag) : State :=
  let s := s.modSys fun y => { y with park := none }
  let s := (s.calAbandon.tutorAllOff false).stopNow 15
  let s := chans.foldl (fun (s : State) n => ((s.wr (F.CHN_CTRL_EN n) 0).chnSync n).linkOff n true) s
  let s := ([0, 1] : List (Fin 2)).foldl (fun (s : State) ch =>
    ((s.put (R.DMC_CTRL ch) 0).put (R.DMC_STATUS ch) 0).dramLost ch) s
  let s := (s.modPins fun p => { p with dramResetN := Two.all false, faultLow := false }).csiEnable
  let s := (s.setClks 0 223 false).setClks 235 238 false
  let s := ([0, 1, 2] : List (Fin 3)).foldl (fun (s : State) p => s.modPort p fun q => { q with notifs := [] }) s
  let s := (s.enterMode modeSCANTEST 0).wr F.TST_STATUS_SCAN 1
  let s := ([0, 1, 2] : List (Fin 3)).foldl (fun (s : State) p => s.modPort p fun q => { q with notifs := [] }) s
  let s := (s.modePins).done t stOK 0
  if t.notify then s else (s.modRst fun r => { r with cpu := .stopped }).wr F.MBX_HSTAT_READY 0

/-- A change of mode or profile is in progress (R42). -/
def moving (s : State) : Bool := s.sys.transit.isSome || s.sys.speed.isSome

/-- A failed check of a transition (R31, R54): event 0x1n11 for each channel. -/
def modeReject (s : State) (why : Nat) : Ans :=
  ⟨s.forMask s.committed fun (s : State) (n : Fin 4) => s.logEvent (0x1011 + 256 * n.val) 2 why s.committed, stREJECTED_CONFIG, why, []⟩

/-- The checks of R54 that a transition owes, then the transition. -/
def modeGo (s : State) (target prof : Nat) (t : Tag) : Ans :=
  let old := s.mode
  let owed := lightMode target && (target == modeLIMP || old == modeLIMP || s.sys.checkOwed)
  let why := if owed then s.modeCheck target prof else 0
  if target = modeLIMP ∧ prof = 3 ∧ s.patternMissing then refuse s stNOT_PRESENT 0
  else if why ≠ 0 then s.modeReject why
  else if target = modeSCANTEST then ⟨s.scanEnter t, stACCEPTED, 0, []⟩
  else ⟨s.transitStart target prof (some t), stACCEPTED, 0, []⟩

/-- SET_MODE (R119, R39, R42, R43). -/
def setModeCmd (s : State) (t : Tag) (pl : List Byte) : Ans :=
  let target := byteAt pl 0
  let b := byteAt pl 1
  let have' := s.rd F.SYS_MODE_PROFILE
  let prof := if b = 0 then have' else b
  let change := target == modeLIMP && s.mode == modeLIMP && prof != have'
  if pl.length != 4 then refuse s stBAD_LENGTH 0
  else if le16 pl 2 ≠ 0 ∨ target = 0 ∨ 12 < target then refuse s stBAD_PARAM 0
  else if s.sys.pwrLow && target != modeSTANDBY then refuse s stWRONG_MODE 0
  else if !mayMove s.mode target && target != s.mode then refuse s stWRONG_MODE 0
  else if 3 < b ∨ (target ≠ modeLIMP ∧ b ≠ 0) ∨ (target = modeLIMP ∧ prof = 0) then refuse s stBAD_PARAM 0
  else if s.moving then refuse s stBUSY 0
  else if target = s.mode ∧ !change then ⟨s, stOK, 0, []⟩
  else s.modeGo target (if target = modeLIMP then prof else have') t

/-- SET_DEGRADE (R120, R42, R43). -/
def setDegrade (s : State) (t : Tag) (pl : List Byte) : Ans :=
  let prof := byteAt pl 0
  let arm := byteAt pl 1
  let armed := s.modSys fun y => { y with advArm := arm }
  if pl.length != 4 then refuse s stBAD_LENGTH 0
  else if 3 < prof ∨ 31 < arm ∨ le16 pl 2 ≠ 0 then refuse s stBAD_PARAM 0
  else if s.mode ≠ modeLIMP then ⟨armed.wr F.SYS_MODE_PROFILE prof, stOK, 0, []⟩
  else if prof = 0 then refuse s stBAD_PARAM 0
  else if prof = s.rd F.SYS_MODE_PROFILE then ⟨armed, stOK, 0, []⟩
  else if s.sys.pwrLow then refuse s stWRONG_MODE 0
  else if s.moving then refuse s stBUSY 0
  else
    let a := s.modeGo modeLIMP prof t
    if a.st = stACCEPTED then { a with s := a.s.modSys fun y => { y with advArm := arm } } else a

/-- A link still retrains after SIGNATURE (R41). -/
def retraining (s : State) : Bool := chans.any fun n => match (s.ch n).link.neg with | some g => g.cause == 3 | none => false

/-- Steps 2–4 of STANDBY entry (R44): with VDD_CORE removed every clock stops and every pin but STBY_EN_N is undriven (R37,
R48, R52), and an open park is no longer awaited. -/
def standbyEnter (s : State) : State :=
  let keep := s.on F.AON_STBY_CFG_DRAM_SR
  let s := ([0, 1] : List (Fin 2)).foldl (fun (s : State) ch =>
    if keep then (s.srEnter ch 5).wr (F.DMC_CTRL_HOLD_SR ch) 1
    else ((s.put (R.DMC_CTRL ch) 0).put (R.DMC_STATUS ch) 0).dramLost ch) s
  let s := if s.cal.touched = 0 then s else s.calFlash
  let s := (s.wrB F.AON_STBY_STATUS_SR_HELD keep).incSat F.AON_STBY_STATUS_COUNT
  let s := ((s.wr F.MBX_HSTAT_READY 0).setClks 0 249 false).put R.SYS_PLL_STATUS 0
  let s := (s.modRst fun r => { r with cpu := .held }).modSys fun y => { y with park := none }
  let s := s.modAon fun a => { a with phase := .low, retain := Two.all keep, subOk := false, refOn := false }
  s.modPins fun _ => { Pins.reset with stbyEnN := false, drivers := 2 ^ 15, dramResetN := Two.all keep }

/-- MODE_TRANSITION_COMPLETE (R41). -/
def transitEnd (s : State) : State :=
  match s.sys.transit with
  | none => s
  | some t =>
    if t.await ≠ 0 ∨ (t.speed ∧ s.sys.speed.isSome) ∨ s.retraining then s
    else
      let s := (s.modSys fun y => { y with transit := none }).showTransit false 0
      let s := (s.arrive t.target t.profile 0).doneOpt t.tag stOK 0
      if t.target = modeSTANDBY then s.standbyEnter else s

/-! ### Park (R43, R252–R254) -/

/-- The channels of a park whose node still owes its report. -/
def parkOwes (s : State) (k : Park) : Nat :=
  chans.foldl (fun m n => if bit k.mask n.val && s.nodeType n != 3 && !bit k.parked n.val && !bit k.late n.val then setBit m n.val true else m) 0

/-- The park is complete: event 0x0103, then DARK-HOLD (R43, R253); parameter B is 0 where no channel reported PARKED (log
entry 112). -/
def parkCheck (s : State) : State :=
  match s.sys.park with
  | none => s
  | some k =>
    if s.parkOwes k ≠ 0 then s
    else
      let s := (s.modSys fun y => { y with park := none }).logEvent 0x0103 3 k.parked
        (if k.parked = 0 then 0 else min 65535 (microsBetween k.tick k.sub k.lastTick k.lastSub))
      let entry := match s.sys.transit with | some t => t.target == modeSTANDBY | none => false
      if s.mode = modeBOOT ∨ s.mode = modeDARKHOLD ∨ s.mode = modeSTANDBY ∨ s.mode = modeSCANTEST ∨ entry = true then s else s.arrive modeDARKHOLD (s.rd F.SYS_MODE_PROFILE) 3

/-- An abandoned transition (R43): DONE carries WRONG_MODE; a speed change it began leads back to the configured speed.
What the transition has already done otherwise stays, the manual saying nothing of it: the channels that an entry into
SIGNATURE or CALIBRATE stopped stay stopped, and the loop contexts that CALIBRATE disabled stay disabled (DESIGN CHOICE, log
entry 111). -/
def transitDrop (s : State) : State :=
  match s.sys.transit with
  | none => s
  | some t =>
    if t.target = modeSTANDBY then s
    else
      let s := ((s.modSys fun y => { y with transit := none }).showTransit false 0).doneOpt t.tag stWRONG_MODE 0
      match s.sys.speed with
      | none => s
      | some c =>
        if c.step = 1 ∧ s.mode ≠ modeLIMP then
          let s := s.forMask 15 fun (s : State) (n : Fin 4) => s.wr (F.BPF_SRCSEL_PATTERN n) 0
          chans.foldl (fun (s : State) n => (s.wr (F.CHN_CTRL_STORED n) 0).chnSync n) (s.modSys fun y => { y with speed := none })
        else s.modSys fun y => { y with speed := some { c with target := s.fw.speed } }

/-- PWR_WARN_N falls (R252); in SCAN-TEST and STANDBY only its level counts (R434). -/
def pwrFall (s : State) : State :=
  if s.sys.pwrLow then s
  else if s.mode = modeSCANTEST ∨ s.mode = modeSTANDBY then s.modSys fun y => { y with pwrLow := true }
  else
    let mask := s.rst.released
    let s := (s.modSys fun y => { y with pwrLow := true }).transitDrop.calRestart
    let s := s.forMask mask fun (s : State) (n : Fin 4) =>
      let s := s.modSrc n fun r => { r with parkSet := true, unpark := false, parkDark := false }
      let s := (s.wr (F.SRC_STATUS_PARKED n) 0).modCh n fun c => { c with fieldDark := true }
      let s := if s.rd (F.BPF_STATUS_STATE n) = 0 then s else s.wr (F.BPF_STATUS_STATE n) 2
      let s := if s.mode = modeBOOT then s.wr (F.BPF_SRCSEL_PATTERN n) 0 else s
      (s.lampUpdate n).chnOe n
    let now := s.subNow
    ((s.stamped).modSys fun y => { y with park := some ⟨s.tb.toNat, now, s.tb.toNat, now, mask, 0, 0⟩ }).parkCheck

/-- PARK_TIMEOUT (R253): 200 µs after recognition. -/
def parkTimeout (s : State) : State :=
  match s.sys.park with
  | none => s
  | some k =>
    let owe := s.parkOwes k
    let s := s.forMask owe fun (s : State) (n : Fin 4) => s.blockEvent (srcBase n) (0x2012 + 256 * n.val) 5 0 0
    (s.modSys fun y => { y with park := some { k with late := k.late ||| owe } }).parkCheck

/-! ### Standby and wake (R44–R48) -/

/-- The wake conditions latched are acted on: STBY_EN_N rises (R46). -/
def wakeNow (s : State) : State :=
  let s := s.put R.AON_WAKE_STATUS (s.get R.AON_WAKE_STATUS ||| s.aon.wakes)
  (s.modAon fun a => { a with phase := .waking, wakes := 0, wakeTick := s.tb.toNat }).modPins fun p => { p with stbyEnN := true }

/-- A wake condition arises (R45): it waits for the minimum low time; one of the cycle that has woken the device is
recorded with the others. -/
def wake (s : State) (k : Nat) : State :=
  if s.aon.phase = .waking then s.put R.AON_WAKE_STATUS (setBit (s.get R.AON_WAKE_STATUS) k true)
  else
    let s := s.modAon fun a => { a with wakes := setBit s.aon.wakes k true }
    if s.aon.phase = .lowDone then s.wakeNow else s

/-- The device enters or is in STANDBY, or left it in this AON cycle. -/
def asleep (s : State) : Bool :=
  s.aon.phase == .entering || s.aon.phase == .low || s.aon.phase == .lowDone ||
  (s.aon.phase == .waking && s.aon.wakeTick == s.tb.toNat)

/-- A degrade advisory's condition (R56). -/
def advised (s : State) (reason : Nat) : Bool :=
  let many := fun (l : List Nat) k => decide (k ≤ l.length) && decide (l.headD 0 - l.getD (k - 1) 0 ≤ 32768)
  match reason with
  | 1 => many s.dmc.a0.eccTicks 101 || many s.dmc.a1.eccTicks 101
  | 2 => many s.dmc.a0.parTicks 11 || many s.dmc.a1.parTicks 11
  | 3 => s.dmc.a0.poisonNew || s.dmc.a1.poisonNew
  | 4 => s.sys.marginLow
  | 5 => match s.cal.hotSince with | some h => decide (32768 ≤ s.tb.toNat - h) | none => false
  | _ => false

/-- DEGRADE_ADVISORY (R56): at most one per reason per second. -/
def advisory (s : State) (reason : Nat) : State :=
  let last := sget (fun _ => 0) s.sys.advTick reason
  if !s.fwRuns || reason = 0 || 5 < reason || !bit s.sys.advArm (reason - 1) || !s.advised reason ||
     (last != 0 && decide (s.tb.toNat + 1 - last < 32768)) then s
  else
    let now := if s.mode = modeLIMP then s.rd F.SYS_MODE_PROFILE else 0
    let s := s.logEvent 0x0110 2 (min 3 (now + 1)) reason
    let s := s.modSys fun y => { y with advTick := sset (fun _ => 0) y.advTick reason (s.tb.toNat + 1),
                                        marginLow := if reason = 4 then false else y.marginLow }
    if reason = 3 then ([0, 1] : List (Fin 2)).foldl (fun (s : State) c => s.modDmc c fun d => { d with poisonNew := false }) s else s

end State

open Host (Outcome)

/-- SET_MODE (R119). -/
def execSetMode (port : Fin 3) (mb : Fin 6) (s : State) : Outcome State Fault Refusal :=
  .next (s.serve port mb (· == 0x03) State.setModeCmd)
/-- SET_DEGRADE (R120). -/
def execSetDegrade (port : Fin 3) (mb : Fin 6) (s : State) : Outcome State Fault Refusal :=
  .next (s.serve port mb (· == 0x15) State.setDegrade)
/-- MODE_TRANSITION_COMPLETE (R41). -/
def execModeTransitionComplete (s : State) : Outcome State Fault Refusal := .next (if s.fwRuns then s.transitEnd else s)
/-- PWR_WARN_FALL (R252). -/
def execPwrWarnFall (s : State) : Outcome State Fault Refusal := .next s.pwrFall
/-- PWR_WARN_RISE (R43). -/
def execPwrWarnRise (s : State) : Outcome State Fault Refusal := .next (s.modSys fun y => { y with pwrLow := false })
/-- PARK_TIMEOUT (R253). -/
def execParkTimeout (s : State) : Outcome State Fault Refusal := .next s.parkTimeout
/-- BACK_STATUS (R267, R253, R275). -/
def execBackStatus (n : Chan) (arr : Arrival) (payload : List Byte) (s : State) : Outcome State Fault Refusal :=
  .next (s.released n arr 0x82 payload fun s => (s.status n payload).parkCheck)
/-- STANDBY_MIN_LOW_EXPIRY (R44). -/
def execStandbyMinLowExpiry (s : State) : Outcome State Fault Refusal :=
  .next (if s.aon.phase = .low then
      let s : State := s.modAon fun a => { a with phase := .lowDone }
      if s.aon.wakes = 0 then s else s.wakeNow
    else s)
/-- WAKE_PIN (R45). -/
def execWakePin (i : Duo) (s : State) : Outcome State Fault Refusal :=
  .next (if s.asleep && bit (s.get R.AON_WAKE_CFG) i.val then s.wake i.val else s)
/-- WAKE_CAN_PATTERN (R45). -/
def execWakeCanPattern (c : Duo) (s : State) : Outcome State Fault Refusal :=
  .next (if s.asleep && bit (s.get R.AON_WAKE_CFG) (4 + c.val) then s.wake (2 + c.val) else s)
/-- WAKE_HSPI (R45): its transaction is not served. -/
def execWakeHspi (s : State) : Outcome State Fault Refusal :=
  .next (if s.asleep && s.on F.AON_WAKE_CFG_HSPI_EN then s.wake 4 else s)
/-- WAKE_TIMER (R45). -/
def execWakeTimer (s : State) : Outcome State Fault Refusal :=
  .next (if s.asleep && s.on F.AON_WAKE_CFG_TIMER_EN &&
      decide (s.get R.AON_WAKE_TIMER_LO + s.rd F.AON_WAKE_TIMER_HI_TICK * 2 ^ 32 ≤ s.tb.toNat) then s.wake 5 else s)
/-- PMIC_TIMEOUT (R46). -/
def execPmicTimeout (s : State) : Outcome State Fault Refusal :=
  .next (if s.aon.phase = .waking then
      (s.modAon fun a => { a with supplyLate := true }).wr F.AON_STBY_STATUS_SUPPLY_LATE 1
    else s)
/-- CRYSTAL_SWITCH (R47). -/
def execCrystalSwitch (s : State) : Outcome State Fault Refusal :=
  .next (if s.aon.vaonGood && !s.aon.crystal then
      ((s.modAon fun a => { a with crystal := true }).wr F.AON_CLK_STATUS_XTAL 1).logEvent 0x0104 0 1 0
    else s)
/-- CRYSTAL_STOP (R47). -/
def execCrystalStop (s : State) : Outcome State Fault Refusal :=
  .next (if s.aon.crystal then
      ((s.modAon fun a => { a with crystal := false }).wr F.AON_CLK_STATUS_XTAL 0).errEvent aonBase 0x0104 2 0 0
    else s)
/-- PLL_LOCK (R49). -/
def execPllLock (i : Fin 9) (s : State) : Outcome State Fault Refusal := .next (s.pllLock i.val)
/-- PLL_LOCK_LOSS (R52). -/
def execPllLockLoss (i : Fin 9) (s : State) : Outcome State Fault Refusal := .next (s.pllLoss i.val)
/-- PLL_STOP (R52). -/
def execPllStop (i : Fin 9) (s : State) : Outcome State Fault Refusal := .next (s.pllStop i.val)
/-- CLOCK_ENABLE_WRITE (R52). -/
def execClockEnableWrite (k : Fin 8) (v : Word) (s : State) : Outcome State Fault Refusal := .next (s.clkWrite k.val v.toNat)
/-- DRAM_DRAIN_COMPLETE (R55). -/
def execDramDrainComplete (s : State) : Outcome State Fault Refusal := .next s.drained
/-- TRAINING_RESTORE_COMPLETE (R374). -/
def execTrainingRestoreComplete (outcomes : List Nat) (s : State) : Outcome State Fault Refusal := .next (s.trained outcomes)
/-- DEGRADE_ADVISORY (R56). -/
def execDegradeAdvisory (reason : Nat) (s : State) : Outcome State Fault Refusal := .next (s.advisory reason)

end Sys2Proof.Machine
end

