-- ==== Sys2Proof/Machine/Boot.lean ====
section
/-! DEFINITION. Resets, the release order, soft resets, the watchdog, the boot ROM and the boot of firmware (chapter 03). -/

namespace Sys2Proof.Machine

/-- Registers that every reset but power-on keeps: AON, EVR with the log, and RST_CAUSE (R60, R62, R397). -/
def keptReg (a : Nat) : Bool := decide (0x40020000 ≤ a ∧ a < 0x40048000) || a == R.RST_CAUSE

/-- What flash and OTP hold; firmware's memory is lost (R140). -/
def flashOf (f : Fw) : Fw :=
  { Fw.reset with copies := f.copies, store := f.store, image := f.image, copiesWritten := f.copiesWritten, train := f.train,
                  flashKB := f.flashKB, flashModes := f.flashModes, cs := f.cs, spare := f.spare, otpKeys := f.otpKeys,
                  otpSerial := f.otpSerial }

/-- The same for calibration: the flash calibration area and the OTP trims (R345, R347). -/
def calKept (c : CalState) : CalState := { CalState.reset with sects := c.sects, trimOk := c.trimOk }

/-- A port after a reset that reaches the processor (R96, R97): what the CAN controller holds stays. -/
def portKept (q : Port) : Port :=
  { Port.reset q.reqId q.rspId q.ntfId with busOff := q.busOff, passive := q.passive, ignored := q.ignored }

/-- End offset of a sub-block of a channel window (R15). -/
def subEnd (i : Nat) : Nat :=
  [0x2000, 0x4000, 0x6000, 0x8000, 0xA000, 0xC000, 0xE000, 0x10000, 0x14000, 0x18000, 0x20000, 0x28000, 0x40000].getD i 0

namespace State

/-! ### Resets (R61–R64) -/

/-- The drivers of LAMPn_EN_N, CHn_OE_N and CHn_LAT_N that drive their pin low, as bits of `Pins.drivers` (R73). -/
def lowDriven (s : State) : Nat :=
  chans.foldl (fun (m : Nat) n =>
    let lows := b2n (!s.pins.lampEnN.get n) * 2 ^ n.val + b2n (!s.pins.oeN.get n) * 2 ^ (4 + n.val) + b2n (!s.pins.latN.get n) * 2 ^ (8 + n.val)
    m ||| (lows &&& s.pins.drivers)) 0

/-- Everything returns to reset except AON and the event log (R61): the DRAM keeps its content only under the retention
latch (R74); PWR_WARN_N and the class of the VAON bank stay; a pin driven low is driven high for two AON cycles, but for a
brown-out, whose isolation has released every pin (R63, R73). -/
def coreReset (s : State) : State :=
  let held := s.aon.retain
  let keepDmc := fun (c : Fin 2) => { DmcRun.reset with poison := if held.get c then (s.dmc.get c).poison else [] }
  let high := if s.pins.isolated then 0 else s.lowDriven
  { State.reset with
    pending := s.pending
    regs := sset regReset (skeep keptReg s.regs) R.RST_OPT_BANKV (BitVec.ofNat 32 (s.aon.bank0 % 4 + s.aon.bank0 / 4 * 2 ^ 16))
    dram := skeep (fun a => held.get (dramCh a)) s.dram
    tb := s.tb
    evr := s.evr
    mbx := { Mbx.reset with issued := s.mbx.issued, grants := s.mbx.grants }
    sys := { Sys.reset with pwrLow := s.sys.pwrLow }
    aon := { s.aon with phase := .awake, subOk := false, wakes := 0, refOn := false }
    pins := { Pins.reset with isolated := s.pins.isolated, dramResetN := held, drivers := high ||| (s.pins.drivers &&& 2 ^ 15),
                              high := if high = 0 then [] else [(high, s.tb.toNat + 2)] }
    dmc := ⟨keepDmc 0, keepDmc 1⟩
    cal := calKept s.cal
    fw := flashOf s.fw
    free := s.free }

/-- A source of the AON edge on which another one was recognised: the two act as one (R62, log entry 115). -/
def sameEdge (s : State) : Bool := s.rst.edge == some s.tb.toNat

/-- A source is recorded; one recognised while a sequence runs restarts it (R62). -/
def recordCause (s : State) (k : Nat) (mid : Bool) : State :=
  let s := s.put R.RST_CAUSE (setBit (s.get R.RST_CAUSE) k true)
  if mid then s.incSat F.RST_CAUSE_RESTARTS else s

/-- The mode becomes BOOT (R40, R62), and every grant ends with reason 4 (R105). -/
def enterBoot (s : State) (was cause : Nat) : State :=
  let s := if was = modeBOOT then (s.wr F.SYS_MODE_MODE modeBOOT).wr F.SYS_MODE_CAUSE cause else s.setMode modeBOOT cause
  s.endGrants 4

/-- A reset with the reach of RESET_N, of cause bit k and mode cause c; option loading follows (R61, R62, R64, R65).  Cause 4
holds unless cause 5 applies, so its event waits for the sample of TESTEN_N (R40, log entry 116). -/
def deviceReset (s : State) (k c : Nat) : State :=
  let was := s.mode
  let owed := decide (was ≠ modeBOOT) || s.rst.bootOwed
  let mid := s.rd F.RST_STATUS_PHASE != 0 && !s.sameEdge
  let armed := s.on F.RST_WDT_CFG_ARMED || (s.sameEdge && s.rst.edgeArmed)
  let t := ((s.coreReset).recordCause k mid).wr F.RST_STATUS_PHASE 2
  let t : State := t.modRst fun r => { r with edge := some s.tb.toNat, edgeArmed := armed }
  if c = 4 then
    (((t.wr F.SYS_MODE_MODE modeBOOT).wr F.SYS_MODE_CAUSE 4).endGrants 4).modRst fun r => { r with bootOwed := owed }
  else t.enterBoot was c

/-- The host ports and their mailboxes after a reset of the processor (R83, R96, R97). -/
def portsReset (s : State) : State :=
  let s := ([0, 1, 2] : List (Fin 3)).foldl (fun (s : State) p => s.modPort p portKept) s
  let s := s.modMbx fun m => { m with order := [] }
  let s := (s.portDefaults 0).wr F.MBX_HCFG_HELLO_DONE 0
  s.wrs [(F.MBX_HSTAT_READY, 0), (F.MBX_HSTAT_HELLO_DONE, 0), (F.MBX_HSTAT_OUTBOX_FULL, 0), (F.MBX_HSTAT_INBOX_BUSY, 0),
    (F.MBX_IRQ_STATUS_RESP, 0), (F.MBX_IRQ_STATUS_NOTIFY, 0)]

/-! ### Flash parts and images (R67, R75, R76) -/

/-- The content of the flash in use. -/
def flashPart (s : State) : FlashPart :=
  ⟨s.fw.image, s.fw.copies, s.fw.store, s.fw.train, s.cal.sects, s.fw.flashKB, s.fw.flashModes⟩
/-- The flash on a chip select becomes the one in use (R67). -/
def selectPart (s : State) (cs : Nat) : State :=
  if s.fw.cs = cs then s
  else
    let q := s.fw.spare
    let here := s.flashPart
    let s : State := s.modFw fun w =>
      { w with image := q.image, copies := q.copies, store := q.store, train := q.train, flashKB := q.kb, flashModes := q.modes,
               cs := cs, spare := here }
    s.modCal fun c => { c with sects := q.cal }

/-- The size of an image slot (R75). -/
def slotSize : Nat := 524288
/-- An erased flash byte. -/
def flashReset (_ : Nat) : Byte := 0xFF
/-- A byte of an image slot. -/
def slotByte (s : State) (slot i : Nat) : Byte := sget flashReset s.fw.image (slotSize * slot + i)

/-- What R76 finds of an image: the reason of its rejection, 0 to accept it.  The conditions are looked at in the order of
their reasons (log entry 109); with an OTP word that failed its check no image is authenticated (R67). -/
def imageReason (s : State) (b : Nat → Byte) : Nat :=
  let hd := (List.range 256).map b
  let len := le32 hd 8
  let key := le16 hd 6
  if le32 hd 0 ≠ 0x56424D31 then 1
  else if le16 hd 4 ≠ 1 ∨ 3 < key ∨ len % 4 ≠ 0 ∨ 458752 < len ∨ slotSize < le32 hd 12 + len then 2
  else if bit (s.rd F.RST_OPT_KEY_REVOKE) key then 3
  else if !s.on F.RST_OPT_OTP_OK || sha256 ((hd.drop 128).take 64) != s.fw.otpKeys.get (chan key) then 4
  else if !ecdsaOk (sha256 (hd.take 64 ++ (List.range len).map fun i => b (256 + i)))
      (beAt hd 64 32) (beAt hd 96 32) (beAt hd 128 32) (beAt hd 160 32) then 5
  else if byteAt hd 20 < s.rd F.RST_OPT_MIN_SEC_VER then 6
  else 0

/-- SEQUENCE of an image slot. -/
def slotSequence (s : State) (slot : Nat) : Nat := leNat ((List.range 4).map fun i => s.slotByte slot (24 + i))
/-- The slot of a flash that the boot ROM tries at its k-th try: the one with the higher SEQUENCE first (R76). -/
def slotTry (s : State) (k : Nat) : Nat :=
  let first := b2n (decide (s.slotSequence 0 < s.slotSequence 1))
  if k % 2 = 0 then first else 1 - first

/-- The processor and boot ROM are released once their clocks are good (R65 step 4, R66, R77); the boot ROM configures the
flash pins of the chip select that BOOTSEL names, FAULT_N, which it drives from the latch (R390), and with BOOTSEL 00 HSPI
(R72). -/
def releaseCpu (s : State) : State :=
  let ph := s.rd F.RST_STATUS_PHASE
  if (ph ≠ 3 ∧ ph ≠ 4) ∨ s.rst.cpu ≠ .held ∨ !s.stepDoms.isEmpty then s
  else
    let s := s.wr F.RST_STATUS_PHASE 4
    let ok := s.on F.RST_OPT_OTP_OK
    let sel := s.rd F.RST_OPT_BOOTSEL
    let s := if sel = 0 then s else s.selectPart (b2n (sel == 2))
    let cpu := if sel = 0 then Cpu.romService else if !ok then Cpu.noImage else Cpu.bootRom
    let s : State := s.modRst fun r => { r with cpu := cpu, tried := 0, flashRead := 0, flashAddr4 := false }
    s.modPins fun p => { p with faultLow := s.on F.EVR_FAULT_LATCHED || !ok, openDrain := true, hspi := p.hspi || sel == 0,
                                fspi := [0, 3, 2, 1].getD sel 0 }

/-! ### Watchdog reset and power-on (R61, R71) -/

/-- The watchdog expires (R71): processor, its SRAM and the fabric; every channel stops at once; DRAM, links and LEC
registers are kept. -/
def watchdogReset (s : State) : State :=
  let was := s.mode
  let mid := s.rd F.RST_STATUS_PHASE != 0
  let s := s.stopNow 15
  let s := chans.foldl (fun (s : State) n =>
    ((s.setLampEn n true).modLink n fun l => { l with idle := true, neg := none }).chnOe n) s
  let up := ([0, 1] : List (Fin 2)).foldl (fun m ch => setBit m ch.val (decide (3 ≤ s.rd (F.DMC_STATUS_STATE ch)))) 0
  let s : State := (((((s.modFw fun _ => { flashOf s.fw with speed := s.fw.speed, delays := s.fw.delays }).modCal fun _ => calKept s.cal).modSys fun y => { y with transit := none, speed := none, advArm := 0, advTick := [], checkOwed := false, marginLow := false }).modRst fun _ => { Rst.reset with testenN := s.rst.testenN, released := s.rst.released, wdtTick := s.tb.toNat, dramUp := up, edge := some s.tb.toNat, edgeArmed := true }).modPins fun p => { p with faultLow := false })
  let s := ((s.showTransit false 0).portsReset).recordCause 4 mid
  let s := ((s.wr F.RST_STATUS_PHASE 4).enterBoot was 4).tutorAllOff false
  (s.releaseCpu).showPend

/-- VAON rises through its threshold (R48, R61, R397): everything is reset; flash and OTP keep what they hold, PWR_WARN_N its
level.  The VAON bank is classified, with event 0x0202 if it lies near a threshold (R67). -/
def powerOn (s : State) (bank0 : Nat) (win : Bool) : State :=
  let s : State := { State.reset with
    pending := s.pending, fw := flashOf s.fw, cal := calKept s.cal, free := s.free, sys := { Sys.reset with pwrLow := s.sys.pwrLow },
    aon := { Aon.reset with vaonGood := true, bank0 := bank0 + 4 * b2n win } }
  let s := (s.wrs [(F.RST_STATUS_PHASE, 1), (F.RST_OPT_BANKV_CLASS, bank0), (F.RST_OPT_BANKV_OUT_WIN, b2n win)]).logEvent 0x0104 0 2 0
  if win then s.errEvent rstBase 0x0202 2 0 bank0 else s

/-- The AON domain is released (R65 step 1). -/
def aonRelease (s : State) : State :=
  if s.aon.vaonGood && s.rd F.RST_STATUS_PHASE == 1 then s.wr F.RST_STATUS_PHASE 2 else s

/-- VDD_CORE is good (R65 step 2). -/
def coreGood (s : State) : State :=
  if s.aon.vaonGood && s.aon.phase == .awake then
    (s.modAon fun a => { a with coreGood := true }).modPins fun p => { p with isolated := false }
  else s

/-- VDD_CORE falls below its threshold (R61, R63). -/
def brownOut (s : State) : State :=
  if s.aon.coreGood && (s.aon.phase == .awake || s.aon.phase == .entering) then
    ((s.modAon fun a => { a with coreGood := false }).modPins fun p => { p with isolated := true }).deviceReset 1 4
  else s

/-- A valid RESET_N pulse (R63); in STANDBY it is a wake source (R45). -/
def resetPin (s : State) : State :=
  if !s.aon.vaonGood || s.rd F.RST_STATUS_PHASE == 1 then s
  else if s.aon.phase = .low ∨ s.aon.phase = .lowDone then (s.recordCause 3 false).wake 6
  else if s.aon.phase = .waking then
    let s := s.recordCause 3 false
    if s.asleep then s.wake 6 else s
  else s.deviceReset 3 4

/-- VDD_CORE is good after a wake: the standby-exit reset (R46, R61). -/
def standbyExit (s : State) : State :=
  if s.aon.phase = .waking then
    ((s.modAon fun a => { a with coreGood := true }).modPins fun p => { p with isolated := false }).deviceReset 2 2
  else s

/-! ### Option loading (R67, R433) -/

/-- The results of option loading: the class of the VAON bank stands since power-on. -/
def optionsLoad (s : State) (straps : Nat) (otp : Word) (ok : Bool) (banks : Nat) (testenN : Bool) : State :=
  if s.rd F.RST_STATUS_PHASE ≠ 2 ∨ !s.aon.coreGood then s
  else
    let s := s.put R.RST_OPT (setBit (setBits otp.toNat 0 3 straps) 31 ok)
    let s := s.wrs [(⟨R.RST_OPT, 9, 7⟩, 0), (⟨R.RST_OPT, 24, 7⟩, 0),
      (F.RST_OPT_BANKV_CLASS, setBits banks 0 2 s.aon.bank0), (F.RST_OPT_BANKV_OUT_WIN, setBits (banks / 2 ^ 16) 0 1 (s.aon.bank0 / 4))]
    let s := (List.range 8).foldl (fun (s : State) b =>
      if b ≠ 0 ∧ bit (s.rd F.RST_OPT_BANKV_OUT_WIN) b then s.errEvent rstBase 0x0202 2 b (bits banks (2 * b) 2) else s) s
    let s := if ok then s else s.errEvent rstBase 0x0203 7 0 0
    let owed := s.rst.bootOwed
    let s : State := s.modRst fun r => { r with testenN := testenN, bootOwed := false }
    let s := s.wrB F.TST_STATUS_TESTEN (!testenN)
    if testenN then
      let s := if owed then s.logEvent 0x0101 1 modeBOOT 4 else s
      let s : State := s.modPins fun p => { p with analog := true }
      (((((s.wr F.RST_STATUS_PHASE 3).setPll 0 true false).setPll 1 true false).setClks 224 226 true).releaseCpu).showPend
    else (((s.wr F.RST_STATUS_PHASE 0).setMode modeSCANTEST 5).wr F.TST_STATUS_SCAN 1).logEvent 0x7F01 2 0 0

/-- A release has waited 1 ms (R66). -/
def releaseLate (s : State) : State :=
  if s.on F.RST_STATUS_RELEASE_PENDING then s.errEvent rstBase 0x0205 3 (s.rd F.RST_STATUS_PEND_DOMAIN) 0 else s

/-! ### Firmware start (R78, R140) -/

/-- Is a configuration copy valid: both CRCs pass and SYS_ID matches (R140)? -/
def copyOk (s : State) (c : Stored) : Bool := c.headOk && c.bodyOk && c.sysId == s.get R.SYS_ID
/-- A copy, if it is valid. -/
def validCopy (s : State) (i : Fin 2) : Option Stored := (s.fw.copies.get i).filter s.copyOk
/-- The valid configuration copy with the higher SEQ (R140). -/
def stored (s : State) : Option Stored :=
  match s.validCopy 0, s.validCopy 1 with
  | some a, some b => if a.seq < b.seq then some b else some a
  | some a, none => some a
  | none, b => b

/-- The valid record of an asset in the asset store, the one with the higher SEQ (R140). -/
def assetRec (s : State) (id : Nat) : Option AssetRec :=
  s.fw.store.foldl (fun best r =>
    if r.state == 0xFC && r.asset.id == id && crc32 r.data == r.asset.crc && (match best with | some b => decide (b.seq < r.seq) | none => true)
    then some r else best) none
/-- The records that firmware loads at boot, one for every asset. -/
def assetRecs (s : State) : List AssetRec := s.fw.store.filter fun r => s.assetRec r.asset.id == some r

/-- CAN settings of a stored configuration (R102, R139). -/
def canConfig (s : State) (req : List Byte) : State :=
  ([0, 1] : List (Fin 2)).foldl (fun (s : State) c =>
    let o := 4 + 16 * c.val
    let s := s.put (if c = 0 then R.MBX_CAN0_CFG else R.MBX_CAN1_CFG) (byteAt req o % 32)
    s.modPort (canPort c) fun q => { q with reqId := le32 req (o + 4), rspId := le32 req (o + 8), ntfId := le32 req (o + 12) }) s

/-- CAN rates of R102 where none are stored. -/
def canDefaults (s : State) : State := (s.put R.MBX_CAN0_CFG 5).put R.MBX_CAN1_CFG 5

/-- Is a register part of a loop context's configuration (R330)? -/
def loopReg (a : Nat) : Bool :=
  chans.any fun n => (decide (lecBase n + 0x18400 ≤ a ∧ a < lecBase n + 0x18800) && a % 256 != 12 && decide (a % 256 < 0xD0)) ||
    decide (lecBase n + 0x1A000 ≤ a ∧ a < lecBase n + 0x1E000)

/-- The stage and the loops are loaded from the stored configuration (R113, R139, R140). -/
def loadConfig (s : State) : State :=
  let s : State := s.setRegs (skeep (fun a => !loopReg a) s.regs)
  match s.stored with
  | none => (s.canDefaults).logEvent 0x0406 3 0 0
  | some c =>
    let s : State := s.modFw fun w => { w with stage := c.cfg, offer := c.offer }
    let s := (c.loops.filter fun e => loopReg e.1).foldl (fun (s : State) e => s.put e.1 e.2.toNat) s
    let s := chans.foldl (fun (s : State) n =>
      let s := s.modTut n fun t => { t with pitch := c.pitch.get n, pitchTick := s.tb.toNat }
      chans.foldl (fun (s : State) k =>
        let on := s.on (F.TUT_CTXc_CTRL_EN n k.val)
        (s.wr (F.TUT_CTXc_CTRL_EN n k.val) 0).modCtx n k fun x => { x with wasOn := on }) s) s
    if bit c.parts 3 then s.canConfig c.can else s.canDefaults

/-- The stored FALLBACK asset of a channel, if it is valid (R214). -/
def storedPattern (s : State) (n : Fin 4) : Option (List Byte) :=
  match s.assetRec (1000 + n.val) with
  | some a => if fallbackOk a.data then some a.data else none
  | none => none

/-- BOOT_LIGHT is stored for a channel (R80). -/
def bootLit (s : State) (n : Fin 4) : Bool :=
  match s.stored with
  | some c => bit (byteAt c.request 1) n.val
  | none => false

/-- The stored patterns go into the fallback pattern SRAMs; a BOOT_LIGHT channel without one is reported (R80, R214). -/
def loadPatterns (s : State) : State :=
  chans.foldl (fun (s : State) n =>
    match s.storedPattern n with
    | some b => s.sramWrite n 0 b
    | none => if s.bootLit n then s.logEvent (0x1017 + 256 * n.val) 3 1 0 else s) s

/-- The DRAM controllers are released once the clocks of the DPLL domains are good (R65 step 6). -/
def releaseDram (s : State) : State :=
  if s.rd F.RST_STATUS_PHASE = 6 ∧ s.fwRuns ∧ s.stepDoms.isEmpty then s.wr F.RST_STATUS_PHASE 7 else s

/-- The fabric is released (R65 step 5, R78): firmware configures pins, logs the cause, restores trims and Report Cards, and
starts the links; a DRAM that a watchdog reset left in self-refresh runs again with neither restore nor training (R79). -/
def fabricRun (s : State) : State :=
  let s : State := s.modRst fun r => { r with cpu := .running, fabric := true }
  let s := (s.drivePins 1 (2 ^ 13 + 2 ^ 14)).modPins fun p => { p with hspi := p.hspi || s.on F.RST_OPT_HOSTSEL, drive := (12, 8) }
  let s := (s.wr F.RST_STATUS_PHASE 6).wr F.MBX_HSTAT_READY 1
  let c := s.get R.RST_CAUSE
  let s := s.logEvent 0x0201 1 (c % 256) (c / 256 % 256)
  let s := if s.aon.supplyLate then
      (s.modAon fun a => { a with supplyLate := false }).logEvent 0x0112 3 0 0
    else s
  let s := chans.foldl (fun (s : State) n => s.noteBanks n) ((s.calBoot).loadConfig).loadPatterns
  let s := ([0, 1] : List (Fin 2)).foldl (fun (s : State) ch =>
    if bit s.rst.dramUp ch.val && s.rd (F.DMC_STATUS_STATE ch) == 5 then s.dmcRun ch else s) s
  let s := chans.foldl (fun (s : State) n => if s.linkUp n then s else s.negotiate n 0 none) s
  (s.releaseDram).showPend

/-- The fabric waits for the clocks of its domains (R65 step 5, R66). -/
def releaseFabric (s : State) : State :=
  if s.rst.cpu = .starting ∧ s.rd F.RST_STATUS_PHASE = 5 ∧ s.stepDoms.isEmpty then s.fabricRun else s

/-- An accepted image runs (R65, R78): it enables its clock domains and releases the fabric once it may. -/
def firmwareStart (s : State) (slot : Nat) : State :=
  let s : State := (s.modRst fun r => { r with cpu := .starting }).modFw fun w => { w with running := slot }
  ((((s.wr F.RST_STATUS_PHASE 5).setClks 208 234 true).setClks 239 249 true).releaseFabric).showPend

/-- The clock-good of an enabled domain rises (R51); every release that waited for it follows (R66). -/
def clockGood (s : State) (d : Nat) : State :=
  match pllOf d with
  | none => s
  | some i =>
    if s.clkOn d && s.pllLocked i then
      let s := s.put (R.SYS_CLKGOODk (d / 32)) (setBit (s.get (R.SYS_CLKGOODk (d / 32))) (d % 32) true)
      let s := ((s.releaseCpu).releaseFabric).releaseDram
      let s := chans.foldl (fun (s : State) n => if bit s.rst.lecWait n.val && (s.lecDoms n).isEmpty then (s.lecFree n).tryStart n else s) s
      s.showPend
    else s

/-- The boot ROM reads the SFDP table and chooses the fastest read mode that it advertises (R75). -/
def readMode (s : State) : State :=
  let m := s.fw.flashModes
  s.modRst fun r => { r with flashRead := if bit m 0 then 1 else if bit m 1 then 2 else 3, flashAddr4 := bit m 2 }

/-- The boot ROM finishes an image slot (R76), the next in the order of SEQUENCE, or fails to read it. -/
def slotCheck (s : State) (modes : Nat) (fault : Bool) : State :=
  if s.rst.cpu ≠ .bootRom then s
  else
    let slot := s.slotTry s.rst.tried
    let s := if fault then s else (s.modFw fun w => { w with flashModes := modes % 8 }).readMode
    let reason := if fault then 7 else s.imageReason (s.slotByte slot)
    if reason = 0 then s.firmwareStart slot
    else
      let both := s.rd F.RST_OPT_BOOTSEL == 1
      let s := s.logEvent 0x0401 3 slot reason
      let s : State := s.modRst fun r => { r with tried := s.rst.tried + 1 }
      let s := if both && s.rst.tried == 2 then s.selectPart 1 else s
      if s.rst.tried < (if both then 4 else 2) then s
      else
        let s := s.logEvent 0x0402 7 0 0
        (s.modRst fun r => { r with cpu := .noImage }).modPins fun p => { p with faultLow := true }

/-! ### DRAM, assets, chains (R79, R140, R288) -/

/-- A DRAM channel is brought up, once the controllers are released (R65 step 6, R79, R372, R374): how 0 restores, 1 runs INIT
and restores, anything else is full training; from 16 on, a step (low four bits) failed on a lane mask.  The pins are handed
back to the controller (R74). -/
def bringUp (s : State) (ch : Fin 2) (how : Nat) : State :=
  if !s.fwRuns || s.mode != modeBOOT || s.rd F.RST_STATUS_PHASE != 7 || bit s.rst.dramUp ch.val then s
  else
    let s := (s.dmcSpeed ch s.fw.speed).fwBell 0x110
    let s := if how = 0 ∧ s.aon.retain.get ch = true then s else s.dramLost ch
    let s := if how < 2 then
        match s.trainRecord (s.rd (F.DMC_CFG_SPEED ch)) with
        | some r => s.trainRestore ch r
        | none => s.trainFull ch how
      else s.trainFull ch how
    let s := s.dmcRun ch
    let s : State := s.modPins fun p =>
      { p with dramResetN := p.dramResetN.set ch true, dramCke := p.dramCke.set ch true, ddr := p.ddr.set ch true }
    (s.modRst fun r => { r with dramUp := setBit s.rst.dramUp ch.val true }).modAon fun a => { a with retain := s.aon.retain.set ch false }

/-- An asset and its data enter the DRAM asset area (R130). -/
def assetPlace (s : State) (a : Asset) (bs : List Byte) : State :=
  let a := { a with page := inArea (Config.assetPage a.id s.fw.upCount).toNat (ceilDiv a.size 4096) }
  let s := s.portWrite 11 (a.page * 4096) bs
  s.modFw fun w => { w with upCount := s.fw.upCount + 1, assets := (s.fw.assets.filter fun x => x.id != a.id) ++ [a] }

/-- The stored assets are in DRAM (R140). -/
def assetsLoaded (s : State) : State :=
  if !s.fwRuns || s.mode != modeBOOT || s.rst.dramUp != 3 || s.rst.assetsUp then s
  else
    let s := s.assetRecs.foldl (fun (s : State) a => s.assetPlace a.asset a.data) s
    s.modRst fun r => { r with assetsUp := true }

/-- The ports a stored configuration enables (R288). -/
def bootPorts (s : State) : List (Fin 4) :=
  match s.stored with
  | some c => chans.filter fun n => bit c.parts 1 && byteAt (c.cfg.anim.get n) 1 != 0
  | none => []

/-- A port shows its stored frame while its channel shows its pattern (R296, R297). -/
def chnBoot (s : State) (n : Fin 4) : State :=
  match s.stored with
  | some c =>
    if s.bootPorts.contains n && s.rd (F.CHN_MODE_MUX n) != 0 && bit s.rst.tail n.val then
      let b := 16384 * s.rd (F.CHN_STATUS_SHIFT_BANK n)
      let s := s.modChn n fun k =>
        { k with mem := (c.frames.get n).foldl (fun m e => sset memReset m (b + e.1) e.2) (skeep (fun a => !decide (b ≤ a ∧ a < b + 16384)) k.mem) }
      (((s.wr (F.CHN_CTRL_STORED n) 1).wr (F.CHN_CTRL_EN n) 1).wr (F.CHN_CTRL_OE n) 1).chnSync n
    else s
  | none => s

/-- Roll Call of BOOT (R81, R288). -/
def bootRoll (s : State) (found : List (List Nat)) : State :=
  if !s.fwRuns || s.mode != modeBOOT || s.rst.rollDone then s
  else
    let s := s.bootPorts.foldl (fun (s : State) n =>
      let off := s.fw.offer.get n
      (s.rollCall n (if off = 0 then 50000 else off) 8 (rollIn (found.getD n.val []))).chnBoot n) s
    s.modRst fun r => { r with rollDone := true }

/-! ### BOOT_LIGHT and the end of BOOT (R80, R81) -/

/-- BOOT_LIGHT_START (R80): once the DRAM controllers are released (R65), and the LEC itself, which may wait for its clocks. -/
def bootLight (s : State) (n : Fin 4) : State :=
  let m := s.fw.act.merge s.fw.stage (2 ^ n.val) false
  if !s.fwRuns || s.mode != modeBOOT || s.rd F.RST_STATUS_PHASE != 7 || !s.bootLit n || bit s.rst.tail n.val || !s.linkUp n || (s.storedPattern n).isNone ||
     s.sys.pwrLow || m.fld (F.SRC_DERATE_CFG_ARMED n) == 0 || !m.timed n then s
  else
    let s := s.releaseLec n
    let why := s.rejectReason m (2 ^ n.val) false s.profileNow
    if bit s.rst.lecWait n.val then s
    else if why ≠ 0 then s.logEvent (0x1011 + 256 * n.val) 2 why (2 ^ n.val)
    else
      let s := s.issue m (2 ^ n.val) false none
      let s : State := s.modRst fun r => { r with tail := setBit s.rst.tail n.val true }
      let s := (s.wr (F.BPF_SRCSEL_PATTERN n) 1).runWrite n 1
      ((s.lampUpdate n).chnBoot n).logEvent 0x0404 1 n.val 0

/-- Everything that READY waits for has ended (R81). -/
def bootReady (s : State) : Bool :=
  s.fwRuns && s.mode == modeBOOT && s.rst.dramUp == 3 && s.rd F.RST_STATUS_PHASE == 7 && (s.rst.assetsUp || s.assetRecs.isEmpty) &&
  (s.rst.rollDone || s.bootPorts.isEmpty) && chans.all fun n => s.linkState n != 1 && s.linkState n != 2

/-- The remaining channels of the stored configuration are committed as one COMMIT, and its chain part on its own.  A chain
part that fails its check is not committed, and no event is logged for it: the manual names none (DESIGN CHOICE, log entry
117). -/
def bootCommit (s : State) : State :=
  match s.stored with
  | none => s
  | some c =>
    let mask := chans.foldl (fun (k : Nat) (n : Fin 4) =>
      if bit c.parts 0 && c.cfg.timed n && !bit s.rst.tail n.val then setBit k n.val true else k) 0
    let m := s.fw.act.merge s.fw.stage mask false
    let why := s.rejectReason m mask false s.profileNow
    let s := if mask = 0 then s
      else if why ≠ 0 then s.forMask mask fun (s : State) (n : Fin 4) => s.logEvent (0x1011 + 256 * n.val) 2 why mask
      else (s.issue m mask false none).forMask mask fun (s : State) (n : Fin 4) => s.runWrite n 1
    let m := s.fw.act.merge s.fw.stage 0 true
    if bit c.parts 1 && s.rejectReason m 0 true s.profileNow == 0 then s.issue m 0 true none else s

/-- BOOT ends in READY (R81, R99). -/
def bootEnd (s : State) : State :=
  if !s.bootReady then s
  else
    let s := chans.foldl (fun (s : State) n =>
      if s.bootLit n && (s.storedPattern n).isSome && !bit s.rst.tail n.val && !s.linkUp n then
        s.logEvent (0x1017 + 256 * n.val) 3 2 0 else s) s
    let s := ((s.bootCommit).wr F.RST_STATUS_PHASE 0).enterMode modeREADY 1
    let s := (chans.foldl (fun (s : State) n => s.wr (F.CHN_CTRL_STORED n) 0) s).modePins.tutorBack
    let pl := statusWord stOK 0 ++ leBytes 4 (s.get R.RST_CAUSE)
    let s := if s.on F.RST_OPT_HOSTSEL then s.notify 0 0x62 pl else s
    (s.notify 1 0x62 pl).notify 2 0x62 pl

/-! ### Soft resets (R68, R69, R73) -/

/-- Registers of a range return to their reset values in every bank (R68). -/
def bankReset (s : State) (lo hi : Nat) : State :=
  let out := fun (a : Nat) => !decide (lo ≤ a ∧ a < hi)
  ((((s.setRegs (skeep out s.regs)).setPend (skeep out s.pend)).setComp (skeep out s.comp)).setStrm
    (skeep out s.strm)).setActv (skeep out s.actv)

/-- What no register of sub-block i of a channel shows. -/
def subHidden (s : State) (n : Fin 4) (i : Nat) : State :=
  match i with
  | 0 => s.modCh n fun c => { c with layers := Four.all LayerRun.reset }
  | 2 => s.modMask n fun m => { m with softLive := [], softLife := [], arrived := [], stageNew := [] }
  | 5 => s.modBpf n fun _ => BpfRun.reset
  | 6 => s.modMask n fun m => { m with endNext := [], endNow := [], changed := [], unacked := [], waiting := [], reload := [] }
  | 7 => s.modSrc n fun r => { SrcRun.reset with parkSet := r.parkSet, unpark := r.unpark, groups := r.groups }
  | 8 => s.modLink n fun l => { LinkRun.reset with adapts := l.adapts }
  | 9 => (s.modChn n fun c => { ChnRun.reset with mem := c.mem }).portTick n
  | 10 => s.modTut n fun t => { TutRun.reset with pitch := t.pitch }
  | 12 => s.modCh n fun c => { c with cfgNew := none, cfgPend := none, cfgComp := none, cfgStrm := none, starting := false }
  | _ => s

/-- The drivers of a block's pins are disabled by its reset, those of pins that were driven low after two AON cycles (R73). -/
def pinsOff (s : State) (mask low : Nat) : State :=
  s.modPins fun p => { p with drivers := (p.drivers &&& (2 ^ 32 - 1 - mask)) ||| low,
                              high := if low = 0 then p.high else p.high ++ [(low, s.tb.toNat + 2)] }
/-- CHn_CLK, CHn_DAT and CHn_RET of a chain port in reset are not driven (R72). -/
def chainPins (s : State) (n : Fin 4) (i : Nat) : State :=
  if i = 9 then s.modPins fun p => { p with chain := p.chain.set n false, retTerm := p.retTerm.set n false, latN := p.latN.set n true } else s

/-- Sub-block i of channel n enters reset (R68, R69): CTL stops a running channel (R236), LNK takes the link to OFF
without a packet (R279). -/
def subReset (s : State) (n : Fin 4) (i : Nat) : State :=
  let s := if i = 12 then
      let s := (s.wr (F.LEC_COMMIT_STATUS_PENDING n) 0).wr (F.LEC_COMMIT_STATUS_LATCHED n) 0
      if s.on (F.LEC_STATUS_RUNNING n) then s.channelStop n else s
    else s
  let s := if i = 8 then s.linkOff n false else s
  let low := s.lowDriven &&& (if i = 7 then 2 ^ n.val else if i = 9 then 2 ^ (4 + n.val) + 2 ^ (8 + n.val) else 0)
  let s := s.bankReset (lecBase n + subBase i) (lecBase n + subEnd i)
  let s := (s.modCh n fun c => { c with work := skeep (fun a => !decide (lecBase n + subBase i ≤ a ∧ a < lecBase n + subEnd i)) c.work }).subHidden n i
  (((s.lampUpdate n).chnOe n).pinsOff (if i = 7 then 2 ^ n.val else if i = 9 then 2 ^ (4 + n.val) + 2 ^ (8 + n.val) else 0) low).chainPins n i

/-- A system block enters reset (R68, R69, R154, R343, R438). -/
def sysReset (s : State) (i : Nat) : State :=
  if i < 2 then
    let rx := duo i
    ((s.csiClk rx false).modCsi rx fun _ => Csi.reset).bankReset (csiBase rx) (csiBase rx + 0x8000)
  else if i < 4 then
    let ch := duo i
    let s := (s.dramLost ch).bankReset (dmcBase ch) (dmcBase ch + 0x10000)
    (((s.modDmc ch fun _ => DmcRun.reset).modPins fun p => { p with dramResetN := s.pins.dramResetN.set ch false, dramCke := s.pins.dramCke.set ch false, ddr := s.pins.ddr.set ch false }).modAon fun a => { a with retain := s.aon.retain.set ch false }).csiEnable
  else if i < 6 then
    s.modPort (canPort (duo i)) fun q => { q with rx := [], tx := [], busOff := false, passive := false }
  else if i = 7 then
    let keep := (List.range 14).map fun k => (s.rd (F.CAL_Ii_CARD_ELEMENT k), s.get (R.CAL_Ii_TAP k))
    let s := (s.calAbandon).bankReset calBase (calBase + 0x10000)
    let s := keep.zipIdx.foldl (fun (s : State) e => (s.wr (F.CAL_Ii_CARD_ELEMENT e.2) e.1.1).put (R.CAL_Ii_TAP e.2) e.1.2) s
    s.wr F.CAL_DUE_DUE 0x3FFF
  else if i = 8 then
    let st := s.get R.TST_STATUS
    ((s.modTap fun t => { t with bist := none }).bankReset tstBase (tstBase + 0x10000)).put R.TST_STATUS (st % 4)
  else s

/-- A write of RST_BLK_CTRLk (R68): bits written 1 in one write act together. -/
def softReset (s : State) (k v : Nat) : State :=
  State.showPend <| if k < 4 then
    let n := chan k
    let old := s.get (R.RST_BLK_CTRLk k)
    let new := v % 2 ^ 13 + v / 2 ^ 16 % 2 * 2 ^ 16
    let s := s.put (R.RST_BLK_CTRLk k) (old ||| new)
    (List.range 13).foldl (fun (s : State) i => if bit v i || bit v 16 then s.subReset n i else s) s
  else if k = 4 then
    let s := s.put R.RST_BLK_CTRL4 (s.get R.RST_BLK_CTRL4 ||| v % 512)
    (List.range 9).foldl (fun (s : State) i => if bit v i then s.sysReset i else s) s
  else s

/-- The bits of RST_BLK_CTRLk that a release may clear: of blocks whose clocks are good or, bit 16, of all of a channel's. -/
def releasable (s : State) (k v : Nat) : Nat :=
  let held := s.get (R.RST_BLK_CTRLk k) &&& v
  let good := fun (i : Nat) => (s.domWait (domRange (if k < 4 then subDoms (chan k) i else sysDoms i))).isEmpty
  (List.range 17).foldl (fun (m : Nat) i =>
    if bit held i && (if i = 16 then (List.range 13).all good else good i) then setBit m i true else m) 0

/-- Blocks held in reset are released once their clocks are good (R66, R68): those of the bits of v.  MSK clears the node's span
table (R236), firmware configures the pins of SRC and CHN again, and RESET_FUNCTION is answered (R138). -/
def softRelease (s : State) (k v : Nat) : State :=
  let go := s.releasable k v
  let n := chan k
  let was := fun (i : Nat) => decide (k < 4) && s.subHeld n i
  let old := s
  let s := s.put (R.RST_BLK_CTRLk k) (s.get (R.RST_BLK_CTRLk k) - go)
  let freed := fun (i : Nat) => was i && !s.subHeld n i
  let s := if freed 6 then (List.range 64).foldl (fun (s : State) k => s.sendHard n k) s else s
  let s := if (freed 7 || freed 9) && bit old.rst.released n.val then s.lecPins n else s
  let done := s.rst.softTag.filter fun t => t.1 == k && s.get (R.RST_BLK_CTRLk k) &&& t.2.1 == 0
  let s : State := s.modRst fun r => { r with softTag := s.rst.softTag.filter fun t => !(t.1 == k && s.get (R.RST_BLK_CTRLk k) &&& t.2.1 == 0) }
  (done.foldl (fun (s : State) t => s.answer t.2.2 stOK 0 []) s).showPend

/-! ### Watchdog (R71) -/

/-- A write of RST_WDT_CFG with ARMED set; once armed it is ignored. -/
def watchdogArm (s : State) (v : Nat) : State :=
  if s.on F.RST_WDT_CFG_ARMED then s
  else
    let s := s.wr F.RST_WDT_CFG_TIMEOUT v
    if bit v 31 then (s.modRst fun r => { r with wdtTick := s.tb.toNat }).wr F.RST_WDT_CFG_ARMED 1 else s

/-- The watchdog's time runs out: TIMEOUT has passed since the last kick (R71).  It is suspended in SCAN-TEST (R434) and in
STANDBY.  A reset of the same AON edge that reaches further has disarmed it; the expiry is recorded all the same (R62). -/
def watchdogExpiry (s : State) : State :=
  if s.sameEdge && s.rst.edgeArmed && !s.on F.RST_WDT_CFG_ARMED then s.recordCause 4 false
  else if s.on F.RST_WDT_CFG_ARMED && !withinMs (s.tb.toNat - s.rst.wdtTick) (s.rd F.RST_WDT_CFG_TIMEOUT) &&
      s.mode != modeSCANTEST && (s.aon.phase == .awake || s.aon.phase == .entering) then s.watchdogReset
  else s

/-! ### The timebase (R48) -/

/-- One tick of the 32.768 kHz timebase passes while VAON is good (R48): the sub-tick is valid from the first complete tick
of the 25 MHz reference, drivers held high by a reset for two cycles are disabled (R73), and firmware sends what it has queued
(log entry 3). -/
def tick (s : State) : State :=
  if s.aon.vaonGood then
    let now := s.tb.toNat + 1
    let s : State := { s with tb := s.tb + 1, aon := { s.aon with subOk := s.aon.refOn } }
    let off := s.pins.high.foldl (fun (m : Nat) q => if q.2 ≤ now then m ||| q.1 else m) 0
    let s := if s.pins.high.isEmpty then s
      else s.modPins fun p => { p with drivers := p.drivers &&& (2 ^ 32 - 1 - off), high := p.high.filter fun q => decide (now < q.2) }
    s.fwDrain
  else s

end State

open Host (Outcome)

/-- POWER_ON (R61). -/
def execPowerOn (s : State) (bank0 : Fin 4 := 0) (win : Bool := false) : Outcome State Fault Refusal := .next (s.powerOn bank0.val win)
/-- AON_RELEASE (R65). -/
def execAonRelease (s : State) : Outcome State Fault Refusal := .next s.aonRelease
/-- VDD_CORE_GOOD (R65). -/
def execVddCoreGood (s : State) : Outcome State Fault Refusal := .next s.coreGood
/-- VDD_CORE_BROWN_OUT (R63). -/
def execVddCoreBrownOut (s : State) : Outcome State Fault Refusal := .next s.brownOut
/-- RESET_N_PULSE (R63). -/
def execResetNPulse (s : State) : Outcome State Fault Refusal := .next s.resetPin
/-- CORE_SUPPLY_GOOD (R46). -/
def execCoreSupplyGood (s : State) : Outcome State Fault Refusal := .next s.standbyExit
/-- WATCHDOG_EXPIRY (R71). -/
def execWatchdogExpiry (s : State) : Outcome State Fault Refusal := .next s.watchdogExpiry
/-- WATCHDOG_KICK (R71). -/
def execWatchdogKick (s : State) : Outcome State Fault Refusal :=
  .next (if s.on F.RST_WDT_CFG_ARMED then (s.modRst fun r => { r with wdtTick := s.tb.toNat }) else s)
/-- WATCHDOG_ARM (R71). -/
def execWatchdogArm (v : Word) (s : State) : Outcome State Fault Refusal := .next (s.watchdogArm v.toNat)
/-- DEVICE_RESET (R82). -/
def execDeviceReset (v : Word) (s : State) : Outcome State Fault Refusal :=
  .next (if v.toNat % 65536 = 0x9480 ∧ bit v.toNat 16 = true then s.deviceReset 6 4 else s)
/-- DEVICE_RESET_DELAY (R138). -/
def execDeviceResetDelay (s : State) : Outcome State Fault Refusal := .next (if s.rst.device && s.fwRuns then s.deviceReset 6 4 else s)
/-- OPTION_LOADING_COMPLETE (R67). -/
def execOptionLoadingComplete (straps : Nat) (otp : Word) (otpOk : Bool) (banks : Nat) (testenN : Bool) (s : State) :
    Outcome State Fault Refusal := .next (s.optionsLoad straps otp otpOk banks testenN)
/-- RELEASE_PENDING_TIMEOUT (R66). -/
def execReleasePendingTimeout (s : State) : Outcome State Fault Refusal := .next s.releaseLate
/-- SOFT_RESET (R68). -/
def execSoftReset (k : Fin 5) (v : Word) (s : State) : Outcome State Fault Refusal := .next (s.softReset k.val v.toNat)
/-- SOFT_RESET_RELEASE (R68). -/
def execSoftResetRelease (s : State) (k : Fin 5 := 0) (v : Word := 0xFFFFFFFF) : Outcome State Fault Refusal := .next (s.softRelease k.val v.toNat)
/-- IMAGE_SLOT_CHECK (R76). -/
def execImageSlotCheck (modes : Nat) (fault : Bool) (s : State) : Outcome State Fault Refusal := .next (s.slotCheck modes fault)
/-- CLOCK_GOOD (R51). -/
def execClockGood (d : Fin 256) (s : State) : Outcome State Fault Refusal := .next (s.clockGood d.val)
/-- DRAM_BRINGUP_COMPLETE (R79). -/
def execDramBringupComplete (ch : Duo) (how : Nat) (s : State) : Outcome State Fault Refusal := .next (s.bringUp ch how)
/-- ASSET_COPY_COMPLETE (R140). -/
def execAssetCopyComplete (s : State) : Outcome State Fault Refusal := .next s.assetsLoaded
/-- BOOT_ROLL_CALL (R288). -/
def execBootRollCall (found : List (List Nat)) (s : State) : Outcome State Fault Refusal := .next (s.bootRoll found)
/-- BOOT_LIGHT_START (R80). -/
def execBootLightStart (n : Chan) (s : State) : Outcome State Fault Refusal := .next (s.bootLight n)
/-- BOOT_COMPLETE (R81). -/
def execBootComplete (s : State) : Outcome State Fault Refusal := .next s.bootEnd

end Sys2Proof.Machine
end

