-- ==== Sys2Proof/Machine/Test.lean ====
section
/-! DEFINITION. Test access: the TAP and its instructions (R426–R436) and the built-in self-tests (R437, R438).  A TAP row
stands for the instruction's entry into the instruction register and one scan of the data register it selects. -/

namespace Sys2Proof.Machine

open Host (Outcome)

namespace State


/-- The access level: the least number of JTAG_LOCK above which an instruction is refused is 1 for field instructions and 0
for factory ones (R427). -/
def tapLevel (s : State) : Nat := s.rd F.RST_OPT_JTAG_LOCK

/-- The capture value of the instruction register (R428). -/
def irCapture (s : State) : Nat :=
  1 + 4 * b2n (s.on F.TST_STATUS_SCAN) + 8 * b2n s.tap.refused + 16 * (s.tapLevel % 4)

/-- An instruction that is served takes force; the pins are under functional control unless it drives them. -/
def tapSelect (s : State) (ir drive : Nat) : State :=
  s.modTap fun t => { t with ir := ir, irCap := s.irCapture, refused := false, drive := drive }

/-- A refused instruction is executed as BYPASS and sets the refused flags; no event (R427, R430). -/
def tapRefuse (s : State) : State :=
  (s.modTap fun t => { t with ir := 0xFF, irCap := s.irCapture, refused := true, drive := 0, shift := 0 }).wr F.TST_STATUS_REFUSED 1

/-- The TAP runs while VAON and VDDIO5 are good (R426). -/
def tapOn (s : State) : Bool := s.aon.vaonGood

/-- A public instruction that never disturbs a pin: it captures a value into the register it selects. -/
def tapPublic (s : State) (ir shift : Nat) : State :=
  if s.tapOn then (s.tapSelect ir 0).modTap fun t => { t with shift := shift } else s

/-- An intrusive instruction acts only in SCAN-TEST (R430). -/
def tapIntrusive (s : State) (ir drive : Nat) : State :=
  if !s.tapOn then s else if s.on F.TST_STATUS_SCAN then s.tapSelect ir drive else s.tapRefuse

/-- An instruction that selects the bypass register captures 0, if the TAP has run it. -/
def bypassed (t s : State) : State := if s.tapOn then t.modTap fun k => { k with shift := 0 } else t

/-- A field instruction is served at JTAG_LOCK 0 or 1 (R427). -/
def tapField (s : State) (ir : Nat) (f : State → State) : State :=
  if !s.tapOn then s else if s.tapLevel ≤ 1 then f (s.tapSelect ir 0) else s.tapRefuse

/-- JTAG reset (R426, R432): the test logic only. -/
def jtagReset (s : State) : State :=
  if s.tapOn then
    (s.modTap fun t => { Tap.reset with bist := t.bist }).wr F.RST_CAUSE_JTAG 1
  else s

/-- SCAN-TEST from SET_MODE: the processor halts (R433 step 5). -/
def scanHalt (s : State) : State :=
  if s.mode = modeSCANTEST ∧ s.rst.cpu = .running then
    (s.modRst fun r => { r with cpu := .stopped }).wr F.MBX_HSTAT_READY 0
  else s

/-- EVR_READ: the record of the slot is captured, the slot increments, Update-DR takes a slot (R435). -/
def tapEvrRead (s : State) (sel : Option Nat) : State :=
  s.tapField 0x10 fun s => s.modTap fun t =>
    { t with shift := leNat (s.slotBytes t.slot) + t.slot * 2 ^ 128,
             slot := match sel with
               | some k => k % 2048
               | none => (t.slot + 1) % 2048 }

/-- EVR_CLEAR: Update-DR writes the key; with key 0x9480 the clear starts in Run-Test/Idle (R436). -/
def tapEvrClear (s : State) (key : Nat) : State :=
  s.tapField 0x11 fun s =>
    if key % 65536 = 0x9480 then (s.modTap fun t => { t with key := 0 }).clearRequest 3
    else s.modTap fun t => { t with key := key % 65536 }

/-! ### Self-tests (R437, R438) -/

/-- The Hall Pass block of the unit a kind tests; none for the die sensors, which no unit holds. -/
def bistBlock (kind : Nat) (n : Fin 4) : Option Nat :=
  if kind = 0 ∨ kind = 2 then some (0x10 + 16 * n.val + 13)
  else if kind = 1 then some (0x10 + 16 * n.val + 9)
  else if kind = 3 then some (0x10 + 16 * n.val + 8)
  else none

/-- The precondition that a unit meets in SERVICE. -/
def bistReady (s : State) (kind : Nat) (n : Fin 4) : Bool :=
  if kind = 0 then !s.on (F.LEC_STATUS_RUNNING n) && s.tutorIdle n
  else if kind = 1 then !s.on (F.CHN_CTRL_EN n)
  else if kind = 2 then !s.on (F.BPF_SRCSEL_PATTERN n)
  else if kind = 3 then s.rd (F.LNK_STATUS_STATE n) == 0
  else true

/-- The report of a result: 1 pass, 2 fail, 3 refused. -/
def bistEvent (s : State) (kind unit result sev : Nat) : State := s.logEvent 0x7F02 sev kind (unit + 256 * result)

/-- The blocks that a Hall Pass must cover for a drill (R398): EVR and the unit. -/
def drillBlocks (kind unit param : Nat) : List Nat :=
  4 :: (match kind with
    | 1 | 2 | 3 | 4 => [9 + unit % 2]
    | 5 => [0x18 + 16 * unit] | 6 => [0x19 + 16 * unit] | 7 => [0x10 + 16 * unit] | 8 => [0x1A + 16 * unit]
    | 9 => [param % 256] | _ => [])

/-- The fault of a drill (R399).  The DRAM kinds act on the first burst of the training area of rank 0 at once; the others
wait for the next BLOCK packet, returned STATUS frame, frame or latch. -/
def drillFault (s : State) (kind unit param : Nat) : State :=
  let ch := duo unit
  let a := s.trainAddr ch 0 0
  match kind with
  | 0 => s.drillDone.logEvent 0x7F12 (param % 8) 0 0
  | 1 =>
    let s := (s.dramFree a 64).drillDone.setPoison a false
    if s.on (F.DMC_CFG_ECC_EN ch) then (s.eccCorrected ch a (Config.slotPick s.free % 64)).nextFree else s
  | 2 =>
    let s := (s.dramFree a 64).drillDone.setPoison a true
    if s.on (F.DMC_CFG_ECC_EN ch) then ((s.incSat (F.DMC_ECC_CNT_UNCORR ch)).eccPoison ch a (Config.slotPick s.free % 8)).nextFree else s
  | 3 => (s.drillDone.issueCmd ch ⟨2, 0, a⟩).alert ch 24
  | 4 => ((s.dramFree a 64).drillDone.issueCmd ch ⟨3, 0, a⟩).alert ch 8
  | 5 => s.drillDone.modLink (chan unit) fun l => { l with spoil := true }
  | 9 => s.drillDone.request 0x7F20 1 (param % 256) 0 (param % 256)
  | _ => s

/-- EVR_DRILL_GO.GO (R398–R400); without the Hall Passes it needs, GO is refused as in another mode (log entry 129). -/
def drillGo (s : State) : State :=
  let kind := s.rd F.EVR_DRILL_CFG_KIND
  let unit := s.rd F.EVR_DRILL_CFG_UNIT
  let param := s.rd F.EVR_DRILL_CFG_PARAM
  if s.mode != modeSERVICE || s.evr.drill.isSome || !(drillBlocks kind unit param).all s.granted then s.logEvent 0x7F11 1 kind 3
  else
    let s := s.logEvent 0x7F10 0 kind unit
    if !s.drillReady kind unit param then s.drillEnd kind 0 false
    else
      let d : Drill := ⟨kind, unit, drillCodes kind unit, if kind = 6 then some 1 else none, s.tb.toNat, param⟩
      let s := s.modEvr fun e => { e with drill := some d, drillSbe := some kind }
      ((s.wr F.EVR_DRILL_STATUS_STATE 1).wr F.EVR_DRILL_STATUS_CODE 0).drillFault kind unit param

/-- A start of the self-test that TST_BIST_CFG names. -/
def bistStart (s : State) (allowed : Bool) : State :=
  let kind := s.rd F.TST_BIST_CFG_KIND
  let unit := chan (s.rd F.TST_BIST_CFG_UNIT)
  let ok := allowed && s.tap.bist.isNone && decide (kind ≤ 4) && (s.mode != modeSERVICE || s.bistReady kind unit)
  if ok then
    let s := ((s.wr F.TST_BIST_STATUS_STATE 1).wr F.TST_BIST_STATUS_REFUSED 0).wr F.TST_BIST_STATUS_KIND kind
    let s := (s.wr F.TST_BIST_STATUS_ERRORS 0).put R.TST_BIST_FAIL 0
    s.modTap fun t => { t with bist := some (kind, unit.val) }
  else (s.wr F.TST_BIST_STATUS_REFUSED 1).bistEvent kind unit.val 3 1

/-- A write of TST_BIST_GO: in SERVICE, under grants that cover TST and the unit. -/
def bistGo (s : State) (v : Nat) : State :=
  if bit v 0 then
    s.bistStart (s.mode == modeSERVICE && s.granted 14 &&
      match bistBlock (s.rd F.TST_BIST_CFG_KIND) (chan (s.rd F.TST_BIST_CFG_UNIT)) with
      | some b => s.granted b
      | none => true)
  else s

/-- BIST_CTRL: Update-DR writes TST_BIST_CFG; GO starts the test. -/
def tapBistCtrl (s : State) (v : Nat) : State :=
  s.tapField 0x12 fun s =>
    let s := (s.wr F.TST_BIST_CFG_KIND (bits v 0 3)).wr F.TST_BIST_CFG_UNIT (bits v 8 2)
    let s := s.modTap fun t => { t with shift := v }
    if bit v 31 then s.bistStart true else s

/-- Every pair of the four die sensors agrees within 3 °C (R437). -/
def sensorsAgree (s : State) : Bool :=
  let t := fun (k : Nat) => signed (s.rd (F.CAL_TEMPs_T k)) 16
  (List.range 4).all fun i => (List.range 4).all fun j => decide ((t i - t j).natAbs ≤ 48)

/-- A self-test ends with a number of errors; a memory kind keeps its first failing word.  SENSORS passes with the readings of
the sensors. -/
def bistComplete (s : State) (errs word mem : Nat) : State :=
  match s.tap.bist with
  | none => s
  | some (kind, unit) =>
    let s := (s.modTap fun t => { t with bist := none }).wr F.TST_BIST_STATUS_ERRORS (satN 16 errs)
    if errs = 0 ∧ (kind ≠ 4 ∨ s.sensorsAgree = true) then (s.wr F.TST_BIST_STATUS_STATE 2).bistEvent kind unit 1 1
    else
      let s := s.wr F.TST_BIST_STATUS_STATE 3
      let s := if kind ≤ 2 then s.wr F.TST_BIST_FAIL_WORD word else s
      let s := if kind = 0 then s.wr F.TST_BIST_FAIL_MEM mem else s
      s.bistEvent kind unit 2 4

end State

/-- JTAG_RESET (R426, R432). -/
def execJtagReset (s : State) : Outcome State Fault Refusal := .next s.jtagReset

/-- SCANTEST_HALT (R433). -/
def execScantestHalt (s : State) : Outcome State Fault Refusal := .next s.scanHalt

/-- TAP_IDCODE (R429). -/
def execTapIdcode (s : State) : Outcome State Fault Refusal := .next (s.tapPublic 0x03 0x294801CB)

/-- TAP_EXTEST (R430). -/
def execTapExtest (s : State) : Outcome State Fault Refusal := .next (s.tapIntrusive 0x00 1)

/-- TAP_SAMPLE (R430): the sampled pin states are captured. -/
def execTapSample (pins : Nat) (s : State) : Outcome State Fault Refusal := .next (s.tapPublic 0x01 (pins % 2 ^ 987))

/-- TAP_PRELOAD (R430): Update-DR loads the boundary cells. -/
def execTapPreload (cells : Nat) (s : State) : Outcome State Fault Refusal :=
  .next (if s.tapOn then (s.tapSelect 0x02 0).modTap fun t => { t with cells := cells % 2 ^ 987 } else s)

/-- TAP_CLAMP (R430). -/
def execTapClamp (s : State) : Outcome State Fault Refusal := .next ((s.tapIntrusive 0x04 2).bypassed s)

/-- TAP_HIGHZ (R430). -/
def execTapHighz (s : State) : Outcome State Fault Refusal := .next ((s.tapIntrusive 0x05 3).bypassed s)

/-- TAP_BYPASS (R428): BYPASS and every code that is not listed. -/
def execTapBypass (s : State) : Outcome State Fault Refusal := .next (s.tapPublic 0xFF 0)

/-- TAP_FACTORY (R427, R428): above the factory level a factory instruction is executed as BYPASS; at the factory level the
manual gives it no effect, and the model stops. -/
def execTapFactory (code : Nat) (s : State) : Outcome State Fault Refusal :=
  if !s.tapOn then .next s
  else if code < 0x20 ∨ 0x40 ≤ code then .next (s.tapPublic 0xFF 0)
  else if s.tapLevel = 0 then .refused (.factoryInstruction code)
  else .next s.tapRefuse

/-- TAP_EVR_READ (R435). -/
def execTapEvrRead (sel : Option Nat) (s : State) : Outcome State Fault Refusal := .next (s.tapEvrRead sel)

/-- TAP_EVR_CLEAR (R436). -/
def execTapEvrClear (key : Nat) (s : State) : Outcome State Fault Refusal := .next (s.tapEvrClear key)

/-- TAP_BIST_CTRL (R437). -/
def execTapBistCtrl (v : Word) (s : State) : Outcome State Fault Refusal := .next (if s.sysStill 8 then s else (s.tapBistCtrl v.toNat))

/-- TAP_BIST_RESULT (R428): TST_BIST_STATUS, then TST_BIST_FAIL. -/
def execTapBistResult (s : State) : Outcome State Fault Refusal :=
  .next (s.tapField 0x13 fun s => s.modTap fun t =>
    { t with shift := s.get R.TST_BIST_STATUS + s.get R.TST_BIST_FAIL * 2 ^ 32 })

/-- BIST_GO (R437). -/
def execBistGo (v : Word) (s : State) : Outcome State Fault Refusal := .next (if s.sysStill 8 then s else (s.bistGo v.toNat))

/-- BIST_COMPLETE (R438). -/
def execBistComplete (errs : Nat) (word : Nat) (mem : Nat) (s : State) : Outcome State Fault Refusal :=
  .next (if s.sysStill 8 then s else (s.bistComplete errs word mem))

/-- DRILL_GO (R398): a write of EVR_DRILL_GO. -/
def execDrillGo (v : Word) (s : State) : Outcome State Fault Refusal :=
  .next (if bit v.toNat 0 then s.drillGo else s)

end Sys2Proof.Machine
end

