-- ==== Sys2Proof/Machine/Bus.lean ====
section
/-! DEFINITION. Word accesses over the whole internal map, as REG_READ, REG_WRITE, MEM_READ, MEM_WRITE, the direct window
and REGISTER_WRITE make them: each register with the behaviour that the manual gives a write or read of it (R9, R10, R13,
R440).  The registers that only the control processor writes (R59, R82) are kept from the host by `hostDenied`. -/

namespace Sys2Proof.Machine

open Host (Outcome)

/-- Registers that REG_WRITE and REG_MODIFY refuse and the direct window leaves alone: SYS_MODE_CTRL (R59), RST_DEVICE and
RST_WDT_KICK (R82). -/
def cpuOnly (a : Nat) : Bool := a == R.SYS_MODE_CTRL || a == R.RST_DEVICE || a == R.RST_WDT_KICK

/-- The Report Card registers, which only firmware writes (R349). -/
def cardReg (a : Nat) : Bool :=
  (List.range 14).any fun i => a == R.CAL_Ii_CARD i || a == R.CAL_Ii_QUAL i || a == R.CAL_Ii_TAP i || a == R.CAL_Ii_TIME i

/-- Does an address lie in a range of R12 (R13)? -/
def inMap (a : Nat) : Bool := (blockOf a).isSome

namespace State

/-- Writes of SYS, RST and EVR registers with behaviour of their own. -/
def sysWrite (s : State) (a v : Nat) : State :=
  if a = R.SYS_BELL then s.bellWrite v
  else if a = R.SYS_FLOCK then s.flWrite v
  else if R.SYS_CLKENk 0 ≤ a ∧ a < R.SYS_CLKENk 8 then s.clkWrite ((a - R.SYS_CLKENk 0) / 4) v
  else s.plainWrite a v
def rstWrite (s : State) (a v : Nat) : State :=
  if a = R.RST_CAUSE then
    let s := s.plainWrite a v
    if bit v 0 then s.wr F.RST_CAUSE_RESTARTS 0 else s
  else if R.RST_BLK_CTRLk 0 ≤ a ∧ a ≤ R.RST_BLK_CTRL4 then s.softReset ((a - R.RST_BLK_CTRLk 0) / 4) v
  else if a = R.RST_WDT_CFG then s.watchdogArm v
  else s.plainWrite a v
def evrWrite (s : State) (a v : Nat) : State :=
  if a = R.EVR_CLEAR then (if bit v 0 then s.clearRequest 0 else s)
  else if a = R.EVR_FAULT then (if bit v 0 then s.faultRelease else s)
  else if a = R.EVR_DRILL_GO then (if bit v 0 then s.drillGo else s)
  else s.plainWrite a v
def mbxWrite (s : State) (a v : Nat) : State :=
  if a = R.MBX_DOORBELL then s.doorbell v
  else if a = R.MBX_OUTBOX_ACK then s.outboxAck v
  else if a = R.MBX_WINDOW_BASE ∨ a = R.MBX_WINDOW_CFG then
    (if !s.liveGrants.isEmpty then s.plainWrite a v else s.wr F.MBX_HSTAT_LAST_ERR 1)
  else s.plainWrite a v

/-- Writes of a CSI-2 receiver: EN ends a deskew result, a map entry starts or stops (R150, R154). -/
def csiWrite (s : State) (rx : Fin 2) (a v : Nat) : State :=
  if a = R.CSI_CTRL rx then
    let was := s.on (F.CSI_CTRL_EN rx)
    let s := s.plainWrite a v
    if bit v 0 && !was then s.wr (F.CSI_STATUS_DESKEWED rx) 0 else s
  else
    match (List.range 16).find? fun k => a == R.CSI_VCv_CFG rx k with
    | some k => s.csiCfgWrite rx k v
    | none => s.plainWrite a v

/-- A write of LNK_CTRL: EN powers and negotiates the link or takes it to OFF, LOOPBACK asks the node (R279, R281). -/
def lnkCtrlWrite (s : State) (n : Fin 4) (v : Nat) : State :=
  let was := s.on (F.LNK_CTRL_EN n)
  let loop := s.on (F.LNK_CTRL_LOOPBACK n)
  let s := s.plainWrite (R.LNK_CTRL n) v
  let s := if bit v 2 != loop && s.linkUp n then s.mgmt n 9 (leBytes 4 (b2n (bit v 2))) else s
  if bit v 0 && !was then s.negotiate n 0 none
  else if !bit v 0 && was then s.linkOff n true
  else s

/-- Writes of the chain, control-engine and trace sub-blocks. -/
def lecWriteHi (s : State) (n : Fin 4) (a v : Nat) : State :=
  if a = R.LNK_CTRL n then s.lnkCtrlWrite n v
  else if a = R.CHN_CTRL n then s.chnCtrlWrite n v
  else if a = R.CHN_MEM_DATA n then s.chnMemWrite n v
  else if R.CHN_GTGTg n 0 ≤ a ∧ a < R.CHN_GTGTg n 32 then (s.plainWrite a v).levelNew n ((a - R.CHN_GTGTg n 0) / 4)
  else if a = R.TUT_TRC_CFG n then s.trcCfgWrite n v
  else if a = R.TUT_INJ_CFG n then s.injCfgWrite n v
  else if R.TUT_INJ_TABLEe n 0 ≤ a ∧ a < R.TUT_INJ_TABLEe n 1024 then s.injTableWrite n ((a - R.TUT_INJ_TABLEe n 0) / 4) v
  else
    match chans.find? fun c => a == R.TUT_CTXc_CTRL n c.val with
    | some c => s.ctxCtrlWrite n c v
    | none =>
      match chans.find? fun c => decide (R.TUT_CTXc_ZFWi n c.val 0 ≤ a ∧ a < R.TUT_CTXc_ZFWi n c.val 8) with
      | some c => s.zfwWrite n c ((a - R.TUT_CTXc_ZFWi n c.val 0) / 4) v
      | none =>
        let s := s.plainWrite a v
        match chans.find? fun c => decide (R.TUT_CTXc_ROUTEj n c.val 0 ≤ a ∧ a ≤ R.TUT_CTXc_ROUTEj n c.val 3) with
        | some c => s.alignUpdate n c
        | none => s

/-- A hard-mask record from MSK_INJ0–3 (R237). -/
def injMask (s : State) (n : Fin 4) : State :=
  s.maskSubmit (leBytes 4 (s.get (R.MSK_INJ n 0)) ++ leBytes 4 (s.get (R.MSK_INJ n 1)) ++
    leBytes 4 (s.get (R.MSK_INJ n 2)) ++ leBytes 4 (s.get (R.MSK_INJ n 3))) 0x2C00 false 1

/-- Writes of a channel window. -/
def lecWrite (s : State) (n : Fin 4) (a v : Nat) : State :=
  let o := a - lecBase n
  if a = R.LEC_CTRL n then s.runWrite n v
  else if a = R.LEC_COMMIT n then (if bit v 0 then s.commitReq n else s)
  else if 0x10000 ≤ o then s.lecWriteHi n a v
  else if a = R.CMP_LUT_DATA n then s.lutWrite n v
  else if a = R.WRP_MESH_DATA n then s.meshWrite n v
  else if 0x2400 ≤ o ∧ o < 0x3800 then s.coefWrite n (o - 0x2400) v
  else if 0xA400 ≤ o ∧ o < 0xB000 then s.ttWrite n (o - 0xA400) v
  else if a = R.MSK_INJ_GO n then (if bit v 0 then s.injMask n else s)
  else if a = R.MSK_CNT n then
    let s := s.plainWrite a v
    if bit v 31 then s.wr (F.MSK_ACK_TIME_MAX n) 0 else s
  else s.plainWrite a v

def dmcWrite (s : State) (ch : Fin 2) (a v : Nat) : State :=
  if a = R.DMC_CTRL ch then s.dmcCtrlWrite ch v
  else if a = R.PHY_PAT_GO ch then s.patGo ch v
  else s.plainWrite a v

/-- The block of an identifier of R12 is held by a soft reset (R68): it takes no write. -/
def heldId (s : State) (id : Nat) : Bool :=
  if 0x10 ≤ id then s.subHeld (chan ((id - 16) / 16)) (id % 16)
  else match id with
  | 7 | 8 | 9 | 10 | 11 | 12 => s.sysHeld (id - 7)
  | 13 => s.sysHeld 6
  | 5 => s.sysHeld 7
  | 14 => s.sysHeld 8
  | _ => false

/-- A word written at an internal address. -/
def busWrite (s : State) (a v : Nat) : State :=
  match blockOf a with
  | none => s
  | some (id, _) =>
    if s.heldId id then s
    else if id = 15 then s.portWrite 10 a (leBytes 4 v)
    else if isErr a then s.errWrite a v
    else if id = 1 then s.sysWrite a v
    else if id = 2 then s.rstWrite a v
    else if id = 4 then (if a < recBase then s.evrWrite a v else s)
    else if id = 6 then s.mbxWrite a v
    else if id = 7 ∨ id = 8 then s.csiWrite (duo (id - 7)) a v
    else if id = 9 ∨ id = 10 then s.dmcWrite (duo (id - 9)) a v
    else if id = 14 then (if a = R.TST_BIST_GO then s.bistGo v else s.plainWrite a v)
    else if 0x10 ≤ id then s.lecWrite (chan ((id - 16) / 16)) a v
    else s.plainWrite a v

/-! ### Reads -/

/-- Reading AON_TB_LO latches AON_TB_HI (R48). -/
def tbRead (s : State) : State × Nat :=
  let ts := s.tb.toNat * 1024 + s.subNow
  let ok := s.aon.subOk
  let s := s.stamped
  (s.put R.AON_TB_HI (ts / 2 ^ 32 % 2 ^ 24 + b2n ok * 2 ^ 24), ts % 2 ^ 32)

/-- PHY_STATUS (R378): bit 0 the clock-good of the PHY's DPLL domains, bit 1 the pad retention latch; the places of the two
are the model's (log entry 31). -/
def phyStatus (s : State) (ch : Fin 2) : Nat :=
  b2n ((List.range 4).all fun i => s.clkGood (212 + 8 * ch.val + i)) + 2 * b2n (s.aon.retain.get ch)

/-- The word read at an internal address, the state after a read that has an effect of its own, and whether the data may
be used: poisoned DRAM data may not (R367), DRAM beyond the population is refused (R14, R354). -/
def busRead (s : State) (a : Nat) : State × Nat × Bool :=
  match blockOf a with
  | none => (s, 0, true)
  | some (id, _) =>
    if id = 15 then
      if !s.dramHit a then (s.dramOutside 10 a, 0, false)
      else (s, leNat (s.dread a 4), !s.poisoned a)
    else if a = R.AON_TB_LO then let r := s.tbRead; (r.1, r.2, true)
    else if a = R.MBX_GRANT_STATUS ∨ a = R.MBX_HSTAT then let s := s.grantStatus; (s, s.plainRead a, true)
    else if a = R.MBX_HID then (s, s.get R.SYS_ID, true)
    else if 0x10 ≤ id then
      let n := chan ((id - 16) / 16)
      if a = R.CMP_LUT_DATA n then
        let e := s.rd (F.CMP_LUT_ADDR_ENTRY n)
        (s.wr (F.CMP_LUT_ADDR_ENTRY n) (e + 1), sget (fun _ => 0) (s.ch n).lut (4096 * s.rd (F.CMP_LUT_ADDR_BANK n) + e), true)
      else if a = R.WRP_MESH_DATA n then
        let e := s.rd (F.WRP_MESH_ADDR_NODE n)
        (s.wr (F.WRP_MESH_ADDR_NODE n) (e + 1),
          if e < 561 then sget (fun _ => 0) (s.ch n).mesh (1024 * s.rd (F.WRP_MESH_ADDR_BANK n) + e) else 0, true)
      else if a = R.CHN_MEM_DATA n then
        let o := s.rd (F.CHN_MEM_ADDR_OFFSET n)
        (s.wr (F.CHN_MEM_ADDR_OFFSET n) (o + 1), if o < 8192 then s.bankVal n (s.rd (F.CHN_MEM_ADDR_BANK n)) o else 0, true)
      else if a = R.SCL_STATUS n then (s, s.rdC (F.SCL_CTRL_COEF_BANK n), true)
      else if a = R.CMP_STATUS n then (s, setBits (s.plainRead a) 0 1 (s.rdC (F.CMP_CTRL_LUT_BANK n)), true)
      else if a = R.WRP_STATUS n then (s, setBits (s.plainRead a) 0 1 (s.rdC (F.WRP_CTRL_MESH_BANK n)), true)
      else match chans.find? fun x => a == R.FETCH_Lx_LIVE n x.val with
        | some x => (s, if s.rdC (F.FETCH_Lx_CFG_SRC n x.val) = 0 then 0 else s.plainRead a, true)
        | none => (s, s.plainRead a, true)
    else if a = R.PHY_STATUS (duo (id - 9)) then (s, s.phyStatus (duo (id - 9)), true)
    else (s, s.plainRead a, true)

end State

/-- REGISTER_WRITE (R440): a write of one register word. -/
def execRegisterWrite (addr : Nat) (v : Word) (s : State) : Outcome State Fault Refusal := .next (s.busWrite addr v.toNat)

/-- ERR_CLEAR (R17): a write to an xxx_ERR register. -/
def execErrClear (addr : Nat) (v : Word) (s : State) : Outcome State Fault Refusal :=
  .next (if State.isErr addr && !(match blockOf addr with | some (id, _) => s.heldId id | none => false) then s.errWrite addr v.toNat
    else s)

end Sys2Proof.Machine
end

