-- ==== Sys2Proof/Machine/Hspi.lean ====
section
/-! DEFINITION. The HSPI target port: transactions, the host window, the direct window and the Fast Lane (R84–R88,
R106–R109).  A row stands for one whole transaction; `partBits` are the bits clocked after its last whole byte, and `late`
names the direct-window words, counted from 0, that miss their deadline (R107). -/

namespace Sys2Proof.Machine

open Host (Outcome)

/-- The opcodes of R85. -/
def hspiOpcodes : List Nat := [0x03, 0x0B, 0x6B, 0x02, 0x32, 0x05, 0xA5]

namespace State

/-- A malformed transaction (R86). -/
def malformed (s : State) (op : Nat) : State :=
  ((s.wr F.MBX_HSTAT_LAST_ERR 1).incSat F.MBX_HSPI_ERR_CNT_COUNT).logEvent 0x0301 1 op 0

/-- The transaction ended in the middle of a byte (R86). -/
def cutShort (s : State) (op partBits : Nat) : State := if partBits % 8 != 0 then s.malformed op else s

/-- The internal address that a direct-window host address reaches (R106). -/
def windowAddr (s : State) (h : Nat) : Nat :=
  s.rd F.MBX_WINDOW_BASE_BASE * 2 ^ 24 +
    (if s.on F.MBX_WINDOW_CFG_LOW && decide (h < 0x200000) then h - 0x100000 else h)

/-- A live grant covers the word (R107); a grant for ALL covers the whole map. -/
def wordLive (s : State) (a : Nat) : Bool :=
  match blockOf a with
  | some (id, _) => s.granted id
  | none => s.granted 0

/-- A word of the transaction was not live: LAST_ERR, and event 0x0303 once. -/
def notLive (s : State) (dead : Bool) : State :=
  if dead then (s.wr F.MBX_HSTAT_LAST_ERR 1).errEvent mbxBase 0x0303 2 0 0 else s

/-! ### Reads -/

/-- A word of the direct window (R107): the state, the word, and whether it was not live. -/
def windowRead (s : State) (h : Nat) (late : Bool) : State × Nat × Bool :=
  let a := s.windowAddr h
  if s.wordLive a then
    let r := s.busRead a
    if r.2.2 && !late then (r.1, r.2.1, false) else (r.1.wr F.MBX_HSTAT_LAST_ERR 1, 0xFFFFFFFF, false)
  else (s, 0, true)

/-- A byte of the host window below the direct window (R88). -/
def hostByte (s : State) (a : Nat) : Byte :=
  if a < 0x2800 ∨ (0x2A00 ≤ a ∧ a < 0x2C00) then sget memReset s.mbx.host a
  else if 0x2E00 ≤ a ∧ a < 0x3000 then
    (leBytes 4 (s.get R.MBX_FL_ACCEPT) ++ leBytes 4 (s.get R.MBX_FL_DROP) ++ leBytes 4 (s.get R.MBX_FL_LAST) ++
      leBytes 4 0 ++ s.mbx.flLast).getD (a - 0x2E00) 0
  else 0

/-- One byte of a read at offset i of a transaction that began at `addr`: the state, the byte, and the word in progress. A
word is read when its first byte of the transaction is. -/
def readByte (s : State) (addr i word : Nat) (late : List Nat) : State × Byte × Nat × Bool :=
  let a := (addr + i) % 2 ^ 24
  let fresh := i == 0 || a % 4 == 0
  let pick := fun (w : Nat) => BitVec.ofNat 8 (w / 2 ^ (8 * (a % 4)))
  if a < 0x1000 then
    if fresh then
      let r := s.busRead (mbxBase + a / 4 * 4)
      (r.1, pick r.2.1, r.2.1, false)
    else (s, pick word, word, false)
  else if a < 0x100000 then (s, s.hostByte a, 0, false)
  else if fresh then
    let r := s.windowRead (a / 4 * 4) (late.contains ((addr % 4 + i) / 4))
    (r.1, pick r.2.1, r.2.1, r.2.2)
  else (s, pick word, word, false)

/-- The bytes of a read transaction: i the offset of the next byte, `word` the word in progress, `dead` a word not live. -/
def readBytes (addr : Nat) (late : List Nat) : Nat → Nat → State → Nat → Bool → List Byte → State × List Byte × Bool
  | 0, _, s, _, dead, out => (s, out.reverse, dead)
  | k + 1, i, s, word, dead, out =>
    let r := s.readByte addr i word late
    readBytes addr late k (i + 1) r.1 r.2.2.1 (dead || r.2.2.2) (r.2.1 :: out)

/-- What the device drives in the data phase. -/
def drive (s : State) (bs : List Byte) : State := s.modMbx fun m => { m with out := bs }

/-- A read transaction that is served. -/
def readServed (s : State) (addr n : Nat) (late : List Nat) : State :=
  let r := readBytes addr late n 0 s 0 false []
  (r.1.notLive r.2.2).drive r.2.1

/-- A read: nothing is driven where HSPI is not served or the opcode is not honoured (R84, R85). -/
def hspiRead (s : State) (op addr n : Nat) (late : List Nat) (partBits : Nat) : State :=
  if !s.hspiServed then s.drive []
  else if op = 0x6B ∧ !s.on F.MBX_HCFG_QUAD then (s.malformed op).drive []
  else if op = 0x03 ∧ 0x100000 ≤ addr % 2 ^ 24 then (s.malformed op).drive (List.replicate n 0xFF)
  else if op = 0x03 ∧ 0x100000 - addr % 2 ^ 24 < n then
    let r := s.readServed addr (0x100000 - addr % 2 ^ 24) late
    (r.malformed op).drive (r.mbx.out ++ List.replicate (n - (0x100000 - addr % 2 ^ 24)) 0xFF)
  else (s.readServed addr n late).cutShort op partBits

/-- Read status: MBX_HSTAT bytes 0–3, repeated (R85). -/
def readStatus (s : State) (n partBits : Nat) : State :=
  if s.hspiServed then
    let s := s.grantStatus
    (s.drive ((List.range n).map fun i => BitVec.ofNat 8 (s.get R.MBX_HSTAT / 2 ^ (8 * (i % 4))))).cutShort 0x05 partBits
  else s.drive []

/-! ### Writes -/

/-- A word of the direct window is written (R107); whether it was not live. -/
def windowWrite (s : State) (h v : Nat) : State × Bool :=
  let a := s.windowAddr h
  if !s.wordLive a then (s, true)
  else if cpuOnly a then (s, false)
  else (s.busWrite a v, false)

/-- The effect of byte i of a write transaction, whose address wraps after 0xFF_FFFF (log entry 106): the state, whether a word was not live, the busy inboxes written. -/
def writeByte (addr : Nat) (bs : List Byte) (p : State × Bool × Nat) (i : Nat) : State × Bool × Nat :=
  let a := (addr + i) % 2 ^ 24
  let s := p.1
  let whole := a % 4 == 0 && decide (i + 4 ≤ bs.length)
  if a < 0x1000 then (if whole then (s.busWrite (mbxBase + a) (le32 bs i), p.2) else p)
  else if a < 0x2800 then
    let mb := (a - 0x1000) / 0x400
    if 0x200 ≤ a % 0x400 then p
    else if s.isBusy mb then (s, p.2.1, setBit p.2.2 mb true)
    else (s.hostWrite a [bs.getD i 0], p.2)
  else if a < 0x100000 then p
  else if whole then
    let r := s.windowWrite a (le32 bs i)
    (r.1, p.2.1 || r.2, p.2.2)
  else p

/-- The offset of the first byte that falls on the MB7 inbox (R87). -/
def mb7At (addr : Nat) (k : Nat) : Option Nat :=
  (List.range k).find? fun i => decide (0x2C00 ≤ (addr + i) % 2 ^ 24 ∧ (addr + i) % 2 ^ 24 < 0x2E00)

/-- A write transaction: whole bytes act by region; ignored accesses are reported (R86, R87, R90, R107). -/
def hspiWrite (s : State) (op addr : Nat) (bytes : List Byte) (partBits : Nat) : State :=
  if !s.hspiServed then s
  else if !hspiOpcodes.contains op then s.malformed op
  else if op ≠ 0x02 ∧ op ≠ 0x32 then s
  else if op = 0x32 ∧ !s.on F.MBX_HCFG_QUAD then s.malformed op
  else
    let stop := mb7At addr bytes.length
    let bs := bytes.take (stop.getD bytes.length)
    let r := (List.range bs.length).foldl (writeByte addr bs) (s, false, 0)
    let s := r.1.notLive r.2.1
    let s := (List.range 6).foldl (fun (s : State) mb => if bit r.2.2 mb then s.ignoredMb mb 0 else s) s
    if stop.isSome then s.malformed op else s.cutShort op partBits

/-- A Fast Lane transaction (R108, R109). -/
def fastLane (s : State) (addr : Nat) (bytes : List Byte) (partBits : Nat) : State :=
  if !s.hspiServed || s.stood 245 245 then s
  else if !s.on F.MBX_HCFG_QUAD then s.malformed 0xA5
  else (s.maskSubmit bytes (addr % 2 ^ 24) true 0).cutShort 0xA5 partBits

end State

/-- HSPI_READ (R85). -/
def execHspiRead (addr n : Nat) (s : State) (partBits : Nat := 0) : Outcome State Fault Refusal := .next (s.hspiRead 0x03 addr n [] partBits)

/-- HSPI_FAST_READ (R85, R107). -/
def execHspiFastRead (addr n : Nat) (late : List Nat) (s : State) (partBits : Nat := 0) : Outcome State Fault Refusal :=
  .next (s.hspiRead 0x0B addr n late partBits)

/-- HSPI_QUAD_READ (R85, R107). -/
def execHspiQuadRead (addr n : Nat) (late : List Nat) (s : State) (partBits : Nat := 0) : Outcome State Fault Refusal :=
  .next (s.hspiRead 0x6B addr n late partBits)

/-- HSPI_WRITE (R87): a transaction with opcode 0x02, or with an opcode that R85 does not list (R86). -/
def execHspiWrite (op : Byte) (addr : Nat) (bytes : List Byte) (partBits : Nat) (s : State) : Outcome State Fault Refusal :=
  .next (if op = 0x32 then s else s.hspiWrite op.toNat addr bytes partBits)

/-- HSPI_QUAD_WRITE (R87). -/
def execHspiQuadWrite (addr : Nat) (bytes : List Byte) (partBits : Nat) (s : State) : Outcome State Fault Refusal :=
  .next (s.hspiWrite 0x32 addr bytes partBits)

/-- HSPI_READ_STATUS (R85). -/
def execHspiReadStatus (n : Nat) (s : State) (partBits : Nat := 0) : Outcome State Fault Refusal := .next (s.readStatus n partBits)

/-- FAST_LANE_WRITE (R109). -/
def execFastLaneWrite (addr : Nat) (bytes : List Byte) (s : State) (partBits : Nat := 0) : Outcome State Fault Refusal :=
  .next (s.fastLane addr bytes partBits)

end Sys2Proof.Machine
end

