-- ==== Sys2Proof/Machine/Staging.lean ====
section
/-! DEFINITION. The staging commands, COMMIT and SNAPSHOT (R113, R121–R128, R131, R132). -/

namespace Sys2Proof.Machine

open Host (Outcome)

/-- Bytes i to i + k − 1 are 0, as reserved bytes must be (R110). -/
def zeroAt (pl : List Byte) (i k : Nat) : Bool := (slice pl i k).all (· == 0)

/-- A channel or port mask names at least one of four units and nothing else (R110). -/
def maskOk (m : Nat) : Bool := decide (0 < m ∧ m < 16)

/-- Bytes of a list replaced from index i. -/
def patch (bs : List Byte) (i : Nat) (new : List Byte) : List Byte := bs.take i ++ new ++ bs.drop (i + new.length)

namespace Stage

/-- SET_LAYER bytes of one layer replaced. -/
def setLay (m : Stage) (n x : Fin 4) (bs : List Byte) : Stage :=
  { m with layers := m.layers.set n ((m.layers.get n).set x bs) }

/-- The same change for every channel of a mask. -/
def each (m : Stage) (mask : Nat) (f : Stage → Fin 4 → Stage) : Stage :=
  chans.foldl (fun m n => if bit mask n.val then f m n else m) m

end Stage

namespace State

/-- Change the stage. -/
def restage (s : State) (f : Stage → Stage) : State := s.modFw fun w => { w with stage := f s.fw.stage }

/-- A staged command: nothing but the stage changes. -/
def staged (s : State) (f : Stage → Stage) : Ans := ⟨s.restage f, stOK, 0, []⟩

/-- A COMMIT or SET_LOOP ENABLE names the unit of the self-test in progress (R438). -/
def bistNames (s : State) (mask : Nat) (chains : Bool) : Bool :=
  chans.any fun n => (bit mask n.val && (s.bistOn 0 n || s.bistOn 2 n || s.bistOn 3 n)) || (chains && s.bistOn 1 n)

/-! ### SET_TIMING, SET_LAYER (R121, R122) -/

/-- The ranges of SET_TIMING. -/
def timingOk (pl : List Byte) : Bool :=
  let id := byteAt pl 2
  let cols := le16 pl 4
  let rows := le16 pl 6
  maskOk (byteAt pl 0) && (byteAt pl 1 == 1 || byteAt pl 1 == 3) &&
  (decide (1 ≤ id ∧ id ≤ 5) || id == 0x11 || id == 0x13 || decide (0x80 ≤ id ∧ id ≤ 0x8F)) && decide (byteAt pl 3 ≤ 15) &&
  decide (32 ≤ cols ∧ cols ≤ 3072 ∧ cols % 32 = 0) && decide (8 ≤ rows ∧ rows ≤ 1728 ∧ rows % 8 = 0) &&
  decide (3000 ≤ le16 pl 8 ∧ le16 pl 8 ≤ 24000) && decide (byteAt pl 10 < 16 ∧ bits (byteAt pl 10) 2 2 ≠ 3) && zeroAt pl 11 1

/-- SET_TIMING: the stage, and COMMIT_GUARD at once. -/
def setTiming (s : State) (pl : List Byte) : Ans :=
  if pl.length != 12 then refuse s stBAD_LENGTH 0
  else if !timingOk pl then refuse s stBAD_PARAM 0
  else
    let mask := byteAt pl 0
    let s := s.forMask mask fun s n => s.wr (F.LEC_COMMIT_CFG_COMMIT_GUARD n) (byteAt pl 3)
    s.staged fun m => m.each mask fun m n => { m with timing := m.timing.set n pl }

/-- The ranges of an enabled layer.  The request table gives the source identifier no range: an asset identifier is held to
that of LOAD_ASSET and a virtual channel to 0–15 (DESIGN CHOICE, log entry 119). -/
def layerOk (pl : List Byte) : Bool :=
  let w := fun (i : Nat) => le16 pl (8 + 2 * i)
  let src := byteAt pl 3
  decide (src ≤ 2 ∧ byteAt pl 6 ≤ 6 ∧ byteAt pl 28 ≤ 3) &&
  (if src = 0 then decide (1 ≤ le16 pl 4 ∧ le16 pl 4 ≤ 1023) else decide (le16 pl 4 ≤ 15)) &&
  (!bit (byteAt pl 2) 1 || byteAt pl 7 != 0) &&
  decide (1 ≤ w 0 ∧ w 0 ≤ 8192 ∧ 1 ≤ w 1 ∧ w 1 ≤ 4096) &&
  decide (1 ≤ w 4 ∧ 1 ≤ w 5 ∧ w 2 + w 4 ≤ w 0 ∧ w 3 + w 5 ≤ w 1) &&
  decide (w 6 ≤ 3071 ∧ w 7 ≤ 1727 ∧ 1 ≤ w 8 ∧ w 8 ≤ 3072 ∧ 1 ≤ w 9 ∧ w 9 ≤ 1728)

/-- SET_LAYER: a layer with its enable bit 0 is staged as sent. -/
def setLayer (s : State) (pl : List Byte) : Ans :=
  if pl.length != 32 then refuse s stBAD_LENGTH 0
  else if !decide (byteAt pl 0 < 4 ∧ byteAt pl 1 < 4 ∧ byteAt pl 2 < 8) || (bit (byteAt pl 2) 0 && !layerOk pl) then
    refuse s stBAD_PARAM 0
  else s.staged fun m => m.setLay (chan (byteAt pl 0)) (chan (byteAt pl 1)) pl

/-! ### SET_BEAM (R123, R191) -/

/-- The functions of SET_BEAM. -/
def beamFunction (f : Nat) : Bool := decide (f ≤ 7) || f == 0x10

/-- OFF on one channel. -/
def beamOff (m : Stage) (n : Fin 4) : Stage :=
  let l := m.lay n 0
  let m := if l.isEmpty then m else m.setLay n 0 (patch l 2 (leBytes 1 (byteAt l 2 / 2 * 2)))
  m.setFld (F.CMP_GAIN_GAIN n) 0

/-- A BEAM_PROFILE asset, given its first 128 bytes, on one channel: layer 0 with the asset's image as its whole source,
and the CMP settings it names. -/
def beamProfile (m : Stage) (n : Fin 4) (id gain : Nat) (b : List Byte) : Stage :=
  let size := slice b 68 4
  let lay : List Byte := leBytes 1 n.val ++ [0, 1, 0] ++ leBytes 2 id ++ slice b 66 1 ++ [0] ++ size ++ [0, 0, 0, 0] ++ size ++
    slice b 12 8 ++ slice b 3 1 ++ slice b 10 1 ++ slice b 8 2
  let m := m.setLay n 0 lay
  let m : Stage := { m with lut := m.lut.set n (le16 b 4), omat := m.omat.set n (le16 b 6) }
  let m := (m.setFld (F.CMP_BG01_C0 n) (le16 b 20)).setFld (F.CMP_BG01_C1 n) (le16 b 22)
  (m.setFld (F.CMP_BG2_C2 n) (le16 b 24)).setFld (F.CMP_GAIN_GAIN n) gain

/-- SET_BEAM.  The profile last named for a function is the one stored for it (DESIGN CHOICE, log entry 118). -/
def setBeam (s : State) (pl : List Byte) : Ans :=
  let mask := byteAt pl 0
  let f := byteAt pl 1
  let named := le16 pl 2
  let id := if named = 0 then sget (fun _ => 0) s.fw.stage.beams f else named
  if pl.length != 8 then refuse s stBAD_LENGTH 0
  else if !maskOk mask || !beamFunction f || !zeroAt pl 6 2 || (f == 0x10 && named == 0) then refuse s stBAD_PARAM 0
  else if f = 0 then s.staged fun m => m.each mask fun m n => beamOff m n
  else match (if id = 0 then none else s.asset id) with
  | none => refuse s stNOT_PRESENT 0
  | some a =>
    if a.typ != 2 then refuse s stNOT_PRESENT 0
    else
      let b := s.assetBytes a 0 128
      s.staged fun m =>
        let m : Stage := if f < 0x10 then { m with beams := sset (fun _ => 0) m.beams f id } else m
        m.each mask fun m n => beamProfile m n id (le16 pl 4) b

/-! ### SET_MASKS (R124, R223) -/

/-- The soft-mask change a record stands for. -/
def softOf (r : List Byte) : SoftChg := ⟨byteAt r 1 % 64, if isClear r then none else some r⟩

/-- Record i of SET_MASKS. -/
def maskRec (pl : List Byte) (i : Nat) : List Byte := slice pl (4 + 16 * i) 16

/-- SET_MASKS: a failing record refuses the whole command. -/
def setMasks (s : State) (pl : List Byte) : Ans :=
  let count := byteAt pl 1
  let recs := (List.range count).map fun i => maskRec pl i
  if pl.length != 4 + 16 * count then refuse s stBAD_LENGTH 0
  else if !decide (byteAt pl 0 < 4 ∧ count ≤ 64 ∧ byteAt pl 2 < 2) || !zeroAt pl 3 1 ||
      !recs.all (fun r => recordOk r && byteAt r 0 == byteAt pl 0 && crc8 (r.take 15) == byteAt r 15) then refuse s stBAD_PARAM 0
  else
    let n := chan (byteAt pl 0)
    let named := recs.map fun r => byteAt r 1 % 64
    let clear := if bit (byteAt pl 2) 0 then
        ((List.range 64).filter fun k => !named.contains k).map fun k => (⟨k, none⟩ : SoftChg)
      else []
    let new := s.fw.masks.get n ++ clear ++ recs.map softOf
    ⟨s.modFw fun w => { w with masks := s.fw.masks.set n new }, stOK, 0, []⟩

/-! ### SET_ANIMATION, SET_GROUPS (R125, R126) -/

/-- SET_ANIMATION. -/
def setAnimation (s : State) (pl : List Byte) : Ans :=
  if pl.length != 8 then refuse s stBAD_LENGTH 0
  else if !decide (byteAt pl 0 < 4 ∧ byteAt pl 1 ≤ 2 ∧ byteAt pl 6 ≤ 1) || !zeroAt pl 7 1 then refuse s stBAD_PARAM 0
  else s.staged fun m => { m with anim := m.anim.set (chan (byteAt pl 0)) pl }

/-- The length SET_GROUPS must have. -/
def groupsLength (pl : List Byte) : Nat :=
  if byteAt pl 0 = 0 then 4 + 6 * byteAt pl 2 else if byteAt pl 0 = 3 then 4 else 12

/-- Range i of a DEFINE is within a port's positions. -/
def rangeOk (pl : List Byte) (i : Nat) : Bool :=
  let o := 4 + 6 * i
  decide (byteAt pl o < 4) && zeroAt pl (o + 1) 1 && decide (1 ≤ le16 pl (o + 4) ∧ le16 pl (o + 2) + le16 pl (o + 4) ≤ 8192)

/-- The parameters of SET_GROUPS. -/
def groupsOk (pl : List Byte) : Bool :=
  match byteAt pl 0 with
  | 0 => decide (byteAt pl 1 < 32 ∧ 1 ≤ byteAt pl 2 ∧ byteAt pl 2 ≤ 16) && !bit (byteAt pl 3) 6 &&
      (List.range (byteAt pl 2)).all fun i => rangeOk pl i
  | 1 => zeroAt pl 1 3 && zeroAt pl 11 1
  | 2 => zeroAt pl 1 3 && decide (byteAt pl 8 < 4) && zeroAt pl 9 1 && decide (50 ≤ le16 pl 10 ∧ le16 pl 10 ≤ 2000)
  | 3 => decide (byteAt pl 1 < 32) && zeroAt pl 2 2
  | _ => false

/-- Groups whose staged action the next CHAINS commit takes (R303). -/
def touchGroups (s : State) (mask : Nat) : State := s.modFw fun w => { w with grpNew := s.fw.grpNew ||| mask }

/-- Bits of a mask set or cleared in a 32-bit set of groups. -/
def armBits (old mask : Nat) (on : Bool) : Nat := if on then old ||| mask else old &&& (0xFFFFFFFF ^^^ mask)

/-- LEVEL: the targets and fades of committed groups on every port. -/
def groupLevel (s : State) (mask level fade : Nat) : State :=
  (s.fw.act.groups.filter fun g => bit mask g.1).foldl (fun s g => chans.foldl (fun (s : State) n =>
    ((s.wr (F.CHN_GTGTg_TARGET n g.1) level).wr (F.CHN_GTGTg_FADE n g.1) fade).levelNew n g.1) s) s

/-- SET_GROUPS. -/
def setGroups (s : State) (pl : List Byte) : Ans :=
  let g := byteAt pl 1
  if pl.length != groupsLength pl then refuse s stBAD_LENGTH 0
  else if !groupsOk pl then refuse s stBAD_PARAM 0
  else match byteAt pl 0 with
  | 0 => (s.touchGroups (2 ^ g)).staged fun m => { m with groups := sset (fun _ => []) m.groups g pl }
  | 1 => ⟨s.groupLevel (le32 pl 4) (le16 pl 8) (byteAt pl 10), stOK, 0, []⟩
  | 2 => (s.touchGroups (le32 pl 4)).staged fun m =>
      { m with garm := armBits m.garm (le32 pl 4) (bit (byteAt pl 8) 0), gprobe := armBits m.gprobe (le32 pl 4) (bit (byteAt pl 8) 1),
               window := le16 pl 10 }
  | _ => (s.touchGroups (2 ^ g)).staged fun m =>
      { m with groups := sdel m.groups g, garm := armBits m.garm (2 ^ g) false, gprobe := armBits m.gprobe (2 ^ g) false }

/-! ### SET_DERATE, SET_LEVELLING (R127, R128) -/

/-- One channel's law under SET, ARM or DISARM. -/
def derateStage (pl : List Byte) (m : Stage) (n : Fin 4) : Stage :=
  match byteAt pl 1 with
  | 0 => (((m.setFld (F.SRC_DERATE_CFG_KNEE n) (byteAt pl 2)).setFld (F.SRC_DERATE_CFG_SLOPE n) (byteAt pl 3)).setFld
      (F.SRC_DERATE_CFG_FLOOR n) (byteAt pl 4)).setFld (F.SRC_DERATE_CFG_TSEL n) (byteAt pl 5)
  | 1 => m.setFld (F.SRC_DERATE_CFG_ARMED n) 1
  | _ => m.setFld (F.SRC_DERATE_CFG_ARMED n) 0

/-- SET_DERATE. -/
def setDerate (s : State) (pl : List Byte) : Ans :=
  let act := byteAt pl 1
  let ranges := decide (60 ≤ byteAt pl 2 ∧ byteAt pl 2 ≤ 140 ∧ 5 ≤ byteAt pl 3 ∧ byteAt pl 3 ≤ 100 ∧ 10 ≤ byteAt pl 4 ∧
    byteAt pl 4 ≤ 100 ∧ byteAt pl 5 ≤ 2)
  if pl.length != 8 then refuse s stBAD_LENGTH 0
  else if !maskOk (byteAt pl 0) || !decide (act ≤ 2) || !zeroAt pl 6 2 || (act == 0 && !ranges) then refuse s stBAD_PARAM 0
  else if act = 2 ∧ lightMode s.mode = true then refuse s stWRONG_MODE 0
  else s.staged fun m => m.each (byteAt pl 0) (derateStage pl)

/-- The pitch input of a SET_LEVELLING payload. -/
def pitchOf (pl : List Byte) : Option Pitch :=
  let f := byteAt pl 1
  if bit f 0 then some ⟨b2n (bit f 1), le32 pl 4 + (if bit f 2 then 2 ^ 29 else 0), byteAt pl 8, le16 pl 16⟩ else none

/-- SET_LEVELLING: the input settings at once, the limits and the aim staged. -/
def setLevelling (s : State) (pl : List Byte) : Ans :=
  let f := byteAt pl 1
  if pl.length != 20 then refuse s stBAD_LENGTH 0
  else if !maskOk (byteAt pl 0) || !decide (f < 8) || !zeroAt pl 2 2 || !zeroAt pl 9 1 || !zeroAt pl 18 2 ||
      !decide (le32 pl 4 < (if bit f 2 then 2 ^ 29 else 2 ^ 11)) || !decide (byteAt pl 8 ≤ 62) ||
      !decide (2 ≤ le16 pl 16 ∧ le16 pl 16 ≤ 1000) then refuse s stBAD_PARAM 0
  else
    let s := s.forMask (byteAt pl 0) fun s n => s.modTut n fun t => { t with pitch := pitchOf pl, pitchTick := s.tb.toNat }
    s.staged fun m => m.each (byteAt pl 0) fun m n =>
      ((m.setFld (F.WRP_AIM_AIM n) (le16 pl 10)).setFld (F.WRP_OFF_LIM_MIN n) (le16 pl 12)).setFld (F.WRP_OFF_LIM_MAX n) (le16 pl 14)

/-! ### COMMIT, SNAPSHOT (R31, R38, R131, R132, R438) -/

/-- COMMIT as received. -/
def commitReceived (s : State) (t : Tag) (pl : List Byte) : Ans :=
  let mask := byteAt pl 0
  let chains := bit (byteAt pl 1) 0
  if pl.length != 4 then refuse s stBAD_LENGTH 0
  else if !decide (mask < 16 ∧ byteAt pl 1 < 4) || !zeroAt pl 2 2 || (mask == 0 && !chains) then refuse s stBAD_PARAM 0
  else if s.mode = modeCALIBRATE then refuse s stWRONG_MODE 0
  else if s.moving || s.bistNames mask chains then refuse s stBUSY 0
  else s.commitCmd mask chains (bit (byteAt pl 1) 1) (some t)

/-- SNAPSHOT. -/
def snapshot (s : State) (pl : List Byte) : Ans :=
  let b := byteAt pl 0
  if pl.length != 1 then refuse s stBAD_LENGTH 0
  else if !decide (0 < b ∧ b < 64) then refuse s stBAD_PARAM 0
  else
    let s := s.fwBell (512 + b)
    let per := fun (n : Fin 4) => if bit b n.val then
        leBytes 4 (s.get (R.LEC_SNAP_FRAME n)) ++ leBytes 2 (s.get (R.LEC_SNAP_LINE n)) ++ [0, 0] else []
    ⟨s, stOK, 0, leBytes 4 (s.get R.SYS_BELL_TS_LO) ++ leBytes 4 (s.get R.SYS_BELL_TS_HI) ++ (chans.map per).flatten⟩

end State

/-- SET_TIMING (R121). -/
def execSetTiming (port : Fin 3) (mb : Fin 6) (s : State) : Outcome State Fault Refusal :=
  .next (s.serve port mb (· == 0x05) fun s _ pl => s.setTiming pl)
/-- SET_LAYER (R122). -/
def execSetLayer (port : Fin 3) (mb : Fin 6) (s : State) : Outcome State Fault Refusal :=
  .next (s.serve port mb (· == 0x07) fun s _ pl => s.setLayer pl)
/-- COMMIT (R131). -/
def execCommit (port : Fin 3) (mb : Fin 6) (s : State) : Outcome State Fault Refusal :=
  .next (s.serve port mb (· == 0x08) State.commitReceived)
/-- SET_BEAM (R123). -/
def execSetBeam (port : Fin 3) (mb : Fin 6) (s : State) : Outcome State Fault Refusal :=
  .next (s.serve port mb (· == 0x09) fun s _ pl => s.setBeam pl)
/-- SET_MASKS (R124). -/
def execSetMasks (port : Fin 3) (mb : Fin 6) (s : State) : Outcome State Fault Refusal :=
  .next (s.serve port mb (· == 0x0A) fun s _ pl => s.setMasks pl)
/-- SET_ANIMATION (R125). -/
def execSetAnimation (port : Fin 3) (mb : Fin 6) (s : State) : Outcome State Fault Refusal :=
  .next (s.serve port mb (· == 0x0B) fun s _ pl => s.setAnimation pl)
/-- SET_GROUPS (R126). -/
def execSetGroups (port : Fin 3) (mb : Fin 6) (s : State) : Outcome State Fault Refusal :=
  .next (s.serve port mb (· == 0x0C) fun s _ pl => s.setGroups pl)
/-- SET_DERATE (R127). -/
def execSetDerate (port : Fin 3) (mb : Fin 6) (s : State) : Outcome State Fault Refusal :=
  .next (s.serve port mb (· == 0x0D) fun s _ pl => s.setDerate pl)
/-- SNAPSHOT (R132). -/
def execSnapshot (port : Fin 3) (mb : Fin 6) (s : State) : Outcome State Fault Refusal :=
  .next (s.serve port mb (· == 0x11) fun s _ pl => s.snapshot pl)
/-- SET_LEVELLING (R128). -/
def execSetLevelling (port : Fin 3) (mb : Fin 6) (s : State) : Outcome State Fault Refusal :=
  .next (s.serve port mb (· == 0x12) fun s _ pl => s.setLevelling pl)

end Sys2Proof.Machine
end

