-- ==== Sys2Proof/Machine/Assets.lean ====
section
/-! DEFINITION. LOAD_ASSET and the layouts that firmware checks when an asset's last piece arrives (R116, R130, R159, R164,
R191, R212, R214, R294, R327). -/

namespace Sys2Proof.Machine

open Host (Outcome)

/-- The largest size of an asset type in bytes (R130); 0 for no type. -/
def assetLimit (t : Nat) : Nat :=
  match t with
  | 1 | 2 | 5 => 67108864
  | 3 => 8192
  | 4 => 65536
  | 6 | 7 => 262144
  | 8 => 4096
  | 9 => 1048576
  | 10 => 64
  | _ => 0

/-- An IMAGE header (R163, R164). -/
def imageOk (b : List Byte) : Bool :=
  let f := byteAt b 2
  let w := le16 b 4
  let h := le16 b 6
  let stride := le32 b 8
  decide (64 ≤ b.length) && le16 b 0 == 0x4D49 && decide (f ≤ 6) && zeroAt b 3 1 &&
  decide (1 ≤ w ∧ w ≤ 8192 ∧ 1 ≤ h ∧ h ≤ 4096) &&
  decide (stride % 64 = 0 ∧ 64 ≤ stride ∧ stride ≤ 32768 ∧ w * fmtBytes f ≤ stride) &&
  (if fmtPlanes f then le32 b 12 % 64 == 0 else le32 b 12 == 0) && zeroAt b 16 48

/-- A BEAM_PROFILE (R191). -/
def profileOk (b : List Byte) : Bool :=
  le16 b 0 == 0x5042 && byteAt b 2 == 1 && decide (byteAt b 3 ≤ 3) && zeroAt b 11 1 && zeroAt b 26 38 && imageOk (b.drop 64)

/-- An entry of a COLOUR_MATRIX is an 18-bit number, sign-extended. -/
def matrixEntryOk (v : Nat) : Bool := v == unsigned (signed v 18) 32

/-- A COLOUR_MATRIX (R191). -/
def colourOk (b : List Byte) : Bool :=
  b.length == 64 && le16 b 0 == 0x4D43 && decide (byteAt b 2 ≤ 1) && zeroAt b 3 13 &&
  (List.range 12).all fun i => matrixEntryOk (le32 b (16 + 4 * i))

/-- A SCAN_TRAJECTORY (R191). -/
def trajOk (b : List Byte) : Bool :=
  let l := le16 b 2
  let k := le16 b 4
  le16 b 0 == 0x5453 && decide (1 ≤ l ∧ l ≤ 1728 ∧ 32 ≤ k ∧ k ≤ 3072 ∧ k % 32 = 0 ∧ l * k ≤ 262140) && zeroAt b 6 10 &&
  b.length == 16 + 4 * l * k

/-- An ANIMATION (R294). -/
def animOk (b : List Byte) : Bool :=
  let frames := le16 b 4
  let pos := le16 b 6
  let pad := ceilDiv frames 64 * 64
  le16 b 0 == 0x4E41 && byteAt b 2 == 1 && zeroAt b 3 1 && decide (1 ≤ frames ∧ 128 ≤ pos ∧ pos ≤ 8192 ∧ pos % 128 = 0) &&
  zeroAt b 8 8 && b.length == 16 + pad + 2 * pos * frames && (slice b 16 frames).all (· != 0) && zeroAt b (16 + frames) (pad - frames)

/-- An LED_MAP (R294). -/
def ledMapOk (b : List Byte) : Bool :=
  let count := le16 b 4
  le16 b 0 == 0x4D4C && byteAt b 2 == 1 && decide (byteAt b 3 ≤ 2 ∧ 1 ≤ count ∧ count ≤ 8192) && zeroAt b 6 10 &&
  b.length == 16 + 8 * count && (List.range count).all fun i => decide (le16 b (16 + 8 * i) < 8192) && zeroAt b (22 + 8 * i) 2

/-- An INJ_TABLE (R327). -/
def injOk (b : List Byte) : Bool :=
  let count := le16 b 4
  le16 b 0 == 0x4A49 && zeroAt b 3 1 && zeroAt b 6 10 &&
  (if byteAt b 2 = 0 then decide (1 ≤ count ∧ count ≤ 1020) && b.length == 16 + 4 * count
   else byteAt b 2 == 1 && decide (1 ≤ count ∧ count ≤ 510) && b.length == 16 + 8 * count &&
     (List.range count).all fun i => decide (byteAt b (16 + 8 * i) ≤ 9) && zeroAt b (19 + 8 * i) 1)

/-- The layout of an asset type. -/
def layoutOk (t : Nat) (b : List Byte) : Bool :=
  match t with
  | 1 => imageOk b
  | 2 => profileOk b
  | 3 => b.length == 8192
  | 4 => le16 b 0 == 0x534D && zeroAt b 2 14 && b.length == 2260
  | 5 => animOk b
  | 6 => ledMapOk b
  | 7 => fallbackOk b && le32 b 8 == b.length
  | 8 => injOk b
  | 9 => trajOk b
  | 10 => colourOk b
  | _ => false

namespace State

/-- An asset is referenced: from the latch of a configuration that names it until the composition stage ceases to name it
(R159), or while the committed configuration of a chain port names it. -/
def referenced (s : State) (id : Nat) : Bool :=
  chans.any fun n =>
    let names := fun (o : Option Cfg) => match o with | some c => c.assets.contains id | none => false
    names (s.ch n).cfgPend || names (s.ch n).cfgComp ||
    (let a := s.fw.act.anim.get n; byteAt a 1 != 0 && le16 a 2 == id)

/-- A channel shows its fallback pattern. -/
def showsPattern (s : State) (n : Fin 4) : Bool :=
  s.on (F.LEC_STATUS_RUNNING n) && (s.on (F.BPF_SRCSEL_PATTERN n) || (s.ch n).bpf.pattern)

/-- The upload of an identifier in progress. -/
def upload (s : State) (id : Nat) : Option Upload := s.fw.uploads.find? fun u => u.asset.id == id

/-- The uploads without that of an identifier. -/
def dropUpload (s : State) (id : Nat) : State :=
  s.modFw fun w => { w with uploads := s.fw.uploads.filter fun u => u.asset.id != id }

/-- Free space of the asset area for a new upload under an identifier (R130). -/
def freeFor (s : State) (id : Nat) : Nat := (s.dropUpload id).freeAssets

/-! ### The asset store in flash (R140) -/

/-- Sectors of 4 KB that a record of k data bytes fills, and those of the asset store. -/
def storeSectors (k : Nat) : Nat := ceilDiv (64 + k) 4096
def storeSize (s : State) : Nat := (s.fw.flashKB - 1344) / 4
/-- Sectors that a list of records fills. -/
def storeUsed (l : List AssetRec) : Nat := l.foldl (fun k r => k + storeSectors r.data.length) 0

/-- The record of an asset that is being written, in free space, if need be after the store is compacted to its valid records;
none where it does not fit. -/
def storeBegin (s : State) (a : Asset) (b : List Byte) : Option (List AssetRec) :=
  let seq := 1 + s.fw.store.foldl (fun k r => if r.asset.id = a.id then max k r.seq else k) 0
  let rec' : AssetRec := ⟨0xFE, seq, a, b⟩
  let room := fun (l : List AssetRec) => decide (storeUsed l + storeSectors b.length ≤ s.storeSize)
  if room s.fw.store then some (s.fw.store ++ [rec'])
  else if room s.assetRecs then some (s.assetRecs ++ [rec']) else none

/-- The record being written becomes valid, and any older one of its identifier superseded. -/
def storeEnd (l : List AssetRec) (id : Nat) : List AssetRec :=
  l.map fun r => if r.asset.id ≠ id then r else if r.state = 0xFE then { r with state := 0xFC } else if r.state = 0xFC then { r with state := 0xF8 } else r

/-- The checks of an asset whose last piece is in (R191, R212): its layout, and for a FALLBACK the array size of its channel,
where the channel has one (log entry 124). -/
def assetOk (s : State) (a : Asset) (b : List Byte) : Bool :=
  layoutOk a.typ b && (a.typ != 7 || match s.activeSize (chan (a.id - 1000)) with
    | some (c, r) => le16 b 2 == c && le16 b 4 == r
    | none => true)

/-- A new upload of an identifier: its place in the asset area is firmware's. -/
def startUpload (s : State) (a : Asset) (store : Bool) : State :=
  let a := { a with page := inArea (Config.assetPage a.id s.fw.upCount).toNat (ceilDiv a.size 4096) }
  let s := s.dropUpload a.id
  s.modFw fun w => { w with upCount := s.fw.upCount + 1, uploads := s.fw.uploads ++ [⟨a, store, 0⟩] }

/-- A complete asset takes the place of an older one of its identifier; a FALLBACK goes into its channel's SRAM (R214). -/
def finishUpload (s : State) (t : Tag) (u : Upload) (b : List Byte) : Ans :=
  let a := u.asset
  let s := s.dropUpload a.id
  if crc32 b != a.crc then refuse s stBAD_PARAM 3
  else if !s.assetOk a b then refuse s stBAD_PARAM 6
  else
    let s : State := s.modFw fun w => { w with assets := (s.fw.assets.filter fun x => x.id != a.id) ++ [a] }
    let s := if a.typ = 7 then s.sramWrite (chan (a.id - 1000)) 0 b else s
    if u.store then
      let l := s.storeBegin a b
      ⟨s.modFw fun w => { w with flash := some ⟨1, a.id, some t, none, if l.isSome then some (a, b) else none⟩, store := l.getD s.fw.store },
        stACCEPTED, 0, []⟩
    else ⟨s, stOK, 0, []⟩

/-- A piece of an upload is taken. -/
def takePiece (s : State) (t : Tag) (u : Upload) (d : List Byte) : Ans :=
  let s := s.portWrite 11 (u.asset.page * 4096 + u.got) d
  let u := { u with got := u.got + d.length }
  let s : State := s.modFw fun w => { w with uploads := s.fw.uploads.map fun x => if x.asset.id == u.asset.id then u else x }
  if u.got = u.asset.size then s.finishUpload t u (s.assetBytes u.asset 0 u.asset.size) else ⟨s, stOK, 0, []⟩

/-- LOAD_ASSET. -/
def loadAsset (s : State) (t : Tag) (pl : List Byte) : Ans :=
  let id := le16 pl 0
  let typ := byteAt pl 2
  let store := bit (byteAt pl 3) 0
  let total := le32 pl 4
  let off := le32 pl 8
  let d := pl.drop 16
  let a : Asset := ⟨id, typ, total, le32 pl 12, 0⟩
  let busy := (store && s.fw.flash.isSome) || s.referenced id || (typ == 7 && s.showsPattern (chan (id - 1000)))
  if d.isEmpty then refuse s stBAD_LENGTH 0
  else if !decide (1 ≤ id ∧ id ≤ 1023 ∧ 1 ≤ typ ∧ typ ≤ 10 ∧ byteAt pl 3 < 2) then refuse s stBAD_PARAM 0
  else if typ == 7 && !decide (1000 ≤ id ∧ id ≤ 1003) then refuse s stBAD_PARAM 7
  else if off = 0 then
    if assetLimit typ < total ∨ s.freeFor id < total then refuse s stBAD_PARAM 5
    else if total < d.length then refuse s stBAD_PARAM 9
    else if busy then refuse s stBUSY 0
    else
      let s := s.startUpload a store
      match s.upload id with
      | some u => s.takePiece t u d
      | none => refuse s stINTERNAL 0
  else match s.upload id with
  | none => refuse s stBAD_PARAM 4
  | some u =>
    if off ≠ u.got then refuse s stBAD_PARAM 4
    else if u.asset.typ ≠ typ ∨ u.asset.size ≠ total ∨ u.asset.crc ≠ a.crc ∨ u.store ≠ store then refuse s stBAD_PARAM 8
    else if total < off + d.length then refuse s stBAD_PARAM 9
    else if busy then refuse s stBUSY 0
    else s.takePiece t u d

end State

/-- LOAD_ASSET (R130). -/
def execLoadAsset (port : Fin 3) (mb : Fin 6) (s : State) : Outcome State Fault Refusal :=
  .next (s.serve port mb (· == 0x06) State.loadAsset)

end Sys2Proof.Machine
end

