-- ==== Sys2Proof/Machine/Loops.lean ====
section
/-! DEFINITION. Loop contexts as commands reach them: SET_LOOP with its templates and tuning sets, LOOP_LOAD_MATRIX, the
tuning commands (R129, R144, R145, R307, R312, R320, R323–R329). -/

namespace Sys2Proof.Machine

open Host (Outcome)

/-- A Q4.27 word repeats bit 30 in bit 31 (R307). -/
def q27Ok (w : Nat) : Bool := bit w 31 == bit w 30

/-- The Q4.27 word nearest a/b. -/
def q27Of (a b : Nat) : Nat := min (2 ^ 30 - 1) (roundDiv (a * 2 ^ 27) (max 1 b))

/-- The negative of a Q4.27 word. -/
def q27Neg (w : Nat) : Nat := (2 ^ 32 - w) % 2 ^ 32

/-- 1.0 in Q4.27. -/
def q27One : Nat := 2 ^ 27

/-- The six matrices in matrix memory (R330): first word and words of a row. -/
def matPlace (m : Nat) : Nat × Nat :=
  match m with
  | 0 => (0, 16)
  | 1 => (256, 4)
  | 2 => (320, 8)
  | 3 => (448, 16)
  | 4 => (576, 16)
  | _ => (640, 4)

/-- The largest rows and columns of a matrix (R144). -/
def matLimit (m : Nat) : Nat × Nat :=
  match m with
  | 0 => (16, 16)
  | 1 => (16, 4)
  | 2 => (16, 8)
  | 3 => (8, 16)
  | 4 => (4, 16)
  | _ => (4, 4)

/-- The dimensions that a matrix of some rows and columns fixes: NX, NU, NZ, where it fixes them. -/
def matDims (m r c : Nat) : Option Nat × Option Nat × Option Nat :=
  match m with
  | 0 => (some r, none, none)
  | 1 => (some r, some c, none)
  | 2 => (some r, none, some c)
  | 3 => (some c, none, some r)
  | 4 => (some c, some r, none)
  | _ => (none, some r, none)

/-- Two claims on one dimension agree. -/
def agree : Option Nat → Option Nat → Bool
  | some a, some b => a == b
  | _, _ => true

/-- A matrix agrees with the other loaded ones (R144). -/
def matAgrees (loaded : List (Nat × Nat × Nat)) (m r c : Nat) : Bool :=
  let d := matDims m r c
  (m != 0 || r == c) && loaded.all fun l =>
    let e := matDims l.1 l.2.1 l.2.2
    l.1 == m || (agree d.1 e.1 && agree d.2.1 e.2.1 && agree d.2.2 e.2.2)

/-- Two destinations overlap (R320): the masks that a DEST uses intersect, and for DEST 3 the levels are equal. -/
def destMeets (d1 s1 l1 f1 d2 s2 l2 f2 : Nat) : Bool :=
  d1 == d2 &&
  match d1 with
  | 1 | 5 => (s1 &&& s2) != 0
  | 2 => true
  | 3 => (s1 &&& s2) != 0 && (f1 &&& f2) != 0 && l1 == l2
  | 4 => (f1 &&& f2) != 0
  | _ => false

/-- A template: its form (R323) and what it puts into the registers of a context. -/
structure Template where
  nx : Nat
  nz : Nat
  nu : Nat
  freeze : Nat
  derate : Nat                     -- REF_DERATE
  clip : Nat                       -- INNOV_CLIP
  mats : List Nat                  -- the 672 words of matrix memory and X0
  zsel : List Nat
  zscale : List Nat
  zoff : List Nat
  ebound : List Nat
  routes : List Nat
  taps : List Nat
  deriving DecidableEq, Repr

/-- A route or tap word. -/
def routeWord (sel dest srcs level fmask shift : Nat) : Nat :=
  sel + 16 * dest + 256 * srcs + 4096 * level + 65536 * fmask + 2 ^ 24 * shift

/-- Matrix, row and column of a word of matrix memory; X0 is 6. -/
def matIndex (w : Nat) : Nat × Nat × Nat :=
  if w < 256 then (0, w / 16, w % 16)
  else if w < 320 then (1, (w - 256) / 4, w % 4)
  else if w < 448 then (2, (w - 320) / 8, w % 8)
  else if w < 576 then (3, (w - 448) / 16, w % 16)
  else if w < 640 then (4, (w - 576) / 16, w % 16)
  else if w < 656 then (5, (w - 640) / 4, w % 4)
  else (6, w - 656, 0)

/-- Is an entry within the dimensions of a template?  Targets 0–9 as a tuning set names them (R327). -/
def inDims (t : Template) (target row col : Nat) : Bool :=
  match target with
  | 0 => decide (row < t.nx ∧ col < t.nx)
  | 1 => decide (row < t.nx ∧ col < t.nu)
  | 2 => decide (row < t.nx ∧ col < t.nz)
  | 3 => decide (row < t.nz ∧ col < t.nx)
  | 4 => decide (row < t.nu ∧ col < t.nx)
  | 5 => decide (row < t.nu ∧ col < 4)
  | 6 => decide (row < t.nx ∧ col = 0)
  | 7 | 8 | 9 => decide (row < t.nz ∧ col = 0)
  | _ => false

/-- A template word that firmware chooses: free, and a valid Q4.27 word (log entry 6). -/
def freeWord (k : Nat) : Nat := unsigned (signed (Config.templateWord k).toNat 31) 32

/-- The matrix words of a template: an entry that `f` states, a free one where `f` is silent, 0 outside the dimensions. -/
def matWords (t : Template) (k : Nat) (f : Nat → Nat → Nat → Option Nat) : List Nat :=
  (List.range 672).map fun w =>
    let i := matIndex w
    if inDims t i.1 i.2.1 i.2.2 then (match f i.1 i.2.1 i.2.2 with | some v => v | none => freeWord (k + w)) else 0

/-- What R324 states of the PHOTOMETRIC matrices: x0 and x3–x9 are random walks, x1 is driven by x2 and u, x2 takes u0. -/
def photoEntry (m r c : Nat) : Option Nat :=
  match m with
  | 0 => if r = 1 then (if c = 1 ∨ c = 2 then none else some 0)
         else if r = 2 then some 0 else some (if r = c then q27One else 0)
  | 1 => if r = 1 then none else some (if r = 2 then q27One else 0)
  | _ => none

/-- What R325 states of the SCANNER matrices: x5–x7 are the outputs in flight. -/
def scanEntry (m r c : Nat) : Option Nat :=
  match m with
  | 0 => if 5 ≤ r then some 0 else none
  | 1 => if 5 ≤ r then some (if r = c + 5 then q27One else 0) else none
  | _ => none

/-- The LEVELLING matrices of R326, for a rate and a number of rows. -/
def levelEntry (rate rows m r c : Nat) : Option Nat :=
  match m with
  | 0 => some (if r = 1 then (if c = 1 then q27One else 0) else if c = 0 then q27One - q27Of 1 rate else q27Of 10 rate)
  | 1 | 5 => some 0
  | 2 => some (if r = 1 then q27One else 0)
  | 3 => some (if c = 1 then q27One else 0)
  | 4 => some (if c = 0 then q27Neg (q27Of (10 * rows) 9216) else 0)
  | _ => none

/-- A template without its matrices, extended to eight inputs. -/
def bareTemplate (nx nz nu freeze derate clip : Nat) : Template :=
  ⟨nx, nz, nu, freeze, derate, clip, [], [], [], [], [], [], []⟩

/-- One entry of a tuning set replaces a template value (R327). -/
def tune (t : Template) (target row col v : Nat) : Template :=
  match target with
  | 6 => { t with mats := t.mats.set (656 + row) v }
  | 7 => { t with zscale := t.zscale.set row v }
  | 8 => { t with zoff := t.zoff.set row v }
  | 9 => { t with ebound := t.ebound.set row v }
  | m => { t with mats := t.mats.set ((matPlace m).1 + (matPlace m).2 * row + col) v }

/-- A tuning set applied in order, and the detail of the entry that refuses it. -/
def tuneAll (t : Template) (b : List Byte) : Template × Option Nat :=
  (List.range (le16 b 4)).foldl (fun (a : Template × Option Nat) i =>
    let e := slice b (16 + 8 * i) 8
    match a.2 with
    | some _ => a
    | none =>
      if !inDims a.1 (byteAt e 0) (byteAt e 1) (byteAt e 2) then (a.1, some 9)
      else if !q27Ok (le32 e 4) then (a.1, some 0)
      else (tune a.1 (byteAt e 0) (byteAt e 1) (byteAt e 2) (le32 e 4), none)) (t, none)

namespace State

/-- The sensors of a kind in the capability block, in order. -/
def sensorsOf (s : State) (n : Fin 4) (kind : Nat) : List Nat :=
  (List.range (min 16 (s.cap n 17))).filter fun i => s.cap n (64 + 8 * i) == kind

/-- Fields of the timetable in force in which a source is lit. -/
def litFields (s : State) (n k : Fin 4) : Nat :=
  (List.range (s.strmFields n)).foldl (fun m f =>
    if (s.strmSlots n f).any fun x => x.lit && bit x.mask k.val then setBit m f true else m) 0

/-- ZSCALE of a flux input: the sensor's LSB weight over a_s[l] (R324). -/
def fluxScale (s : State) (n k : Fin 4) (sensor level : Nat) : Nat :=
  q27Of (s.sensorWeight n sensor * 65536) (2 ^ 24 * s.rdS (F.SRC_AMPs_l_A n k.val level))

/-- The PHOTOMETRIC template of source k, from the first flux sensor that serves it (R324). -/
def photoTemplate (s : State) (n k : Fin 4) : Option Template :=
  match (s.sensorsOf n 1).find? fun i => bit (s.cap n (65 + 8 * i)) k.val with
  | none => none
  | some i =>
    let t := bareTemplate 10 8 1 64 1 1
    let src := 2 ^ k.val
    let zsel := (7 :: List.range 7).map fun l => 1 + 16 * i + 256 + 512 * l + 4096 * src
    let zscale := (7 :: List.range 7).map fun l => s.fluxScale n k i l
    let taps := ((List.range 7).map fun l => routeWord (3 + l) 3 src l (s.litFields n k) 15) ++ [routeWord 1 5 src 0 0 11]
    some { t with mats := matWords t s.free photoEntry, zsel := zsel, zscale := zscale, zoff := List.replicate 8 0,
                  ebound := (List.range 8).map fun i => freeWord (s.free + 672 + i),
                  routes := [routeWord 0 1 src 0 0 16], taps := taps }

/-- The SCANNER template (R325). -/
def scanTemplate (s : State) (n : Fin 4) : Option Template :=
  match s.sensorsOf n 4, s.sensorsOf n 5 with
  | a :: b :: _, c :: _ =>
    let t := bareTemplate 8 3 3 8 0 1
    let free := fun (o : Nat) => (List.range 3).map fun i => freeWord (s.free + o + i)
    some { t with mats := matWords t s.free scanEntry, zsel := [a, b, c].map fun i => 1 + 16 * i,
                  zscale := free 672, zoff := free 676, ebound := free 680,
                  routes := [routeWord 0 4 0 0 7 15, routeWord 1 1 (s.nodeSources n) 0 0 16, routeWord 2 2 0 0 0 10], taps := [] }
  | _, _ => none

/-- The LEVELLING template for a sample rate (R326). -/
def levelTemplate (s : State) (n : Fin 4) (rate : Nat) : Template :=
  let t := bareTemplate 2 1 1 0 0 0
  { t with mats := matWords t s.free (levelEntry rate (s.array n).2), zsel := [2], zscale := [q27Of 1 1000], zoff := [0],
           ebound := [freeWord (s.free + 672)], routes := [routeWord 0 2 0 0 0 10], taps := [] }

/-- The tuning set of an identifier. -/
def tuningSet (s : State) (id : Nat) : Option (List Byte) :=
  match s.asset id with
  | some a => let b := s.assetBytes a 0 a.size; if a.typ = 8 ∧ byteAt b 2 = 1 then some b else none
  | none => none

/-- Write words into successive registers of a context, 0 beyond the end of a list. -/
def putList (s : State) (f : Nat → Nat) (k : Nat) (l : List Nat) : State :=
  (List.range k).foldl (fun s i => s.put (f i) (l.getD i 0)) s

/-- The four references of a SET_LOOP payload (R129). -/
def putRefs (s : State) (n c : Fin 4) (pl : List Byte) : State :=
  s.putList (R.TUT_CTXc_REFi n c.val) 4 ((List.range 4).map fun i => le32 pl (12 + 4 * i))

/-- A template goes into the registers of a context (R312, R323). -/
def putTemplate (s : State) (n c : Fin 4) (kind rate phi : Nat) (t : Template) : State :=
  let s := s.put (R.TUT_CTXc_CTRL n c.val) (2 * t.clip + 4 * kind + 16 * t.derate + 256 * t.freeze + 65536 * (t.nx - 1) +
    2 ^ 20 * (t.nz - 1) + 2 ^ 24 * (t.nu - 1))
  let aligned := t.routes.any fun r => bits r 4 3 == 1
  let s := if aligned then s.wr (F.TUT_CTXc_PERIOD_M n c.val) (max 2 (roundDiv 390625 rate))
    else s.wr (F.TUT_CTXc_PERIOD_CYCLES n c.val) (roundDiv 600000000 rate)
  let s := s.wr (F.TUT_CTXc_PHASE_PHI n c.val) phi
  let s := s.putList (R.TUT_CTXc_MAT n c.val) 672 t.mats
  let s := (s.putList (R.TUT_CTXc_ZSELi n c.val) 8 t.zsel).putList (R.TUT_CTXc_ZSCALEi n c.val) 8 t.zscale
  let s := (s.putList (R.TUT_CTXc_ZOFFi n c.val) 8 t.zoff).putList (R.TUT_CTXc_EBOUNDi n c.val) 8 t.ebound
  let s := (s.putList (R.TUT_CTXc_ROUTEj n c.val) 4 t.routes).putList (R.TUT_CTXc_TAPt n c.val) 8 t.taps
  let dims : List (Nat × Nat × Nat) :=
    [(0, t.nx, t.nx), (1, t.nx, t.nu), (2, t.nx, t.nz), (3, t.nz, t.nx), (4, t.nu, t.nx), (5, t.nu, 4)]
  (s.modCtx n c fun k => { k with loaded := dims }).alignUpdate n c

/-- SP_SEL is staged as 1 for a source whose PHOTOMETRIC template is loaded, where no stored value supplies it (R441). -/
def stageSpSel (s : State) (n k : Fin 4) : State :=
  if (s.fw.stage.srcEn.get n).isSome then s
  else s.restage fun m => m.setFld (F.SRC_CTRL_SP_SEL n) (setBit (m.fld (F.SRC_CTRL_SP_SEL n)) k.val true)

/-- SET_LOOP LOAD_TEMPLATE. -/
def loadTemplate (s : State) (n c : Fin 4) (pl : List Byte) : Ans :=
  let kind := byteAt pl 3
  let rate := le32 pl 4
  let phi := le16 pl 8
  let id := le16 pl 28
  let m := max 2 (roundDiv 390625 rate)
  if !decide (1 ≤ kind ∧ kind ≤ 3 ∧ 1000 ≤ rate ∧ rate ≤ 200000 ∧ 176 ≤ phi ∧ phi * rate < 600000000) ||
     !((List.range 4).all fun i => q27Ok (le32 pl (12 + 4 * i))) || (kind != 3 && !decide (phi ≤ m * 1536 - 30)) then
    refuse s stBAD_PARAM 0
  else
    match (if kind = 1 then s.photoTemplate n c else if kind = 2 then s.scanTemplate n else some (s.levelTemplate n rate)) with
    | none => refuse s stBAD_PARAM 8
    | some t =>
      let go := fun (t : Template) =>
        let s : State := s.setFree (s.free + 684)
        let s := (s.putTemplate n c kind rate phi t).putRefs n c pl
        (⟨if kind = 1 then s.stageSpSel n c else s, stOK, 0, []⟩ : Ans)
      if id = 0 then (if s.tutorIdle n then go t else refuse s stBUSY 0)
      else match s.tuningSet id with
      | none => refuse s stNOT_PRESENT 0
      | some b =>
        match tuneAll t b with
        | (_, some d) => refuse s stBAD_PARAM d
        | (t, none) => if s.tutorIdle n then go t else refuse s stBUSY 0

/-- The routes and taps of a context as (DEST, SRCMASK, LEVEL, FMASK). -/
def destsOf (s : State) (n c : Fin 4) : List (Nat × Nat × Nat × Nat) :=
  let w := fun (v : Nat) => (bits v 4 3, bits v 8 4, bits v 12 3, bits v 16 3)
  ((List.range 4).map fun j => w (s.get (R.TUT_CTXc_ROUTEj n c.val j))) ++
    (List.range 8).map fun j => w (s.get (R.TUT_CTXc_TAPt n c.val j))

/-- A context shares a destination with an enabled context of the channel (R320). -/
def destShared (s : State) (n c : Fin 4) : Bool :=
  chans.any fun k => k != c && s.on (F.TUT_CTXc_CTRL_EN n k.val) &&
    (s.destsOf n c).any fun a => (s.destsOf n k).any fun b =>
      destMeets a.1 a.2.1 a.2.2.1 a.2.2.2 b.1 b.2.1 b.2.2.1 b.2.2.2

/-- SET_LOOP. -/
def setLoop (s : State) (pl : List Byte) : Ans :=
  let n := chan (byteAt pl 0)
  let c := chan (byteAt pl 1)
  let on := s.on (F.TUT_CTXc_CTRL_EN n c.val)
  if pl.length != 30 then refuse s stBAD_LENGTH 0
  else if !decide (byteAt pl 0 < 4 ∧ byteAt pl 1 < 4 ∧ byteAt pl 2 < 4) || !zeroAt pl 10 2 then refuse s stBAD_PARAM 0
  else if byteAt pl 2 = 2 then s.loadTemplate n c pl
  else if byteAt pl 3 ≠ 0 then refuse s stBAD_PARAM 0
  else if byteAt pl 2 = 0 then ⟨if on then s.ctxDisable n c else s, stOK, 0, []⟩
  else if byteAt pl 2 = 1 then
    if s.destShared n c then refuse s stBAD_PARAM 0
    else if s.bistNames (2 ^ n.val) false then refuse s stBUSY 0
    else ⟨if on then s else s.ctxEnable n c, stOK, 0, []⟩
  else if !((List.range 4).all fun i => q27Ok (le32 pl (12 + 4 * i))) then refuse s stBAD_PARAM 0
  else ⟨s.putRefs n c pl, stOK, 0, []⟩

/-! ### LOOP_LOAD_MATRIX (R144) -/

/-- The entries of a matrix, zero beyond its rows and columns. -/
def putMatrix (s : State) (n c : Fin 4) (m rows cols : Nat) (pl : List Byte) : State :=
  let p := matPlace m
  let l := matLimit m
  (List.range l.1).foldl (fun (s : State) i => (List.range l.2).foldl (fun (s : State) j =>
    s.put (R.TUT_CTXc_MAT n c.val (p.1 + p.2 * i + j)) (if i < rows ∧ j < cols then le32 pl (12 + 4 * (cols * i + j)) else 0)) s) s

/-- The dimensions that a loaded matrix fixes go into the context's control register. -/
def putDims (s : State) (n c : Fin 4) (m rows cols : Nat) : State :=
  let d := matDims m rows cols
  let set := fun (s : State) (f : Fld) (v : Option Nat) => match v with | some k => s.wr f (k - 1) | none => s
  set (set (set s (F.TUT_CTXc_CTRL_NX_M1 n c.val) d.1) (F.TUT_CTXc_CTRL_NU_M1 n c.val) d.2.1) (F.TUT_CTXc_CTRL_NZ_M1 n c.val) d.2.2

/-- LOOP_LOAD_MATRIX. -/
def loopLoadMatrix (s : State) (pl : List Byte) : Ans :=
  let n := chan (byteAt pl 4)
  let c := chan (byteAt pl 5)
  let m := byteAt pl 6
  let rows := byteAt pl 8
  let cols := byteAt pl 9
  if pl.length != 12 + 4 * rows * cols then refuse s stBAD_LENGTH 0
  else if !decide (byteAt pl 4 < 4 ∧ byteAt pl 5 < 4 ∧ m ≤ 5 ∧ 1 ≤ rows ∧ rows ≤ (matLimit m).1 ∧ 1 ≤ cols ∧ cols ≤ (matLimit m).2) ||
      !zeroAt pl 7 1 || !zeroAt pl 10 2 || !matAgrees (s.ctx n c).loaded m rows cols ||
      !((List.range (rows * cols)).all fun i => q27Ok (le32 pl (12 + 4 * i))) then refuse s stBAD_PARAM 0
  else if !s.tutorIdle n then refuse s stBUSY 0
  else
    let s := (s.putMatrix n c m rows cols pl).putDims n c m rows cols
    ⟨s.modCtx n c fun k => { k with loaded := (k.loaded.filter fun l => l.1 != m) ++ [(m, rows, cols)] }, stOK, 0, []⟩

/-! ### Trace and injection (R145, R328, R329) -/

/-- A node selector names a quantity of a context: none, x, u, y, innovation or r with its index. -/
def nodeOk (b : Nat) : Bool :=
  let i := b % 32
  match b / 32 with
  | 0 => i == 0
  | 1 => decide (i < 16)
  | 2 | 5 => decide (i < 4)
  | 3 | 4 => decide (i < 8)
  | _ => false

/-- TRACE_SETUP. -/
def traceSetup (s : State) (pl : List Byte) : Ans :=
  let n := chan (byteAt pl 4)
  if pl.length != 16 then refuse s stBAD_LENGTH 0
  else if !decide (byteAt pl 4 < 4 ∧ byteAt pl 5 < 4 ∧ byteAt pl 6 ≤ 2 ∧ 1 ≤ byteAt pl 7 ∧ 1 ≤ le16 pl 8 ∧ le16 pl 8 ≤ 8192) ||
      !((List.range 4).all fun i => nodeOk (byteAt pl (12 + i))) then refuse s stBAD_PARAM 0
  else
    let s := (s.put (R.TUT_TRC_NODES n) (le32 pl 12)).wr (F.TUT_TRC_EVT_CODE n) (le16 pl 10)
    ⟨s.trcCfgWrite n (byteAt pl 5 + 4 * byteAt pl 6 + 16 + 256 * byteAt pl 7 + 65536 * le16 pl 8), stOK, 0, []⟩

/-- INJECT_SETUP. -/
def injectSetup (s : State) (pl : List Byte) : Ans :=
  let n := chan (byteAt pl 4)
  let sig := byteAt pl 7
  let node := byteAt pl 6
  let go := fun (s : State) (len : Nat) =>
    let s := ((s.put (R.TUT_INJ_AMP n) (le32 pl 8)).put (R.TUT_INJ_P1 n) (le32 pl 12)).put (R.TUT_INJ_P2 n) (le32 pl 16)
    (⟨(s.put (R.TUT_INJ_DUR n) (le32 pl 20)).injCfgWrite n
      (byteAt pl 5 + 4 * sig + 32 * byteAt pl 26 + 64 + 256 * node + 65536 * len), stOK, 0, []⟩ : Ans)
  if pl.length != 28 then refuse s stBAD_LENGTH 0
  else if !decide (byteAt pl 4 < 4 ∧ byteAt pl 5 < 4 ∧ sig ≤ 4 ∧ byteAt pl 26 ≤ 1) || !zeroAt pl 27 1 ||
      !nodeOk node || (sig != 0 && (node / 32 == 0 || node / 32 == 4)) then refuse s stBAD_PARAM 0
  else if sig ≠ 4 then go s 0
  else match s.asset (le16 pl 24) with
  | none => refuse s stNOT_PRESENT 0
  | some a =>
    let b := s.assetBytes a 0 a.size
    if a.typ ≠ 8 ∨ byteAt b 2 ≠ 0 then refuse s stBAD_PARAM 0
    else go ((List.range (le16 b 4)).foldl (fun (s : State) i => s.injTableWrite n i (le32 b (16 + 4 * i))) s) (le16 b 4)

/-- TRACE_READ. -/
def traceRead (s : State) (pl : List Byte) : Ans :=
  let n := chan (byteAt pl 4)
  let first := le16 pl 6
  let count := le16 pl 8
  if pl.length != 10 then refuse s stBAD_LENGTH 0
  else if !decide (byteAt pl 4 < 4 ∧ 1 ≤ count) || !zeroAt pl 5 1 then refuse s stBAD_PARAM 0
  else
    ⟨s, stOK, 0, leBytes 1 (s.rd (F.TUT_TRC_STATUS_STATE n)) ++ [0] ++ leBytes 2 (s.rd (F.TUT_TRC_STATUS_WORDS n)) ++
      leBytes 2 (s.rd (F.TUT_TRC_INJ_INDEX n)) ++ [0, 0] ++
      ((List.range count).map fun i => leBytes 4 (if first + i < 8192 then s.get (R.TUT_TRC_WORDw n (first + i)) else 0)).flatten⟩

end State

/-- SET_LOOP (R129). -/
def execSetLoop (port : Fin 3) (mb : Fin 6) (s : State) : Outcome State Fault Refusal :=
  .next (s.serve port mb (· == 0x17) fun s _ pl => s.setLoop pl)
/-- LOOP_LOAD_MATRIX (R144). -/
def execLoopLoadMatrix (port : Fin 3) (mb : Fin 6) (s : State) : Outcome State Fault Refusal :=
  .next (s.serve port mb (· == 0x8C) fun s _ pl => s.loopLoadMatrix pl)
/-- TRACE_SETUP (R145, R328). -/
def execTraceSetup (port : Fin 3) (mb : Fin 6) (s : State) : Outcome State Fault Refusal :=
  .next (s.serve port mb (· == 0x89) fun s _ pl => s.traceSetup pl)
/-- INJECT_SETUP (R145, R329). -/
def execInjectSetup (port : Fin 3) (mb : Fin 6) (s : State) : Outcome State Fault Refusal :=
  .next (s.serve port mb (· == 0x8A) fun s _ pl => s.injectSetup pl)
/-- TRACE_READ (R145). -/
def execTraceRead (port : Fin 3) (mb : Fin 6) (s : State) : Outcome State Fault Refusal :=
  .next (s.serve port mb (· == 0x8B) fun s _ pl => s.traceRead pl)

end Sys2Proof.Machine
end

