-- ==== Sys2Proof/Machine/Storage.lean ====
section
/-! DEFINITION. Flash: STORE_CONFIG, FW_UPDATE and the completion of flash operations (R116, R139, R140, R146, R296). -/

namespace Sys2Proof.Machine

open Host (Outcome)

/-- The part of STORE_CONFIG byte 0 that holds a register of a channel window: 0 channels, 1 chains, 2 set-points, limits,
tables, derating and levelling (R139). -/
def partOf (a : Nat) : Nat :=
  if chans.any fun n => decide (chnBase n ≤ a ∧ a < chnBase n + 0x4000) then 1
  else if chans.any fun n => decide (srcBase n ≤ a ∧ a < srcBase n + 0x2000) || a == R.WRP_AIM n || a == R.WRP_OFF_LIM n then 2
  else 0

/-- The CAN identifiers of a controller in a STORE_CONFIG request: six requests, six responses, the notification. -/
def canIds (pl : List Byte) (o : Nat) : List Nat :=
  ((List.range 6).map fun i => le32 pl (o + 4) + i) ++ ((List.range 6).map fun i => le32 pl (o + 8) + i) ++ [le32 pl (o + 12)]

/-- The CAN settings of a STORE_CONFIG request (R139). -/
def canOk (pl : List Byte) : Bool :=
  let one := fun (o : Nat) =>
    decide (byteAt pl o < 32 ∧ byteAt pl o % 4 ≠ 3) &&
    (canIds pl o).all fun i => decide (i < (if bit (byteAt pl o) 4 then 2 ^ 29 else 2 ^ 11))
  one 4 && one 20 && (canIds pl 4).all fun i => !(canIds pl 20).contains i

namespace State

/-- The configuration in force, not the stage (R139): of every channel the one of its composition stage, with the values in
force of the fields that no basic command stages (R441), and the chain part of the last CHAINS commit. -/
def inForce (s : State) : Stage :=
  let a := s.fw.act
  let m : Stage := { Stage.reset with
    regs := skeep (fun k => decide (partOf k = 1)) a.regs, anim := a.anim, groups := a.groups, garm := a.garm, gprobe := a.gprobe,
    window := a.window, beams := s.fw.stage.beams }
  chans.foldl (fun (m : Stage) n =>
    let m := m.setFld (F.CHN_CFG_GB n) (s.rdA (F.CHN_CFG_GB n))
    match (s.ch n).cfgComp with
    | some c =>
      let m := rwsRows.foldl (fun (m : Stage) r => (rowOffs r).foldl (fun (m : Stage) o =>
        m.setReg (lecBase n + o) (s.getC (lecBase n + o))) m) m
      { m with srcEn := m.srcEn.set n (some (s.rdC (F.SRC_CTRL_EN n))), timing := m.timing.set n c.timing,
               layers := m.layers.set n c.layers, lut := m.lut.set n c.lut, omat := m.omat.set n c.omat }
    | none => m) m

/-- The named parts of one configuration, the rest of another (R140). -/
def mergeParts (a b : Stage) (parts : Nat) : Stage :=
  let pick := fun {α : Type} (k : Nat) (f : Stage → α) => if bit parts k then f b else f a
  { regs := (b.regs.filter fun e => bit parts (partOf e.1)).foldl (fun r e => sset stageDefault r e.1 e.2)
      (skeep (fun k => !bit parts (partOf k)) a.regs)
    timing := pick 0 Stage.timing, layers := pick 0 Stage.layers, lut := pick 0 Stage.lut, omat := pick 0 Stage.omat,
    srcEn := pick 2 Stage.srcEn, beams := pick 0 Stage.beams, anim := pick 1 Stage.anim, groups := pick 1 Stage.groups,
    garm := pick 1 Stage.garm, gprobe := pick 1 Stage.gprobe, window := pick 1 Stage.window }

/-- The content of a port's shift bank, as stored frames hold it (R296). -/
def shiftFrame (s : State) (n : Fin 4) : Mem :=
  let b := 16384 * s.rd (F.CHN_STATUS_SHIFT_BANK n)
  (skeep (fun a => decide (b ≤ a ∧ a < b + 16384)) (s.cn n).mem).map fun e => (e.1 - b, e.2)

/-- The configuration copy that a STORE_CONFIG request writes. -/
def newCopy (s : State) (pl : List Byte) : Stored :=
  let want := byteAt pl 0
  let old := s.stored.getD ⟨0, 0, 0, true, true, 0, [], [], Four.all [], Stage.reset, [], Four.all none, Four.all 0⟩
  let each := fun {α : Type} (k : Nat) (f : Fin 4 → α) (g : Four α) =>
    if bit want k then (⟨f 0, f 1, f 2, f 3⟩ : Four α) else g
  { seq := old.seq + 1, sysId := s.get R.SYS_ID, fwVer := 0x0302, headOk := true, bodyOk := true, parts := old.parts ||| want, request := pl, can := if bit want 3 then pl else old.can,
    frames := each 1 (fun n => s.shiftFrame n) old.frames, cfg := mergeParts old.cfg s.inForce want,
    loops := if bit want 2 then skeep loopReg s.regs else old.loops,
    pitch := each 2 (fun n => (s.tu n).pitch) old.pitch, offer := each 1 (fun n => s.fw.offer.get n) old.offer }

/-- The copy that does not hold the valid copy with the higher SEQ. -/
def spareCopy (s : State) : Fin 2 :=
  match s.validCopy 0, s.validCopy 1 with
  | some a, some b => if a.seq < b.seq then 0 else 1
  | some _, none => 1
  | none, _ => 0

/-- STORE_CONFIG: the spare copy is erased at once and holds the new one when the write ends. -/
def storeConfig (s : State) (t : Tag) (pl : List Byte) : Ans :=
  if pl.length != 36 then refuse s stBAD_LENGTH 0
  else if !decide (byteAt pl 0 < 16 ∧ byteAt pl 1 < 16) || !zeroAt pl 2 2 || !zeroAt pl 5 3 || !zeroAt pl 21 3 ||
      (bit (byteAt pl 0) 3 && !canOk pl) then refuse s stBAD_PARAM 0
  else if s.fw.flash.isSome then refuse s stBUSY 0
  else
    let u := s.spareCopy
    let op : FlashOp := ⟨0, u.val, some t, some (s.newCopy pl), none⟩
    ⟨s.modFw fun w => { w with flash := some op, copies := s.fw.copies.set u none }, stACCEPTED, 0, []⟩

/-! ### FW_UPDATE -/

/-- Program bytes: programming only clears bits (R140). -/
def program (m : Mem) (a : Nat) (bs : List Byte) : Mem :=
  bs.zipIdx.foldl (fun m q => sset flashReset m (a + q.2) (sget flashReset m (a + q.2) &&& q.1)) m

/-- FW_UPDATE under firmware. -/
def fwUpdateRun (s : State) (t : Tag) (act slot off : Nat) (d : List Byte) (fault : Bool) : Ans :=
  let u := duo slot
  let got := (s.fw.slots.get u).getD 0
  if act = 3 ∨ slot = s.fw.running then refuse s stBAD_PARAM 0
  else if act = 1 ∧ off ≠ 0 ∧ off ≠ got then refuse s stBAD_PARAM 4
  else if act = 1 ∧ slotSize < off + d.length then refuse s stBAD_PARAM 9
  else if s.fw.flash.isSome then refuse s stBUSY 0
  else if fault then refuse s stINTERNAL 0
  else if act = 1 then
    ⟨(s.modFw fun w => { w with image := program s.fw.image (slotSize * slot + off) d, slots := s.fw.slots.set u (some (off + d.length)) }),
      stOK, 0, []⟩
  else
    let op : FlashOp := ⟨if act = 0 then 2 else 3, slot, some t, none, none⟩
    ⟨s.modFw fun w => { w with flash := some op }, stACCEPTED, 0, []⟩

/-- FW_UPDATE under the boot ROM service (R77): WRITE fills the processor SRAM, RUN starts the image once R76 accepts it. -/
def fwUpdateRom (s : State) (act slot off : Nat) (d : List Byte) : Ans :=
  let reason := s.imageReason fun i => sget memReset s.fw.download i
  let got := (s.fw.slots.get 0).getD 0
  if act = 1 then
    if off ≠ 0 ∧ off ≠ got then refuse s stBAD_PARAM 4
    else if slotSize < off + d.length then refuse s stBAD_PARAM 9
    else ⟨(s.modFw fun w => { w with download := ssets memReset s.fw.download off d, slots := s.fw.slots.set 0 (some (off + d.length)) }),
      stOK, 0, []⟩
  else if act = 3 then
    if reason = 0 then ⟨s.firmwareStart 2, stOK, 0, []⟩
    else ⟨s.logEvent 0x0401 3 slot reason, stBAD_PARAM, reason, []⟩
  else refuse s stBAD_PARAM 0

/-- FW_UPDATE.  DESIGN CHOICE (log 135): where the flash part does not answer (fault), the command ends INTERNAL (R112), with no effect. -/
def fwUpdate (fault : Bool) (s : State) (t : Tag) (pl : List Byte) : Ans :=
  let act := byteAt pl 4
  let d := pl.drop 12
  if pl.length < 12 ∨ (act = 1 ∧ d = []) ∨ (act ≠ 1 ∧ d ≠ []) then refuse s stBAD_LENGTH 0
  else if !decide (act < 4 ∧ byteAt pl 5 < 2) || !zeroAt pl 6 2 then refuse s stBAD_PARAM 0
  else if s.rst.cpu = .romService then s.fwUpdateRom act (byteAt pl 5) (le32 pl 8) d
  else s.fwUpdateRun t act (byteAt pl 5) (le32 pl 8) d fault

/-! ### Completion -/

/-- The flash operation in progress ends: a configuration copy, an asset record or none for want of room, an erased slot, or a
slot that VERIFY has read under R76, which fails with reason 7 where the part could not be read. -/
def flashDone (s : State) (fault : Bool) : State :=
  match s.fw.flash with
  | none => s
  | some op =>
    if !s.fwRuns || s.sysStill 6 then s
    else
      let s : State := (s.modFw fun w => { w with flash := none }).calFlashDue
      match op.kind with
      | 0 => ((s.modFw fun w => { w with copies := s.fw.copies.set (duo op.unit) op.copy, copiesWritten := s.fw.copiesWritten + 1 }) :
          State).doneOpt op.tag stOK 0
      | 1 =>
        (match op.asset with
        | some a => (s.modFw fun w => { w with store := storeEnd s.fw.store a.1.id }).doneOpt op.tag stOK 0
        | none => s.doneOpt op.tag stBAD_PARAM 5)
      | 2 => (s.modFw fun _ => { s.fw with
            image := skeep (fun a => !decide (slotSize * op.unit ≤ a ∧ a < slotSize * (op.unit + 1))) s.fw.image
            slots := s.fw.slots.set (duo op.unit) (some 0) }).doneOpt op.tag stOK 0
      | _ =>
        let reason := if fault then 7 else s.imageReason (s.slotByte op.unit)
        if reason = 0 then s.doneOpt op.tag stOK 0 else s.doneOpt op.tag stBAD_PARAM reason

end State

/-- STORE_CONFIG (R139). -/
def execStoreConfig (port : Fin 3) (mb : Fin 6) (s : State) : Outcome State Fault Refusal :=
  .next (s.serve port mb (· == 0x18) State.storeConfig)
/-- FW_UPDATE (R146). -/
def execFwUpdate (port : Fin 3) (mb : Fin 6) (fault : Bool) (s : State) : Outcome State Fault Refusal :=
  .next (s.serve port mb (· == 0x8F) (State.fwUpdate fault))
/-- FLASH_OP_COMPLETE (R140). -/
def execFlashOpComplete (fault : Bool) (s : State) : Outcome State Fault Refusal := .next (s.flashDone fault)

end Sys2Proof.Machine
end

