-- ==== Sys2Proof/Machine/Commands.lean ====
section
/-! DEFINITION. The remaining mailbox commands: session, information, events, links, chains, resets, register and memory
access, timetables (R97, R104, R105, R117, R118, R133, R134, R136–R138, R141–R143, R146). -/

namespace Sys2Proof.Machine

open Host (Outcome)

/-- The highest bit that is set, of eight. -/
def topBit (m : Nat) : Option Nat := (List.range 8).foldl (fun b k => if bit m k then some k else b) none

/-- Bits of a PWM code (R290). -/
def pwmBits (code : Nat) : Nat := 12 + 2 * code

namespace State

/-! ### GET_INFO, GET_STATUS (R117, R118) -/

/-- The identifiers of a CAN port. -/
def canInfo (s : State) (p : Fin 3) : List Byte :=
  leBytes 4 (s.port p).reqId ++ leBytes 4 (s.port p).rspId ++ leBytes 4 (s.port p).ntfId

/-- Page 0 of GET_INFO. -/
def infoDevice (s : State) : List Byte :=
  leBytes 4 (s.get R.SYS_ID) ++ leBytes 2 0x0302 ++ leBytes 2 2 ++ leBytes 4 (s.get R.SYS_FEATURES) ++
  leBytes 2 (s.dramBytes 0 / 2 ^ 20) ++ leBytes 1 (s.rd (F.DMC_CFG_RANKS2 0) + 1) ++ leBytes 1 (s.rd (F.DMC_STATUS_SPEED 0)) ++
  s.canInfo 1 ++ s.canInfo 2

/-- The settled chain clock of a port, kHz; the manual states no rounding, and it is rounded down (DESIGN CHOICE, log entry
120). -/
def chainKhz (s : State) (n : Fin 4) : Nat :=
  if s.rd (F.CHN_MODE_DIV n) = 0 then 0 else 300000 / s.rd (F.CHN_MODE_DIV n)

/-- Lanes and rate of a link that is up; 0 otherwise. -/
def settled (s : State) (n : Fin 4) : Nat × Nat :=
  if s.linkUp n then (s.rd (F.LNK_MODE_LANES n), rateMb (s.rd (F.LNK_MODE_RATE n))) else (0, 0)

/-- Page 1 + n of GET_INFO. -/
def infoNode (s : State) (n : Fin 4) : List Byte :=
  let top := match topBit (s.cap n 15 % 128) with | some k => rateMb k | none => 0
  leBytes 1 (s.cap n 3) ++ leBytes 1 (s.cap n 2) ++ leBytes 2 (s.cap16 n 4) ++ leBytes 2 (s.cap16 n 6) ++
  leBytes 1 (s.cap n 8) ++ leBytes 1 (s.cap n 17) ++ leBytes 2 (s.cap16 n 10) ++ leBytes 2 (s.cap16 n 12) ++
  leBytes 1 (s.cap n 14) ++ leBytes 1 (s.settled n).1 ++ leBytes 2 top ++ leBytes 2 (s.settled n).2 ++
  leBytes 4 (s.nodeCacheKB n) ++ leBytes 1 (s.rd (F.CHN_MODE_DRIVERS n)) ++ leBytes 1 (s.rd (F.CHN_MODE_MUX n)) ++
  leBytes 2 (s.chainKhz n) ++ [0, 0]

/-- GET_INFO. -/
def getInfo (s : State) (pl : List Byte) : Ans :=
  let page := byteAt pl 0
  if pl.length != 1 then refuse s stBAD_LENGTH 0
  else if 4 < page then refuse s stBAD_PARAM 0
  else ⟨s, stOK, 0, if page = 0 then s.infoDevice else s.infoNode (chan (page - 1))⟩

/-- Link state as GET_STATUS codes it: 0 down, 1 training, 2 up, 3 plane cache replay. -/
def linkCode (s : State) (n : Fin 4) : Nat :=
  match s.linkState n with
  | 1 | 2 => 1
  | 3 => 2
  | 4 => 3
  | _ => 0

/-- The eight bytes of one channel. -/
def statusChannel (s : State) (n : Fin 4) : List Byte :=
  leBytes 1 (s.get (R.LEC_STATUS n) % 16) ++ leBytes 1 (s.linkCode n) ++ leBytes 1 (s.rd (F.CHN_STATUS_STATE n)) ++
  leBytes 1 (roundDiv ((s.ch n).src.f * 100) 4096) ++ leBytes 4 (s.get (R.LEC_FRAME_COUNT n))

/-- Byte 13 of GET_STATUS. -/
def statusFlags (s : State) : Nat :=
  b2n (chans.any fun n => decide ((s.ch n).src.f < 4096)) + 2 * b2n s.pins.faultLow + 4 * b2n (s.rst.cpu == .romService)

/-- GET_STATUS; the boot ROM service fills bytes 4–7 and 13. -/
def getStatus (s : State) (pl : List Byte) : Ans :=
  if pl.length != 0 then refuse s stBAD_LENGTH 0
  else if s.rst.cpu = .romService then
    ⟨s, stOK, 0, leBytes 4 (s.get R.SYS_MODE) ++ List.replicate 5 0 ++ leBytes 1 s.statusFlags ++ List.replicate 34 0⟩
  else
    ⟨s, stOK, 0, leBytes 4 (s.get R.SYS_MODE) ++ leBytes 4 (s.get R.RST_CAUSE) ++ leBytes 1 (degC s.hottest) ++
      leBytes 1 s.statusFlags ++ leBytes 2 (s.rd F.EVR_STATUS_USED) ++ (chans.map fun n => s.statusChannel n).flatten⟩

/-! ### READ_EVENTS, CLEAR_EVENTS (R136, R137, R396) -/

/-- Slots examined from slot k, k slots left below 2,048: the records found and the next slot to examine. -/
def scanSlots (s : State) (sev : Nat) : Nat → Nat → Nat → List Nat × Nat
  | 0, k, _ => ([], k)
  | _, k, 0 => ([], k)
  | left + 1, k, want + 1 =>
    if s.slotCode k != 0 && decide (sev ≤ s.slotSev k) then
      let r := s.scanSlots sev left (k + 1) want
      (k :: r.1, r.2)
    else s.scanSlots sev left (k + 1) (want + 1)

/-- READ_EVENTS. -/
def readEvents (s : State) (t : Tag) (pl : List Byte) : Ans :=
  let first := le16 pl 0
  let most := byteAt pl 2
  if pl.length != 4 then refuse s stBAD_LENGTH 0
  else if (s.maxPay t.port - 12) / 16 < most then refuse s stBAD_LENGTH 0
  else if !decide (first < 2048 ∧ 1 ≤ most ∧ byteAt pl 3 ≤ 7) then refuse s stBAD_PARAM 0
  else
    let r := s.scanSlots (byteAt pl 3) (2048 - first) first most
    ⟨s, stOK, 0, leBytes 2 r.2 ++ leBytes 1 r.1.length ++ [0] ++ leBytes 4 (s.rd F.EVR_DROPPED_COUNT) ++
      (r.1.map fun k => s.slotBytes k).flatten⟩

/-- CLEAR_EVENTS: a clear merged into one in progress counts 0. -/
def clearEvents (s : State) (t : Tag) (pl : List Byte) : Ans :=
  if pl.length != 0 then refuse s stBAD_LENGTH 0
  else
    let count := if s.evr.clearing.isSome then 0 else s.rd F.EVR_STATUS_USED
    ⟨s.clearRequest t.port.val, stOK, 0, leBytes 2 count⟩

/-! ### LINK_CONTROL (R133, R276, R278) -/

/-- The response of LINK_CONTROL from byte 4. -/
def linkReport (s : State) (n : Fin 4) : List Byte :=
  let lanes := s.rd (F.LNK_MODE_LANES n)
  let used := fun (v : Nat) => if lanes = 0 then 0 else v
  let best := s.rd (F.LNK_BEST_LANES n)
  leBytes 1 (s.linkCode n) ++ leBytes 1 lanes ++ leBytes 2 (used (rateMb (s.rd (F.LNK_MODE_RATE n)))) ++
  leBytes 2 (used (if s.on (F.LNK_MODE_BACK n) then 2500 else 1250)) ++
  leBytes 2 (if best = 0 then 0 else rateMb (s.rd (F.LNK_BEST_RATE n))) ++ leBytes 1 best ++
  leBytes 1 (s.rd (F.LNK_STATUS_RETRAINS n)) ++ [0, 0]

/-- Training is in progress on a link (R116). -/
def linkTraining (s : State) (n : Fin 4) : Bool := s.linkState n == 1 || s.linkState n == 2 || (s.neg n).isSome

/-- Step 1 of R278: lanes and rate index that a LOWER may not name. -/
def lowerBad (s : State) (n : Fin 4) (lanes rate : Nat) : Bool :=
  decide (s.rd (F.LNK_MODE_LANES n) < lanes ∨ s.rd (F.LNK_MODE_RATE n) < rate ∨ s.cap n 14 < lanes) || !bit (s.cap n 15) rate ||
  (s.ch n).link.table.any fun e => e.1 == rate && decide (e.2 < lanes)

/-- Steps 2 and 3 of R278 on a running channel: status and detail of the refusal, or none. -/
def retrainBad (s : State) (n : Fin 4) (lanes rate : Nat) : Option (Nat × Nat) :=
  let m := s.fw.act
  let p := s.profileNow
  let t := s.checkTimes m n p (lanes, rate)
  if !s.on (F.LEC_STATUS_RUNNING n) || !m.timed n then none
  else if 50000 < t.lead + t.settle then some (stBAD_PARAM, 7)
  else if !s.timetableOk m n p (lanes, rate) then some (stREJECTED_CONFIG, rjTIMETABLE)
  else none

/-- A retrain or its refusal. -/
def retrainTo (s : State) (n : Fin 4) (lanes rate back cause : Nat) (t : Tag) : Ans :=
  match s.retrainBad n lanes rate with
  | some r => refuse s r.1 r.2
  | none =>
    let s := (s.setLimit n lanes rate back).retrain n lanes rate back cause (some t)
    ⟨s, stACCEPTED, 0, s.linkReport n⟩

/-- ENABLE or RENEGOTIATE of a link that is not up. -/
def negotiateNow (s : State) (n : Fin 4) (t : Tag) : Ans :=
  let s := s.negotiate n 0 (some t)
  ⟨s, stACCEPTED, 0, s.linkReport n⟩

/-- LINK_CONTROL. -/
def linkControl (s : State) (t : Tag) (pl : List Byte) : Ans :=
  let n := chan (byteAt pl 0)
  let act := byteAt pl 1
  let lanes := byteAt pl 2
  let lowerRange := (lanes == 1 || lanes == 2) && (rateIx (le16 pl 4)).isSome
  if pl.length != 8 then refuse s stBAD_LENGTH 0
  else if !decide (byteAt pl 0 < 4 ∧ act ≤ 4) || !zeroAt pl 3 1 || !zeroAt pl 6 2 || (act == 3 && !lowerRange) then refuse s stBAD_PARAM 0
  else if act = 0 ∨ (act = 1 ∧ s.linkUp n = true ∧ s.linkTraining n = false) then ⟨s, stOK, 0, s.linkReport n⟩
  else if act = 2 then
    if s.on (F.LEC_STATUS_RUNNING n) then refuse s stWRONG_MODE 0
    else
      let s := (s.linkOff n true).wr (F.LNK_CTRL_EN n) 0
      ⟨s, stOK, 0, s.linkReport n⟩
  else if s.linkTraining n then refuse s stBUSY 0
  else if act = 1 then s.negotiateNow n t
  else if act = 3 then
    let rate := (rateIx (le16 pl 4)).getD 0
    if !s.linkUp n then refuse s stWRONG_MODE 0
    else if s.lowerBad n lanes rate then refuse s stBAD_PARAM 0
    else s.retrainTo n lanes rate (s.rd (F.LNK_MODE_BACK n)) 1 t
  else if s.linkUp n then
    s.retrainTo n (s.rd (F.LNK_BEST_LANES n)) (s.rd (F.LNK_BEST_RATE n)) (s.rd (F.LNK_BEST_BACK n)) 2 t
  else s.negotiateNow n t

/-! ### CHAIN_ROLLCALL (R134, R288) -/

/-- The eight bytes of one port. -/
def rollReport (s : State) (n : Fin 4) : List Byte :=
  let k := s.rd (F.CHN_MODE_DRIVERS n)
  leBytes 1 k ++ leBytes 1 (s.rd (F.CHN_MODE_MUX n)) ++ leBytes 1 (if k = 0 then 0 else pwmBits (s.rd (F.CHN_MODE_PWM n))) ++
  leBytes 1 (s.rd (F.CHN_RC_RESULT n)) ++ leBytes 2 (s.chainKhz n) ++ leBytes 2 (s.rd (F.CHN_RC_TDIAG n))

/-- CHAIN_ROLLCALL; `found` holds what each port's chain returned. -/
def chainRollcall (s : State) (pl : List Byte) (found : List (List Nat)) : Ans :=
  let mask := byteAt pl 0
  let khz := le16 pl 2
  if pl.length != 4 then refuse s stBAD_LENGTH 0
  else if !maskOk mask || !zeroAt pl 1 1 || !(khz == 0 || decide (1000 ≤ khz ∧ khz ≤ 50000)) then refuse s stBAD_PARAM 0
  else if chans.any fun n => bit mask n.val && s.rd (F.CHN_STATUS_STATE n) != 0 then refuse s stBUSY 0
  else
    let s := s.forMask mask fun (s : State) (n : Fin 4) =>
      let s : State := s.modFw fun w => { w with offer := s.fw.offer.set n khz }
      s.rollCall n (if khz = 0 then 50000 else khz) 8 (rollIn (found.getD n.val []))
    ⟨s, stOK, 0, (chans.map fun n => if bit mask n.val then s.rollReport n else []).flatten⟩

/-! ### RESET_FUNCTION (R70, R138) -/

/-- The reset register and bits of a Hall Pass block identifier, for the blocks that RESET_FUNCTION names. -/
def resetBits (id : Nat) : Option (Nat × Nat) :=
  if 7 ≤ id ∧ id ≤ 12 then some (4, 2 ^ (id - 7))
  else if 0x10 ≤ id ∧ id < 0x50 ∧ id % 16 ≤ 13 then some ((id - 16) / 16, if id % 16 = 13 then 65536 else 2 ^ (id % 16))
  else none

/-- The target of a BLOCK reset is idle (R70). -/
def resetIdle (s : State) (id : Nat) : Bool :=
  if 0x10 ≤ id then !s.on (F.LEC_STATUS_RUNNING (chan ((id - 16) / 16)))
  else if id = 9 ∨ id = 10 then chans.all fun n => !s.on (F.LEC_STATUS_RUNNING n)
  else if id = 7 ∨ id = 8 then !(s.fw.rings.any fun r => r.rx == id - 7) &&
    (List.range 16).all fun v => !s.on (F.CSI_VCv_CFG_EN (duo (id - 7)) v)
  else true

/-- BLOCK: answered after release; a reset of the CAN controller that carried the command follows its response. -/
def resetBlock (s : State) (t : Tag) (id : Nat) : Ans :=
  match resetBits id with
  | none => refuse s stBAD_PARAM 0
  | some (k, v) =>
    if !s.resetIdle id then refuse s stWRONG_MODE 0
    else if (id = 11 ∧ t.port = 1) ∨ (id = 12 ∧ t.port = 2) then
      ⟨s.modRst fun r => { r with canReset := s.rst.canReset ||| 2 ^ (id - 11) }, stOK, 0, []⟩
    else
      let s := s.softReset k v
      ⟨s.modRst fun r => { r with softTag := s.rst.softTag ++ [(k, v, t)] }, stDEFER, 0, []⟩

/-- RESET_FUNCTION. -/
def resetFunction (s : State) (t : Tag) (pl : List Byte) : Ans :=
  let ms := le16 pl 4
  if pl.length != 6 then refuse s stBAD_LENGTH 0
  else match byteAt pl 0 with
  | 0 => if zeroAt pl 2 4 then s.resetBlock t (byteAt pl 1) else refuse s stBAD_PARAM 0
  | 1 =>
    if zeroAt pl 1 1 && le16 pl 2 == 0x9480 && zeroAt pl 4 2 then ⟨s.modRst fun r => { r with device := true }, stOK, 0, []⟩
    else refuse s stBAD_PARAM 0
  | 2 =>
    if !(zeroAt pl 1 3 && decide (1 ≤ ms ∧ ms ≤ 1000)) then refuse s stBAD_PARAM 0
    else if s.on F.RST_WDT_CFG_ARMED then refuse s stBUSY 0
    else ⟨s.watchdogArm (ms + 2 ^ 31), stOK, 0, []⟩
  | _ => refuse s stBAD_PARAM 0

/-- A CAN frame has gone; a reset that was to follow it begins (R70). -/
def canSentReset (s : State) (c : Fin 2) : State :=
  let s := s.canSent c
  if bit s.rst.canReset c.val && (s.port (canPort c)).tx.isEmpty then
    (s.modRst fun r => { r with canReset := setBit s.rst.canReset c.val false }).softReset 4 (2 ^ (4 + c.val))
  else s

/-! ### Register commands (R13, R59, R82, R141, R349, R367) -/

/-- Read k words at ascending addresses; the flag falls with a word that cannot be used. -/
def readWords : Nat → Nat → State → State × List Nat × Bool
  | 0, _, s => (s, [], true)
  | k + 1, a, s =>
    let r := s.busRead a
    let q := readWords k (a + 4) r.1
    (q.1, r.2.1 :: q.2.1, r.2.2 && q.2.2)

/-- Write words at ascending addresses. -/
def writeWords : List Nat → Nat → State → State
  | [], _, s => s
  | v :: vs, a, s => writeWords vs (a + 4) (s.busWrite a v)

/-- Words of a range of the internal map, all inside R12. -/
def wordsIn (a k : Nat) : Bool := (List.range k).all fun i => inMap (a + 4 * i)
/-- One of the words may not be written by a mailbox command. -/
def wordsKept (a k : Nat) : Bool := (List.range k).any fun i => cpuOnly (a + 4 * i) || cardReg (a + 4 * i)

/-- The 32-bit words of a byte list. -/
def wordsOf : List Byte → List Nat
  | a :: b :: c :: d :: bs => leNat [a, b, c, d] :: wordsOf bs
  | _ => []

/-- REG_READ. -/
def regRead (s : State) (pl : List Byte) : Ans :=
  let a := le32 pl 4
  let k := le16 pl 8
  if pl.length != 10 then refuse s stBAD_LENGTH 0
  else if a % 4 ≠ 0 ∨ k = 0 then refuse s stBAD_PARAM 0
  else if !wordsIn a k then refuse s stNOT_PRESENT 0
  else
    let r := readWords k a s
    if r.2.2 then ⟨r.1, stOK, 0, (r.2.1.map fun v => leBytes 4 v).flatten⟩ else refuse r.1 stINTERNAL 0

/-- REG_WRITE: no word is written when one is refused. -/
def regWrite (s : State) (pl : List Byte) : Ans :=
  let a := le32 pl 4
  let ws := wordsOf (pl.drop 8)
  if pl.length < 12 ∨ pl.length % 4 ≠ 0 then refuse s stBAD_LENGTH 0
  else if a % 4 ≠ 0 then refuse s stBAD_PARAM 0
  else if !wordsIn a ws.length then refuse s stNOT_PRESENT 0
  else if wordsKept a ws.length then refuse s stBAD_PARAM 0
  else ⟨writeWords ws a s, stOK, 0, []⟩

/-- REG_MODIFY. -/
def regModify (s : State) (pl : List Byte) : Ans :=
  let a := le32 pl 4
  let m := le32 pl 8
  if pl.length != 16 then refuse s stBAD_LENGTH 0
  else if a % 4 ≠ 0 then refuse s stBAD_PARAM 0
  else if !inMap a then refuse s stNOT_PRESENT 0
  else if cpuOnly a || cardReg a then refuse s stBAD_PARAM 0
  else
    let r := s.busRead a
    if !r.2.2 then refuse r.1 stINTERNAL 0
    else
      let v := (r.2.1 &&& (0xFFFFFFFF ^^^ m)) ||| (le32 pl 12 &&& m)
      let q := (r.1.busWrite a v).busRead a
      ⟨q.1, stOK, 0, leBytes 4 r.2.1 ++ leBytes 4 q.2.1⟩

/-! ### MEM_READ, MEM_WRITE (R142) -/

/-- The size of a memory space but the internal map. -/
def spaceSize (sp : Nat) : Nat := if sp ≤ 4 then 0x40000 else 0x8000

/-- Checks of the 16-byte header: status, 0 when it passes. -/
def memCheck (pl : List Byte) : Nat :=
  let sp := byteAt pl 4
  let a := le32 pl 8 + 2 ^ 32 * le32 pl 12
  let len := le16 pl 16
  if !decide (sp ≤ 8 ∧ len % 4 = 0 ∧ a % 4 = 0) || !zeroAt pl 5 3 || !zeroAt pl 18 2 then stBAD_PARAM
  else if sp = 0 then (if wordsIn a (len / 4) then stOK else stNOT_PRESENT)
  else if spaceSize sp < a + len then stBAD_PARAM else stOK

/-- MEM_READ. -/
def memRead (s : State) (pl : List Byte) : Ans :=
  let sp := byteAt pl 4
  let a := le32 pl 8 + 2 ^ 32 * le32 pl 12
  let len := le16 pl 16
  let st := memCheck pl
  if pl.length != 20 then refuse s stBAD_LENGTH 0
  else if st ≠ stOK then refuse s st 0
  else if sp = 0 then
    let r := readWords (len / 4) a s
    if r.2.2 then ⟨r.1, stOK, 0, (r.2.1.map fun v => leBytes 4 v).flatten⟩ else refuse r.1 stINTERNAL 0
  else if sp ≤ 4 then ⟨s, stOK, 0, sgets memReset (s.ch (chan (sp - 1))).sram a len⟩
  else ⟨s, stOK, 0, sgets memReset (s.cn (chan (sp - 5))).mem a len⟩

/-- Bytes written into a chain frame memory; those of the shift bank are ignored while the port is enabled, and all of
them during a self-test of it (R305, R438). -/
def chainWrite (s : State) (n : Fin 4) (a : Nat) (d : List Byte) : State :=
  let b := 16384 * s.rd (F.CHN_STATUS_SHIFT_BANK n)
  let shut := fun (i : Nat) => s.bistOn 1 n || (s.on (F.CHN_CTRL_EN n) && decide (b ≤ i ∧ i < b + 16384))
  let t := d.zipIdx.foldl (fun (s : State) q =>
    if shut (a + q.2) then s else s.modChn n fun c => { c with mem := sset memReset c.mem (a + q.2) q.1 }) s
  if (List.range d.length).any fun i => shut (a + i) then t.report0108 (R.CHN_MEM_DATA n) else t

/-- MEM_WRITE. -/
def memWrite (s : State) (pl : List Byte) : Ans :=
  let sp := byteAt pl 4
  let a := le32 pl 8 + 2 ^ 32 * le32 pl 12
  let len := le16 pl 16
  let d := pl.drop 20
  let st := memCheck pl
  if pl.length != 20 + len then refuse s stBAD_LENGTH 0
  else if st ≠ stOK then refuse s st 0
  else if sp = 0 then
    if wordsKept a (len / 4) then refuse s stBAD_PARAM 0 else ⟨writeWords (wordsOf d) a s, stOK, 0, []⟩
  else if sp ≤ 4 then
    let n := chan (sp - 1)
    if s.showsPattern n then refuse s stBUSY 0
    else ⟨if s.bistOn 2 n then s else s.sramWrite n a d, stOK, 0, []⟩
  else ⟨s.chainWrite (chan (sp - 5)) a d, stOK, 0, []⟩

/-! ### TIMETABLE_LOAD (R143, R198, R207) -/

/-- The end of k fields that begin at byte o. -/
def fieldsEnd (b : List Byte) : Nat → Nat → Nat
  | 0, o => o
  | k + 1, o => fieldsEnd b k (o + 4 + 8 * byteAt b o)

/-- k fields from byte o keep to the slot table of R143. -/
def fieldsOk (b : List Byte) : Nat → Nat → Bool
  | 0, _ => true
  | k + 1, o =>
    let c := byteAt b o
    decide (1 ≤ c ∧ c ≤ 64) && zeroAt b (o + 1) 3 && fieldsOk b k (o + 4 + 8 * c) &&
    (List.range c).all fun j =>
      let e := o + 4 + 8 * j
      decide (byteAt b e ≤ 15 ∨ byteAt b e = 31) && !bit (byteAt b (e + 1)) 3 && zeroAt b (e + 2) 2

/-- Items 1–3 of R198, and items 4–6 when the channel has a frame rate, an array size and a link mode. -/
def loadChecks (s : State) (n : Fin 4) (fs : List (List Slot)) : Bool :=
  let m := { s.fw.act with timing := s.fw.act.timing.set n (patch (s.fw.act.timing.get n) 1 (leBytes 1 fs.length)) }
  let mode := s.linkMode n
  let t := s.checkTimes m n s.profileNow mode
  let amp := fun (k l : Nat) => s.rdC (F.SRC_AMPs_l_A n k l)
  let src := if s.hasNode n then some (s.nodeSources n) else none
  (fs.all fun f => ttShape f && ttMasks src f && ttWeights amp f) &&
  (!s.hasNode n || s.nodeType n != 1 || !s.fw.act.timed n || mode.1 == 0 || (fs.all (fun f => ttShortest t f) && ttEnds t fs && ttLoads t fs))

/-- The loaded timetable of an index is referenced by the pending bank or the composition stage (R116, R159). -/
def timetableUsed (s : State) (n : Fin 4) (i : Nat) : Bool :=
  let names := fun (o : Option Cfg) => match o with | some c => c.tt == 0x80 + i | none => false
  names (s.ch n).cfgPend || names (s.ch n).cfgComp

/-- TIMETABLE_LOAD. -/
def timetableLoad (s : State) (pl : List Byte) : Ans :=
  let n := chan (byteAt pl 4)
  let i := byteAt pl 5
  let k := byteAt pl 6
  let d1 := bit (byteAt pl 7) 0
  let b := pl.drop 6
  let all := if d1 then 2 * k else k
  if pl.length < 8 then refuse s stBAD_LENGTH 0
  else if !decide (byteAt pl 4 < 4 ∧ i < 16 ∧ (k = 1 ∨ k = 3) ∧ byteAt pl 7 < 2) then refuse s stBAD_PARAM 0
  else if fieldsEnd b all 2 ≠ b.length then refuse s stBAD_LENGTH 0
  else if !fieldsOk b all 2 then refuse s stBAD_PARAM 0
  else if s.timetableUsed n i then refuse s stBUSY 0
  else
    let r := ttParse b k 2
    let v := (ttParse b k r.2).1
    let d1Ok := !d1 || ((r.1.zip v).all (fun q => q.2.length == max 16 (q.1.length - 4)) && s.loadChecks n v)
    if !(s.loadChecks n r.1 && d1Ok) then refuse s stREJECTED_CONFIG rjTIMETABLE
    else ⟨s.modFw fun w => { w with tables := sset (fun _ => []) s.fw.tables (16 * n.val + i) b }, stOK, 0, []⟩

/-! ### LINK_EQ (R146, R281) -/

/-- The settings in force of a lane, as request bytes 8–11. -/
def eqReport (s : State) (n : Fin 4) (lane : Nat) : List Byte :=
  if lane = 2 then (s.ch n).link.backTx ++ leBytes 1 (s.get (R.LNK_EQ_B n) % 16)
  else leBytes 3 (s.get (if lane = 0 then R.LNK_EQ_F0 n else R.LNK_EQ_F1 n)) ++ [0]

/-- The node's back-lane transmitter is set by MGMT command 0x0A while the link is UP (R266). -/
def setBackTx (s : State) (n : Fin 4) (cursors : List Byte) : State :=
  if s.linkUp n then (s.mgmt n 0x0A cursors).modLink n fun l => { l with backTx := cursors } else s

/-- LINK_EQ: the device transmits on F0 and F1 and receives on B, the node transmits on B; the eye is measured. -/
def linkEq (s : State) (pl : List Byte) (width height : Nat) : Ans :=
  let n := chan (byteAt pl 4)
  let lane := byteAt pl 5
  let act := byteAt pl 6
  if pl.length != 12 then refuse s stBAD_LENGTH 0
  else if !decide (byteAt pl 4 < 4 ∧ lane ≤ 2 ∧ act ≤ 2) || !zeroAt pl 7 1 ||
      (act == 2 && (lane != 2 || decide (15 < byteAt pl 11))) then refuse s stBAD_PARAM 0
  else if act ≠ 0 ∧ s.on (F.LEC_STATUS_RUNNING n) = true then refuse s stBUSY 0
  else
    let s := if act = 1 ∧ lane = 2 then s.setBackTx n (slice pl 8 3)
      else if act = 1 then s.put (if lane = 0 then R.LNK_EQ_F0 n else R.LNK_EQ_F1 n) (le24 pl 8)
      else if act = 2 then s.put (R.LNK_EQ_B n) (byteAt pl 11) else s
    ⟨s, stOK, 0, leBytes 2 width ++ leBytes 2 height ++ s.eqReport n lane⟩

end State

/-- HELLO (R97, R98). -/
def execHello (port : Fin 3) (mb : Fin 6) (s : State) : Outcome State Fault Refusal :=
  .next (s.serve port mb (· == 0x01) State.hello)
/-- GET_INFO (R117). -/
def execGetInfo (port : Fin 3) (mb : Fin 6) (s : State) : Outcome State Fault Refusal :=
  .next (s.serve port mb (· == 0x02) fun s _ pl => s.getInfo pl)
/-- GET_STATUS (R118). -/
def execGetStatus (port : Fin 3) (mb : Fin 6) (s : State) : Outcome State Fault Refusal :=
  .next (s.serve port mb (· == 0x04) fun s _ pl => s.getStatus pl)
/-- READ_EVENTS (R136). -/
def execReadEvents (port : Fin 3) (mb : Fin 6) (s : State) : Outcome State Fault Refusal :=
  .next (s.serve port mb (· == 0x0F) State.readEvents)
/-- CLEAR_EVENTS (R137). -/
def execClearEvents (port : Fin 3) (mb : Fin 6) (s : State) : Outcome State Fault Refusal :=
  .next (s.serve port mb (· == 0x10) State.clearEvents)
/-- LINK_CONTROL (R133). -/
def execLinkControl (port : Fin 3) (mb : Fin 6) (s : State) : Outcome State Fault Refusal :=
  .next (s.serve port mb (· == 0x13) State.linkControl)
/-- CHAIN_ROLLCALL (R134). -/
def execChainRollcall (port : Fin 3) (mb : Fin 6) (found : List (List Nat)) (s : State) : Outcome State Fault Refusal :=
  .next (s.serve port mb (· == 0x14) fun s _ pl => s.chainRollcall pl found)
/-- RESET_FUNCTION (R138). -/
def execResetFunction (port : Fin 3) (mb : Fin 6) (s : State) : Outcome State Fault Refusal :=
  .next (s.serve port mb (· == 0x16) State.resetFunction)
/-- HALLPASS_REQ (R105). -/
def execHallpassReq (port : Fin 3) (mb : Fin 6) (s : State) : Outcome State Fault Refusal :=
  .next (s.serve port mb (· == 0x80) fun s _ pl => s.hallpassReq pl)
/-- HALLPASS_RETURN (R105). -/
def execHallpassReturn (port : Fin 3) (mb : Fin 6) (s : State) : Outcome State Fault Refusal :=
  .next (s.serve port mb (· == 0x81) fun s _ pl => s.hallpassReturn pl)
/-- REG_READ (R141). -/
def execRegRead (port : Fin 3) (mb : Fin 6) (s : State) : Outcome State Fault Refusal :=
  .next (s.serve port mb (· == 0x82) fun s _ pl => s.regRead pl)
/-- REG_WRITE (R141). -/
def execRegWrite (port : Fin 3) (mb : Fin 6) (s : State) : Outcome State Fault Refusal :=
  .next (s.serve port mb (· == 0x83) fun s _ pl => s.regWrite pl)
/-- REG_MODIFY (R141). -/
def execRegModify (port : Fin 3) (mb : Fin 6) (s : State) : Outcome State Fault Refusal :=
  .next (s.serve port mb (· == 0x84) fun s _ pl => s.regModify pl)
/-- MEM_READ (R142). -/
def execMemRead (port : Fin 3) (mb : Fin 6) (s : State) : Outcome State Fault Refusal :=
  .next (s.serve port mb (· == 0x85) fun s _ pl => s.memRead pl)
/-- MEM_WRITE (R142). -/
def execMemWrite (port : Fin 3) (mb : Fin 6) (s : State) : Outcome State Fault Refusal :=
  .next (s.serve port mb (· == 0x86) fun s _ pl => s.memWrite pl)
/-- TIMETABLE_LOAD (R143). -/
def execTimetableLoad (port : Fin 3) (mb : Fin 6) (s : State) : Outcome State Fault Refusal :=
  .next (s.serve port mb (· == 0x8D) fun s _ pl => s.timetableLoad pl)
/-- LINK_EQ (R146). -/
def execLinkEq (port : Fin 3) (mb : Fin 6) (width height : Nat) (s : State) : Outcome State Fault Refusal :=
  .next (s.serve port mb (· == 0x8E) fun s _ pl => s.linkEq pl width height)
/-- A command whose opcode R111 does not list: UNKNOWN_OPCODE (R95 step 5). -/
def execUndefinedOpcodeCommand (port : Fin 3) (mb : Fin 6) (s : State) : Outcome State Fault Refusal :=
  .next (s.serve port mb (fun op => !definedOp op) fun s _ _ => refuse s stUNKNOWN_OPCODE 0)
/-- CAN_FRAME_SENT (R70, R103). -/
def execCanFrameSent (c : Duo) (s : State) : Outcome State Fault Refusal :=
  .next (if s.sysStill (4 + c.val) then s else s.canSentReset c)

end Sys2Proof.Machine
end

