-- ==== Sys2Proof/Machine/Dispatch.lean ====
section
/-! DEFINITION. One arm for each command: a direct call of its meaning. -/

namespace Sys2Proof.Machine

def exec (i : Instr) (s : State) : Host.Outcome State Fault Refusal :=
  match i with
  | .hspiRead addr n k => Sys2Proof.Machine.execHspiRead addr n s k
  | .hspiFastRead addr n late k => Sys2Proof.Machine.execHspiFastRead addr n late s k
  | .hspiQuadRead addr n late k => Sys2Proof.Machine.execHspiQuadRead addr n late s k
  | .hspiWrite op addr bytes partBits => Sys2Proof.Machine.execHspiWrite op addr bytes partBits s
  | .hspiQuadWrite addr bytes partBits => Sys2Proof.Machine.execHspiQuadWrite addr bytes partBits s
  | .hspiReadStatus n k => Sys2Proof.Machine.execHspiReadStatus n s k
  | .fastLaneWrite addr bytes k => Sys2Proof.Machine.execFastLaneWrite addr bytes s k
  | .doorbell v => Sys2Proof.Machine.execDoorbell v s
  | .outboxAck v => Sys2Proof.Machine.execOutboxAck v s
  | .notificationPlace => Sys2Proof.Machine.execNotificationPlace s
  | .canRequestFrame c mb bytes fd => Sys2Proof.Machine.execCanRequestFrame c mb bytes fd s
  | .canFrameSent c => Sys2Proof.Machine.execCanFrameSent c s
  | .canErrorPassive c => Sys2Proof.Machine.execCanErrorPassive c s
  | .canBusOff c => Sys2Proof.Machine.execCanBusOff c s
  | .canBusOffRecovery c => Sys2Proof.Machine.execCanBusOffRecovery c s
  | .hello port mb => Sys2Proof.Machine.execHello port mb s
  | .getInfo port mb => Sys2Proof.Machine.execGetInfo port mb s
  | .setMode port mb => Sys2Proof.Machine.execSetMode port mb s
  | .getStatus port mb => Sys2Proof.Machine.execGetStatus port mb s
  | .setTiming port mb => Sys2Proof.Machine.execSetTiming port mb s
  | .loadAsset port mb => Sys2Proof.Machine.execLoadAsset port mb s
  | .setLayer port mb => Sys2Proof.Machine.execSetLayer port mb s
  | .commit port mb => Sys2Proof.Machine.execCommit port mb s
  | .setBeam port mb => Sys2Proof.Machine.execSetBeam port mb s
  | .setMasks port mb => Sys2Proof.Machine.execSetMasks port mb s
  | .setAnimation port mb => Sys2Proof.Machine.execSetAnimation port mb s
  | .setGroups port mb => Sys2Proof.Machine.execSetGroups port mb s
  | .setDerate port mb => Sys2Proof.Machine.execSetDerate port mb s
  | .runCalibration port mb => Sys2Proof.Machine.execRunCalibration port mb s
  | .readEvents port mb => Sys2Proof.Machine.execReadEvents port mb s
  | .clearEvents port mb => Sys2Proof.Machine.execClearEvents port mb s
  | .snapshot port mb => Sys2Proof.Machine.execSnapshot port mb s
  | .setLevelling port mb => Sys2Proof.Machine.execSetLevelling port mb s
  | .linkControl port mb => Sys2Proof.Machine.execLinkControl port mb s
  | .chainRollcall port mb found => Sys2Proof.Machine.execChainRollcall port mb found s
  | .setDegrade port mb => Sys2Proof.Machine.execSetDegrade port mb s
  | .resetFunction port mb => Sys2Proof.Machine.execResetFunction port mb s
  | .setLoop port mb => Sys2Proof.Machine.execSetLoop port mb s
  | .storeConfig port mb => Sys2Proof.Machine.execStoreConfig port mb s
  | .hallpassReq port mb => Sys2Proof.Machine.execHallpassReq port mb s
  | .hallpassReturn port mb => Sys2Proof.Machine.execHallpassReturn port mb s
  | .hallpassExpiry g => Sys2Proof.Machine.execHallpassExpiry g s
  | .regRead port mb => Sys2Proof.Machine.execRegRead port mb s
  | .regWrite port mb => Sys2Proof.Machine.execRegWrite port mb s
  | .regModify port mb => Sys2Proof.Machine.execRegModify port mb s
  | .memRead port mb => Sys2Proof.Machine.execMemRead port mb s
  | .memWrite port mb => Sys2Proof.Machine.execMemWrite port mb s
  | .dramTrainStep port mb results => Sys2Proof.Machine.execDramTrainStep port mb results s
  | .calStep port mb q => Sys2Proof.Machine.execCalStep port mb q s
  | .traceSetup port mb => Sys2Proof.Machine.execTraceSetup port mb s
  | .injectSetup port mb => Sys2Proof.Machine.execInjectSetup port mb s
  | .traceRead port mb => Sys2Proof.Machine.execTraceRead port mb s
  | .loopLoadMatrix port mb => Sys2Proof.Machine.execLoopLoadMatrix port mb s
  | .timetableLoad port mb => Sys2Proof.Machine.execTimetableLoad port mb s
  | .linkEq port mb width height => Sys2Proof.Machine.execLinkEq port mb width height s
  | .fwUpdate port mb fault => Sys2Proof.Machine.execFwUpdate port mb fault s
  | .flashOpComplete fault => Sys2Proof.Machine.execFlashOpComplete fault s
  | .modeTransitionComplete => Sys2Proof.Machine.execModeTransitionComplete s
  | .pwrWarnFall => Sys2Proof.Machine.execPwrWarnFall s
  | .pwrWarnRise => Sys2Proof.Machine.execPwrWarnRise s
  | .parkTimeout => Sys2Proof.Machine.execParkTimeout s
  | .standbyMinLowExpiry => Sys2Proof.Machine.execStandbyMinLowExpiry s
  | .wakePin p => Sys2Proof.Machine.execWakePin p s
  | .wakeCanPattern c => Sys2Proof.Machine.execWakeCanPattern c s
  | .wakeHspi => Sys2Proof.Machine.execWakeHspi s
  | .wakeTimer => Sys2Proof.Machine.execWakeTimer s
  | .coreSupplyGood => Sys2Proof.Machine.execCoreSupplyGood s
  | .pmicTimeout => Sys2Proof.Machine.execPmicTimeout s
  | .crystalSwitch => Sys2Proof.Machine.execCrystalSwitch s
  | .crystalStop => Sys2Proof.Machine.execCrystalStop s
  | .pllLock p => Sys2Proof.Machine.execPllLock p s
  | .pllLockLoss p => Sys2Proof.Machine.execPllLockLoss p s
  | .pllStop p => Sys2Proof.Machine.execPllStop p s
  | .clockGood d => Sys2Proof.Machine.execClockGood d s
  | .clockEnableWrite k v => Sys2Proof.Machine.execClockEnableWrite k v s
  | .dramDrainComplete => Sys2Proof.Machine.execDramDrainComplete s
  | .trainingRestoreComplete outcomes => Sys2Proof.Machine.execTrainingRestoreComplete outcomes s
  | .degradeAdvisory reason => Sys2Proof.Machine.execDegradeAdvisory reason s
  | .powerOn bank0 win => Sys2Proof.Machine.execPowerOn s bank0 win
  | .aonRelease => Sys2Proof.Machine.execAonRelease s
  | .vddCoreBrownOut => Sys2Proof.Machine.execVddCoreBrownOut s
  | .resetNPulse => Sys2Proof.Machine.execResetNPulse s
  | .jtagReset => Sys2Proof.Machine.execJtagReset s
  | .watchdogExpiry => Sys2Proof.Machine.execWatchdogExpiry s
  | .watchdogKick => Sys2Proof.Machine.execWatchdogKick s
  | .watchdogArm v => Sys2Proof.Machine.execWatchdogArm v s
  | .deviceResetDelay => Sys2Proof.Machine.execDeviceResetDelay s
  | .deviceReset v => Sys2Proof.Machine.execDeviceReset v s
  | .optionLoadingComplete straps otp otpOk banks testenN => Sys2Proof.Machine.execOptionLoadingComplete straps otp otpOk banks testenN s
  | .releasePendingTimeout => Sys2Proof.Machine.execReleasePendingTimeout s
  | .softReset k v => Sys2Proof.Machine.execSoftReset k v s
  | .softResetRelease k v => Sys2Proof.Machine.execSoftResetRelease s k v
  | .imageSlotCheck modes fault => Sys2Proof.Machine.execImageSlotCheck modes fault s
  | .dramBringupComplete ch how => Sys2Proof.Machine.execDramBringupComplete ch how s
  | .assetCopyComplete => Sys2Proof.Machine.execAssetCopyComplete s
  | .bootLightStart n => Sys2Proof.Machine.execBootLightStart n s
  | .bootComplete => Sys2Proof.Machine.execBootComplete s
  | .frameStart n => Sys2Proof.Machine.execFrameStart n s
  | .latchPoint n => Sys2Proof.Machine.execLatchPoint n s
  | .transferLine n => Sys2Proof.Machine.execTransferLine n s
  | .compositionComplete n => Sys2Proof.Machine.execCompositionComplete n s
  | .fieldStart n => Sys2Proof.Machine.execFieldStart n s
  | .lecCommitGo n v => Sys2Proof.Machine.execLecCommitGo n v s
  | .lecRunWrite n v => Sys2Proof.Machine.execLecRunWrite n v s
  | .bellWrite v => Sys2Proof.Machine.execBellWrite v s
  | .bellStrobe => Sys2Proof.Machine.execBellStrobe s
  | .frameLockWrite v => Sys2Proof.Machine.execFrameLockWrite v s
  | .lsyncInEdge p inWindow => Sys2Proof.Machine.execLsyncInEdge p inWindow s
  | .lsyncEdgeMissing => Sys2Proof.Machine.execLsyncEdgeMissing s
  | .errClear addr v => Sys2Proof.Machine.execErrClear addr v s
  | .registerWrite addr v => Sys2Proof.Machine.execRegisterWrite addr v s
  | .csiPacket rx pkt => Sys2Proof.Machine.execCsiPacket rx pkt s
  | .csiFrameComplete rx vc => Sys2Proof.Machine.execCsiFrameComplete rx vc s
  | .csiStopTimeout rx vc => Sys2Proof.Machine.execCsiStopTimeout rx vc s
  | .csiEntryEnableWrite rx vc v => Sys2Proof.Machine.execCsiEntryEnableWrite rx vc v s
  | .layerUnderrun n x row => Sys2Proof.Machine.execLayerUnderrun n x row s
  | .lutPortWrite n v => Sys2Proof.Machine.execLutPortWrite n v s
  | .coefRamWrite n off v => Sys2Proof.Machine.execCoefRamWrite n off v s
  | .meshPortWrite n v => Sys2Proof.Machine.execMeshPortWrite n v s
  | .timetableRamWrite n off v => Sys2Proof.Machine.execTimetableRamWrite n off v s
  | .chainMemWrite n v => Sys2Proof.Machine.execChainMemWrite n v s
  | .injTableWrite n e v => Sys2Proof.Machine.execInjTableWrite n e v s
  | .blockPacketSend n => Sys2Proof.Machine.execBlockPacketSend n s
  | .blockDeadlineMiss n slot blk => Sys2Proof.Machine.execBlockDeadlineMiss n slot blk s
  | .scanLineStart n complete => Sys2Proof.Machine.execScanLineStart n complete s
  | .maskInject n v => Sys2Proof.Machine.execMaskInject n v s
  | .maskLifetimeExpiry n slot => Sys2Proof.Machine.execMaskLifetimeExpiry n slot s
  | .maskAckTimeout n slot => Sys2Proof.Machine.execMaskAckTimeout n slot s
  | .controlSlot n => Sys2Proof.Machine.execControlSlot n s
  | .lampEnMismatch n => Sys2Proof.Machine.execLampEnMismatch n s
  | .derateEvaluation n => Sys2Proof.Machine.execDerateEvaluation n s
  | .tempInputLoss n => Sys2Proof.Machine.execTempInputLoss n s
  | .backSensor n arr stamp payload => Sys2Proof.Machine.execBackSensor n arr stamp payload s
  | .backStatus n arr payload => Sys2Proof.Machine.execBackStatus n arr payload s
  | .backNak n arr payload => Sys2Proof.Machine.execBackNak n arr payload s
  | .backMaskAck n arr payload => Sys2Proof.Machine.execBackMaskAck n arr payload s
  | .backTableAck n arr payload => Sys2Proof.Machine.execBackTableAck n arr payload s
  | .backCacheAck n arr payload => Sys2Proof.Machine.execBackCacheAck n arr payload s
  | .backCapability n bytes arr => Sys2Proof.Machine.execBackCapability n bytes s arr
  | .backEcho n payload arr => Sys2Proof.Machine.execBackEcho n payload s arr
  | .backEye n payload backPass arr => Sys2Proof.Machine.execBackEye n payload backPass s arr
  | .backSyncLoss n => Sys2Proof.Machine.execBackSyncLoss n s
  | .backSilence n => Sys2Proof.Machine.execBackSilence n s
  | .capReqRepeat n => Sys2Proof.Machine.execCapReqRepeat n s
  | .capabilityTimeout n => Sys2Proof.Machine.execCapabilityTimeout n s
  | .trainSwitch n => Sys2Proof.Machine.execTrainSwitch n s
  | .eyeTimeout n backPass => Sys2Proof.Machine.execEyeTimeout n s backPass
  | .retrainStart n => Sys2Proof.Machine.execRetrainStart n s
  | .chainSwapPoint n => Sys2Proof.Machine.execChainSwapPoint n s
  | .chainReloadComplete n frames => Sys2Proof.Machine.execChainReloadComplete n frames s
  | .auditWindowEnd n => Sys2Proof.Machine.execAuditWindowEnd n s
  | .tutorLatch n c => Sys2Proof.Machine.execTutorLatch n c s
  | .tutorRelease n c => Sys2Proof.Machine.execTutorRelease n c s
  | .pitchFrame can id bytes => Sys2Proof.Machine.execPitchFrame can id bytes s
  | .pitchTimeout n => Sys2Proof.Machine.execPitchTimeout n s
  | .traceArm n v => Sys2Proof.Machine.execTraceArm n v s
  | .injectionGo n v => Sys2Proof.Machine.execInjectionGo n v s
  | .sensorConversion k raw => Sys2Proof.Machine.execSensorConversion k raw s
  | .calDueCheck => Sys2Proof.Machine.execCalDueCheck s
  | .calTakeComplete figs => Sys2Proof.Machine.execCalTakeComplete figs s
  | .calRecessApply => Sys2Proof.Machine.execCalRecessApply s
  | .calDeferExpiry => Sys2Proof.Machine.execCalDeferExpiry s
  | .calStepTimeout => Sys2Proof.Machine.execCalStepTimeout s
  | .dramRequest port addr write len => Sys2Proof.Machine.execDramRequest port addr write len s
  | .dramCommandSlot ch => Sys2Proof.Machine.execDramCommandSlot ch s
  | .dramRequestPromotion ch idx => Sys2Proof.Machine.execDramRequestPromotion ch idx s
  | .dramReadReturn ch syndromes => Sys2Proof.Machine.execDramReadReturn ch syndromes s
  | .refreshDue ch => Sys2Proof.Machine.execRefreshDue ch s
  | .zqcsDue ch => Sys2Proof.Machine.execZqcsDue ch s
  | .rowDisturbWindowEnd ch => Sys2Proof.Machine.execRowDisturbWindowEnd ch s
  | .alertPulse ch clocks => Sys2Proof.Machine.execAlertPulse ch clocks s
  | .selfRefreshIdle ch => Sys2Proof.Machine.execSelfRefreshIdle ch s
  | .holdSelfRefreshWrite ch v => Sys2Proof.Machine.execHoldSelfRefreshWrite ch v s
  | .patternRunGo ch v => Sys2Proof.Machine.execPatternRunGo ch v s
  | .patternRunDone ch mismatches => Sys2Proof.Machine.execPatternRunDone ch mismatches s
  | .eventRequest code sev a b block => Sys2Proof.Machine.execEventRequest code sev a b block s
  | .eventRecordWrite => Sys2Proof.Machine.execEventRecordWrite s
  | .fwQueueOverflowReport => Sys2Proof.Machine.execFwQueueOverflowReport s
  | .faultReleaseWrite v => Sys2Proof.Machine.execFaultReleaseWrite v s
  | .logClearRequest v => Sys2Proof.Machine.execLogClearRequest v s
  | .logClearEnd => Sys2Proof.Machine.execLogClearEnd s
  | .drillGo v => Sys2Proof.Machine.execDrillGo v s
  | .drillDeadline => Sys2Proof.Machine.execDrillDeadline s
  | .processorHalt a => Sys2Proof.Machine.execProcessorHalt a s
  | .processorSramCorrected addr => Sys2Proof.Machine.execProcessorSramCorrected addr s
  | .scantestHalt => Sys2Proof.Machine.execScantestHalt s
  | .tapIdcode => Sys2Proof.Machine.execTapIdcode s
  | .tapExtest => Sys2Proof.Machine.execTapExtest s
  | .tapSample pins => Sys2Proof.Machine.execTapSample pins s
  | .tapPreload cells => Sys2Proof.Machine.execTapPreload cells s
  | .tapClamp => Sys2Proof.Machine.execTapClamp s
  | .tapHighz => Sys2Proof.Machine.execTapHighz s
  | .tapBypass => Sys2Proof.Machine.execTapBypass s
  | .tapFactory code => Sys2Proof.Machine.execTapFactory code s
  | .tapEvrRead sel => Sys2Proof.Machine.execTapEvrRead sel s
  | .tapEvrClear key => Sys2Proof.Machine.execTapEvrClear key s
  | .tapBistCtrl v => Sys2Proof.Machine.execTapBistCtrl v s
  | .tapBistResult => Sys2Proof.Machine.execTapBistResult s
  | .bistGo v => Sys2Proof.Machine.execBistGo v s
  | .bistComplete errs word mem => Sys2Proof.Machine.execBistComplete errs word mem s
  | .undefinedOpcodeCommand port mb => Sys2Proof.Machine.execUndefinedOpcodeCommand port mb s
  | .vddCoreGood => Sys2Proof.Machine.execVddCoreGood s
  | .bootRollCall found => Sys2Proof.Machine.execBootRollCall found s
  | .chainSwapWaitTimeout n => Sys2Proof.Machine.execChainSwapWaitTimeout n s
  | .backLaneSyncGained n => Sys2Proof.Machine.execBackLaneSyncGained n s
  | .csiLaneStateChange rx stop ulps deskewed => Sys2Proof.Machine.execCsiLaneStateChange rx stop ulps deskewed s

end Sys2Proof.Machine
end

