-- ==== Sys2Proof/Safety.lean ====
section
/-! DEFINITION. What a safe run is, in the terms the statements use: the canonical forms of the state, the bounds that the
manual gives its queues, and the words the statements share: what stays unchanged, an event requested, a command waiting
and answered. -/

namespace Sys2Proof.Machine

/-- Canonical form of a memory: addresses strictly rising, no byte equal to what an unlisted one reads as. -/
def Memory.wf (m : Mem) : Bool := swf memReset m

/-- Canonical form of a register bank. -/
def RegFile.wf (r : RegFile) : Bool := swf regReset r

namespace State

/-- The recorder FIFO holds at most 16 requests (R386). -/
def fifoOk (s : State) : Bool := decide (s.evr.fifo.length ≤ 16)

/-- At most 16 notifications wait on a port (R100). -/
def notifsOk (s : State) : Bool := ([0, 1, 2] : List (Fin 3)).all fun p => decide ((s.port p).notifs.length ≤ 16)

/-- At most eight grants are live (R105). -/
def grantsOk (s : State) : Bool := decide (s.mbx.grants.length ≤ 8)

/-- The register file and DRAM are in canonical form. -/
def canonical (s : State) : Bool := RegFile.wf s.regs && Memory.wf s.dram

/-- A safe state. -/
def safe (s : State) : Bool := s.canonical && s.fifoOk && s.notifsOk && s.grantsOk

/-! ### What stays unchanged -/

/-- Every register whose address is not in the list reads as before. -/
def regsKeep (s t : State) (l : List Nat) : Prop := ∀ a, a ∉ l → t.get a = s.get a

/-- Every byte of DRAM reads as before. -/
def dramKeeps (s t : State) : Prop := ∀ a, t.dbyte a = s.dbyte a

/-- The registers that an event request may change: MBX_IRQ_STATUS, EVR_FAULT, EVR_DROPPED, EVR_STATUS (R386, R390). -/
def eventRegs : List Nat := [R.MBX_IRQ_STATUS, R.EVR_FAULT, R.EVR_DROPPED, R.EVR_STATUS]

/-- The error registers of the block at a base (R16). -/
def errRegs (base : Nat) : List Nat := [base + 0x1F0, base + 0x1F4]

/-! ### Events -/

/-- With room in the recorder FIFO of s, the requests of t are those of s and one more: its code, severity, parameters
and tick (R386, R392). -/
def logged (s t : State) (code sev a b : Nat) : Prop :=
  s.evr.fifo.length < 16 →
    ∃ q, t.evr.fifo = s.evr.fifo ++ [q] ∧ q.code = code ∧ q.sev = sev ∧ q.a = a % 65536 ∧ q.b = b % 65536 ∧
      q.tick = s.tb.toNat

/-! ### Commands -/

/-- A whole command message of an opcode with SEQ, FLAGS and payload waits in mailbox mb of port p, firmware serves it, its
turn has come (R90), and it passes steps 1 to 4 of R95: the payload within the settled maximum, the CRC as R92 has it, no
sequence state and no partial command, FLAGS as required. -/
structure Waits (s : State) (p : Fin 3) (mb : Fin 6) (op flags seq : Nat) (pl : List Byte) : Prop where
  served : s.serves p mb.val = true
  waits : ∃ pad, s.waiting p mb.val = some (mkMessage op flags seq pl ++ pad)
  op_lt : op < 256
  seq_lt : seq < 65536
  flags_ok : flagsOk p op flags = true
  whole : bit flags 2 = false
  max : pl.length ≤ s.maxPay p
  len_lt : pl.length < 65536
  fresh : sget (fun _ => none) (s.port p).seqs mb.val = none
  noFrag : s.frag p mb.val = none
  running : s.rst.cpu = .running
  turn : s.turn p mb.val op = true

/-- A command waits and passes steps 5 to 7 of R95 too: an expert command on HSPI with a grant that covers its target, a
command legal in the mode in force. -/
structure Asks (s : State) (p : Fin 3) (mb : Fin 6) (op flags seq : Nat) (pl : List Byte) : Prop
    extends Waits s p mb op flags seq pl where
  expert : expertOp op = true → p = 0
  grant : s.grantCheck op pl = stOK
  legal : legalIn op (byteAt pl 0) s.mode (s.mode == modeLIMP && s.rd F.SYS_MODE_PROFILE == 3) = true

/-- Mailbox mb of port p has been answered: the response of R93 is cached (R96), and it stands in the outbox with
OUTBOX_FULL set, or in the queue of frames to send (R89, R103). -/
def answered (t : State) (p : Fin 3) (mb : Fin 6) (op seq st detail : Nat) (data : List Byte) : Prop :=
  let m := mkMessage op 1 seq (statusWord st detail ++ data)
  sget (fun _ => none) (t.port p).seqs mb.val = some ⟨seq, m⟩ ∧
  (p = 0 → t.isFull mb.val = true ∧ t.hostRead (outboxAt mb.val) m.length = m) ∧
  (p ≠ 0 → ((t.port p).rspId + mb.val, canPad m) ∈ (t.port p).tx)

/-- Nothing but the ports and the firmware's own data has changed: every register but MBX_HSTAT and MBX_IRQ_STATUS, DRAM, the
timebase, the recorder, the channels and every other part of the machine are as before. -/
structure mailOnly (s t : State) : Prop where
  regs : s.regsKeep t [R.MBX_HSTAT, R.MBX_IRQ_STATUS]
  dram : t.dram = s.dram
  banks : t.pend = s.pend ∧ t.comp = s.comp ∧ t.strm = s.strm ∧ t.actv = s.actv
  time : t.tb = s.tb
  evr : t.evr = s.evr
  sys : t.sys = s.sys
  rst : t.rst = s.rst
  aon : t.aon = s.aon
  pins : t.pins = s.pins
  csi : t.csi = s.csi
  lec : t.lec = s.lec
  dmc : t.dmc = s.dmc
  cal : t.cal = s.cal
  tap : t.tap = s.tap

/-- A command of firmware's alone answers with a status: nothing but the mailbox and firmware's data changes, and the data
become those given. -/
def replies (s t : State) (p : Fin 3) (mb : Fin 6) (op seq st : Nat) (fw : Fw) : Prop :=
  t.answered p mb op seq st 0 [] ∧ s.mailOnly t ∧ t.fw = fw

/-- A command is answered, and the machine becomes u: nothing else but the mailboxes and ports differs. -/
def performs (u t : State) (p : Fin 3) (mb : Fin 6) (op seq st detail : Nat) (data : List Byte) : Prop :=
  t.answered p mb op seq st detail data ∧ u.mailOnly t ∧ t.fw = u.fw

/-- A command is answered OK and stages a configuration: nothing but the mailbox and the stage changes. -/
def stages (s t : State) (p : Fin 3) (mb : Fin 6) (op seq : Nat) (m : Stage) : Prop :=
  s.replies t p mb op seq stOK { s.fw with stage := m }

end State

end Sys2Proof.Machine
end

