-- ==== Sys2Proof/Certificates/Slice0/Obligations.lean ====
section
/-! DEFINITION. The statements for the provers. -/

open Sys2Proof Sys2Proof.Machine

/-! ### The queue and the tick -/

/-- A step runs the command at the front of the queue with the queue's rest. -/
def Obligations.StepRunsFront : Prop :=
  ∀ (c : Instr) (cs : List Instr) (s : State), step { s with pending := c :: cs } = exec c { s with pending := cs }

/-- On an empty queue a step is one tick of the timebase while VAON is good (R48; the tick as the idle step is the model's
choice, log entry 3). A step takes exactly one command from the queue and adds none. -/
def Obligations.QueueAndTick : Prop :=
  (∀ s : State, s.pending = [] →
      ∃ t, step s = .next t ∧ t.pending = [] ∧ t.dram = s.dram ∧ t.lec = s.lec ∧
        (s.aon.vaonGood = true → t.tb = s.tb + 1) ∧ (s.aon.vaonGood = false → t = s)) ∧
  (∀ s t : State, step s = .next t → t.pending = s.pending.tail)

/-- Every step keeps the register file and DRAM in canonical form: addresses strictly rising, no entry equal to what an unlisted
address reads as. -/
def Obligations.StepKeepsCanonical : Prop :=
  ∀ s t : State, s.canonical = true → step s = .next t → t.canonical = true

/-- Every step keeps the recorder FIFO at 16 requests or fewer (R386). -/
def Obligations.StepKeepsFifoBound : Prop :=
  ∀ s t : State, s.fifoOk = true → step s = .next t → t.fifoOk = true

/-- SYS_ID reads 0x9480C201: device number, silicon revision, package code (R2). IDCODE reads 0x294801CB: version, the low
nibble of the revision byte, part number, manufacturer, 1 (R429). -/
def Obligations.Identification : Prop :=
  R.SYS_ID = 0x40000000 ∧ State.reset.get R.SYS_ID = 0x9480C201 ∧ bits (State.reset.get R.SYS_ID) 16 16 = 0x9480 ∧
  bits (State.reset.get R.SYS_ID) 8 8 = 0xC2 ∧ bits (State.reset.get R.SYS_ID) 0 8 = 0x01 ∧
  ∀ s : State, s.aon.vaonGood = true → ∃ t, exec .tapIdcode s = .next t ∧ t.tap.shift = 0x294801CB ∧
    bits t.tap.shift 28 4 = 0xC2 % 16 ∧ bits t.tap.shift 12 16 = 0x9480 ∧ bits t.tap.shift 1 11 = 0x0E5 ∧ bits t.tap.shift 0 1 = 1

/-- The machine right after reset meets the invariants. What power-on leaves (R37, R61, R386, R397): no record is in the log,
every channel and link is off, no lamp enable, latch or output enable is driven active. -/
def Obligations.ResetState : Prop :=
  (State.reset.safe = true) ∧
  (State.reset.rd F.EVR_STATUS_USED = 0 ∧ State.reset.rd F.EVR_DROPPED_COUNT = 0 ∧
    State.reset.evr.fifo = [] ∧ State.reset.pending = [] ∧ State.reset.mbx.grants = [] ∧
    (∀ n : Fin 4, State.reset.on (F.LEC_CTRL_RUN n) = false ∧ State.reset.linkState n = 0 ∧
      State.reset.rd (F.SRC_STATUS_ARM n) = 0 ∧ State.reset.pins.lampEnN.get n = true ∧
      State.reset.pins.oeN.get n = true ∧ State.reset.pins.latN.get n = true))

/-! ### HSPI transactions (R84–R88) -/

/-- Read status returns MBX_HSTAT bytes 0–3 in that order and repeats them; WIN_LIVE tells whether a grant is live, and nothing
else of the registers and no byte of DRAM changes. A transaction that ends in the middle of a byte is malformed (R85, R86). A
read of the mailboxes returns the bytes at ascending addresses and changes nothing else: 0x03, 0x0B, and 0x6B once quad use is
settled (R84, R85, R88). One that ends in the middle of a byte is served as far as its whole bytes and counts as malformed
(R86). -/
def Obligations.HspiReads : Prop :=
  (∀ (n k : Nat) (s : State), s.hspiServed = true →
      ∃ t, exec (.hspiReadStatus n k) s = .next t ∧ t.dram = s.dram ∧ t.mbx.out.length = n ∧
        (∀ i, i < n → t.mbx.out[i]? = some (BitVec.ofNat 8 (s.grantStatus.get R.MBX_HSTAT / 2 ^ (8 * (i % 4))))) ∧
        t.on F.MBX_HSTAT_WIN_LIVE = !s.liveGrants.isEmpty ∧
        (k % 8 = 0 → s.regsKeep t [R.MBX_HSTAT, R.MBX_GRANT_STATUS] ∧ t.evr = s.evr ∧
          t.get R.MBX_HSTAT = s.grantStatus.get R.MBX_HSTAT) ∧
        (k % 8 ≠ 0 → t.on F.MBX_HSTAT_LAST_ERR = true ∧ s.logged t 0x0301 1 0x05 0)) ∧
  (∀ (addr n k : Nat) (late : List Nat) (s : State), s.hspiServed = true → 0x1000 ≤ addr → addr < 0x100000 → addr + n ≤ 0x100000 →
      let after := fun (op : Nat) (t : State) => t.mbx.out = (List.range n).map (fun i => s.hostByte (addr + i)) ∧
        (k % 8 = 0 → t = { s with mbx := { s.mbx with out := t.mbx.out } }) ∧
        (k % 8 ≠ 0 → t.on F.MBX_HSTAT_LAST_ERR = true ∧ t.dram = s.dram ∧ t.mbx.host = s.mbx.host ∧ s.logged t 0x0301 1 op 0)
      (∃ t, exec (.hspiRead addr n k) s = .next t ∧ after 0x03 t) ∧
      (∃ t, exec (.hspiFastRead addr n late k) s = .next t ∧ after 0x0B t) ∧
      (s.on F.MBX_HCFG_QUAD = true → ∃ t, exec (.hspiQuadRead addr n late k) s = .next t ∧ after 0x6B t))

/-- A write into the inbox of an idle mailbox stores its bytes at ascending addresses and nothing else: 0x02, and 0x32 once quad
use is settled. -/
def Obligations.InboxWrites : Prop :=
  ∀ (mb : Fin 6) (off k : Nat) (bytes : List Byte) (s : State), k % 8 = 0 → s.hspiServed = true → s.isBusy mb.val = false →
    off + bytes.length ≤ 0x200 →
    let addr := inboxAt mb.val + off
    let after := fun (t : State) => t.regs = s.regs ∧ t.dram = s.dram ∧
      (∀ i (h : i < bytes.length), t.hostByte (addr + i) = bytes[i]) ∧
      (∀ a, a < addr ∨ addr + bytes.length ≤ a → t.hostByte a = s.hostByte a)
    (∃ t, exec (.hspiWrite 0x02 addr bytes k) s = .next t ∧ after t) ∧
    (s.on F.MBX_HCFG_QUAD = true → ∃ t, exec (.hspiQuadWrite addr bytes k) s = .next t ∧ after t)

/-- Malformed transactions (R86): an unknown opcode, a quad opcode before quad is settled, and 0x03 into the direct window set
LAST_ERR, count, and log event 0x0301 with the opcode; the device drives 0xFF in the last case and nothing otherwise, and no
byte of a mailbox or of DRAM changes. -/
def Obligations.MalformedTransactions : Prop :=
  ∀ (addr n k : Nat) (op : Byte) (bytes : List Byte) (late : List Nat) (s : State), s.hspiServed = true →
    let after := fun (c : Instr) (o : Nat) (out : List Byte) => ∃ t, exec c s = .next t ∧ t.mbx.out = out ∧
      t.on F.MBX_HSTAT_LAST_ERR = true ∧ t.mbx.host = s.mbx.host ∧ t.dram = s.dram ∧
      t.rd F.MBX_HSPI_ERR_CNT_COUNT = min (s.rd F.MBX_HSPI_ERR_CNT_COUNT + 1) (2 ^ F.MBX_HSPI_ERR_CNT_COUNT.w - 1) ∧
      s.logged t 0x0301 1 o 0
    (hspiOpcodes.contains op.toNat = false → after (.hspiWrite op addr bytes k) op.toNat s.mbx.out) ∧
    (s.on F.MBX_HCFG_QUAD = false → after (.hspiQuadRead addr n late k) 0x6B [] ∧
      after (.hspiQuadWrite addr bytes k) 0x32 s.mbx.out ∧
      (s.stood 245 245 = false → after (.fastLaneWrite addr bytes k) 0xA5 s.mbx.out)) ∧
    (0x100000 ≤ addr % 2 ^ 24 → after (.hspiRead addr n k) 0x03 (List.replicate n 0xFF))

/-! ### Mailboxes, doorbells, notifications (R89, R90, R100) -/

/-- A doorbell sets INBOX_BUSY of each named mailbox that is served and neither busy nor full, and of no other, and those
mailboxes take their places in the order of receipt (R89, R90; the lower mailbox first, log entry 102); an outbox
acknowledgement clears OUTBOX_FULL of each named outbox, and of no other; DRAM and the inboxes stay. An ignored doorbell sets
LAST_ERR and logs event 0x0302 with the mailbox and port 0 (R90). The oldest queued notification is placed in the empty MB6
outbox and sets OUTBOX_FULL[6] (R100). -/
def Obligations.DoorbellsAndNotifications : Prop :=
  (∀ (v : Word) (s : State), s.hspiServed = true →
      (∃ t, exec (.doorbell v) s = .next t ∧ t.dram = s.dram ∧
        t.mbx = { s.mbx with order := s.mbx.order ++ ((List.range 6).filter fun k =>
          bit v.toNat k && s.serves 0 k && !s.isBusy k && !s.isFull k).map fun k => (0, k) } ∧
        ∀ k, k < 6 → t.isBusy k = (s.isBusy k || (bit v.toNat k && s.serves 0 k && !s.isFull k))) ∧
      (∃ t, exec (.outboxAck v) s = .next t ∧ t.dram = s.dram ∧ t.mbx.host = s.mbx.host ∧
        ∀ k, k < 7 → t.isFull k = (s.isFull k && !bit v.toNat k))) ∧
  (∀ (mb : Fin 6) (s : State), s.hspiServed = true → (s.isBusy mb.val || s.isFull mb.val) = true →
      ∃ t, exec (.doorbell (BitVec.ofNat 32 (2 ^ mb.val))) s = .next t ∧ t.on F.MBX_HSTAT_LAST_ERR = true ∧
        s.logged t 0x0302 1 mb.val 0 ∧ (∀ k, k < 6 → t.isBusy k = s.isBusy k)) ∧
  (∀ (m : List Byte) (ms : List (List Byte)) (s : State), s.fwRuns = true → (s.port 0).notifs = m :: ms →
      s.isFull 6 = false →
      ∃ t, exec .notificationPlace s = .next t ∧ t.isFull 6 = true ∧ (t.port 0).notifs = ms ∧
        t.hostRead (outboxAt 6) m.length = m ∧ t.dram = s.dram ∧ (∀ k, k < 6 → t.isFull k = s.isFull k) ∧
        s.regsKeep t [R.MBX_HSTAT, R.MBX_IRQ_STATUS])

/-! ### CAN (R103) -/

/-- A CAN FD frame on a request identifier of a free mailbox delivers its message to that mailbox, which takes its place in the
order of receipt; a classical frame is ignored and counted in the controller's error status; a frame for a mailbox not yet
answered is discarded with event 0x0302 (R102, R103). A CAN controller outside reset with its clocks: error-passive and bus-off
log events 0x0311 and 0x0310 as it enters them; while it is bus-off nothing is sent; recovery ends both; a sent response frame
frees its mailbox, and with no response waiting the oldest notification goes out on the notification identifier, padded (R103).
-/
def Obligations.CanPort : Prop :=
  (∀ (c : Duo) (mb : Fin 6) (bytes : List Byte) (s : State), s.fwRuns = true → (s.port (State.canPort c)).busOff = false →
      s.sysStill (4 + c.val) = false → bytes ≠ [] →
      (sget (fun _ => none) (s.port (State.canPort c)).rx mb.val = none →
        ∃ t, exec (.canRequestFrame c mb bytes true) s = .next t ∧ t.waiting (State.canPort c) mb.val = some bytes ∧
          t.mbx.order = s.mbx.order ++ [((State.canPort c).val, mb.val)] ∧ t.regs = s.regs ∧ t.dram = s.dram) ∧
      (∃ t, exec (.canRequestFrame c mb bytes false) s = .next t ∧
        (t.port (State.canPort c)).ignored = (s.port (State.canPort c)).ignored + 1 ∧
        t.waiting (State.canPort c) mb.val = s.waiting (State.canPort c) mb.val ∧
        bit (t.get (State.canBase c + 0x1F0)) 31 = true ∧
        t.get (State.canBase c + 0x1F4) = satN 16 (s.get (State.canBase c + 0x1F4) + 1) ∧
        s.regsKeep t (State.errRegs (State.canBase c)) ∧ t.dram = s.dram ∧ t.evr = s.evr) ∧
      (∀ m, sget (fun _ => none) (s.port (State.canPort c)).rx mb.val = some m →
        ∃ t, exec (.canRequestFrame c mb bytes true) s = .next t ∧ s.logged t 0x0302 1 mb.val (State.canPort c).val ∧
          t.mbx = s.mbx ∧ t.dram = s.dram)) ∧
  (∀ (c : Duo) (s : State), s.sysStill (4 + c.val) = false →
      let p := State.canPort c
      ((s.port p).passive = false →
        ∃ t, exec (.canErrorPassive c) s = .next t ∧ (t.port p).passive = true ∧ s.logged t 0x0311 2 c.val 0) ∧
      ((s.port p).busOff = false →
        ∃ t, exec (.canBusOff c) s = .next t ∧ (t.port p).busOff = true ∧ (t.port p).tx = (s.port p).tx ∧
          (t.port p).notifs = (s.port p).notifs ∧ s.logged t 0x0310 3 c.val 0) ∧
      ((s.port p).busOff = true →
        ∃ t, exec (.canFrameSent c) s = .next t ∧ (t.port p).tx = (s.port p).tx ∧ (t.port p).notifs = (s.port p).notifs) ∧
      (∃ t, exec (.canBusOffRecovery c) s = .next t ∧ (t.port p).busOff = false ∧ (t.port p).passive = false ∧
        (t.port p).tx = (s.port p).tx ∧ (t.port p).notifs = (s.port p).notifs ∧ t.regs = s.regs) ∧
      (∀ (mb : Fin 6) (m : List Byte) (rest : List (Nat × List Byte)), (s.port p).busOff = false →
        s.rst.canReset = 0 → (s.port p).hello = [] → (s.port p).tx = ((s.port p).rspId + mb.val, m) :: rest →
        ∃ t, exec (.canFrameSent c) s = .next t ∧ (t.port p).tx = rest ∧ (t.port p).sent = some ((s.port p).rspId + mb.val, m) ∧
          sget (fun _ => none) (t.port p).rx mb.val = none ∧ t.regs = s.regs) ∧
      (∀ (m : List Byte) (ms : List (List Byte)), (s.port p).busOff = false → s.rst.canReset = 0 → (s.port p).tx = [] →
        (s.port p).notifs = m :: ms →
        ∃ t, exec (.canFrameSent c) s = .next t ∧ (t.port p).notifs = ms ∧
          (t.port p).sent = some ((s.port p).ntfId, State.canPad m) ∧ t.regs = s.regs))

/-! ### Message checks (R91–R96) -/

/-- A message longer than the settled maximum is answered BAD_LENGTH, and one whose CRC does not match BAD_CRC; neither advances
the sequence state, and the response echoes the received SEQ (R95 steps 1 and 2; shown for GET_STATUS). A duplicate of the last
accepted command is not executed again: the cached response is sent as first sent; any other SEQ than the expected one is
answered SEQ_ERROR and leaves the sequence state (R96; shown for CLEAR_EVENTS). A command whose opcode is not defined is
answered UNKNOWN_OPCODE and changes nothing else (R95 step 5, R111). -/
def Obligations.MessageChecks : Prop :=
  (∀ (p : Fin 3) (mb : Fin 6) (m : List Byte) (s : State), s.serves p mb.val = true → s.waiting p mb.val = some m →
      byteAt m 0 = 0x04 → s.turn p mb.val 0x04 = true →
      let refused := fun (st : Nat) => ∃ t, exec (.getStatus p mb) s = .next t ∧ (t.port p).seqs = (s.port p).seqs ∧
        t.dram = s.dram ∧ t.lec = s.lec ∧ t.fw = s.fw ∧
        (p = 0 → t.isFull mb.val = true ∧ t.hostRead (outboxAt mb.val) 12 = mkMessage 0x04 1 (le16 m 2) (statusWord st 0)) ∧
        (p ≠ 0 → ((t.port p).rspId + mb.val, State.canPad (mkMessage 0x04 1 (le16 m 2) (statusWord st 0))) ∈ (t.port p).tx)
      (s.maxPay p < le16 m 4 → refused stBAD_LENGTH) ∧
      (le16 m 4 ≤ s.maxPay p → 8 + le16 m 4 ≤ m.length → s.crcOn p = true →
        crc16 (slice m 0 6 ++ [0, 0] ++ slice m 8 (le16 m 4)) ≠ le16 m 6 → refused stBAD_CRC)) ∧
  (∀ (mb : Fin 6) (flags seq : Nat) (pl pad : List Byte) (q : SeqSt) (s : State), s.serves 0 mb.val = true → seq < 65536 →
      s.waiting 0 mb.val = some (mkMessage 0x10 flags seq pl ++ pad) → pl.length < 65536 → pl.length ≤ s.maxPay 0 →
      flags < 256 → s.turn 0 mb.val 0x10 = true → sget (fun _ => none) (s.port 0).seqs mb.val = some q →
      (seq = q.last → q.cache ≠ [] →
        ∃ t, exec (.clearEvents 0 mb) s = .next t ∧ t.evr = s.evr ∧ (t.port 0).seqs = (s.port 0).seqs ∧
          t.isFull mb.val = true ∧ t.hostRead (outboxAt mb.val) q.cache.length = q.cache) ∧
      (seq ≠ q.last → seq ≠ (q.last + 1) % 65536 →
        ∃ t, exec (.clearEvents 0 mb) s = .next t ∧ t.evr = s.evr ∧ (t.port 0).seqs = (s.port 0).seqs ∧
          t.isFull mb.val = true ∧ t.hostRead (outboxAt mb.val) 12 = mkMessage 0x10 1 seq (statusWord stSEQ_ERROR 0))) ∧
  (∀ (p : Fin 3) (mb : Fin 6) (op flags seq : Nat) (pl : List Byte) (s : State), s.Waits p mb op flags seq pl →
      definedOp op = false →
      ∃ t, exec (.undefinedOpcodeCommand p mb) s = .next t ∧ t.answered p mb op seq stUNKNOWN_OPCODE 0 [] ∧ s.mailOnly t ∧
        t.fw = s.fw)

/-! ### Session and information (R97, R98, R117, R118, R136, R137) -/

/-- HELLO settles version 2, the smaller payload limit, quad and CRC off on HSPI only, and events as requested; the settings
wait for their effect in place of any that the mailbox still held, and nothing else changes (R97, R98). -/
def Obligations.HelloSettles : Prop :=
  ∀ (p : Fin 3) (mb : Fin 6) (flags seq : Nat) (pl : List Byte) (s : State), s.Asks p mb 0x01 flags seq pl →
    pl.length = 8 → 2 ≤ le16 pl 0 → le16 pl 2 ≤ 2 → (if p = 0 then 64 else 8) ≤ le16 pl 4 → byteAt pl 6 < 8 → byteAt pl 7 = 0 →
    s.unanswered p mb.val = false → 16 ≤ s.maxPay p →
    let lim := min (if p = 0 then 504 else 56) (le16 pl 4)
    let quad := p = 0 && bit (byteAt pl 6) 0
    let crcOff := p = 0 && bit (byteAt pl 6) 1
    let events := bit (byteAt pl 6) 2
    ∃ t, exec (.hello p mb) s = .next t ∧
      t.answered p mb 0x01 seq stOK 0 (leBytes 2 2 ++ leBytes 2 lim ++
        leBytes 1 (b2n quad + 2 * b2n crcOff + 4 * b2n events) ++ leBytes 1 8 ++ leBytes 2 0x0302 ++
        leBytes 4 (s.get R.SYS_ID)) ∧
      (t.port p).hello = (s.port p).hello.filter (·.mb != mb.val) ++ [⟨mb.val, quad, crcOff, events, lim⟩] ∧ s.mailOnly t ∧ t.fw = s.fw

/-- GET_INFO and GET_STATUS answer OK and change nothing; GET_STATUS begins with SYS_MODE and RST_CAUSE, page 0 of GET_INFO with
SYS_ID, the firmware version 0x0302 and protocol version 2. READ_EVENTS returns the occupied records from the first slot named,
at or above the severity named, each as stored, with the next slot to examine and the count of dropped events; it changes
nothing. -/
def Obligations.QueriesAndRecordReads : Prop :=
  (∀ (p : Fin 3) (mb : Fin 6) (flags seq : Nat) (pl : List Byte) (s : State), 52 ≤ s.maxPay p →
      let tells := fun (c : Instr) (op : Nat) (head : List Byte) (len : Nat) => ∃ t data, exec c s = .next t ∧
        t.answered p mb op seq stOK 0 data ∧ data.take head.length = head ∧ data.length = len ∧ s.mailOnly t ∧ t.fw = s.fw
      (s.Asks p mb 0x02 flags seq pl → pl = [0] →
        tells (.getInfo p mb) 0x02 (leBytes 4 (s.get R.SYS_ID) ++ leBytes 2 0x0302 ++ leBytes 2 2) 40) ∧
      (s.Asks p mb 0x02 flags seq pl → ∀ n : Fin 4, pl = leBytes 1 (n.val + 1) →
        tells (.getInfo p mb) 0x02 (leBytes 1 (s.nodeType n)) 28) ∧
      (s.Asks p mb 0x04 flags seq pl → pl = [] →
        tells (.getStatus p mb) 0x04 (leBytes 4 (s.get R.SYS_MODE) ++ leBytes 4 (s.get R.RST_CAUSE)) 44)) ∧
  (∀ (p : Fin 3) (mb : Fin 6) (flags seq : Nat) (pl : List Byte) (s : State), s.Asks p mb 0x0F flags seq pl →
      pl.length = 4 → le16 pl 0 < 2048 → 1 ≤ byteAt pl 2 → byteAt pl 2 ≤ 30 → byteAt pl 3 ≤ 7 →
      byteAt pl 2 ≤ (s.maxPay p - 12) / 16 →
      ∃ t, ∃ found : List Nat, ∃ next : Nat, exec (.readEvents p mb) s = .next t ∧
        t.answered p mb 0x0F seq stOK 0 (leBytes 2 next ++ leBytes 1 found.length ++ [0] ++
          leBytes 4 (s.rd F.EVR_DROPPED_COUNT) ++ (found.map fun k => s.slotBytes k).flatten) ∧
        found.length ≤ byteAt pl 2 ∧ next ≤ 2048 ∧
        (∀ k, k ∈ found ↔ le16 pl 0 ≤ k ∧ k < next ∧ s.slotCode k ≠ 0 ∧ byteAt pl 3 ≤ s.slotSev k) ∧
        (next < 2048 → found.length = byteAt pl 2) ∧ s.mailOnly t ∧ t.fw = s.fw)

/-- CLEAR_EVENTS has an empty request. It empties the whole log and answers OK with bytes 4–5 holding the number of records
cleared (R137): it starts the clear of R396, at whose end every slot but slot 0 is empty, and slot 0 holds event 0x0130. -/
def Obligations.ClearEventsEmptiesLog : Prop :=
  ∀ (p : Fin 3) (mb : Fin 6) (flags seq : Nat) (s : State), s.Asks p mb 0x10 flags seq [] → 6 ≤ s.maxPay p →
    s.evr.clearing = none → s.stood 233 233 = false →
    ∃ t u, exec (.clearEvents p mb) s = .next t ∧
      t.answered p mb 0x10 seq stOK 0 (leBytes 2 (s.rd F.EVR_STATUS_USED)) ∧
      t.evr.clearing = some ⟨0, s.rd F.EVR_STATUS_USED, p.val⟩ ∧ t.on F.EVR_STATUS_CLEARING = true ∧
      t.pins.faultLow = false ∧ t.on F.EVR_FAULT_LATCHED = false ∧ t.dram = s.dram ∧ t.lec = s.lec ∧
      exec .logClearEnd t = .next u ∧ u.slotCode 0 = 0x0130 ∧ u.rd F.EVR_STATUS_USED = 1 ∧
      u.rd F.EVR_DROPPED_COUNT = 0 ∧ u.evr.clearing = none ∧ (∀ k, 1 ≤ k → k < 2048 → u.slotCode k = 0)

/-! ### Staging (R113, R121–R128) -/

/-- SET_LAYER with its whole 32 bytes in range stages the layer as sent and nothing else; only an enabled layer has its ranges
checked, and a request out of range is answered BAD_PARAM and stages nothing (R122). SET_ANIMATION stages the content source of
a port in the same way (R125). SET_MASKS (R124): records whose channel is the header's and whose CRC8 matches are appended to
the channel's soft-mask part of the stage, and nothing else changes; one failing record makes the whole command BAD_PARAM, and
nothing is staged. -/
def Obligations.LayersAndMasksStage : Prop :=
  (∀ (p : Fin 3) (mb : Fin 6) (flags seq : Nat) (pl : List Byte) (s : State),
      (s.Asks p mb 0x07 flags seq pl → pl.length = 32 →
        ∃ t, exec (.setLayer p mb) s = .next t ∧
          if byteAt pl 0 < 4 ∧ byteAt pl 1 < 4 ∧ byteAt pl 2 < 8 ∧ (bit (byteAt pl 2) 0 = true → State.layerOk pl = true)
          then s.stages t p mb 0x07 seq (s.fw.stage.setLay (chan (byteAt pl 0)) (chan (byteAt pl 1)) pl)
          else s.replies t p mb 0x07 seq stBAD_PARAM s.fw) ∧
      (s.Asks p mb 0x0B flags seq pl → pl.length = 8 →
        ∃ t, exec (.setAnimation p mb) s = .next t ∧
          if byteAt pl 0 < 4 ∧ byteAt pl 1 ≤ 2 ∧ byteAt pl 6 ≤ 1 ∧ byteAt pl 7 = 0
          then s.stages t p mb 0x0B seq { s.fw.stage with anim := s.fw.stage.anim.set (chan (byteAt pl 0)) pl }
          else s.replies t p mb 0x0B seq stBAD_PARAM s.fw)) ∧
  (∀ (p : Fin 3) (mb : Fin 6) (flags seq count : Nat) (pl : List Byte) (s : State), s.Asks p mb 0x0A flags seq pl →
      pl.length = 4 + 16 * count → byteAt pl 1 = count → count ≤ 64 → byteAt pl 0 < 4 → byteAt pl 2 = 0 → byteAt pl 3 = 0 →
      let rec_ := fun i => slice pl (4 + 16 * i) 16
      let good := fun i => recordOk (rec_ i) = true ∧ byteAt (rec_ i) 0 = byteAt pl 0 ∧ crc8 ((rec_ i).take 15) = byteAt (rec_ i) 15
      let n := chan (byteAt pl 0)
      ∃ t, exec (.setMasks p mb) s = .next t ∧
        ((∀ i, i < count → good i) → s.replies t p mb 0x0A seq stOK
          { s.fw with masks := s.fw.masks.set n (s.fw.masks.get n ++ (List.range count).map fun i => State.softOf (rec_ i)) }) ∧
        (∀ i, i < count → ¬ good i → s.replies t p mb 0x0A seq stBAD_PARAM s.fw))

/-- SET_BEAM (R123): OFF stages layer 0 disabled and intensity 0 on every channel of its mask; a function with a BEAM_PROFILE
asset named, or with identifier 0 and an asset stored for it, stages layer 0 and the CMP settings of that asset with the
intensity sent, and the asset named is the one stored for functions 0x01–0x07 (log entry 118); a function with no stored asset
and identifier 0 is answered NOT_PRESENT; PROFILE with identifier 0 is answered BAD_PARAM. Nothing but the stage changes. -/
def Obligations.BeamStages : Prop :=
  ∀ (p : Fin 3) (mb : Fin 6) (flags seq : Nat) (pl : List Byte) (s : State), s.Asks p mb 0x09 flags seq pl → pl.length = 8 →
    0 < byteAt pl 0 → byteAt pl 0 < 16 → byteAt pl 6 = 0 → byteAt pl 7 = 0 →
    ∃ t, exec (.setBeam p mb) s = .next t ∧
      (byteAt pl 1 = 0 → ∃ m, s.stages t p mb 0x09 seq m ∧
        ∀ n : Fin 4, bit (byteAt pl 0) n.val = true →
          bit (byteAt (m.lay n 0) 2) 0 = false ∧ m.fld (F.CMP_GAIN_GAIN n) = 0) ∧
      (∀ a : Asset, 1 ≤ byteAt pl 1 → byteAt pl 1 ≤ 7 ∨ byteAt pl 1 = 0x10 → le16 pl 2 ≠ 0 → s.asset (le16 pl 2) = some a → a.typ = 2 →
        ∃ m, s.stages t p mb 0x09 seq m ∧
          ∀ n : Fin 4, bit (byteAt pl 0) n.val = true →
            bit (byteAt (m.lay n 0) 2) 0 = true ∧ byteAt (m.lay n 0) 3 = 0 ∧ le16 (m.lay n 0) 4 = le16 pl 2 ∧
            m.fld (F.CMP_GAIN_GAIN n) = le16 pl 4 ∧
            (byteAt pl 1 ≤ 7 → sget (fun _ => 0) m.beams (byteAt pl 1) = le16 pl 2)) ∧
      (∀ (a : Asset) (id : Nat), 1 ≤ byteAt pl 1 → byteAt pl 1 ≤ 7 → le16 pl 2 = 0 → 0 < id →
        sget (fun _ => 0) s.fw.stage.beams (byteAt pl 1) = id → s.asset id = some a → a.typ = 2 →
        ∃ m, s.stages t p mb 0x09 seq m ∧
          ∀ n : Fin 4, bit (byteAt pl 0) n.val = true →
            bit (byteAt (m.lay n 0) 2) 0 = true ∧ byteAt (m.lay n 0) 3 = 0 ∧ le16 (m.lay n 0) 4 = id % 65536 ∧
            m.fld (F.CMP_GAIN_GAIN n) = le16 pl 4) ∧
      (1 ≤ byteAt pl 1 → byteAt pl 1 ≤ 7 → le16 pl 2 = 0 → sget (fun _ => 0) s.fw.stage.beams (byteAt pl 1) = 0 →
        s.replies t p mb 0x09 seq stNOT_PRESENT s.fw) ∧
      (byteAt pl 1 = 0x10 → le16 pl 2 = 0 → s.replies t p mb 0x09 seq stBAD_PARAM s.fw)

/-- SET_GROUPS DEFINE stages a group, ARM the armed groups and the audit window, DELETE the removal of a group (R126); nothing
but firmware's data changes, and the configuration last committed stays. SET_TIMING stages its request for every channel of its
mask and writes COMMIT_GUARD at once; no other register changes (R113, R121). -/
def Obligations.GroupsAndTimingStage : Prop :=
  (∀ (p : Fin 3) (mb : Fin 6) (flags seq : Nat) (pl : List Byte) (s : State), s.Asks p mb 0x0C flags seq pl →
      pl.length = State.groupsLength pl → State.groupsOk pl = true →
      ∃ t, exec (.setGroups p mb) s = .next t ∧ t.answered p mb 0x0C seq stOK 0 [] ∧ t.fw.act = s.fw.act ∧
        (byteAt pl 0 ≠ 1 → s.mailOnly t) ∧
        (byteAt pl 0 = 0 → t.fw.stage = { s.fw.stage with groups := t.fw.stage.groups } ∧
          sget (fun _ => []) t.fw.stage.groups (byteAt pl 1) = pl ∧
          ∀ g, g ≠ byteAt pl 1 → sget (fun _ => []) t.fw.stage.groups g = sget (fun _ => []) s.fw.stage.groups g) ∧
        (byteAt pl 0 = 1 → t.fw.stage = s.fw.stage ∧ t.dram = s.dram ∧
          ∀ g, g ∈ s.fw.act.groups.map (·.1) → g < 32 → bit (le32 pl 4) g = true → ∀ n : Fin 4,
            t.rd (F.CHN_GTGTg_TARGET n g) = le16 pl 8 ∧ t.rd (F.CHN_GTGTg_FADE n g) = byteAt pl 10) ∧
        (byteAt pl 0 = 2 → t.fw.stage.window = le16 pl 10 ∧ t.fw.stage.groups = s.fw.stage.groups ∧
          ∀ g, g < 32 → bit (le32 pl 4) g = true → bit t.fw.stage.garm g = bit (byteAt pl 8) 0 ∧
            bit t.fw.stage.gprobe g = bit (byteAt pl 8) 1) ∧
        (byteAt pl 0 = 3 → sget (fun _ => []) t.fw.stage.groups (byteAt pl 1) = [])) ∧
  (∀ (p : Fin 3) (mb : Fin 6) (flags seq : Nat) (pl : List Byte) (s : State), s.Asks p mb 0x05 flags seq pl → pl.length = 12 →
      State.timingOk pl = true →
      ∃ t, exec (.setTiming p mb) s = .next t ∧ t.answered p mb 0x05 seq stOK 0 [] ∧
        t.fw = { s.fw with stage := { s.fw.stage with timing := t.fw.stage.timing } } ∧
        s.regsKeep t ([R.MBX_HSTAT, R.MBX_IRQ_STATUS] ++ (List.finRange 4).map R.LEC_COMMIT_CFG) ∧
        t.dram = s.dram ∧ t.lec = s.lec ∧ t.strm = s.strm ∧ t.comp = s.comp ∧ t.pend = s.pend ∧
        ∀ n : Fin 4, if bit (byteAt pl 0) n.val = true
          then t.fw.stage.timing.get n = pl ∧ t.rd (F.LEC_COMMIT_CFG_COMMIT_GUARD n) = byteAt pl 3
          else t.fw.stage.timing.get n = s.fw.stage.timing.get n ∧ t.get (R.LEC_COMMIT_CFG n) = s.get (R.LEC_COMMIT_CFG n))

/-- SET_DERATE (R127) stages the law of every channel of its mask: SET its four parameters, ARM and DISARM the arming; DISARM in
a light mode is answered WRONG_MODE; nothing but the stage changes. SET_LEVELLING (R128) sets the pitch input of every channel
of its mask at once and stages the aim and the limits; no register outside the mailbox changes. -/
def Obligations.DerateAndLevellingStage : Prop :=
  ∀ (p : Fin 3) (mb : Fin 6) (flags seq : Nat) (pl : List Byte) (s : State), 0 < byteAt pl 0 → byteAt pl 0 < 16 →
    (s.Asks p mb 0x0D flags seq pl → pl.length = 8 → byteAt pl 6 = 0 → byteAt pl 7 = 0 →
      ∃ t, exec (.setDerate p mb) s = .next t ∧
        (byteAt pl 1 = 0 → 60 ≤ byteAt pl 2 → byteAt pl 2 ≤ 140 → 5 ≤ byteAt pl 3 → byteAt pl 3 ≤ 100 → 10 ≤ byteAt pl 4 →
          byteAt pl 4 ≤ 100 → byteAt pl 5 ≤ 2 → ∃ m, s.stages t p mb 0x0D seq m ∧
          ∀ n : Fin 4, bit (byteAt pl 0) n.val = true →
            m.fld (F.SRC_DERATE_CFG_KNEE n) = byteAt pl 2 ∧ m.fld (F.SRC_DERATE_CFG_SLOPE n) = byteAt pl 3 ∧
            m.fld (F.SRC_DERATE_CFG_FLOOR n) = byteAt pl 4 ∧ m.fld (F.SRC_DERATE_CFG_TSEL n) = byteAt pl 5) ∧
        (byteAt pl 1 = 1 ∨ byteAt pl 1 = 2 ∧ lightMode s.mode = false → ∃ m, s.stages t p mb 0x0D seq m ∧
          ∀ n : Fin 4, bit (byteAt pl 0) n.val = true → m.fld (F.SRC_DERATE_CFG_ARMED n) = 2 - byteAt pl 1) ∧
        (byteAt pl 1 = 2 → lightMode s.mode = true → s.replies t p mb 0x0D seq stWRONG_MODE s.fw)) ∧
    (s.Asks p mb 0x12 flags seq pl → pl.length = 20 → byteAt pl 1 < 8 → byteAt pl 2 = 0 → byteAt pl 3 = 0 → byteAt pl 9 = 0 →
      byteAt pl 18 = 0 → byteAt pl 19 = 0 → le32 pl 4 < (if bit (byteAt pl 1) 2 then 2 ^ 29 else 2 ^ 11) →
      byteAt pl 8 ≤ 62 → 2 ≤ le16 pl 16 → le16 pl 16 ≤ 1000 →
      ∃ t, exec (.setLevelling p mb) s = .next t ∧ t.answered p mb 0x12 seq stOK 0 [] ∧
        s.regsKeep t [R.MBX_HSTAT, R.MBX_IRQ_STATUS] ∧ t.dram = s.dram ∧ t.strm = s.strm ∧
        ∀ n : Fin 4, bit (byteAt pl 0) n.val = true → (t.ch n).tut.pitch = State.pitchOf pl ∧ (t.ch n).tut.pitchTick = s.tb.toNat ∧
          t.fw.stage.fld (F.WRP_AIM_AIM n) = le16 pl 10 ∧ t.fw.stage.fld (F.WRP_OFF_LIM_MIN n) = le16 pl 12 ∧
          t.fw.stage.fld (F.WRP_OFF_LIM_MAX n) = le16 pl 14)

/-! ### Modes, degrade profiles, commit requests (R31, R37–R43, R116, R119, R120, R131, R132) -/

/-- SET_MODE (R39, R42, R43, R119): a reserved target is answered BAD_PARAM; the current mode OK; a transition that the table of
R39 does not list WRONG_MODE, as is every other target than STANDBY while PWR_WARN_N is low; a transition during another BUSY:
each changes nothing. A listed transition between two different modes that owes no check of R54 is answered ACCEPTED_PENDING;
TRANSIT is set, TARGET names the target, and the mode is still the old one. -/
def Obligations.SetModeRequests : Prop :=
  ∀ (p : Fin 3) (mb : Fin 6) (flags seq target : Nat) (s : State), s.Asks p mb 0x03 flags seq (leBytes 1 target ++ [0, 0, 0]) →
    target < 256 → target ≠ modeLIMP → s.mode ≠ modeLIMP →
    let light := fun m => m ∈ [4, 5, 6, 7, 8]
    let listed := s.mode = 3 ∧ (light target ∨ target ∈ [9, 10, 11, 1, 12]) ∨ light s.mode ∧ (light target ∨ target ∈ [3, 11]) ∨
      s.mode = 11 ∧ (light target ∨ target ∈ [3, 10, 1]) ∨ s.mode = 9 ∧ target ∈ [3, 11] ∨ s.mode = 10 ∧ target ∈ [3, 11, 12]
    ∃ t, exec (.setMode p mb) s = .next t ∧
      (target = 0 ∨ 12 < target → s.replies t p mb 0x03 seq stBAD_PARAM s.fw) ∧
      (1 ≤ target → target ≤ 12 → s.sys.pwrLow = true → target ≠ 1 → s.replies t p mb 0x03 seq stWRONG_MODE s.fw) ∧
      (1 ≤ target → target ≤ 12 → s.sys.pwrLow = false →
        (target = s.mode → s.moving = false → s.replies t p mb 0x03 seq stOK s.fw) ∧
        (target ≠ s.mode → ¬ listed → s.replies t p mb 0x03 seq stWRONG_MODE s.fw) ∧
        (target ≠ s.mode → listed → s.moving = true → s.replies t p mb 0x03 seq stBUSY s.fw) ∧
        (target ≠ s.mode → listed → s.moving = false → target ≠ 12 → s.sys.checkOwed = false →
          t.answered p mb 0x03 seq stACCEPTED 0 [] ∧ t.on F.SYS_MODE_TRANSIT = true ∧ t.rd F.SYS_MODE_TARGET = target ∧
          t.mode = s.mode ∧ t.dram = s.dram))

/-- The end of a transition whose channels, speed change and retrains are done (R40, R41): the mode in force is the target with
cause 0, TRANSIT clears, the change logs event 0x0101 with the new mode, and no lamp enable is low outside the light modes, BOOT
and SERVICE. SET_DEGRADE outside LIMP records the profile and the advisory arming at once, even during a transition (R42, R120).
-/
def Obligations.TransitionsAndDegrade : Prop :=
  (∀ (g : Transit) (s : State), s.fwRuns = true → s.sys.transit = some g → g.await = 0 → g.speed = false → s.retraining = false →
      g.target ∈ [3, 4, 5, 7, 9, 10, 11] → s.mode ∈ [3, 4, 5, 7, 10, 11] →
      ∃ t, exec .modeTransitionComplete s = .next t ∧ t.mode = g.target ∧ t.rd F.SYS_MODE_CAUSE = 0 ∧
        t.on F.SYS_MODE_TRANSIT = false ∧ t.sys.transit = none ∧ t.dram = s.dram ∧
        (s.evr.fifo.length < 16 → ∃ q rest, t.evr.fifo = s.evr.fifo ++ q :: rest ∧ q.code = 0x0101 ∧ q.sev = 1 ∧
          q.a = g.target ∧ q.b = 0) ∧
        (g.target ∈ [3, 9, 11] → ∀ n : Fin 4, t.pins.lampEnN.get n = true ∧ t.on (F.CHN_CTRL_OE n) = false)) ∧
  (∀ (p : Fin 3) (mb : Fin 6) (flags seq prof arm : Nat) (s : State),
      s.Asks p mb 0x15 flags seq (leBytes 1 prof ++ leBytes 1 arm ++ [0, 0]) → prof ≤ 3 → arm < 32 → s.mode ≠ modeLIMP →
      ∃ t, exec (.setDegrade p mb) s = .next t ∧ t.answered p mb 0x15 seq stOK 0 [] ∧ t.rd F.SYS_MODE_PROFILE = prof ∧
        t.mode = s.mode ∧ t.sys = { s.sys with advArm := arm } ∧ t.fw = s.fw ∧ t.dram = s.dram ∧ t.lec = s.lec ∧
        s.regsKeep t [R.MBX_HSTAT, R.MBX_IRQ_STATUS, R.SYS_MODE])

/-- COMMIT (R31, R113, R116, R131): during a transition or speed change it is answered BUSY; a failed check is answered
REJECTED_CONFIG with the reason, logs events only, and leaves every bank and the committed configuration; a passed check is
answered OK for a check-only request, which changes nothing, else ACCEPTED_PENDING, and the stage of the named units becomes the
committed configuration. -/
def Obligations.CommitChecksThenIssues : Prop :=
  ∀ (p : Fin 3) (mb : Fin 6) (flags seq mask opts : Nat) (s : State),
    s.Asks p mb 0x08 flags seq (leBytes 1 mask ++ leBytes 1 opts ++ [0, 0]) → mask < 16 → opts < 4 →
    (mask ≠ 0 ∨ bit opts 0 = true) → s.mode ≠ modeCALIBRATE → s.bistNames mask (bit opts 0) = false → 28 ≤ s.maxPay p →
    let m := s.fw.act.merge s.fw.stage mask (bit opts 0)
    let why := s.rejectReason m mask (bit opts 0) s.profileNow
    ∃ t, exec (.commit p mb) s = .next t ∧
      (s.moving = true → s.replies t p mb 0x08 seq stBUSY s.fw) ∧
      (s.moving = false → why ≠ 0 → t.answered p mb 0x08 seq stREJECTED_CONFIG why [] ∧ t.fw = s.fw ∧ t.lec = s.lec ∧
        t.pend = s.pend ∧ t.comp = s.comp ∧ t.strm = s.strm ∧ t.actv = s.actv ∧ t.dram = s.dram ∧
        s.regsKeep t (R.MBX_HSTAT :: State.eventRegs)) ∧
      (s.moving = false → why = 0 → bit opts 1 = true → ∃ data, data.length = 24 ∧ t.answered p mb 0x08 seq stOK 0 data ∧
        s.mailOnly t ∧ t.fw = s.fw) ∧
      (s.moving = false → why = 0 → bit opts 1 = false → ∃ data, data.length = 24 ∧ t.answered p mb 0x08 seq stACCEPTED 0 data ∧
        t.fw.act = m ∧ t.dram = s.dram)

/-- The Bell (R34, R35): a write with COMMIT or SNAPSHOT and a unit set makes it BUSY until its strobe; a write while BUSY is
ignored, sets LOST and logs event 0x0109; the strobe captures the frame number and line of each channel named for SNAPSHOT.
SNAPSHOT (R34, R132): each channel named has its frame number and line captured as they stand, and the answer carries the
timestamp registers and the captured values; no commit is made. -/
def Obligations.BellAndSnapshot : Prop :=
  (∀ (v : Word) (s : State),
      (s.on F.SYS_BELL_STATUS_BUSY = false → (bit v.toNat 8 || bit v.toNat 9) = true → v.toNat % 64 ≠ 0 →
        ∃ t, exec (.bellWrite v) s = .next t ∧ t.on F.SYS_BELL_STATUS_BUSY = true ∧ t.sys.bell = some (v.toNat % 1024) ∧
          s.regsKeep t [R.SYS_BELL_STATUS] ∧ t.lec = s.lec ∧ t.dram = s.dram) ∧
      (s.on F.SYS_BELL_STATUS_BUSY = true →
        ∃ t, exec (.bellWrite v) s = .next t ∧ t.on F.SYS_BELL_STATUS_LOST = true ∧ t.sys = s.sys ∧ s.logged t 0x0109 2 0 0 ∧
          t.lec = s.lec ∧ t.dram = s.dram) ∧
      (∀ k, s.stood 242 242 = false → s.sys.bell = some k → bit k 9 = true → bit k 8 = false →
        ∃ t, exec .bellStrobe s = .next t ∧ t.on F.SYS_BELL_STATUS_BUSY = false ∧ t.sys.bell = none ∧ t.comp = s.comp ∧
          t.strm = s.strm ∧ t.actv = s.actv ∧ t.dram = s.dram ∧
          ∀ n : Fin 4, bit k n.val = true → t.get (R.LEC_SNAP_FRAME n) = s.get (R.LEC_FRAME_COUNT n))) ∧
  (∀ (p : Fin 3) (mb : Fin 6) (flags seq b : Nat) (s : State), s.Asks p mb 0x11 flags seq (leBytes 1 b) → 0 < b → b < 64 →
      s.sys.bell = none → s.on F.SYS_BELL_STATUS_BUSY = false → 44 ≤ s.maxPay p → s.evr.stampSub < 1024 →
      ∃ t data, exec (.snapshot p mb) s = .next t ∧ t.answered p mb 0x11 seq stOK 0 data ∧
        data.take 8 = leBytes 4 (t.get R.SYS_BELL_TS_LO) ++ leBytes 4 (t.get R.SYS_BELL_TS_HI) ∧
        t.get R.SYS_BELL_TS_LO / 1024 = s.tb.toNat % 2 ^ 22 ∧ t.comp = s.comp ∧ t.strm = s.strm ∧ t.actv = s.actv ∧ t.dram = s.dram ∧
        ∀ n : Fin 4, if bit b n.val = true
          then t.get (R.LEC_SNAP_FRAME n) = s.get (R.LEC_FRAME_COUNT n) ∧ t.get (R.LEC_SNAP_LINE n) = s.get (R.LEC_LINE n)
          else t.get (R.LEC_SNAP_FRAME n) = s.get (R.LEC_SNAP_FRAME n))

/-! ### Commits, frame starts, the Bell (R18, R23–R35) -/

/-- A commit request (R28, R29, R32). Of a running channel: before the latch point it targets frame p + 2, after it p + 3; an
armed commit is merged; no bank moves. Of a channel that is stopped, or whose RUN is 0: the shadow's configuration is in force
at once, and TARGET is the frame number plus one (for RUN = 0 before the stop, log entry 98). Writing RUN = 1 on a stopped
channel starts its raster only once a frame rate and row count have been committed, and no release of the channel still waits
for its clocks (R29, R66). -/
def Obligations.CommitTargetsAndRun : Prop :=
  (∀ (n : Chan) (v : Word) (s : State), bit v.toNat 0 = true → s.subHeld n 12 = false →
      (s.on (F.LEC_STATUS_RUNNING n) = true → s.on (F.LEC_CTRL_RUN n) = true →
        ∃ t, exec (.lecCommitGo n v) s = .next t ∧ t.on (F.LEC_COMMIT_STATUS_PENDING n) = true ∧
          t.rd (F.LEC_COMMIT_STATUS_TARGET n) = (s.get (R.LEC_FRAME_COUNT n) + if (s.ch n).afterLatch then 3 else 2) % 2 ^ 24 ∧
          (s.on (F.LEC_COMMIT_STATUS_PENDING n) = true → t.on (F.LEC_COMMIT_STATUS_MERGED n) = true) ∧
          s.regsKeep t [R.LEC_COMMIT_STATUS n] ∧ t = { s with regs := t.regs }) ∧
      (s.on (F.LEC_STATUS_RUNNING n) = false ∨ s.on (F.LEC_CTRL_RUN n) = false →
        ∃ t, exec (.lecCommitGo n v) s = .next t ∧ t.on (F.LEC_COMMIT_STATUS_PENDING n) = false ∧
          t.on (F.LEC_COMMIT_STATUS_LATCHED n) = false ∧
          t.rd (F.LEC_COMMIT_STATUS_TARGET n) = (s.get (R.LEC_FRAME_COUNT n) + 1) % 2 ^ 24 ∧
          (t.ch n).cfgComp = (s.ch n).cfgNew ∧ t.get (R.LEC_FRAME_COUNT n) = s.get (R.LEC_FRAME_COUNT n))) ∧
  (∀ (n : Chan) (s : State), s.subHeld n 12 = false → s.on (F.LEC_STATUS_RUNNING n) = false →
      ∃ t, exec (.lecRunWrite n 1) s = .next t ∧ t.on (F.LEC_CTRL_RUN n) = true ∧ t.dram = s.dram ∧
        t.get (R.LEC_FRAME_COUNT n) = s.get (R.LEC_FRAME_COUNT n) ∧
        t.on (F.LEC_STATUS_RUNNING n) = ((s.ch n).cfgComp.isSome && !bit s.rst.lecWait n.val))

/-- The banks of a shadowed field (R26): the latch point of an armed commit copies the whole shadow of the channel into its
pending bank, disarms the commit and sets LATCHED, and GUARD reads 1 from it; the transfer line then moves the pending bank into
the composition stage; nothing else of either bank changes, and shadows stay. Without an armed or latched commit no bank moves.
-/
def Obligations.LatchThenTransfer : Prop :=
  ∀ (n : Chan) (s : State), s.subStill n 12 = false → s.on (F.LEC_STATUS_RUNNING n) = true → s.latchAtStart n = false →
    let mine := fun a => lecBase n ≤ a ∧ a < lecBase n + 0x10000
    (∃ t, exec (.latchPoint n) s = .next t ∧ t.comp = s.comp ∧ t.strm = s.strm ∧ t.dram = s.dram ∧
      t.on (F.LEC_STATUS_GUARD n) = true ∧ s.regsKeep t [R.LEC_LINE n, R.LEC_STATUS n, R.LEC_COMMIT_STATUS n] ∧
      (s.on (F.LEC_COMMIT_STATUS_PENDING n) = false → t.pend = s.pend) ∧
      (s.on (F.LEC_COMMIT_STATUS_PENDING n) = true →
        t.on (F.LEC_COMMIT_STATUS_PENDING n) = false ∧ t.on (F.LEC_COMMIT_STATUS_LATCHED n) = true ∧
        ∀ a, sget regReset t.pend a = if mine a then BitVec.ofNat 32 (s.get a) else sget regReset s.pend a)) ∧
    (∃ t, exec (.transferLine n) s = .next t ∧ t.pend = s.pend ∧ t.strm = s.strm ∧
      ((s.ch n).composing = false → t.dram = s.dram) ∧ t.on (F.LEC_STATUS_VBLANK n) = true ∧
      t.get (R.LEC_FRAME_COUNT n) = s.get (R.LEC_FRAME_COUNT n) ∧
      (s.on (F.LEC_COMMIT_STATUS_LATCHED n) = false → t.comp = s.comp) ∧
      (s.on (F.LEC_COMMIT_STATUS_LATCHED n) = true → t.on (F.LEC_COMMIT_STATUS_LATCHED n) = false ∧
        ∀ a, sget regReset t.comp a = if mine a then sget regReset s.pend a else sget regReset s.comp a))

/-- The frame start of a running channel outside a frame-lock group (R18, R26, R29): with RUN at 1 the frame number advances by
one, the line reads 0, the streaming stage of SRC becomes that of the frame composed in the period before, and the composition
stage that of the frame composed in this one; with RUN at 0 the channel stops. -/
def Obligations.FrameStarts : Prop :=
  ∀ (n : Chan) (s : State), s.subStill n 12 = false → s.on (F.LEC_STATUS_RUNNING n) = true → s.flMember n = false →
    s.on (F.LEC_STATUS_LOCKED n) = false → (s.ch n).join = false → s.sys.speed = none →
    ∃ t, exec (.frameStart n) s = .next t ∧
      (s.on (F.LEC_CTRL_RUN n) = true →
        t.get (R.LEC_FRAME_COUNT n) = (s.get (R.LEC_FRAME_COUNT n) + 1) % 2 ^ 32 ∧ t.rd (F.LEC_LINE_LINE n) = 0 ∧
        t.on (F.LEC_STATUS_RUNNING n) = true ∧
        ∀ a, srcBase n ≤ a → a < srcBase n + 0x2000 → sget regReset t.strm a = sget regReset (s.ch n).work a ∧
          sget regReset (t.ch n).work a = sget regReset s.comp a) ∧
      (s.on (F.LEC_CTRL_RUN n) = false → t.on (F.LEC_STATUS_RUNNING n) = false ∧
        t.get (R.LEC_FRAME_COUNT n) = s.get (R.LEC_FRAME_COUNT n) ∧ t.on (F.LEC_COMMIT_STATUS_PENDING n) = false ∧
        t.on (F.LEC_COMMIT_STATUS_LATCHED n) = false)

/-- The frame-lock group (R23–R25): with no group frame start due, a write of SYS_FLOCK is in force at once; an edge of the
selected LSYNC_IN pin within the window starts the frame of every running locked member with one count; an edge outside it is
counted in MISSED and starts none, and so is a missing one, which starts the frame at the programmed period. The count is the
leader's next, or, while the leader is stopped, that of a member it has left (log entry 99). -/
def Obligations.FrameLockGroup : Prop :=
  ∀ (v : Word) (i : Duo) (s : State), s.stood 242 242 = false →
    (s.flDue = false →
      ∃ t, exec (.frameLockWrite v) s = .next t ∧ t.rdA F.SYS_FLOCK_MEMBERS = bits v.toNat 0 4 ∧
        t.rdA F.SYS_FLOCK_REF = bits v.toNat 4 2 ∧ t.rdA F.SYS_FLOCK_LEADER = bits v.toNat 8 2 ∧ t.dram = s.dram) ∧
    (s.flRef = i.val + 1 → s.flDue = true → s.sys.flockFirst = false →
      ∃ t, exec (.lsyncInEdge i false) s = .next t ∧ t.dram = s.dram ∧
        t.rd F.SYS_FLOCK_STATUS_MISSED = min (s.rd F.SYS_FLOCK_STATUS_MISSED + 1) 255 ∧ t.sys.flockOk = 0 ∧
        (∀ n, t.get (R.LEC_FRAME_COUNT n) = s.get (R.LEC_FRAME_COUNT n)) ∧
        (i = 1 → t.lec = s.lec ∧ s.regsKeep t [R.SYS_FLOCK_STATUS])) ∧
    (∀ n : Fin 4, s.flRef = 2 → i = 1 → s.flMember n = true → s.on (F.LEC_STATUS_RUNNING n) = true →
      s.on (F.LEC_STATUS_LOCKED n) = true → s.on (F.LEC_CTRL_RUN n) = true → s.sys.flockFirst = false → s.sys.speed = none →
      (∃ t, exec (.lsyncInEdge i true) s = .next t ∧ t.sys.flockMiss = 0 ∧
        t.get (R.LEC_FRAME_COUNT n) = s.groupCount ∧
        (s.on (F.LEC_STATUS_RUNNING s.flLeader) = true → s.groupCount = (s.get (R.LEC_FRAME_COUNT s.flLeader) + 1) % 2 ^ 32)) ∧
      (∃ t, exec .lsyncEdgeMissing s = .next t ∧ t.sys.flockOk = 0 ∧
        t.get (R.LEC_FRAME_COUNT n) = s.groupCount))

/-! ### Assets, flash, grants (R105, R130, R139, R140, R146) -/

/-- LOAD_ASSET (R130): a piece at offset 0 opens an upload in the asset area, a piece at the offset reached continues it, any
other offset is answered BAD_PARAM with detail 4 and changes nothing; each piece's bytes stand in DRAM where the upload has its
place, and no other byte of DRAM changes. The last piece completes the asset when the CRC and the checks of its layout pass, for
a FALLBACK also its size against the array in force (R212; log entry 124); with a failed CRC the answer is BAD_PARAM with detail
3, with a failed check detail 6, and assets stay as they were. An identifier in use is answered BUSY. -/
def Obligations.AssetPieces : Prop :=
  ∀ (p : Fin 3) (mb : Fin 6) (flags seq id typ total off crc : Nat) (store : Bool) (d : List Byte) (s : State),
    s.Asks p mb 0x06 flags seq
      (leBytes 2 id ++ leBytes 1 typ ++ leBytes 1 (b2n store) ++ leBytes 4 total ++ leBytes 4 off ++ leBytes 4 crc ++ d) →
    1 ≤ id → id ≤ 1023 → 1 ≤ typ → typ ≤ 10 → (typ = 7 → 1000 ≤ id ∧ id ≤ 1003) → total < 2 ^ 32 → off < 2 ^ 32 → crc < 2 ^ 32 →
    d ≠ [] →
    let busy := (store && s.fw.flash.isSome) || s.referenced id || (typ == 7 && s.showsPattern (chan (id - 1000)))
    let a := fun page => (⟨id, typ, total, crc, page⟩ : Asset)
    let placed := fun (t : State) (at_ : Nat) => t.dread at_ d.length = d ∧
      ∀ x, x < at_ ∨ at_ + d.length ≤ x → t.dbyte x = s.dbyte x
    let ends := fun (t : State) (page : Nat) => let b := t.dread (page * 4096) total
      (crc32 b ≠ crc → t.answered p mb 0x06 seq stBAD_PARAM 3 [] ∧ t.upload id = none ∧ t.fw.assets = s.fw.assets) ∧
      (crc32 b = crc → s.assetOk (a page) b = false → t.answered p mb 0x06 seq stBAD_PARAM 6 [] ∧ t.upload id = none ∧
        t.fw.assets = s.fw.assets) ∧
      (crc32 b = crc → s.assetOk (a page) b = true → t.answered p mb 0x06 seq (if store then stACCEPTED else stOK) 0 [] ∧
        t.upload id = none ∧ t.asset id = some (a page))
    ∃ t, exec (.loadAsset p mb) s = .next t ∧
      (off ≠ 0 → (∀ u, s.upload id = some u → u.got ≠ off) → s.performs t p mb 0x06 seq stBAD_PARAM 4 []) ∧
      (off = 0 → total ≤ assetLimit typ → total ≤ s.freeFor id → d.length ≤ total → busy = true →
        s.performs t p mb 0x06 seq stBUSY 0 []) ∧
      (off = 0 → total ≤ assetLimit typ → total ≤ s.freeFor id → d.length ≤ total → busy = false →
        ∃ page, placed t (page * 4096) ∧
          (d.length < total → t.answered p mb 0x06 seq stOK 0 [] ∧ t.upload id = some ⟨a page, store, d.length⟩ ∧
            t.fw.assets = s.fw.assets) ∧
          (d.length = total → ends t page)) ∧
      (∀ page, off ≠ 0 → s.upload id = some ⟨a page, store, off⟩ → off + d.length ≤ total → busy = false →
        s.dramIn (page * 4096 + off) d.length = true →
        placed t (page * 4096 + off) ∧
          (off + d.length < total → t.answered p mb 0x06 seq stOK 0 [] ∧
            t.upload id = some ⟨a page, store, off + d.length⟩ ∧ t.fw.assets = s.fw.assets) ∧
          (off + d.length = total → ends t page))

/-- STORE_CONFIG (R139, R140): one flash operation at a time, a second is answered BUSY; an accepted request leaves the valid
configuration copy in force as it was and becomes a flash operation, whose completion writes the copy; FLASH_OP_COMPLETE ends
the operation in progress and sends DONE: OK, BAD_PARAM with detail 5 for an asset that had no room, or for VERIFY the reason
for which R76 rejects the slot, 7 where the part could not be read; an asset's record becomes the valid one of its identifier;
an erase leaves every byte of its slot at 0xFF and every other byte of the image slots as before. While the flash controller is
held or its clock stands nothing ends. FW_UPDATE under firmware (R140, R146): WRITE programs its bytes, which can only clear
bits, into a slot the firmware does not run from, at an offset of 0 or the one reached, and no other byte of the slots changes;
ERASE and VERIFY become flash operations answered ACCEPTED_PENDING; the slot that runs is refused with BAD_PARAM; where the part
does not answer, INTERNAL with nothing changed (the model's choice, log 135). -/
def Obligations.FlashAndFirmware : Prop :=
  ((∀ (p : Fin 3) (mb : Fin 6) (flags seq : Nat) (pl : List Byte) (s : State), s.Asks p mb 0x18 flags seq pl → pl.length = 36 →
      byteAt pl 0 < 16 → byteAt pl 1 < 16 → zeroAt pl 2 2 = true → zeroAt pl 5 3 = true → zeroAt pl 21 3 = true →
      (bit (byteAt pl 0) 3 = true → canOk pl = true) →
      ∃ t, exec (.storeConfig p mb) s = .next t ∧
        (s.fw.flash.isSome = true → s.replies t p mb 0x18 seq stBUSY s.fw) ∧
        (s.fw.flash = none → ∃ op, op.kind = 0 ∧ op.tag = some (⟨p, mb.val, 0x18, seq, bit flags 3⟩) ∧
          s.replies t p mb 0x18 seq stACCEPTED { s.fw with flash := some op, copies := s.fw.copies.set (duo op.unit) none } ∧
          (∀ c, s.stored = some c → t.stored = some c) ∧ ∃ c, op.copy = some c ∧ c.request = pl ∧
          c.parts = ((s.stored.map Stored.parts).getD 0) ||| byteAt pl 0)) ∧
    (∀ (fault : Bool) (op : FlashOp) (s : State), s.fw.flash = some op →
      ∃ t, exec (.flashOpComplete fault) s = .next t ∧
        (s.fwRuns = false ∨ s.sysStill 6 = true → t = s) ∧
        (s.fwRuns = true → s.sysStill 6 = false →
          let reason := if fault then 7 else s.imageReason (s.slotByte op.unit)
          let verdict := if op.kind = 1 ∧ op.asset = none then (stBAD_PARAM, 5)
            else if op.kind = 3 ∧ reason ≠ 0 then (stBAD_PARAM, reason) else (stOK, 0)
          t.fw.flash = none ∧ t.dram = s.dram ∧ t.lec = s.lec ∧ t.fw.act = s.fw.act ∧
          (op.kind = 0 → t.fw.copies.get (duo op.unit) = op.copy) ∧
          (op.kind = 1 → ∀ a b, op.asset = some (a, b) → ∀ r, r ∈ s.fw.store → r.asset.id = a.id → r.state = 0xFE →
            { r with state := 0xFC } ∈ t.fw.store) ∧
          (op.kind = 2 → ∀ a, sget State.flashReset t.fw.image a =
            if State.slotSize * op.unit ≤ a ∧ a < State.slotSize * (op.unit + 1) then 0xFF else sget State.flashReset s.fw.image a) ∧
          (op.kind ≠ 2 → t.fw.image = s.fw.image) ∧
          (op.kind ≤ 3 → ∀ tag, op.tag = some tag → tag.notify = true → (s.port tag.port).notifs.length < 16 →
            (t.port tag.port).notifs = (s.port tag.port).notifs ++
              [mkMessage 0x60 1 (s.port tag.port).nseq
                (statusWord verdict.1 verdict.2 ++ leBytes 1 tag.mb ++ leBytes 1 tag.op ++ leBytes 2 tag.seq)])))) ∧
  (∀ (mb : Fin 6) (flags seq num act slot off : Nat) (d : List Byte) (fault : Bool) (s : State),
      s.Asks 0 mb 0x8F flags seq (leBytes 4 num ++ leBytes 1 act ++ leBytes 1 slot ++ [0, 0] ++ leBytes 4 off ++ d) →
      slot < 2 → off < 2 ^ 32 →
      ∃ t, exec (.fwUpdate 0 mb fault) s = .next t ∧
        (act < 3 → (act = 1 ↔ d ≠ []) → slot = s.fw.running → s.replies t 0 mb 0x8F seq stBAD_PARAM s.fw) ∧
        (fault = true → act < 3 → (act = 1 ↔ d ≠ []) → slot ≠ s.fw.running → s.fw.flash = none →
          (act = 1 → off = 0 ∨ s.fw.slots.get (duo slot) = some off) → (act = 1 → off + d.length ≤ State.slotSize) →
          s.replies t 0 mb 0x8F seq stINTERNAL s.fw) ∧
        (fault = false → act = 1 → d ≠ [] → slot ≠ s.fw.running → s.fw.flash = none → off = 0 ∨ s.fw.slots.get (duo slot) = some off →
          off + d.length ≤ State.slotSize →
          s.replies t 0 mb 0x8F seq stOK { s.fw with image := t.fw.image, slots := t.fw.slots } ∧
          t.fw.slots.get (duo slot) = some (off + d.length) ∧
          ∀ a, sget State.flashReset t.fw.image a = sget State.flashReset s.fw.image a &&&
            (if State.slotSize * slot + off ≤ a then (d[a - (State.slotSize * slot + off)]?).getD 0xFF else 0xFF)) ∧
        (fault = false → act = 0 ∨ act = 2 → d = [] → slot ≠ s.fw.running → s.fw.flash = none →
          let op : FlashOp := ⟨if act = 0 then 2 else 3, slot, some ⟨0, mb.val, 0x8F, seq, bit flags 3⟩, none, none⟩
          s.replies t 0 mb 0x8F seq stACCEPTED { s.fw with flash := some op }))

/-- A Hall Pass grant (R104, R105): granted for 10 seconds or the time asked, under a number never issued before, unless eight
are live or one overlaps it, where a grant whose time has run out is not live; a returned or expired grant ends with event
0x0307 and a HALLPASS_END notification. -/
def Obligations.HallPassGrants : Prop :=
  (∀ (mb : Fin 6) (flags seq blk dur : Nat) (s : State),
    s.Asks 0 mb 0x80 flags seq (leBytes 1 blk ++ [0] ++ leBytes 2 dur ++ [0, 0, 0, 0]) → blk < 256 → blockId blk = true →
    dur ≤ 600 → 10 ≤ s.maxPay 0 →
    let clash := decide (8 ≤ s.liveGrants.length) || s.liveGrants.any fun g => covers g.block blk || covers blk g.block
    let d := if dur = 0 then 10 else dur
    ∃ t, exec (.hallpassReq 0 mb) s = .next t ∧
      (clash = true → s.replies t 0 mb 0x80 seq stBUSY s.fw) ∧
      (clash = false → ∃ num, t.answered 0 mb 0x80 seq stOK 0 (leBytes 4 num ++ leBytes 2 d) ∧
        (⟨num, blk, s.tb.toNat + 32768 * d⟩ : Grant) ∈ t.mbx.grants ∧ (∀ g ∈ t.mbx.grants, s.tb.toNat < g.endTick) ∧
        num ≠ 0 ∧ num ∉ s.mbx.issued ∧ t.mbx.issued = s.mbx.issued ++ [num] ∧ t.fw = s.fw ∧ t.dram = s.dram ∧ t.lec = s.lec ∧
        (s.liveGrants = s.mbx.grants → t.mbx.grants = s.mbx.grants ++ [⟨num, blk, s.tb.toNat + 32768 * d⟩] ∧
          s.logged t 0x0306 1 blk 0 ∧ s.regsKeep t (R.MBX_HSTAT :: R.MBX_GRANT_STATUS :: State.eventRegs)))) ∧
  (∀ (mb : Fin 6) (flags seq num : Nat) (g : Grant) (s : State), s.Asks 0 mb 0x81 flags seq (leBytes 4 num) → num < 2 ^ 32 →
    s.liveGrant num = some g →
    ∃ t, exec (.hallpassReturn 0 mb) s = .next t ∧ t.answered 0 mb 0x81 seq stOK 0 [] ∧
      t.mbx.grants = s.mbx.grants.filter (fun x => x.num != num) ∧ t.fw = s.fw ∧ t.dram = s.dram ∧
      ((s.port 0).notifs.length < 16 → s.logged t 0x0307 1 g.block 2 ∧ (t.port 0).notifs = (s.port 0).notifs ++
        [mkMessage 0x63 1 (s.port 0).nseq (leBytes 4 num ++ leBytes 1 g.block ++ leBytes 1 2)])) ∧
  (∀ (num : Nat) (g : Grant) (s : State), s.mbx.grants.find? (fun x => x.num == num && decide (x.endTick ≤ s.tb.toNat)) = some g →
    ∃ t, exec (.hallpassExpiry num) s = .next t ∧ t.mbx.grants = s.mbx.grants.filter (fun x => x.num != num) ∧
      t.fw = s.fw ∧ t.dram = s.dram ∧ t.lec = s.lec ∧
      s.regsKeep t (R.MBX_HSTAT :: R.MBX_GRANT_STATUS :: State.eventRegs ++ State.errRegs mbxBase) ∧
      ((s.port 0).notifs.length < 16 → s.logged t 0x0307 1 g.block 1 ∧ (t.port 0).notifs = (s.port 0).notifs ++
        [mkMessage 0x63 1 (s.port 0).nseq (leBytes 4 num ++ leBytes 1 g.block ++ leBytes 1 1)]))

/-! ### Registers and memories (R9, R10, R13, R16, R17, R48, R59, R82, R141, R142) -/

/-- A register write of the AON or CAL block takes each field under its attribute (R9): a read-write field takes the written
bits, a read-only one stays, a write-one-to-clear one clears where ones are written, and no other register changes. Writing 1 to
bit 31 of an error register clears it and its count; writing 0 changes nothing (R16). A block held by a soft reset takes no
write (R68). -/
def Obligations.RegisterWriteAttributes : Prop :=
  ∀ (a : Nat) (v : Word) (s : State),
    (∀ id b, blockOf a = some (id, b) → s.heldId id = true → exec (.registerWrite a v) s = .next s ∧ exec (.errClear a v) s = .next s) ∧
    (∀ (r : RegSpec) (f : FieldSpec) (b : Nat), blockOf a = some (3, b) ∨ (blockOf a = some (5, b) ∧ s.sysHeld 7 = false) →
      State.isErr a = false →
      specAt a = some r → f ∈ r.fields →
      ∃ t, exec (.registerWrite a v) s = .next t ∧ t = { s with regs := t.regs } ∧ s.regsKeep t [a] ∧
        let w := f.hi - f.lo + 1
        let old := bits (s.get a) f.lo w
        let new := bits v.toNat f.lo w
        bits (t.get a) f.lo w = match f.acc with
          | .rw | .rws | .rwl | .rwx => new
          | .ro | .wo => old
          | .clr => if bit v.toNat f.lo then 0 else old
          | .w1c => old &&& (2 ^ w - 1 - new)) ∧
    (State.isErr a = true → (∀ id b, blockOf a = some (id, b) → s.heldId id = false) → ∃ t, exec (.errClear a v) s = .next t ∧ t = { s with regs := t.regs } ∧ s.regsKeep t [a, a + 4] ∧
      (if bit v.toNat 31 then t.get a = 0 ∧ t.get (a + 4) = 0 else t = s))

/-- REG_READ, REG_WRITE and REG_MODIFY under a covering grant (R141; shown for AON and CAL registers): a read returns the words
in order and changes nothing; a write and a modify act as the register write does, and a modify returns the word before and
after; an address outside the map is answered NOT_PRESENT, a register only firmware writes BAD_PARAM, and nothing is written.
MEM_READ and MEM_WRITE (R142): populated DRAM that is not poisoned, a fallback pattern SRAM and a chain frame memory read as
they stand; a write stores its bytes at ascending addresses and nothing beside them; the SRAM of a pattern being shown is BUSY.
-/
def Obligations.RegisterAndMemoryCommands : Prop :=
  (∀ (mb : Fin 6) (flags seq num a : Nat) (s : State), num < 2 ^ 32 → a < 2 ^ 32 → a % 4 = 0 →
      let mine := fun a => (∃ b, blockOf a = some (3, b) ∨ blockOf a = some (5, b)) ∧ a ≠ R.AON_TB_LO
      (∀ k, s.Asks 0 mb 0x82 flags seq (leBytes 4 num ++ leBytes 4 a ++ leBytes 2 k) → 0 < k → 4 + 4 * k ≤ s.maxPay 0 → k < 2 ^ 16 →
        ∃ t, exec (.regRead 0 mb) s = .next t ∧
          ((∃ i, i < k ∧ blockOf (a + 4 * i) = none) → s.performs t 0 mb 0x82 seq stNOT_PRESENT 0 []) ∧
          ((∀ i, i < k → mine (a + 4 * i)) →
            s.performs t 0 mb 0x82 seq stOK 0 ((List.range k).map fun i => leBytes 4 (s.plainRead (a + 4 * i))).flatten)) ∧
      (∀ v : Word, s.Asks 0 mb 0x83 flags seq (leBytes 4 num ++ leBytes 4 a ++ leBytes 4 v.toNat) →
        ∃ t, exec (.regWrite 0 mb) s = .next t ∧
          (blockOf a = none → s.performs t 0 mb 0x83 seq stNOT_PRESENT 0 []) ∧
          ((cpuOnly a || cardReg a) = true → s.performs t 0 mb 0x83 seq stBAD_PARAM 0 []) ∧
          (mine a → cardReg a = false → ∃ u, exec (.registerWrite a v) s = .next u ∧ u.performs t 0 mb 0x83 seq stOK 0 [])) ∧
      (∀ m v w : Word, s.Asks 0 mb 0x84 flags seq (leBytes 4 num ++ leBytes 4 a ++ leBytes 4 m.toNat ++ leBytes 4 v.toNat) →
        mine a → cardReg a = false → w = ((BitVec.ofNat 32 (s.plainRead a) &&& ~~~m) ||| (v &&& m)) → 12 ≤ s.maxPay 0 →
        ∃ t u, exec (.regModify 0 mb) s = .next t ∧ exec (.registerWrite a w) s = .next u ∧
          u.performs t 0 mb 0x84 seq stOK 0 (leBytes 4 (s.plainRead a) ++ leBytes 4 (u.plainRead a)))) ∧
  (∀ (mb : Fin 6) (flags seq num a len sp : Nat) (d : List Byte) (n : Fin 4) (s : State), num < 2 ^ 32 → len < 2 ^ 16 → len % 4 = 0 →
      a % 4 = 0 → d.length = len →
      let head := leBytes 4 num ++ leBytes 1 sp ++ [0, 0, 0] ++ leBytes 8 a ++ leBytes 2 len ++ [0, 0]
      let dram := sp = 0 ∧ 0x100000000 ≤ a ∧ ∀ i, i < len → a + i < 0x500000000 ∧ s.dramHit (a + i) = true
      let sram := sp = 1 + n.val ∧ a + len ≤ 0x40000
      let chain := sp = 5 + n.val ∧ a + len ≤ 0x8000
      (s.Asks 0 mb 0x85 flags seq head → 4 + len ≤ s.maxPay 0 → ∃ t, exec (.memRead 0 mb) s = .next t ∧
        (dram → (∀ i, i < len → s.poisoned (a + i) = false) → s.performs t 0 mb 0x85 seq stOK 0 (s.dread a len)) ∧
        (sram → s.performs t 0 mb 0x85 seq stOK 0 (sgets memReset (s.ch n).sram a len)) ∧
        (chain → s.performs t 0 mb 0x85 seq stOK 0 (sgets memReset (s.cn n).mem a len))) ∧
      (s.Asks 0 mb 0x86 flags seq (head ++ d) → ∃ t, exec (.memWrite 0 mb) s = .next t ∧
        (dram → t.answered 0 mb 0x86 seq stOK 0 [] ∧ s.regsKeep t [R.MBX_HSTAT, R.MBX_IRQ_STATUS] ∧ t.lec = s.lec ∧ t.fw = s.fw ∧
          ∀ x, t.dbyte x = if a ≤ x ∧ x < a + len then d.getD (x - a) 0 else s.dbyte x) ∧
        (sram → s.showsPattern n = true → s.performs t 0 mb 0x86 seq stBUSY 0 []) ∧
        (sram → s.showsPattern n = false → s.bistOn 2 n = false → t.answered 0 mb 0x86 seq stOK 0 [] ∧ t.dram = s.dram ∧
          t.fw = s.fw ∧ s.regsKeep t [R.MBX_HSTAT, R.MBX_IRQ_STATUS, R.CMP_STATUS n] ∧
          ∀ x, sget memReset (t.ch n).sram x = if a ≤ x ∧ x < a + len then d.getD (x - a) 0 else sget memReset (s.ch n).sram x) ∧
        (chain → s.on (F.CHN_CTRL_EN n) = false → s.bistOn 1 n = false → t.answered 0 mb 0x86 seq stOK 0 [] ∧ t.dram = s.dram ∧
          t.fw = s.fw ∧ s.regsKeep t [R.MBX_HSTAT, R.MBX_IRQ_STATUS] ∧
          ∀ x, sget memReset (t.cn n).mem x = if a ≤ x ∧ x < a + len then d.getD (x - a) 0 else sget memReset (s.cn n).mem x)))

/-! ### Links, chains, resets, loops (R70, R129, R133, R134, R138, R143–R146, R276, R279, R288–R292, R328, R329) -/

/-- LINK_CONTROL (R133): QUERY, and ENABLE of a link that is up, report and change nothing; DISABLE takes a stopped channel's
link to OFF and is refused with WRONG_MODE while the channel runs; ENABLE of a link that is not up begins a negotiation; LOWER
of one that is not up is WRONG_MODE; LOWER and RENEGOTIATE of a stopped channel's link that is up begin a retrain to the mode
asked or the best one. LINK_EQ (R146, R266, R281): reading a lane returns its eye and its settings and changes nothing; setting
a forward lane's transmitter or the back lane's receiver changes that register alone, on a stopped channel; setting the back
lane's transmitter sends the node MGMT command 0x0A over a link that is up; on a running channel each is BUSY. -/
def Obligations.LinkCommands : Prop :=
  (∀ (p : Fin 3) (mb : Fin 6) (flags seq act lanes mbps : Nat) (n : Fin 4) (s : State),
      s.Asks p mb 0x13 flags seq (leBytes 1 n.val ++ leBytes 1 act ++ leBytes 1 lanes ++ [0] ++ leBytes 2 mbps ++ [0, 0]) →
      act ≤ 4 → lanes < 256 → mbps < 2 ^ 16 → (act = 3 → (lanes = 1 ∨ lanes = 2) ∧ (rateIx mbps).isSome = true) → 16 ≤ s.maxPay p →
      let runs := s.on (F.LEC_STATUS_RUNNING n)
      let replied := fun (t : State) (st : Nat) => ∃ data, data.length = 12 ∧ t.answered p mb 0x13 seq st 0 data
      ∃ t, exec (.linkControl p mb) s = .next t ∧ t.dram = s.dram ∧ t.comp = s.comp ∧ t.fw = s.fw ∧
        (act = 0 ∨ act = 1 ∧ s.linkUp n = true ∧ s.linkTraining n = false →
          ∃ data, data.length = 12 ∧ data.take 1 = leBytes 1 (s.linkCode n) ∧ s.performs t p mb 0x13 seq stOK 0 data) ∧
        (act = 2 → runs = true → s.performs t p mb 0x13 seq stWRONG_MODE 0 []) ∧
        (act = 2 → runs = false → replied t stOK ∧ t.linkState n = 0 ∧ t.on (F.LNK_CTRL_EN n) = false ∧ t.neg n = none) ∧
        (act = 1 ∨ act = 4 → s.linkUp n = false → s.linkTraining n = false →
          replied t stACCEPTED ∧ t.linkState n = 1 ∧ t.on (F.LNK_CTRL_EN n) = true ∧ (t.neg n).isSome = true) ∧
        (act ≠ 0 → act ≠ 2 → s.linkTraining n = true → s.performs t p mb 0x13 seq stBUSY 0 []) ∧
        (act = 3 → s.linkUp n = false → s.linkTraining n = false → s.performs t p mb 0x13 seq stWRONG_MODE 0 []) ∧
        (act = 3 → s.linkUp n = true → s.linkTraining n = false → runs = false →
          (s.lowerBad n lanes ((rateIx mbps).getD 0) = true → s.performs t p mb 0x13 seq stBAD_PARAM 0 []) ∧
          (s.lowerBad n lanes ((rateIx mbps).getD 0) = false → replied t stACCEPTED ∧ t.linkState n = 2 ∧
            t.rd (F.LNK_LIMIT_LANES n) = lanes ∧ some (t.rd (F.LNK_LIMIT_RATE n)) = rateIx mbps)) ∧
        (act = 4 → s.linkUp n = true → s.linkTraining n = false → runs = false → replied t stACCEPTED ∧ t.linkState n = 2 ∧
          t.rd (F.LNK_LIMIT_LANES n) = s.rd (F.LNK_BEST_LANES n) ∧ t.rd (F.LNK_LIMIT_RATE n) = s.rd (F.LNK_BEST_RATE n))) ∧
  (∀ (mb : Fin 6) (flags seq num lane act v width height : Nat) (n : Fin 4) (s : State),
      s.Asks 0 mb 0x8E flags seq (leBytes 4 num ++ leBytes 1 n.val ++ leBytes 1 lane ++ leBytes 1 act ++ [0] ++ leBytes 4 v) →
      lane ≤ 2 → v < 2 ^ 28 →
      let runs := s.on (F.LEC_STATUS_RUNNING n)
      let eye := leBytes 2 width ++ leBytes 2 height
      ∃ t, exec (.linkEq 0 mb width height) s = .next t ∧
        (act = 0 → s.performs t 0 mb 0x8E seq stOK 0 (eye ++ s.eqReport n lane)) ∧
        (act = 1 → lane < 2 → runs = false →
          (s.put (if lane = 0 then R.LNK_EQ_F0 n else R.LNK_EQ_F1 n) (v % 2 ^ 24)).performs t 0 mb 0x8E seq stOK 0
            (eye ++ leBytes 3 v ++ [0])) ∧
        (act = 2 → lane = 2 → runs = false →
          (s.put (R.LNK_EQ_B n) (v / 2 ^ 24)).performs t 0 mb 0x8E seq stOK 0
            (eye ++ (s.ch n).link.backTx ++ leBytes 1 (v / 2 ^ 24))) ∧
        (act = 1 → lane = 2 → runs = false → s.linkUp n = false → s.performs t 0 mb 0x8E seq stOK 0 (eye ++ s.eqReport n 2)) ∧
        (act = 1 → lane = 2 → runs = false → s.linkUp n = true →
          t.answered 0 mb 0x8E seq stOK 0 (eye ++ leBytes 3 v ++ leBytes 1 (s.get (R.LNK_EQ_B n) % 16)) ∧
          (t.ch n).link.backTx = leBytes 3 v ∧ s.regsKeep t [R.MBX_HSTAT, R.MBX_IRQ_STATUS] ∧ t.dram = s.dram ∧ t.fw = s.fw ∧
          ((s.ch n).link.idle = false →
            (t.ch n).link.tx.head? = some ⟨(s.ch n).link.seq, 8, [10] ++ leBytes 3 v ++ List.replicate 12 0⟩)) ∧
        (act = 1 ∨ act = 2 ∧ lane = 2 → runs = true → s.performs t 0 mb 0x8E seq stBUSY 0 []))

/-- CHAIN_ROLLCALL (R134, R288, R292): BUSY when a named port is not stopped; else each named port records what its chain
returned: no driver and result 1 where no ADDRESS word returned, all counted drivers and result 0 where every record is valid;
the answer holds eight bytes for each named port, and no other port's registers change. RESET_FUNCTION (R70, R138): DEVICE with
its key schedules the reset, WATCHDOG arms the watchdog with its timeout unless it is armed already; a BLOCK whose target is
idle is put into reset and answered after its release, one that is not idle is WRONG_MODE. -/
def Obligations.RollCallAndResetFunction : Prop :=
  (∀ (p : Fin 3) (mb : Fin 6) (flags seq mask khz : Nat) (found : List (List Nat)) (s : State),
      s.Asks p mb 0x14 flags seq (leBytes 1 mask ++ [0] ++ leBytes 2 khz) → 0 < mask → mask < 16 →
      khz = 0 ∨ 1000 ≤ khz ∧ khz ≤ 50000 → 36 ≤ s.maxPay p →
      ∃ t, exec (.chainRollcall p mb found) s = .next t ∧ t.dram = s.dram ∧
        ((∃ n : Fin 4, bit mask n.val = true ∧ s.rd (F.CHN_STATUS_STATE n) ≠ 0) → s.performs t p mb 0x14 seq stBUSY 0 []) ∧
        ((∀ n : Fin 4, bit mask n.val = true → s.rd (F.CHN_STATUS_STATE n) = 0) →
          t.answered p mb 0x14 seq stOK 0 (chans.map fun n => if bit mask n.val then t.rollReport n else []).flatten ∧
          ∀ n : Fin 4,
            (bit mask n.val = false → ∀ a, chnBase n ≤ a → a < chnBase n + 0x4000 → t.get a = s.get a) ∧
            (bit mask n.val = true → found.getD n.val [] = [] → t.rd (F.CHN_MODE_DRIVERS n) = 0 ∧ t.rd (F.CHN_RC_RESULT n) = 1) ∧
            (∀ c recs, bit mask n.val = true → found.getD n.val [] = 1 :: c :: recs → 1 ≤ c → c ≤ 64 → c ≤ validRun 0 recs →
              t.rd (F.CHN_MODE_DRIVERS n) = c ∧ t.rd (F.CHN_RC_RESULT n) = 0))) ∧
  (∀ (p : Fin 3) (mb : Fin 6) (flags seq : Nat) (s : State), 4 ≤ s.maxPay p →
      (∀ key, s.Asks p mb 0x16 flags seq ([1, 0] ++ leBytes 2 key ++ [0, 0]) → key < 2 ^ 16 →
        ∃ t, exec (.resetFunction p mb) s = .next t ∧
          (key = 0x9480 → State.performs { s with rst := { s.rst with device := true } } t p mb 0x16 seq stOK 0 []) ∧
          (key ≠ 0x9480 → s.performs t p mb 0x16 seq stBAD_PARAM 0 [])) ∧
      (∀ ms, s.Asks p mb 0x16 flags seq ([2, 0, 0, 0] ++ leBytes 2 ms) → 1 ≤ ms → ms ≤ 1000 →
        ∃ t, exec (.resetFunction p mb) s = .next t ∧
          (s.on F.RST_WDT_CFG_ARMED = true → s.performs t p mb 0x16 seq stBUSY 0 []) ∧
          (s.on F.RST_WDT_CFG_ARMED = false → t.answered p mb 0x16 seq stOK 0 [] ∧ t.on F.RST_WDT_CFG_ARMED = true ∧
            t.rd F.RST_WDT_CFG_TIMEOUT = ms ∧ t.rst = { s.rst with wdtTick := s.tb.toNat } ∧ t.fw = s.fw ∧ t.dram = s.dram ∧
            s.regsKeep t [R.MBX_HSTAT, R.MBX_IRQ_STATUS, R.RST_WDT_CFG])) ∧
      (∀ id, s.Asks p mb 0x16 flags seq ([0] ++ leBytes 1 id ++ [0, 0, 0, 0]) → id < 256 →
        ∃ t, exec (.resetFunction p mb) s = .next t ∧
          (State.resetBits id = none → s.performs t p mb 0x16 seq stBAD_PARAM 0 []) ∧
          (∀ k v, State.resetBits id = some (k, v) → s.resetIdle id = false → s.performs t p mb 0x16 seq stWRONG_MODE 0 []) ∧
          (∀ k v, State.resetBits id = some (k, v) → s.resetIdle id = true → ¬ (id = 11 ∧ p = 1) → ¬ (id = 12 ∧ p = 2) →
            (t.port p).defer.contains mb.val = true ∧
            t.rst.softTag = s.rst.softTag ++ [(k, v, ⟨p, mb.val, 0x16, seq, bit flags 3⟩)] ∧
            t.get (if k = 4 then R.RST_BLK_CTRL4 else R.RST_BLK_CTRLk k) &&& v = v)))

/-- SET_LOOP (R129, R320): ENABLE loads the states of a context that was disabled from X0 and starts it; DISABLE stops it;
SET_REF writes the four references and nothing else; LOAD_TEMPLATE of LEVELLING needs every context of the channel disabled,
else it is BUSY, and gives the context two states, one input and one output (R326). The tuning commands (R145, R328, R329):
TRACE_SETUP discards the capture and arms the trace; INJECT_SETUP of a CONSTANT, PRBS or CHIRP arms the injection with its
parameters; TRACE_READ returns the capture state and the words in order and changes nothing. -/
def Obligations.LoopAndTuningCommands : Prop :=
  (∀ (p : Fin 3) (mb : Fin 6) (flags seq act kind rate phi : Nat) (refs : List Word) (n c : Fin 4) (s : State),
      s.Asks p mb 0x17 flags seq (leBytes 1 n.val ++ leBytes 1 c.val ++ leBytes 1 act ++ leBytes 1 kind ++ leBytes 4 rate ++ leBytes 2 phi ++
        [0, 0] ++ (refs.map fun w => leBytes 4 w.toNat).flatten ++ [0, 0]) → refs.length = 4 → kind < 4 → rate < 2 ^ 32 → phi < 2 ^ 16 →
      (∀ w ∈ refs, q27Ok w.toNat = true) →
      let was := s.on (F.TUT_CTXc_CTRL_EN n c.val)
      let ref := fun i => (refs.getD i 0).toNat
      ∃ t, exec (.setLoop p mb) s = .next t ∧ t.dram = s.dram ∧ t.comp = s.comp ∧ t.strm = s.strm ∧
        (act = 0 → kind = 0 → t.answered p mb 0x17 seq stOK 0 [] ∧ t.on (F.TUT_CTXc_CTRL_EN n c.val) = false ∧ t.fw = s.fw) ∧
        (act = 1 → kind = 0 → s.destShared n c = false → s.bistNames (2 ^ n.val) false = false →
          t.answered p mb 0x17 seq stOK 0 [] ∧ t.on (F.TUT_CTXc_CTRL_EN n c.val) = true ∧ t.fw = s.fw ∧
          (was = false → (t.ctx n c).rel = none ∧ ∀ i, i < 16 → t.xOf n c i = 32 * s.coef n c (656 + i))) ∧
        (act = 3 → kind = 0 → t.answered p mb 0x17 seq stOK 0 [] ∧ t.fw = s.fw ∧ t.lec = s.lec ∧
          (∀ i, i < 4 → t.get (R.TUT_CTXc_REFi n c.val i) = ref i) ∧
          s.regsKeep t (R.MBX_HSTAT :: R.MBX_IRQ_STATUS :: (List.range 4).map (R.TUT_CTXc_REFi n c.val))) ∧
        (act = 2 → kind = 3 → 1000 ≤ rate → rate ≤ 200000 → 176 ≤ phi → phi * rate < 600000000 →
          (s.tutorIdle n = false → s.performs t p mb 0x17 seq stBUSY 0 []) ∧
          (s.tutorIdle n = true → t.answered p mb 0x17 seq stOK 0 [] ∧ t.nx n c = 2 ∧ t.nz n c = 1 ∧ t.nu n c = 1 ∧
            t.rd (F.TUT_CTXc_CTRL_TEMPLATE n c.val) = 3 ∧ t.on (F.TUT_CTXc_CTRL_EN n c.val) = false ∧
            ∀ i, i < 4 → t.get (R.TUT_CTXc_REFi n c.val i) = ref i))) ∧
  (∀ (mb : Fin 6) (flags seq num : Nat) (n c : Fin 4) (s : State),
      (∀ trig decim len code nodes, s.Asks 0 mb 0x89 flags seq (leBytes 4 num ++ leBytes 1 n.val ++ leBytes 1 c.val ++ leBytes 1 trig ++
          leBytes 1 decim ++ leBytes 2 len ++ leBytes 2 code ++ leBytes 4 nodes) → trig ≤ 2 → 1 ≤ decim → decim < 256 → 1 ≤ len →
        len ≤ 8192 → code < 2 ^ 16 → nodes < 2 ^ 32 → (∀ i, i < 4 → State.nodeOk (nodes / 256 ^ i % 256) = true) →
        ∃ t, exec (.traceSetup 0 mb) s = .next t ∧ t.answered 0 mb 0x89 seq stOK 0 [] ∧ t.rd (F.TUT_TRC_STATUS_STATE n) = 1 ∧
          t.rd (F.TUT_TRC_STATUS_WORDS n) = 0 ∧ t.rd (F.TUT_TRC_INJ_INDEX n) = 0xFFFF ∧ t.get (R.TUT_TRC_NODES n) = nodes ∧
          t.rd (F.TUT_TRC_EVT_CODE n) = code ∧ t.on (F.TUT_TRC_CFG_ARM n) = true ∧ t.dram = s.dram ∧ t.fw = s.fw) ∧
      (∀ node sig amp p1 p2 dur id start, s.Asks 0 mb 0x8A flags seq (leBytes 4 num ++ leBytes 1 n.val ++ leBytes 1 c.val ++ leBytes 1 node ++
          leBytes 1 sig ++ leBytes 4 amp ++ leBytes 4 p1 ++ leBytes 4 p2 ++ leBytes 4 dur ++ leBytes 2 id ++ leBytes 1 start ++ [0]) →
        node < 256 → 1 ≤ sig → sig ≤ 3 → start ≤ 1 → amp < 2 ^ 32 → p1 < 2 ^ 32 → p2 < 2 ^ 32 → dur < 2 ^ 32 → id < 2 ^ 16 →
        State.nodeOk node = true → node / 32 ≠ 0 → node / 32 ≠ 4 →
        ∃ t, exec (.injectSetup 0 mb) s = .next t ∧ t.answered 0 mb 0x8A seq stOK 0 [] ∧ t.rd (F.TUT_INJ_STATUS_STATE n) = 1 ∧
          t.rd (F.TUT_INJ_STATUS_SAMPLES n) = 0 ∧ t.get (R.TUT_INJ_AMP n) = amp ∧ t.get (R.TUT_INJ_P1 n) = p1 ∧
          t.get (R.TUT_INJ_P2 n) = p2 ∧ t.get (R.TUT_INJ_DUR n) = dur ∧ t.dram = s.dram ∧ t.fw = s.fw) ∧
      (∀ first count, s.Asks 0 mb 0x8B flags seq (leBytes 4 num ++ leBytes 1 n.val ++ [0] ++ leBytes 2 first ++ leBytes 2 count) →
        1 ≤ count → first + count ≤ 8192 → 12 + 4 * count ≤ s.maxPay 0 →
        ∃ t, exec (.traceRead 0 mb) s = .next t ∧ s.performs t 0 mb 0x8B seq stOK 0
          (leBytes 1 (s.rd (F.TUT_TRC_STATUS_STATE n)) ++ [0] ++ leBytes 2 (s.rd (F.TUT_TRC_STATUS_WORDS n)) ++
            leBytes 2 (s.rd (F.TUT_TRC_INJ_INDEX n)) ++ [0, 0] ++
            ((List.range count).map fun i => leBytes 4 (s.get (R.TUT_TRC_WORDw n (first + i)))).flatten)))

/-- LOOP_LOAD_MATRIX (R144) on a channel whose contexts are disabled writes the entries of one matrix row by row, zero beyond
its rows and columns, and no word of matrix memory outside it; on a channel with an enabled context it is BUSY. TIMETABLE_LOAD
(R143) of well-formed fields under an index that no commit uses: stored under its index when it passes the checks of R198, else
answered REJECTED_CONFIG with TIMETABLE and stored nowhere; an index in use is BUSY. Nothing else changes. -/
def Obligations.MatrixAndTimetableLoads : Prop :=
  (∀ (mb : Fin 6) (flags seq num m rows cols : Nat) (ws : List Word) (n c : Fin 4) (s : State),
      s.Asks 0 mb 0x8C flags seq (leBytes 4 num ++ leBytes 1 n.val ++ leBytes 1 c.val ++ leBytes 1 m ++ [0] ++ leBytes 1 rows ++
        leBytes 1 cols ++ [0, 0] ++ (ws.map fun w => leBytes 4 w.toNat).flatten) → ws.length = rows * cols → m ≤ 5 → 1 ≤ rows →
      rows ≤ (matLimit m).1 → 1 ≤ cols → cols ≤ (matLimit m).2 → (∀ w ∈ ws, q27Ok w.toNat = true) →
      matAgrees (s.ctx n c).loaded m rows cols = true →
      let word := fun i j => R.TUT_CTXc_MAT n c.val ((matPlace m).1 + (matPlace m).2 * i + j)
      ∃ t, exec (.loopLoadMatrix 0 mb) s = .next t ∧ t.dram = s.dram ∧ t.fw = s.fw ∧
        (s.tutorIdle n = false → s.performs t 0 mb 0x8C seq stBUSY 0 []) ∧
        (s.tutorIdle n = true → t.answered 0 mb 0x8C seq stOK 0 [] ∧ (m, rows, cols) ∈ (t.ctx n c).loaded ∧
          (∀ i j, i < (matLimit m).1 → j < (matLimit m).2 →
            t.get (word i j) = if i < rows ∧ j < cols then (ws.getD (cols * i + j) 0).toNat else 0) ∧
          s.regsKeep t (R.MBX_HSTAT :: R.MBX_IRQ_STATUS :: R.TUT_CTXc_CTRL n c.val ::
            ((List.range (matLimit m).1).map fun i => (List.range (matLimit m).2).map fun j => word i j).flatten))) ∧
  (∀ (mb : Fin 6) (flags seq num i k : Nat) (body : List Byte) (n : Fin 4) (s : State),
      s.Asks 0 mb 0x8D flags seq (leBytes 4 num ++ leBytes 1 n.val ++ leBytes 1 i ++ leBytes 1 k ++ [0] ++ body) → i < 16 →
      k = 1 ∨ k = 3 →
      let b := leBytes 1 k ++ [0] ++ body
      State.fieldsEnd b k 2 = b.length → State.fieldsOk b k 2 = true →
      ∃ t, exec (.timetableLoad 0 mb) s = .next t ∧
        (s.timetableUsed n i = true → s.performs t 0 mb 0x8D seq stBUSY 0 []) ∧
        (s.timetableUsed n i = false → s.loadChecks n (ttParse b k 2).1 = false →
          s.performs t 0 mb 0x8D seq stREJECTED_CONFIG rjTIMETABLE []) ∧
        (s.timetableUsed n i = false → s.loadChecks n (ttParse b k 2).1 = true →
          s.replies t 0 mb 0x8D seq stOK { s.fw with tables := sset (fun _ => []) s.fw.tables (16 * n.val + i) b }))

/-! ### Supply warning, standby, clocks (R43–R52, R55, R56, R252–R254) -/

/-- PWR_WARN_N (R43, R252, R253): its fall puts PARK into the commands of every released channel and darkens its field; while a
node owes its report the park is open from the tick of recognition; 200 µs after recognition a channel that has not reported
sets its error, and the park ends with event 0x0103, the channels that reported and the time to the last report in µs (0 with
none, log entry 112), and in DARK-HOLD, unless STANDBY was being entered or reached, the device boots or is in SCAN-TEST. In
SCAN-TEST and STANDBY only the pin's level is taken. Its rise changes nothing else. Standby and wake (R44–R46): an enabled wake
source is latched while the device enters or is in STANDBY; it is acted on at once when the minimum low time has passed, else
when that time ends: STBY_EN_N rises and AON_WAKE_STATUS shows it, and with it every other source of the same AON cycle (log
entry 115). A source that is not enabled changes nothing. VDD_CORE good then resets the device into BOOT with cause 2, and a
late supply is recorded. -/
def Obligations.SupplyAndStandby : Prop :=
  (∀ s : State,
      (s.sys.pwrLow = false → s.mode = modeSCANTEST ∨ s.mode = modeSTANDBY →
        exec .pwrWarnFall s = .next { s with sys := { s.sys with pwrLow := true } }) ∧
      (s.sys.pwrLow = false → s.mode ≠ modeSCANTEST → s.mode ≠ modeSTANDBY → s.mode ≠ modeCALIBRATE →
        ∃ t, exec .pwrWarnFall s = .next t ∧ t.sys.pwrLow = true ∧ t.dram = s.dram ∧
          (∀ n : Fin 4, bit s.rst.released n.val = true → (t.ch n).src.parkSet = true ∧ (t.ch n).fieldDark = true ∧ t.arm n = 0) ∧
          ((∃ n : Fin 4, bit s.rst.released n.val = true ∧ s.nodeType n ≠ 3) →
            t.mode = s.mode ∧ ∃ sub, t.sys.park = some ⟨s.tb.toNat, sub, s.tb.toNat, sub, s.rst.released, 0, 0⟩)) ∧
      (∃ t, exec .pwrWarnRise s = .next t ∧ t = { s with sys := { s.sys with pwrLow := false } }) ∧
      (∀ k, s.sys.park = some k → ∃ t, exec .parkTimeout s = .next t ∧ t.sys.park = none ∧ t.dram = s.dram ∧
        (∀ n : Fin 4, bit (s.parkOwes k) n.val = true → bit (t.get (srcBase n + 0x1F0)) 31 = true) ∧
        (s.parkOwes k = 0 → s.mode = modeBOOT ∨ s.mode = modeDARKHOLD → s.logged t 0x0103 3 k.parked
          (if k.parked = 0 then 0 else min 65535 (State.microsBetween k.tick k.sub k.lastTick k.lastSub))) ∧
        (s.mode ≠ modeBOOT → s.mode ≠ modeSTANDBY → s.mode ≠ modeSCANTEST → s.sys.transit = none → t.mode = modeDARKHOLD))) ∧
  (∀ (i : Duo) (s : State),
      let woken := fun (t : State) (k : Nat) =>
        (s.aon.phase = .lowDone → t.aon.phase = .waking ∧ t.pins.stbyEnN = true ∧ bit (t.get R.AON_WAKE_STATUS) k = true ∧
          s.regsKeep t [R.AON_WAKE_STATUS]) ∧
        (s.aon.phase = .low ∨ s.aon.phase = .entering → t = { s with aon := { s.aon with wakes := setBit s.aon.wakes k true } }) ∧
        (s.aon.phase = .waking → s.aon.wakeTick = s.tb.toNat → t = { s with regs := t.regs } ∧
          bit (t.get R.AON_WAKE_STATUS) k = true ∧ s.regsKeep t [R.AON_WAKE_STATUS]) ∧
        (s.aon.phase = .awake ∨ s.aon.phase = .waking ∧ s.aon.wakeTick ≠ s.tb.toNat → t = s)
      let source := fun (c : Instr) (k : Nat) (en : Bool) => ∃ t, exec c s = .next t ∧ if en then woken t k else t = s
      source (.wakePin i) i.val (bit (s.get R.AON_WAKE_CFG) i.val) ∧
      source (.wakeCanPattern i) (2 + i.val) (bit (s.get R.AON_WAKE_CFG) (4 + i.val)) ∧
      source .wakeHspi 4 (s.on F.AON_WAKE_CFG_HSPI_EN) ∧
      source .wakeTimer 5 (s.on F.AON_WAKE_CFG_TIMER_EN &&
        decide (s.get R.AON_WAKE_TIMER_LO + s.rd F.AON_WAKE_TIMER_HI_TICK * 2 ^ 32 ≤ s.tb.toNat)) ∧
      (∃ t, exec .standbyMinLowExpiry s = .next t ∧
        (s.aon.phase = .low → s.aon.wakes = 0 → t = { s with aon := { s.aon with phase := .lowDone } }) ∧
        (s.aon.phase = .low → s.aon.wakes ≠ 0 → t.aon.phase = .waking ∧ t.pins.stbyEnN = true ∧
          t.get R.AON_WAKE_STATUS = (s.get R.AON_WAKE_STATUS ||| s.aon.wakes) % 2 ^ 32) ∧
        (s.aon.phase ≠ .low → t = s)) ∧
      (s.aon.phase = .waking → ∃ t, exec .coreSupplyGood s = .next t ∧ t.mode = modeBOOT ∧ t.rd F.SYS_MODE_CAUSE = 2 ∧
        bit (t.get R.RST_CAUSE) 2 = true ∧ t.rd F.RST_STATUS_PHASE = 2 ∧ t.aon.phase = .awake ∧ t.aon.coreGood = true ∧
        t.pins.isolated = false ∧ t.tb = s.tb) ∧
      (∃ t, exec .pmicTimeout s = .next t ∧
        (s.aon.phase = .waking → t.aon = { s.aon with supplyLate := true } ∧ t.on F.AON_STBY_STATUS_SUPPLY_LATE = true ∧
          s.regsKeep t [R.AON_STBY_STATUS]) ∧
        (s.aon.phase ≠ .waking → t = s)))

/-- The AON clock, PLLs and clock domains (R47–R49, R51, R52, R65, R66, R270): switching to the crystal and losing it log event
0x0104 with A = 1 and 0; a PLL that is on locks; SYSPLL's lock starts the 25 MHz reference, and the sub-tick is valid from the
next tick; the lock of LPLLn begins the negotiation that waited for it; a lock loss drops the clock-good of every domain the PLL
feeds and of no other, and logs event 0x0113; a PLL that feeds no enabled domain stops; clock-good of an enabled domain rises
while its PLL is locked, and with the last of domains 208–223 the DRAM controllers are released; a write of SYS_CLKEN enables
and disables the domains of its word and no other, and a domain so disabled stands. The speed change and its advisories (R55,
R56, R374, R375): when traffic has drained both channels are held in self-refresh, for good in D3, else the DPLLs lose their
lock, and once both have relocked the new speed is written; after the training is restored both run. A degrade advisory of an
armed reason whose condition holds, and which was not logged within a second, logs event 0x0110 with the profile recommended;
one that is not armed changes nothing. -/
def Obligations.ClocksAndSpeed : Prop :=
  (∀ (i : Fin 9) (d : Fin 256) (k : Fin 8) (v : Word) (s : State),
      (s.aon.vaonGood = true → s.aon.crystal = false → ∃ t, exec .crystalSwitch s = .next t ∧
        t.aon = { s.aon with crystal := true } ∧ t.on F.AON_CLK_STATUS_XTAL = true ∧ s.logged t 0x0104 0 1 0 ∧
        s.regsKeep t (R.AON_CLK_STATUS :: State.eventRegs)) ∧
      (s.aon.crystal = true → ∃ t, exec .crystalStop s = .next t ∧ t.aon = { s.aon with crystal := false } ∧
        t.on F.AON_CLK_STATUS_XTAL = false ∧ s.logged t 0x0104 2 0 0 ∧
        s.regsKeep t (R.AON_CLK_STATUS :: State.eventRegs ++ State.errRegs aonBase)) ∧
      (s.pllOn i.val = true → s.pllLocked i.val = false → ∃ t, exec (.pllLock i) s = .next t ∧ t.pllLocked i.val = true ∧
        t.pllOn i.val = true ∧ (∀ j, j < 9 → j ≠ i.val → t.pllLocked j = s.pllLocked j) ∧
        t.aon = (if i.val = 0 then { s.aon with refOn := true } else s.aon) ∧
        (s.sys.speed = none → (∀ n : Fin 4, i.val = 4 + n.val → s.neg n = none) → s.regsKeep t [R.SYS_PLL_STATUS]) ∧
        (∀ (n : Fin 4) (g : Neg), i.val = 4 + n.val → s.neg n = some g → g.step = 8 → g.retrain = false →
          t.neg n = some { g with step := 1 })) ∧
      (s.pllLocked i.val = true → ∃ t, exec (.pllLockLoss i) s = .next t ∧ t.pllLocked i.val = false ∧ t.pllOn i.val = true ∧
        (∀ e, e < 250 → t.clkGood e = (s.clkGood e && pllOf e != some i.val)) ∧ s.logged t 0x0113 4 i.val 0) ∧
      (∃ t, exec (.pllStop i) s = .next t ∧
        if (List.range 250).any (fun e => pllOf e == some i.val && s.clkOn e) then t = s
        else t.pllOn i.val = false ∧ t.pllLocked i.val = false ∧ s.regsKeep t [R.SYS_PLL_STATUS]) ∧
      (∀ p, pllOf d.val = some p → s.clkOn d.val = true → s.pllLocked p = true → ∃ t, exec (.clockGood d) s = .next t ∧
        (s.rst.cpu = .running → s.rst.lecWait = 0 → t.clkGood d.val = true ∧
          (∀ e, e < 250 → e ≠ d.val → t.clkGood e = s.clkGood e) ∧ t.dram = s.dram ∧
          (s.rd F.RST_STATUS_PHASE = 6 → s.fwRuns = true → (∀ e, 208 ≤ e → e ≤ 223 → e ≠ d.val → s.clkGood e = true) →
            t.rd F.RST_STATUS_PHASE = 7))) ∧
      (∃ t, exec (.clockEnableWrite k v) s = .next t ∧ t.dram = s.dram ∧ t.lec = s.lec ∧
        ∀ e, e < 250 → if e / 32 = k.val
          then t.clkOn e = bit v.toNat (e % 32) ∧ t.clkGood e = (s.clkGood e && (bit v.toNat (e % 32) || !s.clkOn e)) ∧
            (s.clkOn e = true → bit v.toNat (e % 32) = false → bit t.sys.clkOff e = true)
          else t.clkOn e = s.clkOn e ∧ t.clkGood e = s.clkGood e ∧ bit t.sys.clkOff e = bit s.sys.clkOff e)) ∧
  (∀ (s : State),
      (∀ c, s.sys.speed = some c → c.step = 1 ∨ c.step = 2 → c.await = 0 → ∃ t, exec .dramDrainComplete s = .next t ∧
        t.dram = s.dram ∧ t.lec = s.lec ∧ t.fw = s.fw ∧
        (∀ ch : Fin 2, t.on (F.DMC_CTRL_HOLD_SR ch) = true ∧ t.rd (F.DMC_STATUS_STATE ch) = 5 ∧ (t.dmc.get ch).wait = (s.dmc.get ch).wait) ∧
        (c.target = 0 → t.sys.speed = none) ∧ (c.target ≠ 0 → t.sys.speed = some { c with step := 3 } ∧
          ∀ ch : Fin 2, t.pllOn (2 + ch.val) = true ∧ t.pllLocked (2 + ch.val) = false)) ∧
      (∀ c (i : Fin 9), i.val = 2 ∨ i.val = 3 → s.sys.speed = some c → c.step = 3 → s.pllOn i.val = true → s.pllLocked i.val = false →
        s.pllLocked (5 - i.val) = true → ∃ t, exec (.pllLock i) s = .next t ∧ t.sys.speed = some { c with step := 4 } ∧
          ∀ ch : Fin 2, t.rd (F.DMC_CFG_SPEED ch) = c.target % 4) ∧
      (∀ c outs, s.sys.speed = some c → c.step = 4 → s.runMask = 0 → s.committed = 0 →
        ∃ t, exec (.trainingRestoreComplete outs) s = .next t ∧ t.sys.speed = none ∧
          ∀ ch : Fin 2, t.rd (F.DMC_STATUS_STATE ch) = 3 ∧ t.on (F.DMC_CTRL_RUN ch) = true ∧ t.on (F.DMC_CTRL_HOLD_SR ch) = false) ∧
      (∀ reason, 1 ≤ reason → reason ≤ 5 → s.fwRuns = true → ∃ t, exec (.degradeAdvisory reason) s = .next t ∧ t.dram = s.dram ∧
        t.lec = s.lec ∧
        (bit s.sys.advArm (reason - 1) = false ∨ s.advised reason = false → t = s) ∧
        (bit s.sys.advArm (reason - 1) = true → s.advised reason = true → sget (fun _ => 0) s.sys.advTick reason = 0 →
          s.logged t 0x0110 2 (min 3 ((if s.mode = modeLIMP then s.rd F.SYS_MODE_PROFILE else 0) + 1)) reason ∧
          sget (fun _ => 0) t.sys.advTick reason = s.tb.toNat + 1 ∧ s.regsKeep t State.eventRegs)))

/-! ### Resets and boot (R60–R82, R138, R140, R288, R433) -/

/-- VAON good (R61, R67, R397) resets everything: each register reads its reset value but for those that the epoch record's
request, the phase and the class of the VAON bank change; the log holds event 0x0104 with A = 2, then 0x0202 if that bank lies
near a threshold; flash keeps its content. The AON domain is then released, and VDD_CORE good lets option loading follow (R65).
The resets of R61 but power-on, a brown-out, RESET_N and DEVICE: the cause is recorded, the mode is BOOT with cause 4, every
lamp enable is high, all grants have ended, registers of channels, DRAM, inputs and test and the firmware's configuration are at
reset, while the AON registers, the event records, the timebase and flash are kept, and each DRAM channel only under its
retention latch. A write of RST_DEVICE without its key changes nothing. -/
def Obligations.PowerOnAndResets : Prop :=
  (∀ (s : State) (b : Fin 4) (win : Bool),
      (∃ t, exec (.powerOn b win) s = .next t ∧ t.tb = 0 ∧ t.dram = [] ∧ t.aon.vaonGood = true ∧ t.rd F.RST_STATUS_PHASE = 1 ∧
        t.rd F.RST_OPT_BANKV_CLASS = b.val ∧ t.rd F.RST_OPT_BANKV_OUT_WIN = b2n win ∧ t.sys.pwrLow = s.sys.pwrLow ∧
        State.reset.regsKeep t (R.RST_STATUS :: R.RST_OPT_BANKV :: State.eventRegs ++ State.errRegs rstBase) ∧
        t.lec = State.reset.lec ∧ t.mbx = State.reset.mbx ∧
        (win = false → State.reset.logged t 0x0104 0 2 0) ∧
        (win = true → ∃ q r, t.evr.fifo = [q, r] ∧ q.code = 0x0104 ∧ q.a = 2 ∧ r.code = 0x0202 ∧ r.sev = 2 ∧ r.a = 0 ∧ r.b = b.val) ∧
        t.fw.copies = s.fw.copies ∧ t.fw.store = s.fw.store ∧ t.fw.image = s.fw.image ∧ t.pending = s.pending) ∧
      (∃ t, exec .aonRelease s = .next t ∧
        if s.aon.vaonGood && s.rd F.RST_STATUS_PHASE == 1
        then t.rd F.RST_STATUS_PHASE = 2 ∧ s.regsKeep t [R.RST_STATUS] ∧ t = { s with regs := t.regs } else t = s) ∧
      (s.aon.vaonGood = true → s.aon.phase = .awake → ∃ t, exec .vddCoreGood s = .next t ∧
        t = { s with aon := { s.aon with coreGood := true }, pins := { s.pins with isolated := false } })) ∧
  (∀ (v : Word) (s : State),
      let reborn := fun (t : State) (k : Nat) => t.mode = modeBOOT ∧ t.rd F.SYS_MODE_CAUSE = 4 ∧ bit (t.get R.RST_CAUSE) k = true ∧
        t.rd F.RST_STATUS_PHASE = 2 ∧ t.tb = s.tb ∧ t.mbx.grants = [] ∧ (∀ n : Fin 4, t.pins.lampEnN.get n = true) ∧
        (∀ a, 0x40020000 ≤ a → a < 0x40030000 → t.get a = s.get a) ∧ (∀ a, 0x40040000 ≤ a → a < 0x40048000 → t.get a = s.get a) ∧
        (∀ a, 0x40080000 ≤ a → t.get a = State.reset.get a) ∧ t.lec = State.reset.lec ∧ t.fw.act = Stage.reset ∧
        t.fw.copies = s.fw.copies ∧ t.fw.image = s.fw.image ∧ (∀ a, t.dbyte a = if s.aon.retain.get (dramCh a) then s.dbyte a else 0)
      let up := s.aon.phase = .awake ∨ s.aon.phase = .entering
      (s.aon.coreGood = true → up → ∃ t, exec .vddCoreBrownOut s = .next t ∧ reborn t 1 ∧ t.pins.isolated = true ∧
        t.aon.coreGood = false) ∧
      (s.aon.vaonGood = true → s.rd F.RST_STATUS_PHASE ≠ 1 → up → ∃ t, exec .resetNPulse s = .next t ∧ reborn t 3) ∧
      (∃ t, exec (.deviceReset v) s = .next t ∧
        if v.toNat % 65536 = 0x9480 ∧ bit v.toNat 16 = true then reborn t 6 else t = s) ∧
      (∃ t, exec .deviceResetDelay s = .next t ∧ if s.rst.device && s.fwRuns then reborn t 6 else t = s))

/-- The watchdog (R71): a write of RST_WDT_CFG with ARMED arms it with its timeout, and once armed a write changes nothing; a
kick restarts its time; before TIMEOUT has passed since the last kick nothing expires; its expiry drives every lamp enable high,
stops every channel, enters BOOT with cause bit 4, and keeps DRAM. -/
def Obligations.WatchdogActs : Prop :=
  ∀ (v : Word) (s : State),
    (∃ t, exec (.watchdogArm v) s = .next t ∧
      (s.on F.RST_WDT_CFG_ARMED = true → t = s) ∧
      (s.on F.RST_WDT_CFG_ARMED = false → bit v.toNat 31 = true → t.on F.RST_WDT_CFG_ARMED = true ∧
        t.rd F.RST_WDT_CFG_TIMEOUT = v.toNat % 1024 ∧ t.rst = { s.rst with wdtTick := s.tb.toNat } ∧
        s.regsKeep t [R.RST_WDT_CFG] ∧ t.dram = s.dram ∧ t.lec = s.lec)) ∧
    (∃ t, exec .watchdogKick s = .next t ∧
      t = if s.on F.RST_WDT_CFG_ARMED then { s with rst := { s.rst with wdtTick := s.tb.toNat } } else s) ∧
    (s.on F.RST_WDT_CFG_ARMED = true → withinMs (s.tb.toNat - s.rst.wdtTick) (s.rd F.RST_WDT_CFG_TIMEOUT) = true →
      exec .watchdogExpiry s = .next s) ∧
    (s.on F.RST_WDT_CFG_ARMED = true → withinMs (s.tb.toNat - s.rst.wdtTick) (s.rd F.RST_WDT_CFG_TIMEOUT) = false →
      s.mode ≠ modeSCANTEST → s.aon.phase = .awake → ∃ t, exec .watchdogExpiry s = .next t ∧
      t.mode = modeBOOT ∧ bit (t.get R.RST_CAUSE) 4 = true ∧ t.dram = s.dram ∧ t.tb = s.tb ∧ t.mbx.grants = [] ∧
      ∀ n : Fin 4, t.pins.lampEnN.get n = true ∧ t.on (F.LEC_STATUS_RUNNING n) = false ∧ t.on (F.LEC_CTRL_RUN n) = false)

/-- Soft resets (R66, R68, R69, R138): a sub-block of a channel named in RST_BLK_CTRLn has its registers at their reset values
in every bank, and for every sub-block but CTL no other channel's registers change; a DRAM controller loses its channel's
content and no other. A release clears the bits named of blocks whose clock domains are good and answers the RESET_FUNCTION that
asked. A release waiting 1 ms logs event 0x0205 with the domain. -/
def Obligations.SoftResets : Prop :=
  ∀ s : State,
    (∀ (n : Fin 4) (i : Nat) (k : Fin 5), i < 13 → k.val = n.val → ∃ t, exec (.softReset k (BitVec.ofNat 32 (2 ^ i))) s = .next t ∧
      t.dram = s.dram ∧ bit (t.get (R.RST_BLK_CTRLk n.val)) i = true ∧
      (∀ a, lecBase n + subBase i ≤ a → a < lecBase n + subEnd i → a ≠ R.SRC_STATUS n → a ≠ R.CHN_STATUS n →
        t.get a = State.reset.get a ∧ t.getC a = State.reset.getC a ∧ t.getS a = State.reset.getS a) ∧
      (i ≠ 12 → ∀ m : Fin 4, m ≠ n → ∀ a, lecBase m ≤ a → a < lecBase m + 0x40000 → t.get a = s.get a)) ∧
    (∀ ch : Fin 2, ∃ t, exec (.softReset 4 (BitVec.ofNat 32 (2 ^ (2 + ch.val)))) s = .next t ∧ t.lec = s.lec ∧
      t.pins.dramCke.get ch = false ∧ (∀ a, dmcBase ch ≤ a → a < dmcBase ch + 0x10000 → t.get a = State.reset.get a) ∧
      ∀ a, t.dbyte a = if dramCh a = ch then 0 else s.dbyte a) ∧
    (∀ (k : Fin 5) (v : Word), let good := fun i => (s.domWait (State.domRange (if k.val < 4 then State.subDoms (chan k.val) i
        else State.sysDoms i))).isEmpty
      ∃ t, exec (.softResetRelease k v) s = .next t ∧ t.dram = s.dram ∧
      (∀ i, i < 17 → bit (t.get (R.RST_BLK_CTRLk k.val)) i = (bit (s.get (R.RST_BLK_CTRLk k.val)) i &&
        !(bit v.toNat i && (if i = 16 then (List.range 13).all good else good i)))) ∧
      ∀ (v' : Nat) (p : Fin 3) (mb : Fin 6) (op seq : Nat) (nt : Bool), s.rst.softTag = [(k.val, v', ⟨p, mb.val, op, seq, nt⟩)] →
        op < 256 → seq < 65536 → sget (fun _ => none) (s.port p).seqs mb.val = some ⟨seq, []⟩ →
        t.get (R.RST_BLK_CTRLk k.val) &&& v' = 0 → t.rst.softTag = [] ∧ t.answered p mb op seq stOK 0 []) ∧
    (∃ t, exec .releasePendingTimeout s = .next t ∧
      (s.on F.RST_STATUS_RELEASE_PENDING = false → t = s) ∧
      (s.on F.RST_STATUS_RELEASE_PENDING = true → s.logged t 0x0205 3 (s.rd F.RST_STATUS_PEND_DOMAIN) 0 ∧
        s.regsKeep t (State.eventRegs ++ State.errRegs rstBase) ∧ t.dram = s.dram))

/-- Option loading and the boot ROM (R65, R67, R76, R78, R433): straps and bank classes stand in RST_OPT and RST_OPT_BANKV, that
of the VAON bank as power-on left it; with TESTEN_N high the PLLs start, with it low SCAN-TEST is entered with cause 5; the boot
ROM tries the slot with the higher SEQUENCE first and decides by the image's bytes; an accepted image starts firmware once the
clocks of the fabric are good, HSTAT.READY rises and every link that is not up negotiates; a rejected one logs event 0x0401 with
slot and reason, 7 where the slot could not be read, and the last one leaves no image, with FAULT_N low. -/
def Obligations.BootRomSteps : Prop :=
  (∀ (straps banks : Nat) (otp : Word) (ok testenN : Bool) (s : State), s.rd F.RST_STATUS_PHASE = 2 → s.aon.coreGood = true → straps < 8 →
    banks < 2 ^ 16 →
    ∃ t, exec (.optionLoadingComplete straps otp ok banks testenN) s = .next t ∧ t.get R.RST_OPT % 8 = straps ∧
      t.on F.RST_OPT_OTP_OK = ok ∧ t.rd F.RST_OPT_BANKV_CLASS = banks / 4 * 4 + s.aon.bank0 % 4 ∧
      t.rd F.RST_OPT_BANKV_OUT_WIN = s.aon.bank0 / 4 % 2 ∧ t.dram = s.dram ∧
      t.on F.TST_STATUS_TESTEN = (!testenN) ∧
      (testenN = true → t.pllOn 0 = true ∧ t.pllOn 1 = true ∧ t.mode = s.mode) ∧
      (testenN = false → t.mode = modeSCANTEST ∧ t.rd F.SYS_MODE_CAUSE = 5 ∧ t.on F.TST_STATUS_SCAN = true)) ∧
  (∀ (modes : Nat) (fault : Bool) (s : State), s.rst.cpu = .bootRom →
    let slot := s.slotTry s.rst.tried
    let reason := if fault then 7 else s.imageReason (s.slotByte slot)
    let clocked := (List.range 4).all fun i => s.clkGood (227 + i)
    ∃ t, exec (.imageSlotCheck modes fault) s = .next t ∧ t.dram = s.dram ∧ t.mode = s.mode ∧
      (reason = 0 → clocked = false → t.rst.cpu = .starting ∧ t.fw.running = slot ∧ t.rd F.RST_STATUS_PHASE = 5) ∧
      (reason = 0 → clocked = true → t.fwRuns = true ∧ t.fw.running = slot ∧ t.on F.MBX_HSTAT_READY = true ∧
        t.rd F.RST_STATUS_PHASE = (if (List.range 16).all fun i => s.clkGood (208 + i) then 7 else 6) ∧
        ∀ n : Fin 4, if s.linkUp n then t.linkState n = s.linkState n else t.linkState n = 1) ∧
      (reason ≠ 0 → s.evr.fifo.length < 16 → (∃ q rest, t.evr.fifo = s.evr.fifo ++ q :: rest ∧ q.code = 0x0401 ∧ q.sev = 3 ∧
          q.a = slot ∧ q.b = reason) ∧
        if s.rst.tried + 1 < (if s.rd F.RST_OPT_BOOTSEL = 1 then 4 else 2) then t.rst.cpu = .bootRom ∧ t.rst.tried = s.rst.tried + 1
        else t.rst.cpu = .noImage ∧ t.pins.faultLow = true))

/-- What BOOT waits for (R65, R66, R79–R81, R140, R288): a DRAM channel brought up runs and its pins are released; the stored
assets are loaded; Roll Call has run; a BOOT_LIGHT channel whose conditions hold is released, which waits for its clocks,
committed, and shows its pattern with event 0x0404; with everything done the mode becomes READY and every port is notified, and
until then BOOT_COMPLETE changes nothing. -/
def Obligations.BootSteps : Prop :=
  ∀ s : State, s.fwRuns = true → s.mode = modeBOOT →
    (∀ (ch : Duo) (how : Nat), s.rd F.RST_STATUS_PHASE = 7 → bit s.rst.dramUp ch.val = false → s.sys.bell = none → ∃ t, exec (.dramBringupComplete ch how) s = .next t ∧
      bit t.rst.dramUp ch.val = true ∧ t.rd (F.DMC_STATUS_STATE ch) = 3 ∧ t.pins.dramCke.get ch = true ∧
      t.pins.dramResetN.get ch = true ∧ t.lec = s.lec) ∧
    (s.rst.dramUp = 3 → s.rst.assetsUp = false → ∃ t, exec .assetCopyComplete s = .next t ∧ t.rst.assetsUp = true ∧
      t.lec = s.lec ∧
      ∀ (r : AssetRec), s.fw.store = [r] → r.state = 0xFC → crc32 r.data = r.asset.crc → r.data.length = r.asset.size →
        r.asset.size ≤ 67108864 → t.regs = s.regs ∧
        ∃ page, t.asset r.asset.id = some { r.asset with page := page } ∧ t.dread (page * 4096) r.asset.size = r.data) ∧
    (∀ found, s.rst.rollDone = false → ∃ t, exec (.bootRollCall found) s = .next t ∧ t.rst.rollDone = true ∧ t.dram = s.dram ∧
      ∀ n : Fin 4, n ∉ s.bootPorts → ∀ a, chnBase n ≤ a → a < chnBase n + 0x4000 → t.get a = s.get a) ∧
    (∀ n : Fin 4, let m := s.fw.act.merge s.fw.stage (2 ^ n.val) false
      s.rd F.RST_STATUS_PHASE = 7 → s.bootLit n = true → bit s.rst.tail n.val = false → s.linkUp n = true → (s.storedPattern n).isSome = true → s.sys.pwrLow = false →
      m.fld (F.SRC_DERATE_CFG_ARMED n) ≠ 0 → m.timed n = true →
      let clocked := (List.range 52).all fun i => s.clkGood (52 * n.val + i)
      ∃ t, exec (.bootLightStart n) s = .next t ∧ t.mode = modeBOOT ∧ t.dram = s.dram ∧
        let why := s.rejectReason m (2 ^ n.val) false s.profileNow
        (bit s.rst.released n.val = false → clocked = true → bit t.rst.released n.val = true) ∧
        (∀ i, bit s.rst.released n.val = false → i < 34 ∨ 42 ≤ i ∧ i < 52 → s.clkGood (52 * n.val + i) = false →
          bit t.rst.lecWait n.val = true ∧ bit t.rst.released n.val = false ∧ t.on F.RST_STATUS_RELEASE_PENDING = true ∧
          t.fw = s.fw ∧ t.lec = s.lec) ∧
        (bit s.rst.released n.val = true → bit s.rst.lecWait n.val = false → why ≠ 0 → s.logged t (0x1011 + 256 * n.val) 2 why (2 ^ n.val) ∧ t.fw = s.fw ∧ t.lec = s.lec) ∧
        (bit s.rst.released n.val = true → bit s.rst.lecWait n.val = false → why = 0 → t.fw.act = m ∧ bit t.rst.tail n.val = true ∧ t.on (F.BPF_SRCSEL_PATTERN n) = true ∧
          t.on (F.LEC_CTRL_RUN n) = true)) ∧
    (∃ t, exec .bootComplete s = .next t ∧ t.dram = s.dram ∧
      (s.bootReady = false → t = s) ∧
      (s.bootReady = true → t.mode = modeREADY ∧ t.rd F.SYS_MODE_CAUSE = 1 ∧ t.rd F.RST_STATUS_PHASE = 0))

/-! ### Calibration (R135, R146, R332, R334–R344, R348) -/

/-- RUN_CALIBRATION (R135): QUERY answers with 12 bytes for each item of its mask and changes nothing; a run while a commanded
one has not ended is BUSY; RUN with FORCE is answered ACCEPTED_PENDING and makes every item of its mask due and commanded.
CAL_STEP MEASURE (R146, R348) answers with the figures of the two takes, which stand in the item's registers, and with result 1
when they differ by more than the tolerance; SELECT of another item than the PMIC clock waits for a Recess slot, takes its
element there and is then answered, or is answered TIMEOUT and selects nothing. -/
def Obligations.CalibrationCommands : Prop :=
  (∀ (p : Fin 3) (mb : Fin 6) (flags seq mask act fl : Nat) (s : State),
    s.Asks p mb 0x0E flags seq (leBytes 2 mask ++ leBytes 1 act ++ leBytes 1 fl) → 0 < mask → mask ≤ 0x3FFF → act ≤ 1 → fl ≤ 1 →
    ∃ t, exec (.runCalibration p mb) s = .next t ∧ t.dram = s.dram ∧
      (act = 1 → 4 + 12 * 14 ≤ s.maxPay p →
        s.performs t p mb 0x0E seq stOK 0 (((List.range 14).filter (bit mask ·)).flatMap fun i => s.calQuery i)) ∧
      (act = 0 → s.rd F.CAL_DUE_CMD ≠ 0 → s.performs t p mb 0x0E seq stBUSY 0 []) ∧
      (act = 0 → fl = 1 → s.rd F.CAL_DUE_CMD = 0 → s.cal.tag = none → s.cal.pass = none →
        t.answered p mb 0x0E seq stACCEPTED 0 [] ∧ t.rd F.CAL_DUE_CMD = mask ∧
          t.rd F.CAL_DUE_DUE = s.rd F.CAL_DUE_DUE ||| mask)) ∧
  (∀ (mb : Fin 6) (flags seq num i act e q : Nat) (s : State),
    s.Asks 0 mb 0x88 flags seq (leBytes 4 num ++ leBytes 1 i ++ leBytes 1 act ++ leBytes 1 e ++ [0] ++ [0, 0, 0, 0]) → i < 14 →
    e < 256 → State.calElemOk i e = true → s.cal.run = none → s.rd F.CAL_DUE_CMD = 0 → s.cal.stepTag = none → s.calUnmet i true = 0 →
    16 ≤ s.maxPay 0 →
    ∃ t, exec (.calStep 0 mb q) s = .next t ∧
      (act = 0 → let a := q % 2 ^ 32
        let b := q / 2 ^ 32 % 2 ^ 32
        t.answered 0 mb 0x88 seq stOK 0 (leBytes 1 (if (signed a 32 - signed b 32).natAbs ≤ s.rd (F.CAL_Ii_CFG_TOL i) then 0 else 1) ++
          leBytes 1 (s.rd (F.CAL_Ii_CARD_ELEMENT i)) ++ leBytes 1 (s.calDeg i) ++ [0] ++
          leBytes 4 a ++ leBytes 4 b) ∧
        t.get (R.CAL_Ii_TAKE1 i) = a ∧ t.get (R.CAL_Ii_TAKE2 i) = b ∧ t.dram = s.dram ∧ t.lec = s.lec ∧
        s.regsKeep t [R.MBX_HSTAT, R.MBX_IRQ_STATUS, R.CAL_Ii_TAKE1 i, R.CAL_Ii_TAKE2 i]) ∧
      (act = 1 → i ≠ 1 → t.isFull mb.val = s.isFull mb.val ∧ t.cal = { s.cal with stepTag := some (⟨0, mb.val, 0x88, seq, bit flags 3⟩, i, 1, e) } ∧
        t.dram = s.dram ∧ t.lec = s.lec ∧ s.regsKeep t [R.MBX_HSTAT, R.MBX_IRQ_STATUS])) ∧
  (∀ (mb : Fin 6) (seq i e : Nat) (nt : Bool) (s : State), i < 14 → e < 256 → s.cal.stepTag = some (⟨0, mb.val, 0x88, seq, nt⟩, i, 1, e) →
    sget (fun _ => none) (s.port 0).seqs mb.val = some ⟨seq, []⟩ → seq < 65536 →
    (s.sysStill 7 = true → exec .calRecessApply s = .next s) ∧
    (s.sysStill 7 = false → ∃ t data, exec .calRecessApply s = .next t ∧ t.answered 0 mb 0x88 seq stOK 0 data ∧ t.cal.stepTag = none ∧
      t.rd (F.CAL_Ii_CARD_ELEMENT i) = e ∧ t.dram = s.dram) ∧
    (∃ t, exec .calStepTimeout s = .next t ∧ t.answered 0 mb 0x88 seq stTIMEOUT 0 [] ∧ t.cal.stepTag = none ∧
      (∀ j, j < 14 → t.rd (F.CAL_Ii_CARD_ELEMENT j) = s.rd (F.CAL_Ii_CARD_ELEMENT j)) ∧ t.dram = s.dram))

/-- The calibration engine (R332, R334, R337, R339, R344, R349): a conversion stores the sensor's reading with item 0's
correction; the due check sets exactly the items that moved, and none without AUTO; the first take of a pair stands in TAKE1
with its tick, unless the partner's state counters changed since the run's first; three disagreeing pairs end the run with
RESULT 1, an expired defer limit, the one that stood when the run began, with RESULT 2, and the item is due no more. -/
def Obligations.CalibrationEngine : Prop :=
  ∀ s : State,
    (∀ (k : Fin 4) (raw : Nat), s.aon.phase = .awake → s.pins.isolated = false → s.stood 243 243 = false →
      ∃ t, exec (.sensorConversion k raw) s = .next t ∧
      t.rd (F.CAL_TEMPs_T k.val) = unsigned (signed raw 16 + signed (bits (s.get (R.CAL_Ii_TAP 0)) (8 * k.val) 8) 8) 16 ∧
      t.dram = s.dram ∧ t.lec = s.lec ∧ (k ≠ 3 → s.regsKeep t [R.CAL_TEMPs k.val])) ∧
    (∃ t, exec .calDueCheck s = .next t ∧ t.dram = s.dram ∧
      (s.on F.CAL_CTRL_AUTO = false → t = s) ∧
      (s.on F.CAL_CTRL_AUTO = true → s.fwRuns = true → ∀ i, i < 14 → t.calDue i = (s.calDue i || s.calMoved i))) ∧
    (∀ (r : CalRun) (figs : List Nat), s.cal.run = some r → r.item < 14 → r.apply = none → r.fall = none → r.quick = false →
      s.calUnmet r.item false = 0 → s.sysStill 7 = false →
      ∃ t, exec (.calTakeComplete figs) s = .next t ∧ t.dram = s.dram ∧
        (r.first = none → r.pair = 1 ∨ s.calPartner r.item = r.partner → t.get (R.CAL_Ii_TAKE1 r.item) = figOf r.item figs (calBestOf r.item figs) % 2 ^ 32 ∧
          t.cal = { s.cal with run := some { r with first := some (figs, s.tb.toNat), partner := s.calPartner r.item } } ∧
          s.regsKeep t [R.CAL_Ii_TAKE1 r.item, R.CAL_STATUS]) ∧
        (∀ f tick, r.first = some (f, tick) → withinMs (s.tb.toNat - tick) 100 = true → r.pair = 3 → s.calPartner r.item = r.partner →
          calBestOf r.item f ≠ calBestOf r.item figs →
          t.rd (F.CAL_Ii_CARD_RESULT r.item) = 1 ∧ t.calDue r.item = false)) ∧
    (∀ r : CalRun, s.cal.run = some r → r.item < 14 → r.fall = none → r.apply = none → s.calUnmet r.item false ≠ 0 →
      withinMs (s.tb.toNat - r.tick) (100 * r.defer) = false →
      ∃ t, exec .calDeferExpiry s = .next t ∧ t.rd (F.CAL_Ii_CARD_RESULT r.item) = 2 ∧ t.calDue r.item = false ∧ t.dram = s.dram)

/-! ### Event recorder, Fire Drill (R381, R386–R400) -/

/-- Event requests and records (R386, R389–R394): an occurrence at or above IRQ_SEV sets EVENT, and one at or above FAULT_SEV
latches FAULT_N with the first code; a request enters the recorder FIFO, or is counted in DROPPED when it is full; the recorder
takes the oldest while its clock runs: a repeat of the last record adds one to its count, saturating at 4095, any other fills
the first empty slot, or, in a full log, is dropped under policy 0 and under policy 1 overwrites the oldest record of the lowest
severity present, unless its own severity is lower; no other slot changes. -/
def Obligations.RequestsAndRecords : Prop :=
  (∀ (code : Nat) (sev : Fin 8) (a b block : Nat) (s : State), ∃ t, exec (.eventRequest code sev a b block) s = .next t ∧
    s.logged t (code % 65536) sev.val a b ∧ t.dram = s.dram ∧ t.lec = s.lec ∧
    (s.rd F.EVR_CFG_IRQ_SEV ≤ sev.val → t.on F.MBX_IRQ_STATUS_EVENT = true) ∧
    (s.rd F.EVR_CFG_FAULT_SEV ≤ sev.val → t.on F.EVR_FAULT_LATCHED = true ∧
      (s.on F.EVR_FAULT_LATCHED = false → t.rd F.EVR_FAULT_CODE = code % 65536 ∧ t.rd F.EVR_FAULT_SEV = sev.val)) ∧
    (∀ base, State.blockBase block = some base → s.regsKeep t (State.eventRegs ++ State.errRegs base)) ∧
    (State.blockBase block = none → s.regsKeep t State.eventRegs) ∧
    (16 ≤ s.evr.fifo.length → t.evr = s.evr ∧ t.on F.EVR_STATUS_FIFO_OVF = true ∧
      t.rd F.EVR_DROPPED_COUNT = min (s.rd F.EVR_DROPPED_COUNT + 1) (2 ^ F.EVR_DROPPED_COUNT.w - 1))) ∧
  (∀ (q : EvReq) (qs : List EvReq) (s : State), s.evr.clearing = none → s.evr.drill = none → s.evr.fifo = q :: qs →
    s.stood 233 233 = false → q.code < 65536 → q.sev < 8 → q.a < 65536 → q.b < 65536 → q.sub < 1024 → q.tick < 2 ^ 46 →
    let holds := fun (t : State) (k : Nat) => t.slotCode k = q.code ∧ t.slotSev k = q.sev ∧ t.slotStamp k = q.tick * 1024 + q.sub ∧
      t.get (recWord k 3) = q.a + 65536 * q.b ∧ t.slotGen k = (s.slotGen k + 1) % 256 ∧ t.rd F.EVR_LAST_SLOT = k ∧
      ∀ j, j < 2048 → j ≠ k → t.slotBytes j = s.slotBytes j
    ∃ t, exec .eventRecordWrite s = .next t ∧ t.evr.fifo = qs ∧ t.dram = s.dram ∧
      (s.repeats q = true → let k := s.rd F.EVR_LAST_SLOT
        bits (t.get (recWord k 0)) 20 12 = min (bits (s.get (recWord k 0)) 20 12 + 1) 4095 ∧ t.slotCode k = s.slotCode k ∧
        t.rd F.EVR_STATUS_USED = s.rd F.EVR_STATUS_USED ∧ ∀ j, j < 2048 → j ≠ k → t.slotBytes j = s.slotBytes j) ∧
      (s.repeats q = false → ∀ k, s.emptySlot = some k → holds t k ∧ (∀ j, j < k → s.slotCode j ≠ 0) ∧
        t.rd F.EVR_STATUS_USED = (s.rd F.EVR_STATUS_USED + 1) % 4096) ∧
      (s.repeats q = false → s.emptySlot = none →
        (s.on F.EVR_CFG_POLICY = false ∨ q.sev < s.lowSev →
          t.rd F.EVR_DROPPED_COUNT = min (s.rd F.EVR_DROPPED_COUNT + 1) (2 ^ F.EVR_DROPPED_COUNT.w - 1) ∧
          ∀ j, j < 2048 → t.slotBytes j = s.slotBytes j) ∧
        (s.on F.EVR_CFG_POLICY = true → s.lowSev ≤ q.sev → ∃ k, k < 2048 ∧ holds t k ∧
          ∀ j, j < 2048 → s.slotSev k ≤ s.slotSev j ∧ (s.slotSev j = s.slotSev k → s.slotStamp k ≤ s.slotStamp j))))

/-- FAULT_N, the log clear, Fire Drill and the processor (R381, R387, R390, R396, R398, R400): a write of EVR_FAULT releases
FAULT_N; a clear request begins a clear and releases it too; a drill outside SERVICE, during another, or without the Hall Passes
that cover EVR and its unit (log entry 129) is refused with result 3; a drill whose precondition does not hold fails at once,
any other runs until its event or its deadline, 100 ms after GO; a halted processor serves nothing. -/
def Obligations.FaultAndDrill : Prop :=
  ∀ (v : Word) (a : Nat) (s : State),
    (∃ t, exec (.faultReleaseWrite v) s = .next t ∧ (bit v.toNat 0 = false → t = s) ∧
      (bit v.toNat 0 = true → t.pins = { s.pins with faultLow := false } ∧ t.on F.EVR_FAULT_LATCHED = false ∧
        s.regsKeep t [R.EVR_FAULT] ∧ t.evr = s.evr)) ∧
    (∃ t, exec (.logClearRequest v) s = .next t ∧ (bit v.toNat 0 = false → t = s) ∧
      (bit v.toNat 0 = true → t.pins.faultLow = false ∧ s.regsKeep t [R.EVR_FAULT, R.EVR_STATUS] ∧
        (s.evr.clearing = none → t.evr = { s.evr with clearing := some ⟨0, s.rd F.EVR_STATUS_USED, 0⟩ } ∧
          t.on F.EVR_STATUS_CLEARING = true))) ∧
    (∃ t, exec .fwQueueOverflowReport s = .next t ∧
      (s.fwRuns = true → s.evr.lost ≠ 0 → s.evr.fwq.length < 32 → s.logged t 0x0405 4 (min s.evr.lost 65535) 0 ∧ t.evr.lost = 0 ∧
        s.regsKeep t State.eventRegs) ∧
      (s.fwRuns = false ∨ s.evr.lost = 0 ∨ 32 ≤ s.evr.fwq.length → t = s)) ∧
    (∃ t, exec (.drillGo v) s = .next t ∧ (bit v.toNat 0 = false → t = s) ∧
      (bit v.toNat 0 = true → let kind := s.rd F.EVR_DRILL_CFG_KIND
        let unit := s.rd F.EVR_DRILL_CFG_UNIT
        let param := s.rd F.EVR_DRILL_CFG_PARAM
        let ready := s.drillReady kind unit param
        let may := s.mode == modeSERVICE && s.evr.drill.isNone && (State.drillBlocks kind unit param).all s.granted
        let begun := s.evr.fifo.length < 16 → ∃ q rest, t.evr.fifo = s.evr.fifo ++ q :: rest ∧ q.code = 0x7F10 ∧ q.sev = 0 ∧
          q.a = kind ∧ q.b = unit
        (may = false → s.logged t 0x7F11 1 kind 3 ∧ t.evr.drill = s.evr.drill ∧ t.dram = s.dram ∧ s.regsKeep t State.eventRegs) ∧
        (may = true → ready = false → begun ∧ t.dram = s.dram ∧
          t.evr.drill = none ∧ t.rd F.EVR_DRILL_STATUS_STATE = 3 ∧ t.rd F.EVR_DRILL_STATUS_CODE = 0) ∧
        (may = true → ready = true → begun ∧ t.rd F.EVR_DRILL_STATUS_STATE = 1 ∧
          (∃ d, t.evr.drill = some d ∧ d.kind = kind ∧ d.unit = unit ∧ d.param = param ∧ d.startTick = s.tb.toNat ∧
            d.codes = State.drillCodes kind unit) ∧
          ∀ x, x < s.trainAddr (duo unit) 0 0 ∨ s.trainAddr (duo unit) 0 0 + 64 ≤ x ∨ kind ∉ [1, 2, 4] → t.dbyte x = s.dbyte x))) ∧
    (∀ d, s.evr.drill = some d → pastMs (s.tb.toNat - d.startTick) 100 = false → exec .drillDeadline s = .next s) ∧
    (∀ d, s.evr.drill = some d → pastMs (s.tb.toNat - d.startTick) 100 = true → ∃ t, exec .drillDeadline s = .next t ∧ t.evr.drill = none ∧ t.rd F.EVR_DRILL_STATUS_STATE = 3 ∧
      t.rd F.EVR_DRILL_STATUS_CODE = 0 ∧ s.logged t 0x7F11 1 d.kind 2 ∧ s.regsKeep t (R.EVR_DRILL_STATUS :: State.eventRegs)) ∧
    (∃ t, exec (.processorHalt a) s = .next t ∧ t.rst = { s.rst with cpu := .halted } ∧ t.on F.MBX_HSTAT_READY = false ∧
      s.logged t 0x0120 7 a 0 ∧ s.regsKeep t (R.MBX_HSTAT :: State.eventRegs) ∧ t.dram = s.dram ∧ t.lec = s.lec) ∧
    (∃ t, exec (.processorSramCorrected a) s = .next t ∧ s.logged t 0x0121 0 0 (a / 8 % 65536) ∧ s.regsKeep t State.eventRegs ∧
      t.dram = s.dram ∧ t.lec = s.lec ∧ t.rst = s.rst)

/-! ### DRAM controllers (R146, R354–R371) -/

/-- Requests, slots, refresh and errors of a DRAM channel (R354–R358, R361–R364, R367, R368, R370): a request outside populated
DRAM reports event 0x6n06 and enters no queue; one inside waits or is queued on its channel as one entry per burst; a slot of a
channel that does not run changes nothing, and one that runs refreshes first when a refresh is owed; a promoted entry keeps its
place; a clean read returns without a report, and is delivered once neither channel owes its port an older read; a short or long
ALERT_N pulse with nothing to retry changes nothing; a channel in reset or without its clocks does nothing. -/
def Obligations.DramTraffic : Prop :=
  ∀ (ch : Duo) (port : Fin 12) (addr len idx clocks : Nat) (wr : Bool) (syn : List Nat) (s : State),
    let d := s.dmc.get ch
    (s.dramStill ch = true → ∀ c ∈ ([.dramCommandSlot ch, .dramRequestPromotion ch idx, .dramReadReturn ch syn, .refreshDue ch, .zqcsDue ch,
      .rowDisturbWindowEnd ch, .alertPulse ch clocks, .selfRefreshIdle ch] : List Instr), exec c s = .next s) ∧
    (addr % 64 + max 1 len ≤ 64 →
      ∃ t, exec (.dramRequest port addr wr len) s = .next t ∧ t.dram = s.dram ∧ t.lec = s.lec ∧
        (s.dramHit (addr / 64 * 64) = false → t.dmc = s.dmc ∧
          s.logged t (0x6006 + 256 * (dramCh (addr / 64 * 64)).val) 4 port.val (bits (addr / 64 * 64) 20 16)) ∧
        (s.dramHit (addr / 64 * 64) = true → dramCh (addr / 64 * 64) = ch → t.evr = s.evr ∧
          (t.dmc.get ch).queue.length + (t.dmc.get ch).wait.length = d.queue.length + d.wait.length + 1)) ∧
    (∃ t, exec (.dramCommandSlot ch) s = .next t ∧ t.dram = s.dram ∧ t.lec = s.lec ∧
      (s.rd (F.DMC_STATUS_STATE ch) ≠ 3 → t = s) ∧
      (s.dramStill ch = false → s.rd (F.DMC_STATUS_STATE ch) = 3 → s.on (F.DMC_CTRL_RUN ch) = true → d.target = [] → d.refOwed = true →
        (t.dmc.get ch).refOwed = false ∧ (t.dmc.get ch).zqOwed = false ∧ (t.dmc.get ch).opened = [])) ∧
    (∃ t, exec (.dramRequestPromotion ch idx) s = .next t ∧ t.regs = s.regs ∧ t.dram = s.dram ∧
      (t.dmc.get ch).queue.map (fun r => { r with promoted := false }) = d.queue.map (fun r => { r with promoted := false }) ∧
      (t.dmc.get ch).wait.map (fun r => { r with promoted := false }) = d.wait.map (fun r => { r with promoted := false })) ∧
    (∀ r rest, s.dramStill ch = false → d.flight = r :: rest → s.poisoned r.addr = false → r.write = false → (∀ i, i < 8 → syn.getD i 0 % 256 = 0) →
      ∃ t, exec (.dramReadReturn ch syn) s = .next t ∧ (t.dmc.get ch).flight = rest ∧ t.evr = s.evr ∧ t.dram = s.dram ∧
        (if (State.owedReads { s with dmc := s.dmc.set ch { d with flight := rest } } r.port).all (fun y => decide (r.num < y.num))
          then r.num < sget (fun _ => 0) (t.dmc.get ch).given r.port else r ∈ (t.dmc.get ch).back) ∧
        s.regsKeep t ([0, 1].flatMap fun c => [R.DMC_PANIC c, R.DMC_STATUS c])) ∧
    (∃ t, exec (.refreshDue ch) s = .next t ∧ t.dram = s.dram ∧ t.lec = s.lec ∧
      (s.rd (F.DMC_STATUS_STATE ch) ≠ 3 → t = s) ∧
      (s.dramStill ch = false → s.rd (F.DMC_STATUS_STATE ch) = 3 → (∀ n : Fin 4, (s.ch n).composing = false ∧ s.loading n = false) →
        (t.dmc.get ch).refOwed = true)) ∧
    (∃ t, exec (.zqcsDue ch) s = .next t ∧ t.dram = s.dram ∧ t.lec = s.lec ∧
      if s.rd (F.DMC_STATUS_STATE ch) = 3 ∧ s.dramStill ch = false then t.dmc = s.dmc.set ch { d with zqOwed := true } else t = s) ∧
    (s.dramStill ch = false → ∃ t, exec (.rowDisturbWindowEnd ch) s = .next t ∧ t = { s with dmc := s.dmc.set ch { d with table := [], spill := [] } }) ∧
    (∃ t, exec (.alertPulse ch clocks) s = .next t ∧
      (s.rd (F.DMC_STATUS_STATE ch) ≠ 3 ∨ clocks < 24 ∧ s.on (F.DMC_CFG_WCRC_EN ch) = false ∨
        24 ≤ clocks ∧ s.on (F.DMC_CFG_PARITY_EN ch) = false → t = s) ∧
      (s.dramStill ch = false → s.rd (F.DMC_STATUS_STATE ch) = 3 → 24 ≤ clocks → s.on (F.DMC_CFG_PARITY_EN ch) = true → d.recent ≠ [] → d.parityRun < 2 →
        t.rd (F.DMC_CA_CNT_PARITY ch) = min (s.rd (F.DMC_CA_CNT_PARITY ch) + 1) (2 ^ (F.DMC_CA_CNT_PARITY ch).w - 1) ∧
        (t.dmc.get ch).parityRun = d.parityRun + 1 ∧ t.dram = s.dram)) ∧
    (∃ t, exec (.selfRefreshIdle ch) s = .next t ∧ t.dram = s.dram ∧
      if s.dramStill ch = false ∧ s.rd (F.DMC_STATUS_STATE ch) = 3 ∧ s.rdA (F.DMC_SR_IDLE_US ch) ≠ 0 ∧ d.queue = [] ∧ d.wait = [] ∧ d.flight = []
      then t.rd (F.DMC_STATUS_STATE ch) = 4 ∧ s.regsKeep t [R.DMC_STATUS ch, R.DMC_PM_CNT ch] else t = s)

/-- Holds, pattern runs and training of a DRAM channel (R146, R369, R371): HOLD_SR of a running channel holds it in self-refresh
until it is cleared, and a write with RUN 0 leaves state OFF; a pattern run clears its mismatch counters, is BUSY, and ends DONE
with the mismatches counted; DRAM_TRAIN_STEP is BUSY while a channel streams, else answered OK with a result for each lane, 2
for a margin below MIN_MARGIN in steps 3 to 5 (log entry 130), and it leaves the channel running. -/
def Obligations.DramControl : Prop :=
  (∀ (ch : Duo) (v : Word) (mism : List Nat) (s : State),
    (s.sysHeld (2 + ch.val) = true → exec (.holdSelfRefreshWrite ch v) s = .next s) ∧
    (s.dramStill ch = true → exec (.patternRunGo ch v) s = .next s ∧ exec (.patternRunDone ch mism) s = .next s) ∧
    (s.sysHeld (2 + ch.val) = false → ∃ t, exec (.holdSelfRefreshWrite ch v) s = .next t ∧ t.dram = s.dram ∧ t.lec = s.lec ∧
      (bit v.toNat 0 = false → t.rd (F.DMC_STATUS_STATE ch) = 0) ∧
      (bit v.toNat 0 = true → bit v.toNat 1 = true → t.rd (F.DMC_STATUS_STATE ch) = 5 ∧ t.on (F.DMC_CTRL_HOLD_SR ch) = true) ∧
      (bit v.toNat 0 = true → bit v.toNat 1 = false → s.rd (F.DMC_STATUS_STATE ch) = 5 →
        t.rd (F.DMC_STATUS_STATE ch) = 3 ∧ t.rd (F.DMC_STATUS_SPEED ch) = s.rd (F.DMC_CFG_SPEED ch))) ∧
    (s.dramStill ch = false → ∃ t, exec (.patternRunGo ch v) s = .next t ∧ t.lec = s.lec ∧ (bit v.toNat 0 = false → t = s) ∧
      (bit v.toNat 0 = true → t.on (F.PHY_PAT_STATUS_BUSY ch) = true ∧ t.on (F.PHY_PAT_STATUS_DONE ch) = false ∧
        (∀ b, b < 72 → t.rd (F.PHY_CMPb_COUNT ch b) = 0) ∧ (s.on (F.PHY_PAT_CFG_WRITE ch) = false → t.dram = s.dram))) ∧
    (s.dramStill ch = false → ∃ t, exec (.patternRunDone ch mism) s = .next t ∧ t.dram = s.dram ∧ t.lec = s.lec ∧
      (s.on (F.PHY_PAT_STATUS_BUSY ch) = false → t = s) ∧
      (s.on (F.PHY_PAT_STATUS_BUSY ch) = true → t.on (F.PHY_PAT_STATUS_BUSY ch) = false ∧ t.on (F.PHY_PAT_STATUS_DONE ch) = true ∧
        ∀ b, b < 72 → t.rd (F.PHY_CMPb_COUNT ch b) = min (mism.getD b 0) 65535))) ∧
  (∀ (mb : Fin 6) (flags seq num step rank mask : Nat) (ch : Fin 2) (results : List (Nat × Nat)) (s : State),
    s.Asks 0 mb 0x87 flags seq (leBytes 4 num ++ leBytes 1 ch.val ++ leBytes 1 step ++ leBytes 1 rank ++ [0] ++ leBytes 2 mask ++ [0, 0]) →
    step ≤ 6 → rank ≤ s.rd (F.DMC_CFG_RANKS2 ch) → mask ≤ 511 → 40 ≤ s.maxPay 0 →
    ∃ t, exec (.dramTrainStep 0 mb results) s = .next t ∧
      (s.runMask ≠ 0 → s.performs t 0 mb 0x87 seq stBUSY 0 []) ∧
      (s.runMask = 0 → t.rd (F.DMC_STATUS_STATE ch) = 3 ∧ t.on (F.DMC_CTRL_RUN ch) = true ∧ t.lec = s.lec ∧
        (step = 1 ∨ step = 2 ∨ step = 6 → t.dram = s.dram) ∧
        let res := fun l => let q := results.getD l (0, 0)
          if q.1 = 0 ∧ 3 ≤ step ∧ step ≤ 5 ∧ q.2 < s.rd (F.PHY_TRAIN_CFG_MIN_MARGIN ch) then (2, q.2) else q
        t.answered 0 mb 0x87 seq stOK 0 (((List.range 9).map fun l => leBytes 2 (if bit mask l then (res l).1 else 3) ++
          leBytes 2 (if bit mask l then (res l).2 else 0)).flatten)))

/-! ### Test access (R426–R438) -/

/-- The TAP, while VAON is good (R426–R430, R432, R435, R436): each instruction captures the lock level and the flags as they
stood into the instruction register; IDCODE, SAMPLE, PRELOAD and BYPASS change the test logic only; EXTEST, CLAMP and HIGHZ
drive the pins only in SCAN-TEST and are refused elsewhere; a field instruction is served at lock level 0 or 1, and refused, as
BYPASS with REFUSED set, above; EVR_READ captures the record of its slot and moves on to the next or to the slot selected;
EVR_CLEAR with its key starts a log clear, and with another key none; a factory instruction is refused above level 0, and at
level 0 the manual gives it no effect and the machine stops (R428). -/
def Obligations.TapInstructions : Prop :=
  ∀ (pins key code : Nat) (pick : Option Nat) (s : State), s.aon.vaonGood = true →
    let cap := 1 + 4 * b2n (s.on F.TST_STATUS_SCAN) + 8 * b2n s.tap.refused + 16 * (s.tapLevel % 4)
    let sel := fun (ir drive : Nat) => ({ s.tap with ir := ir, irCap := cap, refused := false, drive := drive } : Tap)
    let bypassed := fun (t : State) =>
      t = { s with regs := t.regs, tap := { s.tap with ir := 0xFF, irCap := cap, refused := true, drive := 0, shift := 0 } } ∧
      t.on F.TST_STATUS_REFUSED = true ∧ s.regsKeep t [R.TST_STATUS]
    let scanOnly := fun (c : Instr) (ir drive shift : Nat) => ∃ t, exec c s = .next t ∧
      (s.on F.TST_STATUS_SCAN = true → t = { s with tap := { sel ir drive with shift := shift } }) ∧ (s.on F.TST_STATUS_SCAN = false → bypassed t)
    exec .tapIdcode s = .next { s with tap := { sel 0x03 0 with shift := 0x294801CB } } ∧
    exec (.tapSample pins) s = .next { s with tap := { sel 0x01 0 with shift := pins % 2 ^ 987 } } ∧
    exec (.tapPreload pins) s = .next { s with tap := { sel 0x02 0 with cells := pins % 2 ^ 987 } } ∧
    exec .tapBypass s = .next { s with tap := { sel 0xFF 0 with shift := 0 } } ∧
    scanOnly .tapExtest 0x00 1 s.tap.shift ∧ scanOnly .tapClamp 0x04 2 0 ∧ scanOnly .tapHighz 0x05 3 0 ∧
    (∃ t, exec .jtagReset s = .next t ∧ t = { s with regs := t.regs, tap := { Tap.reset with bist := s.tap.bist } } ∧
      t.on F.RST_CAUSE_JTAG = true ∧ s.regsKeep t [R.RST_CAUSE]) ∧
    (code < 0x20 ∨ 0x40 ≤ code → exec (.tapFactory code) s = .next { s with tap := { sel 0xFF 0 with shift := 0 } }) ∧
    (0x20 ≤ code → code < 0x40 →
      (s.tapLevel = 0 → exec (.tapFactory code) s = .refused (.factoryInstruction code)) ∧
      (s.tapLevel ≠ 0 → ∃ t, exec (.tapFactory code) s = .next t ∧ bypassed t)) ∧
    (∃ t, exec (.tapEvrRead pick) s = .next t ∧ (1 < s.tapLevel → bypassed t) ∧
      (s.tapLevel ≤ 1 → let dr := leNat (s.slotBytes s.tap.slot) + s.tap.slot * 2 ^ 128
        t = { s with tap := { sel 0x10 0 with shift := dr, slot := (pick.getD (s.tap.slot + 1)) % 2048 } })) ∧
    (∃ t, exec (.tapEvrClear key) s = .next t ∧ (1 < s.tapLevel → bypassed t) ∧
      (s.tapLevel ≤ 1 → key % 65536 ≠ 0x9480 → t = { s with tap := { sel 0x11 0 with key := key % 65536 } }) ∧
      (s.tapLevel ≤ 1 → key % 65536 = 0x9480 → t.tap = { sel 0x11 0 with key := 0 } ∧ t.pins.faultLow = false ∧
        (s.evr.clearing = none → t.evr = { s.evr with clearing := some ⟨0, s.rd F.EVR_STATUS_USED, 3⟩ }) ∧
        s.regsKeep t [R.EVR_FAULT, R.EVR_STATUS])) ∧
    (∃ t, exec .tapBistResult s = .next t ∧ (1 < s.tapLevel → bypassed t) ∧
      (s.tapLevel ≤ 1 → t = { s with tap := { sel 0x13 0 with shift := s.get R.TST_BIST_STATUS + s.get R.TST_BIST_FAIL * 2 ^ 32 } }))

/-- Self-tests and the SCAN-TEST halt (R433, R437, R438): a start in SERVICE under grants that cover TST and the unit, with no
test running and the unit ready, makes the named test run, and any other start sets REFUSED and logs event 0x7F02 with result 3;
BIST_CTRL starts one without a grant; its end stores the error count and logs event 0x7F02 with result 1 or 2, for SENSORS by
the readings that stand; a TST block in reset or without its clock does nothing; after SCAN-TEST entry the processor stops. -/
def Obligations.SelfTests : Prop :=
  ∀ (v : Word) (errs word mem : Nat) (s : State),
    let kind := s.rd F.TST_BIST_CFG_KIND
    let unit := chan (s.rd F.TST_BIST_CFG_UNIT)
    let started := fun (t : State) (k : Nat) (u : Fin 4) => t.tap.bist = some (k, u.val) ∧ t.rd F.TST_BIST_STATUS_STATE = 1 ∧
      t.on F.TST_BIST_STATUS_REFUSED = false ∧ t.rd F.TST_BIST_STATUS_KIND = k ∧ t.rd F.TST_BIST_STATUS_ERRORS = 0 ∧ t.get R.TST_BIST_FAIL = 0 ∧
      t.evr = s.evr ∧ t.dram = s.dram ∧ t.lec = s.lec
    (s.sysStill 8 = true → exec (.bistGo v) s = .next s ∧ exec (.tapBistCtrl v) s = .next s ∧
      exec (.bistComplete errs word mem) s = .next s) ∧
    (s.sysStill 8 = false → ∃ t, exec (.bistGo v) s = .next t ∧ (bit v.toNat 0 = false → t = s) ∧
      (bit v.toNat 0 = true → s.mode = modeSERVICE → s.granted 14 = true → s.tap.bist = none → kind ≤ 4 → s.bistReady kind unit = true →
        (∀ b, State.bistBlock kind unit = some b → s.granted b = true) → started t kind unit ∧
        s.regsKeep t [R.TST_BIST_STATUS, R.TST_BIST_FAIL]) ∧
      (bit v.toNat 0 = true → s.mode ≠ modeSERVICE ∨ s.granted 14 = false ∨ s.tap.bist.isSome = true ∨ 4 < kind ∨
        s.bistReady kind unit = false → t.tap = s.tap ∧ t.on F.TST_BIST_STATUS_REFUSED = true ∧
        s.logged t 0x7F02 1 kind (unit.val + 768) ∧ s.regsKeep t (R.TST_BIST_STATUS :: State.eventRegs))) ∧
    (s.sysStill 8 = false → s.aon.vaonGood = true → s.tapLevel ≤ 1 → s.tap.bist = none → s.mode = modeSCANTEST → v.toNat % 8 ≤ 4 → bit v.toNat 31 = true →
      ∃ t, exec (.tapBistCtrl v) s = .next t ∧ started t (v.toNat % 8) (chan (bits v.toNat 8 2)) ∧ t.tap.shift = v.toNat) ∧
    (∀ k u, s.sysStill 8 = false → s.tap.bist = some (k, u) → u < 4 → k ≤ 4 →
      let pass := errs = 0 ∧ (k = 4 → s.sensorsAgree = true)
      ∃ t, exec (.bistComplete errs word mem) s = .next t ∧ t.tap = { s.tap with bist := none } ∧
      t.rd F.TST_BIST_STATUS_ERRORS = min errs 65535 ∧ t.rd F.TST_BIST_STATUS_STATE = (if pass then 2 else 3) ∧
      s.logged t 0x7F02 (if pass then 1 else 4) k (u + if pass then 256 else 512) ∧ t.dram = s.dram ∧
      s.regsKeep t (R.TST_BIST_STATUS :: R.TST_BIST_FAIL :: State.eventRegs)) ∧
    (∃ t, exec .scantestHalt s = .next t ∧
      if s.mode = modeSCANTEST ∧ s.rst.cpu = .running then
        t.rst = { s.rst with cpu := .stopped } ∧ t.on F.MBX_HSTAT_READY = false ∧ s.regsKeep t [R.MBX_HSTAT]
      else t = s)

/-! ### LED chains (R293, R299, R300, R305) -/

/-- Reloads of a chain port (R284–R287, R293, R299, R300, R305): at a swap point of a running port a completed reload is
latched, and the next one starts with the next SEQ, a LOAD word that carries it, and a DATA frame for each driver; its return
clears RELOADING and waits for the swap, a return with nothing in it reports its LOAD word, every driver and its TAIL as
missing; the end of an audit window, not before its length has passed, marks each lit position of an armed group that was not
verified; a reload that waits for its swap longer than two frame periods is reported once; a write of the frame memory reaches
the position named and no other. -/
def Obligations.ChainReloads : Prop :=
  ∀ (n : Chan) (v : Word) (s : State),
    let drivers := s.rd (F.CHN_MODE_DRIVERS n)
    (s.subStill n 9 = false → ∃ t, exec (.chainSwapPoint n) s = .next t ∧ t.dram = s.dram ∧
      (2 ≤ s.rd (F.CHN_STATUS_STATE n) → s.on (F.CHN_STATUS_RELOADING n) = false →
        t.on (F.CHN_STATUS_RELOADING n) = true ∧ t.rd (F.CHN_SEQ_SEQ n) = (s.rd (F.CHN_SEQ_SEQ n) + 1) % 256 ∧
        (t.cn n).words = [loadWord (t.rd (F.CHN_SEQ_SEQ n))] ∧ (t.cn n).frames = ((List.range drivers).map fun d =>
          dataFrame d ((t.cn n).probed.contains d) (t.cn n).gb (((t.cn n).sent.drop (128 * d)).take (16 * s.rd (F.CHN_MODE_MUX n)))) ∧
        (s.on (F.CHN_STATUS_LAT_WAIT n) = true → t.on (F.CHN_STATUS_LAT_WAIT n) = false ∧ (t.cn n).latched = true ∧
          (t.cn n).swaps = ((s.cn n).swaps + 1) % 2 ^ 24)) ∧
      (s.rd (F.CHN_STATUS_STATE n) < 2 → t.rd (F.CHN_SEQ_SEQ n) = s.rd (F.CHN_SEQ_SEQ n) ∧ (t.cn n).mem = (s.cn n).mem)) ∧
    (s.subStill n 9 = false → ∃ t, exec (.chainReloadComplete n []) s = .next t ∧ (s.on (F.CHN_STATUS_RELOADING n) = false → t = s) ∧
      (s.on (F.CHN_STATUS_RELOADING n) = true → t.on (F.CHN_STATUS_RELOADING n) = false ∧ t.on (F.CHN_STATUS_LAT_WAIT n) = true ∧
        t.rd (F.CHN_CNT1_RET_ERR n) = min (s.rd (F.CHN_CNT1_RET_ERR n) + drivers + 2) 65535 ∧
        t.rd (F.CHN_LAST_RET_ADDR n) = 0xFF ∧ t.rd (F.CHN_LAST_RET_KIND n) = 3 ∧
        t.rd (F.CHN_LAST_RET_SEQ n) = s.rd (F.CHN_SEQ_SEQ n) ∧ t.dram = s.dram)) ∧
    (s.subStill n 9 = false → drivers = 0 → s.on (F.CHN_STATUS_RELOADING n) = true →
      ∃ t, exec (.chainReloadComplete n [[loadWord (s.rd (F.CHN_SEQ_SEQ n))], [0]]) s = .next t ∧ t.evr = s.evr ∧
        s.regsKeep t [R.CHN_STATUS n, R.CHN_CNT0 n]) ∧
    (∃ t, exec (.auditWindowEnd n) s = .next t ∧ t.dram = s.dram ∧
      ((s.cn n).audit = none → t = s) ∧
      (∀ a, (s.cn n).audit = some a → pastMs (s.tb.toNat - a.startTick) (s.rdA (F.CHN_AUDIT_WINDOW n)) = false → t = s) ∧
      (∀ a, s.subStill n 9 = false → (s.cn n).audit = some a →
        pastMs (s.tb.toNat - a.startTick) (s.rdA (F.CHN_AUDIT_WINDOW n)) = true → (t.cn n).audit = some ⟨s.tb.toNat, [], []⟩ ∧ (t.cn n).probeDue = true ∧
        ∀ p, sget (fun _ => false) (t.cn n).unver p = (sget (fun _ => false) (s.cn n).unver p ||
          (a.lit.any (fun e => e.1 == p) && s.inArmed n (s.rdA (F.CHN_GARM_MASK n) ||| s.rdA (F.CHN_GPROBE_MASK n)) p && !sget (fun _ => false) a.verified p)))) ∧
    (∃ t, exec (.chainSwapWaitTimeout n) s = .next t ∧
      if s.on (F.CHN_STATUS_LAT_WAIT n) && !(s.cn n).waitLogged && !s.subStill n 9 && s.waitedLong n then
        s.logged t (0x3001 + 256 * n.val) 2 0 2 ∧ (t.cn n).waitLogged = true ∧ s.regsKeep t (State.eventRegs ++ State.errRegs (chnBase n))
      else t = s) ∧
    (s.subHeld n 9 = false → s.on (F.CHN_CTRL_EN n) = false → s.bistOn 1 n = false → let b := s.rd (F.CHN_MEM_ADDR_BANK n)
      let o := s.rd (F.CHN_MEM_ADDR_OFFSET n)
      ∃ t, exec (.chainMemWrite n v) s = .next t ∧ t.rd (F.CHN_MEM_ADDR_OFFSET n) = (o + 1) % 2 ^ 14 ∧ s.regsKeep t [R.CHN_MEM_ADDR n] ∧
        ∀ k p, k < 2 → p < 8192 → t.bankVal n k p = if k = b ∧ p = o then v.toNat % 65536 else s.bankVal n k p)

/-! ### Video inputs (R148–R154) -/

/-- A CSI-2 receiver (R148, R150–R154): a line of the stored size and type of a RAW8 frame in progress is written into the
buffer being written, and no other byte changes; a wrong size makes the frame incomplete, with event 0x7001 and reason 4; a
complete frame is published: NEWEST is its buffer, the layer's live pointer its address, FRAMES advances; a frame that does not
end after its entry is disabled is abandoned with reason 6, but for one whose Frame End is in; a frame that DRAM no longer takes
is not published, with reason 7; an entry enabled again is stopped no more; lane states stand in CSI_STATUS; a receiver in reset
does nothing. -/
def Obligations.CsiReceiver : Prop :=
  ∀ (rx : Duo) (vc : Fin 16) (v : Word) (stop ulps : Nat) (skew : Bool) (wc : Nat) (bytes : List Byte) (r : CsiRun) (s : State),
    let i := s.rd (F.CSI_VCv_PUB_WRITING rx vc.val)
    let width := s.rd (F.CSI_VCv_SIZE_WIDTH rx vc.val)
    (s.sysHeld rx.val = true → exec (.csiPacket rx ⟨0, vc.val, 0x2A, wc, bytes, true⟩) s = .next s ∧
      exec (.csiFrameComplete rx vc) s = .next s ∧ exec (.csiStopTimeout rx vc) s = .next s ∧
      exec (.csiEntryEnableWrite rx vc v) s = .next s ∧ exec (.csiLaneStateChange rx stop ulps skew) s = .next s) ∧
    (s.sysStill rx.val = false → s.on (F.CSI_CTRL_EN rx) = true → s.on (F.CSI_VCv_PUB_STOPPED rx vc.val) = false → s.csiRun rx vc.val = some r → r.bad = false →
      r.ended = false → s.rd (F.CSI_VCv_CFG_DT rx vc.val) = 0x2A → s.dramOk = true →
      ∃ t, exec (.csiPacket rx ⟨0, vc.val, 0x2A, wc, bytes, true⟩) s = .next t ∧
        (bytes.length = width → r.row < s.rd (F.CSI_VCv_SIZE_HEIGHT rx vc.val) →
          s.dramIn (s.ringAddr rx vc.val i + r.row * csiStride 0x2A width) width = true → t.regs = s.regs ∧ t.evr = s.evr ∧
          t.csiRun rx vc.val = some { r with row := r.row + 1 } ∧
          let a := s.ringAddr rx vc.val i + r.row * csiStride 0x2A width
          ∀ x, t.dbyte x = if a ≤ x ∧ x < a + width then bytes.getD (x - a) 0 else s.dbyte x) ∧
        (bytes.length ≠ width → t.dram = s.dram ∧ t.csiRun rx vc.val = some { r with bad := true } ∧
          s.logged t 0x7001 2 (16 * rx.val + vc.val) 4)) ∧
    (s.sysStill rx.val = false → ∃ t, exec (.csiFrameComplete rx vc) s = .next t ∧ t.dram = s.dram ∧
      (s.csiRun rx vc.val = none → t = s) ∧
      (s.csiRun rx vc.val = some r → r.ended = false ∨ r.bad = true → t = s) ∧
      (s.csiRun rx vc.val = some r → r.ended = true → r.bad = false → s.dramOk = false → t.csiRun rx vc.val = none ∧
        s.logged t 0x7001 2 (16 * rx.val + vc.val) 7) ∧
      (s.csiRun rx vc.val = some r → r.ended = true → r.bad = false → s.dramOk = true → t.evr = s.evr ∧ let c := s.csiTarget rx vc.val
        t.csiRun rx vc.val = none ∧ (s.on (F.CSI_VCv_CFG_EN rx vc.val) = true → t.rd (F.CSI_VCv_PUB_NEWEST rx vc.val) = i) ∧
        t.rd (F.FETCH_Lx_LIVE_ADDR c.1 c.2.val) = s.ringAddr rx vc.val i / 64 % 2 ^ (F.FETCH_Lx_LIVE_ADDR c.1 c.2.val).w ∧
        t.rd (F.CSI_VCv_PUB_FRAMES rx vc.val) = (s.rd (F.CSI_VCv_PUB_FRAMES rx vc.val) + 1) % 2 ^ (F.CSI_VCv_PUB_FRAMES rx vc.val).w)) ∧
    (∃ t, exec (.csiStopTimeout rx vc) s = .next t ∧ t.dram = s.dram ∧ (s.on (F.CSI_VCv_CFG_EN rx vc.val) = true → t = s) ∧
      (s.csiRun rx vc.val = some r → r.ended = true → t = s) ∧
      (s.sysStill rx.val = false → s.on (F.CSI_VCv_CFG_EN rx vc.val) = false → s.csiRun rx vc.val = some r → r.ended = false →
        r.bad = false →
        t.csiRun rx vc.val = none ∧ s.logged t 0x7001 2 (16 * rx.val + vc.val) 6)) ∧
    (s.sysHeld rx.val = false → ∃ t, exec (.csiEntryEnableWrite rx vc v) s = .next t ∧ t.dram = s.dram ∧
      (bit v.toNat 0 = true → s.on (F.CSI_VCv_CFG_EN rx vc.val) = false →
        t.on (F.CSI_VCv_CFG_EN rx vc.val) = true ∧ t.on (F.CSI_VCv_PUB_STOPPED rx vc.val) = false) ∧
      (bit v.toNat 0 = false → s.csiRun rx vc.val = none → sget (fun _ => none) (s.csi.get rx).rebind vc.val = none →
        t.on (F.CSI_VCv_CFG_EN rx vc.val) = false ∧ t.on (F.CSI_VCv_PUB_STOPPED rx vc.val) = true)) ∧
    (s.sysStill rx.val = false → ∃ t, exec (.csiLaneStateChange rx stop ulps skew) s = .next t ∧ s.regsKeep t [R.CSI_STATUS rx] ∧ t = { s with regs := t.regs } ∧
      t.rd (F.CSI_STATUS_STOP rx) = stop % 2 ^ (F.CSI_STATUS_STOP rx).w ∧ t.rd (F.CSI_STATUS_ULPS rx) = ulps % 2 ^ (F.CSI_STATUS_ULPS rx).w)

/-! ### The pixel path (R157, R168, R180, R184, R192, R195–R209, R215, R241, R262, R329) -/

/-- Fields, planes, scan lines, control slots and composition (R157, R168, R195, R201–R203, R208, R209, R241, R262): a field
start steps FIELD, takes the link time and reports the field's state; the plane due next is sent within the STAGE window; a
block that misses its deadline is abandoned, counted, with event 0x1n30; an incomplete scan line is abandoned with event 0x1n32;
a control slot advances the link time by 2.56 us and, on a link that is UP, in REPLAY or DOWN, sends 42 bytes with the next
sequence number; the composed frame publishes its signatures under its frame number and releases its buffers; an underrun
darkens the rest of the layer, with event 0x1n10 (a frame that TRANSFER_LINE had drawn is drawn again). Each acts while its
block is not held in reset and its clock runs. -/
def Obligations.FieldsAndPackets : Prop :=
  ∀ (n : Chan) (x : Fin 4) (slot blk row : Nat) (complete : Bool) (s : State),
    let f := (s.bp n).nextField
    let m := (s.bp n).lit
    let k := (s.bp n).line
    let inField := s.on (F.LEC_STATUS_RUNNING n) = true ∧ f < s.strmFields n
    let due := s.loading n = true ∧ m < (s.litSlots n).length ∧ m < s.resetsNow n + s.rdS (F.BPF_BLK_TIME_STAGE n)
    (s.subStill n 5 = false → ∃ t, exec (.fieldStart n) s = .next t ∧ t.dram = s.dram ∧ (¬ inField → t = s) ∧
      (inField → t.rd (F.BPF_STATUS_FIELD n) = f % 4 ∧ (t.bp n).nextField = f + 1 ∧ (t.ch n).fieldLt = s.rd (F.LNK_LT_LT n) ∧
        (t.ch n).fieldDark = (s.nodeReady n).darkField n f ∧
        t.rd (F.BPF_STATUS_STATE n) = if s.streams n then s.bpfState n ((s.nodeReady n).darkField n f) else 0)) ∧
    (s.subStill n 5 = false → ∃ t, exec (.blockPacketSend n) s = .next t ∧ t.dram = s.dram ∧
      ((∀ g p b, s.blockBad n g p b = false) → t.evr = s.evr ∧ s.regsKeep t [R.MSK_STATUS n, R.MSK_CNT n]) ∧
      (due → (t.bp n).lit = m + 1 ∧ (t.bp n).blk = 0) ∧ (¬ due → (t.bp n).lit = m ∧ (t.bp n).blk = (s.bp n).blk)) ∧
    (s.subStill n 5 = false → ∃ t, exec (.blockDeadlineMiss n slot blk) s = .next t ∧
      if s.loading n && m == slot && (s.bp n).blk == blk && decide (blk < s.rdS (F.BPF_BLK_CFG_BLOCKS n)) && (s.litSlots n)[slot]?.isSome then
        (t.bp n).lit * s.rdS (F.BPF_BLK_CFG_BLOCKS n) + (t.bp n).blk = m * s.rdS (F.BPF_BLK_CFG_BLOCKS n) + blk + 1 ∧
        t.rd (F.BPF_LATE_CNT_LATE n) = satN (F.BPF_LATE_CNT_LATE n).w (s.rd (F.BPF_LATE_CNT_LATE n) + 1) ∧
        s.logged t (0x1030 + 256 * n.val) 3 slot blk ∧ t.dram = s.dram
      else t = s) ∧
    (s.subStill n 5 = false → ∃ t, exec (.scanLineStart n complete) s = .next t ∧
      if s.rd (F.BPF_STATUS_STATE n) = 6 ∧ s.linkUp n = true ∧ k < s.rdS (F.WRP_TRAJ_CFG_L n) then
        (t.bp n).line = k + 1 ∧ t.dram = s.dram ∧
        (complete = true ∧ s.lineBad n (s.rd (F.BPF_STATUS_FIELD n)) k = false → t.evr = s.evr ∧ t.regs = s.regs) ∧
        (complete = false ∨ s.lineBad n (s.rd (F.BPF_STATUS_FIELD n)) k = true → s.logged t (0x1032 + 256 * n.val) 3 k (s.rd (F.BPF_STATUS_FIELD n)))
      else t = s) ∧
    (s.subStill n 7 = false → ∃ t, exec (.controlSlot n) s = .next t ∧ t.dram = s.dram ∧ t.evr = s.evr ∧
      t.rd (F.LNK_LT_LT n) = (s.rd (F.LNK_LT_LT n) / 256 * 256 + 256) % 2 ^ 32 ∧
      if (s.linkState n = 3 ∨ s.linkState n = 4 ∨ s.linkState n = 5) ∧ (s.ch n).link.idle = false ∧ s.subHeld n 7 = false then
        (t.ch n).link.slotSeq = ((s.ch n).link.slotSeq + 1) % 65536 ∧ (t.ch n).link.lastSlot.length = 42
      else (t.ch n).link.slotSeq = (s.ch n).link.slotSeq) ∧
    (∃ t, exec (.compositionComplete n) s = .next t ∧ ((s.ch n).composing = false ∨ (s.ch n).drawn.isSome → t.evr = s.evr ∧ t.dram = s.dram) ∧
      (s.on (F.LEC_STATUS_RUNNING n) = false ∨ s.subStill n 2 = true → t = s) ∧
      (s.on (F.LEC_STATUS_RUNNING n) = true → s.subStill n 2 = false →
        t.on (F.LEC_STATUS_GUARD n) = false ∧
        (∀ c, (s.ch n).cfgComp = some c → t.rd (F.LEC_LINE_LINE n) = (c.rows + 2) % 65536) ∧
        ((s.ch n).composing = true → (t.ch n).composed = true ∧ ∀ y, (t.lay n y).held = none) ∧
        ((s.ch n).composing = true → (s.ch n).drawn.isSome → t.get (R.WBK_SIG_FRAME n) = (s.get (R.LEC_FRAME_COUNT n) + 1) % 2 ^ 32))) ∧
    (s.subStill n 0 = false → ∃ t, exec (.layerUnderrun n x row) s = .next t ∧
      if (s.ch n).composing = true ∧ (s.ch n).composed = false ∧ (s.lay n x).on = true ∧ (s.lay n x).under = none then
        (t.lay n x).under = some row ∧ t.on (F.FETCH_Lx_STAT_UNDERRUN n x.val) = true ∧
        t.rd (F.FETCH_UNDERRUN_CNT_COUNT n) = min (s.rd (F.FETCH_UNDERRUN_CNT_COUNT n) + 1) 65535 ∧
        ((s.ch n).drawn = none → s.logged t (0x1010 + 256 * n.val) 3 x.val row ∧ t.dram = s.dram)
      else t = s)

/-- The memories of a channel that have an access port (R17, R180, R184, R192, R215, R329): a write reaches the entry addressed
and no other, and the ports of R180 and R184 advance their address; a write of a bank in use, or of the injection table while it
plays, is ignored and reported with event 0x0108; a block held in reset takes no write. -/
def Obligations.AccessPorts : Prop :=
  ∀ (n : Chan) (o : Nat) (v : Word) (s : State),
    let free := s.on (F.LEC_STATUS_RUNNING n) = false ∧ s.bistOn 0 n = false
    let lb := s.rd (F.CMP_LUT_ADDR_BANK n)
    let le := s.rd (F.CMP_LUT_ADDR_ENTRY n)
    let mb := s.rd (F.WRP_MESH_ADDR_BANK n)
    let me := s.rd (F.WRP_MESH_ADDR_NODE n)
    let ca := sclBase n + 0x400 + o / 4 * 4
    let ta := bpfBase n + 0x400 + o / 4 * 4
    let playing := s.rd (F.TUT_INJ_STATUS_STATE n) = 2 ∧ s.rd (F.TUT_INJ_CFG_SIGNAL n) = 4
    let reported := fun (t : State) => ∃ a b, s.logged t 0x0108 2 a b
    (s.subHeld n 2 = false → ∃ t, exec (.lutPortWrite n v) s = .next t ∧ t.dram = s.dram ∧ t.rd (F.CMP_LUT_ADDR_ENTRY n) = (le + 1) % 4096 ∧
      (free → s.regsKeep t [R.CMP_LUT_ADDR n] ∧ ∀ k, sget (fun _ => 0) (t.ch n).lut k =
        if k = 4096 * lb + le then v.toNat % 65536 else sget (fun _ => 0) (s.ch n).lut k) ∧
      (s.bankBusy n (F.CMP_CTRL_LUT_BANK n) lb = true → (t.ch n).lut = (s.ch n).lut ∧ reported t)) ∧
    (s.subHeld n 3 = false → ∃ t, exec (.meshPortWrite n v) s = .next t ∧ t.dram = s.dram ∧ t.rd (F.WRP_MESH_ADDR_NODE n) = (me + 1) % 2048 ∧
      (free → s.regsKeep t [R.WRP_MESH_ADDR n] ∧ ∀ k, sget (fun _ => 0) (t.ch n).mesh k =
        if me < 561 ∧ k = 1024 * mb + me then v.toNat else sget (fun _ => 0) (s.ch n).mesh k) ∧
      (s.bankBusy n (F.WRP_CTRL_MESH_BANK n) mb = true → (t.ch n).mesh = (s.ch n).mesh ∧ reported t)) ∧
    (s.subHeld n 1 = false → ∃ t, exec (.coefRamWrite n o v) s = .next t ∧ t.dram = s.dram ∧ t.lec = s.lec ∧ (0x1400 ≤ o → t = s) ∧
      (o < 0x1400 → free → t.get ca = v.toNat % 1024 ∧ s.regsKeep t [ca]) ∧
      (o < 0x1400 → s.bankBusy n (F.SCL_CTRL_COEF_BANK n) (o / 0xA00) = true → t.get ca = s.get ca ∧ reported t)) ∧
    (s.subHeld n 5 = false → ∃ t, exec (.timetableRamWrite n o v) s = .next t ∧ t.dram = s.dram ∧ t.lec = s.lec ∧ (0xC00 ≤ o → t = s) ∧
      (o < 0xC00 → free → t.get ta = v.toNat ∧ s.regsKeep t [ta]) ∧
      (o < 0xC00 → s.bankBusy n (F.BPF_TT_CTRL_BANK n) (o / 0x600) = true → t.get ta = s.get ta ∧ reported t)) ∧
    (s.subHeld n 10 = false → ∃ t, exec (.injTableWrite n o v) s = .next t ∧ t.dram = s.dram ∧ t.lec = s.lec ∧ (1024 ≤ o → t = s) ∧
      (o < 1024 → ¬ playing → s.bistOn 0 n = false → t.get (R.TUT_INJ_TABLEe n o) = v.toNat ∧ s.regsKeep t [R.TUT_INJ_TABLEe n o]) ∧
      (o < 1024 → playing → t.get (R.TUT_INJ_TABLEe n o) = s.get (R.TUT_INJ_TABLEe n o) ∧ reported t)) ∧
    ((s.subHeld n 2 = true → exec (.lutPortWrite n v) s = .next s) ∧ (s.subHeld n 3 = true → exec (.meshPortWrite n v) s = .next s) ∧
      (s.subHeld n 1 = true → exec (.coefRamWrite n o v) s = .next s) ∧ (s.subHeld n 5 = true → exec (.timetableRamWrite n o v) s = .next s) ∧
      (s.subHeld n 10 = true → exec (.injTableWrite n o v) s = .next s))

/-! ### Glare masks and light sources (R109, R220, R221, R225, R230, R237, R248–R251) -/

/-- Records of the Fast Lane and of MSK_INJ (R109, R220, R221, R225, R230, R237): an accepted record acts on its hard entry at
once, with the next GEN, and waits for the next frame start as a soft change; a CLEAR empties the entry; a dropped one is
counted with its reason and reported with event 0x0320 or 0x1n20, and no channel changes; a lifetime that has ended empties the
entry with cause 3; a change not acknowledged in time is reported with event 0x1n22; a transaction that ends inside a byte, or
comes while QUAD is off, is malformed (LAST_ERR 1). -/
def Obligations.MaskRecords : Prop :=
  ∀ (addr part : Nat) (r : List Byte) (n : Chan) (v : Word) (slot : Fin 64) (s : State),
    let accepted := fun (t : State) (r : List Byte) (cause : Nat) =>
      let n := chan (byteAt r 0)
      let k := byteAt r 1 % 64
      t.rd F.MBX_FL_ACCEPT_COUNT = (s.rd F.MBX_FL_ACCEPT_COUNT + 1) % 2 ^ 32 ∧ t.evr = s.evr ∧ t.dram = s.dram ∧
      t.rd (F.MSK_HSs_GEN n k) = (s.rd (F.MSK_HSs_GEN n k) + 1) % 256 ∧ t.rd (F.MSK_LAST_CAUSE n) = (if isClear r then 2 else cause) ∧
      (t.ch n).mask.arrived = (s.ch n).mask.arrived ++ [⟨k, if isClear r then none else some r⟩] ∧
      t.hardLive n k = !isClear r ∧
      (isClear r = false → t.hardRec n k = r ∧ t.rd (F.MSK_HRs_REMAIN n k) = if lifetime r = 0 then 0 else lifetime r + 1) ∧
      ∀ j, j < 64 → j ≠ k → t.hardLive n j = s.hardLive n j ∧ t.hardRec n j = s.hardRec n j
    let dropped := fun (t : State) (r : List Byte) (reason : Nat) =>
      t.rd F.MBX_FL_DROP_COUNT = satN 32 (s.rd F.MBX_FL_DROP_COUNT + 1) ∧ t.rd F.MBX_FL_LAST_REASON = reason ∧ t.lec = s.lec ∧
      t.dram = s.dram ∧ t.rd F.MBX_FL_ACCEPT_COUNT = s.rd F.MBX_FL_ACCEPT_COUNT ∧
      if reason ≤ 2 then s.logged t 0x0320 2 reason 0
      else s.logged t (0x1020 + 256 * (chan (byteAt r 0)).val) 2 reason (byteAt r 1 % 64)
    let inj := leBytes 4 (s.get (R.MSK_INJ n 0)) ++ leBytes 4 (s.get (R.MSK_INJ n 1)) ++ leBytes 4 (s.get (R.MSK_INJ n 2)) ++
      leBytes 4 (s.get (R.MSK_INJ n 3))
    (s.hspiServed = true → s.stood 245 245 = false → s.on F.MBX_HCFG_QUAD = true → part % 8 ≠ 0 →
      ∃ t, exec (.fastLaneWrite addr r part) s = .next t ∧ t.rd F.MBX_HSTAT_LAST_ERR = 1 ∧
        t.rd F.MBX_HSPI_ERR_CNT_COUNT = satN (F.MBX_HSPI_ERR_CNT_COUNT).w (s.rd F.MBX_HSPI_ERR_CNT_COUNT + 1)) ∧
    (s.hspiServed = true → s.stood 245 245 = false → s.on F.MBX_HCFG_QUAD = false →
      ∃ t, exec (.fastLaneWrite addr r part) s = .next t ∧ t.rd F.MBX_HSTAT_LAST_ERR = 1 ∧ t.lec = s.lec ∧ s.logged t 0x0301 1 0xA5 0) ∧
    (s.hspiServed = true → s.stood 245 245 = false → s.on F.MBX_HCFG_QUAD = true → part % 8 = 0 →
      ∃ t, exec (.fastLaneWrite addr r part) s = .next t ∧
      (r.length = 16 → addr % 2 ^ 24 = 0x2C00 → crc8 (r.take 15) = byteAt r 15 → recordOk r = true → s.streams (chan (byteAt r 0)) = true →
        accepted t r 0) ∧
      (r.length ≠ 16 → dropped t r 1) ∧
      (r.length = 16 → addr % 2 ^ 24 ≠ 0x2C00 → dropped t r 2) ∧
      (r.length = 16 → addr % 2 ^ 24 = 0x2C00 → crc8 (r.take 15) ≠ byteAt r 15 → dropped t r 3) ∧
      (r.length = 16 → addr % 2 ^ 24 = 0x2C00 → crc8 (r.take 15) = byteAt r 15 → recordOk r = false → dropped t r 4) ∧
      (r.length = 16 → addr % 2 ^ 24 = 0x2C00 → crc8 (r.take 15) = byteAt r 15 → recordOk r = true →
        s.streams (chan (byteAt r 0)) = false → dropped t r 5)) ∧
    (s.subHeld n 6 = false → ∃ t, exec (.maskInject n v) s = .next t ∧ (bit v.toNat 0 = false → t = s) ∧
      (bit v.toNat 0 = true → recordOk inj = true → s.streams (chan (byteAt inj 0)) = true → accepted t inj 1) ∧
      (bit v.toNat 0 = true → recordOk inj = false → dropped t inj 4) ∧
      (bit v.toNat 0 = true → recordOk inj = true → s.streams (chan (byteAt inj 0)) = false → dropped t inj 5)) ∧
    (s.subStill n 6 = false → ∃ t, exec (.maskLifetimeExpiry n slot) s = .next t ∧
      if s.hardEnded n slot.val then
        t.hardLive n slot.val = false ∧ t.rd (F.MSK_HRs_REMAIN n slot.val) = 0 ∧ t.rd (F.MSK_LAST_CAUSE n) = 3 ∧
        t.rd (F.MSK_HSs_GEN n slot.val) = (s.rd (F.MSK_HSs_GEN n slot.val) + 1) % 256 ∧ t.evr = s.evr ∧ t.dram = s.dram
      else t = s) ∧
    (s.subStill n 6 = false → ∃ t, exec (.maskAckTimeout n slot) s = .next t ∧
      if (s.ch n).mask.unacked.contains slot.val && s.linkUp n then
        s.logged t (0x1022 + 256 * n.val) 4 slot.val (s.rd (F.MSK_HSs_GEN n slot.val)) ∧
        t.rd (F.MSK_CNT_UNACKED n) = min (s.rd (F.MSK_CNT_UNACKED n) + 1) 127 ∧ t.hardRec n slot.val = s.hardRec n slot.val ∧ t.dram = s.dram
      else t = s)

/-- The lamp enable and the derating law (R248–R251): a pad that differs from the driven level leaves the drive as it is and is
reported with event 0x1n40 and MISMATCH, severity 6 and parameter A = 1 where the pad reads low while driven high, severity 3
and A = 2 the other way; the device changes nothing else in response, and with the FAULT_N threshold of 5 the first case asserts
FAULT_N once the pin is configured (R248); the law takes the selected temperature with its hysteresis and sets f by KNEE, SLOPE
and FLOOR; without a selected reading f holds, and the loss is reported with event 0x2n11. -/
def Obligations.LampAndDerate : Prop :=
  ∀ (n : Chan) (s : State),
    let high := s.pins.lampEnN.get n
    let armed := s.onS (F.SRC_DERATE_CFG_ARMED n)
    (s.subStill n 7 = false → ∃ t, exec (.lampEnMismatch n) s = .next t ∧ t.pins.lampEnN.get n = high ∧ t.pins.lampPad.get n = !high ∧
      t.on (F.SRC_STATUS_MISMATCH n) = true ∧ t.on (F.SRC_STATUS_EN_PAD n) = high ∧ t.dram = s.dram ∧ t.lec = s.lec ∧
      t.fw = s.fw ∧ t.sys = s.sys ∧ s.regsKeep t (State.eventRegs ++ State.errRegs (srcBase n) ++ [R.SRC_STATUS n]) ∧
      s.logged t (0x1040 + 256 * n.val) (if high then 6 else 3) (if high then 1 else 2) 0 ∧
      (s.rd F.EVR_CFG_FAULT_SEV = 5 → s.rst.cpu ≠ .held → s.rst.cpu ≠ .stopped →
        (high = true → t.pins.faultLow = true ∧ t.on F.EVR_FAULT_LATCHED = true) ∧
        (high = false → t.pins.faultLow = s.pins.faultLow))) ∧
    (s.subStill n 7 = false → ∃ t, exec (.derateEvaluation n) s = .next t ∧ t.dram = s.dram ∧ (armed = false → t = s) ∧
      (armed = true → s.selTemp n = none → (t.ch n).src.f = (s.ch n).src.f ∧ (t.ch n).src.th = (s.ch n).src.th ∧ (t.ch n).src.tempLost = true) ∧
      ∀ k, armed = true → s.selTemp n = some k →
        (t.ch n).src.th = some (State.thNext (s.ch n).src.th k) ∧ (t.ch n).src.tempLost = false ∧
        (t.ch n).src.f = State.derateF (s.rdS (F.SRC_DERATE_CFG_KNEE n)) (s.rdS (F.SRC_DERATE_CFG_SLOPE n))
          (s.rdS (F.SRC_DERATE_CFG_FLOOR n)) (State.thNext (s.ch n).src.th k)) ∧
    (s.subStill n 7 = false → ∃ t, exec (.tempInputLoss n) s = .next t ∧ t.dram = s.dram ∧ (t.ch n).src.sensorLost = true ∧ (t.ch n).src.f = (s.ch n).src.f ∧
      (armed = false → t.regs = s.regs) ∧
      (armed = true → s.rdS (F.SRC_DERATE_CFG_TSEL n) = 1 → (s.ch n).src.tempLost = false →
        t.on (F.SRC_STATUS_INPUT_LOST n) = true ∧ s.logged t (0x2011 + 256 * n.val) 4 1 0))

/-! ### Back lane and negotiation (R260, R264–R276, R281) -/

/-- Back-lane packets (R210, R230, R245, R260, R267, R272, R273, R274, R316): in OFF, or with the link in reset or its clocks
stopped, none acts; a late one is dropped, counted, with event 0x2n07; one that fails its CRC is counted and has no other
effect; a copy of an acknowledgement or NAK released within 10 us has no effect; a sensor sample reaches the inputs that select
it; STATUS is stored, and the loss of a forward lock or of a lit source takes the link DOWN with reason 3 or 7; acknowledgements
are recorded. -/
def Obligations.BackLanePackets : Prop :=
  ∀ (n : Chan) (c : Fin 4) (i k : Nat) (arr : Arrival) (stamp : Nat) (p : List Byte) (backPass : Bool) (s : State),
    let cs : List (Nat × (Arrival → Instr)) := [(0x81, fun l => .backSensor n l stamp p), (0x82, fun l => .backStatus n l p),
      (0x83, fun l => .backNak n l p), (0x84, fun l => .backMaskAck n l p), (0x85, fun l => .backTableAck n l p),
      (0x86, fun l => .backCacheAck n l p), (0x87, fun l => .backCapability n p l), (0x88, fun l => .backEcho n p l),
      (0x89, fun l => .backEye n p backPass l)]
    let live := s.linkState n ≠ 0 ∧ s.subStill n 8 = false
    (∀ q ∈ cs, ∃ t, exec (q.2 arr) s = .next t ∧ (¬ live → t = s) ∧
      (live → arr = .late → t.rd (F.LNK_CNT2_LATE n) = satN 16 (s.rd (F.LNK_CNT2_LATE n) + 1) ∧ s.logged t (0x2007 + 256 * n.val) 2 q.1 0 ∧
        t.lec = s.lec ∧ t.dram = s.dram ∧ s.regsKeep t (R.LNK_CNT2 n :: State.eventRegs ++ State.errRegs (lnkBase n))) ∧
      (live → arr = .badCrc → t.rd (F.LNK_CNT1_BACK_CRC n) = satN 15 (s.rd (F.LNK_CNT1_BACK_CRC n) + 1) ∧ t.evr = s.evr ∧
        t.lec = s.lec ∧ t.dram = s.dram ∧ s.regsKeep t [R.LNK_CNT1 n]) ∧
      (live → arr = .inTime → 0x83 ≤ q.1 → q.1 ≤ 0x86 → s.isCopy n q.1 p = true → t = s)) ∧
    (live → ∃ t, exec (.backSensor n .inTime stamp p) s = .next t ∧ t.dram = s.dram ∧
      (s.on (F.TUT_CTXc_CTRL_EN n c.val) = true → i < s.nz n c → s.rd (F.TUT_CTXc_ZSELi_SRC n c.val i) = 1 →
        s.rd (F.TUT_CTXc_ZSELi_SENSOR n c.val i) = k → k < s.cap n 17 → k < p.length / 2 → s.on (F.TUT_CTXc_ZSELi_GATE_EN n c.val i) = false →
        sget (fun _ => none) (t.ctx n c).fresh i = some (signed (le16 p (2 * k)) 16))) ∧
    (live → ∃ t, exec (.backStatus n .inTime p) s = .next t ∧ t.dram = s.dram ∧ t.get (R.LNK_NODE_STAT n) = le32 p 0 ∧
      t.rd (F.LNK_STATUS_NODE_BOOT n) = byteAt p 2 ∧ t.on (F.LNK_STATUS_F0_LOCK n) = bit (byteAt p 1) 2 ∧
      (s.linkUp n = true → bit (byteAt p 1) 2 = false → t.linkState n = 5 ∧ t.rd (F.LNK_STATUS_DOWN_REASON n) = 3) ∧
      (s.linkUp n = true → bit (byteAt p 1) 2 = true → s.rd (F.LNK_MODE_LANES n) ≠ 2 → byteAt p 0 = 0 →
        t.linkState n = 5 ∧ t.rd (F.LNK_STATUS_DOWN_REASON n) = 7)) ∧
    (live → s.isCopy n 0x83 p = false → ∃ t, exec (.backNak n .inTime p) s = .next t ∧ t.dram = s.dram ∧
      t.rd (F.LNK_CNT1_NAKS n) = satN 16 (s.rd (F.LNK_CNT1_NAKS n) + 1) ∧ (p = [] → t.evr = s.evr ∧ s.regsKeep t [R.LNK_CNT1 n])) ∧
    (live → s.isCopy n 0x84 p = false → ∃ t, exec (.backMaskAck n .inTime p) s = .next t ∧ t.dram = s.dram ∧ t.evr = s.evr ∧
      let b := byteAt p 0 % 64
      t.rd (F.MSK_HSs_ACK_GEN n b) = byteAt p 1 ∧ (t.ch n).mask.unacked =
        if byteAt p 1 = s.rd (F.MSK_HSs_GEN n b) then (s.ch n).mask.unacked.filter (· ≠ b) else (s.ch n).mask.unacked) ∧
    (live → s.isCopy n 0x85 p = false → ∃ t, exec (.backTableAck n .inTime p) s = .next t ∧ t.dram = s.dram ∧ t.evr = s.evr ∧
      (t.ch n).src.acks = if (s.ch n).src.tgenNew = some (byteAt p 1 % 16) ∧ byteAt p 0 < 4
        then setBit (s.ch n).src.acks (byteAt p 0) true else (s.ch n).src.acks) ∧
    (live → s.isCopy n 0x86 p = false → ∃ t, exec (.backCacheAck n .inTime p) s = .next t ∧ t.dram = s.dram ∧ t.regs = s.regs ∧
      ((s.bp n).replay = 1 → byteAt p 0 < s.strmFields n → byteAt p 1 < 16 →
        sget (fun _ => false) (t.bp n).acks (16 * byteAt p 0 + byteAt p 1) = true) ∧
      ((s.bp n).replay ≠ 1 → t.bp n = s.bp n))

/-- Negotiation and retrain of a link (R268, R270, R271, R274, R276, R281): a capability block that follows R268 is stored and a
SYNC is sent, any other takes the link DOWN with reason 6, its absence with reason 4; at the switch both sides take the mode of
the attempt; a verification without a good eye ends DOWN with reason 5; the final ECHO brings the link UP in the mode chosen; a
retrain begins dark, is counted and leaves state UP; loss of the back lane takes an UP link DOWN with reason 1 or 2; with LNK in
reset or its clocks stopped nothing happens. -/
def Obligations.LinkNegotiation : Prop :=
  ∀ (n : Chan) (b p : List Byte) (backPass : Bool) (g : Neg) (s : State),
    let down := fun (t : State) (reason : Nat) => t.linkState n = 5 ∧ t.rd (F.LNK_STATUS_DOWN_REASON n) = reason ∧ t.neg n = none ∧
      t.dram = s.dram ∧ ((s.neg n).bind Neg.tag = none → s.logged t (0x2005 + 256 * n.val) 4 reason 0)
    let inMode := fun (t : State) => t.rd (F.LNK_MODE_LANES n) = g.lanes % 2 ^ (F.LNK_MODE_LANES n).w ∧
      t.rd (F.LNK_MODE_RATE n) = g.rate % 2 ^ (F.LNK_MODE_RATE n).w ∧ t.rd (F.LNK_MODE_BACK n) = g.back % 2 ^ (F.LNK_MODE_BACK n).w
    let still := s.subStill n 8 = false
    let live := s.linkState n ≠ 0 ∧ still
    let asked := g.retrain = false ∧ g.step = 1
    let eyeOk := backPass = true ∧ s.rd (F.LNK_EQ_THR_MIN_EYE n) ≤ le16 p 2 ∧ le32 p 6 ≤ s.rd (F.LNK_EQ_THR_MAX_ERR n)
    (∀ c ∈ ([.capReqRepeat n, .capabilityTimeout n, .trainSwitch n, .eyeTimeout n backPass, .retrainStart n, .backCapability n b .inTime,
      .backEcho n p .inTime, .backEye n p backPass .inTime] : List Instr), s.neg n = none → exec c s = .next s) ∧
    (still → s.neg n = some g → ∃ t, exec (.capReqRepeat n) s = .next t ∧ t.regs = s.regs ∧ t.evr = s.evr ∧ t.neg n = some g ∧
      (¬ asked → t = s) ∧ (asked → s.linkState n = 1 → (s.ch n).link.idle = false → (t.ch n).link.seq = ((s.ch n).link.seq + 1) % 256)) ∧
    (still → s.neg n = some g → ∃ t, exec (.capabilityTimeout n) s = .next t ∧ (¬ asked → t = s) ∧ (asked → down t 4)) ∧
    (live → s.neg n = some g → ∃ t, exec (.backCapability n b .inTime) s = .next t ∧ (¬ asked → t = s) ∧ (asked → capBlockOk b = false → down t 6) ∧
      (asked → capBlockOk b = true → t.neg n = some { g with step := 2 } ∧ (t.ch n).link.capOk = true ∧ t.evr = s.evr ∧
        ∀ w, w < 48 → t.get (R.LNK_CAP n w) = le32 b (4 * w))) ∧
    (still → s.neg n = some g → ∃ t, exec (.trainSwitch n) s = .next t ∧ (g.step ≠ 3 → g.step ≠ 5 → t = s) ∧
      (g.step = 3 ∨ g.step = 5 → inMode t ∧ t.neg n = some { g with step := g.step + 1, eyes := [] } ∧ t.evr = s.evr ∧ t.dram = s.dram)) ∧
    (live → s.neg n = some g → ∃ t, exec (.backEye n p backPass .inTime) s = .next t ∧
      ((g.step ≠ 4 ∧ g.step ≠ 6) ∨ byteAt p 1 ≠ g.rate ∨ g.lanes ≤ byteAt p 0 → t = s) ∧
      (g.step = 6 → g.lanes = 1 → byteAt p 1 = g.rate → byteAt p 0 = 0 → (¬ eyeOk → down t 5) ∧
        (eyeOk → g.eyes = [] → t.neg n = some { g with step := 7 } ∧ t.evr = s.evr ∧ t.linkState n = s.linkState n))) ∧
    (still → s.neg n = some g → ∃ t, exec (.eyeTimeout n backPass) s = .next t ∧ (g.step ≠ 4 → g.step ≠ 6 → t = s) ∧ (g.step = 6 → down t 5)) ∧
    (live → s.neg n = some g → ∃ t, exec (.backEcho n p .inTime) s = .next t ∧ (g.step ≠ 2 → g.step ≠ 7 → t = s) ∧
      (g.step = 7 → t.linkState n = 3 ∧ inMode t ∧ t.neg n = none)) ∧
    (still → s.neg n = some g → ∃ t, exec (.retrainStart n) s = .next t ∧ (g.retrain = false ∨ g.step ≠ 0 → t = s) ∧
      (g.retrain = true → g.step = 0 → t.linkState n = 2 ∧ t.rd (F.LNK_STATUS_RETRAINS n) = min (s.rd (F.LNK_STATUS_RETRAINS n) + 1) 255 ∧
        t.neg n = some { g with step := 5 } ∧ t.dram = s.dram ∧ (s.on (F.LEC_STATUS_RUNNING n) = true → (t.ch n).fieldDark = true))) ∧
    (still → ∃ t, exec (.backSyncLoss n) s = .next t ∧ t.on (F.LNK_STATUS_B_LOCK n) = false ∧
      if s.linkUp n then down t 1 else s.regsKeep t [R.LNK_STATUS n] ∧ t.linkState n = s.linkState n) ∧
    (still → ∃ t, exec (.backSilence n) s = .next t ∧ if s.linkUp n then down t 2 else t = s) ∧
    (still → ∃ t, exec (.backLaneSyncGained n) s = .next t ∧ s.regsKeep t [R.LNK_STATUS n] ∧ t.linkState n = s.linkState n ∧
      t.on (F.LNK_STATUS_B_LOCK n) = (s.on (F.LNK_STATUS_B_LOCK n) || decide (s.linkState n ≠ 0)))

/-! ### Tutor (R128, R308–R320, R328, R329) -/

/-- Latch, release, pitch input, trace and injection of a loop context (R128, R308, R311, R313, R316, R318, R328, R329): the
latch of an enabled context counts, takes its inputs and leaves its outputs as they are until the release; the release shows u
and writes the routes, and a disabled context releases nothing; a pitch-rate frame reaches the firmware inputs of the running
LEVELLING contexts, and its time-out, once the time has passed without a frame, holds them; arming a trace discards the capture;
GO with a signal arms an injection. -/
def Obligations.TutorCycle : Prop :=
  ∀ (n : Chan) (c : Fin 4) (can : Duo) (id : Nat) (bytes : List Byte) (v : Word) (r : Rel) (s : State),
    let en := s.on (F.TUT_CTXc_CTRL_EN n c.val)
    (s.subStill n 10 = false → ∃ t, exec (.tutorLatch n c) s = .next t ∧ t.dram = s.dram ∧ (en = false → t = s) ∧
      (en = true → t.rd (F.TUT_CTXc_STATUS_LATCHES n c.val) = (s.rd (F.TUT_CTXc_STATUS_LATCHES n c.val) + 1) % 2 ^ (F.TUT_CTXc_STATUS_LATCHES n c.val).w ∧
        (t.ctx n c).rel.isSome = true ∧ (t.ctx n c).fresh = [] ∧ ∀ j, j < 4 → t.get (R.TUT_CTXc_Uj n c.val j) = s.get (R.TUT_CTXc_Uj n c.val j))) ∧
    (s.subStill n 10 = false → (s.ctx n c).rel = none → exec (.tutorRelease n c) s = .next s) ∧
    (s.subStill n 10 = false → (s.ctx n c).rel = some r → ∃ t, exec (.tutorRelease n c) s = .next t ∧ t.dram = s.dram ∧
      (t.ctx n c).rel = none ∧ (en = false → t.regs = s.regs) ∧
      (en = true → r.u.length ≤ 4 → ∀ j, j < r.u.length → t.get (R.TUT_CTXc_Uj n c.val j) = unsigned (r.u.getD j 0) 32) ∧
      (en = true → r.u.length ≤ 4 → s.rd (F.TUT_CTXc_ROUTEj_DEST n c.val 0) = 2 → (∀ j, 0 < j → j < 4 → s.rd (F.TUT_CTXc_ROUTEj_DEST n c.val j) = 0) →
        (∀ j, j < 8 → s.rd (F.TUT_CTXc_TAPt_DEST n c.val j) = 0) → (t.tu n).offset = some (r.routes.getD 0 0))) ∧
    (∃ t, exec (.pitchFrame can id bytes) s = .next t ∧ t.dram = s.dram ∧ t.evr = s.evr ∧
      ((∀ m : Chan, (s.tu m).pitch = none) ∨ s.fwRuns = false → t = s) ∧
      ∀ q, (s.tu n).pitch = some q → s.fwRuns = true → q.can = can.val → q.id = id → q.off + 2 ≤ bytes.length →
        ∀ e ∈ s.pitchInputs n, t.rd (F.TUT_CTXc_ZFWi_SAMPLE n e.1.val e.2) = le16 bytes q.off ∧
          sget (fun _ => none) (t.ctx n e.1).fresh e.2 = some (signed (le16 bytes q.off) 16)) ∧
    (∃ t, exec (.pitchTimeout n) s = .next t ∧ t.dram = s.dram ∧ ((s.tu n).pitch = none ∨ s.fwRuns = false → t = s) ∧
      (∀ q, (s.tu n).pitch = some q → pastMs (s.tb.toNat - (s.tu n).pitchTick) q.timeout = false → t = s) ∧
      (∀ q, (s.tu n).pitch = some q → s.fwRuns = true → pastMs (s.tb.toNat - (s.tu n).pitchTick) q.timeout = true →
        (∀ e ∈ s.pitchInputs n, bit (t.ctx n e.1).hold e.2 = true) ∧
        (∀ e, s.pitchInputs n = [e] → bit (s.ctx n e.1).hold e.2 = false → s.logged t (0x4002 + 256 * n.val) 2 e.1.val (0x80 + e.2)))) ∧
    (s.subHeld n 10 = false → ∃ t, exec (.traceArm n v) s = .next t ∧ t.dram = s.dram ∧
      (bit v.toNat 4 = true → t.rd (F.TUT_TRC_STATUS_STATE n) = 1 ∧ t.rd (F.TUT_TRC_STATUS_WORDS n) = 0 ∧
        t.rd (F.TUT_TRC_INJ_INDEX n) = 0xFFFF ∧ (t.tu n).evtHit = false ∧ t.on (F.TUT_TRC_CFG_ARM n) = true) ∧
      (bit v.toNat 4 = false → t.rd (F.TUT_TRC_STATUS_STATE n) = s.rd (F.TUT_TRC_STATUS_STATE n))) ∧
    (s.subHeld n 10 = false → ∃ t, exec (.injectionGo n v) s = .next t ∧ t.dram = s.dram ∧
      (bit v.toNat 6 = true → bits v.toNat 2 3 ≠ 0 → t.rd (F.TUT_INJ_STATUS_STATE n) = 1 ∧ t.rd (F.TUT_INJ_STATUS_SAMPLES n) = 0) ∧
      (bit v.toNat 6 = false ∨ bits v.toNat 2 3 = 0 → t.rd (F.TUT_INJ_STATUS_STATE n) = s.rd (F.TUT_INJ_STATUS_STATE n)))
end

