-- ==== Sys2Proof/Laws/Bits.lean ====
section
/-! SUPPORT. Bit fields: what a field reads after another was replaced; the bytes of little-endian numbers. -/

namespace Sys2Proof.Machine

theorem bits_lt (v lo w : Nat) : bits v lo w < 2 ^ w := Nat.mod_lt _ (Nat.two_pow_pos w)

theorem setBits_eq (v lo w x : Nat) :
    setBits v lo w x = 2 ^ lo * (2 ^ w * (v / 2 ^ lo / 2 ^ w) + x % 2 ^ w) + v % 2 ^ lo := by
  simp only [setBits, Nat.pow_add, Nat.div_div_eq_div_mul, Nat.mul_add]
  rw [Nat.mul_comm (v / _), Nat.mul_comm (x % _), Nat.mul_assoc]

/-- A replaced field reads what was put. -/
@[simp] theorem bits_setBits_self (v lo w x : Nat) : bits (setBits v lo w x) lo w = x % 2 ^ w := by
  rw [setBits_eq, bits, Nat.mul_add_div (Nat.two_pow_pos lo), Nat.div_eq_of_lt (Nat.mod_lt _ (Nat.two_pow_pos lo)),
    Nat.add_zero, Nat.mul_add_mod, Nat.mod_mod]

/-- A field below the replaced one keeps its value. -/
theorem bits_setBits_below {v lo w x l k : Nat} (h : l + k ≤ lo) : bits (setBits v lo w x) l k = bits v l k := by
  have e : 2 ^ lo = 2 ^ l * (2 ^ k * 2 ^ (lo - (l + k))) := by
    rw [← Nat.pow_add, ← Nat.pow_add]
    congr 1
    omega
  have hv : v % 2 ^ lo / 2 ^ l % 2 ^ k = v / 2 ^ l % 2 ^ k := by
    rw [e, Nat.mod_mul_right_div_self, Nat.mod_mul_right_mod]
  rw [setBits_eq, bits, bits, ← hv]
  conv => lhs; rw [e]
  rw [Nat.mul_assoc, Nat.mul_assoc, Nat.mul_add_div (Nat.two_pow_pos l), Nat.mul_add_mod]
  rw [e]

/-- A field above the replaced one keeps its value. -/
theorem bits_setBits_above {v lo w x l k : Nat} (h : lo + w ≤ l) : bits (setBits v lo w x) l k = bits v l k := by
  have e : 2 ^ l = 2 ^ lo * (2 ^ w * 2 ^ (l - (lo + w))) := by
    rw [← Nat.pow_add, ← Nat.pow_add]
    congr 1
    omega
  rw [bits, bits]
  congr 1
  rw [setBits_eq, e, ← Nat.div_div_eq_div_mul, Nat.mul_add_div (Nat.two_pow_pos lo),
    Nat.div_eq_of_lt (Nat.mod_lt v (Nat.two_pow_pos lo)), Nat.add_zero, ← Nat.div_div_eq_div_mul,
    Nat.mul_add_div (Nat.two_pow_pos w), Nat.div_eq_of_lt (Nat.mod_lt x (Nat.two_pow_pos w)), Nat.add_zero,
    ← Nat.div_div_eq_div_mul, ← Nat.div_div_eq_div_mul]

theorem setBits_lt {v lo w x k : Nat} (hv : v < 2 ^ k) (h : lo + w ≤ k) : setBits v lo w x < 2 ^ k := by
  have e : 2 ^ k = 2 ^ lo * (2 ^ w * 2 ^ (k - (lo + w))) := by
    rw [← Nat.pow_add, ← Nat.pow_add]
    congr 1
    omega
  have h1 : v / 2 ^ lo / 2 ^ w < 2 ^ (k - (lo + w)) := by
    rw [Nat.div_div_eq_div_mul]
    apply Nat.div_lt_of_lt_mul
    rwa [Nat.mul_assoc, ← e]
  rw [setBits_eq, e]
  have h2 := Nat.mod_lt x (Nat.two_pow_pos w)
  have h3 := Nat.mod_lt v (Nat.two_pow_pos lo)
  have h4 : 2 ^ w * (v / 2 ^ lo / 2 ^ w) + x % 2 ^ w + 1 ≤ 2 ^ w * 2 ^ (k - (lo + w)) := by
    calc 2 ^ w * (v / 2 ^ lo / 2 ^ w) + x % 2 ^ w + 1 ≤ 2 ^ w * (v / 2 ^ lo / 2 ^ w) + 2 ^ w := by omega
      _ = 2 ^ w * (v / 2 ^ lo / 2 ^ w + 1) := by rw [Nat.mul_add, Nat.mul_one]
      _ ≤ _ := Nat.mul_le_mul_left _ h1
  calc _ < 2 ^ lo * (2 ^ w * (v / 2 ^ lo / 2 ^ w) + x % 2 ^ w) + 2 ^ lo := by omega
    _ = 2 ^ lo * (2 ^ w * (v / 2 ^ lo / 2 ^ w) + x % 2 ^ w + 1) := (Nat.mul_succ _ _).symm
    _ ≤ _ := Nat.mul_le_mul_left _ h4

@[simp] theorem leBytes_length (k v : Nat) : (leBytes k v).length = k := by
  induction k generalizing v with
  | zero => rfl
  | succ k ih => simp [leBytes, ih]

theorem leNat_leBytes (k v : Nat) : leNat (leBytes k v) = v % 256 ^ k := by
  induction k generalizing v with
  | zero => simp [leBytes, leNat, Nat.mod_one]
  | succ k ih =>
    rw [leBytes, leNat, ih, BitVec.toNat_ofNat, show 256 ^ (k + 1) = 256 * 256 ^ k from Nat.pow_succ']
    exact Nat.mod_mul.symm

@[simp] theorem b2n_true : b2n true = 1 := rfl
@[simp] theorem b2n_false : b2n false = 0 := rfl
theorem b2n_lt (b : Bool) : b2n b < 2 := by cases b <;> decide
@[simp] theorem b2n_ne_zero (b : Bool) : (b2n b != 0) = b := by cases b <;> rfl

@[simp] theorem Four.get_set_self {α : Type} (f : Four α) (n : Fin 4) (v : α) : (f.set n v).get n = v := by
  unfold Four.get Four.set
  split <;> (try split) <;> (try split) <;> simp_all
theorem Four.get_set_ne {α : Type} (f : Four α) {n m : Fin 4} (v : α) (h : m ≠ n) : (f.set n v).get m = f.get m := by
  fin_cases n <;> fin_cases m <;> first | rfl | exact absurd rfl h
@[simp] theorem Two.get_set_self {α : Type} (f : Two α) (n : Fin 2) (v : α) : (f.set n v).get n = v := by
  match n with
  | 0 | 1 => rfl
theorem Two.get_set_ne {α : Type} (f : Two α) {n m : Fin 2} (v : α) (h : m ≠ n) : (f.set n v).get m = f.get m := by
  match n, m with
  | 0, 0 | 1, 1 => exact absurd rfl h
  | 0, 1 | 1, 0 => rfl

end Sys2Proof.Machine
end

