-- ==== Sys2Proof/Laws/Sparse.lean ====
section
/-! SUPPORT. Sparse maps: what a read gives after each operation, and that every operation keeps the canonical form. -/

namespace Sys2Proof.Machine

variable {α : Type}

@[simp] theorem sget_nil (d : Nat → α) (b : Nat) : sget d [] b = d b := rfl

theorem sget_sdel (d : Nat → α) (m : Sparse α) (a b : Nat) :
    sget d (sdel m a) b = if b = a then d a else sget d m b := by
  induction m with
  | nil => by_cases h : b = a <;> simp [sdel, sget, h]
  | cons p m ih =>
    obtain ⟨k, v⟩ := p
    by_cases hk : k = a
    · subst hk
      simp only [sdel, if_true, ih, sget]
      by_cases hb : b = k
      · simp [hb]
      · simp [hb, Ne.symm hb]
    · by_cases hb : b = a
      · subst hb
        simp [sdel, sget, hk, ih]
      · simp [sdel, sget, hk, ih, hb]

theorem sget_sins (d : Nat → α) (m : Sparse α) (a b : Nat) (x : α) :
    sget d (sins (sdel m a) a x) b = if b = a then x else sget d m b := by

  induction m with
  | nil =>
    by_cases h : b = a
    · simp [sdel, sins, sget, h]
    · simp [sdel, sins, sget, h, Ne.symm h]
  | cons p m ih =>
    obtain ⟨k, v⟩ := p
    by_cases hk : k = a
    · subst hk
      simp only [sdel, if_true, ih, sget]
      by_cases hb : b = k
      · simp [hb]
      · simp [hb, Ne.symm hb]
    · simp only [sdel, hk, if_false, sins]
      by_cases hlt : a < k
      · simp only [hlt, if_true, sget, sget_sdel]
        by_cases hb : b = a
        · simp [hb]
        · simp [hb, Ne.symm hb]
      · simp only [hlt, if_false, sget, ih]
        by_cases hb : b = a
        · subst hb
          simp [hk]
        · simp [hb]

/-- Read after write. -/
theorem sget_sset [DecidableEq α] (d : Nat → α) (m : Sparse α) (a b : Nat) (x : α) :
    sget d (sset d m a x) b = if b = a then x else sget d m b := by
  unfold sset
  by_cases hx : x = d a
  · simp only [hx, if_true, sget_sdel]
  · simp only [hx, if_false]
    exact sget_sins d m a b x

@[simp] theorem sget_sset_self [DecidableEq α] (d : Nat → α) (m : Sparse α) (a : Nat) (x : α) :
    sget d (sset d m a x) a = x := by simp [sget_sset]

theorem sget_sset_ne [DecidableEq α] (d : Nat → α) (m : Sparse α) {a b : Nat} (x : α) (h : b ≠ a) :
    sget d (sset d m a x) b = sget d m b := by simp [sget_sset, h]

theorem sget_skeep (d : Nat → α) (p : Nat → Bool) (m : Sparse α) (b : Nat) :
    sget d (skeep p m) b = if p b then sget d m b else d b := by
  induction m with
  | nil => simp [skeep]
  | cons q m ih =>
    obtain ⟨k, v⟩ := q
    by_cases hp : p k = true
    · by_cases hb : k = b
      · subst hb
        simp [skeep, hp, sget]
      · simp [skeep, hp, sget, ih, hb]
    · by_cases hb : k = b
      · subst hb
        simp [skeep, hp, ih]
      · simp [skeep, hp, sget, ih, hb]

/-- A write of successive values leaves every other key alone. -/
theorem sget_ssets_out [DecidableEq α] (d : Nat → α) (xs : List α) (m : Sparse α) (a b : Nat)
    (h : b < a ∨ a + xs.length ≤ b) : sget d (ssets d m a xs) b = sget d m b := by
  induction xs generalizing m a with
  | nil => rfl
  | cons x xs ih =>
    simp only [List.length_cons] at h
    rw [ssets, ih _ _ (by omega), sget_sset_ne]
    omega

/-- A write of successive values stores value i at key a + i. -/
theorem sget_ssets_in [DecidableEq α] (d : Nat → α) (xs : List α) (m : Sparse α) (a i : Nat) (h : i < xs.length) :
    sget d (ssets d m a xs) (a + i) = xs[i] := by
  induction xs generalizing m a i with
  | nil => simp at h
  | cons x xs ih =>
    cases i with
    | zero => rw [ssets, sget_ssets_out _ _ _ _ _ (by omega)]; simp
    | succ i =>
      simp only [List.length_cons, Nat.add_lt_add_iff_right] at h
      have := ih (sset d m a x) (a + 1) i h
      rw [ssets, show a + (i + 1) = a + 1 + i by omega, this]
      rfl

@[simp] theorem sgets_length (d : Nat → α) (m : Sparse α) (a k : Nat) : (sgets d m a k).length = k := by
  induction k generalizing a with
  | zero => rfl
  | succ k ih => simp [sgets, ih]

theorem sgets_congr (d : Nat → α) (m m' : Sparse α) (a k : Nat)
    (h : ∀ i, i < k → sget d m (a + i) = sget d m' (a + i)) : sgets d m a k = sgets d m' a k := by
  induction k generalizing a with
  | zero => rfl
  | succ k ih =>
    simp only [sgets]
    rw [show sget d m a = sget d m' a from h 0 (by omega),
      ih (a + 1) (fun i hi => by have := h (i + 1) (by omega); rwa [show a + (i + 1) = a + 1 + i by omega] at this)]

/-- Reading back what was written. -/
theorem sgets_ssets [DecidableEq α] (d : Nat → α) (xs : List α) (m : Sparse α) (a : Nat) :
    sgets d (ssets d m a xs) a xs.length = xs := by
  induction xs generalizing m a with
  | nil => rfl
  | cons x xs ih =>
    simp only [List.length_cons, ssets, sgets]
    rw [ih, sget_ssets_out _ _ _ _ _ (by omega)]
    simp

/-! ### Canonical form -/

theorem sabove_sdel {m : Sparse α} {a : Nat} (b : Nat) (h : sabove a m = true) : sabove a (sdel m b) = true := by
  induction m with
  | nil => rfl
  | cons p m ih =>
    obtain ⟨k, v⟩ := p
    simp only [sabove, Bool.and_eq_true, decide_eq_true_eq] at h
    by_cases hk : k = b
    · simp [sdel, hk, ih h.2]
    · simp [sdel, hk, sabove, ih h.2, h.1]

theorem sabove_sins {m : Sparse α} {a b : Nat} (x : α) (h : sabove a m = true) (hb : a < b) :
    sabove a (sins m b x) = true := by
  induction m with
  | nil => simp [sins, sabove, hb]
  | cons p m ih =>
    obtain ⟨k, v⟩ := p
    simp only [sabove, Bool.and_eq_true, decide_eq_true_eq] at h
    by_cases hk : b < k
    · simp [sins, hk, sabove, hb, h]
    · simp [sins, hk, sabove, ih h.2, h.1]

theorem sabove_mono {m : Sparse α} {a b : Nat} (h : sabove a m = true) (hb : b ≤ a) : sabove b m = true := by
  induction m with
  | nil => rfl
  | cons p m ih =>
    obtain ⟨k, v⟩ := p
    simp only [sabove, Bool.and_eq_true, decide_eq_true_eq] at h ⊢
    exact ⟨by omega, ih h.2⟩

theorem sabove_skeep {m : Sparse α} {a : Nat} (p : Nat → Bool) (h : sabove a m = true) :
    sabove a (skeep p m) = true := by
  induction m with
  | nil => rfl
  | cons q m ih =>
    obtain ⟨k, v⟩ := q
    simp only [sabove, Bool.and_eq_true, decide_eq_true_eq] at h
    by_cases hp : p k = true <;> simp [skeep, hp, sabove, ih h.2, h.1]

variable [DecidableEq α] (d : Nat → α)

theorem swf_sdel {m : Sparse α} (a : Nat) (h : swf d m = true) : swf d (sdel m a) = true := by
  induction m with
  | nil => rfl
  | cons p m ih =>
    obtain ⟨k, v⟩ := p
    simp only [swf, Bool.and_eq_true, decide_eq_true_eq] at h
    by_cases hk : k = a
    · simp [sdel, hk, ih h.2]
    · simp only [sdel, hk, if_false, swf, Bool.and_eq_true, decide_eq_true_eq]
      exact ⟨⟨sabove_sdel a h.1.1, h.1.2⟩, ih h.2⟩

theorem swf_sins {m : Sparse α} {a : Nat} {x : α} (h : swf d m = true) (hx : x ≠ d a) :
    swf d (sins (sdel m a) a x) = true := by
  induction m with
  | nil => simp [sdel, sins, swf, sabove, hx]
  | cons p m ih =>
    obtain ⟨k, v⟩ := p
    have h0 := h
    simp only [swf, Bool.and_eq_true, decide_eq_true_eq] at h
    by_cases hk : k = a
    · simp only [sdel, hk, if_true]
      exact ih h.2
    · simp only [sdel, hk, if_false, sins]
      by_cases hlt : a < k
      · simp only [hlt, if_true, swf, sabove, Bool.and_eq_true, decide_eq_true_eq]
        exact ⟨⟨⟨trivial, sabove_mono (sabove_sdel a h.1.1) (by omega)⟩, hx⟩,
          ⟨sabove_sdel a h.1.1, h.1.2⟩, swf_sdel d a h.2⟩
      · simp only [hlt, if_false, swf, Bool.and_eq_true, decide_eq_true_eq]
        exact ⟨⟨sabove_sins x (sabove_sdel a h.1.1) (by omega), h.1.2⟩, ih h.2⟩

/-- A write keeps the canonical form. -/
theorem swf_sset {m : Sparse α} (a : Nat) (x : α) (h : swf d m = true) : swf d (sset d m a x) = true := by
  unfold sset
  by_cases hx : x = d a
  · simp only [hx, if_true]
    exact swf_sdel d a h
  · simp only [hx, if_false]
    exact swf_sins d h hx

theorem swf_skeep {m : Sparse α} (p : Nat → Bool) (h : swf d m = true) : swf d (skeep p m) = true := by
  induction m with
  | nil => rfl
  | cons q m ih =>
    obtain ⟨k, v⟩ := q
    simp only [swf, Bool.and_eq_true, decide_eq_true_eq] at h
    by_cases hp : p k = true
    · simp only [skeep, hp, if_true, swf, Bool.and_eq_true, decide_eq_true_eq]
      exact ⟨⟨sabove_skeep p h.1.1, h.1.2⟩, ih h.2⟩
    · simp [skeep, hp, ih h.2]

theorem swf_ssets (xs : List α) {m : Sparse α} (a : Nat) (h : swf d m = true) : swf d (ssets d m a xs) = true := by
  induction xs generalizing m a with
  | nil => exact h
  | cons x xs ih => exact ih _ (swf_sset d a x h)

end Sys2Proof.Machine
end

