-- ==== Sys2Proof/Laws/State.lean ====
section
/-! SUPPORT. What each named update of the state leaves alone: one lemma for each update and each field, so that no
proof unfolds a record update. -/

namespace Sys2Proof.Machine

/-! ### put -/

@[simp] theorem State.put_pending (s : State) (a v : Nat) : (s.put a v).pending = s.pending := (rfl)
@[simp] theorem State.put_pend (s : State) (a v : Nat) : (s.put a v).pend = s.pend := (rfl)
@[simp] theorem State.put_comp (s : State) (a v : Nat) : (s.put a v).comp = s.comp := (rfl)
@[simp] theorem State.put_strm (s : State) (a v : Nat) : (s.put a v).strm = s.strm := (rfl)
@[simp] theorem State.put_actv (s : State) (a v : Nat) : (s.put a v).actv = s.actv := (rfl)
@[simp] theorem State.put_dram (s : State) (a v : Nat) : (s.put a v).dram = s.dram := (rfl)
@[simp] theorem State.put_tb (s : State) (a v : Nat) : (s.put a v).tb = s.tb := (rfl)
@[simp] theorem State.put_evr (s : State) (a v : Nat) : (s.put a v).evr = s.evr := (rfl)
@[simp] theorem State.put_mbx (s : State) (a v : Nat) : (s.put a v).mbx = s.mbx := (rfl)
@[simp] theorem State.put_sys (s : State) (a v : Nat) : (s.put a v).sys = s.sys := (rfl)
@[simp] theorem State.put_rst (s : State) (a v : Nat) : (s.put a v).rst = s.rst := (rfl)
@[simp] theorem State.put_aon (s : State) (a v : Nat) : (s.put a v).aon = s.aon := (rfl)
@[simp] theorem State.put_pins (s : State) (a v : Nat) : (s.put a v).pins = s.pins := (rfl)
@[simp] theorem State.put_csi (s : State) (a v : Nat) : (s.put a v).csi = s.csi := (rfl)
@[simp] theorem State.put_lec (s : State) (a v : Nat) : (s.put a v).lec = s.lec := (rfl)
@[simp] theorem State.put_dmc (s : State) (a v : Nat) : (s.put a v).dmc = s.dmc := (rfl)
@[simp] theorem State.put_cal (s : State) (a v : Nat) : (s.put a v).cal = s.cal := (rfl)
@[simp] theorem State.put_tap (s : State) (a v : Nat) : (s.put a v).tap = s.tap := (rfl)
@[simp] theorem State.put_fw (s : State) (a v : Nat) : (s.put a v).fw = s.fw := (rfl)
@[simp] theorem State.put_requests (s : State) (a v : Nat) : (s.put a v).requests = s.requests := (rfl)
@[simp] theorem State.put_free (s : State) (a v : Nat) : (s.put a v).free = s.free := (rfl)

/-! ### wr -/

@[simp] theorem State.wr_pending (s : State) (f : Fld) (v : Nat) : (s.wr f v).pending = s.pending := by simp [State.wr]
@[simp] theorem State.wr_pend (s : State) (f : Fld) (v : Nat) : (s.wr f v).pend = s.pend := by simp [State.wr]
@[simp] theorem State.wr_comp (s : State) (f : Fld) (v : Nat) : (s.wr f v).comp = s.comp := by simp [State.wr]
@[simp] theorem State.wr_strm (s : State) (f : Fld) (v : Nat) : (s.wr f v).strm = s.strm := by simp [State.wr]
@[simp] theorem State.wr_actv (s : State) (f : Fld) (v : Nat) : (s.wr f v).actv = s.actv := by simp [State.wr]
@[simp] theorem State.wr_dram (s : State) (f : Fld) (v : Nat) : (s.wr f v).dram = s.dram := by simp [State.wr]
@[simp] theorem State.wr_tb (s : State) (f : Fld) (v : Nat) : (s.wr f v).tb = s.tb := by simp [State.wr]
@[simp] theorem State.wr_evr (s : State) (f : Fld) (v : Nat) : (s.wr f v).evr = s.evr := by simp [State.wr]
@[simp] theorem State.wr_mbx (s : State) (f : Fld) (v : Nat) : (s.wr f v).mbx = s.mbx := by simp [State.wr]
@[simp] theorem State.wr_sys (s : State) (f : Fld) (v : Nat) : (s.wr f v).sys = s.sys := by simp [State.wr]
@[simp] theorem State.wr_rst (s : State) (f : Fld) (v : Nat) : (s.wr f v).rst = s.rst := by simp [State.wr]
@[simp] theorem State.wr_aon (s : State) (f : Fld) (v : Nat) : (s.wr f v).aon = s.aon := by simp [State.wr]
@[simp] theorem State.wr_pins (s : State) (f : Fld) (v : Nat) : (s.wr f v).pins = s.pins := by simp [State.wr]
@[simp] theorem State.wr_csi (s : State) (f : Fld) (v : Nat) : (s.wr f v).csi = s.csi := by simp [State.wr]
@[simp] theorem State.wr_lec (s : State) (f : Fld) (v : Nat) : (s.wr f v).lec = s.lec := by simp [State.wr]
@[simp] theorem State.wr_dmc (s : State) (f : Fld) (v : Nat) : (s.wr f v).dmc = s.dmc := by simp [State.wr]
@[simp] theorem State.wr_cal (s : State) (f : Fld) (v : Nat) : (s.wr f v).cal = s.cal := by simp [State.wr]
@[simp] theorem State.wr_tap (s : State) (f : Fld) (v : Nat) : (s.wr f v).tap = s.tap := by simp [State.wr]
@[simp] theorem State.wr_fw (s : State) (f : Fld) (v : Nat) : (s.wr f v).fw = s.fw := by simp [State.wr]
@[simp] theorem State.wr_requests (s : State) (f : Fld) (v : Nat) : (s.wr f v).requests = s.requests := by simp [State.wr]
@[simp] theorem State.wr_free (s : State) (f : Fld) (v : Nat) : (s.wr f v).free = s.free := by simp [State.wr]

/-! ### wrB -/

@[simp] theorem State.wrB_pending (s : State) (f : Fld) (b : Bool) : (s.wrB f b).pending = s.pending := by simp [State.wrB]
@[simp] theorem State.wrB_pend (s : State) (f : Fld) (b : Bool) : (s.wrB f b).pend = s.pend := by simp [State.wrB]
@[simp] theorem State.wrB_comp (s : State) (f : Fld) (b : Bool) : (s.wrB f b).comp = s.comp := by simp [State.wrB]
@[simp] theorem State.wrB_strm (s : State) (f : Fld) (b : Bool) : (s.wrB f b).strm = s.strm := by simp [State.wrB]
@[simp] theorem State.wrB_actv (s : State) (f : Fld) (b : Bool) : (s.wrB f b).actv = s.actv := by simp [State.wrB]
@[simp] theorem State.wrB_dram (s : State) (f : Fld) (b : Bool) : (s.wrB f b).dram = s.dram := by simp [State.wrB]
@[simp] theorem State.wrB_tb (s : State) (f : Fld) (b : Bool) : (s.wrB f b).tb = s.tb := by simp [State.wrB]
@[simp] theorem State.wrB_evr (s : State) (f : Fld) (b : Bool) : (s.wrB f b).evr = s.evr := by simp [State.wrB]
@[simp] theorem State.wrB_mbx (s : State) (f : Fld) (b : Bool) : (s.wrB f b).mbx = s.mbx := by simp [State.wrB]
@[simp] theorem State.wrB_sys (s : State) (f : Fld) (b : Bool) : (s.wrB f b).sys = s.sys := by simp [State.wrB]
@[simp] theorem State.wrB_rst (s : State) (f : Fld) (b : Bool) : (s.wrB f b).rst = s.rst := by simp [State.wrB]
@[simp] theorem State.wrB_aon (s : State) (f : Fld) (b : Bool) : (s.wrB f b).aon = s.aon := by simp [State.wrB]
@[simp] theorem State.wrB_pins (s : State) (f : Fld) (b : Bool) : (s.wrB f b).pins = s.pins := by simp [State.wrB]
@[simp] theorem State.wrB_csi (s : State) (f : Fld) (b : Bool) : (s.wrB f b).csi = s.csi := by simp [State.wrB]
@[simp] theorem State.wrB_lec (s : State) (f : Fld) (b : Bool) : (s.wrB f b).lec = s.lec := by simp [State.wrB]
@[simp] theorem State.wrB_dmc (s : State) (f : Fld) (b : Bool) : (s.wrB f b).dmc = s.dmc := by simp [State.wrB]
@[simp] theorem State.wrB_cal (s : State) (f : Fld) (b : Bool) : (s.wrB f b).cal = s.cal := by simp [State.wrB]
@[simp] theorem State.wrB_tap (s : State) (f : Fld) (b : Bool) : (s.wrB f b).tap = s.tap := by simp [State.wrB]
@[simp] theorem State.wrB_fw (s : State) (f : Fld) (b : Bool) : (s.wrB f b).fw = s.fw := by simp [State.wrB]
@[simp] theorem State.wrB_requests (s : State) (f : Fld) (b : Bool) : (s.wrB f b).requests = s.requests := by simp [State.wrB]
@[simp] theorem State.wrB_free (s : State) (f : Fld) (b : Bool) : (s.wrB f b).free = s.free := by simp [State.wrB]

/-! ### incSat -/

@[simp] theorem State.incSat_pending (s : State) (f : Fld) : (s.incSat f).pending = s.pending := by simp [State.incSat]
@[simp] theorem State.incSat_pend (s : State) (f : Fld) : (s.incSat f).pend = s.pend := by simp [State.incSat]
@[simp] theorem State.incSat_comp (s : State) (f : Fld) : (s.incSat f).comp = s.comp := by simp [State.incSat]
@[simp] theorem State.incSat_strm (s : State) (f : Fld) : (s.incSat f).strm = s.strm := by simp [State.incSat]
@[simp] theorem State.incSat_actv (s : State) (f : Fld) : (s.incSat f).actv = s.actv := by simp [State.incSat]
@[simp] theorem State.incSat_dram (s : State) (f : Fld) : (s.incSat f).dram = s.dram := by simp [State.incSat]
@[simp] theorem State.incSat_tb (s : State) (f : Fld) : (s.incSat f).tb = s.tb := by simp [State.incSat]
@[simp] theorem State.incSat_evr (s : State) (f : Fld) : (s.incSat f).evr = s.evr := by simp [State.incSat]
@[simp] theorem State.incSat_mbx (s : State) (f : Fld) : (s.incSat f).mbx = s.mbx := by simp [State.incSat]
@[simp] theorem State.incSat_sys (s : State) (f : Fld) : (s.incSat f).sys = s.sys := by simp [State.incSat]
@[simp] theorem State.incSat_rst (s : State) (f : Fld) : (s.incSat f).rst = s.rst := by simp [State.incSat]
@[simp] theorem State.incSat_aon (s : State) (f : Fld) : (s.incSat f).aon = s.aon := by simp [State.incSat]
@[simp] theorem State.incSat_pins (s : State) (f : Fld) : (s.incSat f).pins = s.pins := by simp [State.incSat]
@[simp] theorem State.incSat_csi (s : State) (f : Fld) : (s.incSat f).csi = s.csi := by simp [State.incSat]
@[simp] theorem State.incSat_lec (s : State) (f : Fld) : (s.incSat f).lec = s.lec := by simp [State.incSat]
@[simp] theorem State.incSat_dmc (s : State) (f : Fld) : (s.incSat f).dmc = s.dmc := by simp [State.incSat]
@[simp] theorem State.incSat_cal (s : State) (f : Fld) : (s.incSat f).cal = s.cal := by simp [State.incSat]
@[simp] theorem State.incSat_tap (s : State) (f : Fld) : (s.incSat f).tap = s.tap := by simp [State.incSat]
@[simp] theorem State.incSat_fw (s : State) (f : Fld) : (s.incSat f).fw = s.fw := by simp [State.incSat]
@[simp] theorem State.incSat_requests (s : State) (f : Fld) : (s.incSat f).requests = s.requests := by simp [State.incSat]
@[simp] theorem State.incSat_free (s : State) (f : Fld) : (s.incSat f).free = s.free := by simp [State.incSat]

/-! ### addSat -/

@[simp] theorem State.addSat_pending (s : State) (f : Fld) (k : Nat) : (s.addSat f k).pending = s.pending := by simp [State.addSat]
@[simp] theorem State.addSat_pend (s : State) (f : Fld) (k : Nat) : (s.addSat f k).pend = s.pend := by simp [State.addSat]
@[simp] theorem State.addSat_comp (s : State) (f : Fld) (k : Nat) : (s.addSat f k).comp = s.comp := by simp [State.addSat]
@[simp] theorem State.addSat_strm (s : State) (f : Fld) (k : Nat) : (s.addSat f k).strm = s.strm := by simp [State.addSat]
@[simp] theorem State.addSat_actv (s : State) (f : Fld) (k : Nat) : (s.addSat f k).actv = s.actv := by simp [State.addSat]
@[simp] theorem State.addSat_dram (s : State) (f : Fld) (k : Nat) : (s.addSat f k).dram = s.dram := by simp [State.addSat]
@[simp] theorem State.addSat_tb (s : State) (f : Fld) (k : Nat) : (s.addSat f k).tb = s.tb := by simp [State.addSat]
@[simp] theorem State.addSat_evr (s : State) (f : Fld) (k : Nat) : (s.addSat f k).evr = s.evr := by simp [State.addSat]
@[simp] theorem State.addSat_mbx (s : State) (f : Fld) (k : Nat) : (s.addSat f k).mbx = s.mbx := by simp [State.addSat]
@[simp] theorem State.addSat_sys (s : State) (f : Fld) (k : Nat) : (s.addSat f k).sys = s.sys := by simp [State.addSat]
@[simp] theorem State.addSat_rst (s : State) (f : Fld) (k : Nat) : (s.addSat f k).rst = s.rst := by simp [State.addSat]
@[simp] theorem State.addSat_aon (s : State) (f : Fld) (k : Nat) : (s.addSat f k).aon = s.aon := by simp [State.addSat]
@[simp] theorem State.addSat_pins (s : State) (f : Fld) (k : Nat) : (s.addSat f k).pins = s.pins := by simp [State.addSat]
@[simp] theorem State.addSat_csi (s : State) (f : Fld) (k : Nat) : (s.addSat f k).csi = s.csi := by simp [State.addSat]
@[simp] theorem State.addSat_lec (s : State) (f : Fld) (k : Nat) : (s.addSat f k).lec = s.lec := by simp [State.addSat]
@[simp] theorem State.addSat_dmc (s : State) (f : Fld) (k : Nat) : (s.addSat f k).dmc = s.dmc := by simp [State.addSat]
@[simp] theorem State.addSat_cal (s : State) (f : Fld) (k : Nat) : (s.addSat f k).cal = s.cal := by simp [State.addSat]
@[simp] theorem State.addSat_tap (s : State) (f : Fld) (k : Nat) : (s.addSat f k).tap = s.tap := by simp [State.addSat]
@[simp] theorem State.addSat_fw (s : State) (f : Fld) (k : Nat) : (s.addSat f k).fw = s.fw := by simp [State.addSat]
@[simp] theorem State.addSat_requests (s : State) (f : Fld) (k : Nat) : (s.addSat f k).requests = s.requests := by simp [State.addSat]
@[simp] theorem State.addSat_free (s : State) (f : Fld) (k : Nat) : (s.addSat f k).free = s.free := by simp [State.addSat]

/-! ### incWrap -/

@[simp] theorem State.incWrap_pending (s : State) (f : Fld) : (s.incWrap f).pending = s.pending := by simp [State.incWrap]
@[simp] theorem State.incWrap_pend (s : State) (f : Fld) : (s.incWrap f).pend = s.pend := by simp [State.incWrap]
@[simp] theorem State.incWrap_comp (s : State) (f : Fld) : (s.incWrap f).comp = s.comp := by simp [State.incWrap]
@[simp] theorem State.incWrap_strm (s : State) (f : Fld) : (s.incWrap f).strm = s.strm := by simp [State.incWrap]
@[simp] theorem State.incWrap_actv (s : State) (f : Fld) : (s.incWrap f).actv = s.actv := by simp [State.incWrap]
@[simp] theorem State.incWrap_dram (s : State) (f : Fld) : (s.incWrap f).dram = s.dram := by simp [State.incWrap]
@[simp] theorem State.incWrap_tb (s : State) (f : Fld) : (s.incWrap f).tb = s.tb := by simp [State.incWrap]
@[simp] theorem State.incWrap_evr (s : State) (f : Fld) : (s.incWrap f).evr = s.evr := by simp [State.incWrap]
@[simp] theorem State.incWrap_mbx (s : State) (f : Fld) : (s.incWrap f).mbx = s.mbx := by simp [State.incWrap]
@[simp] theorem State.incWrap_sys (s : State) (f : Fld) : (s.incWrap f).sys = s.sys := by simp [State.incWrap]
@[simp] theorem State.incWrap_rst (s : State) (f : Fld) : (s.incWrap f).rst = s.rst := by simp [State.incWrap]
@[simp] theorem State.incWrap_aon (s : State) (f : Fld) : (s.incWrap f).aon = s.aon := by simp [State.incWrap]
@[simp] theorem State.incWrap_pins (s : State) (f : Fld) : (s.incWrap f).pins = s.pins := by simp [State.incWrap]
@[simp] theorem State.incWrap_csi (s : State) (f : Fld) : (s.incWrap f).csi = s.csi := by simp [State.incWrap]
@[simp] theorem State.incWrap_lec (s : State) (f : Fld) : (s.incWrap f).lec = s.lec := by simp [State.incWrap]
@[simp] theorem State.incWrap_dmc (s : State) (f : Fld) : (s.incWrap f).dmc = s.dmc := by simp [State.incWrap]
@[simp] theorem State.incWrap_cal (s : State) (f : Fld) : (s.incWrap f).cal = s.cal := by simp [State.incWrap]
@[simp] theorem State.incWrap_tap (s : State) (f : Fld) : (s.incWrap f).tap = s.tap := by simp [State.incWrap]
@[simp] theorem State.incWrap_fw (s : State) (f : Fld) : (s.incWrap f).fw = s.fw := by simp [State.incWrap]
@[simp] theorem State.incWrap_requests (s : State) (f : Fld) : (s.incWrap f).requests = s.requests := by simp [State.incWrap]
@[simp] theorem State.incWrap_free (s : State) (f : Fld) : (s.incWrap f).free = s.free := by simp [State.incWrap]

/-! ### dwrite -/

@[simp] theorem State.dwrite_pending (s : State) (a : Nat) (bs : List Byte) : (s.dwrite a bs).pending = s.pending := (rfl)
@[simp] theorem State.dwrite_regs (s : State) (a : Nat) (bs : List Byte) : (s.dwrite a bs).regs = s.regs := (rfl)
@[simp] theorem State.dwrite_pend (s : State) (a : Nat) (bs : List Byte) : (s.dwrite a bs).pend = s.pend := (rfl)
@[simp] theorem State.dwrite_comp (s : State) (a : Nat) (bs : List Byte) : (s.dwrite a bs).comp = s.comp := (rfl)
@[simp] theorem State.dwrite_strm (s : State) (a : Nat) (bs : List Byte) : (s.dwrite a bs).strm = s.strm := (rfl)
@[simp] theorem State.dwrite_actv (s : State) (a : Nat) (bs : List Byte) : (s.dwrite a bs).actv = s.actv := (rfl)
@[simp] theorem State.dwrite_tb (s : State) (a : Nat) (bs : List Byte) : (s.dwrite a bs).tb = s.tb := (rfl)
@[simp] theorem State.dwrite_evr (s : State) (a : Nat) (bs : List Byte) : (s.dwrite a bs).evr = s.evr := (rfl)
@[simp] theorem State.dwrite_mbx (s : State) (a : Nat) (bs : List Byte) : (s.dwrite a bs).mbx = s.mbx := (rfl)
@[simp] theorem State.dwrite_sys (s : State) (a : Nat) (bs : List Byte) : (s.dwrite a bs).sys = s.sys := (rfl)
@[simp] theorem State.dwrite_rst (s : State) (a : Nat) (bs : List Byte) : (s.dwrite a bs).rst = s.rst := (rfl)
@[simp] theorem State.dwrite_aon (s : State) (a : Nat) (bs : List Byte) : (s.dwrite a bs).aon = s.aon := (rfl)
@[simp] theorem State.dwrite_pins (s : State) (a : Nat) (bs : List Byte) : (s.dwrite a bs).pins = s.pins := (rfl)
@[simp] theorem State.dwrite_csi (s : State) (a : Nat) (bs : List Byte) : (s.dwrite a bs).csi = s.csi := (rfl)
@[simp] theorem State.dwrite_lec (s : State) (a : Nat) (bs : List Byte) : (s.dwrite a bs).lec = s.lec := (rfl)
@[simp] theorem State.dwrite_dmc (s : State) (a : Nat) (bs : List Byte) : (s.dwrite a bs).dmc = s.dmc := (rfl)
@[simp] theorem State.dwrite_cal (s : State) (a : Nat) (bs : List Byte) : (s.dwrite a bs).cal = s.cal := (rfl)
@[simp] theorem State.dwrite_tap (s : State) (a : Nat) (bs : List Byte) : (s.dwrite a bs).tap = s.tap := (rfl)
@[simp] theorem State.dwrite_fw (s : State) (a : Nat) (bs : List Byte) : (s.dwrite a bs).fw = s.fw := (rfl)
@[simp] theorem State.dwrite_requests (s : State) (a : Nat) (bs : List Byte) : (s.dwrite a bs).requests = s.requests := (rfl)
@[simp] theorem State.dwrite_free (s : State) (a : Nat) (bs : List Byte) : (s.dwrite a bs).free = s.free := (rfl)

/-! ### modEvr -/

@[simp] theorem State.modEvr_pending (s : State) (g : Evr → Evr) : (s.modEvr g).pending = s.pending := (rfl)
@[simp] theorem State.modEvr_regs (s : State) (g : Evr → Evr) : (s.modEvr g).regs = s.regs := (rfl)
@[simp] theorem State.modEvr_pend (s : State) (g : Evr → Evr) : (s.modEvr g).pend = s.pend := (rfl)
@[simp] theorem State.modEvr_comp (s : State) (g : Evr → Evr) : (s.modEvr g).comp = s.comp := (rfl)
@[simp] theorem State.modEvr_strm (s : State) (g : Evr → Evr) : (s.modEvr g).strm = s.strm := (rfl)
@[simp] theorem State.modEvr_actv (s : State) (g : Evr → Evr) : (s.modEvr g).actv = s.actv := (rfl)
@[simp] theorem State.modEvr_dram (s : State) (g : Evr → Evr) : (s.modEvr g).dram = s.dram := (rfl)
@[simp] theorem State.modEvr_tb (s : State) (g : Evr → Evr) : (s.modEvr g).tb = s.tb := (rfl)
@[simp] theorem State.modEvr_mbx (s : State) (g : Evr → Evr) : (s.modEvr g).mbx = s.mbx := (rfl)
@[simp] theorem State.modEvr_sys (s : State) (g : Evr → Evr) : (s.modEvr g).sys = s.sys := (rfl)
@[simp] theorem State.modEvr_rst (s : State) (g : Evr → Evr) : (s.modEvr g).rst = s.rst := (rfl)
@[simp] theorem State.modEvr_aon (s : State) (g : Evr → Evr) : (s.modEvr g).aon = s.aon := (rfl)
@[simp] theorem State.modEvr_pins (s : State) (g : Evr → Evr) : (s.modEvr g).pins = s.pins := (rfl)
@[simp] theorem State.modEvr_csi (s : State) (g : Evr → Evr) : (s.modEvr g).csi = s.csi := (rfl)
@[simp] theorem State.modEvr_lec (s : State) (g : Evr → Evr) : (s.modEvr g).lec = s.lec := (rfl)
@[simp] theorem State.modEvr_dmc (s : State) (g : Evr → Evr) : (s.modEvr g).dmc = s.dmc := (rfl)
@[simp] theorem State.modEvr_cal (s : State) (g : Evr → Evr) : (s.modEvr g).cal = s.cal := (rfl)
@[simp] theorem State.modEvr_tap (s : State) (g : Evr → Evr) : (s.modEvr g).tap = s.tap := (rfl)
@[simp] theorem State.modEvr_fw (s : State) (g : Evr → Evr) : (s.modEvr g).fw = s.fw := (rfl)
@[simp] theorem State.modEvr_requests (s : State) (g : Evr → Evr) : (s.modEvr g).requests = s.requests := (rfl)
@[simp] theorem State.modEvr_free (s : State) (g : Evr → Evr) : (s.modEvr g).free = s.free := (rfl)

/-! ### modMbx -/

@[simp] theorem State.modMbx_pending (s : State) (g : Mbx → Mbx) : (s.modMbx g).pending = s.pending := (rfl)
@[simp] theorem State.modMbx_regs (s : State) (g : Mbx → Mbx) : (s.modMbx g).regs = s.regs := (rfl)
@[simp] theorem State.modMbx_pend (s : State) (g : Mbx → Mbx) : (s.modMbx g).pend = s.pend := (rfl)
@[simp] theorem State.modMbx_comp (s : State) (g : Mbx → Mbx) : (s.modMbx g).comp = s.comp := (rfl)
@[simp] theorem State.modMbx_strm (s : State) (g : Mbx → Mbx) : (s.modMbx g).strm = s.strm := (rfl)
@[simp] theorem State.modMbx_actv (s : State) (g : Mbx → Mbx) : (s.modMbx g).actv = s.actv := (rfl)
@[simp] theorem State.modMbx_dram (s : State) (g : Mbx → Mbx) : (s.modMbx g).dram = s.dram := (rfl)
@[simp] theorem State.modMbx_tb (s : State) (g : Mbx → Mbx) : (s.modMbx g).tb = s.tb := (rfl)
@[simp] theorem State.modMbx_evr (s : State) (g : Mbx → Mbx) : (s.modMbx g).evr = s.evr := (rfl)
@[simp] theorem State.modMbx_sys (s : State) (g : Mbx → Mbx) : (s.modMbx g).sys = s.sys := (rfl)
@[simp] theorem State.modMbx_rst (s : State) (g : Mbx → Mbx) : (s.modMbx g).rst = s.rst := (rfl)
@[simp] theorem State.modMbx_aon (s : State) (g : Mbx → Mbx) : (s.modMbx g).aon = s.aon := (rfl)
@[simp] theorem State.modMbx_pins (s : State) (g : Mbx → Mbx) : (s.modMbx g).pins = s.pins := (rfl)
@[simp] theorem State.modMbx_csi (s : State) (g : Mbx → Mbx) : (s.modMbx g).csi = s.csi := (rfl)
@[simp] theorem State.modMbx_lec (s : State) (g : Mbx → Mbx) : (s.modMbx g).lec = s.lec := (rfl)
@[simp] theorem State.modMbx_dmc (s : State) (g : Mbx → Mbx) : (s.modMbx g).dmc = s.dmc := (rfl)
@[simp] theorem State.modMbx_cal (s : State) (g : Mbx → Mbx) : (s.modMbx g).cal = s.cal := (rfl)
@[simp] theorem State.modMbx_tap (s : State) (g : Mbx → Mbx) : (s.modMbx g).tap = s.tap := (rfl)
@[simp] theorem State.modMbx_fw (s : State) (g : Mbx → Mbx) : (s.modMbx g).fw = s.fw := (rfl)
@[simp] theorem State.modMbx_requests (s : State) (g : Mbx → Mbx) : (s.modMbx g).requests = s.requests := (rfl)
@[simp] theorem State.modMbx_free (s : State) (g : Mbx → Mbx) : (s.modMbx g).free = s.free := (rfl)

/-! ### modSys -/

@[simp] theorem State.modSys_pending (s : State) (g : Sys → Sys) : (s.modSys g).pending = s.pending := (rfl)
@[simp] theorem State.modSys_regs (s : State) (g : Sys → Sys) : (s.modSys g).regs = s.regs := (rfl)
@[simp] theorem State.modSys_pend (s : State) (g : Sys → Sys) : (s.modSys g).pend = s.pend := (rfl)
@[simp] theorem State.modSys_comp (s : State) (g : Sys → Sys) : (s.modSys g).comp = s.comp := (rfl)
@[simp] theorem State.modSys_strm (s : State) (g : Sys → Sys) : (s.modSys g).strm = s.strm := (rfl)
@[simp] theorem State.modSys_actv (s : State) (g : Sys → Sys) : (s.modSys g).actv = s.actv := (rfl)
@[simp] theorem State.modSys_dram (s : State) (g : Sys → Sys) : (s.modSys g).dram = s.dram := (rfl)
@[simp] theorem State.modSys_tb (s : State) (g : Sys → Sys) : (s.modSys g).tb = s.tb := (rfl)
@[simp] theorem State.modSys_evr (s : State) (g : Sys → Sys) : (s.modSys g).evr = s.evr := (rfl)
@[simp] theorem State.modSys_mbx (s : State) (g : Sys → Sys) : (s.modSys g).mbx = s.mbx := (rfl)
@[simp] theorem State.modSys_rst (s : State) (g : Sys → Sys) : (s.modSys g).rst = s.rst := (rfl)
@[simp] theorem State.modSys_aon (s : State) (g : Sys → Sys) : (s.modSys g).aon = s.aon := (rfl)
@[simp] theorem State.modSys_pins (s : State) (g : Sys → Sys) : (s.modSys g).pins = s.pins := (rfl)
@[simp] theorem State.modSys_csi (s : State) (g : Sys → Sys) : (s.modSys g).csi = s.csi := (rfl)
@[simp] theorem State.modSys_lec (s : State) (g : Sys → Sys) : (s.modSys g).lec = s.lec := (rfl)
@[simp] theorem State.modSys_dmc (s : State) (g : Sys → Sys) : (s.modSys g).dmc = s.dmc := (rfl)
@[simp] theorem State.modSys_cal (s : State) (g : Sys → Sys) : (s.modSys g).cal = s.cal := (rfl)
@[simp] theorem State.modSys_tap (s : State) (g : Sys → Sys) : (s.modSys g).tap = s.tap := (rfl)
@[simp] theorem State.modSys_fw (s : State) (g : Sys → Sys) : (s.modSys g).fw = s.fw := (rfl)
@[simp] theorem State.modSys_requests (s : State) (g : Sys → Sys) : (s.modSys g).requests = s.requests := (rfl)
@[simp] theorem State.modSys_free (s : State) (g : Sys → Sys) : (s.modSys g).free = s.free := (rfl)

/-! ### modRst -/

@[simp] theorem State.modRst_pending (s : State) (g : Rst → Rst) : (s.modRst g).pending = s.pending := (rfl)
@[simp] theorem State.modRst_regs (s : State) (g : Rst → Rst) : (s.modRst g).regs = s.regs := (rfl)
@[simp] theorem State.modRst_pend (s : State) (g : Rst → Rst) : (s.modRst g).pend = s.pend := (rfl)
@[simp] theorem State.modRst_comp (s : State) (g : Rst → Rst) : (s.modRst g).comp = s.comp := (rfl)
@[simp] theorem State.modRst_strm (s : State) (g : Rst → Rst) : (s.modRst g).strm = s.strm := (rfl)
@[simp] theorem State.modRst_actv (s : State) (g : Rst → Rst) : (s.modRst g).actv = s.actv := (rfl)
@[simp] theorem State.modRst_dram (s : State) (g : Rst → Rst) : (s.modRst g).dram = s.dram := (rfl)
@[simp] theorem State.modRst_tb (s : State) (g : Rst → Rst) : (s.modRst g).tb = s.tb := (rfl)
@[simp] theorem State.modRst_evr (s : State) (g : Rst → Rst) : (s.modRst g).evr = s.evr := (rfl)
@[simp] theorem State.modRst_mbx (s : State) (g : Rst → Rst) : (s.modRst g).mbx = s.mbx := (rfl)
@[simp] theorem State.modRst_sys (s : State) (g : Rst → Rst) : (s.modRst g).sys = s.sys := (rfl)
@[simp] theorem State.modRst_aon (s : State) (g : Rst → Rst) : (s.modRst g).aon = s.aon := (rfl)
@[simp] theorem State.modRst_pins (s : State) (g : Rst → Rst) : (s.modRst g).pins = s.pins := (rfl)
@[simp] theorem State.modRst_csi (s : State) (g : Rst → Rst) : (s.modRst g).csi = s.csi := (rfl)
@[simp] theorem State.modRst_lec (s : State) (g : Rst → Rst) : (s.modRst g).lec = s.lec := (rfl)
@[simp] theorem State.modRst_dmc (s : State) (g : Rst → Rst) : (s.modRst g).dmc = s.dmc := (rfl)
@[simp] theorem State.modRst_cal (s : State) (g : Rst → Rst) : (s.modRst g).cal = s.cal := (rfl)
@[simp] theorem State.modRst_tap (s : State) (g : Rst → Rst) : (s.modRst g).tap = s.tap := (rfl)
@[simp] theorem State.modRst_fw (s : State) (g : Rst → Rst) : (s.modRst g).fw = s.fw := (rfl)
@[simp] theorem State.modRst_requests (s : State) (g : Rst → Rst) : (s.modRst g).requests = s.requests := (rfl)
@[simp] theorem State.modRst_free (s : State) (g : Rst → Rst) : (s.modRst g).free = s.free := (rfl)

/-! ### modAon -/

@[simp] theorem State.modAon_pending (s : State) (g : Aon → Aon) : (s.modAon g).pending = s.pending := (rfl)
@[simp] theorem State.modAon_regs (s : State) (g : Aon → Aon) : (s.modAon g).regs = s.regs := (rfl)
@[simp] theorem State.modAon_pend (s : State) (g : Aon → Aon) : (s.modAon g).pend = s.pend := (rfl)
@[simp] theorem State.modAon_comp (s : State) (g : Aon → Aon) : (s.modAon g).comp = s.comp := (rfl)
@[simp] theorem State.modAon_strm (s : State) (g : Aon → Aon) : (s.modAon g).strm = s.strm := (rfl)
@[simp] theorem State.modAon_actv (s : State) (g : Aon → Aon) : (s.modAon g).actv = s.actv := (rfl)
@[simp] theorem State.modAon_dram (s : State) (g : Aon → Aon) : (s.modAon g).dram = s.dram := (rfl)
@[simp] theorem State.modAon_tb (s : State) (g : Aon → Aon) : (s.modAon g).tb = s.tb := (rfl)
@[simp] theorem State.modAon_evr (s : State) (g : Aon → Aon) : (s.modAon g).evr = s.evr := (rfl)
@[simp] theorem State.modAon_mbx (s : State) (g : Aon → Aon) : (s.modAon g).mbx = s.mbx := (rfl)
@[simp] theorem State.modAon_sys (s : State) (g : Aon → Aon) : (s.modAon g).sys = s.sys := (rfl)
@[simp] theorem State.modAon_rst (s : State) (g : Aon → Aon) : (s.modAon g).rst = s.rst := (rfl)
@[simp] theorem State.modAon_pins (s : State) (g : Aon → Aon) : (s.modAon g).pins = s.pins := (rfl)
@[simp] theorem State.modAon_csi (s : State) (g : Aon → Aon) : (s.modAon g).csi = s.csi := (rfl)
@[simp] theorem State.modAon_lec (s : State) (g : Aon → Aon) : (s.modAon g).lec = s.lec := (rfl)
@[simp] theorem State.modAon_dmc (s : State) (g : Aon → Aon) : (s.modAon g).dmc = s.dmc := (rfl)
@[simp] theorem State.modAon_cal (s : State) (g : Aon → Aon) : (s.modAon g).cal = s.cal := (rfl)
@[simp] theorem State.modAon_tap (s : State) (g : Aon → Aon) : (s.modAon g).tap = s.tap := (rfl)
@[simp] theorem State.modAon_fw (s : State) (g : Aon → Aon) : (s.modAon g).fw = s.fw := (rfl)
@[simp] theorem State.modAon_requests (s : State) (g : Aon → Aon) : (s.modAon g).requests = s.requests := (rfl)
@[simp] theorem State.modAon_free (s : State) (g : Aon → Aon) : (s.modAon g).free = s.free := (rfl)

/-! ### modPins -/

@[simp] theorem State.modPins_pending (s : State) (g : Pins → Pins) : (s.modPins g).pending = s.pending := (rfl)
@[simp] theorem State.modPins_regs (s : State) (g : Pins → Pins) : (s.modPins g).regs = s.regs := (rfl)
@[simp] theorem State.modPins_pend (s : State) (g : Pins → Pins) : (s.modPins g).pend = s.pend := (rfl)
@[simp] theorem State.modPins_comp (s : State) (g : Pins → Pins) : (s.modPins g).comp = s.comp := (rfl)
@[simp] theorem State.modPins_strm (s : State) (g : Pins → Pins) : (s.modPins g).strm = s.strm := (rfl)
@[simp] theorem State.modPins_actv (s : State) (g : Pins → Pins) : (s.modPins g).actv = s.actv := (rfl)
@[simp] theorem State.modPins_dram (s : State) (g : Pins → Pins) : (s.modPins g).dram = s.dram := (rfl)
@[simp] theorem State.modPins_tb (s : State) (g : Pins → Pins) : (s.modPins g).tb = s.tb := (rfl)
@[simp] theorem State.modPins_evr (s : State) (g : Pins → Pins) : (s.modPins g).evr = s.evr := (rfl)
@[simp] theorem State.modPins_mbx (s : State) (g : Pins → Pins) : (s.modPins g).mbx = s.mbx := (rfl)
@[simp] theorem State.modPins_sys (s : State) (g : Pins → Pins) : (s.modPins g).sys = s.sys := (rfl)
@[simp] theorem State.modPins_rst (s : State) (g : Pins → Pins) : (s.modPins g).rst = s.rst := (rfl)
@[simp] theorem State.modPins_aon (s : State) (g : Pins → Pins) : (s.modPins g).aon = s.aon := (rfl)
@[simp] theorem State.modPins_csi (s : State) (g : Pins → Pins) : (s.modPins g).csi = s.csi := (rfl)
@[simp] theorem State.modPins_lec (s : State) (g : Pins → Pins) : (s.modPins g).lec = s.lec := (rfl)
@[simp] theorem State.modPins_dmc (s : State) (g : Pins → Pins) : (s.modPins g).dmc = s.dmc := (rfl)
@[simp] theorem State.modPins_cal (s : State) (g : Pins → Pins) : (s.modPins g).cal = s.cal := (rfl)
@[simp] theorem State.modPins_tap (s : State) (g : Pins → Pins) : (s.modPins g).tap = s.tap := (rfl)
@[simp] theorem State.modPins_fw (s : State) (g : Pins → Pins) : (s.modPins g).fw = s.fw := (rfl)
@[simp] theorem State.modPins_requests (s : State) (g : Pins → Pins) : (s.modPins g).requests = s.requests := (rfl)
@[simp] theorem State.modPins_free (s : State) (g : Pins → Pins) : (s.modPins g).free = s.free := (rfl)

/-! ### modCal -/

@[simp] theorem State.modCal_pending (s : State) (g : CalState → CalState) : (s.modCal g).pending = s.pending := (rfl)
@[simp] theorem State.modCal_regs (s : State) (g : CalState → CalState) : (s.modCal g).regs = s.regs := (rfl)
@[simp] theorem State.modCal_pend (s : State) (g : CalState → CalState) : (s.modCal g).pend = s.pend := (rfl)
@[simp] theorem State.modCal_comp (s : State) (g : CalState → CalState) : (s.modCal g).comp = s.comp := (rfl)
@[simp] theorem State.modCal_strm (s : State) (g : CalState → CalState) : (s.modCal g).strm = s.strm := (rfl)
@[simp] theorem State.modCal_actv (s : State) (g : CalState → CalState) : (s.modCal g).actv = s.actv := (rfl)
@[simp] theorem State.modCal_dram (s : State) (g : CalState → CalState) : (s.modCal g).dram = s.dram := (rfl)
@[simp] theorem State.modCal_tb (s : State) (g : CalState → CalState) : (s.modCal g).tb = s.tb := (rfl)
@[simp] theorem State.modCal_evr (s : State) (g : CalState → CalState) : (s.modCal g).evr = s.evr := (rfl)
@[simp] theorem State.modCal_mbx (s : State) (g : CalState → CalState) : (s.modCal g).mbx = s.mbx := (rfl)
@[simp] theorem State.modCal_sys (s : State) (g : CalState → CalState) : (s.modCal g).sys = s.sys := (rfl)
@[simp] theorem State.modCal_rst (s : State) (g : CalState → CalState) : (s.modCal g).rst = s.rst := (rfl)
@[simp] theorem State.modCal_aon (s : State) (g : CalState → CalState) : (s.modCal g).aon = s.aon := (rfl)
@[simp] theorem State.modCal_pins (s : State) (g : CalState → CalState) : (s.modCal g).pins = s.pins := (rfl)
@[simp] theorem State.modCal_csi (s : State) (g : CalState → CalState) : (s.modCal g).csi = s.csi := (rfl)
@[simp] theorem State.modCal_lec (s : State) (g : CalState → CalState) : (s.modCal g).lec = s.lec := (rfl)
@[simp] theorem State.modCal_dmc (s : State) (g : CalState → CalState) : (s.modCal g).dmc = s.dmc := (rfl)
@[simp] theorem State.modCal_tap (s : State) (g : CalState → CalState) : (s.modCal g).tap = s.tap := (rfl)
@[simp] theorem State.modCal_fw (s : State) (g : CalState → CalState) : (s.modCal g).fw = s.fw := (rfl)
@[simp] theorem State.modCal_requests (s : State) (g : CalState → CalState) : (s.modCal g).requests = s.requests := (rfl)
@[simp] theorem State.modCal_free (s : State) (g : CalState → CalState) : (s.modCal g).free = s.free := (rfl)

/-! ### modTap -/

@[simp] theorem State.modTap_pending (s : State) (g : Tap → Tap) : (s.modTap g).pending = s.pending := (rfl)
@[simp] theorem State.modTap_regs (s : State) (g : Tap → Tap) : (s.modTap g).regs = s.regs := (rfl)
@[simp] theorem State.modTap_pend (s : State) (g : Tap → Tap) : (s.modTap g).pend = s.pend := (rfl)
@[simp] theorem State.modTap_comp (s : State) (g : Tap → Tap) : (s.modTap g).comp = s.comp := (rfl)
@[simp] theorem State.modTap_strm (s : State) (g : Tap → Tap) : (s.modTap g).strm = s.strm := (rfl)
@[simp] theorem State.modTap_actv (s : State) (g : Tap → Tap) : (s.modTap g).actv = s.actv := (rfl)
@[simp] theorem State.modTap_dram (s : State) (g : Tap → Tap) : (s.modTap g).dram = s.dram := (rfl)
@[simp] theorem State.modTap_tb (s : State) (g : Tap → Tap) : (s.modTap g).tb = s.tb := (rfl)
@[simp] theorem State.modTap_evr (s : State) (g : Tap → Tap) : (s.modTap g).evr = s.evr := (rfl)
@[simp] theorem State.modTap_mbx (s : State) (g : Tap → Tap) : (s.modTap g).mbx = s.mbx := (rfl)
@[simp] theorem State.modTap_sys (s : State) (g : Tap → Tap) : (s.modTap g).sys = s.sys := (rfl)
@[simp] theorem State.modTap_rst (s : State) (g : Tap → Tap) : (s.modTap g).rst = s.rst := (rfl)
@[simp] theorem State.modTap_aon (s : State) (g : Tap → Tap) : (s.modTap g).aon = s.aon := (rfl)
@[simp] theorem State.modTap_pins (s : State) (g : Tap → Tap) : (s.modTap g).pins = s.pins := (rfl)
@[simp] theorem State.modTap_csi (s : State) (g : Tap → Tap) : (s.modTap g).csi = s.csi := (rfl)
@[simp] theorem State.modTap_lec (s : State) (g : Tap → Tap) : (s.modTap g).lec = s.lec := (rfl)
@[simp] theorem State.modTap_dmc (s : State) (g : Tap → Tap) : (s.modTap g).dmc = s.dmc := (rfl)
@[simp] theorem State.modTap_cal (s : State) (g : Tap → Tap) : (s.modTap g).cal = s.cal := (rfl)
@[simp] theorem State.modTap_fw (s : State) (g : Tap → Tap) : (s.modTap g).fw = s.fw := (rfl)
@[simp] theorem State.modTap_requests (s : State) (g : Tap → Tap) : (s.modTap g).requests = s.requests := (rfl)
@[simp] theorem State.modTap_free (s : State) (g : Tap → Tap) : (s.modTap g).free = s.free := (rfl)

/-! ### modFw -/

@[simp] theorem State.modFw_pending (s : State) (g : Fw → Fw) : (s.modFw g).pending = s.pending := (rfl)
@[simp] theorem State.modFw_regs (s : State) (g : Fw → Fw) : (s.modFw g).regs = s.regs := (rfl)
@[simp] theorem State.modFw_pend (s : State) (g : Fw → Fw) : (s.modFw g).pend = s.pend := (rfl)
@[simp] theorem State.modFw_comp (s : State) (g : Fw → Fw) : (s.modFw g).comp = s.comp := (rfl)
@[simp] theorem State.modFw_strm (s : State) (g : Fw → Fw) : (s.modFw g).strm = s.strm := (rfl)
@[simp] theorem State.modFw_actv (s : State) (g : Fw → Fw) : (s.modFw g).actv = s.actv := (rfl)
@[simp] theorem State.modFw_dram (s : State) (g : Fw → Fw) : (s.modFw g).dram = s.dram := (rfl)
@[simp] theorem State.modFw_tb (s : State) (g : Fw → Fw) : (s.modFw g).tb = s.tb := (rfl)
@[simp] theorem State.modFw_evr (s : State) (g : Fw → Fw) : (s.modFw g).evr = s.evr := (rfl)
@[simp] theorem State.modFw_mbx (s : State) (g : Fw → Fw) : (s.modFw g).mbx = s.mbx := (rfl)
@[simp] theorem State.modFw_sys (s : State) (g : Fw → Fw) : (s.modFw g).sys = s.sys := (rfl)
@[simp] theorem State.modFw_rst (s : State) (g : Fw → Fw) : (s.modFw g).rst = s.rst := (rfl)
@[simp] theorem State.modFw_aon (s : State) (g : Fw → Fw) : (s.modFw g).aon = s.aon := (rfl)
@[simp] theorem State.modFw_pins (s : State) (g : Fw → Fw) : (s.modFw g).pins = s.pins := (rfl)
@[simp] theorem State.modFw_csi (s : State) (g : Fw → Fw) : (s.modFw g).csi = s.csi := (rfl)
@[simp] theorem State.modFw_lec (s : State) (g : Fw → Fw) : (s.modFw g).lec = s.lec := (rfl)
@[simp] theorem State.modFw_dmc (s : State) (g : Fw → Fw) : (s.modFw g).dmc = s.dmc := (rfl)
@[simp] theorem State.modFw_cal (s : State) (g : Fw → Fw) : (s.modFw g).cal = s.cal := (rfl)
@[simp] theorem State.modFw_tap (s : State) (g : Fw → Fw) : (s.modFw g).tap = s.tap := (rfl)
@[simp] theorem State.modFw_requests (s : State) (g : Fw → Fw) : (s.modFw g).requests = s.requests := (rfl)
@[simp] theorem State.modFw_free (s : State) (g : Fw → Fw) : (s.modFw g).free = s.free := (rfl)

/-! ### modCh -/

@[simp] theorem State.modCh_pending (s : State) (n : Fin 4) (g : Lec → Lec) : (s.modCh n g).pending = s.pending := (rfl)
@[simp] theorem State.modCh_regs (s : State) (n : Fin 4) (g : Lec → Lec) : (s.modCh n g).regs = s.regs := (rfl)
@[simp] theorem State.modCh_pend (s : State) (n : Fin 4) (g : Lec → Lec) : (s.modCh n g).pend = s.pend := (rfl)
@[simp] theorem State.modCh_comp (s : State) (n : Fin 4) (g : Lec → Lec) : (s.modCh n g).comp = s.comp := (rfl)
@[simp] theorem State.modCh_strm (s : State) (n : Fin 4) (g : Lec → Lec) : (s.modCh n g).strm = s.strm := (rfl)
@[simp] theorem State.modCh_actv (s : State) (n : Fin 4) (g : Lec → Lec) : (s.modCh n g).actv = s.actv := (rfl)
@[simp] theorem State.modCh_dram (s : State) (n : Fin 4) (g : Lec → Lec) : (s.modCh n g).dram = s.dram := (rfl)
@[simp] theorem State.modCh_tb (s : State) (n : Fin 4) (g : Lec → Lec) : (s.modCh n g).tb = s.tb := (rfl)
@[simp] theorem State.modCh_evr (s : State) (n : Fin 4) (g : Lec → Lec) : (s.modCh n g).evr = s.evr := (rfl)
@[simp] theorem State.modCh_mbx (s : State) (n : Fin 4) (g : Lec → Lec) : (s.modCh n g).mbx = s.mbx := (rfl)
@[simp] theorem State.modCh_sys (s : State) (n : Fin 4) (g : Lec → Lec) : (s.modCh n g).sys = s.sys := (rfl)
@[simp] theorem State.modCh_rst (s : State) (n : Fin 4) (g : Lec → Lec) : (s.modCh n g).rst = s.rst := (rfl)
@[simp] theorem State.modCh_aon (s : State) (n : Fin 4) (g : Lec → Lec) : (s.modCh n g).aon = s.aon := (rfl)
@[simp] theorem State.modCh_pins (s : State) (n : Fin 4) (g : Lec → Lec) : (s.modCh n g).pins = s.pins := (rfl)
@[simp] theorem State.modCh_csi (s : State) (n : Fin 4) (g : Lec → Lec) : (s.modCh n g).csi = s.csi := (rfl)
@[simp] theorem State.modCh_dmc (s : State) (n : Fin 4) (g : Lec → Lec) : (s.modCh n g).dmc = s.dmc := (rfl)
@[simp] theorem State.modCh_cal (s : State) (n : Fin 4) (g : Lec → Lec) : (s.modCh n g).cal = s.cal := (rfl)
@[simp] theorem State.modCh_tap (s : State) (n : Fin 4) (g : Lec → Lec) : (s.modCh n g).tap = s.tap := (rfl)
@[simp] theorem State.modCh_fw (s : State) (n : Fin 4) (g : Lec → Lec) : (s.modCh n g).fw = s.fw := (rfl)
@[simp] theorem State.modCh_requests (s : State) (n : Fin 4) (g : Lec → Lec) : (s.modCh n g).requests = s.requests := (rfl)
@[simp] theorem State.modCh_free (s : State) (n : Fin 4) (g : Lec → Lec) : (s.modCh n g).free = s.free := (rfl)

/-! ### modCsi -/

@[simp] theorem State.modCsi_pending (s : State) (n : Fin 2) (g : Csi → Csi) : (s.modCsi n g).pending = s.pending := (rfl)
@[simp] theorem State.modCsi_regs (s : State) (n : Fin 2) (g : Csi → Csi) : (s.modCsi n g).regs = s.regs := (rfl)
@[simp] theorem State.modCsi_pend (s : State) (n : Fin 2) (g : Csi → Csi) : (s.modCsi n g).pend = s.pend := (rfl)
@[simp] theorem State.modCsi_comp (s : State) (n : Fin 2) (g : Csi → Csi) : (s.modCsi n g).comp = s.comp := (rfl)
@[simp] theorem State.modCsi_strm (s : State) (n : Fin 2) (g : Csi → Csi) : (s.modCsi n g).strm = s.strm := (rfl)
@[simp] theorem State.modCsi_actv (s : State) (n : Fin 2) (g : Csi → Csi) : (s.modCsi n g).actv = s.actv := (rfl)
@[simp] theorem State.modCsi_dram (s : State) (n : Fin 2) (g : Csi → Csi) : (s.modCsi n g).dram = s.dram := (rfl)
@[simp] theorem State.modCsi_tb (s : State) (n : Fin 2) (g : Csi → Csi) : (s.modCsi n g).tb = s.tb := (rfl)
@[simp] theorem State.modCsi_evr (s : State) (n : Fin 2) (g : Csi → Csi) : (s.modCsi n g).evr = s.evr := (rfl)
@[simp] theorem State.modCsi_mbx (s : State) (n : Fin 2) (g : Csi → Csi) : (s.modCsi n g).mbx = s.mbx := (rfl)
@[simp] theorem State.modCsi_sys (s : State) (n : Fin 2) (g : Csi → Csi) : (s.modCsi n g).sys = s.sys := (rfl)
@[simp] theorem State.modCsi_rst (s : State) (n : Fin 2) (g : Csi → Csi) : (s.modCsi n g).rst = s.rst := (rfl)
@[simp] theorem State.modCsi_aon (s : State) (n : Fin 2) (g : Csi → Csi) : (s.modCsi n g).aon = s.aon := (rfl)
@[simp] theorem State.modCsi_pins (s : State) (n : Fin 2) (g : Csi → Csi) : (s.modCsi n g).pins = s.pins := (rfl)
@[simp] theorem State.modCsi_lec (s : State) (n : Fin 2) (g : Csi → Csi) : (s.modCsi n g).lec = s.lec := (rfl)
@[simp] theorem State.modCsi_dmc (s : State) (n : Fin 2) (g : Csi → Csi) : (s.modCsi n g).dmc = s.dmc := (rfl)
@[simp] theorem State.modCsi_cal (s : State) (n : Fin 2) (g : Csi → Csi) : (s.modCsi n g).cal = s.cal := (rfl)
@[simp] theorem State.modCsi_tap (s : State) (n : Fin 2) (g : Csi → Csi) : (s.modCsi n g).tap = s.tap := (rfl)
@[simp] theorem State.modCsi_fw (s : State) (n : Fin 2) (g : Csi → Csi) : (s.modCsi n g).fw = s.fw := (rfl)
@[simp] theorem State.modCsi_requests (s : State) (n : Fin 2) (g : Csi → Csi) : (s.modCsi n g).requests = s.requests := (rfl)
@[simp] theorem State.modCsi_free (s : State) (n : Fin 2) (g : Csi → Csi) : (s.modCsi n g).free = s.free := (rfl)

/-! ### modDmc -/

@[simp] theorem State.modDmc_pending (s : State) (n : Fin 2) (g : DmcRun → DmcRun) : (s.modDmc n g).pending = s.pending := (rfl)
@[simp] theorem State.modDmc_regs (s : State) (n : Fin 2) (g : DmcRun → DmcRun) : (s.modDmc n g).regs = s.regs := (rfl)
@[simp] theorem State.modDmc_pend (s : State) (n : Fin 2) (g : DmcRun → DmcRun) : (s.modDmc n g).pend = s.pend := (rfl)
@[simp] theorem State.modDmc_comp (s : State) (n : Fin 2) (g : DmcRun → DmcRun) : (s.modDmc n g).comp = s.comp := (rfl)
@[simp] theorem State.modDmc_strm (s : State) (n : Fin 2) (g : DmcRun → DmcRun) : (s.modDmc n g).strm = s.strm := (rfl)
@[simp] theorem State.modDmc_actv (s : State) (n : Fin 2) (g : DmcRun → DmcRun) : (s.modDmc n g).actv = s.actv := (rfl)
@[simp] theorem State.modDmc_dram (s : State) (n : Fin 2) (g : DmcRun → DmcRun) : (s.modDmc n g).dram = s.dram := (rfl)
@[simp] theorem State.modDmc_tb (s : State) (n : Fin 2) (g : DmcRun → DmcRun) : (s.modDmc n g).tb = s.tb := (rfl)
@[simp] theorem State.modDmc_evr (s : State) (n : Fin 2) (g : DmcRun → DmcRun) : (s.modDmc n g).evr = s.evr := (rfl)
@[simp] theorem State.modDmc_mbx (s : State) (n : Fin 2) (g : DmcRun → DmcRun) : (s.modDmc n g).mbx = s.mbx := (rfl)
@[simp] theorem State.modDmc_sys (s : State) (n : Fin 2) (g : DmcRun → DmcRun) : (s.modDmc n g).sys = s.sys := (rfl)
@[simp] theorem State.modDmc_rst (s : State) (n : Fin 2) (g : DmcRun → DmcRun) : (s.modDmc n g).rst = s.rst := (rfl)
@[simp] theorem State.modDmc_aon (s : State) (n : Fin 2) (g : DmcRun → DmcRun) : (s.modDmc n g).aon = s.aon := (rfl)
@[simp] theorem State.modDmc_pins (s : State) (n : Fin 2) (g : DmcRun → DmcRun) : (s.modDmc n g).pins = s.pins := (rfl)
@[simp] theorem State.modDmc_csi (s : State) (n : Fin 2) (g : DmcRun → DmcRun) : (s.modDmc n g).csi = s.csi := (rfl)
@[simp] theorem State.modDmc_lec (s : State) (n : Fin 2) (g : DmcRun → DmcRun) : (s.modDmc n g).lec = s.lec := (rfl)
@[simp] theorem State.modDmc_cal (s : State) (n : Fin 2) (g : DmcRun → DmcRun) : (s.modDmc n g).cal = s.cal := (rfl)
@[simp] theorem State.modDmc_tap (s : State) (n : Fin 2) (g : DmcRun → DmcRun) : (s.modDmc n g).tap = s.tap := (rfl)
@[simp] theorem State.modDmc_fw (s : State) (n : Fin 2) (g : DmcRun → DmcRun) : (s.modDmc n g).fw = s.fw := (rfl)
@[simp] theorem State.modDmc_requests (s : State) (n : Fin 2) (g : DmcRun → DmcRun) : (s.modDmc n g).requests = s.requests := (rfl)
@[simp] theorem State.modDmc_free (s : State) (n : Fin 2) (g : DmcRun → DmcRun) : (s.modDmc n g).free = s.free := (rfl)

/-! ### setRegs -/

@[simp] theorem State.setRegs_pending (s : State) (x : RegFile) : (s.setRegs x).pending = s.pending := (rfl)
@[simp] theorem State.setRegs_pend (s : State) (x : RegFile) : (s.setRegs x).pend = s.pend := (rfl)
@[simp] theorem State.setRegs_comp (s : State) (x : RegFile) : (s.setRegs x).comp = s.comp := (rfl)
@[simp] theorem State.setRegs_strm (s : State) (x : RegFile) : (s.setRegs x).strm = s.strm := (rfl)
@[simp] theorem State.setRegs_actv (s : State) (x : RegFile) : (s.setRegs x).actv = s.actv := (rfl)
@[simp] theorem State.setRegs_dram (s : State) (x : RegFile) : (s.setRegs x).dram = s.dram := (rfl)
@[simp] theorem State.setRegs_tb (s : State) (x : RegFile) : (s.setRegs x).tb = s.tb := (rfl)
@[simp] theorem State.setRegs_evr (s : State) (x : RegFile) : (s.setRegs x).evr = s.evr := (rfl)
@[simp] theorem State.setRegs_mbx (s : State) (x : RegFile) : (s.setRegs x).mbx = s.mbx := (rfl)
@[simp] theorem State.setRegs_sys (s : State) (x : RegFile) : (s.setRegs x).sys = s.sys := (rfl)
@[simp] theorem State.setRegs_rst (s : State) (x : RegFile) : (s.setRegs x).rst = s.rst := (rfl)
@[simp] theorem State.setRegs_aon (s : State) (x : RegFile) : (s.setRegs x).aon = s.aon := (rfl)
@[simp] theorem State.setRegs_pins (s : State) (x : RegFile) : (s.setRegs x).pins = s.pins := (rfl)
@[simp] theorem State.setRegs_csi (s : State) (x : RegFile) : (s.setRegs x).csi = s.csi := (rfl)
@[simp] theorem State.setRegs_lec (s : State) (x : RegFile) : (s.setRegs x).lec = s.lec := (rfl)
@[simp] theorem State.setRegs_dmc (s : State) (x : RegFile) : (s.setRegs x).dmc = s.dmc := (rfl)
@[simp] theorem State.setRegs_cal (s : State) (x : RegFile) : (s.setRegs x).cal = s.cal := (rfl)
@[simp] theorem State.setRegs_tap (s : State) (x : RegFile) : (s.setRegs x).tap = s.tap := (rfl)
@[simp] theorem State.setRegs_fw (s : State) (x : RegFile) : (s.setRegs x).fw = s.fw := (rfl)
@[simp] theorem State.setRegs_requests (s : State) (x : RegFile) : (s.setRegs x).requests = s.requests := (rfl)
@[simp] theorem State.setRegs_free (s : State) (x : RegFile) : (s.setRegs x).free = s.free := (rfl)

/-! ### setPend -/

@[simp] theorem State.setPend_pending (s : State) (x : RegFile) : (s.setPend x).pending = s.pending := (rfl)
@[simp] theorem State.setPend_regs (s : State) (x : RegFile) : (s.setPend x).regs = s.regs := (rfl)
@[simp] theorem State.setPend_comp (s : State) (x : RegFile) : (s.setPend x).comp = s.comp := (rfl)
@[simp] theorem State.setPend_strm (s : State) (x : RegFile) : (s.setPend x).strm = s.strm := (rfl)
@[simp] theorem State.setPend_actv (s : State) (x : RegFile) : (s.setPend x).actv = s.actv := (rfl)
@[simp] theorem State.setPend_dram (s : State) (x : RegFile) : (s.setPend x).dram = s.dram := (rfl)
@[simp] theorem State.setPend_tb (s : State) (x : RegFile) : (s.setPend x).tb = s.tb := (rfl)
@[simp] theorem State.setPend_evr (s : State) (x : RegFile) : (s.setPend x).evr = s.evr := (rfl)
@[simp] theorem State.setPend_mbx (s : State) (x : RegFile) : (s.setPend x).mbx = s.mbx := (rfl)
@[simp] theorem State.setPend_sys (s : State) (x : RegFile) : (s.setPend x).sys = s.sys := (rfl)
@[simp] theorem State.setPend_rst (s : State) (x : RegFile) : (s.setPend x).rst = s.rst := (rfl)
@[simp] theorem State.setPend_aon (s : State) (x : RegFile) : (s.setPend x).aon = s.aon := (rfl)
@[simp] theorem State.setPend_pins (s : State) (x : RegFile) : (s.setPend x).pins = s.pins := (rfl)
@[simp] theorem State.setPend_csi (s : State) (x : RegFile) : (s.setPend x).csi = s.csi := (rfl)
@[simp] theorem State.setPend_lec (s : State) (x : RegFile) : (s.setPend x).lec = s.lec := (rfl)
@[simp] theorem State.setPend_dmc (s : State) (x : RegFile) : (s.setPend x).dmc = s.dmc := (rfl)
@[simp] theorem State.setPend_cal (s : State) (x : RegFile) : (s.setPend x).cal = s.cal := (rfl)
@[simp] theorem State.setPend_tap (s : State) (x : RegFile) : (s.setPend x).tap = s.tap := (rfl)
@[simp] theorem State.setPend_fw (s : State) (x : RegFile) : (s.setPend x).fw = s.fw := (rfl)
@[simp] theorem State.setPend_requests (s : State) (x : RegFile) : (s.setPend x).requests = s.requests := (rfl)
@[simp] theorem State.setPend_free (s : State) (x : RegFile) : (s.setPend x).free = s.free := (rfl)

/-! ### setComp -/

@[simp] theorem State.setComp_pending (s : State) (x : RegFile) : (s.setComp x).pending = s.pending := (rfl)
@[simp] theorem State.setComp_regs (s : State) (x : RegFile) : (s.setComp x).regs = s.regs := (rfl)
@[simp] theorem State.setComp_pend (s : State) (x : RegFile) : (s.setComp x).pend = s.pend := (rfl)
@[simp] theorem State.setComp_strm (s : State) (x : RegFile) : (s.setComp x).strm = s.strm := (rfl)
@[simp] theorem State.setComp_actv (s : State) (x : RegFile) : (s.setComp x).actv = s.actv := (rfl)
@[simp] theorem State.setComp_dram (s : State) (x : RegFile) : (s.setComp x).dram = s.dram := (rfl)
@[simp] theorem State.setComp_tb (s : State) (x : RegFile) : (s.setComp x).tb = s.tb := (rfl)
@[simp] theorem State.setComp_evr (s : State) (x : RegFile) : (s.setComp x).evr = s.evr := (rfl)
@[simp] theorem State.setComp_mbx (s : State) (x : RegFile) : (s.setComp x).mbx = s.mbx := (rfl)
@[simp] theorem State.setComp_sys (s : State) (x : RegFile) : (s.setComp x).sys = s.sys := (rfl)
@[simp] theorem State.setComp_rst (s : State) (x : RegFile) : (s.setComp x).rst = s.rst := (rfl)
@[simp] theorem State.setComp_aon (s : State) (x : RegFile) : (s.setComp x).aon = s.aon := (rfl)
@[simp] theorem State.setComp_pins (s : State) (x : RegFile) : (s.setComp x).pins = s.pins := (rfl)
@[simp] theorem State.setComp_csi (s : State) (x : RegFile) : (s.setComp x).csi = s.csi := (rfl)
@[simp] theorem State.setComp_lec (s : State) (x : RegFile) : (s.setComp x).lec = s.lec := (rfl)
@[simp] theorem State.setComp_dmc (s : State) (x : RegFile) : (s.setComp x).dmc = s.dmc := (rfl)
@[simp] theorem State.setComp_cal (s : State) (x : RegFile) : (s.setComp x).cal = s.cal := (rfl)
@[simp] theorem State.setComp_tap (s : State) (x : RegFile) : (s.setComp x).tap = s.tap := (rfl)
@[simp] theorem State.setComp_fw (s : State) (x : RegFile) : (s.setComp x).fw = s.fw := (rfl)
@[simp] theorem State.setComp_requests (s : State) (x : RegFile) : (s.setComp x).requests = s.requests := (rfl)
@[simp] theorem State.setComp_free (s : State) (x : RegFile) : (s.setComp x).free = s.free := (rfl)

/-! ### setStrm -/

@[simp] theorem State.setStrm_pending (s : State) (x : RegFile) : (s.setStrm x).pending = s.pending := (rfl)
@[simp] theorem State.setStrm_regs (s : State) (x : RegFile) : (s.setStrm x).regs = s.regs := (rfl)
@[simp] theorem State.setStrm_pend (s : State) (x : RegFile) : (s.setStrm x).pend = s.pend := (rfl)
@[simp] theorem State.setStrm_comp (s : State) (x : RegFile) : (s.setStrm x).comp = s.comp := (rfl)
@[simp] theorem State.setStrm_actv (s : State) (x : RegFile) : (s.setStrm x).actv = s.actv := (rfl)
@[simp] theorem State.setStrm_dram (s : State) (x : RegFile) : (s.setStrm x).dram = s.dram := (rfl)
@[simp] theorem State.setStrm_tb (s : State) (x : RegFile) : (s.setStrm x).tb = s.tb := (rfl)
@[simp] theorem State.setStrm_evr (s : State) (x : RegFile) : (s.setStrm x).evr = s.evr := (rfl)
@[simp] theorem State.setStrm_mbx (s : State) (x : RegFile) : (s.setStrm x).mbx = s.mbx := (rfl)
@[simp] theorem State.setStrm_sys (s : State) (x : RegFile) : (s.setStrm x).sys = s.sys := (rfl)
@[simp] theorem State.setStrm_rst (s : State) (x : RegFile) : (s.setStrm x).rst = s.rst := (rfl)
@[simp] theorem State.setStrm_aon (s : State) (x : RegFile) : (s.setStrm x).aon = s.aon := (rfl)
@[simp] theorem State.setStrm_pins (s : State) (x : RegFile) : (s.setStrm x).pins = s.pins := (rfl)
@[simp] theorem State.setStrm_csi (s : State) (x : RegFile) : (s.setStrm x).csi = s.csi := (rfl)
@[simp] theorem State.setStrm_lec (s : State) (x : RegFile) : (s.setStrm x).lec = s.lec := (rfl)
@[simp] theorem State.setStrm_dmc (s : State) (x : RegFile) : (s.setStrm x).dmc = s.dmc := (rfl)
@[simp] theorem State.setStrm_cal (s : State) (x : RegFile) : (s.setStrm x).cal = s.cal := (rfl)
@[simp] theorem State.setStrm_tap (s : State) (x : RegFile) : (s.setStrm x).tap = s.tap := (rfl)
@[simp] theorem State.setStrm_fw (s : State) (x : RegFile) : (s.setStrm x).fw = s.fw := (rfl)
@[simp] theorem State.setStrm_requests (s : State) (x : RegFile) : (s.setStrm x).requests = s.requests := (rfl)
@[simp] theorem State.setStrm_free (s : State) (x : RegFile) : (s.setStrm x).free = s.free := (rfl)

/-! ### setActv -/

@[simp] theorem State.setActv_pending (s : State) (x : RegFile) : (s.setActv x).pending = s.pending := (rfl)
@[simp] theorem State.setActv_regs (s : State) (x : RegFile) : (s.setActv x).regs = s.regs := (rfl)
@[simp] theorem State.setActv_pend (s : State) (x : RegFile) : (s.setActv x).pend = s.pend := (rfl)
@[simp] theorem State.setActv_comp (s : State) (x : RegFile) : (s.setActv x).comp = s.comp := (rfl)
@[simp] theorem State.setActv_strm (s : State) (x : RegFile) : (s.setActv x).strm = s.strm := (rfl)
@[simp] theorem State.setActv_dram (s : State) (x : RegFile) : (s.setActv x).dram = s.dram := (rfl)
@[simp] theorem State.setActv_tb (s : State) (x : RegFile) : (s.setActv x).tb = s.tb := (rfl)
@[simp] theorem State.setActv_evr (s : State) (x : RegFile) : (s.setActv x).evr = s.evr := (rfl)
@[simp] theorem State.setActv_mbx (s : State) (x : RegFile) : (s.setActv x).mbx = s.mbx := (rfl)
@[simp] theorem State.setActv_sys (s : State) (x : RegFile) : (s.setActv x).sys = s.sys := (rfl)
@[simp] theorem State.setActv_rst (s : State) (x : RegFile) : (s.setActv x).rst = s.rst := (rfl)
@[simp] theorem State.setActv_aon (s : State) (x : RegFile) : (s.setActv x).aon = s.aon := (rfl)
@[simp] theorem State.setActv_pins (s : State) (x : RegFile) : (s.setActv x).pins = s.pins := (rfl)
@[simp] theorem State.setActv_csi (s : State) (x : RegFile) : (s.setActv x).csi = s.csi := (rfl)
@[simp] theorem State.setActv_lec (s : State) (x : RegFile) : (s.setActv x).lec = s.lec := (rfl)
@[simp] theorem State.setActv_dmc (s : State) (x : RegFile) : (s.setActv x).dmc = s.dmc := (rfl)
@[simp] theorem State.setActv_cal (s : State) (x : RegFile) : (s.setActv x).cal = s.cal := (rfl)
@[simp] theorem State.setActv_tap (s : State) (x : RegFile) : (s.setActv x).tap = s.tap := (rfl)
@[simp] theorem State.setActv_fw (s : State) (x : RegFile) : (s.setActv x).fw = s.fw := (rfl)
@[simp] theorem State.setActv_requests (s : State) (x : RegFile) : (s.setActv x).requests = s.requests := (rfl)
@[simp] theorem State.setActv_free (s : State) (x : RegFile) : (s.setActv x).free = s.free := (rfl)

/-! ### setDram -/

@[simp] theorem State.setDram_pending (s : State) (x : Mem) : (s.setDram x).pending = s.pending := (rfl)
@[simp] theorem State.setDram_regs (s : State) (x : Mem) : (s.setDram x).regs = s.regs := (rfl)
@[simp] theorem State.setDram_pend (s : State) (x : Mem) : (s.setDram x).pend = s.pend := (rfl)
@[simp] theorem State.setDram_comp (s : State) (x : Mem) : (s.setDram x).comp = s.comp := (rfl)
@[simp] theorem State.setDram_strm (s : State) (x : Mem) : (s.setDram x).strm = s.strm := (rfl)
@[simp] theorem State.setDram_actv (s : State) (x : Mem) : (s.setDram x).actv = s.actv := (rfl)
@[simp] theorem State.setDram_tb (s : State) (x : Mem) : (s.setDram x).tb = s.tb := (rfl)
@[simp] theorem State.setDram_evr (s : State) (x : Mem) : (s.setDram x).evr = s.evr := (rfl)
@[simp] theorem State.setDram_mbx (s : State) (x : Mem) : (s.setDram x).mbx = s.mbx := (rfl)
@[simp] theorem State.setDram_sys (s : State) (x : Mem) : (s.setDram x).sys = s.sys := (rfl)
@[simp] theorem State.setDram_rst (s : State) (x : Mem) : (s.setDram x).rst = s.rst := (rfl)
@[simp] theorem State.setDram_aon (s : State) (x : Mem) : (s.setDram x).aon = s.aon := (rfl)
@[simp] theorem State.setDram_pins (s : State) (x : Mem) : (s.setDram x).pins = s.pins := (rfl)
@[simp] theorem State.setDram_csi (s : State) (x : Mem) : (s.setDram x).csi = s.csi := (rfl)
@[simp] theorem State.setDram_lec (s : State) (x : Mem) : (s.setDram x).lec = s.lec := (rfl)
@[simp] theorem State.setDram_dmc (s : State) (x : Mem) : (s.setDram x).dmc = s.dmc := (rfl)
@[simp] theorem State.setDram_cal (s : State) (x : Mem) : (s.setDram x).cal = s.cal := (rfl)
@[simp] theorem State.setDram_tap (s : State) (x : Mem) : (s.setDram x).tap = s.tap := (rfl)
@[simp] theorem State.setDram_fw (s : State) (x : Mem) : (s.setDram x).fw = s.fw := (rfl)
@[simp] theorem State.setDram_requests (s : State) (x : Mem) : (s.setDram x).requests = s.requests := (rfl)
@[simp] theorem State.setDram_free (s : State) (x : Mem) : (s.setDram x).free = s.free := (rfl)

/-! ### setFree -/

@[simp] theorem State.setFree_pending (s : State) (x : Nat) : (s.setFree x).pending = s.pending := (rfl)
@[simp] theorem State.setFree_regs (s : State) (x : Nat) : (s.setFree x).regs = s.regs := (rfl)
@[simp] theorem State.setFree_pend (s : State) (x : Nat) : (s.setFree x).pend = s.pend := (rfl)
@[simp] theorem State.setFree_comp (s : State) (x : Nat) : (s.setFree x).comp = s.comp := (rfl)
@[simp] theorem State.setFree_strm (s : State) (x : Nat) : (s.setFree x).strm = s.strm := (rfl)
@[simp] theorem State.setFree_actv (s : State) (x : Nat) : (s.setFree x).actv = s.actv := (rfl)
@[simp] theorem State.setFree_dram (s : State) (x : Nat) : (s.setFree x).dram = s.dram := (rfl)
@[simp] theorem State.setFree_tb (s : State) (x : Nat) : (s.setFree x).tb = s.tb := (rfl)
@[simp] theorem State.setFree_evr (s : State) (x : Nat) : (s.setFree x).evr = s.evr := (rfl)
@[simp] theorem State.setFree_mbx (s : State) (x : Nat) : (s.setFree x).mbx = s.mbx := (rfl)
@[simp] theorem State.setFree_sys (s : State) (x : Nat) : (s.setFree x).sys = s.sys := (rfl)
@[simp] theorem State.setFree_rst (s : State) (x : Nat) : (s.setFree x).rst = s.rst := (rfl)
@[simp] theorem State.setFree_aon (s : State) (x : Nat) : (s.setFree x).aon = s.aon := (rfl)
@[simp] theorem State.setFree_pins (s : State) (x : Nat) : (s.setFree x).pins = s.pins := (rfl)
@[simp] theorem State.setFree_csi (s : State) (x : Nat) : (s.setFree x).csi = s.csi := (rfl)
@[simp] theorem State.setFree_lec (s : State) (x : Nat) : (s.setFree x).lec = s.lec := (rfl)
@[simp] theorem State.setFree_dmc (s : State) (x : Nat) : (s.setFree x).dmc = s.dmc := (rfl)
@[simp] theorem State.setFree_cal (s : State) (x : Nat) : (s.setFree x).cal = s.cal := (rfl)
@[simp] theorem State.setFree_tap (s : State) (x : Nat) : (s.setFree x).tap = s.tap := (rfl)
@[simp] theorem State.setFree_fw (s : State) (x : Nat) : (s.setFree x).fw = s.fw := (rfl)
@[simp] theorem State.setFree_requests (s : State) (x : Nat) : (s.setFree x).requests = s.requests := (rfl)

/-! ### setRequests -/

@[simp] theorem State.setRequests_pending (s : State) (x : Nat) : (s.setRequests x).pending = s.pending := (rfl)
@[simp] theorem State.setRequests_regs (s : State) (x : Nat) : (s.setRequests x).regs = s.regs := (rfl)
@[simp] theorem State.setRequests_pend (s : State) (x : Nat) : (s.setRequests x).pend = s.pend := (rfl)
@[simp] theorem State.setRequests_comp (s : State) (x : Nat) : (s.setRequests x).comp = s.comp := (rfl)
@[simp] theorem State.setRequests_strm (s : State) (x : Nat) : (s.setRequests x).strm = s.strm := (rfl)
@[simp] theorem State.setRequests_actv (s : State) (x : Nat) : (s.setRequests x).actv = s.actv := (rfl)
@[simp] theorem State.setRequests_dram (s : State) (x : Nat) : (s.setRequests x).dram = s.dram := (rfl)
@[simp] theorem State.setRequests_tb (s : State) (x : Nat) : (s.setRequests x).tb = s.tb := (rfl)
@[simp] theorem State.setRequests_evr (s : State) (x : Nat) : (s.setRequests x).evr = s.evr := (rfl)
@[simp] theorem State.setRequests_mbx (s : State) (x : Nat) : (s.setRequests x).mbx = s.mbx := (rfl)
@[simp] theorem State.setRequests_sys (s : State) (x : Nat) : (s.setRequests x).sys = s.sys := (rfl)
@[simp] theorem State.setRequests_rst (s : State) (x : Nat) : (s.setRequests x).rst = s.rst := (rfl)
@[simp] theorem State.setRequests_aon (s : State) (x : Nat) : (s.setRequests x).aon = s.aon := (rfl)
@[simp] theorem State.setRequests_pins (s : State) (x : Nat) : (s.setRequests x).pins = s.pins := (rfl)
@[simp] theorem State.setRequests_csi (s : State) (x : Nat) : (s.setRequests x).csi = s.csi := (rfl)
@[simp] theorem State.setRequests_lec (s : State) (x : Nat) : (s.setRequests x).lec = s.lec := (rfl)
@[simp] theorem State.setRequests_dmc (s : State) (x : Nat) : (s.setRequests x).dmc = s.dmc := (rfl)
@[simp] theorem State.setRequests_cal (s : State) (x : Nat) : (s.setRequests x).cal = s.cal := (rfl)
@[simp] theorem State.setRequests_tap (s : State) (x : Nat) : (s.setRequests x).tap = s.tap := (rfl)
@[simp] theorem State.setRequests_fw (s : State) (x : Nat) : (s.setRequests x).fw = s.fw := (rfl)
@[simp] theorem State.setRequests_free (s : State) (x : Nat) : (s.setRequests x).free = s.free := (rfl)

/-! ### errHit -/

@[simp] theorem State.errHit_pending (s : State) (b c : Nat) : (s.errHit b c).pending = s.pending := by unfold State.errHit; dsimp only; split <;> simp
@[simp] theorem State.errHit_pend (s : State) (b c : Nat) : (s.errHit b c).pend = s.pend := by unfold State.errHit; dsimp only; split <;> simp
@[simp] theorem State.errHit_comp (s : State) (b c : Nat) : (s.errHit b c).comp = s.comp := by unfold State.errHit; dsimp only; split <;> simp
@[simp] theorem State.errHit_strm (s : State) (b c : Nat) : (s.errHit b c).strm = s.strm := by unfold State.errHit; dsimp only; split <;> simp
@[simp] theorem State.errHit_actv (s : State) (b c : Nat) : (s.errHit b c).actv = s.actv := by unfold State.errHit; dsimp only; split <;> simp
@[simp] theorem State.errHit_dram (s : State) (b c : Nat) : (s.errHit b c).dram = s.dram := by unfold State.errHit; dsimp only; split <;> simp
@[simp] theorem State.errHit_tb (s : State) (b c : Nat) : (s.errHit b c).tb = s.tb := by unfold State.errHit; dsimp only; split <;> simp
@[simp] theorem State.errHit_evr (s : State) (b c : Nat) : (s.errHit b c).evr = s.evr := by unfold State.errHit; dsimp only; split <;> simp
@[simp] theorem State.errHit_mbx (s : State) (b c : Nat) : (s.errHit b c).mbx = s.mbx := by unfold State.errHit; dsimp only; split <;> simp
@[simp] theorem State.errHit_sys (s : State) (b c : Nat) : (s.errHit b c).sys = s.sys := by unfold State.errHit; dsimp only; split <;> simp
@[simp] theorem State.errHit_rst (s : State) (b c : Nat) : (s.errHit b c).rst = s.rst := by unfold State.errHit; dsimp only; split <;> simp
@[simp] theorem State.errHit_aon (s : State) (b c : Nat) : (s.errHit b c).aon = s.aon := by unfold State.errHit; dsimp only; split <;> simp
@[simp] theorem State.errHit_pins (s : State) (b c : Nat) : (s.errHit b c).pins = s.pins := by unfold State.errHit; dsimp only; split <;> simp
@[simp] theorem State.errHit_csi (s : State) (b c : Nat) : (s.errHit b c).csi = s.csi := by unfold State.errHit; dsimp only; split <;> simp
@[simp] theorem State.errHit_lec (s : State) (b c : Nat) : (s.errHit b c).lec = s.lec := by unfold State.errHit; dsimp only; split <;> simp
@[simp] theorem State.errHit_dmc (s : State) (b c : Nat) : (s.errHit b c).dmc = s.dmc := by unfold State.errHit; dsimp only; split <;> simp
@[simp] theorem State.errHit_cal (s : State) (b c : Nat) : (s.errHit b c).cal = s.cal := by unfold State.errHit; dsimp only; split <;> simp
@[simp] theorem State.errHit_tap (s : State) (b c : Nat) : (s.errHit b c).tap = s.tap := by unfold State.errHit; dsimp only; split <;> simp
@[simp] theorem State.errHit_fw (s : State) (b c : Nat) : (s.errHit b c).fw = s.fw := by unfold State.errHit; dsimp only; split <;> simp
@[simp] theorem State.errHit_requests (s : State) (b c : Nat) : (s.errHit b c).requests = s.requests := by unfold State.errHit; dsimp only; split <;> simp
@[simp] theorem State.errHit_free (s : State) (b c : Nat) : (s.errHit b c).free = s.free := by unfold State.errHit; dsimp only; split <;> simp

/-! ### errClear -/

@[simp] theorem State.errClear_pending (s : State) (b : Nat) : (s.errClear b).pending = s.pending := by simp [State.errClear]
@[simp] theorem State.errClear_pend (s : State) (b : Nat) : (s.errClear b).pend = s.pend := by simp [State.errClear]
@[simp] theorem State.errClear_comp (s : State) (b : Nat) : (s.errClear b).comp = s.comp := by simp [State.errClear]
@[simp] theorem State.errClear_strm (s : State) (b : Nat) : (s.errClear b).strm = s.strm := by simp [State.errClear]
@[simp] theorem State.errClear_actv (s : State) (b : Nat) : (s.errClear b).actv = s.actv := by simp [State.errClear]
@[simp] theorem State.errClear_dram (s : State) (b : Nat) : (s.errClear b).dram = s.dram := by simp [State.errClear]
@[simp] theorem State.errClear_tb (s : State) (b : Nat) : (s.errClear b).tb = s.tb := by simp [State.errClear]
@[simp] theorem State.errClear_evr (s : State) (b : Nat) : (s.errClear b).evr = s.evr := by simp [State.errClear]
@[simp] theorem State.errClear_mbx (s : State) (b : Nat) : (s.errClear b).mbx = s.mbx := by simp [State.errClear]
@[simp] theorem State.errClear_sys (s : State) (b : Nat) : (s.errClear b).sys = s.sys := by simp [State.errClear]
@[simp] theorem State.errClear_rst (s : State) (b : Nat) : (s.errClear b).rst = s.rst := by simp [State.errClear]
@[simp] theorem State.errClear_aon (s : State) (b : Nat) : (s.errClear b).aon = s.aon := by simp [State.errClear]
@[simp] theorem State.errClear_pins (s : State) (b : Nat) : (s.errClear b).pins = s.pins := by simp [State.errClear]
@[simp] theorem State.errClear_csi (s : State) (b : Nat) : (s.errClear b).csi = s.csi := by simp [State.errClear]
@[simp] theorem State.errClear_lec (s : State) (b : Nat) : (s.errClear b).lec = s.lec := by simp [State.errClear]
@[simp] theorem State.errClear_dmc (s : State) (b : Nat) : (s.errClear b).dmc = s.dmc := by simp [State.errClear]
@[simp] theorem State.errClear_cal (s : State) (b : Nat) : (s.errClear b).cal = s.cal := by simp [State.errClear]
@[simp] theorem State.errClear_tap (s : State) (b : Nat) : (s.errClear b).tap = s.tap := by simp [State.errClear]
@[simp] theorem State.errClear_fw (s : State) (b : Nat) : (s.errClear b).fw = s.fw := by simp [State.errClear]
@[simp] theorem State.errClear_requests (s : State) (b : Nat) : (s.errClear b).requests = s.requests := by simp [State.errClear]
@[simp] theorem State.errClear_free (s : State) (b : Nat) : (s.errClear b).free = s.free := by simp [State.errClear]

/-! ### irqOccur -/

@[simp] theorem State.irqOccur_pending (s : State) (v : Nat) : (s.irqOccur v).pending = s.pending := by unfold State.irqOccur; split <;> simp
@[simp] theorem State.irqOccur_pend (s : State) (v : Nat) : (s.irqOccur v).pend = s.pend := by unfold State.irqOccur; split <;> simp
@[simp] theorem State.irqOccur_comp (s : State) (v : Nat) : (s.irqOccur v).comp = s.comp := by unfold State.irqOccur; split <;> simp
@[simp] theorem State.irqOccur_strm (s : State) (v : Nat) : (s.irqOccur v).strm = s.strm := by unfold State.irqOccur; split <;> simp
@[simp] theorem State.irqOccur_actv (s : State) (v : Nat) : (s.irqOccur v).actv = s.actv := by unfold State.irqOccur; split <;> simp
@[simp] theorem State.irqOccur_dram (s : State) (v : Nat) : (s.irqOccur v).dram = s.dram := by unfold State.irqOccur; split <;> simp
@[simp] theorem State.irqOccur_tb (s : State) (v : Nat) : (s.irqOccur v).tb = s.tb := by unfold State.irqOccur; split <;> simp
@[simp] theorem State.irqOccur_evr (s : State) (v : Nat) : (s.irqOccur v).evr = s.evr := by unfold State.irqOccur; split <;> simp
@[simp] theorem State.irqOccur_mbx (s : State) (v : Nat) : (s.irqOccur v).mbx = s.mbx := by unfold State.irqOccur; split <;> simp
@[simp] theorem State.irqOccur_sys (s : State) (v : Nat) : (s.irqOccur v).sys = s.sys := by unfold State.irqOccur; split <;> simp
@[simp] theorem State.irqOccur_rst (s : State) (v : Nat) : (s.irqOccur v).rst = s.rst := by unfold State.irqOccur; split <;> simp
@[simp] theorem State.irqOccur_aon (s : State) (v : Nat) : (s.irqOccur v).aon = s.aon := by unfold State.irqOccur; split <;> simp
@[simp] theorem State.irqOccur_pins (s : State) (v : Nat) : (s.irqOccur v).pins = s.pins := by unfold State.irqOccur; split <;> simp
@[simp] theorem State.irqOccur_csi (s : State) (v : Nat) : (s.irqOccur v).csi = s.csi := by unfold State.irqOccur; split <;> simp
@[simp] theorem State.irqOccur_lec (s : State) (v : Nat) : (s.irqOccur v).lec = s.lec := by unfold State.irqOccur; split <;> simp
@[simp] theorem State.irqOccur_dmc (s : State) (v : Nat) : (s.irqOccur v).dmc = s.dmc := by unfold State.irqOccur; split <;> simp
@[simp] theorem State.irqOccur_cal (s : State) (v : Nat) : (s.irqOccur v).cal = s.cal := by unfold State.irqOccur; split <;> simp
@[simp] theorem State.irqOccur_tap (s : State) (v : Nat) : (s.irqOccur v).tap = s.tap := by unfold State.irqOccur; split <;> simp
@[simp] theorem State.irqOccur_fw (s : State) (v : Nat) : (s.irqOccur v).fw = s.fw := by unfold State.irqOccur; split <;> simp
@[simp] theorem State.irqOccur_requests (s : State) (v : Nat) : (s.irqOccur v).requests = s.requests := by unfold State.irqOccur; split <;> simp
@[simp] theorem State.irqOccur_free (s : State) (v : Nat) : (s.irqOccur v).free = s.free := by unfold State.irqOccur; split <;> simp

/-! ### faultLatch -/

@[simp] theorem State.faultLatch_pending (s : State) (c v : Nat) : (s.faultLatch c v).pending = s.pending := by unfold State.faultLatch; split <;> simp
@[simp] theorem State.faultLatch_pend (s : State) (c v : Nat) : (s.faultLatch c v).pend = s.pend := by unfold State.faultLatch; split <;> simp
@[simp] theorem State.faultLatch_comp (s : State) (c v : Nat) : (s.faultLatch c v).comp = s.comp := by unfold State.faultLatch; split <;> simp
@[simp] theorem State.faultLatch_strm (s : State) (c v : Nat) : (s.faultLatch c v).strm = s.strm := by unfold State.faultLatch; split <;> simp
@[simp] theorem State.faultLatch_actv (s : State) (c v : Nat) : (s.faultLatch c v).actv = s.actv := by unfold State.faultLatch; split <;> simp
@[simp] theorem State.faultLatch_dram (s : State) (c v : Nat) : (s.faultLatch c v).dram = s.dram := by unfold State.faultLatch; split <;> simp
@[simp] theorem State.faultLatch_tb (s : State) (c v : Nat) : (s.faultLatch c v).tb = s.tb := by unfold State.faultLatch; split <;> simp
@[simp] theorem State.faultLatch_evr (s : State) (c v : Nat) : (s.faultLatch c v).evr = s.evr := by unfold State.faultLatch; split <;> simp
@[simp] theorem State.faultLatch_mbx (s : State) (c v : Nat) : (s.faultLatch c v).mbx = s.mbx := by unfold State.faultLatch; split <;> simp
@[simp] theorem State.faultLatch_sys (s : State) (c v : Nat) : (s.faultLatch c v).sys = s.sys := by unfold State.faultLatch; split <;> simp
@[simp] theorem State.faultLatch_rst (s : State) (c v : Nat) : (s.faultLatch c v).rst = s.rst := by unfold State.faultLatch; split <;> simp
@[simp] theorem State.faultLatch_aon (s : State) (c v : Nat) : (s.faultLatch c v).aon = s.aon := by unfold State.faultLatch; split <;> simp
@[simp] theorem State.faultLatch_pins (s : State) (c v : Nat) : (s.faultLatch c v).pins = s.pins := by unfold State.faultLatch; split <;> simp
@[simp] theorem State.faultLatch_csi (s : State) (c v : Nat) : (s.faultLatch c v).csi = s.csi := by unfold State.faultLatch; split <;> simp
@[simp] theorem State.faultLatch_lec (s : State) (c v : Nat) : (s.faultLatch c v).lec = s.lec := by unfold State.faultLatch; split <;> simp
@[simp] theorem State.faultLatch_dmc (s : State) (c v : Nat) : (s.faultLatch c v).dmc = s.dmc := by unfold State.faultLatch; split <;> simp
@[simp] theorem State.faultLatch_cal (s : State) (c v : Nat) : (s.faultLatch c v).cal = s.cal := by unfold State.faultLatch; split <;> simp
@[simp] theorem State.faultLatch_tap (s : State) (c v : Nat) : (s.faultLatch c v).tap = s.tap := by unfold State.faultLatch; split <;> simp
@[simp] theorem State.faultLatch_fw (s : State) (c v : Nat) : (s.faultLatch c v).fw = s.fw := by unfold State.faultLatch; split <;> simp
@[simp] theorem State.faultLatch_requests (s : State) (c v : Nat) : (s.faultLatch c v).requests = s.requests := by unfold State.faultLatch; split <;> simp
@[simp] theorem State.faultLatch_free (s : State) (c v : Nat) : (s.faultLatch c v).free = s.free := by unfold State.faultLatch; split <;> simp

/-! ### faultDrive -/

@[simp] theorem State.faultDrive_pending (s : State) : (s.faultDrive).pending = s.pending := by simp [State.faultDrive]
@[simp] theorem State.faultDrive_regs (s : State) : (s.faultDrive).regs = s.regs := by simp [State.faultDrive]
@[simp] theorem State.faultDrive_pend (s : State) : (s.faultDrive).pend = s.pend := by simp [State.faultDrive]
@[simp] theorem State.faultDrive_comp (s : State) : (s.faultDrive).comp = s.comp := by simp [State.faultDrive]
@[simp] theorem State.faultDrive_strm (s : State) : (s.faultDrive).strm = s.strm := by simp [State.faultDrive]
@[simp] theorem State.faultDrive_actv (s : State) : (s.faultDrive).actv = s.actv := by simp [State.faultDrive]
@[simp] theorem State.faultDrive_dram (s : State) : (s.faultDrive).dram = s.dram := by simp [State.faultDrive]
@[simp] theorem State.faultDrive_tb (s : State) : (s.faultDrive).tb = s.tb := by simp [State.faultDrive]
@[simp] theorem State.faultDrive_evr (s : State) : (s.faultDrive).evr = s.evr := by simp [State.faultDrive]
@[simp] theorem State.faultDrive_mbx (s : State) : (s.faultDrive).mbx = s.mbx := by simp [State.faultDrive]
@[simp] theorem State.faultDrive_sys (s : State) : (s.faultDrive).sys = s.sys := by simp [State.faultDrive]
@[simp] theorem State.faultDrive_rst (s : State) : (s.faultDrive).rst = s.rst := by simp [State.faultDrive]
@[simp] theorem State.faultDrive_aon (s : State) : (s.faultDrive).aon = s.aon := by simp [State.faultDrive]
@[simp] theorem State.faultDrive_csi (s : State) : (s.faultDrive).csi = s.csi := by simp [State.faultDrive]
@[simp] theorem State.faultDrive_lec (s : State) : (s.faultDrive).lec = s.lec := by simp [State.faultDrive]
@[simp] theorem State.faultDrive_dmc (s : State) : (s.faultDrive).dmc = s.dmc := by simp [State.faultDrive]
@[simp] theorem State.faultDrive_cal (s : State) : (s.faultDrive).cal = s.cal := by simp [State.faultDrive]
@[simp] theorem State.faultDrive_tap (s : State) : (s.faultDrive).tap = s.tap := by simp [State.faultDrive]
@[simp] theorem State.faultDrive_fw (s : State) : (s.faultDrive).fw = s.fw := by simp [State.faultDrive]
@[simp] theorem State.faultDrive_requests (s : State) : (s.faultDrive).requests = s.requests := by simp [State.faultDrive]
@[simp] theorem State.faultDrive_free (s : State) : (s.faultDrive).free = s.free := by simp [State.faultDrive]

/-! ### occur -/

@[simp] theorem State.occur_pending (s : State) (c v : Nat) : (s.occur c v).pending = s.pending := by unfold State.occur; dsimp only; split <;> simp
@[simp] theorem State.occur_pend (s : State) (c v : Nat) : (s.occur c v).pend = s.pend := by unfold State.occur; dsimp only; split <;> simp
@[simp] theorem State.occur_comp (s : State) (c v : Nat) : (s.occur c v).comp = s.comp := by unfold State.occur; dsimp only; split <;> simp
@[simp] theorem State.occur_strm (s : State) (c v : Nat) : (s.occur c v).strm = s.strm := by unfold State.occur; dsimp only; split <;> simp
@[simp] theorem State.occur_actv (s : State) (c v : Nat) : (s.occur c v).actv = s.actv := by unfold State.occur; dsimp only; split <;> simp
@[simp] theorem State.occur_dram (s : State) (c v : Nat) : (s.occur c v).dram = s.dram := by unfold State.occur; dsimp only; split <;> simp
@[simp] theorem State.occur_tb (s : State) (c v : Nat) : (s.occur c v).tb = s.tb := by unfold State.occur; dsimp only; split <;> simp
@[simp] theorem State.occur_evr (s : State) (c v : Nat) : (s.occur c v).evr = s.evr := by unfold State.occur; dsimp only; split <;> simp
@[simp] theorem State.occur_mbx (s : State) (c v : Nat) : (s.occur c v).mbx = s.mbx := by unfold State.occur; dsimp only; split <;> simp
@[simp] theorem State.occur_sys (s : State) (c v : Nat) : (s.occur c v).sys = s.sys := by unfold State.occur; dsimp only; split <;> simp
@[simp] theorem State.occur_rst (s : State) (c v : Nat) : (s.occur c v).rst = s.rst := by unfold State.occur; dsimp only; split <;> simp
@[simp] theorem State.occur_aon (s : State) (c v : Nat) : (s.occur c v).aon = s.aon := by unfold State.occur; dsimp only; split <;> simp
@[simp] theorem State.occur_csi (s : State) (c v : Nat) : (s.occur c v).csi = s.csi := by unfold State.occur; dsimp only; split <;> simp
@[simp] theorem State.occur_lec (s : State) (c v : Nat) : (s.occur c v).lec = s.lec := by unfold State.occur; dsimp only; split <;> simp
@[simp] theorem State.occur_dmc (s : State) (c v : Nat) : (s.occur c v).dmc = s.dmc := by unfold State.occur; dsimp only; split <;> simp
@[simp] theorem State.occur_cal (s : State) (c v : Nat) : (s.occur c v).cal = s.cal := by unfold State.occur; dsimp only; split <;> simp
@[simp] theorem State.occur_tap (s : State) (c v : Nat) : (s.occur c v).tap = s.tap := by unfold State.occur; dsimp only; split <;> simp
@[simp] theorem State.occur_fw (s : State) (c v : Nat) : (s.occur c v).fw = s.fw := by unfold State.occur; dsimp only; split <;> simp
@[simp] theorem State.occur_requests (s : State) (c v : Nat) : (s.occur c v).requests = s.requests := by unfold State.occur; dsimp only; split <;> simp
@[simp] theorem State.occur_free (s : State) (c v : Nat) : (s.occur c v).free = s.free := by unfold State.occur; dsimp only; split <;> simp

/-! ### stamped -/

@[simp] theorem State.stamped_pending (s : State) : (s.stamped).pending = s.pending := by simp [State.stamped]
@[simp] theorem State.stamped_regs (s : State) : (s.stamped).regs = s.regs := by simp [State.stamped]
@[simp] theorem State.stamped_pend (s : State) : (s.stamped).pend = s.pend := by simp [State.stamped]
@[simp] theorem State.stamped_comp (s : State) : (s.stamped).comp = s.comp := by simp [State.stamped]
@[simp] theorem State.stamped_strm (s : State) : (s.stamped).strm = s.strm := by simp [State.stamped]
@[simp] theorem State.stamped_actv (s : State) : (s.stamped).actv = s.actv := by simp [State.stamped]
@[simp] theorem State.stamped_dram (s : State) : (s.stamped).dram = s.dram := by simp [State.stamped]
@[simp] theorem State.stamped_tb (s : State) : (s.stamped).tb = s.tb := by simp [State.stamped]
@[simp] theorem State.stamped_mbx (s : State) : (s.stamped).mbx = s.mbx := by simp [State.stamped]
@[simp] theorem State.stamped_sys (s : State) : (s.stamped).sys = s.sys := by simp [State.stamped]
@[simp] theorem State.stamped_rst (s : State) : (s.stamped).rst = s.rst := by simp [State.stamped]
@[simp] theorem State.stamped_aon (s : State) : (s.stamped).aon = s.aon := by simp [State.stamped]
@[simp] theorem State.stamped_pins (s : State) : (s.stamped).pins = s.pins := by simp [State.stamped]
@[simp] theorem State.stamped_csi (s : State) : (s.stamped).csi = s.csi := by simp [State.stamped]
@[simp] theorem State.stamped_lec (s : State) : (s.stamped).lec = s.lec := by simp [State.stamped]
@[simp] theorem State.stamped_dmc (s : State) : (s.stamped).dmc = s.dmc := by simp [State.stamped]
@[simp] theorem State.stamped_cal (s : State) : (s.stamped).cal = s.cal := by simp [State.stamped]
@[simp] theorem State.stamped_tap (s : State) : (s.stamped).tap = s.tap := by simp [State.stamped]
@[simp] theorem State.stamped_fw (s : State) : (s.stamped).fw = s.fw := by simp [State.stamped]
@[simp] theorem State.stamped_requests (s : State) : (s.stamped).requests = s.requests := by simp [State.stamped]

/-! ### nextFree -/

@[simp] theorem State.nextFree_pending (s : State) : (s.nextFree).pending = s.pending := (rfl)
@[simp] theorem State.nextFree_regs (s : State) : (s.nextFree).regs = s.regs := (rfl)
@[simp] theorem State.nextFree_pend (s : State) : (s.nextFree).pend = s.pend := (rfl)
@[simp] theorem State.nextFree_comp (s : State) : (s.nextFree).comp = s.comp := (rfl)
@[simp] theorem State.nextFree_strm (s : State) : (s.nextFree).strm = s.strm := (rfl)
@[simp] theorem State.nextFree_actv (s : State) : (s.nextFree).actv = s.actv := (rfl)
@[simp] theorem State.nextFree_dram (s : State) : (s.nextFree).dram = s.dram := (rfl)
@[simp] theorem State.nextFree_tb (s : State) : (s.nextFree).tb = s.tb := (rfl)
@[simp] theorem State.nextFree_evr (s : State) : (s.nextFree).evr = s.evr := (rfl)
@[simp] theorem State.nextFree_mbx (s : State) : (s.nextFree).mbx = s.mbx := (rfl)
@[simp] theorem State.nextFree_sys (s : State) : (s.nextFree).sys = s.sys := (rfl)
@[simp] theorem State.nextFree_rst (s : State) : (s.nextFree).rst = s.rst := (rfl)
@[simp] theorem State.nextFree_aon (s : State) : (s.nextFree).aon = s.aon := (rfl)
@[simp] theorem State.nextFree_pins (s : State) : (s.nextFree).pins = s.pins := (rfl)
@[simp] theorem State.nextFree_csi (s : State) : (s.nextFree).csi = s.csi := (rfl)
@[simp] theorem State.nextFree_lec (s : State) : (s.nextFree).lec = s.lec := (rfl)
@[simp] theorem State.nextFree_dmc (s : State) : (s.nextFree).dmc = s.dmc := (rfl)
@[simp] theorem State.nextFree_cal (s : State) : (s.nextFree).cal = s.cal := (rfl)
@[simp] theorem State.nextFree_tap (s : State) : (s.nextFree).tap = s.tap := (rfl)
@[simp] theorem State.nextFree_fw (s : State) : (s.nextFree).fw = s.fw := (rfl)
@[simp] theorem State.nextFree_requests (s : State) : (s.nextFree).requests = s.requests := (rfl)

/-! ### enqueue -/

@[simp] theorem State.enqueue_pending (s : State) (c v a b : Nat) : (s.enqueue c v a b).pending = s.pending := by simp [State.enqueue]
@[simp] theorem State.enqueue_regs (s : State) (c v a b : Nat) : (s.enqueue c v a b).regs = s.regs := by simp [State.enqueue]
@[simp] theorem State.enqueue_pend (s : State) (c v a b : Nat) : (s.enqueue c v a b).pend = s.pend := by simp [State.enqueue]
@[simp] theorem State.enqueue_comp (s : State) (c v a b : Nat) : (s.enqueue c v a b).comp = s.comp := by simp [State.enqueue]
@[simp] theorem State.enqueue_strm (s : State) (c v a b : Nat) : (s.enqueue c v a b).strm = s.strm := by simp [State.enqueue]
@[simp] theorem State.enqueue_actv (s : State) (c v a b : Nat) : (s.enqueue c v a b).actv = s.actv := by simp [State.enqueue]
@[simp] theorem State.enqueue_dram (s : State) (c v a b : Nat) : (s.enqueue c v a b).dram = s.dram := by simp [State.enqueue]
@[simp] theorem State.enqueue_tb (s : State) (c v a b : Nat) : (s.enqueue c v a b).tb = s.tb := by simp [State.enqueue]
@[simp] theorem State.enqueue_mbx (s : State) (c v a b : Nat) : (s.enqueue c v a b).mbx = s.mbx := by simp [State.enqueue]
@[simp] theorem State.enqueue_sys (s : State) (c v a b : Nat) : (s.enqueue c v a b).sys = s.sys := by simp [State.enqueue]
@[simp] theorem State.enqueue_rst (s : State) (c v a b : Nat) : (s.enqueue c v a b).rst = s.rst := by simp [State.enqueue]
@[simp] theorem State.enqueue_aon (s : State) (c v a b : Nat) : (s.enqueue c v a b).aon = s.aon := by simp [State.enqueue]
@[simp] theorem State.enqueue_pins (s : State) (c v a b : Nat) : (s.enqueue c v a b).pins = s.pins := by simp [State.enqueue]
@[simp] theorem State.enqueue_csi (s : State) (c v a b : Nat) : (s.enqueue c v a b).csi = s.csi := by simp [State.enqueue]
@[simp] theorem State.enqueue_lec (s : State) (c v a b : Nat) : (s.enqueue c v a b).lec = s.lec := by simp [State.enqueue]
@[simp] theorem State.enqueue_dmc (s : State) (c v a b : Nat) : (s.enqueue c v a b).dmc = s.dmc := by simp [State.enqueue]
@[simp] theorem State.enqueue_cal (s : State) (c v a b : Nat) : (s.enqueue c v a b).cal = s.cal := by simp [State.enqueue]
@[simp] theorem State.enqueue_tap (s : State) (c v a b : Nat) : (s.enqueue c v a b).tap = s.tap := by simp [State.enqueue]
@[simp] theorem State.enqueue_fw (s : State) (c v a b : Nat) : (s.enqueue c v a b).fw = s.fw := by simp [State.enqueue]
@[simp] theorem State.enqueue_requests (s : State) (c v a b : Nat) : (s.enqueue c v a b).requests = s.requests := by simp [State.enqueue]

/-! ### dropReq -/

@[simp] theorem State.dropReq_pending (s : State) : (s.dropReq).pending = s.pending := by simp [State.dropReq]
@[simp] theorem State.dropReq_pend (s : State) : (s.dropReq).pend = s.pend := by simp [State.dropReq]
@[simp] theorem State.dropReq_comp (s : State) : (s.dropReq).comp = s.comp := by simp [State.dropReq]
@[simp] theorem State.dropReq_strm (s : State) : (s.dropReq).strm = s.strm := by simp [State.dropReq]
@[simp] theorem State.dropReq_actv (s : State) : (s.dropReq).actv = s.actv := by simp [State.dropReq]
@[simp] theorem State.dropReq_dram (s : State) : (s.dropReq).dram = s.dram := by simp [State.dropReq]
@[simp] theorem State.dropReq_tb (s : State) : (s.dropReq).tb = s.tb := by simp [State.dropReq]
@[simp] theorem State.dropReq_evr (s : State) : (s.dropReq).evr = s.evr := by simp [State.dropReq]
@[simp] theorem State.dropReq_mbx (s : State) : (s.dropReq).mbx = s.mbx := by simp [State.dropReq]
@[simp] theorem State.dropReq_sys (s : State) : (s.dropReq).sys = s.sys := by simp [State.dropReq]
@[simp] theorem State.dropReq_rst (s : State) : (s.dropReq).rst = s.rst := by simp [State.dropReq]
@[simp] theorem State.dropReq_aon (s : State) : (s.dropReq).aon = s.aon := by simp [State.dropReq]
@[simp] theorem State.dropReq_pins (s : State) : (s.dropReq).pins = s.pins := by simp [State.dropReq]
@[simp] theorem State.dropReq_csi (s : State) : (s.dropReq).csi = s.csi := by simp [State.dropReq]
@[simp] theorem State.dropReq_lec (s : State) : (s.dropReq).lec = s.lec := by simp [State.dropReq]
@[simp] theorem State.dropReq_dmc (s : State) : (s.dropReq).dmc = s.dmc := by simp [State.dropReq]
@[simp] theorem State.dropReq_cal (s : State) : (s.dropReq).cal = s.cal := by simp [State.dropReq]
@[simp] theorem State.dropReq_tap (s : State) : (s.dropReq).tap = s.tap := by simp [State.dropReq]
@[simp] theorem State.dropReq_fw (s : State) : (s.dropReq).fw = s.fw := by simp [State.dropReq]
@[simp] theorem State.dropReq_requests (s : State) : (s.dropReq).requests = s.requests := by simp [State.dropReq]
@[simp] theorem State.dropReq_free (s : State) : (s.dropReq).free = s.free := by simp [State.dropReq]

/-! ### logEvent -/

@[simp] theorem State.logEvent_pending (s : State) (c v a b : Nat) : (s.logEvent c v a b).pending = s.pending := by unfold State.logEvent; split <;> simp
@[simp] theorem State.logEvent_pend (s : State) (c v a b : Nat) : (s.logEvent c v a b).pend = s.pend := by unfold State.logEvent; split <;> simp
@[simp] theorem State.logEvent_comp (s : State) (c v a b : Nat) : (s.logEvent c v a b).comp = s.comp := by unfold State.logEvent; split <;> simp
@[simp] theorem State.logEvent_strm (s : State) (c v a b : Nat) : (s.logEvent c v a b).strm = s.strm := by unfold State.logEvent; split <;> simp
@[simp] theorem State.logEvent_actv (s : State) (c v a b : Nat) : (s.logEvent c v a b).actv = s.actv := by unfold State.logEvent; split <;> simp
@[simp] theorem State.logEvent_dram (s : State) (c v a b : Nat) : (s.logEvent c v a b).dram = s.dram := by unfold State.logEvent; split <;> simp
@[simp] theorem State.logEvent_tb (s : State) (c v a b : Nat) : (s.logEvent c v a b).tb = s.tb := by unfold State.logEvent; split <;> simp
@[simp] theorem State.logEvent_mbx (s : State) (c v a b : Nat) : (s.logEvent c v a b).mbx = s.mbx := by unfold State.logEvent; split <;> simp
@[simp] theorem State.logEvent_sys (s : State) (c v a b : Nat) : (s.logEvent c v a b).sys = s.sys := by unfold State.logEvent; split <;> simp
@[simp] theorem State.logEvent_rst (s : State) (c v a b : Nat) : (s.logEvent c v a b).rst = s.rst := by unfold State.logEvent; split <;> simp
@[simp] theorem State.logEvent_aon (s : State) (c v a b : Nat) : (s.logEvent c v a b).aon = s.aon := by unfold State.logEvent; split <;> simp
@[simp] theorem State.logEvent_csi (s : State) (c v a b : Nat) : (s.logEvent c v a b).csi = s.csi := by unfold State.logEvent; split <;> simp
@[simp] theorem State.logEvent_lec (s : State) (c v a b : Nat) : (s.logEvent c v a b).lec = s.lec := by unfold State.logEvent; split <;> simp
@[simp] theorem State.logEvent_dmc (s : State) (c v a b : Nat) : (s.logEvent c v a b).dmc = s.dmc := by unfold State.logEvent; split <;> simp
@[simp] theorem State.logEvent_cal (s : State) (c v a b : Nat) : (s.logEvent c v a b).cal = s.cal := by unfold State.logEvent; split <;> simp
@[simp] theorem State.logEvent_tap (s : State) (c v a b : Nat) : (s.logEvent c v a b).tap = s.tap := by unfold State.logEvent; split <;> simp
@[simp] theorem State.logEvent_fw (s : State) (c v a b : Nat) : (s.logEvent c v a b).fw = s.fw := by unfold State.logEvent; split <;> simp
@[simp] theorem State.logEvent_requests (s : State) (c v a b : Nat) : (s.logEvent c v a b).requests = s.requests := by unfold State.logEvent; split <;> simp

/-! ### errEvent -/

@[simp] theorem State.errEvent_pending (s : State) (e c v a b : Nat) : (s.errEvent e c v a b).pending = s.pending := by simp [State.errEvent]
@[simp] theorem State.errEvent_pend (s : State) (e c v a b : Nat) : (s.errEvent e c v a b).pend = s.pend := by simp [State.errEvent]
@[simp] theorem State.errEvent_comp (s : State) (e c v a b : Nat) : (s.errEvent e c v a b).comp = s.comp := by simp [State.errEvent]
@[simp] theorem State.errEvent_strm (s : State) (e c v a b : Nat) : (s.errEvent e c v a b).strm = s.strm := by simp [State.errEvent]
@[simp] theorem State.errEvent_actv (s : State) (e c v a b : Nat) : (s.errEvent e c v a b).actv = s.actv := by simp [State.errEvent]
@[simp] theorem State.errEvent_dram (s : State) (e c v a b : Nat) : (s.errEvent e c v a b).dram = s.dram := by simp [State.errEvent]
@[simp] theorem State.errEvent_tb (s : State) (e c v a b : Nat) : (s.errEvent e c v a b).tb = s.tb := by simp [State.errEvent]
@[simp] theorem State.errEvent_mbx (s : State) (e c v a b : Nat) : (s.errEvent e c v a b).mbx = s.mbx := by simp [State.errEvent]
@[simp] theorem State.errEvent_sys (s : State) (e c v a b : Nat) : (s.errEvent e c v a b).sys = s.sys := by simp [State.errEvent]
@[simp] theorem State.errEvent_rst (s : State) (e c v a b : Nat) : (s.errEvent e c v a b).rst = s.rst := by simp [State.errEvent]
@[simp] theorem State.errEvent_aon (s : State) (e c v a b : Nat) : (s.errEvent e c v a b).aon = s.aon := by simp [State.errEvent]
@[simp] theorem State.errEvent_csi (s : State) (e c v a b : Nat) : (s.errEvent e c v a b).csi = s.csi := by simp [State.errEvent]
@[simp] theorem State.errEvent_lec (s : State) (e c v a b : Nat) : (s.errEvent e c v a b).lec = s.lec := by simp [State.errEvent]
@[simp] theorem State.errEvent_dmc (s : State) (e c v a b : Nat) : (s.errEvent e c v a b).dmc = s.dmc := by simp [State.errEvent]
@[simp] theorem State.errEvent_cal (s : State) (e c v a b : Nat) : (s.errEvent e c v a b).cal = s.cal := by simp [State.errEvent]
@[simp] theorem State.errEvent_tap (s : State) (e c v a b : Nat) : (s.errEvent e c v a b).tap = s.tap := by simp [State.errEvent]
@[simp] theorem State.errEvent_fw (s : State) (e c v a b : Nat) : (s.errEvent e c v a b).fw = s.fw := by simp [State.errEvent]
@[simp] theorem State.errEvent_requests (s : State) (e c v a b : Nat) : (s.errEvent e c v a b).requests = s.requests := by simp [State.errEvent]

/-! ### setMode -/

@[simp] theorem State.setMode_pending (s : State) (m c : Nat) : (s.setMode m c).pending = s.pending := by simp [State.setMode]
@[simp] theorem State.setMode_pend (s : State) (m c : Nat) : (s.setMode m c).pend = s.pend := by simp [State.setMode]
@[simp] theorem State.setMode_comp (s : State) (m c : Nat) : (s.setMode m c).comp = s.comp := by simp [State.setMode]
@[simp] theorem State.setMode_strm (s : State) (m c : Nat) : (s.setMode m c).strm = s.strm := by simp [State.setMode]
@[simp] theorem State.setMode_actv (s : State) (m c : Nat) : (s.setMode m c).actv = s.actv := by simp [State.setMode]
@[simp] theorem State.setMode_dram (s : State) (m c : Nat) : (s.setMode m c).dram = s.dram := by simp [State.setMode]
@[simp] theorem State.setMode_tb (s : State) (m c : Nat) : (s.setMode m c).tb = s.tb := by simp [State.setMode]
@[simp] theorem State.setMode_mbx (s : State) (m c : Nat) : (s.setMode m c).mbx = s.mbx := by simp [State.setMode]
@[simp] theorem State.setMode_sys (s : State) (m c : Nat) : (s.setMode m c).sys = s.sys := by simp [State.setMode]
@[simp] theorem State.setMode_rst (s : State) (m c : Nat) : (s.setMode m c).rst = s.rst := by simp [State.setMode]
@[simp] theorem State.setMode_aon (s : State) (m c : Nat) : (s.setMode m c).aon = s.aon := by simp [State.setMode]
@[simp] theorem State.setMode_csi (s : State) (m c : Nat) : (s.setMode m c).csi = s.csi := by simp [State.setMode]
@[simp] theorem State.setMode_lec (s : State) (m c : Nat) : (s.setMode m c).lec = s.lec := by simp [State.setMode]
@[simp] theorem State.setMode_dmc (s : State) (m c : Nat) : (s.setMode m c).dmc = s.dmc := by simp [State.setMode]
@[simp] theorem State.setMode_cal (s : State) (m c : Nat) : (s.setMode m c).cal = s.cal := by simp [State.setMode]
@[simp] theorem State.setMode_tap (s : State) (m c : Nat) : (s.setMode m c).tap = s.tap := by simp [State.setMode]
@[simp] theorem State.setMode_fw (s : State) (m c : Nat) : (s.setMode m c).fw = s.fw := by simp [State.setMode]
@[simp] theorem State.setMode_requests (s : State) (m c : Nat) : (s.setMode m c).requests = s.requests := by simp [State.setMode]

/-! ### modPort -/

@[simp] theorem State.modPort_pending (s : State) (p : Fin 3) (g : Port → Port) : (s.modPort p g).pending = s.pending := by simp [State.modPort]
@[simp] theorem State.modPort_regs (s : State) (p : Fin 3) (g : Port → Port) : (s.modPort p g).regs = s.regs := by simp [State.modPort]
@[simp] theorem State.modPort_pend (s : State) (p : Fin 3) (g : Port → Port) : (s.modPort p g).pend = s.pend := by simp [State.modPort]
@[simp] theorem State.modPort_comp (s : State) (p : Fin 3) (g : Port → Port) : (s.modPort p g).comp = s.comp := by simp [State.modPort]
@[simp] theorem State.modPort_strm (s : State) (p : Fin 3) (g : Port → Port) : (s.modPort p g).strm = s.strm := by simp [State.modPort]
@[simp] theorem State.modPort_actv (s : State) (p : Fin 3) (g : Port → Port) : (s.modPort p g).actv = s.actv := by simp [State.modPort]
@[simp] theorem State.modPort_dram (s : State) (p : Fin 3) (g : Port → Port) : (s.modPort p g).dram = s.dram := by simp [State.modPort]
@[simp] theorem State.modPort_tb (s : State) (p : Fin 3) (g : Port → Port) : (s.modPort p g).tb = s.tb := by simp [State.modPort]
@[simp] theorem State.modPort_evr (s : State) (p : Fin 3) (g : Port → Port) : (s.modPort p g).evr = s.evr := by simp [State.modPort]
@[simp] theorem State.modPort_sys (s : State) (p : Fin 3) (g : Port → Port) : (s.modPort p g).sys = s.sys := by simp [State.modPort]
@[simp] theorem State.modPort_rst (s : State) (p : Fin 3) (g : Port → Port) : (s.modPort p g).rst = s.rst := by simp [State.modPort]
@[simp] theorem State.modPort_aon (s : State) (p : Fin 3) (g : Port → Port) : (s.modPort p g).aon = s.aon := by simp [State.modPort]
@[simp] theorem State.modPort_pins (s : State) (p : Fin 3) (g : Port → Port) : (s.modPort p g).pins = s.pins := by simp [State.modPort]
@[simp] theorem State.modPort_csi (s : State) (p : Fin 3) (g : Port → Port) : (s.modPort p g).csi = s.csi := by simp [State.modPort]
@[simp] theorem State.modPort_lec (s : State) (p : Fin 3) (g : Port → Port) : (s.modPort p g).lec = s.lec := by simp [State.modPort]
@[simp] theorem State.modPort_dmc (s : State) (p : Fin 3) (g : Port → Port) : (s.modPort p g).dmc = s.dmc := by simp [State.modPort]
@[simp] theorem State.modPort_cal (s : State) (p : Fin 3) (g : Port → Port) : (s.modPort p g).cal = s.cal := by simp [State.modPort]
@[simp] theorem State.modPort_tap (s : State) (p : Fin 3) (g : Port → Port) : (s.modPort p g).tap = s.tap := by simp [State.modPort]
@[simp] theorem State.modPort_fw (s : State) (p : Fin 3) (g : Port → Port) : (s.modPort p g).fw = s.fw := by simp [State.modPort]
@[simp] theorem State.modPort_requests (s : State) (p : Fin 3) (g : Port → Port) : (s.modPort p g).requests = s.requests := by simp [State.modPort]
@[simp] theorem State.modPort_free (s : State) (p : Fin 3) (g : Port → Port) : (s.modPort p g).free = s.free := by simp [State.modPort]

/-! ### notify -/

@[simp] theorem State.notify_pending (s : State) (p : Fin 3) (o : Nat) (l : List Byte) : (s.notify p o l).pending = s.pending := by
    unfold State.notify; dsimp only; repeat' split
    all_goals simp
@[simp] theorem State.notify_pend (s : State) (p : Fin 3) (o : Nat) (l : List Byte) : (s.notify p o l).pend = s.pend := by
    unfold State.notify; dsimp only; repeat' split
    all_goals simp
@[simp] theorem State.notify_comp (s : State) (p : Fin 3) (o : Nat) (l : List Byte) : (s.notify p o l).comp = s.comp := by
    unfold State.notify; dsimp only; repeat' split
    all_goals simp
@[simp] theorem State.notify_strm (s : State) (p : Fin 3) (o : Nat) (l : List Byte) : (s.notify p o l).strm = s.strm := by
    unfold State.notify; dsimp only; repeat' split
    all_goals simp
@[simp] theorem State.notify_actv (s : State) (p : Fin 3) (o : Nat) (l : List Byte) : (s.notify p o l).actv = s.actv := by
    unfold State.notify; dsimp only; repeat' split
    all_goals simp
@[simp] theorem State.notify_dram (s : State) (p : Fin 3) (o : Nat) (l : List Byte) : (s.notify p o l).dram = s.dram := by
    unfold State.notify; dsimp only; repeat' split
    all_goals simp
@[simp] theorem State.notify_tb (s : State) (p : Fin 3) (o : Nat) (l : List Byte) : (s.notify p o l).tb = s.tb := by
    unfold State.notify; dsimp only; repeat' split
    all_goals simp
@[simp] theorem State.notify_sys (s : State) (p : Fin 3) (o : Nat) (l : List Byte) : (s.notify p o l).sys = s.sys := by
    unfold State.notify; dsimp only; repeat' split
    all_goals simp
@[simp] theorem State.notify_rst (s : State) (p : Fin 3) (o : Nat) (l : List Byte) : (s.notify p o l).rst = s.rst := by
    unfold State.notify; dsimp only; repeat' split
    all_goals simp
@[simp] theorem State.notify_aon (s : State) (p : Fin 3) (o : Nat) (l : List Byte) : (s.notify p o l).aon = s.aon := by
    unfold State.notify; dsimp only; repeat' split
    all_goals simp
@[simp] theorem State.notify_csi (s : State) (p : Fin 3) (o : Nat) (l : List Byte) : (s.notify p o l).csi = s.csi := by
    unfold State.notify; dsimp only; repeat' split
    all_goals simp
@[simp] theorem State.notify_lec (s : State) (p : Fin 3) (o : Nat) (l : List Byte) : (s.notify p o l).lec = s.lec := by
    unfold State.notify; dsimp only; repeat' split
    all_goals simp
@[simp] theorem State.notify_dmc (s : State) (p : Fin 3) (o : Nat) (l : List Byte) : (s.notify p o l).dmc = s.dmc := by
    unfold State.notify; dsimp only; repeat' split
    all_goals simp
@[simp] theorem State.notify_cal (s : State) (p : Fin 3) (o : Nat) (l : List Byte) : (s.notify p o l).cal = s.cal := by
    unfold State.notify; dsimp only; repeat' split
    all_goals simp
@[simp] theorem State.notify_tap (s : State) (p : Fin 3) (o : Nat) (l : List Byte) : (s.notify p o l).tap = s.tap := by
    unfold State.notify; dsimp only; repeat' split
    all_goals simp
@[simp] theorem State.notify_fw (s : State) (p : Fin 3) (o : Nat) (l : List Byte) : (s.notify p o l).fw = s.fw := by
    unfold State.notify; dsimp only; repeat' split
    all_goals simp
@[simp] theorem State.notify_requests (s : State) (p : Fin 3) (o : Nat) (l : List Byte) : (s.notify p o l).requests = s.requests := by
    unfold State.notify; dsimp only; repeat' split
    all_goals simp

/-! ### done -/

@[simp] theorem State.done_pending (s : State) (t : Tag) (st d : Nat) : (s.done t st d).pending = s.pending := by unfold State.done; split <;> simp
@[simp] theorem State.done_pend (s : State) (t : Tag) (st d : Nat) : (s.done t st d).pend = s.pend := by unfold State.done; split <;> simp
@[simp] theorem State.done_comp (s : State) (t : Tag) (st d : Nat) : (s.done t st d).comp = s.comp := by unfold State.done; split <;> simp
@[simp] theorem State.done_strm (s : State) (t : Tag) (st d : Nat) : (s.done t st d).strm = s.strm := by unfold State.done; split <;> simp
@[simp] theorem State.done_actv (s : State) (t : Tag) (st d : Nat) : (s.done t st d).actv = s.actv := by unfold State.done; split <;> simp
@[simp] theorem State.done_dram (s : State) (t : Tag) (st d : Nat) : (s.done t st d).dram = s.dram := by unfold State.done; split <;> simp
@[simp] theorem State.done_tb (s : State) (t : Tag) (st d : Nat) : (s.done t st d).tb = s.tb := by unfold State.done; split <;> simp
@[simp] theorem State.done_sys (s : State) (t : Tag) (st d : Nat) : (s.done t st d).sys = s.sys := by unfold State.done; split <;> simp
@[simp] theorem State.done_rst (s : State) (t : Tag) (st d : Nat) : (s.done t st d).rst = s.rst := by unfold State.done; split <;> simp
@[simp] theorem State.done_aon (s : State) (t : Tag) (st d : Nat) : (s.done t st d).aon = s.aon := by unfold State.done; split <;> simp
@[simp] theorem State.done_csi (s : State) (t : Tag) (st d : Nat) : (s.done t st d).csi = s.csi := by unfold State.done; split <;> simp
@[simp] theorem State.done_lec (s : State) (t : Tag) (st d : Nat) : (s.done t st d).lec = s.lec := by unfold State.done; split <;> simp
@[simp] theorem State.done_dmc (s : State) (t : Tag) (st d : Nat) : (s.done t st d).dmc = s.dmc := by unfold State.done; split <;> simp
@[simp] theorem State.done_cal (s : State) (t : Tag) (st d : Nat) : (s.done t st d).cal = s.cal := by unfold State.done; split <;> simp
@[simp] theorem State.done_tap (s : State) (t : Tag) (st d : Nat) : (s.done t st d).tap = s.tap := by unfold State.done; split <;> simp
@[simp] theorem State.done_fw (s : State) (t : Tag) (st d : Nat) : (s.done t st d).fw = s.fw := by unfold State.done; split <;> simp
@[simp] theorem State.done_requests (s : State) (t : Tag) (st d : Nat) : (s.done t st d).requests = s.requests := by unfold State.done; split <;> simp

/-! ### doneOpt -/

@[simp] theorem State.doneOpt_pending (s : State) (t : Option Tag) (st d : Nat) : (s.doneOpt t st d).pending = s.pending := by cases t <;> simp [State.doneOpt]
@[simp] theorem State.doneOpt_pend (s : State) (t : Option Tag) (st d : Nat) : (s.doneOpt t st d).pend = s.pend := by cases t <;> simp [State.doneOpt]
@[simp] theorem State.doneOpt_comp (s : State) (t : Option Tag) (st d : Nat) : (s.doneOpt t st d).comp = s.comp := by cases t <;> simp [State.doneOpt]
@[simp] theorem State.doneOpt_strm (s : State) (t : Option Tag) (st d : Nat) : (s.doneOpt t st d).strm = s.strm := by cases t <;> simp [State.doneOpt]
@[simp] theorem State.doneOpt_actv (s : State) (t : Option Tag) (st d : Nat) : (s.doneOpt t st d).actv = s.actv := by cases t <;> simp [State.doneOpt]
@[simp] theorem State.doneOpt_dram (s : State) (t : Option Tag) (st d : Nat) : (s.doneOpt t st d).dram = s.dram := by cases t <;> simp [State.doneOpt]
@[simp] theorem State.doneOpt_tb (s : State) (t : Option Tag) (st d : Nat) : (s.doneOpt t st d).tb = s.tb := by cases t <;> simp [State.doneOpt]
@[simp] theorem State.doneOpt_sys (s : State) (t : Option Tag) (st d : Nat) : (s.doneOpt t st d).sys = s.sys := by cases t <;> simp [State.doneOpt]
@[simp] theorem State.doneOpt_rst (s : State) (t : Option Tag) (st d : Nat) : (s.doneOpt t st d).rst = s.rst := by cases t <;> simp [State.doneOpt]
@[simp] theorem State.doneOpt_aon (s : State) (t : Option Tag) (st d : Nat) : (s.doneOpt t st d).aon = s.aon := by cases t <;> simp [State.doneOpt]
@[simp] theorem State.doneOpt_csi (s : State) (t : Option Tag) (st d : Nat) : (s.doneOpt t st d).csi = s.csi := by cases t <;> simp [State.doneOpt]
@[simp] theorem State.doneOpt_lec (s : State) (t : Option Tag) (st d : Nat) : (s.doneOpt t st d).lec = s.lec := by cases t <;> simp [State.doneOpt]
@[simp] theorem State.doneOpt_dmc (s : State) (t : Option Tag) (st d : Nat) : (s.doneOpt t st d).dmc = s.dmc := by cases t <;> simp [State.doneOpt]
@[simp] theorem State.doneOpt_cal (s : State) (t : Option Tag) (st d : Nat) : (s.doneOpt t st d).cal = s.cal := by cases t <;> simp [State.doneOpt]
@[simp] theorem State.doneOpt_tap (s : State) (t : Option Tag) (st d : Nat) : (s.doneOpt t st d).tap = s.tap := by cases t <;> simp [State.doneOpt]
@[simp] theorem State.doneOpt_fw (s : State) (t : Option Tag) (st d : Nat) : (s.doneOpt t st d).fw = s.fw := by cases t <;> simp [State.doneOpt]
@[simp] theorem State.doneOpt_requests (s : State) (t : Option Tag) (st d : Nat) : (s.doneOpt t st d).requests = s.requests := by cases t <;> simp [State.doneOpt]

/-! ### modLink -/

@[simp] theorem State.modLink_pending (s : State) (n : Fin 4) (g : LinkRun → LinkRun) : (s.modLink n g).pending = s.pending := by simp [State.modLink]
@[simp] theorem State.modLink_regs (s : State) (n : Fin 4) (g : LinkRun → LinkRun) : (s.modLink n g).regs = s.regs := by simp [State.modLink]
@[simp] theorem State.modLink_pend (s : State) (n : Fin 4) (g : LinkRun → LinkRun) : (s.modLink n g).pend = s.pend := by simp [State.modLink]
@[simp] theorem State.modLink_comp (s : State) (n : Fin 4) (g : LinkRun → LinkRun) : (s.modLink n g).comp = s.comp := by simp [State.modLink]
@[simp] theorem State.modLink_strm (s : State) (n : Fin 4) (g : LinkRun → LinkRun) : (s.modLink n g).strm = s.strm := by simp [State.modLink]
@[simp] theorem State.modLink_actv (s : State) (n : Fin 4) (g : LinkRun → LinkRun) : (s.modLink n g).actv = s.actv := by simp [State.modLink]
@[simp] theorem State.modLink_dram (s : State) (n : Fin 4) (g : LinkRun → LinkRun) : (s.modLink n g).dram = s.dram := by simp [State.modLink]
@[simp] theorem State.modLink_tb (s : State) (n : Fin 4) (g : LinkRun → LinkRun) : (s.modLink n g).tb = s.tb := by simp [State.modLink]
@[simp] theorem State.modLink_evr (s : State) (n : Fin 4) (g : LinkRun → LinkRun) : (s.modLink n g).evr = s.evr := by simp [State.modLink]
@[simp] theorem State.modLink_mbx (s : State) (n : Fin 4) (g : LinkRun → LinkRun) : (s.modLink n g).mbx = s.mbx := by simp [State.modLink]
@[simp] theorem State.modLink_sys (s : State) (n : Fin 4) (g : LinkRun → LinkRun) : (s.modLink n g).sys = s.sys := by simp [State.modLink]
@[simp] theorem State.modLink_rst (s : State) (n : Fin 4) (g : LinkRun → LinkRun) : (s.modLink n g).rst = s.rst := by simp [State.modLink]
@[simp] theorem State.modLink_aon (s : State) (n : Fin 4) (g : LinkRun → LinkRun) : (s.modLink n g).aon = s.aon := by simp [State.modLink]
@[simp] theorem State.modLink_pins (s : State) (n : Fin 4) (g : LinkRun → LinkRun) : (s.modLink n g).pins = s.pins := by simp [State.modLink]
@[simp] theorem State.modLink_csi (s : State) (n : Fin 4) (g : LinkRun → LinkRun) : (s.modLink n g).csi = s.csi := by simp [State.modLink]
@[simp] theorem State.modLink_dmc (s : State) (n : Fin 4) (g : LinkRun → LinkRun) : (s.modLink n g).dmc = s.dmc := by simp [State.modLink]
@[simp] theorem State.modLink_cal (s : State) (n : Fin 4) (g : LinkRun → LinkRun) : (s.modLink n g).cal = s.cal := by simp [State.modLink]
@[simp] theorem State.modLink_tap (s : State) (n : Fin 4) (g : LinkRun → LinkRun) : (s.modLink n g).tap = s.tap := by simp [State.modLink]
@[simp] theorem State.modLink_fw (s : State) (n : Fin 4) (g : LinkRun → LinkRun) : (s.modLink n g).fw = s.fw := by simp [State.modLink]
@[simp] theorem State.modLink_requests (s : State) (n : Fin 4) (g : LinkRun → LinkRun) : (s.modLink n g).requests = s.requests := by simp [State.modLink]
@[simp] theorem State.modLink_free (s : State) (n : Fin 4) (g : LinkRun → LinkRun) : (s.modLink n g).free = s.free := by simp [State.modLink]

/-! ### modMask -/

@[simp] theorem State.modMask_pending (s : State) (n : Fin 4) (g : MaskRun → MaskRun) : (s.modMask n g).pending = s.pending := by simp [State.modMask]
@[simp] theorem State.modMask_regs (s : State) (n : Fin 4) (g : MaskRun → MaskRun) : (s.modMask n g).regs = s.regs := by simp [State.modMask]
@[simp] theorem State.modMask_pend (s : State) (n : Fin 4) (g : MaskRun → MaskRun) : (s.modMask n g).pend = s.pend := by simp [State.modMask]
@[simp] theorem State.modMask_comp (s : State) (n : Fin 4) (g : MaskRun → MaskRun) : (s.modMask n g).comp = s.comp := by simp [State.modMask]
@[simp] theorem State.modMask_strm (s : State) (n : Fin 4) (g : MaskRun → MaskRun) : (s.modMask n g).strm = s.strm := by simp [State.modMask]
@[simp] theorem State.modMask_actv (s : State) (n : Fin 4) (g : MaskRun → MaskRun) : (s.modMask n g).actv = s.actv := by simp [State.modMask]
@[simp] theorem State.modMask_dram (s : State) (n : Fin 4) (g : MaskRun → MaskRun) : (s.modMask n g).dram = s.dram := by simp [State.modMask]
@[simp] theorem State.modMask_tb (s : State) (n : Fin 4) (g : MaskRun → MaskRun) : (s.modMask n g).tb = s.tb := by simp [State.modMask]
@[simp] theorem State.modMask_evr (s : State) (n : Fin 4) (g : MaskRun → MaskRun) : (s.modMask n g).evr = s.evr := by simp [State.modMask]
@[simp] theorem State.modMask_mbx (s : State) (n : Fin 4) (g : MaskRun → MaskRun) : (s.modMask n g).mbx = s.mbx := by simp [State.modMask]
@[simp] theorem State.modMask_sys (s : State) (n : Fin 4) (g : MaskRun → MaskRun) : (s.modMask n g).sys = s.sys := by simp [State.modMask]
@[simp] theorem State.modMask_rst (s : State) (n : Fin 4) (g : MaskRun → MaskRun) : (s.modMask n g).rst = s.rst := by simp [State.modMask]
@[simp] theorem State.modMask_aon (s : State) (n : Fin 4) (g : MaskRun → MaskRun) : (s.modMask n g).aon = s.aon := by simp [State.modMask]
@[simp] theorem State.modMask_pins (s : State) (n : Fin 4) (g : MaskRun → MaskRun) : (s.modMask n g).pins = s.pins := by simp [State.modMask]
@[simp] theorem State.modMask_csi (s : State) (n : Fin 4) (g : MaskRun → MaskRun) : (s.modMask n g).csi = s.csi := by simp [State.modMask]
@[simp] theorem State.modMask_dmc (s : State) (n : Fin 4) (g : MaskRun → MaskRun) : (s.modMask n g).dmc = s.dmc := by simp [State.modMask]
@[simp] theorem State.modMask_cal (s : State) (n : Fin 4) (g : MaskRun → MaskRun) : (s.modMask n g).cal = s.cal := by simp [State.modMask]
@[simp] theorem State.modMask_tap (s : State) (n : Fin 4) (g : MaskRun → MaskRun) : (s.modMask n g).tap = s.tap := by simp [State.modMask]
@[simp] theorem State.modMask_fw (s : State) (n : Fin 4) (g : MaskRun → MaskRun) : (s.modMask n g).fw = s.fw := by simp [State.modMask]
@[simp] theorem State.modMask_requests (s : State) (n : Fin 4) (g : MaskRun → MaskRun) : (s.modMask n g).requests = s.requests := by simp [State.modMask]
@[simp] theorem State.modMask_free (s : State) (n : Fin 4) (g : MaskRun → MaskRun) : (s.modMask n g).free = s.free := by simp [State.modMask]

/-! ### modSrc -/

@[simp] theorem State.modSrc_pending (s : State) (n : Fin 4) (g : SrcRun → SrcRun) : (s.modSrc n g).pending = s.pending := by simp [State.modSrc]
@[simp] theorem State.modSrc_regs (s : State) (n : Fin 4) (g : SrcRun → SrcRun) : (s.modSrc n g).regs = s.regs := by simp [State.modSrc]
@[simp] theorem State.modSrc_pend (s : State) (n : Fin 4) (g : SrcRun → SrcRun) : (s.modSrc n g).pend = s.pend := by simp [State.modSrc]
@[simp] theorem State.modSrc_comp (s : State) (n : Fin 4) (g : SrcRun → SrcRun) : (s.modSrc n g).comp = s.comp := by simp [State.modSrc]
@[simp] theorem State.modSrc_strm (s : State) (n : Fin 4) (g : SrcRun → SrcRun) : (s.modSrc n g).strm = s.strm := by simp [State.modSrc]
@[simp] theorem State.modSrc_actv (s : State) (n : Fin 4) (g : SrcRun → SrcRun) : (s.modSrc n g).actv = s.actv := by simp [State.modSrc]
@[simp] theorem State.modSrc_dram (s : State) (n : Fin 4) (g : SrcRun → SrcRun) : (s.modSrc n g).dram = s.dram := by simp [State.modSrc]
@[simp] theorem State.modSrc_tb (s : State) (n : Fin 4) (g : SrcRun → SrcRun) : (s.modSrc n g).tb = s.tb := by simp [State.modSrc]
@[simp] theorem State.modSrc_evr (s : State) (n : Fin 4) (g : SrcRun → SrcRun) : (s.modSrc n g).evr = s.evr := by simp [State.modSrc]
@[simp] theorem State.modSrc_mbx (s : State) (n : Fin 4) (g : SrcRun → SrcRun) : (s.modSrc n g).mbx = s.mbx := by simp [State.modSrc]
@[simp] theorem State.modSrc_sys (s : State) (n : Fin 4) (g : SrcRun → SrcRun) : (s.modSrc n g).sys = s.sys := by simp [State.modSrc]
@[simp] theorem State.modSrc_rst (s : State) (n : Fin 4) (g : SrcRun → SrcRun) : (s.modSrc n g).rst = s.rst := by simp [State.modSrc]
@[simp] theorem State.modSrc_aon (s : State) (n : Fin 4) (g : SrcRun → SrcRun) : (s.modSrc n g).aon = s.aon := by simp [State.modSrc]
@[simp] theorem State.modSrc_pins (s : State) (n : Fin 4) (g : SrcRun → SrcRun) : (s.modSrc n g).pins = s.pins := by simp [State.modSrc]
@[simp] theorem State.modSrc_csi (s : State) (n : Fin 4) (g : SrcRun → SrcRun) : (s.modSrc n g).csi = s.csi := by simp [State.modSrc]
@[simp] theorem State.modSrc_dmc (s : State) (n : Fin 4) (g : SrcRun → SrcRun) : (s.modSrc n g).dmc = s.dmc := by simp [State.modSrc]
@[simp] theorem State.modSrc_cal (s : State) (n : Fin 4) (g : SrcRun → SrcRun) : (s.modSrc n g).cal = s.cal := by simp [State.modSrc]
@[simp] theorem State.modSrc_tap (s : State) (n : Fin 4) (g : SrcRun → SrcRun) : (s.modSrc n g).tap = s.tap := by simp [State.modSrc]
@[simp] theorem State.modSrc_fw (s : State) (n : Fin 4) (g : SrcRun → SrcRun) : (s.modSrc n g).fw = s.fw := by simp [State.modSrc]
@[simp] theorem State.modSrc_requests (s : State) (n : Fin 4) (g : SrcRun → SrcRun) : (s.modSrc n g).requests = s.requests := by simp [State.modSrc]
@[simp] theorem State.modSrc_free (s : State) (n : Fin 4) (g : SrcRun → SrcRun) : (s.modSrc n g).free = s.free := by simp [State.modSrc]

/-! ### send -/

@[simp] theorem State.send_pending (s : State) (n : Fin 4) (o : Nat) (l : List Byte) : (s.send n o l).pending = s.pending := by unfold State.send; dsimp only; split <;> simp
@[simp] theorem State.send_regs (s : State) (n : Fin 4) (o : Nat) (l : List Byte) : (s.send n o l).regs = s.regs := by unfold State.send; dsimp only; split <;> simp
@[simp] theorem State.send_pend (s : State) (n : Fin 4) (o : Nat) (l : List Byte) : (s.send n o l).pend = s.pend := by unfold State.send; dsimp only; split <;> simp
@[simp] theorem State.send_comp (s : State) (n : Fin 4) (o : Nat) (l : List Byte) : (s.send n o l).comp = s.comp := by unfold State.send; dsimp only; split <;> simp
@[simp] theorem State.send_strm (s : State) (n : Fin 4) (o : Nat) (l : List Byte) : (s.send n o l).strm = s.strm := by unfold State.send; dsimp only; split <;> simp
@[simp] theorem State.send_actv (s : State) (n : Fin 4) (o : Nat) (l : List Byte) : (s.send n o l).actv = s.actv := by unfold State.send; dsimp only; split <;> simp
@[simp] theorem State.send_dram (s : State) (n : Fin 4) (o : Nat) (l : List Byte) : (s.send n o l).dram = s.dram := by unfold State.send; dsimp only; split <;> simp
@[simp] theorem State.send_tb (s : State) (n : Fin 4) (o : Nat) (l : List Byte) : (s.send n o l).tb = s.tb := by unfold State.send; dsimp only; split <;> simp
@[simp] theorem State.send_evr (s : State) (n : Fin 4) (o : Nat) (l : List Byte) : (s.send n o l).evr = s.evr := by unfold State.send; dsimp only; split <;> simp
@[simp] theorem State.send_mbx (s : State) (n : Fin 4) (o : Nat) (l : List Byte) : (s.send n o l).mbx = s.mbx := by unfold State.send; dsimp only; split <;> simp
@[simp] theorem State.send_sys (s : State) (n : Fin 4) (o : Nat) (l : List Byte) : (s.send n o l).sys = s.sys := by unfold State.send; dsimp only; split <;> simp
@[simp] theorem State.send_rst (s : State) (n : Fin 4) (o : Nat) (l : List Byte) : (s.send n o l).rst = s.rst := by unfold State.send; dsimp only; split <;> simp
@[simp] theorem State.send_aon (s : State) (n : Fin 4) (o : Nat) (l : List Byte) : (s.send n o l).aon = s.aon := by unfold State.send; dsimp only; split <;> simp
@[simp] theorem State.send_pins (s : State) (n : Fin 4) (o : Nat) (l : List Byte) : (s.send n o l).pins = s.pins := by unfold State.send; dsimp only; split <;> simp
@[simp] theorem State.send_csi (s : State) (n : Fin 4) (o : Nat) (l : List Byte) : (s.send n o l).csi = s.csi := by unfold State.send; dsimp only; split <;> simp
@[simp] theorem State.send_dmc (s : State) (n : Fin 4) (o : Nat) (l : List Byte) : (s.send n o l).dmc = s.dmc := by unfold State.send; dsimp only; split <;> simp
@[simp] theorem State.send_cal (s : State) (n : Fin 4) (o : Nat) (l : List Byte) : (s.send n o l).cal = s.cal := by unfold State.send; dsimp only; split <;> simp
@[simp] theorem State.send_tap (s : State) (n : Fin 4) (o : Nat) (l : List Byte) : (s.send n o l).tap = s.tap := by unfold State.send; dsimp only; split <;> simp
@[simp] theorem State.send_fw (s : State) (n : Fin 4) (o : Nat) (l : List Byte) : (s.send n o l).fw = s.fw := by unfold State.send; dsimp only; split <;> simp
@[simp] theorem State.send_requests (s : State) (n : Fin 4) (o : Nat) (l : List Byte) : (s.send n o l).requests = s.requests := by unfold State.send; dsimp only; split <;> simp
@[simp] theorem State.send_free (s : State) (n : Fin 4) (o : Nat) (l : List Byte) : (s.send n o l).free = s.free := by unfold State.send; dsimp only; split <;> simp

/-! ### mgmt -/

@[simp] theorem State.mgmt_pending (s : State) (n : Fin 4) (o : Nat) (l : List Byte) : (s.mgmt n o l).pending = s.pending := by simp [State.mgmt]
@[simp] theorem State.mgmt_regs (s : State) (n : Fin 4) (o : Nat) (l : List Byte) : (s.mgmt n o l).regs = s.regs := by simp [State.mgmt]
@[simp] theorem State.mgmt_pend (s : State) (n : Fin 4) (o : Nat) (l : List Byte) : (s.mgmt n o l).pend = s.pend := by simp [State.mgmt]
@[simp] theorem State.mgmt_comp (s : State) (n : Fin 4) (o : Nat) (l : List Byte) : (s.mgmt n o l).comp = s.comp := by simp [State.mgmt]
@[simp] theorem State.mgmt_strm (s : State) (n : Fin 4) (o : Nat) (l : List Byte) : (s.mgmt n o l).strm = s.strm := by simp [State.mgmt]
@[simp] theorem State.mgmt_actv (s : State) (n : Fin 4) (o : Nat) (l : List Byte) : (s.mgmt n o l).actv = s.actv := by simp [State.mgmt]
@[simp] theorem State.mgmt_dram (s : State) (n : Fin 4) (o : Nat) (l : List Byte) : (s.mgmt n o l).dram = s.dram := by simp [State.mgmt]
@[simp] theorem State.mgmt_tb (s : State) (n : Fin 4) (o : Nat) (l : List Byte) : (s.mgmt n o l).tb = s.tb := by simp [State.mgmt]
@[simp] theorem State.mgmt_evr (s : State) (n : Fin 4) (o : Nat) (l : List Byte) : (s.mgmt n o l).evr = s.evr := by simp [State.mgmt]
@[simp] theorem State.mgmt_mbx (s : State) (n : Fin 4) (o : Nat) (l : List Byte) : (s.mgmt n o l).mbx = s.mbx := by simp [State.mgmt]
@[simp] theorem State.mgmt_sys (s : State) (n : Fin 4) (o : Nat) (l : List Byte) : (s.mgmt n o l).sys = s.sys := by simp [State.mgmt]
@[simp] theorem State.mgmt_rst (s : State) (n : Fin 4) (o : Nat) (l : List Byte) : (s.mgmt n o l).rst = s.rst := by simp [State.mgmt]
@[simp] theorem State.mgmt_aon (s : State) (n : Fin 4) (o : Nat) (l : List Byte) : (s.mgmt n o l).aon = s.aon := by simp [State.mgmt]
@[simp] theorem State.mgmt_pins (s : State) (n : Fin 4) (o : Nat) (l : List Byte) : (s.mgmt n o l).pins = s.pins := by simp [State.mgmt]
@[simp] theorem State.mgmt_csi (s : State) (n : Fin 4) (o : Nat) (l : List Byte) : (s.mgmt n o l).csi = s.csi := by simp [State.mgmt]
@[simp] theorem State.mgmt_dmc (s : State) (n : Fin 4) (o : Nat) (l : List Byte) : (s.mgmt n o l).dmc = s.dmc := by simp [State.mgmt]
@[simp] theorem State.mgmt_cal (s : State) (n : Fin 4) (o : Nat) (l : List Byte) : (s.mgmt n o l).cal = s.cal := by simp [State.mgmt]
@[simp] theorem State.mgmt_tap (s : State) (n : Fin 4) (o : Nat) (l : List Byte) : (s.mgmt n o l).tap = s.tap := by simp [State.mgmt]
@[simp] theorem State.mgmt_fw (s : State) (n : Fin 4) (o : Nat) (l : List Byte) : (s.mgmt n o l).fw = s.fw := by simp [State.mgmt]
@[simp] theorem State.mgmt_requests (s : State) (n : Fin 4) (o : Nat) (l : List Byte) : (s.mgmt n o l).requests = s.requests := by simp [State.mgmt]
@[simp] theorem State.mgmt_free (s : State) (n : Fin 4) (o : Nat) (l : List Byte) : (s.mgmt n o l).free = s.free := by simp [State.mgmt]

/-! ### hostWrite -/

@[simp] theorem State.hostWrite_pending (s : State) (a : Nat) (l : List Byte) : (s.hostWrite a l).pending = s.pending := by simp [State.hostWrite]
@[simp] theorem State.hostWrite_regs (s : State) (a : Nat) (l : List Byte) : (s.hostWrite a l).regs = s.regs := by simp [State.hostWrite]
@[simp] theorem State.hostWrite_pend (s : State) (a : Nat) (l : List Byte) : (s.hostWrite a l).pend = s.pend := by simp [State.hostWrite]
@[simp] theorem State.hostWrite_comp (s : State) (a : Nat) (l : List Byte) : (s.hostWrite a l).comp = s.comp := by simp [State.hostWrite]
@[simp] theorem State.hostWrite_strm (s : State) (a : Nat) (l : List Byte) : (s.hostWrite a l).strm = s.strm := by simp [State.hostWrite]
@[simp] theorem State.hostWrite_actv (s : State) (a : Nat) (l : List Byte) : (s.hostWrite a l).actv = s.actv := by simp [State.hostWrite]
@[simp] theorem State.hostWrite_dram (s : State) (a : Nat) (l : List Byte) : (s.hostWrite a l).dram = s.dram := by simp [State.hostWrite]
@[simp] theorem State.hostWrite_tb (s : State) (a : Nat) (l : List Byte) : (s.hostWrite a l).tb = s.tb := by simp [State.hostWrite]
@[simp] theorem State.hostWrite_evr (s : State) (a : Nat) (l : List Byte) : (s.hostWrite a l).evr = s.evr := by simp [State.hostWrite]
@[simp] theorem State.hostWrite_sys (s : State) (a : Nat) (l : List Byte) : (s.hostWrite a l).sys = s.sys := by simp [State.hostWrite]
@[simp] theorem State.hostWrite_rst (s : State) (a : Nat) (l : List Byte) : (s.hostWrite a l).rst = s.rst := by simp [State.hostWrite]
@[simp] theorem State.hostWrite_aon (s : State) (a : Nat) (l : List Byte) : (s.hostWrite a l).aon = s.aon := by simp [State.hostWrite]
@[simp] theorem State.hostWrite_pins (s : State) (a : Nat) (l : List Byte) : (s.hostWrite a l).pins = s.pins := by simp [State.hostWrite]
@[simp] theorem State.hostWrite_csi (s : State) (a : Nat) (l : List Byte) : (s.hostWrite a l).csi = s.csi := by simp [State.hostWrite]
@[simp] theorem State.hostWrite_lec (s : State) (a : Nat) (l : List Byte) : (s.hostWrite a l).lec = s.lec := by simp [State.hostWrite]
@[simp] theorem State.hostWrite_dmc (s : State) (a : Nat) (l : List Byte) : (s.hostWrite a l).dmc = s.dmc := by simp [State.hostWrite]
@[simp] theorem State.hostWrite_cal (s : State) (a : Nat) (l : List Byte) : (s.hostWrite a l).cal = s.cal := by simp [State.hostWrite]
@[simp] theorem State.hostWrite_tap (s : State) (a : Nat) (l : List Byte) : (s.hostWrite a l).tap = s.tap := by simp [State.hostWrite]
@[simp] theorem State.hostWrite_fw (s : State) (a : Nat) (l : List Byte) : (s.hostWrite a l).fw = s.fw := by simp [State.hostWrite]
@[simp] theorem State.hostWrite_requests (s : State) (a : Nat) (l : List Byte) : (s.hostWrite a l).requests = s.requests := by simp [State.hostWrite]
@[simp] theorem State.hostWrite_free (s : State) (a : Nat) (l : List Byte) : (s.hostWrite a l).free = s.free := by simp [State.hostWrite]

/-! ### setBusy -/

@[simp] theorem State.setBusy_pending (s : State) (mb : Nat) (b : Bool) : (s.setBusy mb b).pending = s.pending := by simp [State.setBusy]
@[simp] theorem State.setBusy_pend (s : State) (mb : Nat) (b : Bool) : (s.setBusy mb b).pend = s.pend := by simp [State.setBusy]
@[simp] theorem State.setBusy_comp (s : State) (mb : Nat) (b : Bool) : (s.setBusy mb b).comp = s.comp := by simp [State.setBusy]
@[simp] theorem State.setBusy_strm (s : State) (mb : Nat) (b : Bool) : (s.setBusy mb b).strm = s.strm := by simp [State.setBusy]
@[simp] theorem State.setBusy_actv (s : State) (mb : Nat) (b : Bool) : (s.setBusy mb b).actv = s.actv := by simp [State.setBusy]
@[simp] theorem State.setBusy_dram (s : State) (mb : Nat) (b : Bool) : (s.setBusy mb b).dram = s.dram := by simp [State.setBusy]
@[simp] theorem State.setBusy_tb (s : State) (mb : Nat) (b : Bool) : (s.setBusy mb b).tb = s.tb := by simp [State.setBusy]
@[simp] theorem State.setBusy_evr (s : State) (mb : Nat) (b : Bool) : (s.setBusy mb b).evr = s.evr := by simp [State.setBusy]
@[simp] theorem State.setBusy_mbx (s : State) (mb : Nat) (b : Bool) : (s.setBusy mb b).mbx = s.mbx := by simp [State.setBusy]
@[simp] theorem State.setBusy_sys (s : State) (mb : Nat) (b : Bool) : (s.setBusy mb b).sys = s.sys := by simp [State.setBusy]
@[simp] theorem State.setBusy_rst (s : State) (mb : Nat) (b : Bool) : (s.setBusy mb b).rst = s.rst := by simp [State.setBusy]
@[simp] theorem State.setBusy_aon (s : State) (mb : Nat) (b : Bool) : (s.setBusy mb b).aon = s.aon := by simp [State.setBusy]
@[simp] theorem State.setBusy_pins (s : State) (mb : Nat) (b : Bool) : (s.setBusy mb b).pins = s.pins := by simp [State.setBusy]
@[simp] theorem State.setBusy_csi (s : State) (mb : Nat) (b : Bool) : (s.setBusy mb b).csi = s.csi := by simp [State.setBusy]
@[simp] theorem State.setBusy_lec (s : State) (mb : Nat) (b : Bool) : (s.setBusy mb b).lec = s.lec := by simp [State.setBusy]
@[simp] theorem State.setBusy_dmc (s : State) (mb : Nat) (b : Bool) : (s.setBusy mb b).dmc = s.dmc := by simp [State.setBusy]
@[simp] theorem State.setBusy_cal (s : State) (mb : Nat) (b : Bool) : (s.setBusy mb b).cal = s.cal := by simp [State.setBusy]
@[simp] theorem State.setBusy_tap (s : State) (mb : Nat) (b : Bool) : (s.setBusy mb b).tap = s.tap := by simp [State.setBusy]
@[simp] theorem State.setBusy_fw (s : State) (mb : Nat) (b : Bool) : (s.setBusy mb b).fw = s.fw := by simp [State.setBusy]
@[simp] theorem State.setBusy_requests (s : State) (mb : Nat) (b : Bool) : (s.setBusy mb b).requests = s.requests := by simp [State.setBusy]
@[simp] theorem State.setBusy_free (s : State) (mb : Nat) (b : Bool) : (s.setBusy mb b).free = s.free := by simp [State.setBusy]

/-! ### setFull -/

@[simp] theorem State.setFull_pending (s : State) (mb : Nat) (b : Bool) : (s.setFull mb b).pending = s.pending := by simp [State.setFull]
@[simp] theorem State.setFull_pend (s : State) (mb : Nat) (b : Bool) : (s.setFull mb b).pend = s.pend := by simp [State.setFull]
@[simp] theorem State.setFull_comp (s : State) (mb : Nat) (b : Bool) : (s.setFull mb b).comp = s.comp := by simp [State.setFull]
@[simp] theorem State.setFull_strm (s : State) (mb : Nat) (b : Bool) : (s.setFull mb b).strm = s.strm := by simp [State.setFull]
@[simp] theorem State.setFull_actv (s : State) (mb : Nat) (b : Bool) : (s.setFull mb b).actv = s.actv := by simp [State.setFull]
@[simp] theorem State.setFull_dram (s : State) (mb : Nat) (b : Bool) : (s.setFull mb b).dram = s.dram := by simp [State.setFull]
@[simp] theorem State.setFull_tb (s : State) (mb : Nat) (b : Bool) : (s.setFull mb b).tb = s.tb := by simp [State.setFull]
@[simp] theorem State.setFull_evr (s : State) (mb : Nat) (b : Bool) : (s.setFull mb b).evr = s.evr := by simp [State.setFull]
@[simp] theorem State.setFull_mbx (s : State) (mb : Nat) (b : Bool) : (s.setFull mb b).mbx = s.mbx := by simp [State.setFull]
@[simp] theorem State.setFull_sys (s : State) (mb : Nat) (b : Bool) : (s.setFull mb b).sys = s.sys := by simp [State.setFull]
@[simp] theorem State.setFull_rst (s : State) (mb : Nat) (b : Bool) : (s.setFull mb b).rst = s.rst := by simp [State.setFull]
@[simp] theorem State.setFull_aon (s : State) (mb : Nat) (b : Bool) : (s.setFull mb b).aon = s.aon := by simp [State.setFull]
@[simp] theorem State.setFull_pins (s : State) (mb : Nat) (b : Bool) : (s.setFull mb b).pins = s.pins := by simp [State.setFull]
@[simp] theorem State.setFull_csi (s : State) (mb : Nat) (b : Bool) : (s.setFull mb b).csi = s.csi := by simp [State.setFull]
@[simp] theorem State.setFull_lec (s : State) (mb : Nat) (b : Bool) : (s.setFull mb b).lec = s.lec := by simp [State.setFull]
@[simp] theorem State.setFull_dmc (s : State) (mb : Nat) (b : Bool) : (s.setFull mb b).dmc = s.dmc := by simp [State.setFull]
@[simp] theorem State.setFull_cal (s : State) (mb : Nat) (b : Bool) : (s.setFull mb b).cal = s.cal := by simp [State.setFull]
@[simp] theorem State.setFull_tap (s : State) (mb : Nat) (b : Bool) : (s.setFull mb b).tap = s.tap := by simp [State.setFull]
@[simp] theorem State.setFull_fw (s : State) (mb : Nat) (b : Bool) : (s.setFull mb b).fw = s.fw := by simp [State.setFull]
@[simp] theorem State.setFull_requests (s : State) (mb : Nat) (b : Bool) : (s.setFull mb b).requests = s.requests := by simp [State.setFull]
@[simp] theorem State.setFull_free (s : State) (mb : Nat) (b : Bool) : (s.setFull mb b).free = s.free := by simp [State.setFull]

/-! ### ignoredMb -/

@[simp] theorem State.ignoredMb_pending (s : State) (mb : Nat) (p : Fin 3) : (s.ignoredMb mb p).pending = s.pending := by simp [State.ignoredMb]
@[simp] theorem State.ignoredMb_pend (s : State) (mb : Nat) (p : Fin 3) : (s.ignoredMb mb p).pend = s.pend := by simp [State.ignoredMb]
@[simp] theorem State.ignoredMb_comp (s : State) (mb : Nat) (p : Fin 3) : (s.ignoredMb mb p).comp = s.comp := by simp [State.ignoredMb]
@[simp] theorem State.ignoredMb_strm (s : State) (mb : Nat) (p : Fin 3) : (s.ignoredMb mb p).strm = s.strm := by simp [State.ignoredMb]
@[simp] theorem State.ignoredMb_actv (s : State) (mb : Nat) (p : Fin 3) : (s.ignoredMb mb p).actv = s.actv := by simp [State.ignoredMb]
@[simp] theorem State.ignoredMb_dram (s : State) (mb : Nat) (p : Fin 3) : (s.ignoredMb mb p).dram = s.dram := by simp [State.ignoredMb]
@[simp] theorem State.ignoredMb_tb (s : State) (mb : Nat) (p : Fin 3) : (s.ignoredMb mb p).tb = s.tb := by simp [State.ignoredMb]
@[simp] theorem State.ignoredMb_mbx (s : State) (mb : Nat) (p : Fin 3) : (s.ignoredMb mb p).mbx = s.mbx := by simp [State.ignoredMb]
@[simp] theorem State.ignoredMb_sys (s : State) (mb : Nat) (p : Fin 3) : (s.ignoredMb mb p).sys = s.sys := by simp [State.ignoredMb]
@[simp] theorem State.ignoredMb_rst (s : State) (mb : Nat) (p : Fin 3) : (s.ignoredMb mb p).rst = s.rst := by simp [State.ignoredMb]
@[simp] theorem State.ignoredMb_aon (s : State) (mb : Nat) (p : Fin 3) : (s.ignoredMb mb p).aon = s.aon := by simp [State.ignoredMb]
@[simp] theorem State.ignoredMb_csi (s : State) (mb : Nat) (p : Fin 3) : (s.ignoredMb mb p).csi = s.csi := by simp [State.ignoredMb]
@[simp] theorem State.ignoredMb_lec (s : State) (mb : Nat) (p : Fin 3) : (s.ignoredMb mb p).lec = s.lec := by simp [State.ignoredMb]
@[simp] theorem State.ignoredMb_dmc (s : State) (mb : Nat) (p : Fin 3) : (s.ignoredMb mb p).dmc = s.dmc := by simp [State.ignoredMb]
@[simp] theorem State.ignoredMb_cal (s : State) (mb : Nat) (p : Fin 3) : (s.ignoredMb mb p).cal = s.cal := by simp [State.ignoredMb]
@[simp] theorem State.ignoredMb_tap (s : State) (mb : Nat) (p : Fin 3) : (s.ignoredMb mb p).tap = s.tap := by simp [State.ignoredMb]
@[simp] theorem State.ignoredMb_fw (s : State) (mb : Nat) (p : Fin 3) : (s.ignoredMb mb p).fw = s.fw := by simp [State.ignoredMb]
@[simp] theorem State.ignoredMb_requests (s : State) (mb : Nat) (p : Fin 3) : (s.ignoredMb mb p).requests = s.requests := by simp [State.ignoredMb]

/-! ### begun -/

@[simp] theorem State.begun_pending (s : State) (p : Fin 3) (mb : Nat) : (s.begun p mb).pending = s.pending := by simp [State.begun]
@[simp] theorem State.begun_regs (s : State) (p : Fin 3) (mb : Nat) : (s.begun p mb).regs = s.regs := by simp [State.begun]
@[simp] theorem State.begun_pend (s : State) (p : Fin 3) (mb : Nat) : (s.begun p mb).pend = s.pend := by simp [State.begun]
@[simp] theorem State.begun_comp (s : State) (p : Fin 3) (mb : Nat) : (s.begun p mb).comp = s.comp := by simp [State.begun]
@[simp] theorem State.begun_strm (s : State) (p : Fin 3) (mb : Nat) : (s.begun p mb).strm = s.strm := by simp [State.begun]
@[simp] theorem State.begun_actv (s : State) (p : Fin 3) (mb : Nat) : (s.begun p mb).actv = s.actv := by simp [State.begun]
@[simp] theorem State.begun_dram (s : State) (p : Fin 3) (mb : Nat) : (s.begun p mb).dram = s.dram := by simp [State.begun]
@[simp] theorem State.begun_tb (s : State) (p : Fin 3) (mb : Nat) : (s.begun p mb).tb = s.tb := by simp [State.begun]
@[simp] theorem State.begun_evr (s : State) (p : Fin 3) (mb : Nat) : (s.begun p mb).evr = s.evr := by simp [State.begun]
@[simp] theorem State.begun_sys (s : State) (p : Fin 3) (mb : Nat) : (s.begun p mb).sys = s.sys := by simp [State.begun]
@[simp] theorem State.begun_rst (s : State) (p : Fin 3) (mb : Nat) : (s.begun p mb).rst = s.rst := by simp [State.begun]
@[simp] theorem State.begun_aon (s : State) (p : Fin 3) (mb : Nat) : (s.begun p mb).aon = s.aon := by simp [State.begun]
@[simp] theorem State.begun_pins (s : State) (p : Fin 3) (mb : Nat) : (s.begun p mb).pins = s.pins := by simp [State.begun]
@[simp] theorem State.begun_csi (s : State) (p : Fin 3) (mb : Nat) : (s.begun p mb).csi = s.csi := by simp [State.begun]
@[simp] theorem State.begun_lec (s : State) (p : Fin 3) (mb : Nat) : (s.begun p mb).lec = s.lec := by simp [State.begun]
@[simp] theorem State.begun_dmc (s : State) (p : Fin 3) (mb : Nat) : (s.begun p mb).dmc = s.dmc := by simp [State.begun]
@[simp] theorem State.begun_cal (s : State) (p : Fin 3) (mb : Nat) : (s.begun p mb).cal = s.cal := by simp [State.begun]
@[simp] theorem State.begun_tap (s : State) (p : Fin 3) (mb : Nat) : (s.begun p mb).tap = s.tap := by simp [State.begun]
@[simp] theorem State.begun_fw (s : State) (p : Fin 3) (mb : Nat) : (s.begun p mb).fw = s.fw := by simp [State.begun]
@[simp] theorem State.begun_requests (s : State) (p : Fin 3) (mb : Nat) : (s.begun p mb).requests = s.requests := by simp [State.begun]
@[simp] theorem State.begun_free (s : State) (p : Fin 3) (mb : Nat) : (s.begun p mb).free = s.free := by simp [State.begun]

/-! ### take -/

@[simp] theorem State.take_pending (s : State) (p : Fin 3) (mb : Nat) : (s.take p mb).pending = s.pending := by unfold State.take; dsimp only; split <;> simp
@[simp] theorem State.take_pend (s : State) (p : Fin 3) (mb : Nat) : (s.take p mb).pend = s.pend := by unfold State.take; dsimp only; split <;> simp
@[simp] theorem State.take_comp (s : State) (p : Fin 3) (mb : Nat) : (s.take p mb).comp = s.comp := by unfold State.take; dsimp only; split <;> simp
@[simp] theorem State.take_strm (s : State) (p : Fin 3) (mb : Nat) : (s.take p mb).strm = s.strm := by unfold State.take; dsimp only; split <;> simp
@[simp] theorem State.take_actv (s : State) (p : Fin 3) (mb : Nat) : (s.take p mb).actv = s.actv := by unfold State.take; dsimp only; split <;> simp
@[simp] theorem State.take_dram (s : State) (p : Fin 3) (mb : Nat) : (s.take p mb).dram = s.dram := by unfold State.take; dsimp only; split <;> simp
@[simp] theorem State.take_tb (s : State) (p : Fin 3) (mb : Nat) : (s.take p mb).tb = s.tb := by unfold State.take; dsimp only; split <;> simp
@[simp] theorem State.take_evr (s : State) (p : Fin 3) (mb : Nat) : (s.take p mb).evr = s.evr := by unfold State.take; dsimp only; split <;> simp
@[simp] theorem State.take_sys (s : State) (p : Fin 3) (mb : Nat) : (s.take p mb).sys = s.sys := by unfold State.take; dsimp only; split <;> simp
@[simp] theorem State.take_rst (s : State) (p : Fin 3) (mb : Nat) : (s.take p mb).rst = s.rst := by unfold State.take; dsimp only; split <;> simp
@[simp] theorem State.take_aon (s : State) (p : Fin 3) (mb : Nat) : (s.take p mb).aon = s.aon := by unfold State.take; dsimp only; split <;> simp
@[simp] theorem State.take_pins (s : State) (p : Fin 3) (mb : Nat) : (s.take p mb).pins = s.pins := by unfold State.take; dsimp only; split <;> simp
@[simp] theorem State.take_csi (s : State) (p : Fin 3) (mb : Nat) : (s.take p mb).csi = s.csi := by unfold State.take; dsimp only; split <;> simp
@[simp] theorem State.take_lec (s : State) (p : Fin 3) (mb : Nat) : (s.take p mb).lec = s.lec := by unfold State.take; dsimp only; split <;> simp
@[simp] theorem State.take_dmc (s : State) (p : Fin 3) (mb : Nat) : (s.take p mb).dmc = s.dmc := by unfold State.take; dsimp only; split <;> simp
@[simp] theorem State.take_cal (s : State) (p : Fin 3) (mb : Nat) : (s.take p mb).cal = s.cal := by unfold State.take; dsimp only; split <;> simp
@[simp] theorem State.take_tap (s : State) (p : Fin 3) (mb : Nat) : (s.take p mb).tap = s.tap := by unfold State.take; dsimp only; split <;> simp
@[simp] theorem State.take_fw (s : State) (p : Fin 3) (mb : Nat) : (s.take p mb).fw = s.fw := by unfold State.take; dsimp only; split <;> simp
@[simp] theorem State.take_requests (s : State) (p : Fin 3) (mb : Nat) : (s.take p mb).requests = s.requests := by unfold State.take; dsimp only; split <;> simp
@[simp] theorem State.take_free (s : State) (p : Fin 3) (mb : Nat) : (s.take p mb).free = s.free := by unfold State.take; dsimp only; split <;> simp

/-! ### place -/

@[simp] theorem State.place_pending (s : State) (p : Fin 3) (mb : Nat) (m : List Byte) : (s.place p mb m).pending = s.pending := by unfold State.place; split <;> simp
@[simp] theorem State.place_pend (s : State) (p : Fin 3) (mb : Nat) (m : List Byte) : (s.place p mb m).pend = s.pend := by unfold State.place; split <;> simp
@[simp] theorem State.place_comp (s : State) (p : Fin 3) (mb : Nat) (m : List Byte) : (s.place p mb m).comp = s.comp := by unfold State.place; split <;> simp
@[simp] theorem State.place_strm (s : State) (p : Fin 3) (mb : Nat) (m : List Byte) : (s.place p mb m).strm = s.strm := by unfold State.place; split <;> simp
@[simp] theorem State.place_actv (s : State) (p : Fin 3) (mb : Nat) (m : List Byte) : (s.place p mb m).actv = s.actv := by unfold State.place; split <;> simp
@[simp] theorem State.place_dram (s : State) (p : Fin 3) (mb : Nat) (m : List Byte) : (s.place p mb m).dram = s.dram := by unfold State.place; split <;> simp
@[simp] theorem State.place_tb (s : State) (p : Fin 3) (mb : Nat) (m : List Byte) : (s.place p mb m).tb = s.tb := by unfold State.place; split <;> simp
@[simp] theorem State.place_evr (s : State) (p : Fin 3) (mb : Nat) (m : List Byte) : (s.place p mb m).evr = s.evr := by unfold State.place; split <;> simp
@[simp] theorem State.place_sys (s : State) (p : Fin 3) (mb : Nat) (m : List Byte) : (s.place p mb m).sys = s.sys := by unfold State.place; split <;> simp
@[simp] theorem State.place_rst (s : State) (p : Fin 3) (mb : Nat) (m : List Byte) : (s.place p mb m).rst = s.rst := by unfold State.place; split <;> simp
@[simp] theorem State.place_aon (s : State) (p : Fin 3) (mb : Nat) (m : List Byte) : (s.place p mb m).aon = s.aon := by unfold State.place; split <;> simp
@[simp] theorem State.place_pins (s : State) (p : Fin 3) (mb : Nat) (m : List Byte) : (s.place p mb m).pins = s.pins := by unfold State.place; split <;> simp
@[simp] theorem State.place_csi (s : State) (p : Fin 3) (mb : Nat) (m : List Byte) : (s.place p mb m).csi = s.csi := by unfold State.place; split <;> simp
@[simp] theorem State.place_lec (s : State) (p : Fin 3) (mb : Nat) (m : List Byte) : (s.place p mb m).lec = s.lec := by unfold State.place; split <;> simp
@[simp] theorem State.place_dmc (s : State) (p : Fin 3) (mb : Nat) (m : List Byte) : (s.place p mb m).dmc = s.dmc := by unfold State.place; split <;> simp
@[simp] theorem State.place_cal (s : State) (p : Fin 3) (mb : Nat) (m : List Byte) : (s.place p mb m).cal = s.cal := by unfold State.place; split <;> simp
@[simp] theorem State.place_tap (s : State) (p : Fin 3) (mb : Nat) (m : List Byte) : (s.place p mb m).tap = s.tap := by unfold State.place; split <;> simp
@[simp] theorem State.place_fw (s : State) (p : Fin 3) (mb : Nat) (m : List Byte) : (s.place p mb m).fw = s.fw := by unfold State.place; split <;> simp
@[simp] theorem State.place_requests (s : State) (p : Fin 3) (mb : Nat) (m : List Byte) : (s.place p mb m).requests = s.requests := by unfold State.place; split <;> simp
@[simp] theorem State.place_free (s : State) (p : Fin 3) (mb : Nat) (m : List Byte) : (s.place p mb m).free = s.free := by unfold State.place; split <;> simp

/-! ### portDefaults -/

@[simp] theorem State.portDefaults_pending (s : State) (p : Fin 3) : (s.portDefaults p).pending = s.pending := by unfold State.portDefaults; dsimp only; split <;> simp
@[simp] theorem State.portDefaults_pend (s : State) (p : Fin 3) : (s.portDefaults p).pend = s.pend := by unfold State.portDefaults; dsimp only; split <;> simp
@[simp] theorem State.portDefaults_comp (s : State) (p : Fin 3) : (s.portDefaults p).comp = s.comp := by unfold State.portDefaults; dsimp only; split <;> simp
@[simp] theorem State.portDefaults_strm (s : State) (p : Fin 3) : (s.portDefaults p).strm = s.strm := by unfold State.portDefaults; dsimp only; split <;> simp
@[simp] theorem State.portDefaults_actv (s : State) (p : Fin 3) : (s.portDefaults p).actv = s.actv := by unfold State.portDefaults; dsimp only; split <;> simp
@[simp] theorem State.portDefaults_dram (s : State) (p : Fin 3) : (s.portDefaults p).dram = s.dram := by unfold State.portDefaults; dsimp only; split <;> simp
@[simp] theorem State.portDefaults_tb (s : State) (p : Fin 3) : (s.portDefaults p).tb = s.tb := by unfold State.portDefaults; dsimp only; split <;> simp
@[simp] theorem State.portDefaults_evr (s : State) (p : Fin 3) : (s.portDefaults p).evr = s.evr := by unfold State.portDefaults; dsimp only; split <;> simp
@[simp] theorem State.portDefaults_sys (s : State) (p : Fin 3) : (s.portDefaults p).sys = s.sys := by unfold State.portDefaults; dsimp only; split <;> simp
@[simp] theorem State.portDefaults_rst (s : State) (p : Fin 3) : (s.portDefaults p).rst = s.rst := by unfold State.portDefaults; dsimp only; split <;> simp
@[simp] theorem State.portDefaults_aon (s : State) (p : Fin 3) : (s.portDefaults p).aon = s.aon := by unfold State.portDefaults; dsimp only; split <;> simp
@[simp] theorem State.portDefaults_pins (s : State) (p : Fin 3) : (s.portDefaults p).pins = s.pins := by unfold State.portDefaults; dsimp only; split <;> simp
@[simp] theorem State.portDefaults_csi (s : State) (p : Fin 3) : (s.portDefaults p).csi = s.csi := by unfold State.portDefaults; dsimp only; split <;> simp
@[simp] theorem State.portDefaults_lec (s : State) (p : Fin 3) : (s.portDefaults p).lec = s.lec := by unfold State.portDefaults; dsimp only; split <;> simp
@[simp] theorem State.portDefaults_dmc (s : State) (p : Fin 3) : (s.portDefaults p).dmc = s.dmc := by unfold State.portDefaults; dsimp only; split <;> simp
@[simp] theorem State.portDefaults_cal (s : State) (p : Fin 3) : (s.portDefaults p).cal = s.cal := by unfold State.portDefaults; dsimp only; split <;> simp
@[simp] theorem State.portDefaults_tap (s : State) (p : Fin 3) : (s.portDefaults p).tap = s.tap := by unfold State.portDefaults; dsimp only; split <;> simp
@[simp] theorem State.portDefaults_fw (s : State) (p : Fin 3) : (s.portDefaults p).fw = s.fw := by unfold State.portDefaults; dsimp only; split <;> simp
@[simp] theorem State.portDefaults_requests (s : State) (p : Fin 3) : (s.portDefaults p).requests = s.requests := by unfold State.portDefaults; dsimp only; split <;> simp
@[simp] theorem State.portDefaults_free (s : State) (p : Fin 3) : (s.portDefaults p).free = s.free := by unfold State.portDefaults; dsimp only; split <;> simp

/-! ### helloFailed -/

@[simp] theorem State.helloFailed_pending (s : State) (t : Tag) (st : Nat) : (s.helloFailed t st).pending = s.pending := by unfold State.helloFailed; split <;> simp
@[simp] theorem State.helloFailed_pend (s : State) (t : Tag) (st : Nat) : (s.helloFailed t st).pend = s.pend := by unfold State.helloFailed; split <;> simp
@[simp] theorem State.helloFailed_comp (s : State) (t : Tag) (st : Nat) : (s.helloFailed t st).comp = s.comp := by unfold State.helloFailed; split <;> simp
@[simp] theorem State.helloFailed_strm (s : State) (t : Tag) (st : Nat) : (s.helloFailed t st).strm = s.strm := by unfold State.helloFailed; split <;> simp
@[simp] theorem State.helloFailed_actv (s : State) (t : Tag) (st : Nat) : (s.helloFailed t st).actv = s.actv := by unfold State.helloFailed; split <;> simp
@[simp] theorem State.helloFailed_dram (s : State) (t : Tag) (st : Nat) : (s.helloFailed t st).dram = s.dram := by unfold State.helloFailed; split <;> simp
@[simp] theorem State.helloFailed_tb (s : State) (t : Tag) (st : Nat) : (s.helloFailed t st).tb = s.tb := by unfold State.helloFailed; split <;> simp
@[simp] theorem State.helloFailed_evr (s : State) (t : Tag) (st : Nat) : (s.helloFailed t st).evr = s.evr := by unfold State.helloFailed; split <;> simp
@[simp] theorem State.helloFailed_sys (s : State) (t : Tag) (st : Nat) : (s.helloFailed t st).sys = s.sys := by unfold State.helloFailed; split <;> simp
@[simp] theorem State.helloFailed_rst (s : State) (t : Tag) (st : Nat) : (s.helloFailed t st).rst = s.rst := by unfold State.helloFailed; split <;> simp
@[simp] theorem State.helloFailed_aon (s : State) (t : Tag) (st : Nat) : (s.helloFailed t st).aon = s.aon := by unfold State.helloFailed; split <;> simp
@[simp] theorem State.helloFailed_pins (s : State) (t : Tag) (st : Nat) : (s.helloFailed t st).pins = s.pins := by unfold State.helloFailed; split <;> simp
@[simp] theorem State.helloFailed_csi (s : State) (t : Tag) (st : Nat) : (s.helloFailed t st).csi = s.csi := by unfold State.helloFailed; split <;> simp
@[simp] theorem State.helloFailed_lec (s : State) (t : Tag) (st : Nat) : (s.helloFailed t st).lec = s.lec := by unfold State.helloFailed; split <;> simp
@[simp] theorem State.helloFailed_dmc (s : State) (t : Tag) (st : Nat) : (s.helloFailed t st).dmc = s.dmc := by unfold State.helloFailed; split <;> simp
@[simp] theorem State.helloFailed_cal (s : State) (t : Tag) (st : Nat) : (s.helloFailed t st).cal = s.cal := by unfold State.helloFailed; split <;> simp
@[simp] theorem State.helloFailed_tap (s : State) (t : Tag) (st : Nat) : (s.helloFailed t st).tap = s.tap := by unfold State.helloFailed; split <;> simp
@[simp] theorem State.helloFailed_fw (s : State) (t : Tag) (st : Nat) : (s.helloFailed t st).fw = s.fw := by unfold State.helloFailed; split <;> simp
@[simp] theorem State.helloFailed_requests (s : State) (t : Tag) (st : Nat) : (s.helloFailed t st).requests = s.requests := by unfold State.helloFailed; split <;> simp
@[simp] theorem State.helloFailed_free (s : State) (t : Tag) (st : Nat) : (s.helloFailed t st).free = s.free := by unfold State.helloFailed; split <;> simp

/-! ### received -/

@[simp] theorem State.received_pending (s : State) (p : Fin 3) (mb : Nat) : (s.received p mb).pending = s.pending := by simp [State.received]
@[simp] theorem State.received_regs (s : State) (p : Fin 3) (mb : Nat) : (s.received p mb).regs = s.regs := by simp [State.received]
@[simp] theorem State.received_pend (s : State) (p : Fin 3) (mb : Nat) : (s.received p mb).pend = s.pend := by simp [State.received]
@[simp] theorem State.received_comp (s : State) (p : Fin 3) (mb : Nat) : (s.received p mb).comp = s.comp := by simp [State.received]
@[simp] theorem State.received_strm (s : State) (p : Fin 3) (mb : Nat) : (s.received p mb).strm = s.strm := by simp [State.received]
@[simp] theorem State.received_actv (s : State) (p : Fin 3) (mb : Nat) : (s.received p mb).actv = s.actv := by simp [State.received]
@[simp] theorem State.received_dram (s : State) (p : Fin 3) (mb : Nat) : (s.received p mb).dram = s.dram := by simp [State.received]
@[simp] theorem State.received_tb (s : State) (p : Fin 3) (mb : Nat) : (s.received p mb).tb = s.tb := by simp [State.received]
@[simp] theorem State.received_evr (s : State) (p : Fin 3) (mb : Nat) : (s.received p mb).evr = s.evr := by simp [State.received]
@[simp] theorem State.received_sys (s : State) (p : Fin 3) (mb : Nat) : (s.received p mb).sys = s.sys := by simp [State.received]
@[simp] theorem State.received_rst (s : State) (p : Fin 3) (mb : Nat) : (s.received p mb).rst = s.rst := by simp [State.received]
@[simp] theorem State.received_aon (s : State) (p : Fin 3) (mb : Nat) : (s.received p mb).aon = s.aon := by simp [State.received]
@[simp] theorem State.received_pins (s : State) (p : Fin 3) (mb : Nat) : (s.received p mb).pins = s.pins := by simp [State.received]
@[simp] theorem State.received_csi (s : State) (p : Fin 3) (mb : Nat) : (s.received p mb).csi = s.csi := by simp [State.received]
@[simp] theorem State.received_lec (s : State) (p : Fin 3) (mb : Nat) : (s.received p mb).lec = s.lec := by simp [State.received]
@[simp] theorem State.received_dmc (s : State) (p : Fin 3) (mb : Nat) : (s.received p mb).dmc = s.dmc := by simp [State.received]
@[simp] theorem State.received_cal (s : State) (p : Fin 3) (mb : Nat) : (s.received p mb).cal = s.cal := by simp [State.received]
@[simp] theorem State.received_tap (s : State) (p : Fin 3) (mb : Nat) : (s.received p mb).tap = s.tap := by simp [State.received]
@[simp] theorem State.received_fw (s : State) (p : Fin 3) (mb : Nat) : (s.received p mb).fw = s.fw := by simp [State.received]
@[simp] theorem State.received_requests (s : State) (p : Fin 3) (mb : Nat) : (s.received p mb).requests = s.requests := by simp [State.received]
@[simp] theorem State.received_free (s : State) (p : Fin 3) (mb : Nat) : (s.received p mb).free = s.free := by simp [State.received]

/-! ### reply -/

@[simp] theorem State.reply_pending (s : State) (t : Tag) (st : Nat) : (s.reply t st).pending = s.pending := by simp [State.reply]
@[simp] theorem State.reply_pend (s : State) (t : Tag) (st : Nat) : (s.reply t st).pend = s.pend := by simp [State.reply]
@[simp] theorem State.reply_comp (s : State) (t : Tag) (st : Nat) : (s.reply t st).comp = s.comp := by simp [State.reply]
@[simp] theorem State.reply_strm (s : State) (t : Tag) (st : Nat) : (s.reply t st).strm = s.strm := by simp [State.reply]
@[simp] theorem State.reply_actv (s : State) (t : Tag) (st : Nat) : (s.reply t st).actv = s.actv := by simp [State.reply]
@[simp] theorem State.reply_dram (s : State) (t : Tag) (st : Nat) : (s.reply t st).dram = s.dram := by simp [State.reply]
@[simp] theorem State.reply_tb (s : State) (t : Tag) (st : Nat) : (s.reply t st).tb = s.tb := by simp [State.reply]
@[simp] theorem State.reply_evr (s : State) (t : Tag) (st : Nat) : (s.reply t st).evr = s.evr := by simp [State.reply]
@[simp] theorem State.reply_sys (s : State) (t : Tag) (st : Nat) : (s.reply t st).sys = s.sys := by simp [State.reply]
@[simp] theorem State.reply_rst (s : State) (t : Tag) (st : Nat) : (s.reply t st).rst = s.rst := by simp [State.reply]
@[simp] theorem State.reply_aon (s : State) (t : Tag) (st : Nat) : (s.reply t st).aon = s.aon := by simp [State.reply]
@[simp] theorem State.reply_pins (s : State) (t : Tag) (st : Nat) : (s.reply t st).pins = s.pins := by simp [State.reply]
@[simp] theorem State.reply_csi (s : State) (t : Tag) (st : Nat) : (s.reply t st).csi = s.csi := by simp [State.reply]
@[simp] theorem State.reply_lec (s : State) (t : Tag) (st : Nat) : (s.reply t st).lec = s.lec := by simp [State.reply]
@[simp] theorem State.reply_dmc (s : State) (t : Tag) (st : Nat) : (s.reply t st).dmc = s.dmc := by simp [State.reply]
@[simp] theorem State.reply_cal (s : State) (t : Tag) (st : Nat) : (s.reply t st).cal = s.cal := by simp [State.reply]
@[simp] theorem State.reply_tap (s : State) (t : Tag) (st : Nat) : (s.reply t st).tap = s.tap := by simp [State.reply]
@[simp] theorem State.reply_fw (s : State) (t : Tag) (st : Nat) : (s.reply t st).fw = s.fw := by simp [State.reply]
@[simp] theorem State.reply_requests (s : State) (t : Tag) (st : Nat) : (s.reply t st).requests = s.requests := by simp [State.reply]
@[simp] theorem State.reply_free (s : State) (t : Tag) (st : Nat) : (s.reply t st).free = s.free := by simp [State.reply]

/-! ### answer -/

@[simp] theorem State.answer_pending (s : State) (t : Tag) (st d : Nat) (l : List Byte) : (s.answer t st d l).pending = s.pending := by simp [State.answer]
@[simp] theorem State.answer_pend (s : State) (t : Tag) (st d : Nat) (l : List Byte) : (s.answer t st d l).pend = s.pend := by simp [State.answer]
@[simp] theorem State.answer_comp (s : State) (t : Tag) (st d : Nat) (l : List Byte) : (s.answer t st d l).comp = s.comp := by simp [State.answer]
@[simp] theorem State.answer_strm (s : State) (t : Tag) (st d : Nat) (l : List Byte) : (s.answer t st d l).strm = s.strm := by simp [State.answer]
@[simp] theorem State.answer_actv (s : State) (t : Tag) (st d : Nat) (l : List Byte) : (s.answer t st d l).actv = s.actv := by simp [State.answer]
@[simp] theorem State.answer_dram (s : State) (t : Tag) (st d : Nat) (l : List Byte) : (s.answer t st d l).dram = s.dram := by simp [State.answer]
@[simp] theorem State.answer_tb (s : State) (t : Tag) (st d : Nat) (l : List Byte) : (s.answer t st d l).tb = s.tb := by simp [State.answer]
@[simp] theorem State.answer_evr (s : State) (t : Tag) (st d : Nat) (l : List Byte) : (s.answer t st d l).evr = s.evr := by simp [State.answer]
@[simp] theorem State.answer_sys (s : State) (t : Tag) (st d : Nat) (l : List Byte) : (s.answer t st d l).sys = s.sys := by simp [State.answer]
@[simp] theorem State.answer_rst (s : State) (t : Tag) (st d : Nat) (l : List Byte) : (s.answer t st d l).rst = s.rst := by simp [State.answer]
@[simp] theorem State.answer_aon (s : State) (t : Tag) (st d : Nat) (l : List Byte) : (s.answer t st d l).aon = s.aon := by simp [State.answer]
@[simp] theorem State.answer_pins (s : State) (t : Tag) (st d : Nat) (l : List Byte) : (s.answer t st d l).pins = s.pins := by simp [State.answer]
@[simp] theorem State.answer_csi (s : State) (t : Tag) (st d : Nat) (l : List Byte) : (s.answer t st d l).csi = s.csi := by simp [State.answer]
@[simp] theorem State.answer_lec (s : State) (t : Tag) (st d : Nat) (l : List Byte) : (s.answer t st d l).lec = s.lec := by simp [State.answer]
@[simp] theorem State.answer_dmc (s : State) (t : Tag) (st d : Nat) (l : List Byte) : (s.answer t st d l).dmc = s.dmc := by simp [State.answer]
@[simp] theorem State.answer_cal (s : State) (t : Tag) (st d : Nat) (l : List Byte) : (s.answer t st d l).cal = s.cal := by simp [State.answer]
@[simp] theorem State.answer_tap (s : State) (t : Tag) (st d : Nat) (l : List Byte) : (s.answer t st d l).tap = s.tap := by simp [State.answer]
@[simp] theorem State.answer_fw (s : State) (t : Tag) (st d : Nat) (l : List Byte) : (s.answer t st d l).fw = s.fw := by simp [State.answer]
@[simp] theorem State.answer_requests (s : State) (t : Tag) (st d : Nat) (l : List Byte) : (s.answer t st d l).requests = s.requests := by simp [State.answer]
@[simp] theorem State.answer_free (s : State) (t : Tag) (st d : Nat) (l : List Byte) : (s.answer t st d l).free = s.free := by simp [State.answer]

/-! ### setFrag -/

@[simp] theorem State.setFrag_pending (s : State) (p : Fin 3) (mb : Nat) (x : Option Frag) : (s.setFrag p mb x).pending = s.pending := by simp [State.setFrag]
@[simp] theorem State.setFrag_regs (s : State) (p : Fin 3) (mb : Nat) (x : Option Frag) : (s.setFrag p mb x).regs = s.regs := by simp [State.setFrag]
@[simp] theorem State.setFrag_pend (s : State) (p : Fin 3) (mb : Nat) (x : Option Frag) : (s.setFrag p mb x).pend = s.pend := by simp [State.setFrag]
@[simp] theorem State.setFrag_comp (s : State) (p : Fin 3) (mb : Nat) (x : Option Frag) : (s.setFrag p mb x).comp = s.comp := by simp [State.setFrag]
@[simp] theorem State.setFrag_strm (s : State) (p : Fin 3) (mb : Nat) (x : Option Frag) : (s.setFrag p mb x).strm = s.strm := by simp [State.setFrag]
@[simp] theorem State.setFrag_actv (s : State) (p : Fin 3) (mb : Nat) (x : Option Frag) : (s.setFrag p mb x).actv = s.actv := by simp [State.setFrag]
@[simp] theorem State.setFrag_dram (s : State) (p : Fin 3) (mb : Nat) (x : Option Frag) : (s.setFrag p mb x).dram = s.dram := by simp [State.setFrag]
@[simp] theorem State.setFrag_tb (s : State) (p : Fin 3) (mb : Nat) (x : Option Frag) : (s.setFrag p mb x).tb = s.tb := by simp [State.setFrag]
@[simp] theorem State.setFrag_evr (s : State) (p : Fin 3) (mb : Nat) (x : Option Frag) : (s.setFrag p mb x).evr = s.evr := by simp [State.setFrag]
@[simp] theorem State.setFrag_sys (s : State) (p : Fin 3) (mb : Nat) (x : Option Frag) : (s.setFrag p mb x).sys = s.sys := by simp [State.setFrag]
@[simp] theorem State.setFrag_rst (s : State) (p : Fin 3) (mb : Nat) (x : Option Frag) : (s.setFrag p mb x).rst = s.rst := by simp [State.setFrag]
@[simp] theorem State.setFrag_aon (s : State) (p : Fin 3) (mb : Nat) (x : Option Frag) : (s.setFrag p mb x).aon = s.aon := by simp [State.setFrag]
@[simp] theorem State.setFrag_pins (s : State) (p : Fin 3) (mb : Nat) (x : Option Frag) : (s.setFrag p mb x).pins = s.pins := by simp [State.setFrag]
@[simp] theorem State.setFrag_csi (s : State) (p : Fin 3) (mb : Nat) (x : Option Frag) : (s.setFrag p mb x).csi = s.csi := by simp [State.setFrag]
@[simp] theorem State.setFrag_lec (s : State) (p : Fin 3) (mb : Nat) (x : Option Frag) : (s.setFrag p mb x).lec = s.lec := by simp [State.setFrag]
@[simp] theorem State.setFrag_dmc (s : State) (p : Fin 3) (mb : Nat) (x : Option Frag) : (s.setFrag p mb x).dmc = s.dmc := by simp [State.setFrag]
@[simp] theorem State.setFrag_cal (s : State) (p : Fin 3) (mb : Nat) (x : Option Frag) : (s.setFrag p mb x).cal = s.cal := by simp [State.setFrag]
@[simp] theorem State.setFrag_tap (s : State) (p : Fin 3) (mb : Nat) (x : Option Frag) : (s.setFrag p mb x).tap = s.tap := by simp [State.setFrag]
@[simp] theorem State.setFrag_fw (s : State) (p : Fin 3) (mb : Nat) (x : Option Frag) : (s.setFrag p mb x).fw = s.fw := by simp [State.setFrag]
@[simp] theorem State.setFrag_requests (s : State) (p : Fin 3) (mb : Nat) (x : Option Frag) : (s.setFrag p mb x).requests = s.requests := by simp [State.setFrag]
@[simp] theorem State.setFrag_free (s : State) (p : Fin 3) (mb : Nat) (x : Option Frag) : (s.setFrag p mb x).free = s.free := by simp [State.setFrag]

/-! ### restage -/

@[simp] theorem State.restage_pending (s : State) (g : Stage → Stage) : (s.restage g).pending = s.pending := by simp [State.restage]
@[simp] theorem State.restage_regs (s : State) (g : Stage → Stage) : (s.restage g).regs = s.regs := by simp [State.restage]
@[simp] theorem State.restage_pend (s : State) (g : Stage → Stage) : (s.restage g).pend = s.pend := by simp [State.restage]
@[simp] theorem State.restage_comp (s : State) (g : Stage → Stage) : (s.restage g).comp = s.comp := by simp [State.restage]
@[simp] theorem State.restage_strm (s : State) (g : Stage → Stage) : (s.restage g).strm = s.strm := by simp [State.restage]
@[simp] theorem State.restage_actv (s : State) (g : Stage → Stage) : (s.restage g).actv = s.actv := by simp [State.restage]
@[simp] theorem State.restage_dram (s : State) (g : Stage → Stage) : (s.restage g).dram = s.dram := by simp [State.restage]
@[simp] theorem State.restage_tb (s : State) (g : Stage → Stage) : (s.restage g).tb = s.tb := by simp [State.restage]
@[simp] theorem State.restage_evr (s : State) (g : Stage → Stage) : (s.restage g).evr = s.evr := by simp [State.restage]
@[simp] theorem State.restage_mbx (s : State) (g : Stage → Stage) : (s.restage g).mbx = s.mbx := by simp [State.restage]
@[simp] theorem State.restage_sys (s : State) (g : Stage → Stage) : (s.restage g).sys = s.sys := by simp [State.restage]
@[simp] theorem State.restage_rst (s : State) (g : Stage → Stage) : (s.restage g).rst = s.rst := by simp [State.restage]
@[simp] theorem State.restage_aon (s : State) (g : Stage → Stage) : (s.restage g).aon = s.aon := by simp [State.restage]
@[simp] theorem State.restage_pins (s : State) (g : Stage → Stage) : (s.restage g).pins = s.pins := by simp [State.restage]
@[simp] theorem State.restage_csi (s : State) (g : Stage → Stage) : (s.restage g).csi = s.csi := by simp [State.restage]
@[simp] theorem State.restage_lec (s : State) (g : Stage → Stage) : (s.restage g).lec = s.lec := by simp [State.restage]
@[simp] theorem State.restage_dmc (s : State) (g : Stage → Stage) : (s.restage g).dmc = s.dmc := by simp [State.restage]
@[simp] theorem State.restage_cal (s : State) (g : Stage → Stage) : (s.restage g).cal = s.cal := by simp [State.restage]
@[simp] theorem State.restage_tap (s : State) (g : Stage → Stage) : (s.restage g).tap = s.tap := by simp [State.restage]
@[simp] theorem State.restage_requests (s : State) (g : Stage → Stage) : (s.restage g).requests = s.requests := by simp [State.restage]
@[simp] theorem State.restage_free (s : State) (g : Stage → Stage) : (s.restage g).free = s.free := by simp [State.restage]

/-! ### touchGroups -/

@[simp] theorem State.touchGroups_pending (s : State) (k : Nat) : (s.touchGroups k).pending = s.pending := by simp [State.touchGroups]
@[simp] theorem State.touchGroups_regs (s : State) (k : Nat) : (s.touchGroups k).regs = s.regs := by simp [State.touchGroups]
@[simp] theorem State.touchGroups_pend (s : State) (k : Nat) : (s.touchGroups k).pend = s.pend := by simp [State.touchGroups]
@[simp] theorem State.touchGroups_comp (s : State) (k : Nat) : (s.touchGroups k).comp = s.comp := by simp [State.touchGroups]
@[simp] theorem State.touchGroups_strm (s : State) (k : Nat) : (s.touchGroups k).strm = s.strm := by simp [State.touchGroups]
@[simp] theorem State.touchGroups_actv (s : State) (k : Nat) : (s.touchGroups k).actv = s.actv := by simp [State.touchGroups]
@[simp] theorem State.touchGroups_dram (s : State) (k : Nat) : (s.touchGroups k).dram = s.dram := by simp [State.touchGroups]
@[simp] theorem State.touchGroups_tb (s : State) (k : Nat) : (s.touchGroups k).tb = s.tb := by simp [State.touchGroups]
@[simp] theorem State.touchGroups_evr (s : State) (k : Nat) : (s.touchGroups k).evr = s.evr := by simp [State.touchGroups]
@[simp] theorem State.touchGroups_mbx (s : State) (k : Nat) : (s.touchGroups k).mbx = s.mbx := by simp [State.touchGroups]
@[simp] theorem State.touchGroups_sys (s : State) (k : Nat) : (s.touchGroups k).sys = s.sys := by simp [State.touchGroups]
@[simp] theorem State.touchGroups_rst (s : State) (k : Nat) : (s.touchGroups k).rst = s.rst := by simp [State.touchGroups]
@[simp] theorem State.touchGroups_aon (s : State) (k : Nat) : (s.touchGroups k).aon = s.aon := by simp [State.touchGroups]
@[simp] theorem State.touchGroups_pins (s : State) (k : Nat) : (s.touchGroups k).pins = s.pins := by simp [State.touchGroups]
@[simp] theorem State.touchGroups_csi (s : State) (k : Nat) : (s.touchGroups k).csi = s.csi := by simp [State.touchGroups]
@[simp] theorem State.touchGroups_lec (s : State) (k : Nat) : (s.touchGroups k).lec = s.lec := by simp [State.touchGroups]
@[simp] theorem State.touchGroups_dmc (s : State) (k : Nat) : (s.touchGroups k).dmc = s.dmc := by simp [State.touchGroups]
@[simp] theorem State.touchGroups_cal (s : State) (k : Nat) : (s.touchGroups k).cal = s.cal := by simp [State.touchGroups]
@[simp] theorem State.touchGroups_tap (s : State) (k : Nat) : (s.touchGroups k).tap = s.tap := by simp [State.touchGroups]
@[simp] theorem State.touchGroups_requests (s : State) (k : Nat) : (s.touchGroups k).requests = s.requests := by simp [State.touchGroups]
@[simp] theorem State.touchGroups_free (s : State) (k : Nat) : (s.touchGroups k).free = s.free := by simp [State.touchGroups]

/-! ### drive -/

@[simp] theorem State.drive_pending (s : State) (l : List Byte) : (s.drive l).pending = s.pending := by simp [State.drive]
@[simp] theorem State.drive_regs (s : State) (l : List Byte) : (s.drive l).regs = s.regs := by simp [State.drive]
@[simp] theorem State.drive_pend (s : State) (l : List Byte) : (s.drive l).pend = s.pend := by simp [State.drive]
@[simp] theorem State.drive_comp (s : State) (l : List Byte) : (s.drive l).comp = s.comp := by simp [State.drive]
@[simp] theorem State.drive_strm (s : State) (l : List Byte) : (s.drive l).strm = s.strm := by simp [State.drive]
@[simp] theorem State.drive_actv (s : State) (l : List Byte) : (s.drive l).actv = s.actv := by simp [State.drive]
@[simp] theorem State.drive_dram (s : State) (l : List Byte) : (s.drive l).dram = s.dram := by simp [State.drive]
@[simp] theorem State.drive_tb (s : State) (l : List Byte) : (s.drive l).tb = s.tb := by simp [State.drive]
@[simp] theorem State.drive_evr (s : State) (l : List Byte) : (s.drive l).evr = s.evr := by simp [State.drive]
@[simp] theorem State.drive_sys (s : State) (l : List Byte) : (s.drive l).sys = s.sys := by simp [State.drive]
@[simp] theorem State.drive_rst (s : State) (l : List Byte) : (s.drive l).rst = s.rst := by simp [State.drive]
@[simp] theorem State.drive_aon (s : State) (l : List Byte) : (s.drive l).aon = s.aon := by simp [State.drive]
@[simp] theorem State.drive_pins (s : State) (l : List Byte) : (s.drive l).pins = s.pins := by simp [State.drive]
@[simp] theorem State.drive_csi (s : State) (l : List Byte) : (s.drive l).csi = s.csi := by simp [State.drive]
@[simp] theorem State.drive_lec (s : State) (l : List Byte) : (s.drive l).lec = s.lec := by simp [State.drive]
@[simp] theorem State.drive_dmc (s : State) (l : List Byte) : (s.drive l).dmc = s.dmc := by simp [State.drive]
@[simp] theorem State.drive_cal (s : State) (l : List Byte) : (s.drive l).cal = s.cal := by simp [State.drive]
@[simp] theorem State.drive_tap (s : State) (l : List Byte) : (s.drive l).tap = s.tap := by simp [State.drive]
@[simp] theorem State.drive_fw (s : State) (l : List Byte) : (s.drive l).fw = s.fw := by simp [State.drive]
@[simp] theorem State.drive_requests (s : State) (l : List Byte) : (s.drive l).requests = s.requests := by simp [State.drive]
@[simp] theorem State.drive_free (s : State) (l : List Byte) : (s.drive l).free = s.free := by simp [State.drive]

/-! ### grantStatus -/

@[simp] theorem State.grantStatus_pending (s : State) : (s.grantStatus).pending = s.pending := by simp [State.grantStatus]
@[simp] theorem State.grantStatus_pend (s : State) : (s.grantStatus).pend = s.pend := by simp [State.grantStatus]
@[simp] theorem State.grantStatus_comp (s : State) : (s.grantStatus).comp = s.comp := by simp [State.grantStatus]
@[simp] theorem State.grantStatus_strm (s : State) : (s.grantStatus).strm = s.strm := by simp [State.grantStatus]
@[simp] theorem State.grantStatus_actv (s : State) : (s.grantStatus).actv = s.actv := by simp [State.grantStatus]
@[simp] theorem State.grantStatus_dram (s : State) : (s.grantStatus).dram = s.dram := by simp [State.grantStatus]
@[simp] theorem State.grantStatus_tb (s : State) : (s.grantStatus).tb = s.tb := by simp [State.grantStatus]
@[simp] theorem State.grantStatus_evr (s : State) : (s.grantStatus).evr = s.evr := by simp [State.grantStatus]
@[simp] theorem State.grantStatus_mbx (s : State) : (s.grantStatus).mbx = s.mbx := by simp [State.grantStatus]
@[simp] theorem State.grantStatus_sys (s : State) : (s.grantStatus).sys = s.sys := by simp [State.grantStatus]
@[simp] theorem State.grantStatus_rst (s : State) : (s.grantStatus).rst = s.rst := by simp [State.grantStatus]
@[simp] theorem State.grantStatus_aon (s : State) : (s.grantStatus).aon = s.aon := by simp [State.grantStatus]
@[simp] theorem State.grantStatus_pins (s : State) : (s.grantStatus).pins = s.pins := by simp [State.grantStatus]
@[simp] theorem State.grantStatus_csi (s : State) : (s.grantStatus).csi = s.csi := by simp [State.grantStatus]
@[simp] theorem State.grantStatus_lec (s : State) : (s.grantStatus).lec = s.lec := by simp [State.grantStatus]
@[simp] theorem State.grantStatus_dmc (s : State) : (s.grantStatus).dmc = s.dmc := by simp [State.grantStatus]
@[simp] theorem State.grantStatus_cal (s : State) : (s.grantStatus).cal = s.cal := by simp [State.grantStatus]
@[simp] theorem State.grantStatus_tap (s : State) : (s.grantStatus).tap = s.tap := by simp [State.grantStatus]
@[simp] theorem State.grantStatus_fw (s : State) : (s.grantStatus).fw = s.fw := by simp [State.grantStatus]
@[simp] theorem State.grantStatus_requests (s : State) : (s.grantStatus).requests = s.requests := by simp [State.grantStatus]
@[simp] theorem State.grantStatus_free (s : State) : (s.grantStatus).free = s.free := by simp [State.grantStatus]

/-! ### endGrant -/

@[simp] theorem State.endGrant_pending (s : State) (g : Grant) (k : Nat) : (s.endGrant g k).pending = s.pending := by simp [State.endGrant]
@[simp] theorem State.endGrant_pend (s : State) (g : Grant) (k : Nat) : (s.endGrant g k).pend = s.pend := by simp [State.endGrant]
@[simp] theorem State.endGrant_comp (s : State) (g : Grant) (k : Nat) : (s.endGrant g k).comp = s.comp := by simp [State.endGrant]
@[simp] theorem State.endGrant_strm (s : State) (g : Grant) (k : Nat) : (s.endGrant g k).strm = s.strm := by simp [State.endGrant]
@[simp] theorem State.endGrant_actv (s : State) (g : Grant) (k : Nat) : (s.endGrant g k).actv = s.actv := by simp [State.endGrant]
@[simp] theorem State.endGrant_dram (s : State) (g : Grant) (k : Nat) : (s.endGrant g k).dram = s.dram := by simp [State.endGrant]
@[simp] theorem State.endGrant_tb (s : State) (g : Grant) (k : Nat) : (s.endGrant g k).tb = s.tb := by simp [State.endGrant]
@[simp] theorem State.endGrant_sys (s : State) (g : Grant) (k : Nat) : (s.endGrant g k).sys = s.sys := by simp [State.endGrant]
@[simp] theorem State.endGrant_rst (s : State) (g : Grant) (k : Nat) : (s.endGrant g k).rst = s.rst := by simp [State.endGrant]
@[simp] theorem State.endGrant_aon (s : State) (g : Grant) (k : Nat) : (s.endGrant g k).aon = s.aon := by simp [State.endGrant]
@[simp] theorem State.endGrant_csi (s : State) (g : Grant) (k : Nat) : (s.endGrant g k).csi = s.csi := by simp [State.endGrant]
@[simp] theorem State.endGrant_lec (s : State) (g : Grant) (k : Nat) : (s.endGrant g k).lec = s.lec := by simp [State.endGrant]
@[simp] theorem State.endGrant_dmc (s : State) (g : Grant) (k : Nat) : (s.endGrant g k).dmc = s.dmc := by simp [State.endGrant]
@[simp] theorem State.endGrant_cal (s : State) (g : Grant) (k : Nat) : (s.endGrant g k).cal = s.cal := by simp [State.endGrant]
@[simp] theorem State.endGrant_tap (s : State) (g : Grant) (k : Nat) : (s.endGrant g k).tap = s.tap := by simp [State.endGrant]
@[simp] theorem State.endGrant_fw (s : State) (g : Grant) (k : Nat) : (s.endGrant g k).fw = s.fw := by simp [State.endGrant]
@[simp] theorem State.endGrant_requests (s : State) (g : Grant) (k : Nat) : (s.endGrant g k).requests = s.requests := by simp [State.endGrant]

end Sys2Proof.Machine
end

