-- ==== Sys2Proof/Laws/Ops.lean ====
section
/-! SUPPORT. What a register, a field, a byte of DRAM, a channel, a port reads after each named operation; the frame of
an event request. -/

namespace Sys2Proof.Machine

namespace State

theorem get_lt (s : State) (a : Nat) : s.get a < 2 ^ 32 := (sget regReset s.regs a).isLt

theorem get_congr {s t : State} (h : t.regs = s.regs) (a : Nat) : t.get a = s.get a := by rw [get, get, h]
theorem rd_congr {s t : State} {f : Fld} (h : t.get f.addr = s.get f.addr) : t.rd f = s.rd f := by rw [rd, rd, h]
theorem on_congr {s t : State} {f : Fld} (h : t.rd f = s.rd f) : t.on f = s.on f := by rw [on, on, h]
theorem dbyte_congr {s t : State} (h : t.dram = s.dram) (a : Nat) : t.dbyte a = s.dbyte a := by rw [dbyte, dbyte, h]

/-- A register after a write of a register. -/
theorem get_put (s : State) (a v b : Nat) : (s.put a v).get b = if b = a then v % 2 ^ 32 else s.get b := by
  simp only [get, put, sget_sset]
  split
  · rw [BitVec.toNat_ofNat]
  · rfl

@[simp] theorem get_put_self (s : State) (a v : Nat) : (s.put a v).get a = v % 2 ^ 32 := by simp [get_put]
theorem get_put_ne (s : State) {a b : Nat} (v : Nat) (h : b ≠ a) : (s.put a v).get b = s.get b := by simp [get_put, h]

theorem get_wr (s : State) (f : Fld) (v b : Nat) :
    (s.wr f v).get b = if b = f.addr then setBits (s.get f.addr) f.lo f.w v % 2 ^ 32 else s.get b := by
  rw [wr, get_put]
theorem get_wr_ne (s : State) {f : Fld} {b : Nat} (v : Nat) (h : b ≠ f.addr) : (s.wr f v).get b = s.get b := by
  rw [get_wr, if_neg h]
theorem get_wrB_ne (s : State) {f : Fld} {b : Nat} (v : Bool) (h : b ≠ f.addr) : (s.wrB f v).get b = s.get b :=
  get_wr_ne s _ h
theorem get_incSat_ne (s : State) {f : Fld} {b : Nat} (h : b ≠ f.addr) : (s.incSat f).get b = s.get b :=
  get_wr_ne s _ h
theorem get_addSat_ne (s : State) {f : Fld} {b : Nat} (k : Nat) (h : b ≠ f.addr) : (s.addSat f k).get b = s.get b :=
  get_wr_ne s _ h
theorem get_incWrap_ne (s : State) {f : Fld} {b : Nat} (h : b ≠ f.addr) : (s.incWrap f).get b = s.get b :=
  get_wr_ne s _ h

/-- A field after it was written. -/
theorem rd_wr (s : State) {f : Fld} (v : Nat) (h : f.lo + f.w ≤ 32) : (s.wr f v).rd f = v % 2 ^ f.w := by
  rw [rd, get_wr, if_pos rfl, Nat.mod_eq_of_lt (setBits_lt (get_lt s _) h), bits_setBits_self]

/-- A field of another register keeps its value. -/
theorem rd_wr_ne (s : State) {f g : Fld} (v : Nat) (h : g.addr ≠ f.addr) : (s.wr f v).rd g = s.rd g :=
  rd_congr (get_wr_ne s v h)

/-- Another field of the register keeps its value. -/
theorem rd_wr_dis (s : State) {f g : Fld} (v : Nat) (ha : g.addr = f.addr) (h : f.lo + f.w ≤ 32)
    (hd : g.lo + g.w ≤ f.lo ∨ f.lo + f.w ≤ g.lo) : (s.wr f v).rd g = s.rd g := by
  rw [rd, rd, ha, get_wr, if_pos rfl, Nat.mod_eq_of_lt (setBits_lt (get_lt s _) h)]
  cases hd with
  | inl h1 => exact bits_setBits_below h1
  | inr h1 => exact bits_setBits_above h1

/-- Two fields do not overlap. -/
def apart (f g : Fld) : Bool :=
  f.addr != g.addr || (decide (f.lo + f.w ≤ 32) && (decide (g.lo + g.w ≤ f.lo) || decide (f.lo + f.w ≤ g.lo)))

/-- A field that does not overlap keeps its value. -/
theorem rd_wr_apart (s : State) {f g : Fld} (v : Nat) (h : apart f g = true) : (s.wr f v).rd g = s.rd g := by
  by_cases ha : f.addr = g.addr
  · simp [apart, ha] at h
    exact rd_wr_dis s v ha.symm h.1 h.2
  · exact rd_wr_ne s v (Ne.symm ha)
theorem on_wr_apart (s : State) {f g : Fld} (v : Nat) (h : apart f g = true) : (s.wr f v).on g = s.on g :=
  on_congr (rd_wr_apart s v h)
theorem rd_wrB_apart (s : State) {f g : Fld} (v : Bool) (h : apart f g = true) : (s.wrB f v).rd g = s.rd g :=
  rd_wr_apart s _ h
theorem on_wrB_apart (s : State) {f g : Fld} (v : Bool) (h : apart f g = true) : (s.wrB f v).on g = s.on g :=
  on_wr_apart s _ h
theorem rd_incSat_apart (s : State) {f g : Fld} (h : apart f g = true) : (s.incSat f).rd g = s.rd g := rd_wr_apart s _ h
theorem on_incSat_apart (s : State) {f g : Fld} (h : apart f g = true) : (s.incSat f).on g = s.on g := on_wr_apart s _ h
theorem rd_incWrap_apart (s : State) {f g : Fld} (h : apart f g = true) : (s.incWrap f).rd g = s.rd g := rd_wr_apart s _ h
theorem on_incWrap_apart (s : State) {f g : Fld} (h : apart f g = true) : (s.incWrap f).on g = s.on g := on_wr_apart s _ h
theorem rd_put_ne (s : State) {a : Nat} {g : Fld} (v : Nat) (h : g.addr ≠ a) : (s.put a v).rd g = s.rd g :=
  rd_congr (get_put_ne s v h)
theorem on_put_ne (s : State) {a : Nat} {g : Fld} (v : Nat) (h : g.addr ≠ a) : (s.put a v).on g = s.on g :=
  on_congr (rd_put_ne s v h)

/-- A counter that saturates. -/
theorem rd_incSat (s : State) {f : Fld} (h : f.lo + f.w ≤ 32) : (s.incSat f).rd f = satN f.w (s.rd f + 1) := by
  rw [incSat, rd_wr s _ h]
  apply Nat.mod_eq_of_lt
  have : 0 < 2 ^ f.w := Nat.two_pow_pos f.w
  unfold satN
  omega
theorem rd_incWrap (s : State) {f : Fld} (h : f.lo + f.w ≤ 32) : (s.incWrap f).rd f = (s.rd f + 1) % 2 ^ f.w := by
  rw [incWrap, rd_wr s _ h]

theorem rd_lt (s : State) (f : Fld) : s.rd f < 2 ^ f.w := bits_lt _ _ _

theorem on_wr_one (s : State) {f : Fld} (h : f.lo + f.w ≤ 32) (hw : f.w = 1) : (s.wr f 1).on f = true := by
  rw [on, rd_wr s 1 h, hw]
  decide
theorem on_wr_zero (s : State) {f : Fld} (h : f.lo + f.w ≤ 32) : (s.wr f 0).on f = false := by
  rw [on, rd_wr s 0 h]
  simp
theorem on_wrB (s : State) {f : Fld} (b : Bool) (h : f.lo + f.w ≤ 32) (hw : f.w = 1) : (s.wrB f b).on f = b := by
  rw [on, wrB, rd_wr s _ h, hw]
  cases b <;> decide

/-! ### DRAM -/

/-- Bytes outside a write keep their value. -/
theorem dbyte_dwrite_out (s : State) {a b : Nat} (bs : List Byte) (h : b < a ∨ a + bs.length ≤ b) :
    (s.dwrite a bs).dbyte b = s.dbyte b := sget_ssets_out _ _ _ _ _ h
/-- Byte i of a write. -/
theorem dbyte_dwrite_in (s : State) (a : Nat) {i : Nat} (bs : List Byte) (h : i < bs.length) :
    (s.dwrite a bs).dbyte (a + i) = bs[i] := sget_ssets_in _ _ _ _ _ h
theorem dread_dwrite (s : State) (a : Nat) (bs : List Byte) : (s.dwrite a bs).dread a bs.length = bs :=
  sgets_ssets _ _ _ _

/-! ### Channels and ports -/

@[simp] theorem ch_modCh (s : State) (n : Fin 4) (g : Lec → Lec) : (s.modCh n g).ch n = g (s.ch n) := by
  simp [ch, modCh]
theorem ch_modCh_ne (s : State) {n m : Fin 4} (g : Lec → Lec) (h : m ≠ n) : (s.modCh n g).ch m = s.ch m := by
  simp [ch, modCh, Four.get_set_ne _ _ h]
@[simp] theorem port_modPort (s : State) (p : Fin 3) (g : Port → Port) : (s.modPort p g).port p = g (s.port p) := by
  simp [port, modPort, modMbx]
theorem port_modPort_ne (s : State) {p q : Fin 3} (g : Port → Port) (h : q ≠ p) :
    (s.modPort p g).port q = s.port q := by
  have h2 : portIx q ≠ portIx p := by
    intro e
    exact h (Fin.ext (by simpa [portIx] using e))
  simp [port, modPort, modMbx, Four.get_set_ne _ _ h2]

/-! ### Operations that leave the registers, DRAM, the channels or the ports alone -/

@[simp] theorem put_dbyte (s : State) (a v : Nat) (z : Nat) : (s.put a v).dbyte z = s.dbyte z := dbyte_congr (by simp) z
@[simp] theorem put_ch (s : State) (a v : Nat) (z : Fin 4) : (s.put a v).ch z = s.ch z := by simp [ch]
@[simp] theorem put_port (s : State) (a v : Nat) (z : Fin 3) : (s.put a v).port z = s.port z := by simp [port]
@[simp] theorem put_fwRuns (s : State) (a v : Nat) : (s.put a v).fwRuns = s.fwRuns := by simp [fwRuns]
@[simp] theorem wr_dbyte (s : State) (f : Fld) (v : Nat) (z : Nat) : (s.wr f v).dbyte z = s.dbyte z := dbyte_congr (by simp) z
@[simp] theorem wr_ch (s : State) (f : Fld) (v : Nat) (z : Fin 4) : (s.wr f v).ch z = s.ch z := by simp [ch]
@[simp] theorem wr_port (s : State) (f : Fld) (v : Nat) (z : Fin 3) : (s.wr f v).port z = s.port z := by simp [port]
@[simp] theorem wr_fwRuns (s : State) (f : Fld) (v : Nat) : (s.wr f v).fwRuns = s.fwRuns := by simp [fwRuns]
@[simp] theorem wrB_dbyte (s : State) (f : Fld) (b : Bool) (z : Nat) : (s.wrB f b).dbyte z = s.dbyte z := dbyte_congr (by simp) z
@[simp] theorem wrB_ch (s : State) (f : Fld) (b : Bool) (z : Fin 4) : (s.wrB f b).ch z = s.ch z := by simp [ch]
@[simp] theorem wrB_port (s : State) (f : Fld) (b : Bool) (z : Fin 3) : (s.wrB f b).port z = s.port z := by simp [port]
@[simp] theorem wrB_fwRuns (s : State) (f : Fld) (b : Bool) : (s.wrB f b).fwRuns = s.fwRuns := by simp [fwRuns]
@[simp] theorem incSat_dbyte (s : State) (f : Fld) (z : Nat) : (s.incSat f).dbyte z = s.dbyte z := dbyte_congr (by simp) z
@[simp] theorem incSat_ch (s : State) (f : Fld) (z : Fin 4) : (s.incSat f).ch z = s.ch z := by simp [ch]
@[simp] theorem incSat_port (s : State) (f : Fld) (z : Fin 3) : (s.incSat f).port z = s.port z := by simp [port]
@[simp] theorem incSat_fwRuns (s : State) (f : Fld) : (s.incSat f).fwRuns = s.fwRuns := by simp [fwRuns]
@[simp] theorem addSat_dbyte (s : State) (f : Fld) (k : Nat) (z : Nat) : (s.addSat f k).dbyte z = s.dbyte z := dbyte_congr (by simp) z
@[simp] theorem addSat_ch (s : State) (f : Fld) (k : Nat) (z : Fin 4) : (s.addSat f k).ch z = s.ch z := by simp [ch]
@[simp] theorem addSat_port (s : State) (f : Fld) (k : Nat) (z : Fin 3) : (s.addSat f k).port z = s.port z := by simp [port]
@[simp] theorem addSat_fwRuns (s : State) (f : Fld) (k : Nat) : (s.addSat f k).fwRuns = s.fwRuns := by simp [fwRuns]
@[simp] theorem incWrap_dbyte (s : State) (f : Fld) (z : Nat) : (s.incWrap f).dbyte z = s.dbyte z := dbyte_congr (by simp) z
@[simp] theorem incWrap_ch (s : State) (f : Fld) (z : Fin 4) : (s.incWrap f).ch z = s.ch z := by simp [ch]
@[simp] theorem incWrap_port (s : State) (f : Fld) (z : Fin 3) : (s.incWrap f).port z = s.port z := by simp [port]
@[simp] theorem incWrap_fwRuns (s : State) (f : Fld) : (s.incWrap f).fwRuns = s.fwRuns := by simp [fwRuns]
@[simp] theorem dwrite_get (s : State) (a : Nat) (bs : List Byte) (z : Nat) : (s.dwrite a bs).get z = s.get z := get_congr (by simp) z
@[simp] theorem dwrite_rd (s : State) (a : Nat) (bs : List Byte) (z : Fld) : (s.dwrite a bs).rd z = s.rd z := rd_congr (by simp)
@[simp] theorem dwrite_on (s : State) (a : Nat) (bs : List Byte) (z : Fld) : (s.dwrite a bs).on z = s.on z := on_congr (by simp)
@[simp] theorem dwrite_ch (s : State) (a : Nat) (bs : List Byte) (z : Fin 4) : (s.dwrite a bs).ch z = s.ch z := by simp [ch]
@[simp] theorem dwrite_port (s : State) (a : Nat) (bs : List Byte) (z : Fin 3) : (s.dwrite a bs).port z = s.port z := by simp [port]
@[simp] theorem dwrite_fwRuns (s : State) (a : Nat) (bs : List Byte) : (s.dwrite a bs).fwRuns = s.fwRuns := by simp [fwRuns]
@[simp] theorem modEvr_get (s : State) (g : Evr → Evr) (z : Nat) : (s.modEvr g).get z = s.get z := get_congr (by simp) z
@[simp] theorem modEvr_rd (s : State) (g : Evr → Evr) (z : Fld) : (s.modEvr g).rd z = s.rd z := rd_congr (by simp)
@[simp] theorem modEvr_on (s : State) (g : Evr → Evr) (z : Fld) : (s.modEvr g).on z = s.on z := on_congr (by simp)
@[simp] theorem modEvr_dbyte (s : State) (g : Evr → Evr) (z : Nat) : (s.modEvr g).dbyte z = s.dbyte z := dbyte_congr (by simp) z
@[simp] theorem modEvr_ch (s : State) (g : Evr → Evr) (z : Fin 4) : (s.modEvr g).ch z = s.ch z := by simp [ch]
@[simp] theorem modEvr_port (s : State) (g : Evr → Evr) (z : Fin 3) : (s.modEvr g).port z = s.port z := by simp [port]
@[simp] theorem modEvr_fwRuns (s : State) (g : Evr → Evr) : (s.modEvr g).fwRuns = s.fwRuns := by simp [fwRuns]
@[simp] theorem modMbx_get (s : State) (g : Mbx → Mbx) (z : Nat) : (s.modMbx g).get z = s.get z := get_congr (by simp) z
@[simp] theorem modMbx_rd (s : State) (g : Mbx → Mbx) (z : Fld) : (s.modMbx g).rd z = s.rd z := rd_congr (by simp)
@[simp] theorem modMbx_on (s : State) (g : Mbx → Mbx) (z : Fld) : (s.modMbx g).on z = s.on z := on_congr (by simp)
@[simp] theorem modMbx_dbyte (s : State) (g : Mbx → Mbx) (z : Nat) : (s.modMbx g).dbyte z = s.dbyte z := dbyte_congr (by simp) z
@[simp] theorem modMbx_ch (s : State) (g : Mbx → Mbx) (z : Fin 4) : (s.modMbx g).ch z = s.ch z := by simp [ch]
@[simp] theorem modMbx_fwRuns (s : State) (g : Mbx → Mbx) : (s.modMbx g).fwRuns = s.fwRuns := by simp [fwRuns]
@[simp] theorem modSys_get (s : State) (g : Sys → Sys) (z : Nat) : (s.modSys g).get z = s.get z := get_congr (by simp) z
@[simp] theorem modSys_rd (s : State) (g : Sys → Sys) (z : Fld) : (s.modSys g).rd z = s.rd z := rd_congr (by simp)
@[simp] theorem modSys_on (s : State) (g : Sys → Sys) (z : Fld) : (s.modSys g).on z = s.on z := on_congr (by simp)
@[simp] theorem modSys_dbyte (s : State) (g : Sys → Sys) (z : Nat) : (s.modSys g).dbyte z = s.dbyte z := dbyte_congr (by simp) z
@[simp] theorem modSys_ch (s : State) (g : Sys → Sys) (z : Fin 4) : (s.modSys g).ch z = s.ch z := by simp [ch]
@[simp] theorem modSys_port (s : State) (g : Sys → Sys) (z : Fin 3) : (s.modSys g).port z = s.port z := by simp [port]
theorem modSys_fwRuns (s : State) (g : Sys → Sys) (h : (g s.sys).clkOff = s.sys.clkOff) : (s.modSys g).fwRuns = s.fwRuns := by
  rw [fwRuns, fwRuns, modSys_rst, show (s.modSys g).sys.clkOff = s.sys.clkOff from h]
@[simp] theorem modRst_get (s : State) (g : Rst → Rst) (z : Nat) : (s.modRst g).get z = s.get z := get_congr (by simp) z
@[simp] theorem modRst_rd (s : State) (g : Rst → Rst) (z : Fld) : (s.modRst g).rd z = s.rd z := rd_congr (by simp)
@[simp] theorem modRst_on (s : State) (g : Rst → Rst) (z : Fld) : (s.modRst g).on z = s.on z := on_congr (by simp)
@[simp] theorem modRst_dbyte (s : State) (g : Rst → Rst) (z : Nat) : (s.modRst g).dbyte z = s.dbyte z := dbyte_congr (by simp) z
@[simp] theorem modRst_ch (s : State) (g : Rst → Rst) (z : Fin 4) : (s.modRst g).ch z = s.ch z := by simp [ch]
@[simp] theorem modRst_port (s : State) (g : Rst → Rst) (z : Fin 3) : (s.modRst g).port z = s.port z := by simp [port]
@[simp] theorem modAon_get (s : State) (g : Aon → Aon) (z : Nat) : (s.modAon g).get z = s.get z := get_congr (by simp) z
@[simp] theorem modAon_rd (s : State) (g : Aon → Aon) (z : Fld) : (s.modAon g).rd z = s.rd z := rd_congr (by simp)
@[simp] theorem modAon_on (s : State) (g : Aon → Aon) (z : Fld) : (s.modAon g).on z = s.on z := on_congr (by simp)
@[simp] theorem modAon_dbyte (s : State) (g : Aon → Aon) (z : Nat) : (s.modAon g).dbyte z = s.dbyte z := dbyte_congr (by simp) z
@[simp] theorem modAon_ch (s : State) (g : Aon → Aon) (z : Fin 4) : (s.modAon g).ch z = s.ch z := by simp [ch]
@[simp] theorem modAon_port (s : State) (g : Aon → Aon) (z : Fin 3) : (s.modAon g).port z = s.port z := by simp [port]
@[simp] theorem modAon_fwRuns (s : State) (g : Aon → Aon) : (s.modAon g).fwRuns = s.fwRuns := by simp [fwRuns]
@[simp] theorem modPins_get (s : State) (g : Pins → Pins) (z : Nat) : (s.modPins g).get z = s.get z := get_congr (by simp) z
@[simp] theorem modPins_rd (s : State) (g : Pins → Pins) (z : Fld) : (s.modPins g).rd z = s.rd z := rd_congr (by simp)
@[simp] theorem modPins_on (s : State) (g : Pins → Pins) (z : Fld) : (s.modPins g).on z = s.on z := on_congr (by simp)
@[simp] theorem modPins_dbyte (s : State) (g : Pins → Pins) (z : Nat) : (s.modPins g).dbyte z = s.dbyte z := dbyte_congr (by simp) z
@[simp] theorem modPins_ch (s : State) (g : Pins → Pins) (z : Fin 4) : (s.modPins g).ch z = s.ch z := by simp [ch]
@[simp] theorem modPins_port (s : State) (g : Pins → Pins) (z : Fin 3) : (s.modPins g).port z = s.port z := by simp [port]
@[simp] theorem modPins_fwRuns (s : State) (g : Pins → Pins) : (s.modPins g).fwRuns = s.fwRuns := by simp [fwRuns]
@[simp] theorem modCal_get (s : State) (g : CalState → CalState) (z : Nat) : (s.modCal g).get z = s.get z := get_congr (by simp) z
@[simp] theorem modCal_rd (s : State) (g : CalState → CalState) (z : Fld) : (s.modCal g).rd z = s.rd z := rd_congr (by simp)
@[simp] theorem modCal_on (s : State) (g : CalState → CalState) (z : Fld) : (s.modCal g).on z = s.on z := on_congr (by simp)
@[simp] theorem modCal_dbyte (s : State) (g : CalState → CalState) (z : Nat) : (s.modCal g).dbyte z = s.dbyte z := dbyte_congr (by simp) z
@[simp] theorem modCal_ch (s : State) (g : CalState → CalState) (z : Fin 4) : (s.modCal g).ch z = s.ch z := by simp [ch]
@[simp] theorem modCal_port (s : State) (g : CalState → CalState) (z : Fin 3) : (s.modCal g).port z = s.port z := by simp [port]
@[simp] theorem modCal_fwRuns (s : State) (g : CalState → CalState) : (s.modCal g).fwRuns = s.fwRuns := by simp [fwRuns]
@[simp] theorem modTap_get (s : State) (g : Tap → Tap) (z : Nat) : (s.modTap g).get z = s.get z := get_congr (by simp) z
@[simp] theorem modTap_rd (s : State) (g : Tap → Tap) (z : Fld) : (s.modTap g).rd z = s.rd z := rd_congr (by simp)
@[simp] theorem modTap_on (s : State) (g : Tap → Tap) (z : Fld) : (s.modTap g).on z = s.on z := on_congr (by simp)
@[simp] theorem modTap_dbyte (s : State) (g : Tap → Tap) (z : Nat) : (s.modTap g).dbyte z = s.dbyte z := dbyte_congr (by simp) z
@[simp] theorem modTap_ch (s : State) (g : Tap → Tap) (z : Fin 4) : (s.modTap g).ch z = s.ch z := by simp [ch]
@[simp] theorem modTap_port (s : State) (g : Tap → Tap) (z : Fin 3) : (s.modTap g).port z = s.port z := by simp [port]
@[simp] theorem modTap_fwRuns (s : State) (g : Tap → Tap) : (s.modTap g).fwRuns = s.fwRuns := by simp [fwRuns]
@[simp] theorem modFw_get (s : State) (g : Fw → Fw) (z : Nat) : (s.modFw g).get z = s.get z := get_congr (by simp) z
@[simp] theorem modFw_rd (s : State) (g : Fw → Fw) (z : Fld) : (s.modFw g).rd z = s.rd z := rd_congr (by simp)
@[simp] theorem modFw_on (s : State) (g : Fw → Fw) (z : Fld) : (s.modFw g).on z = s.on z := on_congr (by simp)
@[simp] theorem modFw_dbyte (s : State) (g : Fw → Fw) (z : Nat) : (s.modFw g).dbyte z = s.dbyte z := dbyte_congr (by simp) z
@[simp] theorem modFw_ch (s : State) (g : Fw → Fw) (z : Fin 4) : (s.modFw g).ch z = s.ch z := by simp [ch]
@[simp] theorem modFw_port (s : State) (g : Fw → Fw) (z : Fin 3) : (s.modFw g).port z = s.port z := by simp [port]
@[simp] theorem modFw_fwRuns (s : State) (g : Fw → Fw) : (s.modFw g).fwRuns = s.fwRuns := by simp [fwRuns]
@[simp] theorem modCh_get (s : State) (n : Fin 4) (g : Lec → Lec) (z : Nat) : (s.modCh n g).get z = s.get z := get_congr (by simp) z
@[simp] theorem modCh_rd (s : State) (n : Fin 4) (g : Lec → Lec) (z : Fld) : (s.modCh n g).rd z = s.rd z := rd_congr (by simp)
@[simp] theorem modCh_on (s : State) (n : Fin 4) (g : Lec → Lec) (z : Fld) : (s.modCh n g).on z = s.on z := on_congr (by simp)
@[simp] theorem modCh_dbyte (s : State) (n : Fin 4) (g : Lec → Lec) (z : Nat) : (s.modCh n g).dbyte z = s.dbyte z := dbyte_congr (by simp) z
@[simp] theorem modCh_port (s : State) (n : Fin 4) (g : Lec → Lec) (z : Fin 3) : (s.modCh n g).port z = s.port z := by simp [port]
@[simp] theorem modCh_fwRuns (s : State) (n : Fin 4) (g : Lec → Lec) : (s.modCh n g).fwRuns = s.fwRuns := by simp [fwRuns]
@[simp] theorem modCsi_get (s : State) (n : Fin 2) (g : Csi → Csi) (z : Nat) : (s.modCsi n g).get z = s.get z := get_congr (by simp) z
@[simp] theorem modCsi_rd (s : State) (n : Fin 2) (g : Csi → Csi) (z : Fld) : (s.modCsi n g).rd z = s.rd z := rd_congr (by simp)
@[simp] theorem modCsi_on (s : State) (n : Fin 2) (g : Csi → Csi) (z : Fld) : (s.modCsi n g).on z = s.on z := on_congr (by simp)
@[simp] theorem modCsi_dbyte (s : State) (n : Fin 2) (g : Csi → Csi) (z : Nat) : (s.modCsi n g).dbyte z = s.dbyte z := dbyte_congr (by simp) z
@[simp] theorem modCsi_ch (s : State) (n : Fin 2) (g : Csi → Csi) (z : Fin 4) : (s.modCsi n g).ch z = s.ch z := by simp [ch]
@[simp] theorem modCsi_port (s : State) (n : Fin 2) (g : Csi → Csi) (z : Fin 3) : (s.modCsi n g).port z = s.port z := by simp [port]
@[simp] theorem modCsi_fwRuns (s : State) (n : Fin 2) (g : Csi → Csi) : (s.modCsi n g).fwRuns = s.fwRuns := by simp [fwRuns]
@[simp] theorem modDmc_get (s : State) (n : Fin 2) (g : DmcRun → DmcRun) (z : Nat) : (s.modDmc n g).get z = s.get z := get_congr (by simp) z
@[simp] theorem modDmc_rd (s : State) (n : Fin 2) (g : DmcRun → DmcRun) (z : Fld) : (s.modDmc n g).rd z = s.rd z := rd_congr (by simp)
@[simp] theorem modDmc_on (s : State) (n : Fin 2) (g : DmcRun → DmcRun) (z : Fld) : (s.modDmc n g).on z = s.on z := on_congr (by simp)
@[simp] theorem modDmc_dbyte (s : State) (n : Fin 2) (g : DmcRun → DmcRun) (z : Nat) : (s.modDmc n g).dbyte z = s.dbyte z := dbyte_congr (by simp) z
@[simp] theorem modDmc_ch (s : State) (n : Fin 2) (g : DmcRun → DmcRun) (z : Fin 4) : (s.modDmc n g).ch z = s.ch z := by simp [ch]
@[simp] theorem modDmc_port (s : State) (n : Fin 2) (g : DmcRun → DmcRun) (z : Fin 3) : (s.modDmc n g).port z = s.port z := by simp [port]
@[simp] theorem modDmc_fwRuns (s : State) (n : Fin 2) (g : DmcRun → DmcRun) : (s.modDmc n g).fwRuns = s.fwRuns := by simp [fwRuns]
@[simp] theorem setRegs_dbyte (s : State) (x : RegFile) (z : Nat) : (s.setRegs x).dbyte z = s.dbyte z := dbyte_congr (by simp) z
@[simp] theorem setRegs_ch (s : State) (x : RegFile) (z : Fin 4) : (s.setRegs x).ch z = s.ch z := by simp [ch]
@[simp] theorem setRegs_port (s : State) (x : RegFile) (z : Fin 3) : (s.setRegs x).port z = s.port z := by simp [port]
@[simp] theorem setRegs_fwRuns (s : State) (x : RegFile) : (s.setRegs x).fwRuns = s.fwRuns := by simp [fwRuns]
@[simp] theorem setPend_get (s : State) (x : RegFile) (z : Nat) : (s.setPend x).get z = s.get z := get_congr (by simp) z
@[simp] theorem setPend_rd (s : State) (x : RegFile) (z : Fld) : (s.setPend x).rd z = s.rd z := rd_congr (by simp)
@[simp] theorem setPend_on (s : State) (x : RegFile) (z : Fld) : (s.setPend x).on z = s.on z := on_congr (by simp)
@[simp] theorem setPend_dbyte (s : State) (x : RegFile) (z : Nat) : (s.setPend x).dbyte z = s.dbyte z := dbyte_congr (by simp) z
@[simp] theorem setPend_ch (s : State) (x : RegFile) (z : Fin 4) : (s.setPend x).ch z = s.ch z := by simp [ch]
@[simp] theorem setPend_port (s : State) (x : RegFile) (z : Fin 3) : (s.setPend x).port z = s.port z := by simp [port]
@[simp] theorem setPend_fwRuns (s : State) (x : RegFile) : (s.setPend x).fwRuns = s.fwRuns := by simp [fwRuns]
@[simp] theorem setComp_get (s : State) (x : RegFile) (z : Nat) : (s.setComp x).get z = s.get z := get_congr (by simp) z
@[simp] theorem setComp_rd (s : State) (x : RegFile) (z : Fld) : (s.setComp x).rd z = s.rd z := rd_congr (by simp)
@[simp] theorem setComp_on (s : State) (x : RegFile) (z : Fld) : (s.setComp x).on z = s.on z := on_congr (by simp)
@[simp] theorem setComp_dbyte (s : State) (x : RegFile) (z : Nat) : (s.setComp x).dbyte z = s.dbyte z := dbyte_congr (by simp) z
@[simp] theorem setComp_ch (s : State) (x : RegFile) (z : Fin 4) : (s.setComp x).ch z = s.ch z := by simp [ch]
@[simp] theorem setComp_port (s : State) (x : RegFile) (z : Fin 3) : (s.setComp x).port z = s.port z := by simp [port]
@[simp] theorem setComp_fwRuns (s : State) (x : RegFile) : (s.setComp x).fwRuns = s.fwRuns := by simp [fwRuns]
@[simp] theorem setStrm_get (s : State) (x : RegFile) (z : Nat) : (s.setStrm x).get z = s.get z := get_congr (by simp) z
@[simp] theorem setStrm_rd (s : State) (x : RegFile) (z : Fld) : (s.setStrm x).rd z = s.rd z := rd_congr (by simp)
@[simp] theorem setStrm_on (s : State) (x : RegFile) (z : Fld) : (s.setStrm x).on z = s.on z := on_congr (by simp)
@[simp] theorem setStrm_dbyte (s : State) (x : RegFile) (z : Nat) : (s.setStrm x).dbyte z = s.dbyte z := dbyte_congr (by simp) z
@[simp] theorem setStrm_ch (s : State) (x : RegFile) (z : Fin 4) : (s.setStrm x).ch z = s.ch z := by simp [ch]
@[simp] theorem setStrm_port (s : State) (x : RegFile) (z : Fin 3) : (s.setStrm x).port z = s.port z := by simp [port]
@[simp] theorem setStrm_fwRuns (s : State) (x : RegFile) : (s.setStrm x).fwRuns = s.fwRuns := by simp [fwRuns]
@[simp] theorem setActv_get (s : State) (x : RegFile) (z : Nat) : (s.setActv x).get z = s.get z := get_congr (by simp) z
@[simp] theorem setActv_rd (s : State) (x : RegFile) (z : Fld) : (s.setActv x).rd z = s.rd z := rd_congr (by simp)
@[simp] theorem setActv_on (s : State) (x : RegFile) (z : Fld) : (s.setActv x).on z = s.on z := on_congr (by simp)
@[simp] theorem setActv_dbyte (s : State) (x : RegFile) (z : Nat) : (s.setActv x).dbyte z = s.dbyte z := dbyte_congr (by simp) z
@[simp] theorem setActv_ch (s : State) (x : RegFile) (z : Fin 4) : (s.setActv x).ch z = s.ch z := by simp [ch]
@[simp] theorem setActv_port (s : State) (x : RegFile) (z : Fin 3) : (s.setActv x).port z = s.port z := by simp [port]
@[simp] theorem setActv_fwRuns (s : State) (x : RegFile) : (s.setActv x).fwRuns = s.fwRuns := by simp [fwRuns]
@[simp] theorem setDram_get (s : State) (x : Mem) (z : Nat) : (s.setDram x).get z = s.get z := get_congr (by simp) z
@[simp] theorem setDram_rd (s : State) (x : Mem) (z : Fld) : (s.setDram x).rd z = s.rd z := rd_congr (by simp)
@[simp] theorem setDram_on (s : State) (x : Mem) (z : Fld) : (s.setDram x).on z = s.on z := on_congr (by simp)
@[simp] theorem setDram_ch (s : State) (x : Mem) (z : Fin 4) : (s.setDram x).ch z = s.ch z := by simp [ch]
@[simp] theorem setDram_port (s : State) (x : Mem) (z : Fin 3) : (s.setDram x).port z = s.port z := by simp [port]
@[simp] theorem setDram_fwRuns (s : State) (x : Mem) : (s.setDram x).fwRuns = s.fwRuns := by simp [fwRuns]
@[simp] theorem setFree_get (s : State) (x : Nat) (z : Nat) : (s.setFree x).get z = s.get z := get_congr (by simp) z
@[simp] theorem setFree_rd (s : State) (x : Nat) (z : Fld) : (s.setFree x).rd z = s.rd z := rd_congr (by simp)
@[simp] theorem setFree_on (s : State) (x : Nat) (z : Fld) : (s.setFree x).on z = s.on z := on_congr (by simp)
@[simp] theorem setFree_dbyte (s : State) (x : Nat) (z : Nat) : (s.setFree x).dbyte z = s.dbyte z := dbyte_congr (by simp) z
@[simp] theorem setFree_ch (s : State) (x : Nat) (z : Fin 4) : (s.setFree x).ch z = s.ch z := by simp [ch]
@[simp] theorem setFree_port (s : State) (x : Nat) (z : Fin 3) : (s.setFree x).port z = s.port z := by simp [port]
@[simp] theorem setFree_fwRuns (s : State) (x : Nat) : (s.setFree x).fwRuns = s.fwRuns := by simp [fwRuns]
@[simp] theorem errHit_dbyte (s : State) (b c : Nat) (z : Nat) : (s.errHit b c).dbyte z = s.dbyte z := dbyte_congr (by simp) z
@[simp] theorem errHit_ch (s : State) (b c : Nat) (z : Fin 4) : (s.errHit b c).ch z = s.ch z := by simp [ch]
@[simp] theorem errHit_port (s : State) (b c : Nat) (z : Fin 3) : (s.errHit b c).port z = s.port z := by simp [port]
@[simp] theorem errHit_fwRuns (s : State) (b c : Nat) : (s.errHit b c).fwRuns = s.fwRuns := by simp [fwRuns]
@[simp] theorem errClear_dbyte (s : State) (b : Nat) (z : Nat) : (s.errClear b).dbyte z = s.dbyte z := dbyte_congr (by simp) z
@[simp] theorem errClear_ch (s : State) (b : Nat) (z : Fin 4) : (s.errClear b).ch z = s.ch z := by simp [ch]
@[simp] theorem errClear_port (s : State) (b : Nat) (z : Fin 3) : (s.errClear b).port z = s.port z := by simp [port]
@[simp] theorem errClear_fwRuns (s : State) (b : Nat) : (s.errClear b).fwRuns = s.fwRuns := by simp [fwRuns]
@[simp] theorem irqOccur_dbyte (s : State) (v : Nat) (z : Nat) : (s.irqOccur v).dbyte z = s.dbyte z := dbyte_congr (by simp) z
@[simp] theorem irqOccur_ch (s : State) (v : Nat) (z : Fin 4) : (s.irqOccur v).ch z = s.ch z := by simp [ch]
@[simp] theorem irqOccur_port (s : State) (v : Nat) (z : Fin 3) : (s.irqOccur v).port z = s.port z := by simp [port]
@[simp] theorem irqOccur_fwRuns (s : State) (v : Nat) : (s.irqOccur v).fwRuns = s.fwRuns := by simp [fwRuns]
@[simp] theorem faultLatch_dbyte (s : State) (c v : Nat) (z : Nat) : (s.faultLatch c v).dbyte z = s.dbyte z := dbyte_congr (by simp) z
@[simp] theorem faultLatch_ch (s : State) (c v : Nat) (z : Fin 4) : (s.faultLatch c v).ch z = s.ch z := by simp [ch]
@[simp] theorem faultLatch_port (s : State) (c v : Nat) (z : Fin 3) : (s.faultLatch c v).port z = s.port z := by simp [port]
@[simp] theorem faultLatch_fwRuns (s : State) (c v : Nat) : (s.faultLatch c v).fwRuns = s.fwRuns := by simp [fwRuns]
@[simp] theorem faultDrive_get (s : State) (z : Nat) : (s.faultDrive).get z = s.get z := get_congr (by simp) z
@[simp] theorem faultDrive_rd (s : State) (z : Fld) : (s.faultDrive).rd z = s.rd z := rd_congr (by simp)
@[simp] theorem faultDrive_on (s : State) (z : Fld) : (s.faultDrive).on z = s.on z := on_congr (by simp)
@[simp] theorem faultDrive_dbyte (s : State) (z : Nat) : (s.faultDrive).dbyte z = s.dbyte z := dbyte_congr (by simp) z
@[simp] theorem faultDrive_ch (s : State) (z : Fin 4) : (s.faultDrive).ch z = s.ch z := by simp [ch]
@[simp] theorem faultDrive_port (s : State) (z : Fin 3) : (s.faultDrive).port z = s.port z := by simp [port]
@[simp] theorem faultDrive_fwRuns (s : State) : (s.faultDrive).fwRuns = s.fwRuns := by simp [fwRuns]
@[simp] theorem occur_dbyte (s : State) (c v : Nat) (z : Nat) : (s.occur c v).dbyte z = s.dbyte z := dbyte_congr (by simp) z
@[simp] theorem occur_ch (s : State) (c v : Nat) (z : Fin 4) : (s.occur c v).ch z = s.ch z := by simp [ch]
@[simp] theorem occur_port (s : State) (c v : Nat) (z : Fin 3) : (s.occur c v).port z = s.port z := by simp [port]
@[simp] theorem occur_fwRuns (s : State) (c v : Nat) : (s.occur c v).fwRuns = s.fwRuns := by simp [fwRuns]
@[simp] theorem stamped_get (s : State) (z : Nat) : (s.stamped).get z = s.get z := get_congr (by simp) z
@[simp] theorem stamped_rd (s : State) (z : Fld) : (s.stamped).rd z = s.rd z := rd_congr (by simp)
@[simp] theorem stamped_on (s : State) (z : Fld) : (s.stamped).on z = s.on z := on_congr (by simp)
@[simp] theorem stamped_dbyte (s : State) (z : Nat) : (s.stamped).dbyte z = s.dbyte z := dbyte_congr (by simp) z
@[simp] theorem stamped_ch (s : State) (z : Fin 4) : (s.stamped).ch z = s.ch z := by simp [ch]
@[simp] theorem stamped_port (s : State) (z : Fin 3) : (s.stamped).port z = s.port z := by simp [port]
@[simp] theorem stamped_fwRuns (s : State) : (s.stamped).fwRuns = s.fwRuns := by simp [fwRuns]
@[simp] theorem nextFree_get (s : State) (z : Nat) : (s.nextFree).get z = s.get z := get_congr (by simp) z
@[simp] theorem nextFree_rd (s : State) (z : Fld) : (s.nextFree).rd z = s.rd z := rd_congr (by simp)
@[simp] theorem nextFree_on (s : State) (z : Fld) : (s.nextFree).on z = s.on z := on_congr (by simp)
@[simp] theorem nextFree_dbyte (s : State) (z : Nat) : (s.nextFree).dbyte z = s.dbyte z := dbyte_congr (by simp) z
@[simp] theorem nextFree_ch (s : State) (z : Fin 4) : (s.nextFree).ch z = s.ch z := by simp [ch]
@[simp] theorem nextFree_port (s : State) (z : Fin 3) : (s.nextFree).port z = s.port z := by simp [port]
@[simp] theorem nextFree_fwRuns (s : State) : (s.nextFree).fwRuns = s.fwRuns := by simp [fwRuns]
@[simp] theorem enqueue_get (s : State) (c v a b : Nat) (z : Nat) : (s.enqueue c v a b).get z = s.get z := get_congr (by simp) z
@[simp] theorem enqueue_rd (s : State) (c v a b : Nat) (z : Fld) : (s.enqueue c v a b).rd z = s.rd z := rd_congr (by simp)
@[simp] theorem enqueue_on (s : State) (c v a b : Nat) (z : Fld) : (s.enqueue c v a b).on z = s.on z := on_congr (by simp)
@[simp] theorem enqueue_dbyte (s : State) (c v a b : Nat) (z : Nat) : (s.enqueue c v a b).dbyte z = s.dbyte z := dbyte_congr (by simp) z
@[simp] theorem enqueue_ch (s : State) (c v a b : Nat) (z : Fin 4) : (s.enqueue c v a b).ch z = s.ch z := by simp [ch]
@[simp] theorem enqueue_port (s : State) (c v a b : Nat) (z : Fin 3) : (s.enqueue c v a b).port z = s.port z := by simp [port]
@[simp] theorem enqueue_fwRuns (s : State) (c v a b : Nat) : (s.enqueue c v a b).fwRuns = s.fwRuns := by simp [fwRuns]
@[simp] theorem dropReq_dbyte (s : State) (z : Nat) : (s.dropReq).dbyte z = s.dbyte z := dbyte_congr (by simp) z
@[simp] theorem dropReq_ch (s : State) (z : Fin 4) : (s.dropReq).ch z = s.ch z := by simp [ch]
@[simp] theorem dropReq_port (s : State) (z : Fin 3) : (s.dropReq).port z = s.port z := by simp [port]
@[simp] theorem dropReq_fwRuns (s : State) : (s.dropReq).fwRuns = s.fwRuns := by simp [fwRuns]
@[simp] theorem logEvent_dbyte (s : State) (c v a b : Nat) (z : Nat) : (s.logEvent c v a b).dbyte z = s.dbyte z := dbyte_congr (by simp) z
@[simp] theorem logEvent_ch (s : State) (c v a b : Nat) (z : Fin 4) : (s.logEvent c v a b).ch z = s.ch z := by simp [ch]
@[simp] theorem logEvent_port (s : State) (c v a b : Nat) (z : Fin 3) : (s.logEvent c v a b).port z = s.port z := by simp [port]
@[simp] theorem logEvent_fwRuns (s : State) (c v a b : Nat) : (s.logEvent c v a b).fwRuns = s.fwRuns := by simp [fwRuns]
@[simp] theorem errEvent_dbyte (s : State) (e c v a b : Nat) (z : Nat) : (s.errEvent e c v a b).dbyte z = s.dbyte z := dbyte_congr (by simp) z
@[simp] theorem errEvent_ch (s : State) (e c v a b : Nat) (z : Fin 4) : (s.errEvent e c v a b).ch z = s.ch z := by simp [ch]
@[simp] theorem errEvent_port (s : State) (e c v a b : Nat) (z : Fin 3) : (s.errEvent e c v a b).port z = s.port z := by simp [port]
@[simp] theorem errEvent_fwRuns (s : State) (e c v a b : Nat) : (s.errEvent e c v a b).fwRuns = s.fwRuns := by simp [fwRuns]
@[simp] theorem setMode_dbyte (s : State) (m c : Nat) (z : Nat) : (s.setMode m c).dbyte z = s.dbyte z := dbyte_congr (by simp) z
@[simp] theorem setMode_ch (s : State) (m c : Nat) (z : Fin 4) : (s.setMode m c).ch z = s.ch z := by simp [ch]
@[simp] theorem setMode_port (s : State) (m c : Nat) (z : Fin 3) : (s.setMode m c).port z = s.port z := by simp [port]
@[simp] theorem setMode_fwRuns (s : State) (m c : Nat) : (s.setMode m c).fwRuns = s.fwRuns := by simp [fwRuns]
@[simp] theorem modPort_get (s : State) (p : Fin 3) (g : Port → Port) (z : Nat) : (s.modPort p g).get z = s.get z := get_congr (by simp) z
@[simp] theorem modPort_rd (s : State) (p : Fin 3) (g : Port → Port) (z : Fld) : (s.modPort p g).rd z = s.rd z := rd_congr (by simp)
@[simp] theorem modPort_on (s : State) (p : Fin 3) (g : Port → Port) (z : Fld) : (s.modPort p g).on z = s.on z := on_congr (by simp)
@[simp] theorem modPort_dbyte (s : State) (p : Fin 3) (g : Port → Port) (z : Nat) : (s.modPort p g).dbyte z = s.dbyte z := dbyte_congr (by simp) z
@[simp] theorem modPort_ch (s : State) (p : Fin 3) (g : Port → Port) (z : Fin 4) : (s.modPort p g).ch z = s.ch z := by simp [ch]
@[simp] theorem modPort_fwRuns (s : State) (p : Fin 3) (g : Port → Port) : (s.modPort p g).fwRuns = s.fwRuns := by simp [fwRuns]
@[simp] theorem notify_dbyte (s : State) (p : Fin 3) (o : Nat) (l : List Byte) (z : Nat) : (s.notify p o l).dbyte z = s.dbyte z := dbyte_congr (by simp) z
@[simp] theorem notify_ch (s : State) (p : Fin 3) (o : Nat) (l : List Byte) (z : Fin 4) : (s.notify p o l).ch z = s.ch z := by simp [ch]
@[simp] theorem notify_fwRuns (s : State) (p : Fin 3) (o : Nat) (l : List Byte) : (s.notify p o l).fwRuns = s.fwRuns := by simp [fwRuns]
@[simp] theorem done_dbyte (s : State) (t : Tag) (st d : Nat) (z : Nat) : (s.done t st d).dbyte z = s.dbyte z := dbyte_congr (by simp) z
@[simp] theorem done_ch (s : State) (t : Tag) (st d : Nat) (z : Fin 4) : (s.done t st d).ch z = s.ch z := by simp [ch]
@[simp] theorem done_fwRuns (s : State) (t : Tag) (st d : Nat) : (s.done t st d).fwRuns = s.fwRuns := by simp [fwRuns]
@[simp] theorem doneOpt_dbyte (s : State) (t : Option Tag) (st d : Nat) (z : Nat) : (s.doneOpt t st d).dbyte z = s.dbyte z := dbyte_congr (by simp) z
@[simp] theorem doneOpt_ch (s : State) (t : Option Tag) (st d : Nat) (z : Fin 4) : (s.doneOpt t st d).ch z = s.ch z := by simp [ch]
@[simp] theorem doneOpt_fwRuns (s : State) (t : Option Tag) (st d : Nat) : (s.doneOpt t st d).fwRuns = s.fwRuns := by simp [fwRuns]
@[simp] theorem modLink_get (s : State) (n : Fin 4) (g : LinkRun → LinkRun) (z : Nat) : (s.modLink n g).get z = s.get z := get_congr (by simp) z
@[simp] theorem modLink_rd (s : State) (n : Fin 4) (g : LinkRun → LinkRun) (z : Fld) : (s.modLink n g).rd z = s.rd z := rd_congr (by simp)
@[simp] theorem modLink_on (s : State) (n : Fin 4) (g : LinkRun → LinkRun) (z : Fld) : (s.modLink n g).on z = s.on z := on_congr (by simp)
@[simp] theorem modLink_dbyte (s : State) (n : Fin 4) (g : LinkRun → LinkRun) (z : Nat) : (s.modLink n g).dbyte z = s.dbyte z := dbyte_congr (by simp) z
@[simp] theorem modLink_port (s : State) (n : Fin 4) (g : LinkRun → LinkRun) (z : Fin 3) : (s.modLink n g).port z = s.port z := by simp [port]
@[simp] theorem modLink_fwRuns (s : State) (n : Fin 4) (g : LinkRun → LinkRun) : (s.modLink n g).fwRuns = s.fwRuns := by simp [fwRuns]
@[simp] theorem modMask_get (s : State) (n : Fin 4) (g : MaskRun → MaskRun) (z : Nat) : (s.modMask n g).get z = s.get z := get_congr (by simp) z
@[simp] theorem modMask_rd (s : State) (n : Fin 4) (g : MaskRun → MaskRun) (z : Fld) : (s.modMask n g).rd z = s.rd z := rd_congr (by simp)
@[simp] theorem modMask_on (s : State) (n : Fin 4) (g : MaskRun → MaskRun) (z : Fld) : (s.modMask n g).on z = s.on z := on_congr (by simp)
@[simp] theorem modMask_dbyte (s : State) (n : Fin 4) (g : MaskRun → MaskRun) (z : Nat) : (s.modMask n g).dbyte z = s.dbyte z := dbyte_congr (by simp) z
@[simp] theorem modMask_port (s : State) (n : Fin 4) (g : MaskRun → MaskRun) (z : Fin 3) : (s.modMask n g).port z = s.port z := by simp [port]
@[simp] theorem modMask_fwRuns (s : State) (n : Fin 4) (g : MaskRun → MaskRun) : (s.modMask n g).fwRuns = s.fwRuns := by simp [fwRuns]
@[simp] theorem modSrc_get (s : State) (n : Fin 4) (g : SrcRun → SrcRun) (z : Nat) : (s.modSrc n g).get z = s.get z := get_congr (by simp) z
@[simp] theorem modSrc_rd (s : State) (n : Fin 4) (g : SrcRun → SrcRun) (z : Fld) : (s.modSrc n g).rd z = s.rd z := rd_congr (by simp)
@[simp] theorem modSrc_on (s : State) (n : Fin 4) (g : SrcRun → SrcRun) (z : Fld) : (s.modSrc n g).on z = s.on z := on_congr (by simp)
@[simp] theorem modSrc_dbyte (s : State) (n : Fin 4) (g : SrcRun → SrcRun) (z : Nat) : (s.modSrc n g).dbyte z = s.dbyte z := dbyte_congr (by simp) z
@[simp] theorem modSrc_port (s : State) (n : Fin 4) (g : SrcRun → SrcRun) (z : Fin 3) : (s.modSrc n g).port z = s.port z := by simp [port]
@[simp] theorem modSrc_fwRuns (s : State) (n : Fin 4) (g : SrcRun → SrcRun) : (s.modSrc n g).fwRuns = s.fwRuns := by simp [fwRuns]
@[simp] theorem send_get (s : State) (n : Fin 4) (o : Nat) (l : List Byte) (z : Nat) : (s.send n o l).get z = s.get z := get_congr (by simp) z
@[simp] theorem send_rd (s : State) (n : Fin 4) (o : Nat) (l : List Byte) (z : Fld) : (s.send n o l).rd z = s.rd z := rd_congr (by simp)
@[simp] theorem send_on (s : State) (n : Fin 4) (o : Nat) (l : List Byte) (z : Fld) : (s.send n o l).on z = s.on z := on_congr (by simp)
@[simp] theorem send_dbyte (s : State) (n : Fin 4) (o : Nat) (l : List Byte) (z : Nat) : (s.send n o l).dbyte z = s.dbyte z := dbyte_congr (by simp) z
@[simp] theorem send_port (s : State) (n : Fin 4) (o : Nat) (l : List Byte) (z : Fin 3) : (s.send n o l).port z = s.port z := by simp [port]
@[simp] theorem send_fwRuns (s : State) (n : Fin 4) (o : Nat) (l : List Byte) : (s.send n o l).fwRuns = s.fwRuns := by simp [fwRuns]
@[simp] theorem mgmt_get (s : State) (n : Fin 4) (o : Nat) (l : List Byte) (z : Nat) : (s.mgmt n o l).get z = s.get z := get_congr (by simp) z
@[simp] theorem mgmt_rd (s : State) (n : Fin 4) (o : Nat) (l : List Byte) (z : Fld) : (s.mgmt n o l).rd z = s.rd z := rd_congr (by simp)
@[simp] theorem mgmt_on (s : State) (n : Fin 4) (o : Nat) (l : List Byte) (z : Fld) : (s.mgmt n o l).on z = s.on z := on_congr (by simp)
@[simp] theorem mgmt_dbyte (s : State) (n : Fin 4) (o : Nat) (l : List Byte) (z : Nat) : (s.mgmt n o l).dbyte z = s.dbyte z := dbyte_congr (by simp) z
@[simp] theorem mgmt_port (s : State) (n : Fin 4) (o : Nat) (l : List Byte) (z : Fin 3) : (s.mgmt n o l).port z = s.port z := by simp [port]
@[simp] theorem mgmt_fwRuns (s : State) (n : Fin 4) (o : Nat) (l : List Byte) : (s.mgmt n o l).fwRuns = s.fwRuns := by simp [fwRuns]
@[simp] theorem hostWrite_get (s : State) (a : Nat) (l : List Byte) (z : Nat) : (s.hostWrite a l).get z = s.get z := get_congr (by simp) z
@[simp] theorem hostWrite_rd (s : State) (a : Nat) (l : List Byte) (z : Fld) : (s.hostWrite a l).rd z = s.rd z := rd_congr (by simp)
@[simp] theorem hostWrite_on (s : State) (a : Nat) (l : List Byte) (z : Fld) : (s.hostWrite a l).on z = s.on z := on_congr (by simp)
@[simp] theorem hostWrite_dbyte (s : State) (a : Nat) (l : List Byte) (z : Nat) : (s.hostWrite a l).dbyte z = s.dbyte z := dbyte_congr (by simp) z
@[simp] theorem hostWrite_ch (s : State) (a : Nat) (l : List Byte) (z : Fin 4) : (s.hostWrite a l).ch z = s.ch z := by simp [ch]
@[simp] theorem hostWrite_fwRuns (s : State) (a : Nat) (l : List Byte) : (s.hostWrite a l).fwRuns = s.fwRuns := by simp [fwRuns]
@[simp] theorem setRequests_get (s : State) (x : Nat) (z : Nat) : (s.setRequests x).get z = s.get z := get_congr (by simp) z
@[simp] theorem setRequests_rd (s : State) (x : Nat) (z : Fld) : (s.setRequests x).rd z = s.rd z := rd_congr (by simp)
@[simp] theorem setRequests_on (s : State) (x : Nat) (z : Fld) : (s.setRequests x).on z = s.on z := on_congr (by simp)
@[simp] theorem setRequests_dbyte (s : State) (x : Nat) (z : Nat) : (s.setRequests x).dbyte z = s.dbyte z := dbyte_congr (by simp) z
@[simp] theorem setRequests_ch (s : State) (x : Nat) (z : Fin 4) : (s.setRequests x).ch z = s.ch z := by simp [ch]
@[simp] theorem setRequests_port (s : State) (x : Nat) (z : Fin 3) : (s.setRequests x).port z = s.port z := by simp [port]
@[simp] theorem setRequests_fwRuns (s : State) (x : Nat) : (s.setRequests x).fwRuns = s.fwRuns := by simp [fwRuns]
@[simp] theorem received_get (s : State) (p : Fin 3) (mb : Nat) (z : Nat) : (s.received p mb).get z = s.get z := get_congr (by simp) z
@[simp] theorem received_rd (s : State) (p : Fin 3) (mb : Nat) (z : Fld) : (s.received p mb).rd z = s.rd z := rd_congr (by simp)
@[simp] theorem received_on (s : State) (p : Fin 3) (mb : Nat) (z : Fld) : (s.received p mb).on z = s.on z := on_congr (by simp)
@[simp] theorem received_dbyte (s : State) (p : Fin 3) (mb : Nat) (z : Nat) : (s.received p mb).dbyte z = s.dbyte z := dbyte_congr (by simp) z
@[simp] theorem received_ch (s : State) (p : Fin 3) (mb : Nat) (z : Fin 4) : (s.received p mb).ch z = s.ch z := by simp [ch]
@[simp] theorem received_port (s : State) (p : Fin 3) (mb : Nat) (z : Fin 3) : (s.received p mb).port z = s.port z := rfl
@[simp] theorem received_fwRuns (s : State) (p : Fin 3) (mb : Nat) : (s.received p mb).fwRuns = s.fwRuns := by simp [fwRuns]
@[simp] theorem begun_get (s : State) (p : Fin 3) (mb : Nat) (z : Nat) : (s.begun p mb).get z = s.get z := get_congr (by simp) z
@[simp] theorem begun_rd (s : State) (p : Fin 3) (mb : Nat) (z : Fld) : (s.begun p mb).rd z = s.rd z := rd_congr (by simp)
@[simp] theorem begun_on (s : State) (p : Fin 3) (mb : Nat) (z : Fld) : (s.begun p mb).on z = s.on z := on_congr (by simp)
@[simp] theorem begun_dbyte (s : State) (p : Fin 3) (mb : Nat) (z : Nat) : (s.begun p mb).dbyte z = s.dbyte z := dbyte_congr (by simp) z
@[simp] theorem begun_ch (s : State) (p : Fin 3) (mb : Nat) (z : Fin 4) : (s.begun p mb).ch z = s.ch z := by simp [ch]
@[simp] theorem begun_port (s : State) (p : Fin 3) (mb : Nat) (z : Fin 3) : (s.begun p mb).port z = s.port z := rfl
@[simp] theorem begun_fwRuns (s : State) (p : Fin 3) (mb : Nat) : (s.begun p mb).fwRuns = s.fwRuns := by simp [fwRuns]
@[simp] theorem setBusy_dbyte (s : State) (mb : Nat) (b : Bool) (z : Nat) : (s.setBusy mb b).dbyte z = s.dbyte z := dbyte_congr (by simp) z
@[simp] theorem setBusy_ch (s : State) (mb : Nat) (b : Bool) (z : Fin 4) : (s.setBusy mb b).ch z = s.ch z := by simp [ch]
@[simp] theorem setBusy_port (s : State) (mb : Nat) (b : Bool) (z : Fin 3) : (s.setBusy mb b).port z = s.port z := by simp [port]
@[simp] theorem setBusy_fwRuns (s : State) (mb : Nat) (b : Bool) : (s.setBusy mb b).fwRuns = s.fwRuns := by simp [fwRuns]
@[simp] theorem setFull_dbyte (s : State) (mb : Nat) (b : Bool) (z : Nat) : (s.setFull mb b).dbyte z = s.dbyte z := dbyte_congr (by simp) z
@[simp] theorem setFull_ch (s : State) (mb : Nat) (b : Bool) (z : Fin 4) : (s.setFull mb b).ch z = s.ch z := by simp [ch]
@[simp] theorem setFull_port (s : State) (mb : Nat) (b : Bool) (z : Fin 3) : (s.setFull mb b).port z = s.port z := by simp [port]
@[simp] theorem setFull_fwRuns (s : State) (mb : Nat) (b : Bool) : (s.setFull mb b).fwRuns = s.fwRuns := by simp [fwRuns]
@[simp] theorem ignoredMb_dbyte (s : State) (mb : Nat) (p : Fin 3) (z : Nat) : (s.ignoredMb mb p).dbyte z = s.dbyte z := dbyte_congr (by simp) z
@[simp] theorem ignoredMb_ch (s : State) (mb : Nat) (p : Fin 3) (z : Fin 4) : (s.ignoredMb mb p).ch z = s.ch z := by simp [ch]
@[simp] theorem ignoredMb_port (s : State) (mb : Nat) (p : Fin 3) (z : Fin 3) : (s.ignoredMb mb p).port z = s.port z := by simp [port]
@[simp] theorem ignoredMb_fwRuns (s : State) (mb : Nat) (p : Fin 3) : (s.ignoredMb mb p).fwRuns = s.fwRuns := by simp [fwRuns]
@[simp] theorem take_dbyte (s : State) (p : Fin 3) (mb : Nat) (z : Nat) : (s.take p mb).dbyte z = s.dbyte z := dbyte_congr (by simp) z
@[simp] theorem take_ch (s : State) (p : Fin 3) (mb : Nat) (z : Fin 4) : (s.take p mb).ch z = s.ch z := by simp [ch]
@[simp] theorem take_fwRuns (s : State) (p : Fin 3) (mb : Nat) : (s.take p mb).fwRuns = s.fwRuns := by simp [fwRuns]
@[simp] theorem place_dbyte (s : State) (p : Fin 3) (mb : Nat) (m : List Byte) (z : Nat) : (s.place p mb m).dbyte z = s.dbyte z := dbyte_congr (by simp) z
@[simp] theorem place_ch (s : State) (p : Fin 3) (mb : Nat) (m : List Byte) (z : Fin 4) : (s.place p mb m).ch z = s.ch z := by simp [ch]
@[simp] theorem place_fwRuns (s : State) (p : Fin 3) (mb : Nat) (m : List Byte) : (s.place p mb m).fwRuns = s.fwRuns := by simp [fwRuns]
@[simp] theorem reply_dbyte (s : State) (t : Tag) (st : Nat) (z : Nat) : (s.reply t st).dbyte z = s.dbyte z := dbyte_congr (by simp) z
@[simp] theorem reply_ch (s : State) (t : Tag) (st : Nat) (z : Fin 4) : (s.reply t st).ch z = s.ch z := by simp [ch]
@[simp] theorem reply_fwRuns (s : State) (t : Tag) (st : Nat) : (s.reply t st).fwRuns = s.fwRuns := by simp [fwRuns]
@[simp] theorem answer_dbyte (s : State) (t : Tag) (st d : Nat) (l : List Byte) (z : Nat) : (s.answer t st d l).dbyte z = s.dbyte z := dbyte_congr (by simp) z
@[simp] theorem answer_ch (s : State) (t : Tag) (st d : Nat) (l : List Byte) (z : Fin 4) : (s.answer t st d l).ch z = s.ch z := by simp [ch]
@[simp] theorem answer_fwRuns (s : State) (t : Tag) (st d : Nat) (l : List Byte) : (s.answer t st d l).fwRuns = s.fwRuns := by simp [fwRuns]
@[simp] theorem setFrag_get (s : State) (p : Fin 3) (mb : Nat) (x : Option Frag) (z : Nat) : (s.setFrag p mb x).get z = s.get z := get_congr (by simp) z
@[simp] theorem setFrag_rd (s : State) (p : Fin 3) (mb : Nat) (x : Option Frag) (z : Fld) : (s.setFrag p mb x).rd z = s.rd z := rd_congr (by simp)
@[simp] theorem setFrag_on (s : State) (p : Fin 3) (mb : Nat) (x : Option Frag) (z : Fld) : (s.setFrag p mb x).on z = s.on z := on_congr (by simp)
@[simp] theorem setFrag_dbyte (s : State) (p : Fin 3) (mb : Nat) (x : Option Frag) (z : Nat) : (s.setFrag p mb x).dbyte z = s.dbyte z := dbyte_congr (by simp) z
@[simp] theorem setFrag_ch (s : State) (p : Fin 3) (mb : Nat) (x : Option Frag) (z : Fin 4) : (s.setFrag p mb x).ch z = s.ch z := by simp [ch]
@[simp] theorem setFrag_fwRuns (s : State) (p : Fin 3) (mb : Nat) (x : Option Frag) : (s.setFrag p mb x).fwRuns = s.fwRuns := by simp [fwRuns]
@[simp] theorem restage_get (s : State) (g : Stage → Stage) (z : Nat) : (s.restage g).get z = s.get z := get_congr (by simp) z
@[simp] theorem restage_rd (s : State) (g : Stage → Stage) (z : Fld) : (s.restage g).rd z = s.rd z := rd_congr (by simp)
@[simp] theorem restage_on (s : State) (g : Stage → Stage) (z : Fld) : (s.restage g).on z = s.on z := on_congr (by simp)
@[simp] theorem restage_dbyte (s : State) (g : Stage → Stage) (z : Nat) : (s.restage g).dbyte z = s.dbyte z := dbyte_congr (by simp) z
@[simp] theorem restage_ch (s : State) (g : Stage → Stage) (z : Fin 4) : (s.restage g).ch z = s.ch z := by simp [ch]
@[simp] theorem restage_port (s : State) (g : Stage → Stage) (z : Fin 3) : (s.restage g).port z = s.port z := by simp [port]
@[simp] theorem restage_fwRuns (s : State) (g : Stage → Stage) : (s.restage g).fwRuns = s.fwRuns := by simp [fwRuns]
@[simp] theorem touchGroups_get (s : State) (k : Nat) (z : Nat) : (s.touchGroups k).get z = s.get z := get_congr (by simp) z
@[simp] theorem touchGroups_rd (s : State) (k : Nat) (z : Fld) : (s.touchGroups k).rd z = s.rd z := rd_congr (by simp)
@[simp] theorem touchGroups_on (s : State) (k : Nat) (z : Fld) : (s.touchGroups k).on z = s.on z := on_congr (by simp)
@[simp] theorem touchGroups_dbyte (s : State) (k : Nat) (z : Nat) : (s.touchGroups k).dbyte z = s.dbyte z := dbyte_congr (by simp) z
@[simp] theorem touchGroups_ch (s : State) (k : Nat) (z : Fin 4) : (s.touchGroups k).ch z = s.ch z := by simp [ch]
@[simp] theorem touchGroups_port (s : State) (k : Nat) (z : Fin 3) : (s.touchGroups k).port z = s.port z := by simp [port]
@[simp] theorem touchGroups_fwRuns (s : State) (k : Nat) : (s.touchGroups k).fwRuns = s.fwRuns := by simp [fwRuns]
@[simp] theorem drive_get (s : State) (l : List Byte) (z : Nat) : (s.drive l).get z = s.get z := get_congr (by simp) z
@[simp] theorem drive_rd (s : State) (l : List Byte) (z : Fld) : (s.drive l).rd z = s.rd z := rd_congr (by simp)
@[simp] theorem drive_on (s : State) (l : List Byte) (z : Fld) : (s.drive l).on z = s.on z := on_congr (by simp)
@[simp] theorem drive_dbyte (s : State) (l : List Byte) (z : Nat) : (s.drive l).dbyte z = s.dbyte z := dbyte_congr (by simp) z
@[simp] theorem drive_ch (s : State) (l : List Byte) (z : Fin 4) : (s.drive l).ch z = s.ch z := by simp [ch]
@[simp] theorem drive_fwRuns (s : State) (l : List Byte) : (s.drive l).fwRuns = s.fwRuns := by simp [fwRuns]
@[simp] theorem grantStatus_dbyte (s : State) (z : Nat) : (s.grantStatus).dbyte z = s.dbyte z := dbyte_congr (by simp) z
@[simp] theorem grantStatus_ch (s : State) (z : Fin 4) : (s.grantStatus).ch z = s.ch z := by simp [ch]
@[simp] theorem grantStatus_port (s : State) (z : Fin 3) : (s.grantStatus).port z = s.port z := by simp [port]
@[simp] theorem grantStatus_fwRuns (s : State) : (s.grantStatus).fwRuns = s.fwRuns := by simp [fwRuns]
@[simp] theorem endGrant_dbyte (s : State) (g : Grant) (k : Nat) (z : Nat) : (s.endGrant g k).dbyte z = s.dbyte z := dbyte_congr (by simp) z
@[simp] theorem endGrant_ch (s : State) (g : Grant) (k : Nat) (z : Fin 4) : (s.endGrant g k).ch z = s.ch z := by simp [ch]
@[simp] theorem endGrant_fwRuns (s : State) (g : Grant) (k : Nat) : (s.endGrant g k).fwRuns = s.fwRuns := by simp [fwRuns]

/-! ### The frame of an event request (R386, R390) -/

theorem irqOccur_get (s : State) (v : Nat) {x : Nat} (h : x ∉ eventRegs) : (s.irqOccur v).get x = s.get x := by
  unfold irqOccur
  split
  · exact get_wr_ne s _ (fun e => h (by rw [e]; simp [eventRegs, F.MBX_IRQ_STATUS_EVENT, R.MBX_IRQ_STATUS]))
  · rfl

theorem faultLatch_get (s : State) (c v : Nat) {x : Nat} (h : x ∉ eventRegs) : (s.faultLatch c v).get x = s.get x := by
  have hx : x ≠ R.EVR_FAULT := fun e => h (by rw [e]; simp [eventRegs])
  unfold faultLatch
  split
  · rfl
  · rw [get_wr_ne _ _ hx, get_wr_ne _ _ hx, get_wr_ne _ _ hx]

theorem occur_get (s : State) (c v : Nat) {x : Nat} (h : x ∉ eventRegs) : (s.occur c v).get x = s.get x := by
  unfold occur
  dsimp only
  split
  · rw [faultLatch_get _ _ _ h, faultDrive_get, irqOccur_get _ _ h]
  · rw [irqOccur_get _ _ h]

theorem dropReq_get (s : State) {x : Nat} (h : x ∉ eventRegs) : (s.dropReq).get x = s.get x := by
  unfold dropReq
  rw [get_wr_ne _ _ (fun e => h (by rw [e]; simp [eventRegs, F.EVR_STATUS_FIFO_OVF, R.EVR_STATUS])),
    get_addSat_ne _ _ (fun e => h (by rw [e]; simp [eventRegs, F.EVR_DROPPED_COUNT, R.EVR_DROPPED]))]

/-- An event request leaves every other register alone. -/
theorem logEvent_get (s : State) (c v a b : Nat) {x : Nat} (h : x ∉ eventRegs) :
    (s.logEvent c v a b).get x = s.get x := by
  unfold logEvent
  split
  · rw [enqueue_get, occur_get _ _ _ h]
  · rw [dropReq_get _ h, occur_get _ _ _ h]

theorem logEvent_rd (s : State) (c v a b : Nat) {f : Fld} (h : f.addr ∉ eventRegs) :
    (s.logEvent c v a b).rd f = s.rd f := rd_congr (logEvent_get s c v a b h)
theorem logEvent_on (s : State) (c v a b : Nat) {f : Fld} (h : f.addr ∉ eventRegs) :
    (s.logEvent c v a b).on f = s.on f := on_congr (logEvent_rd s c v a b h)

/-- The error registers of a block. -/
theorem errHit_get (s : State) (e c : Nat) {x : Nat} (h0 : x ≠ e + 0x1F0) (h1 : x ≠ e + 0x1F4) :
    (s.errHit e c).get x = s.get x := by
  unfold errHit
  dsimp only
  split <;> rw [get_put_ne _ _ h1, get_put_ne _ _ h0]

theorem errEvent_get (s : State) (e c v a b : Nat) {x : Nat} (h : x ∉ eventRegs) (h0 : x ≠ e + 0x1F0)
    (h1 : x ≠ e + 0x1F4) : (s.errEvent e c v a b).get x = s.get x := by
  rw [errEvent, logEvent_get _ _ _ _ _ h, errHit_get _ _ _ h0 h1]
theorem errEvent_rd (s : State) (e c v a b : Nat) {f : Fld} (h : f.addr ∉ eventRegs) (h0 : f.addr ≠ e + 0x1F0)
    (h1 : f.addr ≠ e + 0x1F4) : (s.errEvent e c v a b).rd f = s.rd f := rd_congr (errEvent_get s e c v a b h h0 h1)

/-- The request that an event request queues. -/
def reqOf (s : State) (code sev a b : Nat) : EvReq :=
  ⟨code, sev, a % 65536, b % 65536, s.tb.toNat, s.subNow, s.aon.subOk⟩

@[simp] theorem occur_subNow (s : State) (c v : Nat) : (s.occur c v).subNow = s.subNow := by simp [subNow]

/-- With room in the FIFO, an event request enters at its end. -/
theorem logEvent_fifo (s : State) (c v a b : Nat) (h : s.evr.fifo.length < 16) :
    (s.logEvent c v a b).evr.fifo = s.evr.fifo ++ [s.reqOf c v a b] := by
  simp [logEvent, h, enqueue, modEvr, stamped, setFree, reqOf]

/-- With a full FIFO, nothing enters. -/
theorem logEvent_full (s : State) (c v a b : Nat) (h : ¬s.evr.fifo.length < 16) :
    (s.logEvent c v a b).evr = s.evr := by simp [logEvent, h]

theorem errEvent_fifo (s : State) (e c v a b : Nat) (h : s.evr.fifo.length < 16) :
    (s.errEvent e c v a b).evr.fifo = s.evr.fifo ++ [s.reqOf c v a b] := by
  rw [errEvent, logEvent_fifo _ _ _ _ _ (by simpa using h)]
  simp [reqOf, subNow]

/-- The FIFO never holds more than 16 requests. -/
theorem logEvent_bound (s : State) (c v a b : Nat) (h : s.evr.fifo.length ≤ 16) :
    (s.logEvent c v a b).evr.fifo.length ≤ 16 := by
  by_cases h2 : s.evr.fifo.length < 16
  · rw [logEvent_fifo _ _ _ _ _ h2]
    simp
    omega
  · rwa [logEvent_full _ _ _ _ _ h2]

theorem logged_logEvent {s u : State} (h : u.evr = s.evr) (ht : u.tb = s.tb) (c v a b : Nat) :
    s.logged (u.logEvent c v a b) c v a b := by
  intro hl
  refine ⟨u.reqOf c v a b, ?_, rfl, rfl, rfl, rfl, ?_⟩
  · rw [logEvent_fifo _ _ _ _ _ (by rw [h]; exact hl), h]
  · simp [reqOf, ht]

theorem logged_errEvent {s u : State} (h : u.evr = s.evr) (ht : u.tb = s.tb) (e c v a b : Nat) :
    s.logged (u.errEvent e c v a b) c v a b := logged_logEvent (by simpa using h) (by simpa using ht) c v a b

theorem logged_congr {s t u : State} (h : u.evr.fifo = t.evr.fifo) {c v a b : Nat} (hl : s.logged t c v a b) :
    s.logged u c v a b := by
  intro h1
  obtain ⟨q, hq, hr⟩ := hl h1
  exact ⟨q, by rw [h, hq], hr⟩

/-! ### Canonical form -/

theorem put_wf (s : State) (a v : Nat) (h : swf regReset s.regs = true) : swf regReset (s.put a v).regs = true :=
  swf_sset _ _ _ h

theorem dwrite_wf (s : State) (a : Nat) (bs : List Byte) (h : swf memReset s.dram = true) :
    swf memReset (s.dwrite a bs).dram = true := swf_ssets _ _ _ h

end State

end Sys2Proof.Machine
end

