-- ==== Sys2Proof/Laws/Mail.lean ====
section
/-! SUPPORT. Mailbox messages: a message as firmware reads it back, and what serving a waiting command does (R89–R96). -/

namespace Sys2Proof.Machine

/-! ### Messages -/

theorem crcMsb_lt (poly init : Nat) (hp : poly < 2 ^ 16) (hi : init < 2 ^ 16) (bs : List Byte) :
    crcMsb 16 poly init bs < 2 ^ 16 := by
  have hb : ∀ c, c < 2 ^ 16 → crcMsbBit 16 poly c < 2 ^ 16 := by
    intro c _
    unfold crcMsbBit
    split
    · exact Nat.xor_lt_two_pow (Nat.mod_lt _ (by decide)) hp
    · exact Nat.mod_lt _ (by decide)
  have hit : ∀ k c, c < 2 ^ 16 → iter (crcMsbBit 16 poly) k c < 2 ^ 16 := by
    intro k
    induction k with
    | zero => exact fun c h => h
    | succ k ih => exact fun c h => ih _ (hb c h)
  unfold crcMsb
  induction bs generalizing init with
  | nil => exact hi
  | cons b bs ih =>
    simp only [List.foldl_cons]
    apply ih
    apply hit
    apply Nat.xor_lt_two_pow hi
    have := b.isLt
    omega

theorem crc16_lt (bs : List Byte) : crc16 bs < 2 ^ 16 := crcMsb_lt _ _ (by decide) (by decide) bs

/-- The header bytes before the CRC. -/
def msgHead (op flags seq len : Nat) : List Byte := leBytes 1 op ++ leBytes 1 flags ++ leBytes 2 seq ++ leBytes 2 len

theorem mkMessage_eq (op flags seq : Nat) (pl : List Byte) :
    mkMessage op flags seq pl =
      msgHead op flags seq pl.length ++ leBytes 2 (crc16 (msgHead op flags seq pl.length ++ [0, 0] ++ pl)) ++ pl := rfl

@[simp] theorem mkMessage_length (op flags seq : Nat) (pl : List Byte) :
    (mkMessage op flags seq pl).length = 8 + pl.length := by
  simp [mkMessage_eq, msgHead]
  omega

theorem byteAt_cons_zero (b : Byte) (bs : List Byte) : byteAt (b :: bs) 0 = b.toNat := rfl
theorem byteAt_cons_succ (b : Byte) (bs : List Byte) (i : Nat) : byteAt (b :: bs) (i + 1) = byteAt bs i := rfl

theorem byteAt_mkMessage_op (op flags seq : Nat) (pl pad : List Byte) :
    byteAt (mkMessage op flags seq pl ++ pad) 0 = op % 256 := by
  simp [mkMessage_eq, msgHead, leBytes, byteAt]

theorem byteAt_mkMessage_flags (op flags seq : Nat) (pl pad : List Byte) :
    byteAt (mkMessage op flags seq pl ++ pad) 1 = flags % 256 := by
  simp [mkMessage_eq, msgHead, leBytes, byteAt]

theorem le16_mkMessage_seq (op flags seq : Nat) (pl pad : List Byte) :
    le16 (mkMessage op flags seq pl ++ pad) 2 = seq % 65536 := by
  simp [mkMessage_eq, msgHead, leBytes, byteAt, le16]
  omega

theorem le16_mkMessage_len (op flags seq : Nat) (pl pad : List Byte) :
    le16 (mkMessage op flags seq pl ++ pad) 4 = pl.length % 65536 := by
  simp [mkMessage_eq, msgHead, leBytes, byteAt, le16]
  omega

theorem le16_mkMessage_crc (op flags seq : Nat) (pl pad : List Byte) :
    le16 (mkMessage op flags seq pl ++ pad) 6 = crc16 (msgHead op flags seq pl.length ++ [0, 0] ++ pl) := by
  have h := crc16_lt (msgHead op flags seq pl.length ++ [0, 0] ++ pl)
  rw [mkMessage_eq]
  generalize crc16 (msgHead op flags seq pl.length ++ [0, 0] ++ pl) = c at h
  simp [msgHead, leBytes, byteAt, le16]
  omega

theorem slice_mkMessage_head (op flags seq : Nat) (pl pad : List Byte) :
    slice (mkMessage op flags seq pl ++ pad) 0 6 = msgHead op flags seq pl.length := by
  simp [mkMessage_eq, msgHead, leBytes, slice]

theorem slice_mkMessage_payload (op flags seq : Nat) (pl pad : List Byte) :
    slice (mkMessage op flags seq pl ++ pad) 8 pl.length = pl := by
  simp [mkMessage_eq, msgHead, leBytes, slice]

namespace State

/-! ### Ports and mailboxes -/

/-- OUTBOX_FULL of a mailbox after a write of another mailbox's bit, and of its own. -/
theorem take_port (s : State) (p : Fin 3) (mb : Nat) :
    (s.take p mb).port p =
      if p = 0 then s.port p else { s.port p with rx := sset (fun _ => none) (s.port p).rx mb (some []) } := by
  unfold take
  split
  · simp
  · simp

/-! ### Serving -/

/-- The tag of a command. -/
def tagOf (p : Fin 3) (mb : Fin 6) (op flags seq : Nat) : Tag := ⟨p, mb.val, op, seq, bit flags 3⟩

/-- The state in which a handler runs: the message taken, its SEQ accepted with no response cached yet. -/
def opened (s : State) (p : Fin 3) (mb : Fin 6) (seq : Nat) : State :=
  (((s.take p mb.val).modPort p fun q => { q with seqs := sset (fun _ => none) q.seqs mb.val (some ⟨seq, []⟩) }).setFrag p
    mb.val none)

/-- What follows a handler: the answer, or the mailbox kept waiting. -/
def closed (a : Ans) (t : Tag) : State :=
  if a.st = stDEFER then a.s.modPort t.port fun q => { q with defer := q.defer ++ [t.mb] }
  else a.s.answer t a.st a.detail a.data

theorem flags_lt {p : Fin 3} {op flags : Nat} (h : flagsOk p op flags = true) : flags < 16 := by
  simp [flagsOk] at h
  exact h.1.1.2

/-- A command that passes steps 1 to 4 of R95 reaches its checks 5 to 9 and its handler. -/
theorem serve_asks {s : State} {p : Fin 3} {mb : Fin 6} {op flags seq : Nat} {pl : List Byte}
    (a : Waits s p mb op flags seq pl) (mine : Nat → Bool) (hm : mine op = true) (h : Handler) :
    s.serve p mb mine h =
      closed ((s.opened p mb seq).runCommand (tagOf p mb op flags seq) flags pl h) (tagOf p mb op flags seq) := by
  obtain ⟨pad, hw⟩ := a.waits
  have hf := flags_lt a.flags_ok
  have e0 : op % 256 = op := Nat.mod_eq_of_lt a.op_lt
  have e1 : flags % 256 = flags := Nat.mod_eq_of_lt (by omega)
  have e2 : seq % 65536 = seq := Nat.mod_eq_of_lt a.seq_lt
  have e3 : pl.length % 65536 = pl.length := Nat.mod_eq_of_lt a.len_lt
  have hseq : sget (fun _ => none) ((s.take p mb.val).port p).seqs mb.val = none := by
    rw [take_port]
    split <;> exact a.fresh
  have hfr : (s.take p mb.val).frag p mb.val = none := by
    rw [frag, take_port]
    split <;> exact a.noFrag
  have hlen : ¬((mkMessage op flags seq pl ++ pad).length < 8 + pl.length) := by simp
  have hmax : ¬((s.take p mb.val).maxPay p < pl.length) := by
    have : (s.take p mb.val).maxPay p = s.maxPay p := by
      unfold maxPay
      split
      · rename_i hp
        subst hp
        simp only [take, if_true, setBusy]
        exact rd_wr_ne _ _ (by decide)
      · rw [take_port, if_neg (by assumption)]
    rw [this]
    have := a.max
    omega
  unfold serve
  rw [hw]
  dsimp only
  rw [byteAt_mkMessage_op, e0, byteAt_mkMessage_flags, e1, le16_mkMessage_seq, e2, le16_mkMessage_len, e3,
    slice_mkMessage_head, slice_mkMessage_payload, le16_mkMessage_crc]
  simp only [a.served, hm, a.turn, Bool.and_self, Bool.not_true, Bool.false_eq_true, if_false, hlen, hmax, bne_self_eq_false,
    Bool.and_false]
  simp only [sequenced, hseq, hfr]
  have hfr2 : ∀ g : Port → Port, (∀ q, (g q).frags = q.frags) →
      ((s.take p mb.val).modPort p g).frag p mb.val = none := by
    intro g hg
    rw [frag, port_modPort, hg]
    exact hfr
  unfold accepted
  simp only [hfr, Option.isSome_none, a.whole, Bool.or_self, Bool.and_false, Bool.false_and, Bool.false_eq_true, if_false,
    List.nil_append]
  rfl

/-- Steps 5 to 9 of R95 passed: the handler's answer is the command's. -/
theorem runCommand_ok {s : State} {t : Tag} {flags : Nat} {pl : List Byte} {h : Handler}
    (hf : flagsOk t.port t.op flags = true) (hr : s.rst.cpu = .running) (hd : definedOp t.op = true)
    (hx : expertOp t.op = true → t.port = 0) (hg : s.grantCheck t.op pl = stOK)
    (hl : legalIn t.op (byteAt pl 0) s.mode (s.mode == modeLIMP && s.rd F.SYS_MODE_PROFILE == 3) = true)
    (hp : (h s t pl).data.length + 4 ≤ s.maxPay t.port) : s.runCommand t flags pl h = h s t pl := by
  have hx2 : (expertOp t.op && t.port != 0) = false := by
    cases hc : expertOp t.op with
    | false => rfl
    | true => simp [hx hc]
  have hq : ¬(s.maxPay t.port < 4 + (h s t pl).data.length) := by omega
  simp [runCommand, hf, hr, hd, hx2, hg, hl, hq]

/-! ### What opening and answering leave alone -/

@[simp] theorem opened_pending (s : State) (p : Fin 3) (mb : Fin 6) (q : Nat) : (s.opened p mb q).pending = s.pending := by simp [opened]
@[simp] theorem opened_pend (s : State) (p : Fin 3) (mb : Fin 6) (q : Nat) : (s.opened p mb q).pend = s.pend := by simp [opened]
@[simp] theorem opened_comp (s : State) (p : Fin 3) (mb : Fin 6) (q : Nat) : (s.opened p mb q).comp = s.comp := by simp [opened]
@[simp] theorem opened_strm (s : State) (p : Fin 3) (mb : Fin 6) (q : Nat) : (s.opened p mb q).strm = s.strm := by simp [opened]
@[simp] theorem opened_actv (s : State) (p : Fin 3) (mb : Fin 6) (q : Nat) : (s.opened p mb q).actv = s.actv := by simp [opened]
@[simp] theorem opened_dram (s : State) (p : Fin 3) (mb : Fin 6) (q : Nat) : (s.opened p mb q).dram = s.dram := by simp [opened]
@[simp] theorem opened_tb (s : State) (p : Fin 3) (mb : Fin 6) (q : Nat) : (s.opened p mb q).tb = s.tb := by simp [opened]
@[simp] theorem opened_evr (s : State) (p : Fin 3) (mb : Fin 6) (q : Nat) : (s.opened p mb q).evr = s.evr := by simp [opened]
@[simp] theorem opened_sys (s : State) (p : Fin 3) (mb : Fin 6) (q : Nat) : (s.opened p mb q).sys = s.sys := by simp [opened]
@[simp] theorem opened_rst (s : State) (p : Fin 3) (mb : Fin 6) (q : Nat) : (s.opened p mb q).rst = s.rst := by simp [opened]
@[simp] theorem opened_aon (s : State) (p : Fin 3) (mb : Fin 6) (q : Nat) : (s.opened p mb q).aon = s.aon := by simp [opened]
@[simp] theorem opened_pins (s : State) (p : Fin 3) (mb : Fin 6) (q : Nat) : (s.opened p mb q).pins = s.pins := by simp [opened]
@[simp] theorem opened_csi (s : State) (p : Fin 3) (mb : Fin 6) (q : Nat) : (s.opened p mb q).csi = s.csi := by simp [opened]
@[simp] theorem opened_lec (s : State) (p : Fin 3) (mb : Fin 6) (q : Nat) : (s.opened p mb q).lec = s.lec := by simp [opened]
@[simp] theorem opened_dmc (s : State) (p : Fin 3) (mb : Fin 6) (q : Nat) : (s.opened p mb q).dmc = s.dmc := by simp [opened]
@[simp] theorem opened_cal (s : State) (p : Fin 3) (mb : Fin 6) (q : Nat) : (s.opened p mb q).cal = s.cal := by simp [opened]
@[simp] theorem opened_tap (s : State) (p : Fin 3) (mb : Fin 6) (q : Nat) : (s.opened p mb q).tap = s.tap := by simp [opened]
@[simp] theorem opened_fw (s : State) (p : Fin 3) (mb : Fin 6) (q : Nat) : (s.opened p mb q).fw = s.fw := by simp [opened]
@[simp] theorem opened_free (s : State) (p : Fin 3) (mb : Fin 6) (q : Nat) : (s.opened p mb q).free = s.free := by simp [opened]

@[simp] theorem closed_pending (a : Ans) (t : Tag) : (closed a t).pending = a.s.pending := by unfold closed; split <;> simp
@[simp] theorem closed_pend (a : Ans) (t : Tag) : (closed a t).pend = a.s.pend := by unfold closed; split <;> simp
@[simp] theorem closed_comp (a : Ans) (t : Tag) : (closed a t).comp = a.s.comp := by unfold closed; split <;> simp
@[simp] theorem closed_strm (a : Ans) (t : Tag) : (closed a t).strm = a.s.strm := by unfold closed; split <;> simp
@[simp] theorem closed_actv (a : Ans) (t : Tag) : (closed a t).actv = a.s.actv := by unfold closed; split <;> simp
@[simp] theorem closed_dram (a : Ans) (t : Tag) : (closed a t).dram = a.s.dram := by unfold closed; split <;> simp
@[simp] theorem closed_tb (a : Ans) (t : Tag) : (closed a t).tb = a.s.tb := by unfold closed; split <;> simp
@[simp] theorem closed_evr (a : Ans) (t : Tag) : (closed a t).evr = a.s.evr := by unfold closed; split <;> simp
@[simp] theorem closed_sys (a : Ans) (t : Tag) : (closed a t).sys = a.s.sys := by unfold closed; split <;> simp
@[simp] theorem closed_rst (a : Ans) (t : Tag) : (closed a t).rst = a.s.rst := by unfold closed; split <;> simp
@[simp] theorem closed_aon (a : Ans) (t : Tag) : (closed a t).aon = a.s.aon := by unfold closed; split <;> simp
@[simp] theorem closed_pins (a : Ans) (t : Tag) : (closed a t).pins = a.s.pins := by unfold closed; split <;> simp
@[simp] theorem closed_csi (a : Ans) (t : Tag) : (closed a t).csi = a.s.csi := by unfold closed; split <;> simp
@[simp] theorem closed_lec (a : Ans) (t : Tag) : (closed a t).lec = a.s.lec := by unfold closed; split <;> simp
@[simp] theorem closed_dmc (a : Ans) (t : Tag) : (closed a t).dmc = a.s.dmc := by unfold closed; split <;> simp
@[simp] theorem closed_cal (a : Ans) (t : Tag) : (closed a t).cal = a.s.cal := by unfold closed; split <;> simp
@[simp] theorem closed_tap (a : Ans) (t : Tag) : (closed a t).tap = a.s.tap := by unfold closed; split <;> simp
@[simp] theorem closed_fw (a : Ans) (t : Tag) : (closed a t).fw = a.s.fw := by unfold closed; split <;> simp
@[simp] theorem closed_free (a : Ans) (t : Tag) : (closed a t).free = a.s.free := by unfold closed; split <;> simp

@[simp] theorem opened_fwRuns (s : State) (p : Fin 3) (mb : Fin 6) (q : Nat) :
    (s.opened p mb q).fwRuns = s.fwRuns := by simp [fwRuns]
@[simp] theorem opened_ch (s : State) (p : Fin 3) (mb : Fin 6) (q : Nat) (n : Fin 4) :
    (s.opened p mb q).ch n = s.ch n := by simp [ch]
@[simp] theorem closed_ch (a : Ans) (t : Tag) (n : Fin 4) : (closed a t).ch n = a.s.ch n := by simp [ch]
@[simp] theorem opened_dbyte (s : State) (p : Fin 3) (mb : Fin 6) (q : Nat) (x : Nat) :
    (s.opened p mb q).dbyte x = s.dbyte x := dbyte_congr (by simp) x
@[simp] theorem closed_dbyte (a : Ans) (t : Tag) (x : Nat) : (closed a t).dbyte x = a.s.dbyte x :=
  dbyte_congr (by simp) x

theorem setBusy_get (s : State) (mb : Nat) (b : Bool) {x : Nat} (h : x ≠ R.MBX_HSTAT) : (s.setBusy mb b).get x = s.get x :=
  get_wr_ne _ _ h
theorem setFull_get (s : State) (mb : Nat) (b : Bool) {x : Nat} (h : x ≠ R.MBX_HSTAT) (h2 : x ≠ R.MBX_IRQ_STATUS) :
    (s.setFull mb b).get x = s.get x := by
  unfold setFull
  dsimp only
  rw [get_wrB_ne _ _ h2, get_wr_ne _ _ h2, get_wr_ne _ _ h]

/-- Taking a message changes no register but MBX_HSTAT. -/
theorem opened_get (s : State) (p : Fin 3) (mb : Fin 6) (q : Nat) {x : Nat} (h : x ≠ R.MBX_HSTAT) :
    (s.opened p mb q).get x = s.get x := by
  unfold opened take
  rw [setFrag_get, modPort_get]
  split
  · exact setBusy_get _ _ _ h
  · exact modPort_get _ _ _ _
theorem opened_rd (s : State) (p : Fin 3) (mb : Fin 6) (q : Nat) {f : Fld} (h : f.addr ≠ R.MBX_HSTAT) :
    (s.opened p mb q).rd f = s.rd f := rd_congr (opened_get s p mb q h)
theorem opened_mode (s : State) (p : Fin 3) (mb : Fin 6) (q : Nat) : (s.opened p mb q).mode = s.mode :=
  opened_rd s p mb q (by decide)

theorem place_get (s : State) (p : Fin 3) (mb : Nat) (m : List Byte) {x : Nat} (h : x ≠ R.MBX_HSTAT)
    (h2 : x ≠ R.MBX_IRQ_STATUS) : (s.place p mb m).get x = s.get x := by
  unfold place
  split
  · rw [setFull_get _ _ _ h h2, hostWrite_get]
  · exact modPort_get _ _ _ _

/-- Only a HELLO that is answered with a failure restores its port's default settings (R97). -/
theorem helloFailed_of (s : State) {t : Tag} {st : Nat} (h : t.op ≠ 1 ∨ st = stOK) : s.helloFailed t st = s :=
  if_neg (fun e => h.elim (fun o => o e.1) e.2)
theorem portDefaults_get (s : State) (p : Fin 3) {x : Nat} (h : x ≠ R.MBX_HCFG) : (s.portDefaults p).get x = s.get x := by
  unfold portDefaults
  dsimp only
  split
  · rw [get_wr_ne _ _ h, get_wr_ne _ _ h, get_wr_ne _ _ h, get_wr_ne _ _ h, modPort_get]
  · exact modPort_get _ _ _ _
theorem helloFailed_get (s : State) (t : Tag) (st : Nat) {x : Nat} (h : x ≠ R.MBX_HCFG) :
    (s.helloFailed t st).get x = s.get x := by
  unfold helloFailed
  split
  · exact portDefaults_get _ _ h
  · rfl
/-- The default settings of a port are its events and payload limit. -/
theorem portDefaults_port (s : State) (p : Fin 3) :
    (s.portDefaults p).port p = { s.port p with events := false, maxPay := 56 } := by
  unfold portDefaults
  dsimp only
  split <;> simp
theorem helloFailed_port (s : State) (t : Tag) (st : Nat) :
    ((s.helloFailed t st).port t.port).seqs = (s.port t.port).seqs ∧
    ((s.helloFailed t st).port t.port).hello = (s.port t.port).hello ∧
    ((s.helloFailed t st).port t.port).rspId = (s.port t.port).rspId := by
  unfold helloFailed
  split
  · rw [portDefaults_port]
    exact ⟨rfl, rfl, rfl⟩
  · exact ⟨rfl, rfl, rfl⟩

/-- Answering changes no register but MBX_HSTAT and MBX_IRQ_STATUS, and MBX_HCFG where a HELLO failed. -/
theorem closed_get (a : Ans) (t : Tag) {x : Nat} (h : x ≠ R.MBX_HSTAT) (h2 : x ≠ R.MBX_IRQ_STATUS)
    (h3 : x ≠ R.MBX_HCFG ∨ t.op ≠ 1 ∨ a.st = stOK) : (closed a t).get x = a.s.get x := by
  unfold closed
  split
  · exact modPort_get _ _ _ _
  · unfold answer
    dsimp only
    rw [place_get _ _ _ _ h h2, modPort_get]
    rcases h3 with h3 | h3
    · exact helloFailed_get _ _ _ h3
    · rw [helloFailed_of _ h3]
theorem closed_rd (a : Ans) (t : Tag) {f : Fld} (h : f.addr ≠ R.MBX_HSTAT) (h2 : f.addr ≠ R.MBX_IRQ_STATUS)
    (h3 : f.addr ≠ R.MBX_HCFG ∨ t.op ≠ 1 ∨ a.st = stOK) :
    (closed a t).rd f = a.s.rd f := rd_congr (closed_get a t h h2 h3)

/-! ### Answers -/

theorem setBits_pow (v i x : Nat) : bit (setBits v i 1 x) i = (x % 2 == 1) := by
  have h := bits_setBits_self v i 1 x
  simp only [bits, Nat.pow_one] at h
  simp only [bit, h]

theorem bit_setBit_self (v i : Nat) (b : Bool) : bit (setBit v i b) i = b := by
  rw [setBit, setBits_pow]
  cases b <;> rfl

theorem bit_setBit_ne (v : Nat) {i j : Nat} (b : Bool) (h : j ≠ i) : bit (setBit v i b) j = bit v j := by
  have h2 : bits (setBits v i 1 (b2n b)) j 1 = bits v j 1 := by
    rcases Nat.lt_or_gt_of_ne h with h1 | h1
    · exact bits_setBits_below (by omega)
    · exact bits_setBits_above (by omega)
  simp only [bits, Nat.pow_one] at h2
  simp only [bit, setBit, h2]

theorem bit_mod {v i k : Nat} (h : i < k) : bit (v % 2 ^ k) i = bit v i := by
  have e : 2 ^ k = 2 ^ i * (2 ^ 1 * 2 ^ (k - (i + 1))) := by
    rw [← Nat.pow_add, ← Nat.pow_add]
    congr 1
    omega
  simp only [bit]
  rw [e, Nat.mod_mul_right_div_self, ← Nat.pow_one 2, Nat.mod_mul_right_mod]

/-- OUTBOX_FULL after it was set or cleared for a mailbox. -/
theorem isFull_setFull (s : State) (mb : Nat) (b : Bool) (h : mb < 7) : (s.setFull mb b).isFull mb = b := by
  unfold isFull setFull
  dsimp only
  rw [rd_congr (get_wrB_ne _ _ (by decide)), rd_wr_ne _ _ (by decide), rd_wr _ _ (by decide)]
  rw [bit_mod (k := F.MBX_HSTAT_OUTBOX_FULL.w) (by exact h), bit_setBit_self]
theorem isFull_setFull_ne (s : State) {mb k : Nat} (b : Bool) (h : k < 7) (hk : k ≠ mb) :
    (s.setFull mb b).isFull k = s.isFull k := by
  unfold isFull setFull
  dsimp only
  rw [rd_congr (get_wrB_ne _ _ (by decide)), rd_wr_ne _ _ (by decide), rd_wr _ _ (by decide)]
  rw [bit_mod (k := F.MBX_HSTAT_OUTBOX_FULL.w) (by exact h), bit_setBit_ne _ _ hk]

/-- The SEQ of the command in hand is the last accepted one of its mailbox. -/
theorem opened_seqs (s : State) (p : Fin 3) (mb : Fin 6) (seq : Nat) :
    sget (fun _ => none) ((s.opened p mb seq).port p).seqs mb.val = some ⟨seq, []⟩ := by
  unfold opened setFrag
  rw [port_modPort, port_modPort]
  rw [sget_sset, if_pos rfl]

/-- An answer stands in the cache of the mailbox while no later command was accepted, and in its outbox or among the frames
to send. -/
theorem answered_closed (a : Ans) (p : Fin 3) (mb : Fin 6) (op flags seq : Nat) (h : a.st ≠ stDEFER) {c : List Byte}
    (hq : sget (fun _ => none) (a.s.port p).seqs mb.val = some ⟨seq, c⟩) :
    answered (closed a (tagOf p mb op flags seq)) p mb op seq a.st a.detail
      (if a.st = stOK ∨ a.st = stACCEPTED then a.data else []) := by
  unfold closed
  rw [if_neg h]
  unfold answered answer
  dsimp only [tagOf, response]
  generalize mkMessage op 1 seq (statusWord a.st a.detail ++ if a.st = stOK ∨ a.st = stACCEPTED then a.data else []) = m
  have hc := (helloFailed_port a.s (tagOf p mb op flags seq) a.st).1
  simp only [tagOf] at hc
  unfold place
  refine ⟨?_, ?_, ?_⟩
  · have : sget (fun _ => none) ((a.s.helloFailed ⟨p, mb.val, op, seq, bit flags 3⟩ a.st).port p).seqs mb.val = some ⟨seq, c⟩ := by
      rw [hc, hq]
    split
    · rw [setFull_port, show ∀ (u : State) x l, (u.hostWrite x l).port p = u.port p from fun _ _ _ => rfl, port_modPort]
      simp [this]
    · rw [port_modPort, port_modPort]
      simp [this]
  · intro hp
    subst hp
    simp only [if_true]
    refine ⟨isFull_setFull _ _ _ (by omega), ?_⟩
    simp only [hostRead, setFull_mbx, hostWrite, modMbx]
    exact sgets_ssets _ _ _ _
  · intro hp
    simp [hp]

/-! ### Commands that pass steps 1 to 7 -/

theorem opened_mbx_grants (s : State) (p : Fin 3) (mb : Fin 6) (q : Nat) :
    (s.opened p mb q).mbx.grants = s.mbx.grants ∧ (s.opened p mb q).mbx.issued = s.mbx.issued := by
  unfold opened take setFrag
  dsimp only
  split <;> simp [modPort, modMbx, begun]

theorem opened_grantCheck (s : State) (p : Fin 3) (mb : Fin 6) (q op : Nat) (pl : List Byte) :
    (s.opened p mb q).grantCheck op pl = s.grantCheck op pl := by
  simp only [grantCheck, liveGrant, (opened_mbx_grants s p mb q).1, (opened_mbx_grants s p mb q).2, opened_rst, opened_tb]

theorem opened_maxPay (s : State) (p : Fin 3) (mb : Fin 6) (q : Nat) : (s.opened p mb q).maxPay p = s.maxPay p := by
  unfold maxPay
  split
  · exact opened_rd _ _ _ _ (by decide)
  · rename_i hp
    unfold opened setFrag
    rw [port_modPort, port_modPort, take_port, if_neg hp]

/-- A command that asks and passes steps 1 to 7 of R95 is answered as its handler says. -/
theorem serve_ok {s : State} {p : Fin 3} {mb : Fin 6} {op flags seq : Nat} {pl : List Byte}
    (a : Asks s p mb op flags seq pl) (mine : Nat → Bool) (hm : mine op = true) (h : Handler) (hd : definedOp op = true)
    (hp : (h (s.opened p mb seq) (tagOf p mb op flags seq) pl).data.length + 4 ≤ s.maxPay p) :
    s.serve p mb mine h =
      closed (h (s.opened p mb seq) (tagOf p mb op flags seq) pl) (tagOf p mb op flags seq) := by
  rw [serve_asks a.toWaits mine hm h]
  congr 1
  apply runCommand_ok
  · exact a.flags_ok
  · rw [opened_rst]
    exact a.running
  · exact hd
  · exact a.expert
  · rw [opened_grantCheck]
    exact a.grant
  · rw [opened_mode, opened_rd _ _ _ _ (by decide)]
    exact a.legal
  · rw [show (tagOf p mb op flags seq).port = p from rfl, opened_maxPay]
    exact hp

/-- A handler that changes only firmware's own data leaves the rest of the machine alone. -/
theorem mailOnly_closed {s u : State} {p : Fin 3} {mb : Fin 6} {q : Nat} (tag : Tag) (st d : Nat) (data : List Byte)
    (ht : tag.op ≠ 1 ∨ st = stOK) (h : ∃ g, u = (s.opened p mb q).modFw g) : s.mailOnly (closed ⟨u, st, d, data⟩ tag) := by
  obtain ⟨g, rfl⟩ := h
  constructor
  · intro a ha
    simp only [List.mem_cons, List.not_mem_nil, or_false, not_or] at ha
    rw [closed_get _ _ ha.1 ha.2 (Or.inr ht), modFw_get, opened_get _ _ _ _ ha.1]
  all_goals simp

theorem mailOnly_refuse {s : State} {p : Fin 3} {mb : Fin 6} {q : Nat} (tag : Tag) (st d : Nat) (data : List Byte)
    (ht : tag.op ≠ 1 ∨ st = stOK) : s.mailOnly (closed ⟨s.opened p mb q, st, d, data⟩ tag) := mailOnly_closed tag st d data ht ⟨id, rfl⟩

end State

end Sys2Proof.Machine
end

