-- ==== Sys2Proof/Laws/Host.lean ====
section
/-! SUPPORT. The host ports: what a malformed transaction, a doorbell bit, an ignored access and a HELLO that takes effect
do. -/

namespace Sys2Proof.Machine

namespace State

/-- A fold over commands keeps what every command keeps. -/
theorem foldl_inv {α : Type} {P : State → Prop} {f : State → α → State} (h : ∀ s a, P s → P (f s a)) :
    ∀ (l : List α) (s : State), P s → P (l.foldl f s)
  | [], _, hs => hs
  | a :: l, s, hs => foldl_inv h l (f s a) (h s a hs)

/-- What a malformed transaction does (R86). -/
theorem malformed_spec (s : State) (op : Nat) : 
    (s.malformed op).on F.MBX_HSTAT_LAST_ERR = true ∧ (s.malformed op).mbx = s.mbx ∧ (s.malformed op).dram = s.dram ∧
    (s.malformed op).rd F.MBX_HSPI_ERR_CNT_COUNT = min (s.rd F.MBX_HSPI_ERR_CNT_COUNT + 1) (2 ^ F.MBX_HSPI_ERR_CNT_COUNT.w - 1) ∧
    s.logged (s.malformed op) 0x0301 1 op 0 := by
  refine ⟨?_, by simp [malformed], by simp [malformed], ?_, logged_logEvent (by simp) (by simp) _ _ _ _⟩
  · unfold malformed
    rw [logEvent_on _ _ _ _ _ (by decide), on_incSat_apart _ (by decide)]
    exact on_wr_one _ (by decide) (by decide)
  · unfold malformed
    rw [logEvent_rd _ _ _ _ _ (by decide), incSat, rd_wr _ _ (by decide), rd_wr_ne _ _ (by decide)]
    unfold satN
    apply Nat.mod_eq_of_lt
    have : 0 < 2 ^ F.MBX_HSPI_ERR_CNT_COUNT.w := by decide
    omega

/-- INBOX_BUSY after it was set or cleared for a mailbox. -/
theorem isBusy_setBusy (s : State) (mb k : Nat) (b : Bool) (h : k < 6) :
    (s.setBusy mb b).isBusy k = if k = mb then b else s.isBusy k := by
  unfold isBusy setBusy
  rw [rd_wr _ _ (by decide), bit_mod (k := F.MBX_HSTAT_INBOX_BUSY.w) h]
  split
  · subst_vars; exact bit_setBit_self _ _ _
  · exact bit_setBit_ne _ _ (by assumption)
theorem isFull_setBusy (s : State) (mb k : Nat) (b : Bool) : (s.setBusy mb b).isFull k = s.isFull k := by
  unfold isFull setBusy
  rw [rd_wr_apart _ _ (by decide)]
theorem isBusy_ignored (s : State) (mb k p) : (s.ignoredMb mb p).isBusy k = s.isBusy k := by
  unfold isBusy ignoredMb
  rw [logEvent_rd _ _ _ _ _ (by decide), rd_wr_apart _ _ (by decide)]
theorem isFull_ignored (s : State) (mb k p) : (s.ignoredMb mb p).isFull k = s.isFull k := by
  unfold isFull ignoredMb
  rw [logEvent_rd _ _ _ _ _ (by decide), rd_wr_apart _ _ (by decide)]

/-- A HELLO that takes effect leaves OUTBOX_FULL, DRAM and the mailbox bytes alone. -/
theorem helloLeaves_facts (s : State) (p : Fin 3) (mb k : Nat) :
    (s.helloLeaves p mb).isFull k = s.isFull k ∧ (s.helloLeaves p mb).dram = s.dram ∧
    (s.helloLeaves p mb).mbx.host = s.mbx.host := by
  unfold helloLeaves
  split
  · unfold helloEffect
    dsimp only
    split
    · refine ⟨?_, by simp, by simp [modPort, modMbx]⟩
      unfold isFull
      rw [rd_wr_apart _ _ (by decide), rd_wr_apart _ _ (by decide), rd_wr_apart _ _ (by decide),
        rd_wrB_apart _ _ (by decide), rd_wrB_apart _ _ (by decide), rd_wrB_apart _ _ (by decide), modPort_rd]
    · refine ⟨?_, by simp, rfl⟩
      unfold isFull
      rw [modPort_rd]
  · simp

theorem isFull_place0 (s : State) (mb : Fin 6) (m) : (s.place 0 mb.val m).isFull mb.val = true := by
  unfold place
  simp only [if_true]
  exact isFull_setFull _ _ _ (by omega)

theorem hostRead_place0 (s : State) (mb : Fin 6) (m : List Byte) (k : Nat) (h : m.length = k) : (s.place 0 mb.val m).hostRead (outboxAt mb.val) k = m := by
  subst h
  unfold place
  simp only [if_true, hostRead, setFull_mbx, hostWrite, modMbx]
  exact sgets_ssets _ _ _ _

theorem place_seqs (s : State) (p : Fin 3) (mb : Nat) (m) : ((s.place p mb m).port p).seqs = (s.port p).seqs := by
  unfold place
  split
  · simp [port, hostWrite, modMbx]
  · simp

theorem take_seqs (s : State) (p : Fin 3) (mb : Nat) : ((s.take p mb).port p).seqs = (s.port p).seqs := by
  rw [take_port]; split <;> rfl

theorem take_maxPay (s : State) (p : Fin 3) (mb : Nat) : (s.take p mb).maxPay p = s.maxPay p := by
  unfold maxPay
  split
  · rename_i hp
    subst hp
    simp only [State.take, if_true, setBusy]
    exact rd_wr_ne _ _ (by decide)
  · rw [take_port, if_neg (by assumption)]

theorem take_crcOn (s : State) (p : Fin 3) (mb : Nat) : (s.take p mb).crcOn p = s.crcOn p := by
  unfold crcOn
  congr 2
  unfold State.take
  split
  · exact on_congr (rd_wr_ne _ _ (by decide))
  · simp

theorem reply_facts (s : State) (p : Fin 3) (mb : Fin 6) (op seq st : Nat) (nd : Bool) (hst : st ≠ stOK) (hst2 : st ≠ stACCEPTED) :
   let t := s.reply ⟨p, mb.val, op, seq, nd⟩ st
   (t.port p).seqs = (s.port p).seqs ∧ t.dram = s.dram ∧ t.lec = s.lec ∧ t.fw = s.fw ∧
      (p = 0 → t.isFull mb.val = true ∧ t.hostRead (outboxAt mb.val) 12 = mkMessage op 1 seq (statusWord st 0)) ∧
      (p ≠ 0 → ((t.port p).rspId + mb.val, canPad (mkMessage op 1 seq (statusWord st 0))) ∈ (t.port p).tx) := by
  have hr : response ⟨p, mb.val, op, seq, nd⟩ st 0 [] = mkMessage op 1 seq (statusWord st 0) := by
    simp [response, hst, hst2]
  unfold reply
  dsimp only
  rw [hr]
  obtain ⟨h1, -, h3⟩ := helloFailed_port s ⟨p, mb.val, op, seq, nd⟩ st
  refine ⟨(place_seqs _ _ _ _).trans h1, by simp, by simp, by simp, ?_, ?_⟩
  · intro h
    subst h
    exact ⟨isFull_place0 _ _ _, hostRead_place0 _ _ _ _ (by simp [statusWord])⟩
  · intro h
    simp only [place, h, if_false, port_modPort]
    rw [h3]
    simp

theorem ok_answer {s : State} {p : Fin 3} {mb : Fin 6} {op flags seq : Nat} {pl : List Byte}
    (a : Asks s p mb op flags seq pl) (mine : Nat → Bool) (hm : mine op = true) (h : Handler) (hd : definedOp op = true)
    {u : State} {data : List Byte} (hh : h (s.opened p mb seq) (tagOf p mb op flags seq) pl = ⟨u, stOK, 0, data⟩)
    (hl : data.length + 4 ≤ s.maxPay p)
    {c : List Byte} (hq : sget (fun _ => none) (u.port p).seqs mb.val = some ⟨seq, c⟩) :
    s.serve p mb mine h = closed ⟨u, stOK, 0, data⟩ (tagOf p mb op flags seq) ∧
    (s.serve p mb mine h).answered p mb op seq stOK 0 data := by
  have h1 := serve_ok a mine hm h hd (by rw [hh]; exact hl)
  rw [hh] at h1
  refine ⟨h1, ?_⟩
  rw [h1]
  have := answered_closed ⟨u, stOK, 0, data⟩ p mb op flags seq (by simp [stOK, stDEFER]) hq
  simpa using this

theorem opened_port_ne (s : State) {p q : Fin 3} (mb : Fin 6) (sq : Nat) (h : q ≠ p) : (s.opened p mb sq).port q = s.port q := by
  unfold opened setFrag
  rw [port_modPort_ne _ _ h, port_modPort_ne _ _ h]
  unfold State.take
  split
  · simp
  · exact port_modPort_ne _ _ h

theorem opened_unanswered (s : State) (p : Fin 3) (mb : Fin 6) (sq : Nat) : (s.opened p mb sq).unanswered p mb.val = s.unanswered p mb.val := by
  unfold unanswered
  congr 1
  funext k
  by_cases hk : k = mb.val
  · simp [hk]
  · have hd : ((s.opened p mb sq).port p).defer = (s.port p).defer := by
      unfold opened setFrag
      rw [port_modPort, port_modPort, take_port]
      split <;> rfl
    have hr : sget (fun _ => none) ((s.opened p mb sq).port p).rx k = sget (fun _ => none) (s.port p).rx k := by
      unfold opened setFrag
      rw [port_modPort, port_modPort, take_port]
      split
      · rfl
      · simp [sget_sset, hk]
    rw [hd, hr]
    congr 2
    split
    · rename_i hp
      subst hp
      unfold opened setFrag State.take
      simp only [if_true]
      have : ∀ (g g' : Port → Port) (u : State), ((u.modPort 0 g).modPort 0 g').isBusy k = u.isBusy k := by
        intro g g' u; simp [isBusy]
      rw [this]
      by_cases hk6 : k < 6
      · rw [isBusy_setBusy _ _ _ _ hk6, if_neg hk]; simp [isBusy]
      · have hz : ∀ u : State, u.isBusy k = false := by
          intro u
          unfold isBusy bit
          have := rd_lt u F.MBX_HSTAT_INBOX_BUSY
          have h2 : 2 ^ F.MBX_HSTAT_INBOX_BUSY.w ≤ 2 ^ k := Nat.pow_le_pow_right (by omega) (by show 6 ≤ k; omega)
          rw [Nat.div_eq_of_lt (by omega)]
          rfl
        rw [hz, hz]
    · rfl

theorem closed_hello (a : Ans) (t : Tag) (p : Fin 3) : ((closed a t).port p).hello = (a.s.port p).hello := by
  have hm : ∀ (s : State) (q : Fin 3) (g : Port → Port), (∀ x, (g x).hello = x.hello) → ((s.modPort q g).port p).hello = (s.port p).hello := by
    intro s q g hg
    by_cases hq : p = q
    · subst hq; rw [port_modPort, hg]
    · rw [port_modPort_ne _ _ hq]
  have hf : ((a.s.helloFailed t a.st).port p).hello = (a.s.port p).hello := by
    unfold helloFailed
    split
    · by_cases hq : p = t.port
      · subst hq; rw [portDefaults_port]
      · unfold portDefaults
        dsimp only
        split <;> simp [port_modPort_ne _ _ hq]
    · rfl
  unfold closed
  split
  · exact hm _ _ _ (fun _ => rfl)
  · unfold answer place
    dsimp only
    split
    · rw [setFull_port, show ∀ (u : State) a l, (u.hostWrite a l).port p = u.port p from fun _ _ _ => rfl]
      refine (hm _ _ _ ?_).trans hf
      intro x; rfl
    · refine (hm _ _ _ ?_).trans ?_
      · intro x; rfl
      refine (hm _ _ _ ?_).trans hf
      intro x; rfl

theorem query_says {s : State} {p : Fin 3} {mb : Fin 6} {op flags seq : Nat} {pl : List Byte}
    (a : Asks s p mb op flags seq pl) (mine : Nat → Bool) (hm : mine op = true) (h : Handler) (hd : definedOp op = true)
    {data : List Byte} (hh : h (s.opened p mb seq) (tagOf p mb op flags seq) pl = ⟨s.opened p mb seq, stOK, 0, data⟩)
    (hl : data.length + 4 ≤ s.maxPay p) :
    (s.serve p mb mine h).answered p mb op seq stOK 0 data ∧ s.mailOnly (s.serve p mb mine h) ∧ (s.serve p mb mine h).fw = s.fw := by
  obtain ⟨h1, h2⟩ := ok_answer a mine hm h hd hh hl (opened_seqs s p mb seq)
  refine ⟨h2, ?_, ?_⟩
  · rw [h1]; exact mailOnly_refuse _ _ _ _ (Or.inr rfl)
  · rw [h1]; simp

end State

end Sys2Proof.Machine
end

