-- ==== Sys2Proof/Laws/Recorder.lean ====
section
/-! SUPPORT. The recorder: scanning slots, writing and clearing them, a new record, a log clear. -/

namespace Sys2Proof.Machine

namespace State

/-- A scan returns the occupied slots at or above the severity, in order, up to the count wanted. -/
theorem scan_spec (s : State) (sev : Nat) : ∀ (left k want : Nat),
    (s.scanSlots sev left k want).2 ≤ k + left ∧ k ≤ (s.scanSlots sev left k want).2 ∧
    (s.scanSlots sev left k want).1.length ≤ want ∧
    (∀ j, j ∈ (s.scanSlots sev left k want).1 ↔ k ≤ j ∧ j < (s.scanSlots sev left k want).2 ∧ s.slotCode j ≠ 0 ∧ sev ≤ s.slotSev j) ∧
    ((s.scanSlots sev left k want).2 < k + left → (s.scanSlots sev left k want).1.length = want) := by
  intro left
  induction left with
  | zero => intro k want; simp [scanSlots]; omega
  | succ left ih =>
    intro k want
    cases want with
    | zero => simp [scanSlots]; omega
    | succ want =>
      unfold scanSlots
      by_cases hc : (s.slotCode k != 0 && decide (sev ≤ s.slotSev k)) = true
      · simp only [hc, if_true]
        obtain ⟨h1, h2, h3, h4, h5⟩ := ih (k + 1) want
        simp only [Bool.and_eq_true, bne_iff_ne, decide_eq_true_eq] at hc
        refine ⟨by omega, by omega, by simp; omega, ?_, by simp; omega⟩
        intro j
        rw [List.mem_cons, h4]
        constructor
        · rintro (rfl | h)
          · exact ⟨by omega, by omega, hc.1, hc.2⟩
          · exact ⟨by omega, h.2.1, h.2.2⟩
        · intro h
          by_cases hj : j = k
          · exact Or.inl hj
          · exact Or.inr ⟨by omega, h.2.1, h.2.2⟩
      · rw [if_neg hc]
        obtain ⟨h1, h2, h3, h4, h5⟩ := ih (k + 1) (want + 1)
        refine ⟨by omega, by omega, by omega, ?_, by omega⟩
        intro j
        rw [h4]
        simp only [Bool.and_eq_true, bne_iff_ne, decide_eq_true_eq] at hc
        constructor
        · intro h; exact ⟨by omega, h.2⟩
        · intro h
          refine ⟨?_, h.2⟩
          by_cases hj : j = k
          · subst hj; exact absurd h.2.2 hc
          · omega

theorem opened_slotBytes (s : State) (p mb q) (k : Nat) (hk : k < 2048) : (s.opened p mb q).slotBytes k = s.slotBytes k := by
  unfold slotBytes
  rw [opened_get, opened_get, opened_get, opened_get] <;> (unfold recWord R.MBX_HSTAT; omega)

theorem opened_slotCode (s : State) (p mb q) (k : Nat) (hk : k < 2048) : (s.opened p mb q).slotCode k = s.slotCode k := by
  unfold slotCode
  rw [opened_get] ; (unfold recWord R.MBX_HSTAT; omega)

theorem opened_slotSev (s : State) (p mb q) (k : Nat) (hk : k < 2048) : (s.opened p mb q).slotSev k = s.slotSev k := by
  unfold slotSev
  rw [opened_get] ; (unfold recWord R.MBX_HSTAT; omega)

theorem slotWrite_get_other (s : State) (k a b c d x : Nat) (h : ∀ w, w < 4 → x ≠ recWord k w) : (s.slotWrite k a b c d).get x = s.get x := by
  unfold slotWrite
  dsimp only
  rw [get_put_ne _ _ (h 3 (by omega)), get_put_ne _ _ (h 2 (by omega)), get_put_ne _ _ (h 1 (by omega)), get_put_ne _ _ (h 0 (by omega))]

theorem slotWrite_w0 (s : State) (k a b c d : Nat) : (s.slotWrite k a b c d).get (recWord k 0) = a % 2 ^ 32 := by
  unfold slotWrite
  dsimp only
  rw [get_put_ne _ _ (by unfold recWord; omega), get_put_ne _ _ (by unfold recWord; omega), get_put_ne _ _ (by unfold recWord; omega), get_put_self]

/-- Clearing n slots empties them and leaves every other register and the recorder. -/
theorem clearSome_spec (s : State) (c : ClearRun) (n : Nat) :
   let t := s.clearSome c n
   (∀ j, c.next ≤ j → j < c.next + n → j < 2048 → t.slotCode j = 0) ∧
   (∀ x, (∀ j w, c.next ≤ j → j < 2048 → w < 4 → x ≠ recWord j w) → t.get x = s.get x) ∧
   t.evr = s.evr ∧ t.tb = s.tb ∧ t.aon = s.aon ∧ t.pins = s.pins := by
  unfold clearSome
  induction n with
  | zero => simp; intro j h1 h2 ; omega
  | succ n ih =>
    obtain ⟨h1, h2, h3, h4, h5, h6⟩ := ih
    rw [List.range_succ, List.foldl_append]
    simp only [List.foldl_cons, List.foldl_nil]
    generalize (List.range n).foldl (fun s i => if c.next + i < 2048 then s.slotClear (c.next + i) else s) s = u at *
    by_cases hn : c.next + n < 2048
    · rw [if_pos hn]
      refine ⟨?_, ?_, by simpa [slotClear, slotWrite] using h3, by simpa [slotClear, slotWrite] using h4, by simpa [slotClear, slotWrite] using h5, by simpa [slotClear, slotWrite] using h6⟩
      · intro j hj hj2 hj3
        by_cases he : j = c.next + n
        · subst he
          unfold slotCode slotClear
          rw [slotWrite_w0]; simp [bits]
        · have := h1 j hj (by omega) hj3
          unfold slotCode at this ⊢
          unfold slotClear
          rw [slotWrite_get_other _ _ _ _ _ _ _ (by intro w hw; unfold recWord; omega)]
          exact this
      · intro x hx
        unfold slotClear
        rw [slotWrite_get_other _ _ _ _ _ _ _ (fun w hw => hx _ w (by omega) hn hw)]
        exact h2 x hx
    · rw [if_neg hn]
      exact ⟨fun j hj hj2 hj3 => h1 j hj (by omega) hj3, h2, h3, h4, h5, h6⟩

/-- A log clear request releases FAULT_N and starts the clear. -/
theorem clearRequest_facts (s : State) (k : Nat) (h : s.evr.clearing = none) :
   let t := s.clearRequest k
   t.evr = { s.evr with clearing := some ⟨0, s.rd F.EVR_STATUS_USED, k⟩ } ∧ t.on F.EVR_STATUS_CLEARING = true ∧
   t.pins.faultLow = false ∧ t.on F.EVR_FAULT_LATCHED = false ∧ t.dram = s.dram ∧ t.lec = s.lec ∧ t.fw = s.fw ∧
   t.rd F.EVR_STATUS_USED = s.rd F.EVR_STATUS_USED := by
  have hf : (s.faultRelease).evr = s.evr := by simp [faultRelease]
  have hu : (s.faultRelease).rd F.EVR_STATUS_USED = s.rd F.EVR_STATUS_USED := by
    unfold faultRelease
    rw [modPins_rd, rd_wr_apart _ _ (by decide)]
  unfold clearRequest
  dsimp only
  rw [hf, h]
  dsimp only
  refine ⟨?_, ?_, by simp [faultRelease, modPins], ?_, by simp [faultRelease], by simp [faultRelease], by simp [faultRelease], ?_⟩
  · simp only [modEvr, wr_evr, hf]
    rw [rd_wr_apart _ _ (by decide), hu]
  · rw [modEvr_on]; exact on_wr_one _ (by decide) (by decide)
  · rw [modEvr_on, on_wr_apart _ _ (by decide)]
    unfold faultRelease
    rw [modPins_on]; exact on_wr_zero _ (by decide)
  · rw [modEvr_rd, rd_wr_apart _ _ (by decide), hu]

theorem offer_get (s : State) (k v : Nat) {x : Nat} (h : x ≠ R.EVR_STATUS) : (s.offer k v).get x = s.get x := by
  unfold offer
  split
  · split
    · simp
    · rw [modEvr_get, get_wr_ne _ _ h]
  · rfl

theorem offer_rd (s : State) (k v : Nat) {f : Fld} (h : apart F.EVR_STATUS_Q_OVF f = true) : (s.offer k v).rd f = s.rd f := by
  unfold offer
  split
  · split
    · simp
    · rw [modEvr_rd, rd_wr_apart _ _ h]
  · rfl

theorem offer_clearing (s : State) (k v : Nat) : (s.offer k v).evr.clearing = s.evr.clearing := by
  unfold offer
  split
  · split
    · simp [modEvr]
    · simp [modEvr]
  · rfl

/-- A new record into an empty slot. -/
theorem newRecord_facts (s : State) (k : Nat) (q : EvReq) (hk : k < 2048) (hu : s.rd F.EVR_STATUS_USED < 2048) :
   let t := s.newRecord k q true
   t.slotCode k = q.code % 65536 ∧ (∀ j, j < 2048 → j ≠ k → t.slotCode j = s.slotCode j) ∧ 
   t.rd F.EVR_STATUS_USED = s.rd F.EVR_STATUS_USED + 1 ∧ t.rd F.EVR_DROPPED_COUNT = s.rd F.EVR_DROPPED_COUNT ∧ t.evr.clearing = s.evr.clearing := by
  have h2 : ∀ (u : State) (x : Nat), x ≠ R.EVR_STATUS → x ≠ R.EVR_LAST → (∀ w, w < 4 → x ≠ recWord k w) → u.regs = s.regs → (u.newRecord k q true).get x = s.get x := by
    intro u x h1 h3 h4 h5
    unfold newRecord
    dsimp only
    rw [offer_get _ _ _ h1, modEvr_get, get_wrB_ne _ _ h1]
    simp only [if_true]
    rw [get_wr_ne _ _ h1, get_wr_ne _ _ h3, get_wr_ne _ _ h3, slotWrite_get_other _ _ _ _ _ _ _ h4]
    exact get_congr h5 _
  refine ⟨?_, ?_, ?_, ?_, ?_⟩
  · unfold slotCode newRecord
    dsimp only
    rw [offer_get _ _ _ (by unfold recWord R.EVR_STATUS; omega), modEvr_get, get_wrB_ne _ _ (by unfold recWord F.EVR_STATUS_FULL R.EVR_STATUS; simp; omega)]
    simp only [if_true]
    rw [get_wr_ne _ _ (by unfold recWord F.EVR_STATUS_USED R.EVR_STATUS; simp; omega), get_wr_ne _ _ (by unfold recWord F.EVR_LAST_VALID R.EVR_LAST; simp; omega), get_wr_ne _ _ (by unfold recWord F.EVR_LAST_SLOT R.EVR_LAST; simp; omega), slotWrite_w0]
    have := b2n_lt q.subOk
    unfold bits
    omega
  · intro j hj hjk
    unfold slotCode
    rw [h2 s _ (by unfold recWord R.EVR_STATUS; omega) (by unfold recWord R.EVR_LAST; omega) (by intro w hw; unfold recWord; omega) rfl]
  · unfold newRecord
    dsimp only
    rw [offer_rd _ _ _ (by decide), modEvr_rd, rd_wrB_apart _ _ (by decide)]
    simp only [if_true]
    have hr : ∀ u : State, u = (((s.slotWrite k (q.code % 65536 + q.sev % 8 * 2 ^ 16 + b2n q.subOk * 2 ^ 19) ((q.tick * 1024 + q.sub) % 2 ^ 32) ((q.tick * 1024 + q.sub) / 2 ^ 32) (q.a % 65536 + q.b % 65536 * 65536)).wr F.EVR_LAST_SLOT k).wr F.EVR_LAST_VALID 1) → u.rd F.EVR_STATUS_USED = s.rd F.EVR_STATUS_USED := by
      intro u hu
      subst hu
      rw [rd_wr_apart _ _ (by decide), rd_wr_apart _ _ (by decide)]
      exact rd_congr (slotWrite_get_other _ _ _ _ _ _ _ (by intro w hw; unfold recWord F.EVR_STATUS_USED R.EVR_STATUS; simp; omega))
    rw [rd_wr _ _ (by decide), hr _ rfl]
    exact Nat.mod_eq_of_lt (by show _ < 2 ^ 12; omega)
  · exact rd_congr (h2 s _ (by decide) (by decide) (by intro w hw; unfold recWord F.EVR_DROPPED_COUNT R.EVR_DROPPED; simp; omega) rfl)
  · unfold newRecord
    dsimp only
    rw [offer_clearing]
    simp [modEvr, slotWrite]

/-- The end of a log clear leaves event 0x0130 in slot 0 and every other slot empty. -/
theorem clearEnd_facts (s : State) (c : ClearRun) (h : c.next = 0) :
   let u := s.clearEnd c
   u.slotCode 0 = 0x0130 ∧ u.rd F.EVR_STATUS_USED = 1 ∧
      u.rd F.EVR_DROPPED_COUNT = 0 ∧ u.evr.clearing = none ∧ (∀ k, 1 ≤ k → k < 2048 → u.slotCode k = 0) := by
  obtain ⟨h1, h2, h3, h4, h5, h6⟩ := clearSome_spec s c (2048 - c.next)
  unfold clearEnd
  dsimp only
  generalize s.clearSome c (2048 - c.next) = v at *
  -- the state before the new record
  generalize hw : ((((((v.wr F.EVR_DROPPED_COUNT 0).put R.EVR_LAST 0).wr F.EVR_STATUS_CLEARING 0).wr F.EVR_STATUS_USED 0).wr F.EVR_STATUS_FULL 0).occur 0x0130 1).stamped.modEvr (fun e => { e with clearing := none }) = w
  have wg : ∀ x, x ∉ eventRegs → x ≠ R.EVR_LAST → w.get x = v.get x := by
    intro x hx hl
    have hs : x ≠ R.EVR_STATUS := fun e => hx (by rw [e]; simp [eventRegs])
    have hd : x ≠ R.EVR_DROPPED := fun e => hx (by rw [e]; simp [eventRegs])
    rw [← hw, modEvr_get, stamped_get, occur_get _ _ _ hx, get_wr_ne _ _ hs, get_wr_ne _ _ hs, get_wr_ne _ _ hs, get_put_ne _ _ hl, get_wr_ne _ _ hd]
  have fl : ∀ (z : State) (f : Fld), f.addr ≠ R.EVR_FAULT → (z.faultLatch 0x0130 1).rd f = z.rd f := by
    intro z f hb
    unfold faultLatch
    split
    · rfl
    · rw [rd_wr_ne _ _ hb, rd_wr_ne _ _ hb, rd_wr_ne _ _ hb]
  have iq : ∀ (z : State) (f : Fld), f.addr ≠ R.MBX_IRQ_STATUS → (z.irqOccur 1).rd f = z.rd f := by
    intro z f hb
    unfold irqOccur
    split
    · exact rd_wr_ne _ _ hb
    · rfl
  have occ : ∀ (u : State) (f : Fld), f.addr ≠ R.MBX_IRQ_STATUS → f.addr ≠ R.EVR_FAULT → (u.occur 0x0130 1).rd f = u.rd f := by
    intro u f ha hb
    unfold occur
    dsimp only
    split
    · rw [fl _ _ hb, faultDrive_rd, iq _ _ ha]
    · exact iq _ _ ha
  have wu : w.rd F.EVR_STATUS_USED = 0 := by
    rw [← hw, modEvr_rd, stamped_rd, occ _ _ (by decide) (by decide), rd_wr_apart _ _ (by decide), rd_wr _ _ (by decide)]
    rfl
  have wd : w.rd F.EVR_DROPPED_COUNT = 0 := by
    rw [← hw, modEvr_rd, stamped_rd, occ _ _ (by decide) (by decide), rd_wr_apart _ _ (by decide), rd_wr_apart _ _ (by decide), rd_wr_apart _ _ (by decide), rd_put_ne _ _ (by decide), rd_wr _ _ (by decide)]
    rfl
  have wc : w.evr.clearing = none := by rw [← hw]; rfl
  obtain ⟨r1, r2, r3, r4, r5⟩ := newRecord_facts w 0 ⟨0x0130, 1, c.inUse, c.party, (((((v.wr F.EVR_DROPPED_COUNT 0).put R.EVR_LAST 0).wr F.EVR_STATUS_CLEARING 0).wr F.EVR_STATUS_USED 0).wr F.EVR_STATUS_FULL 0).tb.toNat, (((((v.wr F.EVR_DROPPED_COUNT 0).put R.EVR_LAST 0).wr F.EVR_STATUS_CLEARING 0).wr F.EVR_STATUS_USED 0).wr F.EVR_STATUS_FULL 0).subNow, (((((v.wr F.EVR_DROPPED_COUNT 0).put R.EVR_LAST 0).wr F.EVR_STATUS_CLEARING 0).wr F.EVR_STATUS_USED 0).wr F.EVR_STATUS_FULL 0).aon.subOk⟩ (by omega) (by omega)
  refine ⟨r1, by rw [r3, wu], by rw [r4, wd], by rw [r5, wc], ?_⟩
  intro k hk1 hk2
  rw [r2 k hk2 (by omega)]
  have := h1 k (by omega) (by omega) hk2
  unfold slotCode at this ⊢
  rw [wg _ (by unfold eventRegs recWord R.MBX_IRQ_STATUS R.EVR_FAULT R.EVR_DROPPED R.EVR_STATUS; simp; omega) (by unfold recWord R.EVR_LAST; omega)]
  exact this

end State

end Sys2Proof.Machine
end

