-- ==== Sys2Proof/WellFormed.lean ====
section
/-! DEFINITION. Which commands are well formed: operands within the ranges the manual gives what they stand for.  The
types of Syntax.lean hold the other ranges. -/

namespace Sys2Proof

/-- Operands in range; a command not named here has no operand that its type does not bound. -/
def Instr.wf : Instr → Bool
  | .hspiRead addr _ part => decide (addr < 2 ^ 24 ∧ part < 8)                        -- 24-bit host addresses (R85)
  | .hspiFastRead addr _ _ part | .hspiQuadRead addr _ _ part => decide (addr < 2 ^ 24 ∧ part < 8)
  | .hspiReadStatus _ part => decide (part < 8)                                       -- bits of a byte (R86)
  | .hspiWrite _ addr _ part | .hspiQuadWrite addr _ part => decide (addr < 2 ^ 24 ∧ part < 8)
  | .fastLaneWrite addr _ part => decide (addr < 2 ^ 24 ∧ part < 8)
  | .canRequestFrame _ _ bytes _ | .pitchFrame _ _ bytes => decide (bytes.length ≤ 64)  -- CAN FD frames (R103)
  | .chainRollcall _ _ found | .bootRollCall found => decide (found.length ≤ 4)       -- one list a port
  | .hallpassExpiry g => decide (0 < g ∧ g < 2 ^ 32)                                  -- R105
  | .linkEq _ _ w h => decide (w ≤ 64 ∧ h < 65536)                                    -- eye width, UI/64 (R146)
  | .degradeAdvisory reason => decide (1 ≤ reason ∧ reason ≤ 5)                       -- R56
  | .optionLoadingComplete straps _ _ banks _ => decide (straps < 8 ∧ banks < 2 ^ 24) -- R67
  | .imageSlotCheck modes _ => decide (modes < 8)                                     -- R75
  | .errClear addr _ | .registerWrite addr _ => decide (addr % 4 = 0 ∧ addr < 2 ^ 36) -- R13
  | .layerUnderrun _ _ row => decide (row < 1728)                                     -- R155
  | .coefRamWrite _ off _ => decide (off % 4 = 0 ∧ off < 0x1400)                      -- R192
  | .timetableRamWrite _ off _ => decide (off % 4 = 0 ∧ off < 0xC00)                  -- R216
  | .injTableWrite _ e _ => decide (e < 1024)                                         -- R330
  | .blockDeadlineMiss _ slot blk => decide (slot < 192 ∧ blk < 32)                   -- R203
  | .backSensor _ _ stamp _ => decide (stamp < 2 ^ 32)                                -- R258
  | .backCapability _ bytes _ => decide (bytes.length ≤ 192)                            -- R268
  | .dramRequest _ addr _ len => decide (addr < 2 ^ 36 ∧ 1 ≤ len ∧ len ≤ 64)          -- R354
  | .eventRequest code _ a b _ => decide (0 < code ∧ code < 65536 ∧ a < 65536 ∧ b < 65536)  -- R388
  | .tapSample pins => decide (pins < 2 ^ 987)                                        -- R432
  | .tapPreload cells => decide (cells < 2 ^ 987)
  | .tapEvrRead (some slot) => decide (slot < 2048)                                   -- R435
  | _ => true

end Sys2Proof
end

