-- ==== Sys2Proof/Tests/Slice0.lean ====
section
/-! SUPPORT. Tests: ill-formed commands are refused by the check; worked examples and check values; for each statement with
hypotheses, states and operands that meet them, with a field or two of what follows. -/

namespace Sys2Proof.Tests

set_option Elab.async false

open Sys2Proof.Machine

/-! ### Ill-formed commands -/

theorem test_wf_host_address : ([.hspiRead (2 ^ 24) 1 0, .hspiRead 0 1 8, .hspiFastRead (2 ^ 24) 1 [] 0, .hspiQuadRead 0 1 [] 8,
  .hspiWrite 2 (2 ^ 24) [] 0, .hspiQuadWrite 0 [] 8, .fastLaneWrite (2 ^ 24) [] 0, .hspiReadStatus 4 8] : List Instr).all (fun c => !c.wf) = true := by decide +kernel
theorem test_wf_frames : ([.canRequestFrame 0 0 (List.replicate 65 0) true, .pitchFrame 0 0 (List.replicate 65 0),
  .imageSlotCheck 8 false, .backCapability 0 (List.replicate 193 0)] : List Instr).all (fun c => !c.wf) = true := by decide +kernel
theorem test_wf_lists : ([.chainRollcall 0 0 [[], [], [], [], []], .bootRollCall [[], [], [], [], []]] : List Instr).all (fun c => !c.wf) = true := by
  decide +kernel
theorem test_wf_numbers : ([.hallpassExpiry 0, .linkEq 0 0 65 0, .degradeAdvisory 0,
  .degradeAdvisory 6, .optionLoadingComplete 8 0 true 0 true, .layerUnderrun 0 0 1728, .blockDeadlineMiss 0 192 0, .backSensor 0 .inTime (2 ^ 32) [],
  .eventRequest 0 0 0 0 0, .tapSample (2 ^ 987), .tapPreload (2 ^ 987), .tapEvrRead (some 2048)] : List Instr).all (fun c => !c.wf) = true := by
  decide +kernel
theorem test_wf_addresses : ([.errClear 2 0, .registerWrite (2 ^ 36) 0, .coefRamWrite 0 0x1400 0, .timetableRamWrite 0 0xC00 0,
  .injTableWrite 0 1024 0, .dramRequest 0 (2 ^ 36) false 64, .dramRequest 0 0 false 65] : List Instr).all (fun c => !c.wf) = true := by decide +kernel
theorem test_wf_accepts : ([.hspiRead (2 ^ 24 - 1) 1 7, .degradeAdvisory 5, .tapEvrRead none, .powerOn 3 true] : List Instr).all Instr.wf = true := by
  decide +kernel

/-! ### Helpers -/

/-- The state after a command; the state itself where the command answers none. -/
def after (c : Instr) (s : State) : State := match exec c s with | .next t => t | _ => s

/-- A machine awake, with HSPI selected and firmware running, in a mode. -/
def up (m : Nat) : State :=
  let s : State := { State.reset with
    rst := { State.reset.rst with cpu := .running }, aon := { State.reset.aon with vaonGood := true, coreGood := true } }
  (s.wr F.SYS_MODE_MODE m).wr F.RST_OPT_HOSTSEL 1

/-- A command message with SEQ 1 waits in MB0 of CAN0. -/
def mail1 (s : State) (op : Nat) (pl : List Byte) : State :=
  s.modPort 1 fun q => { q with rx := sset (fun _ => none) q.rx 0 (some (mkMessage op 0 1 pl)) }
/-- A command message with SEQ 1 waits in MB0 of HSPI. -/
def mail0 (s : State) (op flags : Nat) (pl : List Byte) : State := (s.hostWrite (inboxAt 0) (mkMessage op flags 1 pl)).setBusy 0 true
/-- An expert command waits, under grant 1 for ALL. -/
def expert (s : State) (op : Nat) (pl : List Byte) : State :=
  mail0 (s.modMbx fun m => { m with grants := [⟨1, 0, 1000⟩], issued := [1] }) op 2 pl

/-- The hypotheses of Asks, as a check, but for the message that waits. -/
def asksC (s : State) (p : Fin 3) (op flags : Nat) (pl : List Byte) : Bool :=
  s.serves p 0 && decide (op < 256) && flagsOk p op flags && !bit flags 2 && decide (pl.length ≤ s.maxPay p) && decide (pl.length < 65536) &&
  (sget (fun _ => none) (s.port p).seqs 0).isNone && (s.frag p 0).isNone && decide (s.rst.cpu = .running) && s.turn p 0 op &&
  (!expertOp op || decide (p = 0)) && decide (s.grantCheck op pl = stOK) &&
  legalIn op (byteAt pl 0) s.mode (s.mode == modeLIMP && s.rd F.SYS_MODE_PROFILE == 3)
/-- The hypotheses of Asks, as a check. -/
def asksB (s : State) (p : Fin 3) (op flags : Nat) (pl : List Byte) : Bool :=
  decide (s.waiting p 0 = some (mkMessage op flags 1 pl ++ List.replicate (if p = 0 then 504 - pl.length else 0) 0)) && asksC s p op flags pl

theorem asks_whole {s : State} {p : Fin 3} {op flags : Nat} {pl : List Byte} (hw : ∃ pad, s.waiting p 0 = some (mkMessage op flags 1 pl ++ pad))
    (h : asksC s p op flags pl = true) : s.Asks p 0 op flags 1 pl := by
  simp only [asksC, Bool.and_eq_true, decide_eq_true_eq, Bool.or_eq_true, Bool.not_eq_true', Option.isNone_iff_eq_none] at h
  obtain ⟨⟨⟨⟨⟨⟨⟨⟨⟨⟨⟨⟨h1, h3⟩, h4⟩, h5⟩, h6⟩, h7⟩, h8⟩, h9⟩, h10⟩, ht⟩, h11⟩, h12⟩, h13⟩ := h
  exact { served := h1, waits := hw, op_lt := h3, seq_lt := by decide, flags_ok := h4, whole := h5, max := h6, len_lt := h7,
          fresh := h8, noFrag := h9, running := h10, turn := ht, expert := fun e => h11.resolve_left (by simp [e]), grant := h12, legal := h13 }
theorem asks_of {s : State} {p : Fin 3} {op flags : Nat} {pl : List Byte} (h : asksB s p op flags pl = true) : s.Asks p 0 op flags 1 pl := by
  simp only [asksB, Bool.and_eq_true, decide_eq_true_eq] at h
  exact asks_whole ⟨_, h.1⟩ h.2

theorem sgets_add {α : Type} (d : Nat → α) (m : Sparse α) (a k j : Nat) : sgets d m a (k + j) = sgets d m a k ++ sgets d m (a + k) j := by
  induction k generalizing a with
  | zero => simp [sgets]
  | succ k ih => rw [Nat.add_right_comm, sgets, sgets, ih, List.cons_append]; congr 3; omega
/-- A message stored into an empty mailbox of HSPI waits there, zeros after it. -/
theorem waiting_mail0 (s : State) (op flags : Nat) (pl : List Byte) (hl : pl.length ≤ 504) :
    ∃ pad, (mail0 s op flags pl).waiting 0 0 = some (mkMessage op flags 1 pl ++ pad) := by
  have hm : (mkMessage op flags 1 pl).length = 8 + pl.length := by simp [mkMessage, leBytes]; omega
  refine ⟨sgets memReset (mail0 s op flags pl).mbx.host (inboxAt 0 + (8 + pl.length)) (504 - pl.length), ?_⟩
  have hb : (mail0 s op flags pl).isBusy 0 = true := by rw [mail0, State.isBusy_setBusy _ _ _ _ (by decide), if_pos rfl]
  rw [State.waiting, if_pos rfl, if_pos hb, State.hostRead, show 512 = (mkMessage op flags 1 pl).length + (504 - pl.length) by omega, sgets_add, hm, ← hm]
  congr 2
  exact sgets_ssets _ _ _ _
theorem asks0_of {s : State} {op flags : Nat} {pl : List Byte} (hl : pl.length ≤ 504) (h : asksC (mail0 s op flags pl) 0 op flags pl = true) :
    (mail0 s op flags pl).Asks 0 0 op flags 1 pl := asks_whole (waiting_mail0 s op flags pl hl) h

/-- Status byte of the response in the outbox of MB0 of HSPI. -/
def status0 (s : State) : Nat := byteAt (s.hostRead (outboxAt 0) 12) 8
/-- Status byte of the first response frame of CAN0. -/
def status1 (s : State) : Nat := match (s.port 1).tx with | (_, m) :: _ => byteAt m 8 | [] => 999

/-! ### Worked examples of the manual -/

/-- R92, R108: check values of the mailbox CRC and of CRC-8/AUTOSAR over "123456789". -/
theorem test_crc_check_values : let m : List Byte := [0x31, 0x32, 0x33, 0x34, 0x35, 0x36, 0x37, 0x38, 0x39]
    crc16 m = 0x29B1 ∧ crc8 m = 0xDF := by decide +kernel
/-- R440: a reported write to LNK_EQ_THR of LEC2 carries A = 0x38 and B = 0x0014. -/
theorem test_block_of_lnk_eq_thr : blockOf (R.LNK_EQ_THR 2) = some (0x38, R.LNK_EQ_THR 2 - 0x14) := by decide +kernel
/-- After R200: t = 1,365 makes a 15.00 µs slot 15.62 µs. -/
theorem test_trim_example : State.trimmed 1500 1365 = 1562 := by decide +kernel
/-- The times of LEC0 in the MONO-32 example (after R207): t_blk 6.90 µs, t_lead 254.80 µs. -/
def mono32 : TtTimes := ⟨833333, 0, 32, 20, 150, 25, 690⟩
theorem test_block_time_example : blockUnits 3072 1728 32 2 6 = 690 ∧ mono32.lead = 25480 := by decide +kernel
/-- The MONO-32 field of LEC0: D = 30.0 µs, 32 slots, the durations of slots 0, 8, 14, 23, 24 and 31. -/
theorem test_mono32_example : let f := presetField mono32 (splitsOf 2 false) 0 1
    f.length = 32 ∧ ([0, 8, 14, 18, 23, 24, 31].map fun j => ((f[j]?).map fun x => (x.plane, x.dur)).getD (0, 0)) =
      [(15, 48000), (14, 32000), (13, 24000), (12, 24000), (8, 3000), (7, 1500), (0, 1500)] := by decide +kernel
/-- Its loading test passes. -/
theorem test_mono32_loads : ttLoads mono32 [presetField mono32 (splitsOf 2 false) 0 1] = true := by decide +kernel
/-- Derating of LEC0 through a hot climb (after R251): th and f at each reading, in 1/16 °C. -/
theorem test_derate_example :
    (([94 * 16, 95 * 16 + 8, 101 * 16, 99 * 16, 97 * 16, 92 * 16] : List Int).foldl (fun (a : Option Int × List (Int × Nat)) t =>
      let h := State.thNext a.1 t
      (some h, a.2 ++ [(h, State.derateF 95 20 40 h)])) (none, [])).2 =
      [(1504, 4096), (1528, 4055), (1616, 3604), (1616, 3604), (1600, 3686), (1520, 4096)] := by decide +kernel
/-- An oncoming car (after R237): the ellipse covers rows 660 to 740. -/
theorem test_ellipse_example : let r : List Byte := [0, 3, 2, 6] ++ leBytes 2 2100 ++ leBytes 2 700 ++ leBytes 2 90 ++ leBytes 2 40 ++ [255, 0, 0, 0]
    inside r 2100 660 = true ∧ inside r 2100 659 = false ∧ inside r 2100 740 = true ∧ inside r 2100 741 = false ∧
    inside r 2190 700 = true ∧ inside r 2191 700 = false := by decide +kernel

/-! ### Witnesses: the hypotheses of the statements can be met -/

/-- StepKeepsCanonical, StepKeepsFifoBound, QueueAndTick. -/
theorem witness_steps : let s : State := { up 3 with pending := [.crystalSwitch] }
    s.canonical = true ∧ s.fifoOk = true ∧ (after .crystalSwitch (up 3)).evr.fifo.length = 1 ∧ (up 3).pending = [] ∧
      (up 3).aon.vaonGood = true := by decide +kernel
/-- HspiReads, InboxWrites: the first and the last byte of the mailboxes. -/
theorem witness_hspi : let s := (up 3).wr F.MBX_HCFG_QUAD 1
    s.hspiServed = true ∧ s.on F.MBX_HCFG_QUAD = true ∧ s.isBusy 5 = false ∧ inboxAt 5 + 0x1FC + 4 ≤ 0x100000 ∧
      (after (.hspiRead 0x1000 2 0) (s.hostWrite 0x1000 [7, 8])).mbx.out = [7, 8] ∧
      (after (.hspiWrite 0x02 (inboxAt 5 + 0x1FC) [1, 2, 3, 4] 0) s).hostByte (inboxAt 5 + 0x1FF) = 4 ∧
      (after (.hspiReadStatus 5 0) s).mbx.out.length = 5 ∧
      ([after (.hspiReadStatus 5 3) s, after (.hspiFastRead 0xFFFFE 2 [] 7) s].map fun t => (t.mbx.out.length, t.on F.MBX_HSTAT_LAST_ERR)) = [(5, true), (2, true)] := by decide +kernel
/-- MalformedTransactions, each clause. -/
theorem witness_malformed : let s := up 3
    s.hspiServed = true ∧ hspiOpcodes.contains 0x9F = false ∧ s.on F.MBX_HCFG_QUAD = false ∧
      (after (.hspiWrite 0x9F 0 [] 0) s).rd F.MBX_HSPI_ERR_CNT_COUNT = 1 ∧ (after (.hspiRead 0x100000 2 0) s).mbx.out = [0xFF, 0xFF] ∧ s.stood 245 245 = false := by
  decide +kernel
/-- DoorbellsAndNotifications, each clause. -/
theorem witness_doorbell : let s := up 3
    s.hspiServed = true ∧ (after (.doorbell 0x21) s).rd F.MBX_HSTAT_INBOX_BUSY = 0x21 ∧ (after (.doorbell 0x21) s).mbx.order = [(0, 0), (0, 5)] ∧ (s.setBusy 5 true).isBusy 5 = true ∧
      (after (.doorbell 0x20) (s.setBusy 5 true)).on F.MBX_HSTAT_LAST_ERR = true ∧ s.fwRuns = true ∧ s.isFull 6 = false ∧
      (after .notificationPlace (s.modPort 0 fun q => { q with notifs := [[1, 2]] })).isFull 6 = true := by decide +kernel
/-- CanPort, each clause. -/
theorem witness_can : let s := up 3
    let held := s.modPort 1 fun q => { q with rx := sset (fun _ => none) q.rx 0 (some [1]) }
    let sent := held.modPort 1 fun q => { q with tx := [(q.rspId, [1])] }
    s.fwRuns = true ∧ (s.port 1).busOff = false ∧ (s.port 1).passive = false ∧ sget (fun _ => none) (s.port 1).rx 5 = none ∧
      (after (.canRequestFrame 0 5 [1] true) s).waiting 1 5 = some [1] ∧ sget (fun _ => none) (held.port 1).rx 0 = some [1] ∧
      (after (.canRequestFrame 0 0 [1] true) held).evr.fifo.length = 1 ∧ s.rst.canReset = 0 ∧ (sent.port 1).hello = [] ∧ s.sysStill 4 = false ∧
      ((after (.canFrameSent 0) sent).port 1).tx = [] ∧ ((after (.canBusOff 0) s).port 1).busOff = true ∧
      ((after (.canRequestFrame 0 5 [1] false) s).port 1).ignored = 1 ∧ ((after (.canErrorPassive 0) s).port 1).passive = true ∧
      ((after (.canFrameSent 0) (s.modPort 1 fun q => { q with notifs := [[1, 2]] })).port 1).notifs = [] ∧
      ((after (.canBusOffRecovery 0) (after (.canBusOff 0) s)).port 1).busOff = false := by decide +kernel
/-- MessageChecks: a payload too long, a wrong CRC, a duplicate, another SEQ, an undefined opcode. -/
theorem witness_checks :
    let bad := (up 3).modPort 1 fun q => { q with rx := sset (fun _ => none) q.rx 0 (some [4, 0, 1, 0, 0, 0, 9, 9]) }
    let long := (up 3).modPort 1 fun q => { q with rx := sset (fun _ => none) q.rx 0 (some [4, 0, 1, 0, 57, 0, 0, 0]) }
    let seen := (mail0 (up 3) 0x10 0 []).modPort 0 fun q => { q with seqs := [(0, some ⟨1, [9]⟩)] }
    let next := (mail0 (up 3) 0x10 0 []).modPort 0 fun q => { q with seqs := [(0, some ⟨3, [9]⟩)] }
    bad.crcOn 1 = true ∧ status1 (after (.getStatus 1 0) bad) = stBAD_CRC ∧ status1 (after (.getStatus 1 0) long) = stBAD_LENGTH ∧
      (after (.clearEvents 0 0) seen).hostRead (outboxAt 0) 1 = [9] ∧ status0 (after (.clearEvents 0 0) next) = stSEQ_ERROR ∧
      definedOp 0x40 = false ∧ flagsOk 1 0x40 0 = true ∧
      status1 (after (.undefinedOpcodeCommand 1 0) (mail1 (up 3) 0x40 [])) = stUNKNOWN_OPCODE := by decide +kernel
theorem witness_unknown : (mail1 (up 3) 0x40 []).Waits 1 0 0x40 0 1 [] :=
  { served := by decide +kernel, waits := ⟨[], by decide +kernel⟩, op_lt := by decide, seq_lt := by decide, flags_ok := by decide +kernel,
    whole := by decide +kernel, max := by decide +kernel, len_lt := by decide, fresh := by decide +kernel, noFrag := by decide +kernel,
    running := by decide +kernel, turn := by decide +kernel }
/-- HelloSettles, QueriesAndRecordReads, ClearEventsEmptiesLog. -/
theorem witness_hello : let pl := leBytes 2 2 ++ leBytes 2 2 ++ leBytes 2 64 ++ [7, 0]
    (mail0 (up 3) 1 0 pl).Asks 0 0 1 0 1 pl ∧ (mail0 (up 3) 1 0 pl).unanswered 0 0 = false ∧
      status0 (after (.hello 0 0) (mail0 (up 3) 1 0 pl)) = stOK := by
  refine ⟨asks0_of ?_ ?_, ?_⟩ <;> decide +kernel
theorem witness_queries : (mail0 (up 3) 2 0 [0]).Asks 0 0 2 0 1 [0] ∧ (mail0 (up 3) 2 0 [4]).Asks 0 0 2 0 1 (leBytes 1 4) ∧
    (mail0 (up 3) 4 0 []).Asks 0 0 4 0 1 [] ∧ 52 ≤ (mail0 (up 3) 4 0 []).maxPay 0 ∧
    status0 (after (.getInfo 0 0) (mail0 (up 3) 2 0 [4])) = stOK ∧ status0 (after (.getStatus 0 0) (mail0 (up 3) 4 0 [])) = stOK := by
  refine ⟨asks0_of ?_ ?_, asks0_of ?_ ?_, asks0_of ?_ ?_, ?_⟩ <;> decide +kernel
theorem witness_readEvents : let pl : List Byte := [0xFF, 7, 30, 0]
    (mail0 (up 3) 0x0F 0 pl).Asks 0 0 0x0F 0 1 pl ∧ 30 ≤ ((mail0 (up 3) 0x0F 0 pl).maxPay 0 - 12) / 16 ∧
      status0 (after (.readEvents 0 0) (mail0 (up 3) 0x0F 0 pl)) = stOK := by
  refine ⟨asks0_of ?_ ?_, ?_⟩ <;> decide +kernel
theorem witness_clearEvents : let s := mail1 (up 3) 0x10 []
    s.Asks 1 0 0x10 0 1 [] ∧ s.evr.clearing = none ∧ 6 ≤ s.maxPay 1 ∧ (after (.clearEvents 1 0) s).on F.EVR_STATUS_CLEARING = true := by
  refine ⟨asks_of ?_, ?_⟩ <;> decide +kernel

/-! #### Staging, modes, commits -/

/-- LayersAndMasksStage: a layer in range, one out of range, an animation, a CLEAR record for slot 5. -/
theorem witness_setLayer : let pl := List.replicate 32 0
    (mail1 (up 3) 7 pl).Asks 1 0 7 0 1 pl ∧ (after (.setLayer 1 0) (mail1 (up 3) 7 pl)).fw.stage.lay 0 0 = pl ∧
      (mail1 (up 3) 7 (4 :: pl.tail)).Asks 1 0 7 0 1 (4 :: pl.tail) ∧
      status1 (after (.setLayer 1 0) (mail1 (up 3) 7 (4 :: pl.tail))) = stBAD_PARAM := by
  refine ⟨asks_of ?_, ?_, asks_of ?_, ?_⟩ <;> decide +kernel
theorem witness_setAnimation : let pl : List Byte := [3, 2, 0, 0, 0, 0, 1, 0]
    (mail1 (up 3) 0x0B pl).Asks 1 0 0x0B 0 1 pl ∧ (after (.setAnimation 1 0) (mail1 (up 3) 0x0B pl)).fw.stage.anim.get 3 = pl := by
  refine ⟨asks_of ?_, ?_⟩ <;> decide +kernel
def maskRec : List Byte := let b : List Byte := [1, 0x45, 0, 0, 0, 0, 0, 0, 0, 0, 0, 0, 0, 0, 0]; b ++ leBytes 1 (crc8 b)
theorem witness_setMasks : let pl : List Byte := [1, 1, 0, 0] ++ maskRec
    (mail1 (up 3) 0x0A pl).Asks 1 0 0x0A 0 1 pl ∧ recordOk maskRec = true ∧ crc8 (maskRec.take 15) = byteAt maskRec 15 ∧
      ((after (.setMasks 1 0) (mail1 (up 3) 0x0A pl)).fw.masks.get 1).length = 1 := by
  refine ⟨asks_of ?_, ?_⟩ <;> decide +kernel
/-- BeamStages: OFF; a stored asset; none stored; PROFILE without an identifier. -/
def withAsset (s : State) (a : Asset) : State := s.modFw fun w => { w with assets := [a] }
theorem witness_setBeam : let pl := fun (k i : Nat) => ([15] : List Byte) ++ leBytes 1 k ++ leBytes 2 i ++ leBytes 2 1000 ++ [0, 0]
    let q := fun (k i : Nat) => mail1 (withAsset (up 3) ⟨9, 2, 64, 0, 0⟩) 9 (pl k i)
    (q 0 0).Asks 1 0 9 0 1 (pl 0 0) ∧ (q 7 9).Asks 1 0 9 0 1 (pl 7 9) ∧ (q 0x10 0).Asks 1 0 9 0 1 (pl 0x10 0) ∧
      (q 7 9).asset 9 = some ⟨9, 2, 64, 0, 0⟩ ∧ sget (fun _ => 0) (q 1 0).fw.stage.beams 1 = 0 ∧
      status1 (after (.setBeam 1 0) ((q 7 0).modFw fun w => { w with stage := { w.stage with beams := [(7, 9)] } })) = stOK ∧
      ([q 0 0, q 7 9, q 1 0, q 0x10 0].map fun s => status1 (after (.setBeam 1 0) s)) = [stOK, stOK, stNOT_PRESENT, stBAD_PARAM] := by
  refine ⟨asks_of ?_, asks_of ?_, asks_of ?_, ?_⟩ <;> decide +kernel
/-- GroupsAndTimingStage: DEFINE and LEVEL of group 31; a timing of channel 3. -/
theorem witness_setGroups : let pl : List Byte := [1, 0, 0, 0, 0, 0, 0, 0x80, 5, 0, 9, 0]
    (mail1 (up 3) 0x0C pl).Asks 1 0 0x0C 0 1 pl ∧ pl.length = State.groupsLength pl ∧ State.groupsOk pl = true ∧
      status1 (after (.setGroups 1 0) (mail1 (up 3) 0x0C pl)) = stOK := by
  refine ⟨asks_of ?_, ?_⟩ <;> decide +kernel

theorem witness_groups : let d : List Byte := [0, 31, 1, 0, 3, 0] ++ leBytes 2 8191 ++ leBytes 2 1
    let a : List Byte := [2, 0, 0, 0, 0, 0, 0, 0x80, 3, 0] ++ leBytes 2 2000
    let x : List Byte := [3, 31, 0, 0]
    (mail1 (up 3) 0x0C d).Asks 1 0 0x0C 0 1 d ∧ (mail1 (up 3) 0x0C a).Asks 1 0 0x0C 0 1 a ∧ (mail1 (up 3) 0x0C x).Asks 1 0 0x0C 0 1 x ∧
      ([d, a, x].all fun pl => State.groupsOk pl && decide (pl.length = State.groupsLength pl)) = true ∧
      (after (.setGroups 1 0) (mail1 (up 3) 0x0C a)).fw.stage.window = 2000 := by
  refine ⟨asks_of ?_, asks_of ?_, asks_of ?_, ?_⟩ <;> decide +kernel
/-- A timing of channels 0 and 3: 3072 × 1728, 120 Hz, MONO-32, guard 15. -/
def timing (mask : Nat) : List Byte := leBytes 1 mask ++ [1, 3, 15] ++ leBytes 2 3072 ++ leBytes 2 1728 ++ leBytes 2 12000 ++ [0, 0]
theorem witness_setTiming : (mail1 (up 3) 5 (timing 9)).Asks 1 0 5 0 1 (timing 9) ∧ State.timingOk (timing 9) = true ∧
    (after (.setTiming 1 0) (mail1 (up 3) 5 (timing 9))).rd (F.LEC_COMMIT_CFG_COMMIT_GUARD 3) = 15 := by
  refine ⟨asks_of ?_, ?_⟩ <;> decide +kernel
/-- DerateAndLevellingStage: SET at its limits, ARM, DISARM in READY and in BEAM; a levelling input. -/
theorem witness_setDerate : let q := fun (m : Nat) (pl : List Byte) => mail1 (up m) 0x0D pl
    let a : List Byte := [8, 0, 140, 5, 100, 2, 0, 0]
    (q 3 a).Asks 1 0 0x0D 0 1 a ∧ (q 3 [8, 1, 0, 0, 0, 0, 0, 0]).Asks 1 0 0x0D 0 1 [8, 1, 0, 0, 0, 0, 0, 0] ∧
      (q 4 [8, 2, 0, 0, 0, 0, 0, 0]).Asks 1 0 0x0D 0 1 [8, 2, 0, 0, 0, 0, 0, 0] ∧
      ([q 3 a, q 3 [8, 1, 0, 0, 0, 0, 0, 0], q 3 [8, 2, 0, 0, 0, 0, 0, 0], q 4 [8, 2, 0, 0, 0, 0, 0, 0]].map fun s =>
        status1 (after (.setDerate 1 0) s)) = [stOK, stOK, stOK, stWRONG_MODE] := by
  refine ⟨asks_of ?_, asks_of ?_, asks_of ?_, ?_⟩ <;> decide +kernel
theorem witness_setLevelling : let pl : List Byte := [1, 7, 0, 0, 0xFF, 0xFF, 0xFF, 0x1F, 62, 0, 0xE8, 0xFF, 0, 0xFE, 0, 2] ++ leBytes 2 1000 ++ [0, 0]
    (mail1 (up 3) 0x12 pl).Asks 1 0 0x12 0 1 pl ∧ pl.length = 20 ∧ le32 pl 4 < 2 ^ 29 ∧
      status1 (after (.setLevelling 1 0) (mail1 (up 3) 0x12 pl)) = stOK := by
  refine ⟨asks_of ?_, ?_⟩ <;> decide +kernel
/-- SetModeRequests: READY to BEAM, to itself, to a mode the table does not list, with PWR_WARN_N low, during a transition. -/
def toMode (s : State) (m : Nat) : State := mail1 s 3 (leBytes 1 m ++ [0, 0, 0])
theorem witness_setMode : (toMode (up 3) 4).Asks 1 0 3 0 1 (leBytes 1 4 ++ [0, 0, 0]) ∧
    (toMode (up 3) 4).moving = false ∧ (toMode (up 3) 4).sys.checkOwed = false ∧
    ((toMode (up 3) 4).modSys fun y => { y with speed := some ⟨1, 0, 1⟩ }).moving = true ∧
    ([toMode (up 3) 4, toMode (up 3) 3, toMode (up 3) 2, toMode (up 3) 13, toMode ((up 3).modSys fun y => { y with pwrLow := true }) 4,
      (toMode (up 3) 4).modSys fun y => { y with speed := some ⟨1, 0, 1⟩ }].map fun s => status1 (after (.setMode 1 0) s)) =
      [stACCEPTED, stOK, stWRONG_MODE, stBAD_PARAM, stWRONG_MODE, stBUSY] := by
  refine ⟨asks_of ?_, ?_⟩ <;> decide +kernel

/-- TransitionsAndDegrade, CommitChecksThenIssues, BellAndSnapshot, CommitTargetsAndRun. -/
theorem witness_transition : let s := (up 3).modSys fun y => { y with transit := some ⟨11, 0, none, 0, false⟩ }
    s.fwRuns = true ∧ s.retraining = false ∧ s.mode ∈ [3, 4, 5, 7, 10, 11] ∧ (after .modeTransitionComplete s).mode = 11 := by decide +kernel
theorem witness_setDegrade : let pl := leBytes 1 3 ++ leBytes 1 31 ++ [0, 0]
    (mail1 (up 4) 0x15 pl).Asks 1 0 0x15 0 1 pl ∧ (after (.setDegrade 1 0) (mail1 (up 4) 0x15 pl)).rd F.SYS_MODE_PROFILE = 3 := by
  refine ⟨asks_of ?_, ?_⟩ <;> decide +kernel
def commitOf (mask opts : Nat) : State :=
  let s := mail1 (up 3) 8 (leBytes 1 mask ++ leBytes 1 opts ++ [0, 0])
  s.modFw fun w => { w with stage := w.stage.setLay 0 0 ([0, 0, 1, 0, 5] ++ List.replicate 27 0) }
/-- The reason for which a commit would be rejected. -/
def whyOf (mask opts : Nat) : Nat := let s := commitOf mask opts
  s.rejectReason (s.fw.act.merge s.fw.stage mask (bit opts 0)) mask (bit opts 0) s.profileNow
theorem witness_commit : (commitOf 0 1).Asks 1 0 8 0 1 (leBytes 1 0 ++ leBytes 1 1 ++ [0, 0]) ∧
    (commitOf 1 0).Asks 1 0 8 0 1 (leBytes 1 1 ++ leBytes 1 0 ++ [0, 0]) ∧ (commitOf 0 1).bistNames 0 true = false ∧
    28 ≤ (commitOf 0 1).maxPay 1 ∧ (commitOf 0 1).moving = false ∧ whyOf 0 1 = 0 ∧ whyOf 1 0 ≠ 0 := by
  refine ⟨asks_of ?_, asks_of ?_, ?_⟩ <;> decide +kernel
theorem test_commit_answers : status1 (after (.commit 1 0) (commitOf 0 3)) = stOK ∧
    status1 (after (.commit 1 0) (commitOf 1 0)) = stREJECTED_CONFIG ∧
    status1 (after (.commit 1 0) ((commitOf 0 1).modSys fun y => { y with speed := some ⟨1, 0, 1⟩ })) = stBUSY := by decide +kernel
theorem witness_bell : let s := up 3
    let held := s.modSys fun y => { y with bell := some 0x201 }
    s.on F.SYS_BELL_STATUS_BUSY = false ∧ (after (.bellWrite 0x220) s).on F.SYS_BELL_STATUS_BUSY = true ∧
      (after (.bellWrite 0x220) (after (.bellWrite 0x220) s)).on F.SYS_BELL_STATUS_LOST = true ∧ bit 0x201 9 = true ∧ bit 0x201 8 = false ∧
      (after .bellStrobe held).sys.bell = none ∧ s.stood 242 242 = false := by decide +kernel
theorem witness_snapshot : let s := mail0 (up 3) 0x11 0 [63]
    s.Asks 0 0 0x11 0 1 (leBytes 1 63) ∧ s.sys.bell = none ∧ s.on F.SYS_BELL_STATUS_BUSY = false ∧ 44 ≤ s.maxPay 0 ∧ s.evr.stampSub < 1024 ∧
      status0 (after (.snapshot 0 0) s) = stOK := by
  refine ⟨asks0_of ?_ ?_, ?_⟩ <;> decide +kernel
/-- A machine whose channel n runs. -/
def running (n : Fin 4) : State := ((up 4).wr (F.LEC_STATUS_RUNNING n) 1).wr (F.LEC_CTRL_RUN n) 1
/-- A configuration: 64 × 8, 120 Hz, one field. -/
def smallCfg : Cfg := ⟨64, 8, 12000, 1, 1, false, false, false, false, 0, [], Four.all 0, Four.all none, [], Four.all [], 0, 0⟩
theorem witness_commitGo : let s := running 3
    s.on (F.LEC_STATUS_RUNNING 3) = true ∧ (after (.lecCommitGo 3 1) s).rd (F.LEC_COMMIT_STATUS_TARGET 3) = 2 ∧ s.on (F.LEC_CTRL_RUN 3) = true ∧ s.subHeld 3 12 = false ∧
      (after (.lecCommitGo 3 1) (s.wr (F.LEC_CTRL_RUN 3) 0)).rd (F.LEC_COMMIT_STATUS_TARGET 3) = 1 ∧
      (up 3).on (F.LEC_STATUS_RUNNING 0) = false ∧ (after (.lecRunWrite 0 1) (up 3)).on (F.LEC_STATUS_RUNNING 0) = false ∧
      (after (.lecRunWrite 0 1) ((up 3).modCh 0 fun c => { c with cfgComp := some smallCfg })).on (F.LEC_STATUS_RUNNING 0) = true := by decide +kernel
/-- LatchThenTransfer: armed and latched commits, and none. -/
theorem witness_latch : let s := (running 1).wr (F.LEC_TRANSFER_LINE_LINE 1) 100
    let armed := s.wr (F.LEC_COMMIT_STATUS_PENDING 1) 1
    s.subStill 1 12 = false ∧ s.latchAtStart 1 = false ∧ s.on (F.LEC_COMMIT_STATUS_PENDING 1) = false ∧
      armed.on (F.LEC_COMMIT_STATUS_PENDING 1) = true ∧ (s.ch 1).composing = false ∧
      (after (.transferLine 1) (after (.latchPoint 1) armed)).on (F.LEC_COMMIT_STATUS_LATCHED 1) = false ∧ (after (.latchPoint 1) armed).on (F.LEC_COMMIT_STATUS_LATCHED 1) = true := by decide +kernel
/-- FrameStarts: RUN at 1 and at 0. -/
theorem witness_frameStart : let s := running 2
    s.subStill 2 12 = false ∧ s.flMember 2 = false ∧ s.on (F.LEC_STATUS_LOCKED 2) = false ∧ (s.ch 2).join = false ∧ s.sys.speed = none ∧
      (after (.frameStart 2) s).get (R.LEC_FRAME_COUNT 2) = 1 ∧
      (after (.frameStart 2) (s.wr (F.LEC_CTRL_RUN 2) 0)).on (F.LEC_STATUS_RUNNING 2) = false := by decide +kernel
/-- FrameLockGroup: an edge inside the window, an edge outside it while a start is due, a missing edge; a write with none due. -/
theorem witness_flock : let s := ((running 0).setActv (sset regReset [] R.SYS_FLOCK 0x21)).wr (F.LEC_STATUS_LOCKED 0) 1
    s.stood 242 242 = false ∧ s.on (F.LEC_STATUS_RUNNING s.flLeader) = true ∧ s.sys.speed = none ∧ s.flRef = 2 ∧ s.flMember 0 = true ∧ s.flLeader = 0 ∧ s.on (F.LEC_CTRL_RUN 0) = true ∧ s.sys.flockFirst = false ∧ s.flDue = true ∧
      (up 3).flDue = false ∧ (after (.lsyncInEdge 1 true) s).get (R.LEC_FRAME_COUNT 0) = 1 ∧
      (after .lsyncEdgeMissing s).get (R.LEC_FRAME_COUNT 0) = 1 ∧ (after (.lsyncInEdge 1 false) s).rd F.SYS_FLOCK_STATUS_MISSED = 1 ∧
      (after (.frameLockWrite 0x21) (up 3)).rdA F.SYS_FLOCK_REF = 2 := by decide +kernel

/-! #### Assets, flash, grants, registers -/

/-- AssetPieces: a first piece, a gap, a continuing piece, a piece of an asset that is referenced. -/
def piece (off : Nat) (d : List Byte) : List Byte :=
  leBytes 2 9 ++ leBytes 1 1 ++ leBytes 1 0 ++ leBytes 4 8 ++ leBytes 4 off ++ leBytes 4 7 ++ d
def begun (s : State) : State := s.modFw fun w => { w with uploads := [⟨⟨9, 1, 8, 7, 0x100000⟩, false, 4⟩] }
def usesAsset9 (s : State) : State := s.modCh 0 fun c => { c with cfgComp := some { smallCfg with assets := [9] } }
theorem witness_asset : (mail1 (up 3) 6 (piece 0 [1, 2])).Asks 1 0 6 0 1 (piece 0 [1, 2]) ∧
    (mail1 (up 3) 6 (piece 4 [1, 2])).upload 9 = none ∧ (begun (mail1 (up 3) 6 (piece 4 [1, 2]))).upload 9 = some ⟨⟨9, 1, 8, 7, 0x100000⟩, false, 4⟩ ∧
    (up 3).referenced 9 = false ∧ (usesAsset9 (up 3)).referenced 9 = true ∧ 8 ≤ assetLimit 1 ∧
    (up 3).dramIn (0x100000 * 4096 + 4) 2 = true ∧ 8 ≤ (mail1 (up 3) 6 (piece 0 [1, 2])).freeFor 9 ∧
    status1 (after (.loadAsset 1 0) (mail1 (up 3) 6 (piece 4 [1, 2]))) = stBAD_PARAM ∧
    status1 (after (.loadAsset 1 0) (begun (mail1 (up 3) 6 (piece 4 [1, 2])))) = stOK := by
  refine ⟨asks_of ?_, ?_⟩ <;> decide +kernel
/-- FlashAndFirmware: STORE_CONFIG with and without an operation in progress, its completion, FW_UPDATE WRITE and ERASE, the running slot. -/
theorem witness_storeConfig : let pl : List Byte := [3, 1] ++ List.replicate 34 0
    let q := mail1 (up 3) 0x18 pl
    q.Asks 1 0 0x18 0 1 pl ∧ zeroAt pl 2 2 = true ∧ zeroAt pl 5 3 = true ∧ zeroAt pl 21 3 = true ∧ q.fw.flash = none ∧
      status1 (after (.storeConfig 1 0) q) = stACCEPTED ∧
      status1 (after (.storeConfig 1 0) (q.modFw fun w => { w with flash := some ⟨2, 0, none, none, none⟩ })) = stBUSY ∧
      (after (.flashOpComplete false) ((up 3).modFw fun w => { w with flash := some ⟨3, 0, none, none, none⟩ })).fw.flash = none := by
  refine ⟨asks_of ?_, ?_⟩ <;> decide +kernel
/-- FlashAndFirmware: the end of each kind of operation; an asset's record in flash, being written. -/
theorem witness_flashEnd : let a : Asset := ⟨5, 1, 3, 0, 0⟩
    let s := (up 3).modFw fun w => { w with store := [⟨0xFE, 1, a, [1, 2, 3]⟩] }
    let op := fun (k : Nat) => s.modFw fun w => { w with flash := some ⟨k, 1, some ⟨1, 0, 0x18, 4, true⟩, none, if k = 1 then some (a, [1, 2, 3]) else none⟩ }
    s.fwRuns = true ∧ s.sysStill 6 = false ∧ (s.modFw fun w => { w with flash := some ⟨2, 1, none, none, none⟩ }).fw.flash.isSome = true ∧
      ([0, 1, 2, 3].map fun k => ((after (.flashOpComplete false) (op k)).fw.flash.isSome, ((after (.flashOpComplete false) (op k)).port 1).notifs.length)) =
        [(false, 1), (false, 1), (false, 1), (false, 1)] ∧
      ((after (.flashOpComplete false) (op 1)).fw.store.map AssetRec.state) = [0xFC] ∧
      ((after (.flashOpComplete true) (op 3)).port 1).notifs.map (fun m => (byteAt m 8, byteAt m 9)) = [(stBAD_PARAM, 7)] := by decide +kernel
def update (act slot : Nat) (d : List Byte) : List Byte := leBytes 4 1 ++ leBytes 1 act ++ leBytes 1 slot ++ [0, 0] ++ leBytes 4 0 ++ d
theorem witness_fwUpdate : (expert (up 3) 0x8F (update 1 1 [5])).Asks 0 0 0x8F 2 1 (update 1 1 [5]) ∧ (up 3).fw.running = 0 ∧
    ([(1, 1, [5]), (0, 1, []), (1, 0, [5])].map fun (a, b, d) => status0 (after (.fwUpdate 0 0 false) (expert (up 3) 0x8F (update a b d)))) =
      [stOK, stACCEPTED, stBAD_PARAM] ∧
    status0 (after (.fwUpdate 0 0 true) (expert (up 3) 0x8F (update 0 1 []))) = stINTERNAL := by
  refine ⟨asks0_of ?_ ?_, ?_⟩ <;> decide +kernel
/-- HallPassGrants: a grant for TST of 600 s, one that clashes, a return, an expiry. -/
theorem witness_grants : let pl := leBytes 1 14 ++ [0] ++ leBytes 2 600 ++ [0, 0, 0, 0]
    (mail0 (up 3) 0x80 2 pl).Asks 0 0 0x80 2 1 pl ∧ blockId 14 = true ∧ (after (.hallpassReq 0 0) (mail0 (up 3) 0x80 2 pl)).mbx.grants.length = 1 ∧
      status0 (after (.hallpassReq 0 0) (expert (up 3) 0x80 pl)) = stBUSY ∧
      (expert (up 3) 0x81 (leBytes 4 1)).Asks 0 0 0x81 2 1 (leBytes 4 1) ∧ (expert (up 3) 0x81 (leBytes 4 1)).liveGrant 1 = some ⟨1, 0, 1000⟩ ∧
      (after (.hallpassReturn 0 0) (expert (up 3) 0x81 (leBytes 4 1))).mbx.grants = [] ∧
      (after (.hallpassExpiry 1) { expert (up 3) 0 [] with tb := 1000 }).mbx.grants = [] := by
  refine ⟨asks0_of ?_ ?_, ?_, ?_, ?_, asks0_of ?_ ?_, ?_⟩ <;> decide +kernel
/-- RegisterWriteAttributes: an AON register with its row, an error register. -/
theorem witness_registerWrite : blockOf R.AON_WAKE_CFG = some (3, aonBase) ∧ State.isErr R.AON_WAKE_CFG = false ∧ (up 3).sysHeld 7 = false ∧ (up 3).heldId 3 = false ∧ ((up 3).put R.RST_BLK_CTRL4 0x80).heldId 5 = true ∧
    (specAt R.AON_WAKE_CFG).isSome = true ∧ (after (.registerWrite R.AON_WAKE_CFG 3) (up 3)).get R.AON_WAKE_CFG = 3 ∧
    State.isErr (aonBase + 0x1F0) = true ∧ (after (.errClear (aonBase + 0x1F0) 0x80000000) ((up 3).put (aonBase + 0x1F0) 5)).get (aonBase + 0x1F0) = 0 := by
  decide +kernel
/-- RegisterAndMemoryCommands: reads, writes and a modify of WAKE_CFG; an address outside the map; DRAM, a pattern SRAM, a chain memory. -/
def regPl (a : Nat) (rest : List Byte) : List Byte := leBytes 4 1 ++ leBytes 4 a ++ rest
theorem witness_registers : let a := R.AON_WAKE_CFG
    let w := leBytes 4 3
    (expert (up 10) 0x82 (regPl a [1, 0])).Asks 0 0 0x82 2 1 (regPl a (leBytes 2 1)) ∧
      (expert (up 10) 0x83 (regPl a w)).Asks 0 0 0x83 2 1 (regPl a w) ∧
      (expert (up 10) 0x84 (regPl a (w ++ w))).Asks 0 0 0x84 2 1 (regPl a (w ++ w)) ∧ cardReg a = false ∧ blockOf 0 = none ∧
      status0 (after (.regRead 0 0) (expert (up 10) 0x82 (regPl 0 [1, 0]))) = stNOT_PRESENT ∧
      (after (.regWrite 0 0) (expert (up 10) 0x83 (regPl a w))).get a = 3 ∧ (after (.regModify 0 0) (expert (up 10) 0x84 (regPl a (w ++ w)))).get a % 4 = 3 := by
  refine ⟨asks0_of ?_ ?_, asks0_of ?_ ?_, asks0_of ?_ ?_, ?_⟩ <;> decide +kernel
def memPl (sp a len : Nat) (d : List Byte) : List Byte := leBytes 4 1 ++ leBytes 1 sp ++ [0, 0, 0] ++ leBytes 8 a ++ leBytes 2 len ++ [0, 0] ++ d
theorem witness_memories : let s := up 10
    (expert s 0x86 (memPl 0 0x100000000 4 [1, 2, 3, 4])).Asks 0 0 0x86 2 1 (memPl 0 0x100000000 4 [1, 2, 3, 4]) ∧
      (expert s 0x85 (memPl 1 0x3FFFC 4 [])).Asks 0 0 0x85 2 1 (memPl 1 0x3FFFC 4 []) ∧
      s.dramHit 0x100000003 = true ∧ s.poisoned 0x100000003 = false ∧ s.showsPattern 0 = false ∧ s.bistOn 2 0 = false ∧ s.bistOn 1 3 = false ∧
      s.on (F.CHN_CTRL_EN 3) = false ∧ (s.wr (F.BPF_SRCSEL_PATTERN 0) 1 |>.wr (F.LEC_STATUS_RUNNING 0) 1).showsPattern 0 = true ∧
      (after (.memWrite 0 0) (expert s 0x86 (memPl 0 0x100000000 4 [1, 2, 3, 4]))).dbyte 0x100000003 = 4 ∧
      (after (.memWrite 0 0) (expert s 0x86 (memPl 8 0x7FFC 4 [1, 2, 3, 4]))).bankVal 3 1 8191 = 0x0403 ∧
      status0 (after (.memRead 0 0) (expert s 0x85 (memPl 1 0x3FFFC 4 []))) = stOK := by
  refine ⟨asks0_of ?_ ?_, asks0_of ?_ ?_, ?_⟩ <;> decide +kernel

/-- MatrixAndTimetableLoads: a timetable that passes the checks, and one that does not. -/
def tableBody (slots : List (Nat × Nat)) : List Byte :=
  leBytes 1 slots.length ++ [0, 0, 0] ++ (slots.map fun e => leBytes 1 e.1 ++ [0x17, 0, 0] ++ leBytes 4 e.2).flatten
def tablePl (slots : List (Nat × Nat)) : List Byte := leBytes 4 1 ++ leBytes 1 0 ++ leBytes 1 15 ++ leBytes 1 1 ++ [0] ++ tableBody slots
/-- A field of binary planes, and one that shows plane 15 only. -/
def binary : List (Nat × Nat) := (List.range 16).map fun p => (15 - p, 100 * 2 ^ (15 - p))
def binarySlots : List Slot :=
  [⟨15, 7, 1, 3276800⟩, ⟨14, 7, 1, 1638400⟩, ⟨13, 7, 1, 819200⟩, ⟨12, 7, 1, 409600⟩, ⟨11, 7, 1, 204800⟩, ⟨10, 7, 1, 102400⟩, ⟨9, 7, 1, 51200⟩,
    ⟨8, 7, 1, 25600⟩, ⟨7, 7, 1, 12800⟩, ⟨6, 7, 1, 6400⟩, ⟨5, 7, 1, 3200⟩, ⟨4, 7, 1, 1600⟩, ⟨3, 7, 1, 800⟩, ⟨2, 7, 1, 400⟩, ⟨1, 7, 1, 200⟩, ⟨0, 7, 1, 100⟩]
theorem test_ttParse : (ttParse (leBytes 1 1 ++ [0] ++ tableBody binary) 1 2).1 = [binarySlots] := by decide +kernel
theorem witness_timetable : let s := up 10
    let one := [(15, 5)]
    let bytes := fun t => leBytes 1 1 ++ [0] ++ tableBody t
    (expert s 0x8D (tablePl binary)).Asks 0 0 0x8D 2 1 (tablePl binary) ∧ (expert s 0x8D (tablePl one)).Asks 0 0 0x8D 2 1 (tablePl one) ∧
      ([binary, one].all fun t => State.fieldsEnd (bytes t) 1 2 == (bytes t).length && State.fieldsOk (bytes t) 1 2) = true ∧
      s.timetableUsed 0 15 = false ∧ s.loadChecks 0 (ttParse (bytes binary) 1 2).1 = true ∧ s.loadChecks 0 (ttParse (bytes one) 1 2).1 = false :=
by
  refine ⟨asks0_of ?_ ?_, asks0_of ?_ ?_, ?_, ?_, (congrArg ((up 10).loadChecks 0) test_ttParse).trans ?_, ?_⟩ <;> decide +kernel


/-! #### Links, chains, resets, loops -/

/-- A link that is UP. -/
def linked (n : Fin 4) (s : State) : State := s.wr (F.LNK_STATUS_STATE n) 3
def linkMsg (act : Nat) (s : State) : State := mail1 s 0x13 (leBytes 1 1 ++ leBytes 1 act ++ leBytes 1 1 ++ [0] ++ leBytes 2 1250 ++ [0, 0])
/-- LinkCommands: each action on a link that is up, down or training, on a stopped and on a running channel. -/
theorem witness_linkControl : let s := up 3
    let best := fun s : State => ((s.wr (F.LNK_MODE_LANES 1) 2).wr (F.LNK_MODE_RATE 1) 2).put (R.LNK_CAP 1 3) 0x07020000 |>.modCh 1 fun c => { c with link := { c.link with capOk := true } }
    (List.range 5).all (fun a => asksB (linkMsg a s) 1 0x13 0 (leBytes 1 1 ++ leBytes 1 a ++ leBytes 1 1 ++ [0] ++ leBytes 2 1250 ++ [0, 0])) = true ∧
      (rateIx 1250).isSome = true ∧ 16 ≤ s.maxPay 1 ∧ s.linkUp 1 = false ∧ s.linkTraining 1 = false ∧ (linked 1 s).linkUp 1 = true ∧
      (linked 1 s).linkTraining 1 = false ∧ (s.wr (F.LNK_STATUS_STATE 1) 1).linkTraining 1 = true ∧
      (best (linked 1 s)).lowerBad 1 1 0 = false ∧ (linked 1 s).lowerBad 1 2 0 = true := by decide +kernel
theorem test_linkControl : let s := up 3
    status1 (after (.linkControl 1 0) (linkMsg 2 (running 1))) = stWRONG_MODE ∧ status1 (after (.linkControl 1 0) (linkMsg 3 s)) = stWRONG_MODE ∧
      (after (.linkControl 1 0) (linkMsg 1 s)).linkState 1 = 1 ∧ (after (.linkControl 1 0) (linkMsg 4 (linked 1 s))).linkState 1 = 2 ∧
      status1 (after (.linkControl 1 0) (linkMsg 3 (s.wr (F.LNK_STATUS_STATE 1) 2))) = stBUSY := by decide +kernel
def eqPl (lane act : Nat) : List Byte := leBytes 4 1 ++ leBytes 1 0 ++ leBytes 1 lane ++ leBytes 1 act ++ [0] ++ leBytes 4 0x1234567
theorem witness_linkEq : (expert (up 10) 0x8E (eqPl 2 2)).Asks 0 0 0x8E 2 1 (eqPl 2 2) ∧ (expert (up 10) 0x8E (eqPl 1 1)).Asks 0 0 0x8E 2 1 (eqPl 1 1) ∧
    (expert (up 10) 0x8E (eqPl 0 0)).Asks 0 0 0x8E 2 1 (eqPl 0 0) ∧ (up 10).on (F.LEC_STATUS_RUNNING 0) = false ∧
    (after (.linkEq 0 0 1 1) (expert (up 10) 0x8E (eqPl 1 1))).get (R.LNK_EQ_F1 0) = 0x234567 ∧
    ([up 10, linked 0 (up 10)].map fun s => ((after (.linkEq 0 0 1 1) (expert s 0x8E (eqPl 2 1))).ch 0).link.backTx.head?) = [some 0, some 0x67] ∧
    status0 (after (.linkEq 0 0 1 1) (expert ((up 10).wr (F.LEC_STATUS_RUNNING 0) 1) 0x8E (eqPl 2 2))) = stBUSY := by
  refine ⟨asks0_of ?_ ?_, asks0_of ?_ ?_, asks0_of ?_ ?_, ?_⟩ <;> decide +kernel
def rollPl (khz : Nat) : List Byte := leBytes 1 3 ++ [0] ++ leBytes 2 khz
theorem witness_rollCall : let s := mail1 (up 3) 0x14 (rollPl 1000)
    s.Asks 1 0 0x14 0 1 (rollPl 1000) ∧ (mail1 (up 3) 0x14 (rollPl 0)).Asks 1 0 0x14 0 1 (rollPl 0) ∧ 36 ≤ s.maxPay 1 ∧
      s.rd (F.CHN_STATUS_STATE 0) = 0 ∧ s.rd (F.CHN_STATUS_STATE 1) = 0 ∧
      status1 (after (.chainRollcall 1 0 []) (s.wr (F.CHN_STATUS_STATE 1) 2)) = stBUSY := by
  refine ⟨asks_of ?_, asks_of ?_, ?_⟩ <;> decide +kernel
def resetPl (target id v : Nat) : List Byte := leBytes 1 target ++ leBytes 1 id ++ leBytes 2 (if target = 1 then v else 0) ++ leBytes 2 (if target = 2 then v else 0)
def resetMsg (target id v : Nat) (s : State) : State := mail1 s 0x16 (resetPl target id v)
theorem witness_resetFunction : let s := up 3
    (resetMsg 1 0 0x9480 s).Asks 1 0 0x16 0 1 ([1, 0] ++ leBytes 2 0x9480 ++ [0, 0]) ∧ (resetMsg 2 0 1000 s).Asks 1 0 0x16 0 1 ([2, 0, 0, 0] ++ leBytes 2 1000) ∧
      (resetMsg 0 11 0 s).Asks 1 0 0x16 0 1 ([0] ++ leBytes 1 11 ++ [0, 0, 0, 0]) ∧ s.on F.RST_WDT_CFG_ARMED = false ∧
      (State.resetBits 12).isSome = true ∧ State.resetBits 255 = none ∧ s.resetIdle 12 = true ∧ (running 0).resetIdle 16 = false ∧
      (after (.resetFunction 1 0) (resetMsg 1 0 0x9480 s)).rst.device = true ∧ (after (.resetFunction 1 0) (resetMsg 2 0 1000 s)).rd F.RST_WDT_CFG_TIMEOUT = 1000 ∧
      status1 (after (.resetFunction 1 0) (resetMsg 0 16 0 (running 0))) = stWRONG_MODE ∧
      (after (.resetFunction 1 0) (resetMsg 0 12 0 s)).rst.softTag.length = 1 := by
  refine ⟨asks_of ?_, asks_of ?_, asks_of ?_, ?_⟩ <;> decide +kernel
def loopPl (act kind : Nat) : List Byte :=
  leBytes 1 2 ++ leBytes 1 3 ++ leBytes 1 act ++ leBytes 1 kind ++ leBytes 4 1000 ++ leBytes 2 176 ++
    [0, 0] ++ (([1, 2, 3, 4] : List Word).map fun w => leBytes 4 w.toNat).flatten ++ [0, 0]
def loopMsg (act kind : Nat) (s : State) : State := mail1 s 0x17 (loopPl act kind)
theorem witness_setLoop : let s := up 3
    ([(0, 0), (1, 0), (3, 0), (2, 3)].all fun (a, k) => asksB (loopMsg a k s) 1 0x17 0 (loopPl a k)) = true ∧ s.destShared 2 3 = false ∧
      s.bistNames 4 false = false ∧ s.tutorIdle 2 = true ∧ (s.wr (F.TUT_CTXc_CTRL_EN 2 3) 1).tutorIdle 2 = false ∧
      (after (.setLoop 1 0) (loopMsg 3 0 s)).get (R.TUT_CTXc_REFi 2 3 3) = 4 ∧
      status1 (after (.setLoop 1 0) (loopMsg 2 3 (s.wr (F.TUT_CTXc_CTRL_EN 2 0) 1))) = stBUSY := by decide +kernel
def tracePl : List Byte := leBytes 4 1 ++ leBytes 1 0 ++ leBytes 1 3 ++ leBytes 1 2 ++ leBytes 1 255 ++ leBytes 2 8192 ++ leBytes 2 0x0110 ++ leBytes 4 0x60402000
def injectPl (node sig : Nat) : List Byte := leBytes 4 1 ++ leBytes 1 0 ++ leBytes 1 3 ++ leBytes 1 node ++
  leBytes 1 sig ++ leBytes 4 1 ++ leBytes 4 2 ++ leBytes 4 3 ++ leBytes 4 4 ++ leBytes 2 0 ++ leBytes 1 0 ++ [0]
def traceReadPl (first count : Nat) : List Byte := leBytes 4 1 ++ leBytes 1 0 ++ [0] ++ leBytes 2 first ++ leBytes 2 count
theorem witness_tuning : let s := up 10
    (expert s 0x89 tracePl).Asks 0 0 0x89 2 1 tracePl ∧ (List.range 4).all (fun i => State.nodeOk (0x60402000 / 256 ^ i % 256)) = true ∧
      (expert s 0x8A (injectPl 0x20 3)).Asks 0 0 0x8A 2 1 (injectPl 0x20 3) ∧ State.nodeOk 0x20 = true ∧
      (expert s 0x8B (traceReadPl 8190 2)).Asks 0 0 0x8B 2 1 (traceReadPl 8190 2) ∧ 12 + 4 * 2 ≤ s.maxPay 0 ∧
      (after (.traceSetup 0 0) (expert s 0x89 tracePl)).rd (F.TUT_TRC_STATUS_STATE 0) = 1 ∧
      (after (.injectSetup 0 0) (expert s 0x8A (injectPl 0x20 3))).get (R.TUT_INJ_DUR 0) = 4 ∧
      status0 (after (.traceRead 0 0) (expert s 0x8B (traceReadPl 8190 2))) = stOK := by
  refine ⟨asks0_of ?_ ?_, ?_, asks0_of ?_ ?_, ?_, asks0_of ?_ ?_, ?_⟩ <;> decide +kernel
def matrixPl (ws : List Word) : List Byte := leBytes 4 1 ++ leBytes 1 0 ++ leBytes 1 3 ++ leBytes 1 5 ++ [0] ++ leBytes 1 2 ++
  leBytes 1 2 ++ [0, 0] ++ (ws.map fun w => leBytes 4 w.toNat).flatten
theorem witness_matrix : let s := up 10
    let pl := matrixPl [1, 2, 3, 4]
    (expert s 0x8C pl).Asks 0 0 0x8C 2 1 pl ∧ matAgrees (s.ctx 0 3).loaded 5 2 2 = true ∧ s.tutorIdle 0 = true ∧
      (after (.loopLoadMatrix 0 0) (expert s 0x8C pl)).get (R.TUT_CTXc_MAT 0 3 ((matPlace 5).1 + (matPlace 5).2)) = 3 ∧
      status0 (after (.loopLoadMatrix 0 0) (expert (s.wr (F.TUT_CTXc_CTRL_EN 0 1) 1) 0x8C pl)) = stBUSY := by
  refine ⟨asks0_of ?_ ?_, ?_⟩ <;> decide +kernel

/-! #### Supply, clocks, resets, boot -/

/-- SupplyAndStandby: a released channel with a node, the park it owes, wake sources in each phase. -/
def inPhase (p : Stby) (s : State) : State := { s with aon := { s.aon with phase := p } }
theorem witness_supply : let s := (up 4).modRst fun r => { r with released := 9 }
    let p := after .pwrWarnFall s
    s.sys.pwrLow = false ∧ s.mode ≠ modeSCANTEST ∧ s.mode ≠ modeSTANDBY ∧ s.mode ≠ modeCALIBRATE ∧ bit s.rst.released 3 = true ∧ s.nodeType 3 ≠ 3 ∧
      p.sys.park.map (·.mask) = some 9 ∧ (p.ch 3).fieldDark = true ∧ bit (p.parkOwes ⟨0, 0, 0, 0, 9, 0, 0⟩) 3 = true ∧ p.sys.transit = none ∧
      (after .parkTimeout p).mode = modeDARKHOLD ∧ (up 11).parkOwes ⟨0, 0, 3, 0, 0, 0, 0⟩ = 0 ∧ (after .pwrWarnFall (up 1)).sys.pwrLow = true ∧ (after .pwrWarnRise p).sys.pwrLow = false := by decide +kernel
theorem witness_wake : let s := inPhase .lowDone ((up 1).put R.AON_WAKE_CFG 0xFFFF)
    bit (s.get R.AON_WAKE_CFG) 1 = true ∧ bit (s.get R.AON_WAKE_CFG) 5 = true ∧ s.on F.AON_WAKE_CFG_HSPI_EN = true ∧
      (after (.wakePin 1) s).aon.phase = .waking ∧ bit ((after (.wakeCanPattern 1) s).get R.AON_WAKE_STATUS) 3 = true ∧
      (after .wakeHspi (inPhase .low s)).aon.wakes = 16 ∧ (after .wakeTimer (inPhase .awake s)).aon.wakes = 0 ∧
      (after .standbyMinLowExpiry (after .wakeTimer (inPhase .low s))).aon.phase = .waking ∧
      (after .standbyMinLowExpiry (inPhase .low s)).aon.phase = .lowDone ∧ (after .coreSupplyGood (inPhase .waking s)).mode = modeBOOT ∧
      (after .pmicTimeout (inPhase .waking s)).aon.supplyLate = true ∧ (inPhase .waking s).aon.wakeTick = s.tb.toNat ∧
      bit ((after (.wakePin 0) (inPhase .waking s)).get R.AON_WAKE_STATUS) 0 = true := by decide +kernel
/-- ClocksAndSpeed. -/
theorem witness_clocks : let s := up 3
    let x := after .crystalSwitch s
    let l := s.wr (F.SYS_PLL_STATUS_ON) 1
    s.aon.vaonGood = true ∧ s.aon.crystal = false ∧ x.aon.crystal = true ∧ (after .crystalStop x).aon.crystal = false ∧
      l.pllOn 0 = true ∧ l.pllLocked 0 = false ∧ (after (.pllLock 0) l).pllLocked 0 = true ∧
      (after (.pllLockLoss 0) (after (.pllLock 0) l)).pllLocked 0 = false ∧ (after (.pllStop 8) l).pllOn 8 = false ∧
      (after (.clockEnableWrite 7 0x02000000) s).clkOn 249 = true ∧ pllOf 249 = some 0 ∧ (after (.pllLock 0) l).aon.refOn = true := by decide +kernel
/-- ClocksAndSpeed: the last DRAM domain becomes good; a negotiation waits for the lock of LPLL1. -/
theorem witness_clockGood : let s := (((up 2).wr F.SYS_PLL_STATUS_ON 0x2C).wr F.SYS_PLL_STATUS_LOCK 0x0C).wr F.RST_STATUS_PHASE 6
    let t := (((s.put (R.SYS_CLKENk 6) 0xFFFF0000).put (R.SYS_CLKGOODk 6) 0xFFFE0000))
    let n := ((up 3).wr F.SYS_PLL_STATUS_ON 0x3F).modLink 1 fun l => { l with neg := some ⟨false, true, 8, [], 0, 0, 0, false, [], [], 0, none⟩ }
    pllOf 208 = some 2 ∧ t.clkOn 208 = true ∧ t.pllLocked 2 = true ∧ t.clkGood 208 = false ∧ t.rst.cpu = .running ∧ t.rst.lecWait = 0 ∧
      (after (.clockGood 208) t).rd F.RST_STATUS_PHASE = 7 ∧ n.pllLocked 5 = false ∧
      ((after (.pllLock 5) n).neg 1).map (·.step) = some 1 := by decide +kernel
theorem witness_speed : let s := up 3
    let at3 := s.modSys fun y => { y with speed := some ⟨1, 3, 0⟩ }
    let both := ((after .dramDrainComplete at3).wr F.SYS_PLL_STATUS_ON 0x0C).wr F.SYS_PLL_STATUS_LOCK 8
    s.runMask = 0 ∧ s.committed = 0 ∧ (after .dramDrainComplete at3).sys.speed = some ⟨3, 3, 0⟩ ∧
      (after .dramDrainComplete (s.modSys fun y => { y with speed := some ⟨2, 0, 0⟩ })).sys.speed = none ∧
      both.pllOn 2 = true ∧ both.pllLocked 2 = false ∧ both.pllLocked 3 = true := by decide +kernel
theorem witness_advisory : let s := (up 3).modSys fun y => { y with advArm := 8, marginLow := true }
    s.fwRuns = true ∧ bit s.sys.advArm 3 = true ∧ s.advised 4 = true ∧ sget (fun _ => 0) s.sys.advTick 4 = 0 ∧
      sget (fun _ => 0) (after (.degradeAdvisory 4) s).sys.advTick 4 = 1 ∧ (up 3).advised 5 = false := by decide +kernel
/-- PowerOnAndResets, WatchdogActs. -/
theorem witness_resets : let s := (up 4).wr F.RST_STATUS_PHASE 0
    s.aon.coreGood = true ∧ s.aon.vaonGood = true ∧ s.aon.phase = .awake ∧ (after (.powerOn 2 true) s).rd F.RST_STATUS_PHASE = 1 ∧ (after (.powerOn 2 true) s).evr.fifo.length = 2 ∧
      (after .aonRelease (after (.powerOn 2 true) s)).rd F.RST_STATUS_PHASE = 2 ∧ (after .vddCoreGood { s with pins := { s.pins with isolated := true } }).pins.isolated = false ∧
      bit ((after .vddCoreBrownOut s).get R.RST_CAUSE) 1 = true ∧ (after .resetNPulse s).mode = modeBOOT ∧
      bit ((after (.deviceReset 0x19480) s).get R.RST_CAUSE) 6 = true ∧ (after (.deviceReset 0x9480) s).mode = 4 ∧
      (after .deviceResetDelay (s.modRst fun r => { r with device := true })).mode = modeBOOT := by decide +kernel
theorem witness_watchdog : let s := after (.watchdogArm 0x800003E8) (up 4)
    (up 4).on F.RST_WDT_CFG_ARMED = false ∧ s.on F.RST_WDT_CFG_ARMED = true ∧ s.rd F.RST_WDT_CFG_TIMEOUT = 1000 ∧ s.mode ≠ modeSCANTEST ∧
      s.aon.phase = .awake ∧ (after .watchdogKick { s with tb := 77 }).rst.wdtTick = 77 ∧ (after (.watchdogArm 1) s).rd F.RST_WDT_CFG_TIMEOUT = 1000 ∧
      withinMs (s.tb.toNat - s.rst.wdtTick) 1000 = true ∧
      withinMs 40000 1000 = false ∧ bit ((after .watchdogExpiry { s with tb := 40000 }).get R.RST_CAUSE) 4 = true := by decide +kernel
/-- SoftResets. -/
theorem witness_softReset : let s := up 3
    let w := (s.put (R.RST_BLK_CTRLk 0) 0x1000).modRst fun r => { r with softTag := [(0, 0x1000, ⟨1, 5, 0x16, 3, false⟩)] }
    let w := w.modPort 1 fun q => { q with seqs := [(5, some ⟨3, []⟩)] }
    let p := (s.wr F.RST_STATUS_RELEASE_PENDING 1).wr F.RST_STATUS_PEND_DOMAIN 208
    bit ((after (.softReset 3 0x1000) s).get (R.RST_BLK_CTRLk 3)) 12 = true ∧ (after (.softReset 4 8) (s.dwrite 64 [5])).dbyte 64 = (if dramCh 64 = 1 then 0 else 5) ∧
      sget (fun _ => none) (w.port 1).seqs 5 = some ⟨3, []⟩ ∧
      (after (.softResetRelease 0 0x1000) w).rst.softTag = [] ∧ (after (.softResetRelease 0 0x1000) w).get (R.RST_BLK_CTRLk 0) = 0 ∧
      ((after .releasePendingTimeout p).evr.fifo.map fun q => (q.code, q.a)) = [(0x205, 208)] ∧ (after .releasePendingTimeout s).evr.fifo = [] := by
  decide +kernel
/-- BootRomSteps, BootSteps. -/
theorem witness_bootRom : let s := ((up 2).wr F.RST_STATUS_PHASE 2).modRst fun r => { r with cpu := .bootRom }
    s.rd F.RST_STATUS_PHASE = 2 ∧ s.aon.coreGood = true ∧ s.rst.cpu = .bootRom ∧ s.linkUp 0 = false ∧ (linked 0 s).linkUp 0 = true ∧
      (after (.optionLoadingComplete 7 0 true 0xFFFF true) s).get R.RST_OPT % 8 = 7 ∧
      (after (.optionLoadingComplete 0 0 true 0 false) s).mode = modeSCANTEST ∧ s.slotTry 0 = 0 ∧ s.imageReason (s.slotByte 0) = 1 ∧ (after (.imageSlotCheck 5 false) s).fw.flashModes = 5 ∧
      (after (.imageSlotCheck 0 false) s).rst.tried = 1 ∧ (after (.imageSlotCheck 0 true) (after (.imageSlotCheck 0 false) s)).rst.cpu = .noImage := by decide +kernel
/-- BootRomSteps: a header of SEC_VER 1 and LENGTH 0 in slot 0, signed with ECDSA P-256 over its SHA-256 outside the model (R76). -/
def signed0 : State := ((up 2).wr F.RST_OPT_OTP_OK 1).modFw fun w =>
  { w with otpKeys := w.otpKeys.set 0 0x8a291ea317a7bb1a755a4fd4bf33890a5f6dd5c4de744db15b12748eedaefc2b,
           image := ssets State.flashReset [] 0 (leBytes 256 0x480f5b0a319c686d692e7f62d699e1d3284bedc9c7d6a4a90c0c362a2d9da8a57fa910c89522df3be16bdeced6c45467fadc3e8924110ca0f8f2675cea12cdd8f852fef07630eef3438586241d8d39df1b5ca90a457cd5f974aa77fed5fa54581ca2854ac47913ddd33b95df24b4ad49ebb8281051db3394937c4dd51a57195a00000000000000000000000000000000000000000000000000000000000000000000030200000001000000010000000000000000000000000000000156424d31) }
theorem witness_image : signed0.imageReason (signed0.slotByte 0) = 0 := by decide +kernel
theorem witness_imageOk : let s := ((signed0.wr F.RST_STATUS_PHASE 5).modRst fun r => { r with cpu := .bootRom, tried := 1 })
    s.slotTry s.rst.tried = 0 ∧ s.clkGood 227 = false ∧ ((List.range 4).all fun i => (s.put (R.SYS_CLKGOODk 7) 0x78).clkGood (227 + i)) = true := by decide +kernel
theorem witness_boot : let s := (up 2).wr F.RST_STATUS_PHASE 7
    let d := (s.modRst fun r => { r with dramUp := 3 }).modFw fun w => { w with store := [⟨0xFC, 1, ⟨5, 1, 3, crc32 [1, 2, 3], 0⟩, [1, 2, 3]⟩] }
    s.fwRuns = true ∧ s.mode = modeBOOT ∧ bit s.rst.dramUp 1 = false ∧ s.sys.bell = none ∧ d.rst.dramUp = 3 ∧ d.rst.assetsUp = false ∧
      s.rst.rollDone = false ∧ s.bootPorts = [] ∧ s.bootReady = false ∧ (s.modRst fun r => { r with dramUp := 3 }).bootReady = true ∧
      (d.fw.store.all fun r => crc32 r.data == r.asset.crc) = true ∧ (after (.bootRollCall []) s).rst.rollDone = true := by decide +kernel
/-- A stored configuration with BOOT_LIGHT for channel 0 and its pattern: 1 × 8 pixels. -/
def pattern : List Byte :=
  let rest := leBytes 4 20 ++ (List.replicate 8 [200, 0]).flatten
  leBytes 2 0x4C46 ++ leBytes 2 1 ++ leBytes 2 8 ++ leBytes 2 1 ++ leBytes 4 36 ++ leBytes 4 (crc32 rest) ++ rest
def lightCopy : Stored := ⟨1, 0x9480C201, 0x0302, true, true, 1, [1, 1], [], Four.all [], Stage.reset, [], Four.all none, Four.all 0⟩
def bootLamp (rate : Nat) : State := linked 0 (((up 2).wr F.RST_STATUS_PHASE 7).modFw fun w => { w with
  copies := ⟨some lightCopy, none⟩, store := [⟨0xFC, 1, ⟨1000, 4, 36, crc32 pattern, 0⟩, pattern⟩], stage :=
    ({ w.stage with timing := w.stage.timing.set 0 ([1, 1, 1, 0] ++ leBytes 2 64 ++ leBytes 2 8 ++ leBytes 2 rate ++ [0, 0]) }).setFld
      (F.SRC_DERATE_CFG_ARMED 0) 1 })
theorem witness_bootLight : let s := bootLamp 12000
    let m := s.fw.act.merge s.fw.stage 1 false
    s.fwRuns = true ∧ s.mode = modeBOOT ∧ s.bootLit 0 = true ∧ bit s.rst.tail 0 = false ∧ s.linkUp 0 = true ∧ (s.storedPattern 0).isSome = true ∧
      s.sys.pwrLow = false ∧ m.fld (F.SRC_DERATE_CFG_ARMED 0) ≠ 0 ∧ m.timed 0 = true ∧ s.rejectReason m 1 false s.profileNow = 0 ∧
      bit s.rst.released 0 = false ∧ (after (.bootLightStart 0) s).on F.RST_STATUS_RELEASE_PENDING = true ∧ s.clkGood 0 = false := by decide +kernel
theorem witness_bootLight_refused : let s := bootLamp 24001
    let m := s.fw.act.merge s.fw.stage 1 false
    s.bootLit 0 = true ∧ (s.storedPattern 0).isSome = true ∧ m.timed 0 = true ∧ s.rejectReason m 1 false s.profileNow ≠ 0 := by decide +kernel

/-! #### Calibration, recorder, Fire Drill -/

def calMask (mask act fl : Nat) (s : State) : State := mail1 s 0x0E (leBytes 2 mask ++ leBytes 1 act ++ leBytes 1 fl)
/-- CalibrationCommands: a query, a run, a run while another is due; MEASURE and SELECT of item 2 on a link that is up; a waiting SELECT. -/
theorem witness_runCalibration : let s := up 3
    (calMask 0x2001 1 0 s).Asks 1 0 0x0E 0 1 (leBytes 2 0x2001 ++ leBytes 1 1 ++ leBytes 1 0) ∧
      (calMask 0x2001 0 1 s).Asks 1 0 0x0E 0 1 (leBytes 2 0x2001 ++ leBytes 1 0 ++ leBytes 1 1) ∧
      (mail0 s 0x0E 0 ([1, 0, 1, 0])).Asks 0 0 0x0E 0 1 (leBytes 2 1 ++ leBytes 1 1 ++ leBytes 1 0) ∧ 4 + 12 * 14 ≤ s.maxPay 0 ∧ s.rd F.CAL_DUE_CMD = 0 ∧
      s.cal.tag = none ∧ s.cal.pass = none ∧ (after (.runCalibration 1 0) (calMask 0x2001 0 1 s)).rd F.CAL_DUE_CMD = 0x2001 ∧
      status1 (after (.runCalibration 1 0) (calMask 0x2001 0 1 (s.wr F.CAL_DUE_CMD 1))) = stBUSY := by
  refine ⟨asks_of ?_, asks_of ?_, asks0_of ?_ ?_, ?_⟩ <;> decide +kernel
def calPl (i act e : Nat) : List Byte := leBytes 4 1 ++ leBytes 1 i ++ leBytes 1 act ++ leBytes 1 e ++ [0] ++ [0, 0, 0, 0]
def selecting : State := ((up 10).modPort 0 fun q => { q with seqs := [(0, some ⟨5, []⟩)] }).modCal fun c => { c with stepTag := some (⟨0, 0, 0x88, 5, false⟩, 0, 1, 0xA9) }
theorem witness_calStep : let s := up 10
    (expert s 0x88 (calPl 0 0 0xAA)).Asks 0 0 0x88 2 1 (calPl 0 0 0xAA) ∧ (expert s 0x88 (calPl 0 1 0xAA)).Asks 0 0 0x88 2 1 (calPl 0 1 0xAA) ∧
      State.calElemOk 0 0xAA = true ∧ sget (fun _ => none) (selecting.port 0).seqs 0 = some ⟨5, []⟩ ∧ selecting.sysStill 7 = false ∧ s.cal.run = none ∧ s.cal.stepTag = none ∧ s.calUnmet 0 true = 0 ∧ 16 ≤ s.maxPay 0 ∧
      (after (.calStep 0 0 0x500000004) (expert s 0x88 (calPl 0 0 0xAA))).get (R.CAL_Ii_TAKE2 0) = 5 ∧
      (after (.calStep 0 0 0) (expert s 0x88 (calPl 0 1 0xAA))).cal.stepTag.isSome = true ∧
      (after .calRecessApply selecting).rd (F.CAL_Ii_CARD_ELEMENT 0) = 0xA9 ∧ status0 (after .calStepTimeout selecting) = stTIMEOUT := by
  refine ⟨asks0_of ?_ ?_, asks0_of ?_ ?_, ?_⟩ <;> decide +kernel
/-- CalibrationEngine: a run of item 1, its first take, its third pair that disagrees, an unmet item. -/
def calRun (i pair : Nat) (first : Option (List Nat × Nat)) (s : State) : State :=
  s.modCal fun c => { c with run := some ⟨i, false, false, pair, first, none, none, 0, 0, 0, 0, 10, 5, 0, none⟩ }
theorem witness_calEngine : let s := up 3
    let a := [1, 9, 9, 9, 9, 9, 9, 9]
    let b := [9, 1, 9, 9, 9, 9, 9, 9]
    let third := calRun 1 3 (some (a, 0)) s
    let late := { calRun 2 1 none s with tb := 1000000 }
    s.aon.phase = .awake ∧ s.pins.isolated = false ∧ s.fwRuns = true ∧ s.on F.CAL_CTRL_AUTO = true ∧ (s.wr F.CAL_CTRL_AUTO 0).on F.CAL_CTRL_AUTO = false ∧
      s.calUnmet 1 false = 0 ∧ withinMs 0 100 = true ∧ s.calPartner 1 = 0 ∧ calBestOf 1 a ≠ calBestOf 1 b ∧
      (after (.sensorConversion 3 0xFFFF) s).rd (F.CAL_TEMPs_T 3) = 0xFFFF ∧
      (after (.calTakeComplete [7, 9]) (calRun 1 1 none s)).cal.run = some ⟨1, false, false, 1, some ([7, 9], 0), none, none, 0, 0, 0, 0, 10, 5, 0, none⟩ ∧
      (after (.calTakeComplete b) third).rd (F.CAL_Ii_CARD_RESULT 1) = 1 ∧ late.calUnmet 2 false ≠ 0 ∧
      withinMs 1000000 (100 * 10) = false ∧ s.sysStill 7 = false ∧ s.stood 243 243 = false ∧ (after .calDeferExpiry late).rd (F.CAL_Ii_CARD_RESULT 2) = 2 := by decide +kernel
/-- RequestsAndRecords: an event above both thresholds; a record for an empty log, a repeat of it; a full log under either policy. -/
def oneReq (sev tick : Nat) : State := { up 3 with evr := { (up 3).evr with fifo := [⟨0x101, sev, 1, 2, tick, 0, true⟩] } }
theorem witness_records : let t := after .eventRecordWrite (oneReq 1 0)
    let again : State := ({ t with evr := { t.evr with fifo := [⟨0x101, 1, 1, 2, 5, 0, true⟩] } }).wr F.EVR_CFG_WINDOW 100
    (up 3).rd F.EVR_CFG_IRQ_SEV ≤ 7 ∧ (up 3).rd F.EVR_CFG_FAULT_SEV ≤ 7 ∧ (after (.eventRequest 0x70101 7 1 2 0) (up 3)).rd F.EVR_FAULT_CODE = 0x101 ∧
      (oneReq 1 0).evr.clearing = none ∧ (oneReq 1 0).evr.drill = none ∧ (oneReq 1 0).emptySlot = some 0 ∧ t.slotCode 0 = 0x101 ∧
      again.repeats ⟨0x101, 1, 1, 2, 5, 0, true⟩ = true ∧ (oneReq 1 0).repeats ⟨0x101, 1, 1, 2, 0, 0, true⟩ = false ∧ (oneReq 1 0).stood 233 233 = false ∧
      State.blockBase 11 = some (State.canBase 0) ∧ State.blockBase 0 = none := by decide +kernel
/-- Slots 0 to k − 1 hold a record of severity 0. -/
def filled (s : State) : Nat → State
  | 0 => s
  | k + 1 => (filled s k).put (recWord k 0) 1
theorem filled_get (s : State) (k a : Nat) : (filled s k).get a = if ∃ j, j < k ∧ a = recWord j 0 then 1 else s.get a := by
  induction k with
  | zero => simp [filled]
  | succ k ih =>
    rw [filled, State.get_put, ih]
    by_cases h : a = recWord k 0
    · have : ∃ j, j < k + 1 ∧ a = recWord j 0 := ⟨k, by omega, h⟩
      exact (if_pos h).trans (if_pos this).symm
    · rw [if_neg h]
      congr 1
      apply propext
      exact ⟨fun ⟨j, hj, e⟩ => ⟨j, by omega, e⟩, fun ⟨j, hj, e⟩ => ⟨j, by rcases Nat.lt_succ_iff_lt_or_eq.mp hj with h' | h'; exact h'; exact absurd (h' ▸ e) h, e⟩⟩
theorem witness_fullLog (s : State) (p : Nat) :
    ((filled s 2048).wr F.EVR_CFG_POLICY p).emptySlot = none ∧ ((filled s 2048).wr F.EVR_CFG_POLICY p).lowSev ≤ 7 ∧
      ((filled s 2048).wr F.EVR_CFG_POLICY 1).on F.EVR_CFG_POLICY = true ∧ ((filled s 2048).wr F.EVR_CFG_POLICY 0).on F.EVR_CFG_POLICY = false := by
  refine ⟨?_, ?_, by rw [State.on, State.rd_wr _ _ (by decide)]; decide, by rw [State.on, State.rd_wr _ _ (by decide)]; decide⟩
  · rw [State.emptySlot, List.find?_eq_none]
    intro k hk
    have h : k < 2048 := by simpa [slots] using hk
    have e : ∃ j, j < 2048 ∧ recWord k 0 = recWord j 0 := ⟨k, h, rfl⟩
    have n : recWord k 0 ≠ (F.EVR_CFG_POLICY).addr := by simp only [recWord, F.EVR_CFG_POLICY, R.EVR_CFG]; omega
    simp only [State.slotCode, State.get_wr_ne _ _ n, filled_get, e, if_true]
    decide
  · rw [State.lowSev]
    generalize slots = l
    suffices ∀ v, v ≤ 7 → l.foldl (fun v k => min v (((filled s 2048).wr F.EVR_CFG_POLICY p).slotSev k)) v ≤ 7 from this 7 (by decide)
    induction l with
    | nil => exact fun v h => h
    | cons k l ih => exact fun v h => ih _ (Nat.le_trans (Nat.min_le_left _ _) h)

/-- FaultAndDrill: GO in SERVICE with and without its precondition, outside SERVICE, during a drill; a lost-entry report. -/
theorem witness_drill : let s := (((up 10).modMbx fun m => { m with grants := [⟨1, 0, 1000000⟩], issued := [1] }).wr F.EVR_DRILL_CFG_KIND 9).wr F.EVR_DRILL_CFG_PARAM 3
    let t := after (.drillGo 1) s
    let l : State := { up 3 with evr := { (up 3).evr with lost := 70000 } }
    s.mode = modeSERVICE ∧ s.evr.drill = none ∧ s.drillReady 9 0 3 = true ∧ (State.drillBlocks 9 0 3).all s.granted = true ∧ (up 10).drillReady 8 3 0 = false ∧
      t.evr.drill.isSome = true ∧ pastMs 3300 100 = true ∧ pastMs 3000 100 = false ∧ (after .drillDeadline { t with tb := 3300 }).rd F.EVR_DRILL_STATUS_STATE = 3 ∧
      ((after (.drillGo 1) t).evr.fifo.map fun q => (q.code, q.b)) = [(0x7F10, 0), (0x7F20, 0), (0x7F11, 3)] ∧ (after (.drillGo 1) (up 3)).evr.drill = none ∧
      l.fwRuns = true ∧ l.evr.fwq.length < 32 ∧ (after .fwQueueOverflowReport l).evr.lost = 0 ∧
      (after (.logClearRequest 1) (up 3)).on F.EVR_STATUS_CLEARING = true ∧ (after (.processorHalt 1) (up 3)).rst.cpu = .halted ∧
      (after (.faultReleaseWrite 1) { up 3 with pins := { (up 3).pins with faultLow := true } }).pins.faultLow = false := by decide +kernel

/-! #### DRAM, test access -/

/-- A DRAM channel in RUN. -/
def dram (ch : Duo) : State := ((up 3).wr (F.DMC_STATUS_STATE ch) 3).wr (F.DMC_CTRL_RUN ch) 1
/-- DramTraffic: a burst inside and one outside DRAM, a refresh owed, a clean read, alerts. -/
theorem witness_dram : let s := dram 0
    let r : DmcReq := ⟨2, 0x100000000, false, 64, 0, false, 0⟩
    let fl := s.modDmc 0 fun d => { d with flight := [r] }
    let owed := s.modDmc 0 fun d => { d with refOwed := true }
    let al := (s.wr (F.DMC_CFG_PARITY_EN 0) 1).modDmc 0 fun d => { d with recent := [⟨2, 0, 0⟩] }
    s.dramStill 0 = false ∧ (s.put R.RST_BLK_CTRL4 4).dramStill 0 = true ∧ s.dramHit 0x100000000 = true ∧ s.dramHit 0 = false ∧ dramCh 0x100000000 = 0 ∧ 0x100000000 % 64 + max 1 64 ≤ 64 ∧
      (after (.dramRequest 2 0x100000000 false 64) s).dmc.a0.queue.length + (after (.dramRequest 2 0x100000000 false 64) s).dmc.a0.wait.length = 1 ∧
      ((after (.dramRequest 2 0 false 64) s).evr.fifo.map EvReq.code) = [0x6006 + 256 * (dramCh 0).val] ∧
      s.poisoned r.addr = false ∧ (fl.dmc.get 0).flight = [r] ∧ s.rd (F.DMC_STATUS_STATE 0) = 3 ∧ s.on (F.DMC_CTRL_RUN 0) = true ∧ (owed.dmc.get 0).refOwed = true ∧
      s.runMask = 0 ∧ (chans.all fun n => !(s.ch n).composing && !s.loading n) = true ∧ (after (.zqcsDue 0) s).dmc.a0.zqOwed = true ∧
      (al.dmc.get 0).recent ≠ [] ∧ (al.dmc.get 0).parityRun < 2 ∧ (after (.alertPulse 0 24) al).dmc.a0.parityRun = 1 ∧
      (after (.selfRefreshIdle 0) s).rd (F.DMC_STATUS_STATE 0) = (if s.rdA (F.DMC_SR_IDLE_US 0) = 0 then 3 else 4) := by decide +kernel
def trainPl (step : Nat) : List Byte := leBytes 4 1 ++ leBytes 1 1 ++ leBytes 1 step ++ leBytes 1 0 ++ [0] ++ leBytes 2 1 ++ [0, 0]
/-- DramControl: holds, a pattern run, DRAM_TRAIN_STEP. -/
theorem witness_dramControl : let s := dram 1
    let held := after (.holdSelfRefreshWrite 1 3) s
    let p := s.wr (F.PHY_PAT_STATUS_BUSY 1) 1
    held.rd (F.DMC_STATUS_STATE 1) = 5 ∧ (after (.holdSelfRefreshWrite 1 1) held).rd (F.DMC_STATUS_STATE 1) = 3 ∧
      (after (.holdSelfRefreshWrite 1 0) s).rd (F.DMC_STATUS_STATE 1) = 0 ∧ (s.on (F.PHY_PAT_CFG_WRITE 1) = false) ∧
      (after (.patternRunDone 1 [70000]) p).rd (F.PHY_CMPb_COUNT 1 0) = 65535 := by decide +kernel
theorem witness_trainStep : (expert (up 10) 0x87 (trainPl 6)).Asks 0 0 0x87 2 1 (trainPl 6) ∧ 0 ≤ (up 10).rd (F.DMC_CFG_RANKS2 1) ∧
    40 ≤ (up 10).maxPay 0 ∧ (up 10).runMask = 0 ∧ (running 0).runMask ≠ 0 ∧
    status0 (after (.dramTrainStep 0 0 []) (expert ((up 10).wr (F.LEC_STATUS_RUNNING 0) 1) 0x87 (trainPl 6))) = stBUSY := by
  refine ⟨asks0_of ?_ ?_, ?_⟩ <;> decide +kernel
/-- TapInstructions: lock levels 0 and 2, SCAN-TEST and functional mode. -/
theorem witness_tap : let s := up 3
    let locked := s.wr F.RST_OPT_JTAG_LOCK 2
    let scan := s.wr F.TST_STATUS_SCAN 1
    s.aon.vaonGood = true ∧ s.tapLevel = 0 ∧ locked.tapLevel = 2 ∧ (after .tapIdcode s).tap.shift = 0x294801CB ∧
      (after .tapExtest scan).tap.drive = 1 ∧ (after .tapExtest s).tap.ir = 0xFF ∧ (after (.tapEvrRead none) locked).tap.refused = true ∧
      (after (.tapEvrRead (some 2047)) s).tap.slot = 2047 ∧ (after (.tapEvrRead none) (after (.tapEvrRead (some 2047)) s)).tap.slot = 0 ∧
      (after (.tapEvrClear 0x9480) s).evr.clearing.isSome = true ∧ (after (.tapEvrClear 1) s).tap.key = 1 ∧
      (after (.tapFactory 0x20) locked).tap.ir = 0xFF ∧ (after .jtagReset s).on F.RST_CAUSE_JTAG = true := by decide +kernel
/-- SelfTests. -/
theorem witness_bist : let s := (up 10).modMbx fun m => { m with grants := [⟨1, 0, 10⟩] }
    let t := after (.bistGo 1) s
    s.mode = modeSERVICE ∧ s.granted 14 = true ∧ s.tap.bist = none ∧ s.bistReady 0 0 = true ∧ State.bistBlock 0 0 = some 29 ∧ s.granted 29 = true ∧
      t.tap.bist = some (0, 0) ∧ (after (.bistComplete 70000 1 1) t).rd F.TST_BIST_STATUS_ERRORS = 65535 ∧
      (after (.bistGo 1) t).on F.TST_BIST_STATUS_REFUSED = true ∧
      (after (.tapBistCtrl 0x80000304) (up 12)).tap.bist = some (4, 3) ∧ (up 12).mode = modeSCANTEST ∧ (after .scantestHalt (up 12)).rst.cpu = .stopped := by
  decide +kernel

/-! #### Chains, video inputs -/

/-- ChainReloads: a running port with a reload under way, one that waits for its swap, an audit window, the frame memory. -/
theorem witness_chain : let s := (up 3).wr (F.CHN_STATUS_STATE 3) 2
    let rel := s.wr (F.CHN_STATUS_RELOADING 3) 1
    let a : Audit := ⟨0, [], []⟩
    let aud := s.modChn 3 fun c => { c with audit := some a }
    let wait := s.wr (F.CHN_STATUS_LAT_WAIT 3) 1
    s.subStill 3 9 = false ∧ (after (.chainSwapPoint 3) s).rd (F.CHN_SEQ_SEQ 3) = 1 ∧ (after (.chainSwapPoint 3) wait).on (F.CHN_STATUS_LAT_WAIT 3) = false ∧
      (after (.chainReloadComplete 3 []) rel).rd (F.CHN_CNT1_RET_ERR 3) = 2 ∧ s.rd (F.CHN_MODE_DRIVERS 3) = 0 ∧
      (after (.chainReloadComplete 3 [[loadWord 0], [0]]) rel).evr.fifo = [] ∧ (aud.cn 3).audit = some a ∧
      (after (.auditWindowEnd 3) aud).evr.fifo = [] ∧ s.subHeld 3 9 = false ∧ pastMs 0 ((aud.setActv (sset regReset [] (F.CHN_AUDIT_WINDOW 3).addr 1000)).rdA (F.CHN_AUDIT_WINDOW 3)) = false ∧
      pastMs 40000 (aud.rdA (F.CHN_AUDIT_WINDOW 3)) = true ∧ wait.waitedLong 3 = true ∧ ((after (.auditWindowEnd 3) { aud with tb := 40000 }).cn 3).probeDue = true ∧ (wait.cn 3).waitLogged = false ∧ ((after (.chainSwapWaitTimeout 3) wait).evr.fifo.map EvReq.code) = [0x3301] ∧
      s.on (F.CHN_CTRL_EN 3) = false ∧ s.bistOn 1 3 = false ∧
      (after (.chainMemWrite 3 0x12345) (s.put (R.CHN_MEM_ADDR 3) 0)).bankVal 3 0 0 = 0x2345 := by decide +kernel
/-- CsiReceiver: a line of the right and of a wrong size, the end of a frame, a stop that times out, enables. -/
def receiver : State := (((((((((up 3).wr (F.CSI_VCv_RING_BASE_ADDR 1 15) 0x100000).wr (F.CSI_VCv_PUB_STOPPED 1 15) 0).wr (F.CSI_CTRL_EN 1) 1).wr (F.CSI_VCv_CFG_EN 1 15) 1).wr (F.CSI_VCv_CFG_DT 1 15) 0x2A).wr (F.CSI_VCv_SIZE_WIDTH 1 15) 4).wr
  (F.CSI_VCv_SIZE_HEIGHT 1 15) 2).wr (F.DMC_STATUS_STATE 0) 3).wr (F.DMC_STATUS_STATE 1) 3
theorem witness_csi : let r : CsiRun := ⟨1, false, false⟩
    let s := receiver.setCsiRun 1 15 (some r)
    let e := receiver.setCsiRun 1 15 (some ⟨2, false, true⟩)
    let off := s.wr (F.CSI_VCv_CFG_EN 1 15) 0
    let line := fun bs => after (.csiPacket 1 ⟨0, 15, 0x2A, 4, bs, true⟩) s
    s.on (F.CSI_CTRL_EN 1) = true ∧ s.on (F.CSI_VCv_PUB_STOPPED 1 15) = false ∧ s.csiRun 1 15 = some r ∧ s.rd (F.CSI_VCv_CFG_DT 1 15) = 0x2A ∧ s.dramOk = true ∧ s.sysStill 1 = false ∧
      s.dramIn (s.ringAddr 1 15 (s.rd (F.CSI_VCv_PUB_WRITING 1 15)) + 1 * csiStride 0x2A 4) 4 = true ∧ ((up 3).put R.RST_BLK_CTRL4 2).sysHeld 1 = true ∧
      (e.wr (F.DMC_STATUS_STATE 0) 5).dramOk = false ∧ ((after (.csiFrameComplete 1 15) (e.wr (F.DMC_STATUS_STATE 0) 5)).evr.fifo.map EvReq.b) = [7] ∧
      (after (.csiStopTimeout 1 15) (e.wr (F.CSI_VCv_CFG_EN 1 15) 0)).csiRun 1 15 = some ⟨2, false, true⟩ ∧
      (line [1, 2, 3, 4]).csiRun 1 15 = some ⟨2, false, false⟩ ∧ (line [1]).csiRun 1 15 = some ⟨1, true, false⟩ ∧
      (after (.csiFrameComplete 1 15) e).rd (F.CSI_VCv_PUB_FRAMES 1 15) = 1 ∧ off.on (F.CSI_VCv_CFG_EN 1 15) = false ∧
      (after (.csiStopTimeout 1 15) off).csiRun 1 15 = none ∧ (after (.csiEntryEnableWrite 1 15 1) off).on (F.CSI_VCv_CFG_EN 1 15) = true ∧
      sget (fun _ => none) (receiver.csi.get 1).rebind 15 = none ∧ (after (.csiEntryEnableWrite 1 15 0) receiver).on (F.CSI_VCv_PUB_STOPPED 1 15) = true ∧
      (after (.csiLaneStateChange 1 15 3 false) s).rd (F.CSI_STATUS_STOP 1) = 15 := by decide +kernel

/-! #### The pixel path, masks, sources -/

/-- A field of a register of the streaming bank. -/
def strm (f : Fld) (v : Nat) (s : State) : State :=
  s.setStrm (sset regReset s.strm f.addr (BitVec.ofNat 32 (setBits (sget regReset s.strm f.addr).toNat f.lo f.w v)))
/-- Channel 1 streams a field of two lit slots, a cache of two planes, one reset block, on a link that is UP. -/
def streaming : State :=
  let s := linked 1 (running 1)
  let s := strm (F.BPF_TT_CTRL_SLOTS0 1) 2 (strm (F.BPF_BLK_TIME_STAGE 1) 2 (strm (F.BPF_BLK_CFG_BLOCKS 1) 1 s))
  (s.ttWriteField 1 0 0 [⟨15, 7, 1, 1000⟩, ⟨14, 7, 1, 500⟩]).wr (F.BPF_STATUS_STATE 1) 1
/-- FieldsAndPackets. -/
theorem witness_fields : let s := streaming
    let scan := strm (F.WRP_TRAJ_CFG_L 1) 15 (s.wr (F.BPF_STATUS_STATE 1) 6)
    s.subStill 1 5 = false ∧ s.on (F.LEC_STATUS_RUNNING 1) = true ∧ (s.bp 1).nextField < s.strmFields 1 ∧ s.loading 1 = true ∧
      (s.bp 1).lit < (s.litSlots 1).length ∧ (s.bp 1).lit < s.resetsNow 1 + s.rdS (F.BPF_BLK_TIME_STAGE 1) ∧
      (after (.fieldStart 1) s).bp 1 = { s.bp 1 with nextField := 1 } ∧ ((after (.blockPacketSend 1) s).bp 1).lit = 1 ∧
      (after (.blockDeadlineMiss 1 0 0) s).rd (F.BPF_LATE_CNT_LATE 1) = 1 ∧ 0 < scan.rdS (F.WRP_TRAJ_CFG_L 1) ∧
      ((after (.scanLineStart 1 false) scan).evr.fifo.map EvReq.code) = [0x1132] ∧ s.subHeld 1 7 = false ∧ (s.ch 1).link.idle = false := by
  decide +kernel
theorem witness_composition : let y := { ((up 3).ch 1).layers.get 3 with on := true, held := some 1 }
    let s := (running 1).modCh 1 fun c => { c with composing := true, cfgComp := some smallCfg, layers := c.layers.set 3 y }
    s.subStill 1 2 = false ∧ s.subStill 1 7 = false ∧ (s.lay 1 3).on = true ∧ (s.lay 1 3).under = none ∧ (s.ch 1).composed = false ∧
      s.subStill 1 0 = false ∧ (s.ch 1).drawn = none ∧
      (after (.layerUnderrun 1 3 1727) s).rd (F.FETCH_UNDERRUN_CNT_COUNT 1) = 1 ∧ (s.ch 1).cfgComp = some smallCfg ∧
      (after (.controlSlot 1) (linked 1 s)).rd (F.LNK_LT_LT 1) = 256 := by decide +kernel
/-- FieldsAndPackets: a frame that TRANSFER_LINE drew already; a plane whose blocks read good; a line that reads good and one outside DRAM. -/
theorem witness_drawn : let s := (running 1).modCh 1 fun c => { c with composing := true, drawn := some ⟨[1, 2], false, none, false⟩ }
    s.subStill 1 2 = false ∧ s.on (F.LEC_STATUS_RUNNING 1) = true ∧ (s.ch 1).composing = true ∧ (s.ch 1).drawn.isSome = true ∧
      (after (.compositionComplete 1) s).get (R.WBK_SIG_FRAME 1) = (s.get (R.LEC_FRAME_COUNT 1) + 1) % 2 ^ 32 := by decide +kernel
theorem witness_good : let s := streaming.modBpf 1 fun b => { b with pattern := true }
    s.subStill 1 5 = false ∧ s.loading 1 = true ∧ (∀ g p b, s.blockBad 1 g p b = false) ∧ s.lineBad 1 0 0 = false ∧
      (strm (F.WRP_TRAJ_CFG_S 1) 15 (streaming.wr (F.BPF_STATUS_STATE 1) 6)).lineBad 1 0 0 = true := by
  refine ⟨by decide +kernel, by decide +kernel, fun _ _ _ => ?_, by decide +kernel, by decide +kernel⟩
  have h : ((streaming.modBpf 1 fun b => { b with pattern := true }).bp 1).pattern = true := by decide +kernel
  simp [State.blockBad, h]
/-- AccessPorts: a stopped channel, a bank in use, an injection table that plays. -/
theorem witness_ports : let s := up 3
    let held := s.put (R.RST_BLK_CTRLk 2) 0x0000FFFF
    let play := (s.wr (F.TUT_INJ_STATUS_STATE 2) 2).wr (F.TUT_INJ_CFG_SIGNAL 2) 4
    ([1, 2, 3, 5, 10].all fun k => held.subHeld 2 k && !s.subHeld 2 k) = true ∧ s.on (F.LEC_STATUS_RUNNING 2) = false ∧ s.bistOn 0 2 = false ∧ (running 2).bankBusy 2 (F.CMP_CTRL_LUT_BANK 2) 0 = true ∧
      (running 2).bankBusy 2 (F.WRP_CTRL_MESH_BANK 2) 0 = true ∧ (running 2).bankBusy 2 (F.SCL_CTRL_COEF_BANK 2) (0x9FF / 0xA00) = true ∧
      (running 2).bankBusy 2 (F.BPF_TT_CTRL_BANK 2) (0x5FF / 0x600) = true ∧ sget (fun _ => 0) ((after (.lutPortWrite 2 0x1ABCD) s).ch 2).lut 0 = 0xABCD ∧
      sget (fun _ => 0) ((after (.meshPortWrite 2 7) s).ch 2).mesh 0 = 7 ∧ (after (.coefRamWrite 2 0x13FF 0x407) s).get (sclBase 2 + 0x17FC) = 7 ∧
      (after (.timetableRamWrite 2 0xBFF 9) s).get (bpfBase 2 + 0xFFC) = 9 ∧ (after (.injTableWrite 2 1023 9) s).get (R.TUT_INJ_TABLEe 2 1023) = 9 ∧
      (after (.injTableWrite 2 1023 9) play).get (R.TUT_INJ_TABLEe 2 1023) = 0 ∧ (after (.lutPortWrite 2 5) (running 2)).evr.fifo.length = 1 := by
  decide +kernel
/-- A record with its check byte: a rectangle in slot 63 of channel 1, and a CLEAR of it. -/
def rectangle (t : Nat) : List Byte := let r : List Byte := [1, 63, leBytes 1 t |>.headD 0, 0, 0, 0, 0, 0, 9, 0, 9, 0, 0, 2, 0]; r ++ leBytes 1 (crc8 r)
/-- MaskRecords: accepted on a streaming channel, dropped for each reason, lifetime and acknowledgement. -/
theorem witness_masks : let s := streaming.wr F.MBX_HCFG_QUAD 1
    let r := rectangle 0
    let t := after (.fastLaneWrite 0x2C00 r 0) s
    s.hspiServed = true ∧ s.stood 245 245 = false ∧ s.subHeld 1 6 = false ∧ s.subStill 1 6 = false ∧ (after (.fastLaneWrite 0x2C00 r 3) s).rd F.MBX_HSTAT_LAST_ERR = 1 ∧ r.length = 16 ∧ crc8 (r.take 15) = byteAt r 15 ∧ recordOk r = true ∧ recordOk (rectangle 3) = false ∧ s.streams 1 = true ∧
      (up 3).streams 1 = false ∧ t.hardLive 1 63 = true ∧ t.rd F.MBX_FL_ACCEPT_COUNT = 1 ∧
      ([(r.take 15, 0x2C00), (r, 0x2C10), (r.take 15 ++ [0], 0x2C00), (rectangle 3, 0x2C00)].map fun (d, a) =>
        (after (.fastLaneWrite a d 0) s).rd F.MBX_FL_LAST_REASON) = [1, 2, 3, 4] ∧
      (after (.fastLaneWrite 0x2C00 r 0) ((up 3).wr F.MBX_HCFG_QUAD 1)).rd F.MBX_FL_LAST_REASON = 5 ∧
      (t.wr (F.MSK_HRs_REMAIN 1 63) 0).hardEnded 1 63 = true ∧ (t.ch 1).mask.unacked.contains 63 = true ∧
      ((after (.maskAckTimeout 1 63) t).evr.fifo.map EvReq.code) = [0x1122] := by decide +kernel
theorem witness_inject : let inj := fun (s : State) w => ((s.put (R.MSK_INJ 0 0) w).put (R.MSK_INJ 0 3) 0)
    (after (.maskInject 0 1) (inj streaming 0x0001)).rd F.MBX_FL_ACCEPT_COUNT = 1 ∧ (after (.maskInject 0 1) (inj streaming 0x8001)).rd F.MBX_FL_LAST_REASON = 4 ∧
      (after (.maskInject 0 1) (inj streaming 0)).rd F.MBX_FL_LAST_REASON = 5 := by decide +kernel
/-- LampAndDerate. -/
theorem witness_lamp : let s := strm (F.SRC_DERATE_CFG_TSEL 1) 1 (strm (F.SRC_DERATE_CFG_ARMED 1) 1 (up 3))
    let warm := (s.wr (F.TUT_LAMP_T_T 1) 1600).modSrc 1 fun r => { r with sensorLost := false, tempLost := false }
    s.subStill 1 7 = false ∧ s.onS (F.SRC_DERATE_CFG_ARMED 1) = true ∧ s.selTemp 1 = none ∧ s.subStill 1 7 = false ∧ warm.selTemp 1 = some 1600 ∧
      ((after (.derateEvaluation 1) warm).ch 1).src.th = some 1600 ∧ ((after (.derateEvaluation 1) s).ch 1).src.tempLost = true ∧
      ((after (.tempInputLoss 1) warm).evr.fifo.map EvReq.code) = [0x2111] ∧
      ((after (.lampEnMismatch 1) s).evr.fifo.map fun q => (q.code, q.sev)) = [(0x1140, if s.pins.lampEnN.get 1 then 6 else 3)] := by decide +kernel
/-- LampAndDerate, R248: the two levels driven, at the default FAULT_N threshold. -/
theorem witness_lampFault : let s := up 3
    let low := s.modPins fun p => { p with lampEnN := p.lampEnN.set 1 false }
    s.rd F.EVR_CFG_FAULT_SEV = 5 ∧ s.rst.cpu ≠ .held ∧ s.rst.cpu ≠ .stopped ∧ s.pins.lampEnN.get 1 = true ∧ low.pins.lampEnN.get 1 = false ∧
      (after (.lampEnMismatch 1) s).pins.faultLow = true ∧ (after (.lampEnMismatch 1) s).on F.EVR_FAULT_LATCHED = true ∧
      (after (.lampEnMismatch 1) low).pins.faultLow = false := by decide +kernel

/-! #### Back lane, negotiation, Tutor -/

/-- BackLanePackets: a live link, late packets, a copy, a sensor input, lost locks, acknowledgements. -/
theorem witness_backLane : let s := linked 2 (up 3)
    let lanes2 := s.wr (F.LNK_MODE_LANES 2) 2
    let mk := s.modMask 2 fun m => { m with unacked := [5, 63] }
    let tg := s.modSrc 2 fun r => { r with tgenNew := some 15 }
    let fill := s.modBpf 2 fun b => { b with replay := 1 }
    let stat := fun b1 => leBytes 1 0 ++ leBytes 1 b1 ++ leBytes 1 9 ++ List.replicate 29 0
    s.linkState 2 ≠ 0 ∧ s.subStill 2 8 = false ∧ s.linkUp 2 = true ∧ s.isCopy 2 0x83 [1] = false ∧ s.isCopy 2 0x84 [5, 0] = false ∧ s.isCopy 2 0x85 [3, 15] = false ∧ s.isCopy 2 0x86 [0, 15] = false ∧
      (after (.backMaskAck 2 .inTime [5, 0]) mk).isCopy 2 0x84 [5, 0] = true ∧ ((after (.backMaskAck 2 .inTime [5, 0]) mk).ch 2).mask.unacked = [63] ∧
      ((after (.backNak 2 .late []) s).evr.fifo.map fun q => (q.code, q.a)) = [(0x2207, 0x83)] ∧
      ((after (.backTableAck 2 .inTime [3, 15]) tg).ch 2).src.acks = 8 ∧ 0 < fill.strmFields 2 ∧
      sget (fun _ => false) ((after (.backCacheAck 2 .inTime [0, 15]) fill).bp 2).acks 15 = true ∧ s.rd (F.LNK_MODE_LANES 2) ≠ 2 ∧
      (after (.backStatus 2 .inTime (stat 4)) s).rd (F.LNK_STATUS_DOWN_REASON 2) = 7 ∧ (after (.backStatus 2 .inTime (stat 0)) s).rd (F.LNK_STATUS_DOWN_REASON 2) = 3 ∧
      (after (.backStatus 2 .inTime (stat 12)) lanes2).rd (F.LNK_STATUS_NODE_BOOT 2) = 9 := by decide +kernel
/-- BackLanePackets: a late capability block, echo and eye result, and one that fails its CRC. -/
theorem witness_backNegotiation : let s := linked 2 (up 3)
    let cs := [Instr.backCapability 2 [] .late, .backEcho 2 [] .late, .backEye 2 [] true .late]
    (cs.map fun c => (after c s).evr.fifo.map fun q => (q.code, q.a)) = [[(0x2207, 0x87)], [(0x2207, 0x88)], [(0x2207, 0x89)]] ∧
      (cs.all fun c => (after c s).rd (F.LNK_CNT2_LATE 2) == 1) = true ∧ (after (.backEye 2 [] true .badCrc) s).rd (F.LNK_CNT1_BACK_CRC 2) = 1 := by
  decide +kernel
theorem witness_backSensor : let s := (((linked 2 (up 3)).modLink 2 fun l => { l with capOk := true }).put (R.LNK_CAP 2 4) 0x0100).wr (F.TUT_CTXc_CTRL_EN 2 3) 1
    let t := (s.wr (F.TUT_CTXc_CTRL_NZ_M1 2 3) 0).wr (F.TUT_CTXc_ZSELi_SRC 2 3 0) 1
    t.on (F.TUT_CTXc_CTRL_EN 2 3) = true ∧ 0 < t.nz 2 3 ∧ t.rd (F.TUT_CTXc_ZSELi_SENSOR 2 3 0) = 0 ∧ 0 < t.cap 2 17 ∧ t.on (F.TUT_CTXc_ZSELi_GATE_EN 2 3 0) = false ∧
      sget (fun _ => none) ((after (.backSensor 2 .inTime 0 [0xFF, 0xFF]) t).ctx 2 3).fresh 0 = some (-1) := by decide +kernel
/-- LinkNegotiation: each step. -/
def atStep (k lanes : Nat) (retrain : Bool) (s : State) : State := s.modLink 3 fun l =>
  { l with neg := some { retrain := retrain, training := false, step := k, rates := [], rate := 0, lanes := lanes, back := 0, backSet := false, eyes := [], results := [], cause := 0, tag := none } }
def capBlock : List Byte :=
  [0x44, 0x43, 1, 3, 0, 0, 0, 0, 0, 1, 0, 0, 0, 0, 1, 1, 1, 0, 0, 0, 0, 0, 1, 0] ++ List.replicate 40 0
theorem witness_negotiation : let s := (up 3).wr (F.LNK_STATUS_STATE 3) 1
    let eye := [0, 0, 0xFF, 0xFF, 0, 0, 0, 0, 0, 0]
    let ok := (s.wr (F.LNK_EQ_THR_MIN_EYE 3) 0)
    ((after (.capReqRepeat 3) (atStep 1 1 false s)).ch 3).link.seq = ((s.ch 3).link.seq + 1) % 256 ∧
      (after (.capabilityTimeout 3) (atStep 1 1 false s)).rd (F.LNK_STATUS_DOWN_REASON 3) = 4 ∧ capBlockOk [] = false ∧ capBlockOk capBlock = true ∧
      (after (.backCapability 3 capBlock) (atStep 1 1 false s)).get (R.LNK_CAP 3 0) = 0x03014344 ∧
      (after (.backCapability 3 []) (atStep 1 1 false s)).rd (F.LNK_STATUS_DOWN_REASON 3) = 6 ∧
      ((atStep 3 1 false s).neg 3).isSome = true ∧
      (after (.backEye 3 eye false) (atStep 6 1 false s)).linkState 3 = 5 ∧ ((after (.backEye 3 eye true) (atStep 6 1 false ok)).neg 3).isSome = true ∧
      (after (.eyeTimeout 3 true) (atStep 6 1 false s)).linkState 3 = 5 ∧ (after (.backEcho 3 [0, 0]) (atStep 7 1 false s)).linkState 3 = 3 ∧
      (after (.retrainStart 3) (atStep 0 1 true (linked 3 s))).linkState 3 = 2 ∧ (after (.backSyncLoss 3) (linked 3 s)).rd (F.LNK_STATUS_DOWN_REASON 3) = 1 ∧
      (after (.backSilence 3) (linked 3 s)).rd (F.LNK_STATUS_DOWN_REASON 3) = 2 ∧ (after (.backLaneSyncGained 3) s).on (F.LNK_STATUS_B_LOCK 3) = true := by
  decide +kernel
/-- TutorCycle. -/
def looping : State := ((up 3).wr (F.TUT_CTXc_CTRL_EN 1 2) 1).wr (F.TUT_CTXc_CTRL_TEMPLATE 1 2) 3
theorem witness_tutor : let s := looping
    let r : Rel := ⟨[-1], [], [], [], [], [], [77], 0, false⟩
    let held := (s.wr (F.TUT_CTXc_ROUTEj_DEST 1 2 0) 2).modTut 1 fun t => { t with ctx := t.ctx.set 2 { t.ctx.get 2 with rel := some r } }
    let q : Pitch := ⟨1, 0x123, 62, 10⟩
    let p := ((s.wr (F.TUT_CTXc_CTRL_NZ_M1 1 2) 0).wr (F.TUT_CTXc_ZSELi_SRC 1 2 0) 2).modTut 1 fun t => { t with pitch := some q }
    let t := after (.pitchFrame 1 0x123 (List.replicate 62 0 ++ [0xFE, 0xFF])) p
    let silent := { p with tb := 400 }
    s.subStill 1 10 = false ∧ s.subHeld 1 10 = false ∧ pastMs (p.tb.toNat - (p.tu 1).pitchTick) q.timeout = false ∧
      pastMs (silent.tb.toNat - (silent.tu 1).pitchTick) q.timeout = true ∧ p.pitchInputs 1 = [(2, 0)] ∧ bit (p.ctx 1 2).hold 0 = false ∧ (s.ctx 1 2).rel = none ∧ (after (.tutorLatch 1 2) s).rd (F.TUT_CTXc_STATUS_LATCHES 1 2) = 1 ∧
      (held.ctx 1 2).rel = some r ∧ (after (.tutorRelease 1 2) held).get (R.TUT_CTXc_Uj 1 2 0) = 0xFFFFFFFF ∧
      (List.range 3).all (fun j => held.rd (F.TUT_CTXc_ROUTEj_DEST 1 2 (j + 1)) == 0) = true ∧ (List.range 8).all (fun j => held.rd (F.TUT_CTXc_TAPt_DEST 1 2 j) == 0) = true ∧
      ((after (.tutorRelease 1 2) held).tu 1).offset = some 77 ∧ p.fwRuns = true ∧ p.pitchInputs 1 = [(2, 0)] ∧
      t.rd (F.TUT_CTXc_ZFWi_SAMPLE 1 2 0) = 0xFFFE ∧ bit ((after (.pitchTimeout 1) silent).ctx 1 2).hold 0 = true ∧
      (after (.traceArm 1 0x10) s).rd (F.TUT_TRC_STATUS_STATE 1) = 1 ∧ (after (.injectionGo 1 0x44) s).rd (F.TUT_INJ_STATUS_STATE 1) = 1 := by
  decide +kernel
end Sys2Proof.Tests
end

section
/-! SUPPORT. What every command and the tick keep of a state: canonical registers and DRAM, the FIFO's bound, the queue.

One lemma for each operation of the model, `State.Keeps.<operation>`, in the order of the model's files (a heading names the
file). Its proof has the shape of the operation's definition: `h.wr.put` for a register write after another, `.bind` where
an intermediate state is named, `.ite` for a conditional, `.foldl` for a loop. -/

namespace Sys2Proof.Machine

/-- What every operation of the model does with the four parts of the state that a whole step must keep in order: a
canonical register file and a canonical DRAM stay canonical, a recorder FIFO within its bound stays within it (R386), and
the queue of commands is left alone. -/
structure State.Keeps (s t : State) : Prop where
  regs : RegFile.wf s.regs = true → RegFile.wf t.regs = true
  dram : Memory.wf s.dram = true → Memory.wf t.dram = true
  fifo : s.evr.fifo.length ≤ 16 → t.evr.fifo.length ≤ 16
  pending : t.pending = s.pending

/-- The state that a command's answer leaves is kept so. -/
def State.KeepsAns (s : State) (a : Ans) : Prop := s.Keeps a.s

/-- The state that an outcome leaves, if it leaves one, is kept so. -/
def State.KeepsOut (s : State) (o : Host.Outcome State Fault Refusal) : Prop := ∀ t, o = .next t → s.Keeps t

/-- An operation on a context keeps a state so. It stands as a structure, so that the operation is a parameter and is
unfolded there alone: the kernel then never has to evaluate the pairs that a latch takes apart. -/
structure State.KeptBy (s : State) (f : State → Fin 4 → Fin 4 → State) : Prop where
  keeps : ∀ t n c, s.Keeps t → s.Keeps (f t n c)

namespace State.KeepsAns

variable {s u : State} {a b : Ans}

theorem ite {c : Prop} {_ : Decidable c} (h : s.KeepsAns a) (k : s.KeepsAns b) : s.KeepsAns (if c then a else b) := by
  split
  · exact h
  · exact k
theorem of (h : s.Keeps u) {st detail : Nat} {data : List Byte} : s.KeepsAns ⟨u, st, detail, data⟩ := h
theorem bind (h : s.KeepsAns a) (k : s.Keeps a.s → s.Keeps u) : s.Keeps u := k h
theorem thenAns (h : s.KeepsAns a) (k : s.KeepsAns a → s.KeepsAns b) : s.KeepsAns b := k h

end State.KeepsAns

namespace State.KeepsOut

variable {s t : State} {a b : Host.Outcome State Fault Refusal}

theorem next (h : s.Keeps t) : s.KeepsOut (.next t) := fun _ e => Host.Outcome.next.inj e ▸ h
theorem refused {r : Refusal} : s.KeepsOut (.refused r) := fun _ e => nomatch e
theorem ite {c : Prop} {_ : Decidable c} (h : s.KeepsOut a) (k : s.KeepsOut b) : s.KeepsOut (if c then a else b) := by
  split
  · exact h
  · exact k

end State.KeepsOut

namespace State.Keeps

variable {s t u : State}

theorem refl (s : State) : s.Keeps s := ⟨id, id, id, rfl⟩

/-- Name an intermediate result. -/
theorem bind (h : s.Keeps t) (k : s.Keeps t → s.Keeps u) : s.Keeps u := k h
/-- Name the state that an answer is given in. -/
theorem thenAns {a : Ans} (h : s.Keeps t) (k : s.Keeps t → s.KeepsAns a) : s.KeepsAns a := k h
/-- An intermediate result that a proof by cases gives. -/
theorem self (h : s.Keeps t) : s.Keeps t := h
theorem ite {c : Prop} {_ : Decidable c} (h : s.Keeps t) (k : s.Keeps u) : s.Keeps (if c then t else u) := by
  split
  · exact h
  · exact k
theorem iteFst {α : Type} {c : Prop} {_ : Decidable c} {p q : State × α} (h : s.Keeps p.1) (k : s.Keeps q.1) :
    s.Keeps (if c then p else q).1 := by
  split
  · exact h
  · exact k
theorem foldl {α : Type} {l : List α} {f : State → α → State} (h : s.Keeps t)
    (k : ∀ u x, s.Keeps u → s.Keeps (f u x)) : s.Keeps (l.foldl f t) := by
  induction l generalizing t with
  | nil => exact h
  | cons x l ih => exact ih (k t x h)
theorem ofPair {α : Type} {p : State × α} {x : α} (h : s.Keeps p.1) (e : p = (u, x)) : s.Keeps u := by
  rw [e] at h
  exact h
theorem fst {α : Type} {x : α} (h : s.Keeps t) : s.Keeps (t, x).1 := h
theorem foldlFst {α β : Type} {l : List α} {f : State × β → α → State × β} {p : State × β} (h : s.Keeps p.1)
    (k : ∀ q x, s.Keeps q.1 → s.Keeps (f q x).1) : s.Keeps (l.foldl f p).1 := by
  induction l generalizing p with
  | nil => exact h
  | cons x l ih => exact ih (k p x h)


/-! ### Ops -/

theorem put (h : s.Keeps t) {a v : Nat} : s.Keeps (t.put a v) :=
  ⟨fun w => swf_sset _ _ _ (h.regs w), h.dram, h.fifo, h.pending⟩
theorem wr (h : s.Keeps t) {f : Fld} {v : Nat} : s.Keeps (t.wr f v) := h.put
theorem wrB (h : s.Keeps t) {f : Fld} {b : Bool} : s.Keeps (t.wrB f b) := h.wr
theorem incSat (h : s.Keeps t) {f : Fld} : s.Keeps (t.incSat f) := h.wr
theorem addSat (h : s.Keeps t) {f : Fld} {k : Nat} : s.Keeps (t.addSat f k) := h.wr
theorem incWrap (h : s.Keeps t) {f : Fld} : s.Keeps (t.incWrap f) := h.wr
/-- A change of the recorder that leaves its FIFO alone. -/
theorem modEvr (h : s.Keeps t) {g : Evr → Evr} (hg : ∀ e, (g e).fifo = e.fifo := by exact fun _ => rfl) :
    s.Keeps (t.modEvr g) := ⟨h.regs, h.dram, fun w => hg t.evr ▸ h.fifo w, h.pending⟩
theorem modMbx (h : s.Keeps t) {f : Mbx → Mbx} : s.Keeps (t.modMbx f) :=
  ⟨h.regs, h.dram, h.fifo, h.pending⟩
theorem modSys (h : s.Keeps t) {f : Sys → Sys} : s.Keeps (t.modSys f) :=
  ⟨h.regs, h.dram, h.fifo, h.pending⟩
theorem modRst (h : s.Keeps t) {f : Rst → Rst} : s.Keeps (t.modRst f) :=
  ⟨h.regs, h.dram, h.fifo, h.pending⟩
theorem modAon (h : s.Keeps t) {f : Aon → Aon} : s.Keeps (t.modAon f) :=
  ⟨h.regs, h.dram, h.fifo, h.pending⟩
theorem modPins (h : s.Keeps t) {f : Pins → Pins} : s.Keeps (t.modPins f) :=
  ⟨h.regs, h.dram, h.fifo, h.pending⟩
theorem modCal (h : s.Keeps t) {f : CalState → CalState} : s.Keeps (t.modCal f) :=
  ⟨h.regs, h.dram, h.fifo, h.pending⟩
theorem modTap (h : s.Keeps t) {f : Tap → Tap} : s.Keeps (t.modTap f) :=
  ⟨h.regs, h.dram, h.fifo, h.pending⟩
theorem modFw (h : s.Keeps t) {f : Fw → Fw} : s.Keeps (t.modFw f) :=
  ⟨h.regs, h.dram, h.fifo, h.pending⟩
theorem modCh (h : s.Keeps t) {n : Fin 4} {f : Lec → Lec} : s.Keeps (t.modCh n f) :=
  ⟨h.regs, h.dram, h.fifo, h.pending⟩
theorem modCsi (h : s.Keeps t) {rx : Fin 2} {f : Csi → Csi} : s.Keeps (t.modCsi rx f) :=
  ⟨h.regs, h.dram, h.fifo, h.pending⟩
theorem modDmc (h : s.Keeps t) {ch : Fin 2} {f : DmcRun → DmcRun} : s.Keeps (t.modDmc ch f) :=
  ⟨h.regs, h.dram, h.fifo, h.pending⟩
theorem setRegs (h : s.Keeps t) {r : RegFile} (hr : RegFile.wf t.regs = true → RegFile.wf r = true) :
    s.Keeps (t.setRegs r) := ⟨hr ∘ h.regs, h.dram, h.fifo, h.pending⟩
theorem setPend (h : s.Keeps t) {r : RegFile} : s.Keeps (t.setPend r) := ⟨h.regs, h.dram, h.fifo, h.pending⟩
theorem setComp (h : s.Keeps t) {r : RegFile} : s.Keeps (t.setComp r) := ⟨h.regs, h.dram, h.fifo, h.pending⟩
theorem setStrm (h : s.Keeps t) {r : RegFile} : s.Keeps (t.setStrm r) := ⟨h.regs, h.dram, h.fifo, h.pending⟩
theorem setActv (h : s.Keeps t) {r : RegFile} : s.Keeps (t.setActv r) := ⟨h.regs, h.dram, h.fifo, h.pending⟩
theorem setDram (h : s.Keeps t) {m : Mem} (hm : Memory.wf t.dram = true → Memory.wf m = true) :
    s.Keeps (t.setDram m) := ⟨h.regs, hm ∘ h.dram, h.fifo, h.pending⟩
theorem setFree (h : s.Keeps t) {k : Nat} : s.Keeps (t.setFree k) := ⟨h.regs, h.dram, h.fifo, h.pending⟩
theorem setRequests (h : s.Keeps t) {k : Nat} : s.Keeps (t.setRequests k) := ⟨h.regs, h.dram, h.fifo, h.pending⟩
theorem dwrite (h : s.Keeps t) {a : Nat} {bs : List Byte} : s.Keeps (t.dwrite a bs) :=
  ⟨h.regs, fun w => swf_ssets _ _ _ (h.dram w), h.fifo, h.pending⟩
theorem errHit (h : s.Keeps t) {base code : Nat} : s.Keeps (t.errHit base code) := .ite h.put.put h.put.put
theorem errClear (h : s.Keeps t) {base : Nat} : s.Keeps (t.errClear base) := h.put.put
theorem irqOccur (h : s.Keeps t) {sev : Nat} : s.Keeps (t.irqOccur sev) := .ite h.wr h
theorem faultLatch (h : s.Keeps t) {code sev : Nat} : s.Keeps (t.faultLatch code sev) := .ite h h.wr.wr.wr
theorem faultDrive (h : s.Keeps t) : s.Keeps t.faultDrive := h.modPins
theorem occur (h : s.Keeps t) {code sev : Nat} : s.Keeps (t.occur code sev) :=
  h.irqOccur.bind fun h => .ite h.faultDrive.faultLatch h
theorem stamped (h : s.Keeps t) : s.Keeps t.stamped := h.modEvr.setFree
/-- A request enters a FIFO that has room (R386). -/
theorem enqueue (h : s.Keeps t) {code sev a b : Nat} (hf : t.evr.fifo.length < 16) :
    s.Keeps (t.enqueue code sev a b) :=
  ⟨h.stamped.regs, h.stamped.dram, fun _ => by simpa [State.enqueue, State.modEvr, State.stamped] using hf,
    h.stamped.pending⟩
theorem dropReq (h : s.Keeps t) : s.Keeps t.dropReq := h.addSat.wr
theorem logEvent (h : s.Keeps t) {code sev a b : Nat} : s.Keeps (t.logEvent code sev a b) := by
  unfold State.logEvent
  split
  · rename_i hf
    exact h.occur.enqueue (by simpa using hf)
  · exact h.occur.dropReq
theorem errEvent (h : s.Keeps t) {base code sev a b : Nat} : s.Keeps (t.errEvent base code sev a b) := h.errHit.logEvent
theorem forMask (h : s.Keeps t) {mask : Nat} {f : State → Fin 4 → State}
    (k : ∀ u n, s.Keeps u → s.Keeps (f u n)) : s.Keeps (t.forMask mask f) := h.foldl fun _ _ h => .ite (k _ _ h) h
theorem forEach {α : Type} (h : s.Keeps t) {l : List α} {f : State → α → State}
    (k : ∀ u x, s.Keeps u → s.Keeps (f u x)) : s.Keeps (t.forEach l f) := h.foldl k
theorem nextFree (h : s.Keeps t) : s.Keeps t.nextFree := ⟨h.regs, h.dram, h.fifo, h.pending⟩
theorem setMode (h : s.Keeps t) {m cause : Nat} : s.Keeps (t.setMode m cause) := h.wr.wr.logEvent

/-! ### Clocks -/

theorem setPll (h : s.Keeps t) {i : Nat} {on lock : Bool} : s.Keeps (t.setPll i on lock) := h.wr.wr
theorem dropGood (h : s.Keeps t) {i : Nat} : s.Keeps (t.dropGood i) := h.foldl fun _ _ h => .ite h.put h
theorem setClk (h : s.Keeps t) {d : Nat} {on : Bool} : s.Keeps (t.setClk d on) := by
  unfold State.setClk
  exact .ite h ((Keeps.ite h.modSys h).put.bind fun h => .ite (by
    split
    · exact .ite h h.setPll
    · exact h) h.put)
theorem setClks (h : s.Keeps t) {lo hi : Nat} {on : Bool} : s.Keeps (t.setClks lo hi on) :=
  h.foldl fun _ _ h => h.setClk
theorem showPend (h : s.Keeps t) : s.Keeps t.showPend := by
  unfold State.showPend
  split
  · exact h.wr.wr
  · exact h.wr.wr
theorem drivePins (h : s.Keeps t) {b mask : Nat} : s.Keeps (t.drivePins b mask) := .ite h.modPins h
theorem lecPins (h : s.Keeps t) {n : Fin 4} : s.Keeps (t.lecPins n) := h.drivePins.modPins
theorem lecFree (h : s.Keeps t) {n : Fin 4} : s.Keeps (t.lecFree n) := h.modRst.lecPins
theorem releaseLec (h : s.Keeps t) {n : Fin 4} : s.Keeps (t.releaseLec n) :=
  .ite h (h.setClks.setClks.bind fun h => .ite h.lecFree h.modRst.showPend)
theorem linkClk (h : s.Keeps t) {n : Fin 4} {on : Bool} : s.Keeps (t.linkClk n on) := h.setClks.modPins
theorem csiClk (h : s.Keeps t) {rx : Fin 2} {on : Bool} : s.Keeps (t.csiClk rx on) := h.setClks.modPins

/-! ### Notify -/

theorem modPort (h : s.Keeps t) {p : Fin 3} {f : Port → Port} : s.Keeps (t.modPort p f) :=
  h.modMbx
theorem notify (h : s.Keeps t) {p : Fin 3} {op : Nat} {payload : List Byte} : s.Keeps (t.notify p op payload) :=
  .ite h.modPort (h.modPort.bind fun h => .ite h h.errEvent)
theorem done (h : s.Keeps t) {g : Tag} {st detail : Nat} : s.Keeps (t.done g st detail) := .ite h.notify h
theorem doneOpt (h : s.Keeps t) {g : Option Tag} {st detail : Nat} : s.Keeps (t.doneOpt g st detail) := by
  unfold State.doneOpt
  split
  · exact h
  · exact h.done
theorem eventTo (h : s.Keeps t) {r : List Byte} {p : Fin 3} : s.Keeps (t.eventTo r p) := .ite h.notify h
theorem eventAll (h : s.Keeps t) {r : List Byte} : s.Keeps (t.eventAll r) := h.foldl fun _ _ h => h.eventTo
theorem fwDrain (h : s.Keeps t) : s.Keeps t.fwDrain := .ite (h.modEvr.foldl fun _ _ h => h.eventAll) h

/-! ### Recorder -/

theorem slotWrite (h : s.Keeps t) {k w0 w1 w2lo w3 : Nat} : s.Keeps (t.slotWrite k w0 w1 w2lo w3) := h.put.put.put.put
theorem slotClear (h : s.Keeps t) {k : Nat} : s.Keeps (t.slotClear k) := h.slotWrite
theorem offer (h : s.Keeps t) {k sev : Nat} : s.Keeps (t.offer k sev) := .ite (.ite h.modEvr h.wr.modEvr) h
theorem newRecord (h : s.Keeps t) {k : Nat} {q : EvReq} {fresh : Bool} : s.Keeps (t.newRecord k q fresh) :=
  h.slotWrite.wr.wr.bind fun h => (Keeps.ite h.wr h).wrB.modEvr.offer
theorem traceHit (h : s.Keeps t) {code : Nat} : s.Keeps (t.traceHit code) := h.foldl fun _ _ h => .ite h.modCh h
theorem recordOne (h : s.Keeps t) {q : EvReq} : s.Keeps (t.recordOne q) := by
  unfold State.recordOne
  exact .ite h.slotWrite.modEvr (by
    split
    · exact h.newRecord
    · exact .ite (by
        split
        · exact h.newRecord
        · exact h.addSat) h.addSat)
theorem drillEnd (h : s.Keeps t) {kind code : Nat} {pass : Bool} : s.Keeps (t.drillEnd kind code pass) :=
  (h.wr.wr.modEvr.foldl fun _ _ h => h.modCh).logEvent
theorem faultRelease (h : s.Keeps t) : s.Keeps t.faultRelease := by
  unfold State.faultRelease
  exact h.wr.modPins
theorem clearRequest (h : s.Keeps t) {party : Nat} : s.Keeps (t.clearRequest party) := by
  unfold State.clearRequest
  exact h.faultRelease.bind fun h => by
    extract_lets
    split
    · exact h
    · exact h.wr.modEvr
theorem clearSome (h : s.Keeps t) {c : ClearRun} {k : Nat} : s.Keeps (t.clearSome c k) :=
  h.foldl fun _ _ h => .ite h.slotClear h
theorem clearEnd (h : s.Keeps t) {c : ClearRun} : s.Keeps (t.clearEnd c) :=
  h.clearSome.wr.put.wr.wr.wr.occur.stamped.modEvr.newRecord
/-- The oldest request leaves the FIFO. -/
theorem fifoTail (h : s.Keeps t) {q : EvReq} {qs : List EvReq} (hq : t.evr.fifo = q :: qs) :
    s.Keeps (t.modEvr fun e => { e with fifo := qs }) :=
  ⟨h.regs, h.dram, fun w => by
    have := h.fifo w
    rw [hq, List.length_cons] at this
    exact Nat.le_of_succ_le this, h.pending⟩
theorem recordWrite (h : s.Keeps t) : s.Keeps t.recordWrite := by
  unfold State.recordWrite
  split
  · exact h.clearSome.wr.wrB.modEvr
  · split
    · exact h
    · rename_i hq
      exact (h.fifoTail hq).recordOne.bind fun h₁ => (Keeps.ite h₁.traceHit h₁).bind fun h => .ite (by
        split
        · exact h.drillEnd
        · exact h) h
theorem request (h : s.Keeps t) {code sev a b block : Nat} : s.Keeps (t.request code sev a b block) := by
  unfold State.request
  split
  · exact h.errEvent
  · exact h.logEvent
theorem drillDone (h : s.Keeps t) : s.Keeps t.drillDone := h.modEvr
theorem cpuHalt (h : s.Keeps t) : s.Keeps t.cpuHalt := h.modRst.wr
theorem execEventRequest (h : s.Keeps t) {code : Nat} {sev : Fin 8} {a b block : Nat} :
    s.KeepsOut (execEventRequest code sev a b block t) :=
  .next h.request
theorem execEventRecordWrite (h : s.Keeps t) : s.KeepsOut (execEventRecordWrite t) := .next (.ite h h.recordWrite)
theorem execFwQueueOverflowReport (h : s.Keeps t) : s.KeepsOut (execFwQueueOverflowReport t) :=
  .next (.ite h.modEvr.logEvent h)
theorem execFaultReleaseWrite (h : s.Keeps t) {v : Word} : s.KeepsOut (execFaultReleaseWrite v t) :=
  .next (.ite h.faultRelease h)
theorem execLogClearRequest (h : s.Keeps t) {v : Word} : s.KeepsOut (execLogClearRequest v t) :=
  .next (.ite h.clearRequest h)
theorem execLogClearEnd (h : s.Keeps t) : s.KeepsOut (execLogClearEnd t) := by
  unfold Machine.execLogClearEnd
  exact .next (.ite h (by
    split
    · exact h.clearEnd
    · exact h))
theorem execDrillDeadline (h : s.Keeps t) : s.KeepsOut (execDrillDeadline t) := by
  unfold Machine.execDrillDeadline
  exact .next (by
    split
    · exact .ite h.drillEnd h
    · exact h)
theorem execProcessorHalt (h : s.Keeps t) {a : Nat} : s.KeepsOut (execProcessorHalt a t) := .next h.cpuHalt.logEvent
theorem execProcessorSramCorrected (h : s.Keeps t) {addr : Nat} : s.KeepsOut (execProcessorSramCorrected addr t) :=
  .next h.logEvent

/-! ### RegWrite -/

theorem report0108 (h : s.Keeps t) {a : Nat} : s.Keeps (t.report0108 a) := by
  unfold State.report0108
  split
  · exact h
  · exact h.errHit.put.logEvent
theorem plainWrite (h : s.Keeps t) {a v : Nat} : s.Keeps (t.plainWrite a v) := by
  unfold State.plainWrite
  split
  · exact h
  · exact h.put.bind fun h => .ite h.report0108 h
theorem errWrite (h : s.Keeps t) {a v : Nat} : s.Keeps (t.errWrite a v) := .ite h.errClear h

/-! ### Dram -/

theorem dramOutside (h : s.Keeps t) {port a : Nat} : s.Keeps (t.dramOutside port a) := h.errEvent
theorem setPoison (h : s.Keeps t) {a : Nat} {b : Bool} : s.Keeps (t.setPoison a b) := h.modDmc
theorem portRead (h : s.Keeps t) {port a k : Nat} : s.Keeps (t.portRead port a k) := by
  unfold State.portRead
  exact .ite h (by
    split
    · exact h.dramOutside
    · exact h)
theorem portWrite (h : s.Keeps t) {port a : Nat} {bs : List Byte} : s.Keeps (t.portWrite port a bs) :=
  (h.foldl fun _ _ h => .ite h h.modDmc).bind fun h₁ => .ite h₁.dwrite (h₁.portRead.foldl fun _ _ h => h.dwrite)

/-! ### Csi -/

theorem setCsiRun (h : s.Keeps t) {rx : Fin 2} {v : Nat} {r : Option CsiRun} : s.Keeps (t.setCsiRun rx v r) :=
  h.modCsi
theorem setFetched (h : s.Keeps t) {rx : Fin 2} {v : Nat} {b : Bool} : s.Keeps (t.setFetched rx v b) := h.modCsi
theorem csiIncomplete (h : s.Keeps t) {rx : Fin 2} {v reason : Nat} : s.Keeps (t.csiIncomplete rx v reason) := by
  unfold State.csiIncomplete
  exact h.incSat.errEvent.bind fun h => by
    extract_lets
    split
    · exact h.setCsiRun
    · exact h
theorem csiBind (h : s.Keeps t) {rx : Fin 2} {v : Nat} {w : List Nat} : s.Keeps (t.csiBind rx v w) :=
  h.wr.wr.wr.wr.wr.wr.wr.wr.wr.wr
theorem csiMaybeStop (h : s.Keeps t) {rx : Fin 2} {v : Nat} : s.Keeps (t.csiMaybeStop rx v) := by
  unfold State.csiMaybeStop
  exact .ite (h.wr.bind fun h => by
    extract_lets
    split
    · exact h.modCsi.csiBind
    · exact h) h
theorem csiRebind (h : s.Keeps t) {rx : Fin 2} {v : Nat} {w : Option (List Nat)} : s.Keeps (t.csiRebind rx v w) :=
  h.modCsi.wr.csiMaybeStop
theorem csiPublish (h : s.Keeps t) {rx : Fin 2} {v : Nat} : s.Keeps (t.csiPublish rx v) :=
  (Keeps.ite h.incSat h).wr.wr.wr.wr.wr.incWrap.setFetched.setCsiRun.csiMaybeStop
theorem csiStart (h : s.Keeps t) {rx : Fin 2} {v : Nat} : s.Keeps (t.csiStart rx v) := by
  unfold State.csiStart
  exact (Keeps.self (by
    split
    · exact .ite h (.ite h.csiPublish h.csiIncomplete)
    · exact h)).bind fun h₁ => .ite (h₁.setCsiRun.bind fun h => .ite h.wr h.csiIncomplete) h₁.setCsiRun.wr.csiMaybeStop
theorem csiEnd (h : s.Keeps t) {rx : Fin 2} {v : Nat} : s.Keeps (t.csiEnd rx v) := by
  unfold State.csiEnd
  split
  · exact h
  · exact (Keeps.ite h.csiIncomplete h).bind fun h => .ite h.setCsiRun.wr.csiMaybeStop h.setCsiRun
theorem csiData (h : s.Keeps t) {rx : Fin 2} {p : CsiPkt} : s.Keeps (t.csiData rx p) := by
  unfold State.csiData
  split
  · exact h
  · exact .ite h (.ite h.csiIncomplete (.ite h.csiIncomplete (.ite h.csiIncomplete (.ite h.csiIncomplete
      ((h.forEach fun _ _ h => h.portWrite).setCsiRun.bind fun h => .ite h h.csiIncomplete)))))
theorem csiPacket (h : s.Keeps t) {rx : Fin 2} {p : CsiPkt} : s.Keeps (t.csiPacket rx p) := by
  unfold State.csiPacket
  exact .ite h (.ite (h.incSat.bind fun h => by
    extract_lets
    split
    · exact .ite h h.csiIncomplete
    · exact h) ((Keeps.ite h.incSat h).bind fun h₁ => (Keeps.ite h₁.incSat h₁).bind fun h => .ite h.incSat
        (.ite h.csiStart (.ite h.csiEnd (.ite h.incSat h.csiData)))))
theorem csiCfgWrite (h : s.Keeps t) {rx : Fin 2} {v val : Nat} : s.Keeps (t.csiCfgWrite rx v val) :=
  h.plainWrite.bind fun h => .ite (.ite h h.wr) h.csiMaybeStop
theorem csiDrop (h : s.Keeps t) {rx : Fin 2} {v : Nat} : s.Keeps (t.csiDrop rx v) := h.setCsiRun.wr.csiMaybeStop
theorem csiComplete (h : s.Keeps t) {rx : Fin 2} {v : Nat} : s.Keeps (t.csiComplete rx v) := by
  unfold State.csiComplete
  split
  · exact .ite h (.ite h.csiPublish h.csiIncomplete.csiDrop)
  · exact h
theorem csiTimeout (h : s.Keeps t) {rx : Fin 2} {v : Nat} : s.Keeps (t.csiTimeout rx v) := by
  unfold State.csiTimeout
  exact .ite h (by
    split
    · exact .ite h (Keeps.ite h h.csiIncomplete).csiDrop
    · exact h)
theorem csiEnable (h : s.Keeps t) : s.Keeps t.csiEnable := h.foldl fun _ _ h => .ite h.wr.wr.csiClk (.ite h.wr.csiClk h)
theorem execCsiPacket (h : s.Keeps t) {rx : Duo} {pkt : CsiPkt} : s.KeepsOut (execCsiPacket rx pkt t) :=
  .next h.csiPacket
theorem execCsiFrameComplete (h : s.Keeps t) {rx : Duo} {vc : Fin 16} : s.KeepsOut (execCsiFrameComplete rx vc t) :=
  .next h.csiComplete
theorem execCsiStopTimeout (h : s.Keeps t) {rx : Duo} {vc : Fin 16} : s.KeepsOut (execCsiStopTimeout rx vc t) :=
  .next h.csiTimeout
theorem execCsiEntryEnableWrite (h : s.Keeps t) {rx : Duo} {vc : Fin 16} {v : Word} :
    s.KeepsOut (execCsiEntryEnableWrite rx vc v t) :=
  .next (.ite h h.csiCfgWrite)
theorem execCsiLaneStateChange (h : s.Keeps t) {rx : Duo} {stop ulps : Nat} {deskewed : Bool} :
    s.KeepsOut (execCsiLaneStateChange rx stop ulps deskewed t) :=
  .next (.ite h (h.wr.wr.bind fun h => .ite h.wr h))

/-! ### LinkBase -/

theorem modLink (h : s.Keeps t) {n : Fin 4} {f : LinkRun → LinkRun} : s.Keeps (t.modLink n f) :=
  h.modCh
theorem modMask (h : s.Keeps t) {n : Fin 4} {f : MaskRun → MaskRun} : s.Keeps (t.modMask n f) :=
  h.modCh
theorem modSrc (h : s.Keeps t) {n : Fin 4} {f : SrcRun → SrcRun} : s.Keeps (t.modSrc n f) :=
  h.modCh
theorem send (h : s.Keeps t) {n : Fin 4} {typ : Nat} {payload : List Byte} : s.Keeps (t.send n typ payload) :=
  .ite h h.modLink
theorem mgmt (h : s.Keeps t) {n : Fin 4} {cmd : Nat} {args : List Byte} : s.Keeps (t.mgmt n cmd args) := h.send

/-! ### Masks -/

theorem mskStatus (h : s.Keeps t) {n : Fin 4} : s.Keeps (t.mskStatus n) := h.wr.wrB
theorem sendHard (h : s.Keeps t) {n : Fin 4} {k : Nat} : s.Keeps (t.sendHard n k) :=
  .ite h (.ite h.send.incSat.modMask h.modMask)
theorem hardChanged (h : s.Keeps t) {n : Fin 4} {k cause : Nat} : s.Keeps (t.hardChanged n k cause) :=
  h.incWrap.wr.wr.wr.modMask.sendHard.mskStatus
theorem queueReload (h : s.Keeps t) {n : Fin 4} {k : Nat} : s.Keeps (t.queueReload n k) := by
  unfold State.queueReload
  exact .ite (by
    split
    · exact h
    · exact h.modMask.wr) h
theorem replayReload (h : s.Keeps t) {n : Fin 4} {k : Nat} : s.Keeps (t.replayReload n k) := .ite h.queueReload h
theorem hardEmpty (h : s.Keeps t) {n : Fin 4} {k cause : Nat} : s.Keeps (t.hardEmpty n k cause) :=
  (h.wr.wr.foldl fun _ _ h => h.put).hardChanged
theorem hardWrite (h : s.Keeps t) {n : Fin 4} {r : List Byte} {cause : Nat} : s.Keeps (t.hardWrite n r cause) :=
  (h.queueReload.foldl fun _ _ h => h.put).wr.wr.modMask.hardChanged
theorem maskAccept (h : s.Keeps t) {n : Fin 4} {r : List Byte} {cause : Nat} : s.Keeps (t.maskAccept n r cause) := by
  unfold State.maskAccept
  exact h.incWrap.wr.bind fun h => (Keeps.ite (.ite h.queueReload.hardEmpty h.hardChanged) h.hardWrite).modMask
theorem maskDrop (h : s.Keeps t) {r : List Byte} {reason : Nat} : s.Keeps (t.maskDrop r reason) :=
  h.addSat.wr.wr.wr.wr.modMbx.bind fun h => .ite h.errEvent h.errEvent
theorem maskSubmit (h : s.Keeps t) {r : List Byte} {addr : Nat} {crc : Bool} {cause : Nat} :
    s.Keeps (t.maskSubmit r addr crc cause) :=
  .ite h.maskAccept h.maskDrop
theorem softSet (h : s.Keeps t) {n : Fin 4} {c : SoftChg} : s.Keeps (t.softSet n c) := by
  unfold State.softSet
  split
  · exact (h.foldl fun _ _ h => h.put).modMask
  · exact (h.foldl fun _ _ h => h.put).modMask
theorem lifeTick (h : s.Keeps t) {n : Fin 4} {k : Nat} : s.Keeps (t.lifeTick n k) :=
  (Keeps.ite h h.wr).bind fun h => .ite h (.ite h.softSet h.modMask)
theorem maskFrame (h : s.Keeps t) {n : Fin 4} : s.Keeps (t.maskFrame n) :=
  (((h.foldl fun _ _ h => h.lifeTick).foldl fun _ _ h => h.softSet).modMask.foldl fun _ _ h => .ite
    h.replayReload.hardEmpty h).wr
theorem maskLatch (h : s.Keeps t) {n : Fin 4} : s.Keeps (t.maskLatch n) := by
  unfold State.maskLatch
  exact h.modMask
theorem maskResend (h : s.Keeps t) {n : Fin 4} : s.Keeps (t.maskResend n) := h.foldl fun _ _ h => .ite h.sendHard h
theorem maskStop (h : s.Keeps t) {n : Fin 4} : s.Keeps (t.maskStop n) :=
  ((h.foldl fun _ _ h => h.hardEmpty).foldl fun _ _ h => h.softSet).modMask.wr.wr.logEvent
theorem execMaskInject (h : s.Keeps t) {n : Chan} {v : Word} : s.KeepsOut (execMaskInject n v t) :=
  .next (.ite h.maskSubmit h)
theorem execMaskLifetimeExpiry (h : s.Keeps t) {n : Chan} {slot : Fin 64} :
    s.KeepsOut (execMaskLifetimeExpiry n slot t) :=
  .next (.ite h.replayReload.hardEmpty h)
theorem execMaskAckTimeout (h : s.Keeps t) {n : Chan} {slot : Fin 64} : s.KeepsOut (execMaskAckTimeout n slot t) :=
  .next (.ite h.errEvent.incSat.sendHard h)
theorem maskAck (h : s.Keeps t) {n : Fin 4} {slot gen : Nat} : s.Keeps (t.maskAck n slot gen) :=
  h.wr.bind fun h => .ite h.wr.wr.modLink.modMask.mskStatus h.mskStatus

/-! ### Source -/

theorem blockEvent (h : s.Keeps t) {base code sev a b : Nat} : s.Keeps (t.blockEvent base code sev a b) :=
  .ite h.errEvent h.logEvent
theorem setLampEn (h : s.Keeps t) {n : Fin 4} {high : Bool} : s.Keeps (t.setLampEn n high) :=
  (Keeps.ite h h.modPins).wrB.wrB
theorem lampUpdate (h : s.Keeps t) {n : Fin 4} : s.Keeps (t.lampUpdate n) := h.setLampEn
theorem chnOe (h : s.Keeps t) {n : Fin 4} : s.Keeps (t.chnOe n) := h.modPins.wrB
theorem reportCommand (h : s.Keeps t) {n : Fin 4} : s.Keeps (t.reportCommand n) :=
  h.wr.wrB.wr.wr.wr.foldl fun _ _ h => h.wr.wr
theorem unparkStopped (h : s.Keeps t) {n : Fin 4} : s.Keeps (t.unparkStopped n) := .ite h.modSrc.wr.chnOe h
theorem controlSlot (h : s.Keeps t) {n : Fin 4} : s.Keeps (t.controlSlot n) :=
  h.wr.unparkStopped.lampUpdate.bind fun h => .ite h.reportCommand.modLink.nextFree (.ite h.modLink h)
theorem sendAmp (h : s.Keeps t) {n : Fin 4} {words : List Nat} {gen k : Nat} : s.Keeps (t.sendAmp n words gen k) :=
  h.send
theorem ampTransfer (h : s.Keeps t) {n : Fin 4} : s.Keeps (t.ampTransfer n) :=
  .ite h (h.modSrc.foldl fun _ _ h => h.sendAmp)
theorem tgenRaise (h : s.Keeps t) {n : Fin 4} : s.Keeps (t.tgenRaise n) := by
  unfold State.tgenRaise
  split
  · exact .ite h.wr.modSrc.modLink h
  · exact h
theorem ampFrame (h : s.Keeps t) {n : Fin 4} : s.Keeps (t.ampFrame n) := by
  unfold State.ampFrame
  split
  · exact h.modSrc.bind fun h₁ => .ite h₁.tgenRaise ((Keeps.ite h₁ h₁.blockEvent).foldl fun _ _ h => .ite h h.sendAmp)
  · exact h
theorem tableAck (h : s.Keeps t) {n : Fin 4} {k g : Nat} : s.Keeps (t.tableAck n k g) := by
  unfold State.tableAck
  exact (Keeps.ite h.modLink h).bind fun h₁ => by
    extract_lets
    split
    · exact .ite (h₁.modSrc.bind fun h => .ite h.wr h) h₁
    · exact h₁
theorem ampResend (h : s.Keeps t) {n : Fin 4} : s.Keeps (t.ampResend n) := by
  unfold State.ampResend
  exact (h.foldl fun _ _ h => h.sendAmp).bind fun h₁ => by
    extract_lets
    split
    · exact h₁.foldl fun _ _ h => h.sendAmp
    · exact h₁
theorem tempCheck (h : s.Keeps t) {n : Fin 4} : s.Keeps (t.tempCheck n) := by
  unfold State.tempCheck
  exact .ite h (by
    extract_lets
    split
    · exact .ite h h.modSrc.wr.blockEvent
    · exact .ite h.modSrc.wr.blockEvent h)
theorem setF (h : s.Keeps t) {n : Fin 4} {f : Nat} : s.Keeps (t.setF n f) :=
  h.modSrc.wrB.bind fun h => .ite h.blockEvent (.ite h.blockEvent h)
theorem derateEval (h : s.Keeps t) {n : Fin 4} : s.Keeps (t.derateEval n) := by
  unfold State.derateEval
  exact .ite h (h.tempCheck.bind fun h => by
    extract_lets
    split
    · exact h
    · exact h.modSrc.setF)
theorem lawUpdate (h : s.Keeps t) {n : Fin 4} {was : Bool} : s.Keeps (t.lawUpdate n was) :=
  h.wrB.bind fun h => .ite h (Keeps.ite h h.setF).modSrc.wr
theorem lampMismatch (h : s.Keeps t) {n : Fin 4} : s.Keeps (t.lampMismatch n) := h.modPins.wrB.wr.blockEvent
theorem execLampEnMismatch (h : s.Keeps t) {n : Chan} : s.KeepsOut (execLampEnMismatch n t) :=
  .next (.ite h h.lampMismatch)
theorem execDerateEvaluation (h : s.Keeps t) {n : Chan} : s.KeepsOut (execDerateEvaluation n t) :=
  .next (.ite h h.derateEval)
theorem execTempInputLoss (h : s.Keeps t) {n : Chan} : s.KeepsOut (execTempInputLoss n t) :=
  .next (.ite h h.modSrc.tempCheck)

/-! ### Chains -/

theorem modChn (h : s.Keeps t) {n : Fin 4} {f : ChnRun → ChnRun} : s.Keeps (t.modChn n f) :=
  h.modCh
theorem latPulse (h : s.Keeps t) {n : Fin 4} {reset : Bool} : s.Keeps (t.latPulse n reset) := h.modPins.modChn
theorem rollCall (h : s.Keeps t) {n : Fin 4} {offKhz ratio : Nat} {i : RollIn} :
    s.Keeps (t.rollCall n offKhz ratio i) :=
  (h.latPulse.modChn.foldl fun _ _ h => h.wr).wr.bind fun h₁ => (Keeps.ite h₁.wr.wr.wr h₁.wr.wr.wr).wr.wr.wr.bind
    fun h => .ite h h.blockEvent
theorem levelTick (h : s.Keeps t) {n : Fin 4} {g : Nat} : s.Keeps (t.levelTick n g) :=
  .ite h.wr.modChn (.ite h h.wr.modChn)
theorem levelNew (h : s.Keeps t) {n : Fin 4} {g : Nat} : s.Keeps (t.levelNew n g) := h.modChn
theorem chnSync (h : s.Keeps t) {n : Fin 4} : s.Keeps (t.chnSync n) := (Keeps.ite h.wr h.wr.wr.wr.modChn).chnOe
theorem bankSet (h : s.Keeps t) {n : Fin 4} {b p v : Nat} : s.Keeps (t.bankSet n b p v) := h.modChn
theorem bankFill (h : s.Keeps t) {n : Fin 4} {b : Nat} {vs : List Nat} : s.Keeps (t.bankFill n b vs) :=
  h.foldl fun _ _ h => h.bankSet
theorem seqFill (h : s.Keeps t) {n : Fin 4} : s.Keeps (t.seqFill n) :=
  .ite (.ite h (.ite h.portRead.portRead h.bankFill.wr.modChn)) h
theorem bankExchange (h : s.Keeps t) {n : Fin 4} : s.Keeps (t.bankExchange n) := h.wr.wr.modChn.seqFill
theorem reloadBank (h : s.Keeps t) {n : Fin 4} : s.Keeps (t.reloadBank n) :=
  .ite h (.ite h.bankExchange (.ite h.logEvent.incSat.seqFill h))
theorem unverCount (h : s.Keeps t) {n : Fin 4} : s.Keeps (t.unverCount n) := h.wr
theorem reloadStart (h : s.Keeps t) {n : Fin 4} : s.Keeps (t.reloadStart n) := by
  unfold State.reloadStart
  exact h.reloadBank.incWrap.wr.addSat.modChn
theorem chainLatch (h : s.Keeps t) {n : Fin 4} : s.Keeps (t.chainLatch n) := h.wr.latPulse.modChn.chnOe
theorem swapPoint (h : s.Keeps t) {n : Fin 4} : s.Keeps (t.swapPoint n) :=
  (h.foldl fun _ _ h => h.levelTick).bind fun h₂ => .ite h₂ ((Keeps.ite h₂.chainLatch h₂).bind fun h₁ =>
    (Keeps.ite h₁.modChn h₁).bind fun h => (Keeps.ite h h.reloadStart).modChn)
theorem retErr (h : s.Keeps t) {n : Fin 4} {addr kind : Nat} : s.Keeps (t.retErr n addr kind) :=
  h.blockEvent.incSat.wr.wr.wr
theorem groupOff (h : s.Keeps t) {n : Fin 4} {g p : Nat} : s.Keeps (t.groupOff n g p) :=
  h.blockEvent.wr.bind fun h₁ => .ite (h₁.foldl fun _ _ h => .ite h.wr h) h₁
theorem confirmFault (h : s.Keeps t) {n : Fin 4} {p kind : Nat} : s.Keeps (t.confirmFault n p kind) :=
  h.blockEvent.foldl fun _ _ h => h.groupOff
theorem detect (h : s.Keeps t) {n : Fin 4} {p kind : Nat} {valid flag : Bool} :
    s.Keeps (t.detect n p kind valid flag) :=
  .ite h (.ite h.modChn (.ite h (.ite h.modChn.confirmFault h.modChn)))
theorem posStatus (h : s.Keeps t) {n : Fin 4} {p : Nat} {openB shortB validB probed : Bool} :
    s.Keeps (t.posStatus n p openB shortB validB probed) :=
  (Keeps.ite h.modChn h).detect.detect
theorem driverStatus (h : s.Keeps t) {n : Fin 4} {d : Nat} {w : List Nat} : s.Keeps (t.driverStatus n d w) :=
  h.wr.bind fun h₂ => (Keeps.ite h₂.blockEvent h₂).foldl fun _ _ h₁ => h₁.foldl fun _ _ h => h.posStatus
theorem retFrame (h : s.Keeps t) {n : Fin 4} {d : Nat} {f : List Nat} : s.Keeps (t.retFrame n d f) := by
  unfold State.retFrame
  split
  · exact .ite h.drillDone.retErr (.ite h.retErr (.ite h.retErr h.driverStatus))
  · exact h.retErr
theorem retWord (h : s.Keeps t) {n : Fin 4} {f : List Nat} : s.Keeps (t.retWord n f) := by
  unfold State.retWord
  split
  · exact h.retErr
  · exact .ite h (.ite h.retErr h.retErr)
theorem retTail (h : s.Keeps t) {n : Fin 4} {f : List Nat} : s.Keeps (t.retTail n f) := by
  unfold State.retTail
  split
  · exact h.retErr
  · exact .ite h h.retErr
theorem reloadComplete (h : s.Keeps t) {n : Fin 4} {fs : List (List Nat)} : s.Keeps (t.reloadComplete n fs) :=
  .ite h (h.wr.wr.incSat.modChn.retWord.foldl fun _ _ h => h.retFrame).retTail.unverCount
theorem auditEnd (h : s.Keeps t) {n : Fin 4} : s.Keeps (t.auditEnd n) := by
  unfold State.auditEnd
  split
  · exact h
  · exact .ite h (h.foldl fun _ _ h => h.blockEvent.modChn).modChn.unverCount
theorem chnMemWrite (h : s.Keeps t) {n : Fin 4} {v : Nat} : s.Keeps (t.chnMemWrite n v) :=
  (Keeps.ite h.report0108 (.ite h.bankSet h)).wr
theorem chnCtrlWrite (h : s.Keeps t) {n : Fin 4} {v : Nat} : s.Keeps (t.chnCtrlWrite n v) := h.plainWrite.chnSync
theorem chnCommit (h : s.Keeps t) {n : Fin 4} : s.Keeps (t.chnCommit n) :=
  h.setActv.bind fun h₁ => (Keeps.ite h₁ h₁.modChn.wr.seqFill).bind fun h => .ite h h.modChn.unverCount
theorem seqEdge (h : s.Keeps t) {n : Fin 4} : s.Keeps (t.seqEdge n) := .ite h.modChn.seqFill h
theorem execChainReloadComplete (h : s.Keeps t) {n : Chan} {frames : List (List Nat)} :
    s.KeepsOut (execChainReloadComplete n frames t) :=
  .next (.ite h h.reloadComplete)
theorem execAuditWindowEnd (h : s.Keeps t) {n : Chan} : s.KeepsOut (execAuditWindowEnd n t) :=
  .next (.ite h h.auditEnd)
theorem execChainSwapWaitTimeout (h : s.Keeps t) {n : Chan} : s.KeepsOut (execChainSwapWaitTimeout n t) :=
  .next (.ite h.blockEvent.modChn h)
theorem execChainMemWrite (h : s.Keeps t) {n : Chan} {v : Word} : s.KeepsOut (execChainMemWrite n v t) :=
  .next (.ite h h.chnMemWrite)

/-! ### Timetable -/

theorem ttWriteField (h : s.Keeps t) {n : Fin 4} {b f : Nat} {xs : List Slot} : s.Keeps (t.ttWriteField n b f xs) :=
  h.foldl fun _ _ h => h.put.put

/-! ### Tutor -/

theorem modTut (h : s.Keeps t) {n : Fin 4} {f : TutRun → TutRun} : s.Keeps (t.modTut n f) :=
  h.modCh
theorem modCtx (h : s.Keeps t) {n c : Fin 4} {f : CtxRun → CtxRun} : s.Keeps (t.modCtx n c f) :=
  h.modTut
theorem setX (h : s.Keeps t) {n c : Fin 4} {i : Nat} {v : Int} : s.Keeps (t.setX n c i v) := h.put.put
theorem satEvent (h : s.Keeps t) {n c : Fin 4} {kind b : Nat} : s.Keeps (t.satEvent n c kind b) := h.wr.blockEvent
theorem satEvents (h : s.Keeps t) {n c : Fin 4} {kind b : Nat} {raw sat : List Int} :
    s.Keeps (t.satEvents n c kind b raw sat) :=
  h.foldl fun _ _ h => .ite h h.satEvent
theorem present (h : s.Keeps t) {n c : Fin 4} {i : Nat} {v : Int} : s.Keeps (t.present n c i v) := h.modCtx
theorem zfwWrite (h : s.Keeps t) {n c : Fin 4} {i v : Nat} : s.Keeps (t.zfwWrite n c i v) :=
  h.wr.modCtx.bind fun h => .ite h.present h
theorem litKeep (h : s.Keeps t) {n : Fin 4} : s.Keeps (t.litKeep n) := h.modTut
theorem sensorPacket (h : s.Keeps t) {n : Fin 4} {stamp : Nat} {p : List Byte} :
    s.Keeps (t.sensorPacket n stamp p) := by
  unfold State.sensorPacket
  exact (h.foldl fun _ _ h₁ => h₁.foldl fun _ _ h => .ite h.present h).bind fun h => by
    extract_lets
    split
    · exact .ite h.wr.modSrc.tempCheck h
    · exact h
theorem injTick (h : s.Keeps t) {n c : Fin 4} : s.Keeps (t.injTick n c).1 := by
  unfold State.injTick
  exact .iteFst (.fst h) (.iteFst (.fst h.wr.wr) (.iteFst (.fst h) (.iteFst (.fst h)
    ((Keeps.ite h.wr.modTut h).bind fun h₁ => (Keeps.ite h₁.modTut h₁).modTut.incSat.nextFree.bind fun h => .fst
    (Keeps.ite h.wr.wr h)))))
theorem converted (h : s.Keeps t) {n c : Fin 4} {u x : List Int} : s.Keeps (t.converted n c u x).1 :=
  .fst h.satEvents.satEvents
theorem setFrozen (h : s.Keeps t) {n c : Fin 4} {b : Bool} : s.Keeps (t.setFrozen n c b) := .ite h h.wrB.wr.blockEvent
theorem traceTick (h : s.Keeps t) {n c : Fin 4} {began : Bool} : s.Keeps (t.traceTick n c began).1 := by
  unfold State.traceTick
  exact .iteFst (.fst h) ((Keeps.ite h.wr.modTut.modCtx h).bind fun h => .iteFst (.fst h.modCtx) (.fst h))
theorem innovation (h : s.Keeps t) {n c : Fin 4} {i : Nat} {e : Int} : s.Keeps (t.innovation n c i e).1 := by
  unfold State.innovation
  exact .iteFst (.fst h.wr.blockEvent) (.fst h)
/-- The steps of R308 one after the other: sampling and freezing, the injection, the control law with its drill, the
innovations, the new state, the conversion and the trace. -/
theorem keptBy_tutorStep (s : State) : s.KeptBy State.tutorStep := by
  delta State.tutorStep
  refine ⟨fun t n c h => ?_⟩
  extract_lets nx nz nu ins used allAbsent absent s₁ s₂ run fz frozen x s₃ s₄ f r0 y0 st0
  have h₄ : s.Keeps s₄ := h.wr.incWrap.modCtx.setFrozen
  clear_value s₄
  split
  next s₅ w hinj =>
  have h₅ : s.Keeps s₅ := h₄.injTick.ofPair hinj
  extract_lets began r u routes y s₆ ur trip ur' s₇ s₈ ui s₉ u'
  split
  · split
    next htrace => exact (h₅.traceTick.ofPair htrace).modCtx
  · have h₉ : s.Keeps s₉ := (Keeps.ite h₅.modCtx.drillDone.nextFree h₅.modCtx).satEvents.satEvents
    clear_value s₉
    split
    next s₁₀ e hinn =>
    have h₁₀ : s.Keeps s₁₀ :=
      ((h₉.fst (x := [])).foldlFst fun _ _ h => .iteFst (.fst h) (.fst h.innovation)).ofPair hinn
    extract_lets xr s₁₁ xi s₁₂ xn
    have h₁₂ : s.Keeps s₁₂ := h₁₀.satEvents.satEvents
    clear_value s₁₂
    split
    next s₁₃ _ hconv =>
    have h₁₃ : s.Keeps s₁₃ := h₁₂.converted.ofPair hconv
    split
    next s₁₄ _ htrace =>
    have h₁₄ : s.Keeps s₁₄ := h₁₃.traceTick.ofPair htrace
    exact (h₁₄.foldl fun _ _ h => h.setX).modCtx
theorem tutorStep (h : s.Keeps t) {n c : Fin 4} : s.Keeps (t.tutorStep n c) := (keptBy_tutorStep s).keeps t n c h
theorem tutorLatch (h : s.Keeps t) {n c : Fin 4} : s.Keeps (t.tutorLatch n c) := .ite h.tutorStep h
theorem trimWrite (h : s.Keeps t) {n : Fin 4} {key level : Nat} {w : Int} : s.Keeps (t.trimWrite n key level w) :=
  .ite h.incSat (Keeps.ite h h.incSat).modTut
theorem destWrite (h : s.Keeps t) {n c : Fin 4} {ix dest srcs level fmask : Nat} {w : Int} :
    s.Keeps (t.destWrite n c ix dest srcs level fmask w) := by
  unfold State.destWrite
  split
  · exact h.modSrc
  · exact h.modTut
  · exact h.foldl fun _ _ h₁ => .ite (h₁.foldl fun _ _ h => .ite h.trimWrite h) h₁
  · exact h.modTut
  · exact h.modTut
  · exact h
theorem traceRecord (h : s.Keeps t) {n : Fin 4} {r : Rel} : s.Keeps (t.traceRecord n r) :=
  .ite h (.ite h.wr.wr ((h.foldl fun _ _ h => h.put).bind fun h₂ => (Keeps.ite h₂.wr h₂).bind fun h₁ =>
    (Keeps.ite h₁.wr h₁).wr.bind fun h => .ite h.wr.wr h))
theorem tutorRelease (h : s.Keeps t) {n c : Fin 4} : s.Keeps (t.tutorRelease n c) := by
  unfold State.tutorRelease
  split
  · exact h
  · exact h.modCtx.bind fun h₁ => .ite h₁ ((((h₁.foldl fun _ _ h => h.put).foldl fun _ _ h => h.destWrite).foldl
      fun _ _ h => h.destWrite).bind fun h => .ite h.traceRecord h)
theorem alignUpdate (h : s.Keeps t) {n c : Fin 4} : s.Keeps (t.alignUpdate n c) := h.wrB.wr
theorem ctxRunning (h : s.Keeps t) {n c : Fin 4} {b : Bool} : s.Keeps (t.ctxRunning n c b) := h.wrB.wrB.wr
theorem juncClear (h : s.Keeps t) {n c : Fin 4} : s.Keeps (t.juncClear n c) := h.modTut
theorem ctxEnable (h : s.Keeps t) {n c : Fin 4} : s.Keeps (t.ctxEnable n c) :=
  ((h.foldl fun _ _ h => h.setX).wr.wr.foldl fun _ _ h => h.wr).wr.modCtx.juncClear.alignUpdate.ctxRunning
theorem ctxDisable (h : s.Keeps t) {n c : Fin 4} : s.Keeps (t.ctxDisable n c) := h.juncClear.modCtx.ctxRunning
theorem tutorAllOff (h : s.Keeps t) {keep : Bool} : s.Keeps (t.tutorAllOff keep) :=
  h.foldl fun _ _ h₂ => h₂.foldl fun _ _ h₁ => (Keeps.ite h₁.modCtx h₁).bind fun h => .ite h.ctxDisable h
theorem tutorBack (h : s.Keeps t) : s.Keeps t.tutorBack :=
  h.foldl fun _ _ h₁ => h₁.foldl fun _ _ h => .ite h.modCtx.ctxEnable h
theorem ctxCtrlWrite (h : s.Keeps t) {n c : Fin 4} {v : Nat} : s.Keeps (t.ctxCtrlWrite n c v) :=
  h.plainWrite.bind fun h => .ite h.ctxEnable (.ite h.ctxDisable h)
theorem trcCfgWrite (h : s.Keeps t) {n : Fin 4} {v : Nat} : s.Keeps (t.trcCfgWrite n v) :=
  h.plainWrite.bind fun h => (Keeps.ite h.put.wr.wr.modTut h).wrB
theorem injCfgWrite (h : s.Keeps t) {n : Fin 4} {v : Nat} : s.Keeps (t.injCfgWrite n v) :=
  h.plainWrite.bind fun h => .ite (.ite h.wrB h.wr.wr.modTut) h.wrB
theorem injTableWrite (h : s.Keeps t) {n : Fin 4} {e v : Nat} : s.Keeps (t.injTableWrite n e v) :=
  .ite h (.ite h.report0108 h.put)
theorem pitchFrame (h : s.Keeps t) {can id : Nat} {bytes : List Byte} : s.Keeps (t.pitchFrame can id bytes) := by
  unfold State.pitchFrame
  exact .ite h (h.foldl fun _ _ h₁ => by
    split
    · exact .ite (h₁.modTut.foldl fun _ _ h => h.zfwWrite) h₁
    · exact h₁)
theorem pitchTimeout (h : s.Keeps t) {n : Fin 4} : s.Keeps (t.pitchTimeout n) := by
  unfold State.pitchTimeout
  split
  · exact .ite (h.foldl fun _ _ h => .ite h h.modCtx.blockEvent) h
  · exact h
theorem execTutorLatch (h : s.Keeps t) {n : Chan} {c : Fin 4} : s.KeepsOut (execTutorLatch n c t) :=
  .next (.ite h h.tutorLatch)
theorem execTutorRelease (h : s.Keeps t) {n : Chan} {c : Fin 4} : s.KeepsOut (execTutorRelease n c t) :=
  .next (.ite h h.tutorRelease)
theorem execPitchFrame (h : s.Keeps t) {can : Duo} {id : Nat} {bytes : List Byte} :
    s.KeepsOut (execPitchFrame can id bytes t) :=
  .next h.pitchFrame
theorem execPitchTimeout (h : s.Keeps t) {n : Chan} : s.KeepsOut (execPitchTimeout n t) := .next h.pitchTimeout
theorem execTraceArm (h : s.Keeps t) {n : Chan} {v : Word} : s.KeepsOut (execTraceArm n v t) :=
  .next (.ite h h.trcCfgWrite)
theorem execInjectionGo (h : s.Keeps t) {n : Chan} {v : Word} : s.KeepsOut (execInjectionGo n v t) :=
  .next (.ite h h.injCfgWrite)
theorem execInjTableWrite (h : s.Keeps t) {n : Chan} {e : Nat} {v : Word} : s.KeepsOut (execInjTableWrite n e v t) :=
  .next (.ite h h.injTableWrite)

/-! ### Compose -/

theorem patternCheck (h : s.Keeps t) {n : Fin 4} {size : Option (Nat × Nat)} : s.Keeps (t.patternCheck n size) := h.wrB
theorem modLay (h : s.Keeps t) {n x : Fin 4} {f : LayerRun → LayerRun} : s.Keeps (t.modLay n x f) :=
  h.modCh
theorem trajLoad (h : s.Keeps t) {n : Fin 4} : s.Keeps (t.trajLoad n) := .ite (.ite h.portRead h.modCh) h
theorem drawFrame (h : s.Keeps t) {n : Fin 4} {cols rows fields k : Nat} :
    s.Keeps (t.drawFrame n cols rows fields k) := by
  unfold State.drawFrame
  exact h.portWrite.bind fun h => (Keeps.ite h.portWrite h).modCh
theorem publishFrame (h : s.Keeps t) {n : Fin 4} {d : Drawn} {k : Nat} : s.Keeps (t.publishFrame n d k) := by
  unfold State.publishFrame
  exact (h.foldl fun _ _ h => h.put).put.bind fun h₂ => (Keeps.ite h₂.wr h₂).bind fun h₁ => by
    extract_lets
    split
    · exact (h₁.bankFill.foldl fun _ _ h => h.bankSet).wr
    · exact h₁
theorem markFetched (h : s.Keeps t) {n x : Fin 4} : s.Keeps (t.markFetched n x) := by
  unfold State.markFetched
  split
  · split
    · exact h.setFetched
    · exact h
  · exact h
theorem layerSelect (h : s.Keeps t) {n x : Fin 4} {static : Bool} : s.Keeps (t.layerSelect n x static) := by
  unfold State.layerSelect
  cases t.selectBuffer n x with
  | none =>
    exact h.wrB.wr.wrB.bind fun h => (Keeps.ite h.blockEvent (.ite h.blockEvent h)).bind fun h =>
      (Keeps.ite h h.incSat).bind fun h => (Keeps.ite h.markFetched h).modLay
  | some b =>
    exact (h.wrB.bind fun h => Keeps.ite h.wr.incSat h.wr).wrB.bind fun h =>
      (Keeps.ite h.blockEvent (.ite h.blockEvent h)).bind fun h =>
      (Keeps.ite h h.incSat).bind fun h => (Keeps.ite h.markFetched h).modLay
theorem layerOff (h : s.Keeps t) {n x : Fin 4} : s.Keeps (t.layerOff n x) := by
  unfold State.layerOff
  exact h.wr.wr.modLay
theorem fetchStatus (h : s.Keeps t) {n : Fin 4} : s.Keeps (t.fetchStatus n) := h.wr.wr.wr.wr
theorem workLoad (h : s.Keeps t) {n : Fin 4} : s.Keeps (t.workLoad n) := by
  unfold State.workLoad
  exact (h.foldl fun _ _ h => .ite h.wr h).modCh
theorem layersFresh (h : s.Keeps t) {n : Fin 4} : s.Keeps (t.layersFresh n) := h.foldl fun _ _ h => h.wr.wr
theorem underrun (h : s.Keeps t) {n x : Fin 4} {row : Nat} : s.Keeps (t.underrun n x row) :=
  .ite ((h.blockEvent.incSat.wr.foldl fun _ _ h => h.modLay).modLay.bind fun h =>
    (Keeps.ite h.wr h).fetchStatus.nextFree) h
theorem drillUnderrun (h : s.Keeps t) {n : Fin 4} : s.Keeps (t.drillUnderrun n) := by
  unfold State.drillUnderrun
  split
  · exact .ite h.drillDone.underrun h
  · exact h
theorem composeStart (h : s.Keeps t) {n : Fin 4} : s.Keeps (t.composeStart n) :=
  ((h.modCh.wr.wrB.layersFresh.foldl fun _ _ h => .ite h.layerSelect h.layerOff).foldl fun _ _ h =>
    h.wrB).wr.wrB.fetchStatus.wr.drillUnderrun
theorem layersIdle (h : s.Keeps t) {n : Fin 4} : s.Keeps (t.layersIdle n) :=
  (h.layersFresh.foldl fun _ _ h => h.modLay).fetchStatus.wr
theorem composeIdle (h : s.Keeps t) {n : Fin 4} : s.Keeps (t.composeIdle n) :=
  h.modCh.bind fun h₁ => (Keeps.ite (h₁.foldl fun _ _ h => .ite h.wr h) h₁).layersIdle
theorem composeDraw (h : s.Keeps t) {n : Fin 4} : s.Keeps (t.composeDraw n) := by
  unfold State.composeDraw
  exact .ite h (by
    split
    · exact h
    · exact (h.foldl fun _ _ h => by
        split
        · exact h.portRead.underrun
        · exact h).trajLoad.drawFrame.bind fun h => .ite h.wr h)
theorem underrunNow (h : s.Keeps t) {n x : Fin 4} {row : Nat} : s.Keeps (t.underrunNow n x row) := by
  unfold State.underrunNow
  exact h.underrun.bind fun h => .ite (by
    split
    · exact h.drawFrame
    · exact h) h
theorem composeEnd (h : s.Keeps t) {n : Fin 4} : s.Keeps (t.composeEnd n) := by
  unfold State.composeEnd
  exact .ite h (h.composeDraw.bind fun h₁ => (Keeps.self (by
    split
    · exact h₁.publishFrame
    · exact h₁)).modCh.foldl fun _ _ h => h.modLay)
theorem lutWrite (h : s.Keeps t) {n : Fin 4} {v : Nat} : s.Keeps (t.lutWrite n v) := (Keeps.ite h.report0108 h.modCh).wr
theorem meshWrite (h : s.Keeps t) {n : Fin 4} {v : Nat} : s.Keeps (t.meshWrite n v) :=
  (Keeps.ite h.report0108 (.ite h.modCh h)).wr
theorem coefWrite (h : s.Keeps t) {n : Fin 4} {o v : Nat} : s.Keeps (t.coefWrite n o v) :=
  .ite h (.ite h.report0108 h.put)
theorem ttWrite (h : s.Keeps t) {n : Fin 4} {o v : Nat} : s.Keeps (t.ttWrite n o v) := .ite h (.ite h.report0108 h.put)
theorem sramWrite (h : s.Keeps t) {n : Fin 4} {o : Nat} {bs : List Byte} : s.Keeps (t.sramWrite n o bs) :=
  h.modCh.patternCheck
theorem execCompositionComplete (h : s.Keeps t) {n : Chan} : s.KeepsOut (execCompositionComplete n t) := by
  unfold Machine.execCompositionComplete
  exact .next (.ite (h.composeEnd.wr.bind fun h => by
    extract_lets
    split
    · exact h.wr
    · exact h) h)
theorem execLayerUnderrun (h : s.Keeps t) {n : Chan} {x : Fin 4} {row : Nat} :
    s.KeepsOut (execLayerUnderrun n x row t) :=
  .next (.ite h h.underrunNow)
theorem execLutPortWrite (h : s.Keeps t) {n : Chan} {v : Word} : s.KeepsOut (execLutPortWrite n v t) :=
  .next (.ite h h.lutWrite)
theorem execMeshPortWrite (h : s.Keeps t) {n : Chan} {v : Word} : s.KeepsOut (execMeshPortWrite n v t) :=
  .next (.ite h h.meshWrite)
theorem execCoefRamWrite (h : s.Keeps t) {n : Chan} {off : Nat} {v : Word} : s.KeepsOut (execCoefRamWrite n off v t) :=
  .next (.ite h h.coefWrite)
theorem execTimetableRamWrite (h : s.Keeps t) {n : Chan} {off : Nat} {v : Word} :
    s.KeepsOut (execTimetableRamWrite n off v t) :=
  .next (.ite h h.ttWrite)

/-! ### Bpf -/

theorem modBpf (h : s.Keeps t) {n : Fin 4} {f : BpfRun → BpfRun} : s.Keeps (t.modBpf n f) :=
  h.modCh
theorem slotTick (h : s.Keeps t) {n : Fin 4} : s.Keeps (t.slotTick n) := by
  unfold State.slotTick
  exact .ite h (by
    split
    · exact h.wr
    · exact h)
theorem latchTrims (h : s.Keeps t) {n : Fin 4} {f : Nat} : s.Keeps (t.latchTrims n f) := h.foldl fun _ _ h => h.put
theorem truncated (h : s.Keeps t) {n : Fin 4} {g : Nat} : s.Keeps (t.truncated n g) := by
  unfold State.truncated
  exact .ite h (by
    split
    · exact h.incSat.blockEvent
    · exact h)
theorem fieldRetimed (h : s.Keeps t) {n : Fin 4} : s.Keeps (t.fieldRetimed n) :=
  h.put.bind fun h => .ite h.modTut.modLink h
theorem nodeReady (h : s.Keeps t) {n : Fin 4} : s.Keeps (t.nodeReady n) := .ite h.modLink h
theorem fieldStart (h : s.Keeps t) {n : Fin 4} : s.Keeps (t.fieldStart n) :=
  .ite h ((Keeps.ite h h.truncated).litKeep.fieldRetimed.nodeReady.modBpf.wr.wr.latchTrims.modCh.tgenRaise.bind
    fun h₃ => (Keeps.ite (h₃.wr.bind fun h₂ => .ite h₂ (h₂.send.bind fun h₁ => .ite
    (h₁.send.bind fun h => .ite h.maskResend h) (.ite (Keeps.ite h₁.incSat h₁).send.modBpf h₁))) h₃.wr).lampUpdate)
theorem expandReloads (h : s.Keeps t) {n : Fin 4} : s.Keeps (t.expandReloads n) := by
  unfold State.expandReloads
  exact h.modMask.modBpf
theorem blockLost (h : s.Keeps t) {n : Fin 4} {m b : Nat} : s.Keeps (t.blockLost n m b) := h.incSat.blockEvent
theorem sendBlock (h : s.Keeps t) {n : Fin 4} {m f p b flags : Nat} : s.Keeps (t.sendBlock n m f p b flags) :=
  .ite h.portRead.blockLost h.send
theorem sendReload (h : s.Keeps t) {n : Fin 4} {m b : Nat} : s.Keeps (t.sendReload n m b) := by
  unfold State.sendReload
  split
  · exact h.sendBlock.incSat
  · exact h
theorem sendReloads (h : s.Keeps t) {n : Fin 4} {k : Nat} : s.Keeps (t.sendReloads n k) :=
  (h.foldl fun _ _ h => h.sendReload).modBpf.wrB
theorem idleReloads (h : s.Keeps t) {n : Fin 4} : s.Keeps (t.idleReloads n) := .ite h.sendReloads h
theorem blockSend (h : s.Keeps t) {n : Fin 4} : s.Keeps (t.blockSend n) := by
  unfold State.blockSend
  exact h.expandReloads.bind fun h₁ => by
    extract_lets
    split
    · exact .ite (h₁.foldl fun _ _ h => h.sendBlock).modBpf.sendReloads h₁.idleReloads
    · exact h₁.idleReloads
theorem blockMiss (h : s.Keeps t) {n : Fin 4} {m b : Nat} : s.Keeps (t.blockMiss n m b) := .ite h.modBpf.blockLost h
theorem scanLine (h : s.Keeps t) {n : Fin 4} {complete : Bool} : s.Keeps (t.scanLine n complete) :=
  .ite (h.modBpf.bind fun h => .ite h.send h.blockEvent) h
theorem replayStop (h : s.Keeps t) {n : Fin 4} {cause : Nat} : s.Keeps (t.replayStop n cause) := .ite h.send.modBpf h
theorem cacheAck (h : s.Keeps t) {n : Fin 4} {f p : Nat} : s.Keeps (t.cacheAck n f p) :=
  .ite (h.modBpf.bind fun h => .ite h.send.modBpf h) h
theorem replayQuit (h : s.Keeps t) {n : Fin 4} {cause : Nat} : s.Keeps (t.replayQuit n cause) :=
  h.replayStop.modBpf.bind fun h₁ => (Keeps.ite h₁.wr h₁).bind fun h => .ite h.logEvent h
theorem replayEnable (h : s.Keeps t) {n : Fin 4} : s.Keeps (t.replayEnable n) :=
  .ite h (h.setRegs (swf_sset _ _ _)).setPend.setComp.setStrm.modCh
theorem replayFrame (h : s.Keeps t) {n : Fin 4} {fresh : Bool} : s.Keeps (t.replayFrame n fresh) :=
  h.replayEnable.bind fun h₁ => (Keeps.ite h₁.replayQuit (.ite (h₁.modBpf.bind fun h => .ite h.wr h) h₁)).bind fun h =>
    .ite h.modBpf h
theorem bpfFrame (h : s.Keeps t) {n : Fin 4} {fresh : Bool} : s.Keeps (t.bpfFrame n fresh) :=
  h.put.put.replayFrame.modBpf.modMask.bind fun h => .ite h h.modMask.wr
theorem execFieldStart (h : s.Keeps t) {n : Chan} : s.KeepsOut (execFieldStart n t) := .next (.ite h h.fieldStart)
theorem execBlockPacketSend (h : s.Keeps t) {n : Chan} : s.KeepsOut (execBlockPacketSend n t) :=
  .next (.ite h h.blockSend)
theorem execBlockDeadlineMiss (h : s.Keeps t) {n : Chan} {slot blk : Nat} :
    s.KeepsOut (execBlockDeadlineMiss n slot blk t) :=
  .next (.ite h h.blockMiss)
theorem execScanLineStart (h : s.Keeps t) {n : Chan} {complete : Bool} : s.KeepsOut (execScanLineStart n complete t) :=
  .next (.ite h h.scanLine)
theorem execControlSlot (h : s.Keeps t) {n : Chan} : s.KeepsOut (execControlSlot n t) :=
  .next (.ite h h.controlSlot.slotTick)

/-! ### Link -/

theorem setNeg (h : s.Keeps t) {n : Fin 4} {g : Option Neg} : s.Keeps (t.setNeg n g) := h.modLink
theorem linkTiming (h : s.Keeps t) {n : Fin 4} : s.Keeps (t.linkTiming n) := h.wr.wr
theorem setLinkMode (h : s.Keeps t) {n : Fin 4} {lanes rate back : Nat} : s.Keeps (t.setLinkMode n lanes rate back) :=
  h.wr.wr.wr.linkTiming
theorem negDone (h : s.Keeps t) {n : Fin 4} {st detail : Nat} : s.Keeps (t.negDone n st detail) := by
  unfold State.negDone
  split
  · exact h.setNeg.doneOpt
  · exact h
theorem linkDown (h : s.Keeps t) {n : Fin 4} {reason : Nat} : s.Keeps (t.linkDown n reason) :=
  h.wr.wr.blockEvent.negDone
theorem sendSync (h : s.Keeps t) {n : Fin 4} : s.Keeps (t.sendSync n) := h.mgmt
theorem sendTrain (h : s.Keeps t) {n : Fin 4} {cmd : Nat} {g : Neg} {phase : Nat} :
    s.Keeps (t.sendTrain n cmd g phase) :=
  h.mgmt
theorem negStart (h : s.Keeps t) {n : Fin 4} {g : Neg} : s.Keeps (t.negStart n g) := h.setNeg.mgmt.mgmt
theorem negotiate (h : s.Keeps t) {n : Fin 4} {cause : Nat} {tag : Option Tag} : s.Keeps (t.negotiate n cause tag) :=
  h.replayStop.linkClk.wr.wr.setLinkMode.modLink.put.bind fun h => .ite h.negStart h.setNeg
theorem showBest (h : s.Keeps t) {n : Fin 4} {rate lanes back : Nat} {table : List (Nat × Nat)} :
    s.Keeps (t.showBest n rate lanes back table) := by
  unfold State.showBest
  exact h.wr.wr.wr.wr.wr.modLink
theorem setLimit (h : s.Keeps t) {n : Fin 4} {lanes rate back : Nat} : s.Keeps (t.setLimit n lanes rate back) :=
  h.wr.wr.wr
theorem negNext (h : s.Keeps t) {n : Fin 4} {g : Neg} : s.Keeps (t.negNext n g) := by
  unfold State.negNext
  extract_lets
  split
  · exact .ite h.showBest.linkDown (h.showBest.setLimit.bind fun h => .ite h.setNeg.sendSync h.setNeg.sendTrain)
  · exact .ite (.ite h.showBest.linkDown (h.showBest.setLimit.bind fun h => .ite h.setNeg.sendSync h.setNeg.sendTrain))
      h.setNeg.sendTrain
theorem backCapability (h : s.Keeps t) {n : Fin 4} {b : List Byte} : s.Keeps (t.backCapability n b) := by
  unfold State.backCapability
  split
  · exact .ite h (.ite h.linkDown (h.foldl fun _ _ h => h.put).modLink.setNeg.sendSync)
  · exact h
theorem check442 (h : s.Keeps t) {n : Fin 4} : s.Keeps (t.check442 n) := .ite (.ite h h.modLink.logEvent) h
theorem retimed (h : s.Keeps t) {n : Fin 4} : s.Keeps (t.retimed n) := by
  unfold State.retimed
  split
  · exact h
  · exact h.setStrm.setComp.bind fun h₁ => by
      extract_lets
      split
      · exact .ite h₁ (h₁.foldl fun _ _ h => h.ttWriteField).modLink
      · exact h₁
theorem linkComplete (h : s.Keeps t) {n : Fin 4} {g : Neg} : s.Keeps (t.linkComplete n g) :=
  h.mgmt.nextFree.wr.setLinkMode.modLink.bind fun h => (Keeps.ite h.retimed
    h).send.ampResend.maskResend.mgmt.logEvent.negDone.check442
theorem eqTake (h : s.Keeps t) {n : Fin 4} {ws : List Nat} : s.Keeps (t.eqTake n ws) := h.put.put.put
theorem adaptNow (h : s.Keeps t) {n : Fin 4} {rate : Nat} : s.Keeps (t.adaptNow n rate) := h.modLink.eqTake
theorem eqRestore (h : s.Keeps t) {n : Fin 4} {rate : Nat} : s.Keeps (t.eqRestore n rate) := by
  unfold State.eqRestore
  split
  · exact h
  · exact h.eqTake
theorem backEcho (h : s.Keeps t) {n : Fin 4} : s.Keeps (t.backEcho n) := by
  unfold State.backEcho
  split
  · exact .ite h.mgmt.nextFree.put.nextFree.negNext (.ite h.linkComplete h)
  · exact h
theorem trainSwitch (h : s.Keeps t) {n : Fin 4} : s.Keeps (t.trainSwitch n) := by
  unfold State.trainSwitch
  split
  · exact .ite h.setLinkMode.adaptNow.setNeg (.ite (h.setLinkMode.bind fun h => (Keeps.ite h.adaptNow
      h.eqRestore).setNeg) h)
  · exact h
theorem attemptEnd (h : s.Keeps t) {n : Fin 4} {g : Neg} {eyes : List (Nat × Bool)} {backOk : Bool} :
    s.Keeps (t.attemptEnd n g eyes backOk) :=
  h.negNext
theorem verifyEnd (h : s.Keeps t) {n : Fin 4} {g : Neg} {ok : Bool} : s.Keeps (t.verifyEnd n g ok) :=
  .ite h.linkDown (Keeps.ite h.showBest h).setNeg.sendSync
theorem backEye (h : s.Keeps t) {n : Fin 4} {p : List Byte} {backOk : Bool} : s.Keeps (t.backEye n p backOk) := by
  unfold State.backEye
  split
  · exact .ite (.ite h.setNeg (.ite h.attemptEnd h.verifyEnd)) h
  · exact h
theorem eyeTimeout (h : s.Keeps t) {n : Fin 4} {backOk : Bool} : s.Keeps (t.eyeTimeout n backOk) := by
  unfold State.eyeTimeout
  split
  · exact .ite (Keeps.ite h.setLinkMode h).attemptEnd (.ite h.verifyEnd h)
  · exact h
theorem retrainBegin (h : s.Keeps t) {n : Fin 4} {g : Neg} : s.Keeps (t.retrainBegin n g) :=
  h.replayStop.wr.sendTrain.incSat.setNeg.bind fun h₁ => .ite (h₁.modCh.bind fun h => .ite h h.wr) h₁
theorem linkLocked (h : s.Keeps t) {n : Fin 4} : s.Keeps (t.linkLocked n) := by
  unfold State.linkLocked
  split
  · exact .ite h (.ite h.retrainBegin h.negStart)
  · exact h
theorem retrain (h : s.Keeps t) {n : Fin 4} {lanes rate back cause : Nat} {tag : Option Tag} :
    s.Keeps (t.retrain n lanes rate back cause tag) :=
  .ite (h.linkClk.bind fun h => .ite h.retrainBegin h.setNeg) (.ite h.setNeg h.retrainBegin)
theorem retrainStart (h : s.Keeps t) {n : Fin 4} : s.Keeps (t.retrainStart n) := by
  unfold State.retrainStart
  split
  · exact .ite h.retrainBegin h
  · exact h
theorem linkOff (h : s.Keeps t) {n : Fin 4} {bye : Bool} : s.Keeps (t.linkOff n bye) := by
  unfold State.linkOff
  exact (Keeps.ite h.mgmt h).negDone.linkClk.put.setLinkMode.modLink
theorem backLate (h : s.Keeps t) {n : Fin 4} {typ : Nat} : s.Keeps (t.backLate n typ) := h.incSat.blockEvent
theorem markSeen (h : s.Keeps t) {n : Fin 4} {typ : Nat} {p : List Byte} : s.Keeps (t.markSeen n typ p) := by
  unfold State.markSeen
  exact h.modLink
theorem released (h : s.Keeps t) {n : Fin 4} {arr : Arrival} {typ : Nat} {p : List Byte} {f : State → State}
    (k : ∀ u, s.Keeps u → s.Keeps (f u)) : s.Keeps (t.released n arr typ p f) :=
  .ite h (.ite h.incSat (.ite h.backLate (.ite (.ite h (k _ h.markSeen)) (k _ h))))
theorem nodeReset (h : s.Keeps t) {n : Fin 4} {boot : Nat} : s.Keeps (t.nodeReset n boot) :=
  h.blockEvent.modLink.send.ampResend.maskResend
theorem status (h : s.Keeps t) {n : Fin 4} {p : List Byte} : s.Keeps (t.status n p) := by
  unfold State.status
  exact h.put.wrB.wrB.wr.wr.bind fun h₃ => (Keeps.ite (h₃.wr.bind fun h => by
    extract_lets
    split
    · exact .ite h.modSys.stamped h
    · exact h) h₃).bind fun h₂ => .ite h₂ (h₂.modLink.bind fun h₁ => .ite h₁.linkDown (.ite h₁.linkDown
        ((Keeps.ite h₁.replayStop h₁).bind fun h => .ite h.nodeReset h)))
theorem nakBlock (h : s.Keeps t) {n : Fin 4} {g : Tx} : s.Keeps (t.nakBlock n g) := by
  unfold State.nakBlock
  extract_lets
  split
  · exact .ite h.send.modBpf.incSat.logEvent h.incSat.blockEvent
  · exact h.incSat.blockEvent
theorem nakOne (h : s.Keeps t) {n : Fin 4} {seq : Nat} : s.Keeps (t.nakOne n seq) := by
  unfold State.nakOne
  split
  · exact h
  · split
    · exact h.send
    · exact h.nakBlock
    · exact h.sendHard
    · exact h.blockEvent
    · exact .ite h.sendSync h.send
theorem nak (h : s.Keeps t) {n : Fin 4} {p : List Byte} : s.Keeps (t.nak n p) := h.incSat.foldl fun _ _ h => h.nakOne
theorem backLoss (h : s.Keeps t) {n : Fin 4} {reason : Nat} : s.Keeps (t.backLoss n reason) := .ite h.linkDown h
theorem execBackSensor (h : s.Keeps t) {n : Chan} {arr : Arrival} {stamp : Nat} {payload : List Byte} :
    s.KeepsOut (execBackSensor n arr stamp payload t) :=
  .next (h.released fun _ h => h.sensorPacket)
theorem execBackNak (h : s.Keeps t) {n : Chan} {arr : Arrival} {payload : List Byte} :
    s.KeepsOut (execBackNak n arr payload t) :=
  .next (h.released fun _ h => h.nak)
theorem execBackMaskAck (h : s.Keeps t) {n : Chan} {arr : Arrival} {payload : List Byte} :
    s.KeepsOut (execBackMaskAck n arr payload t) :=
  .next (h.released fun _ h => h.maskAck)
theorem execBackTableAck (h : s.Keeps t) {n : Chan} {arr : Arrival} {payload : List Byte} :
    s.KeepsOut (execBackTableAck n arr payload t) :=
  .next (h.released fun _ h => h.tableAck)
theorem execBackCacheAck (h : s.Keeps t) {n : Chan} {arr : Arrival} {payload : List Byte} :
    s.KeepsOut (execBackCacheAck n arr payload t) :=
  .next (h.released fun _ h => h.cacheAck)
theorem execBackCapability (h : s.Keeps t) {n : Chan} {bytes : List Byte} {arr : Arrival} :
    s.KeepsOut (execBackCapability n bytes t arr) :=
  .next (h.released fun _ h => h.backCapability)
theorem execBackEcho (h : s.Keeps t) {n : Chan} {payload : List Byte} {arr : Arrival} :
    s.KeepsOut (execBackEcho n payload t arr) :=
  .next (h.released fun _ h => h.backEcho)
theorem execBackEye (h : s.Keeps t) {n : Chan} {payload : List Byte} {backPass : Bool} {arr : Arrival} :
    s.KeepsOut (execBackEye n payload backPass t arr) :=
  .next (h.released fun _ h => h.backEye)
theorem execBackSyncLoss (h : s.Keeps t) {n : Chan} : s.KeepsOut (execBackSyncLoss n t) :=
  .next (.ite h h.wr.backLoss)
theorem execBackSilence (h : s.Keeps t) {n : Chan} : s.KeepsOut (execBackSilence n t) := .next (.ite h h.backLoss)
theorem execCapReqRepeat (h : s.Keeps t) {n : Chan} : s.KeepsOut (execCapReqRepeat n t) := by
  unfold Machine.execCapReqRepeat
  exact .next (by
    split
    · exact .ite h.mgmt h
    · exact h)
theorem execCapabilityTimeout (h : s.Keeps t) {n : Chan} : s.KeepsOut (execCapabilityTimeout n t) := by
  unfold Machine.execCapabilityTimeout
  exact .next (by
    split
    · exact .ite h.linkDown h
    · exact h)
theorem execTrainSwitch (h : s.Keeps t) {n : Chan} : s.KeepsOut (execTrainSwitch n t) := .next (.ite h h.trainSwitch)
theorem execEyeTimeout (h : s.Keeps t) {n : Chan} {backPass : Bool} : s.KeepsOut (execEyeTimeout n t backPass) :=
  .next (.ite h h.eyeTimeout)
theorem execRetrainStart (h : s.Keeps t) {n : Chan} : s.KeepsOut (execRetrainStart n t) :=
  .next (.ite h h.retrainStart)
theorem execBackLaneSyncGained (h : s.Keeps t) {n : Chan} : s.KeepsOut (execBackLaneSyncGained n t) :=
  .next (.ite h h.wr)

/-! ### Frame -/

theorem toStream (h : s.Keeps t) {n : Fin 4} : s.Keeps (t.toStream n) := h.setStrm.modCh
theorem ringsTrim (h : s.Keeps t) : s.Keeps t.ringsTrim := h.modFw.csiEnable
theorem setLocked (h : s.Keeps t) {n : Fin 4} {b : Bool} : s.Keeps (t.setLocked n b) := h.wr.wrB
theorem flJoin (h : s.Keeps t) : s.Keeps t.flJoin :=
  .ite h (h.foldl fun _ _ h₁ => .ite (h₁.modCh.bind fun h => .ite h h.wr) h₁)
theorem flApply (h : s.Keeps t) : s.Keeps t.flApply :=
  h.setActv.modSys.bind fun h₂ => ((Keeps.ite h₂.wr.modSys h₂).foldl fun _ _ h₁ => (Keeps.ite h₁.setLocked.logEvent
    (.ite h₁.setLocked h₁)).bind fun h => .ite h h.modCh).flJoin
theorem flWrite (h : s.Keeps t) {v : Nat} : s.Keeps (t.flWrite v) :=
  h.plainWrite.bind fun h₁ => (Keeps.ite h₁ h₁.wr).bind fun h => .ite h.modSys h.flApply
theorem flFrom (h : s.Keeps t) {n : Fin 4} : s.Keeps (t.flFrom n) := by
  unfold State.flFrom
  split
  · exact h
  · exact .ite h h.flWrite
theorem commitsDone (h : s.Keeps t) : s.Keeps t.commitsDone := h.modFw.forEach fun _ _ h => h.doneOpt
theorem commitTick (h : s.Keeps t) {n : Fin 4} {stopped : Bool} : s.Keeps (t.commitTick n stopped) :=
  h.modFw.commitsDone
theorem portTick (h : s.Keeps t) {n : Fin 4} : s.Keeps (t.portTick n) := h.modFw.commitsDone
theorem rasterStart (h : s.Keeps t) {n : Fin 4} : s.Keeps (t.rasterStart n) := h.wr.wr.modCh.lampUpdate.flJoin
theorem tryStart (h : s.Keeps t) {n : Fin 4} : s.Keeps (t.tryStart n) := .ite (.ite h.rasterStart h.modCh) h.modCh
theorem relit (h : s.Keeps t) {n : Fin 4} : s.Keeps (t.relit n) := .ite h.modLink h
theorem moveAll (h : s.Keeps t) {n : Fin 4} {bank : RegFile} {cfg : Option Cfg} {commit : Bool} :
    s.Keeps (t.moveAll n bank cfg commit) := by
  unfold State.moveAll
  extract_lets was old cfgOld s₁ s₂ s₃ s₄ s₅ s₆ s₇ s₈
  have h₄ : s.Keeps s₄ := h.setComp.ampTransfer.modCh.workLoad.toStream.modCh.lawUpdate
  have h₅ : s.Keeps s₅ := .ite h₄.modTut h₄
  have h₆ : s.Keeps s₆ := by
    unfold s₆
    split
    · exact h₅.wr
    · exact h₅
  have h₇ : s.Keeps s₇ := h₆.patternCheck.linkTiming
  exact (Keeps.ite h₇.relit h₇).ringsTrim.flFrom
theorem commitReq (h : s.Keeps t) {n : Fin 4} : s.Keeps (t.commitReq n) :=
  .ite h.maskLatch.moveAll.wr.wr.wr.tryStart (Keeps.ite h.wr h).wr.wr
theorem latch (h : s.Keeps t) {n : Fin 4} : s.Keeps (t.latch n) :=
  h.modCh.wr.bind fun h => .ite h.setPend.modCh.wr.wr.maskLatch h
theorem latchPoint (h : s.Keeps t) {n : Fin 4} : s.Keeps (t.latchPoint n) := .ite h h.wr.latch
theorem transferLine (h : s.Keeps t) {n : Fin 4} : s.Keeps (t.transferLine n) :=
  .ite h (h.wr.wr.bind fun h₁ => (Keeps.ite h₁ h₁.composeDraw).bind fun h => (Keeps.ite h.setComp.modCh.wr.ringsTrim
    h).patternCheck)
theorem speedEnd (h : s.Keeps t) : s.Keeps t.speedEnd := by
  unfold State.speedEnd
  split
  · exact .ite (h.modSys.foldl fun _ _ h => h.wr.chnSync) h
  · exact h
theorem noAwait (h : s.Keeps t) {n : Fin 4} : s.Keeps (t.noAwait n) := h.modSys.speedEnd
theorem groupEnd (h : s.Keeps t) : s.Keeps t.groupEnd :=
  h.foldl fun _ _ h₁ => (Keeps.ite h₁.setLocked h₁).bind fun h => .ite h.modCh h
theorem channelStop (h : s.Keeps t) {n : Fin 4} : s.Keeps (t.channelStop n) :=
  (Keeps.ite h.maskLatch.moveAll (.ite h.moveAll h.moveAll)).wr.wr.put.setLocked.bind fun h₂ =>
    (Keeps.ite h₂ h₂.replayQuit).modCh.wr.layersIdle.maskStop.lampUpdate.bind fun h₁ => (Keeps.ite h₁.groupEnd h₁).bind
    fun h => (Keeps.ite h.flApply h).noAwait.commitTick
theorem timingChange (h : s.Keeps t) {n : Fin 4} {old new : Option Cfg} {ttOld : Nat × Nat} {k : Nat} :
    s.Keeps (t.timingChange n old new ttOld k) := by
  unfold State.timingChange
  split
  · exact (Keeps.ite h.modTut h).bind fun h₁ => .ite (h₁.logEvent.bind fun h => .ite h h.modCh) (.ite h₁.logEvent h₁)
  · exact h
theorem notComposed (h : s.Keeps t) {n : Fin 4} : s.Keeps (t.notComposed n) := by
  unfold State.notComposed
  exact h.logEvent.nextFree.modCh
theorem moveComp (h : s.Keeps t) {n : Fin 4} : s.Keeps (t.moveComp n) := by
  unfold State.moveComp
  exact h.setComp.modCh
theorem speedFrame (h : s.Keeps t) {n : Fin 4} : s.Keeps (t.speedFrame n) := by
  unfold State.speedFrame
  split
  · exact h
  · exact .ite (h.modSys.bind fun h => .ite h h.logEvent) (.ite (.ite h.moveComp.modSys h.modSys.speedEnd) h)
theorem tailEnd (h : s.Keeps t) {n : Fin 4} : s.Keeps (t.tailEnd n) := .ite h.modRst.wr h
theorem period (h : s.Keeps t) {n : Fin 4} {count : Nat} {edge : Bool} : s.Keeps (t.period n count edge) := by
  unfold State.period
  extract_lets s₁ c was ttOld s₂ s₃ s₄ s₅ s₆ s₇ late held late' s₈ fresh s₉ s₁₀ s₁₁ s₁₂ s₁₃ s₁₄ s₁₅ s₁₆ s₁₇ s₁₈ s₁₉ s₂₀
    s₂₁
  have h₁ : s.Keeps s₁ := h.truncated.tailEnd
  have h₂ : s.Keeps s₂ := by
    unfold s₂
    split
    · exact h₁.modSys
    · exact h₁
  have h₅ : s.Keeps s₅ := h₂.modCh.put.toStream.timingChange.ampFrame.lawUpdate
  have h₇ : s.Keeps s₇ := (Keeps.ite h₅.relit h₅).linkTiming
  have h₈ : s.Keeps s₈ := .ite h₇.notComposed h₇
  have h₁₁ : s.Keeps s₁₁ := h₈.modCh.speedFrame.bpfFrame
  have h₁₂ : s.Keeps s₁₂ := by
    unfold s₁₂
    split
    · exact .ite h₁₁.wr h₁₁
    · exact h₁₁
  have h₁₄ : s.Keeps s₁₄ := h₁₂.maskFrame.modTut
  have h₁₆ : s.Keeps s₁₆ := (Keeps.ite h₁₄.wr.modSrc.chnOe h₁₄).ampTransfer.workLoad
  have h₁₈ : s.Keeps s₁₈ := (Keeps.ite (Keeps.ite h₁₆.replayStop h₁₆).composeStart h₁₆.composeIdle).modCh
  have h₁₉ : s.Keeps s₁₉ := by
    unfold s₁₉
    split
    · exact h₁₈.wr
    · exact h₁₈
  have h₂₀ : s.Keeps s₂₀ := h₁₉.wr.wr.wr
  exact (Keeps.ite h₂₀.latch h₂₀).lampUpdate.commitTick.flFrom
theorem frameAt (h : s.Keeps t) {n : Fin 4} {count : Nat} {edge : Bool} : s.Keeps (t.frameAt n count edge) :=
  .ite h.period h.tailEnd.channelStop
theorem memberStart (h : s.Keeps t) {n : Fin 4} {count : Nat} {edge : Bool} : s.Keeps (t.memberStart n count edge) :=
  .ite (Keeps.ite h h.setLocked.logEvent).modCh.frameAt h
theorem groupStart (h : s.Keeps t) {edge : Bool} : s.Keeps (t.groupStart edge) :=
  (h.modSys.foldl fun _ _ h => .ite h.memberStart h).memberStart.bind fun h => .ite h.flApply h
theorem frameStart (h : s.Keeps t) {n : Fin 4} : s.Keeps (t.frameStart n) :=
  .ite h (.ite h.groupStart (.ite h h.frameAt))
theorem lsyncEdge (h : s.Keeps t) {i : Fin 2} {ok : Bool} : s.Keeps (t.lsyncEdge i ok) :=
  (Keeps.ite (h.foldl fun _ _ h => h.seqEdge) h).bind fun h₁ => .ite h₁ (.ite (h₁.modSys.bind fun h =>
    (Keeps.ite h.wr.logEvent h).groupStart) h₁.incSat.modSys)
theorem lsyncMissing (h : s.Keeps t) : s.Keeps t.lsyncMissing :=
  .ite h ((Keeps.ite h h.incSat).modSys.bind fun h => (Keeps.ite h.wr.blockEvent h).groupStart)
theorem bellSnap (h : s.Keeps t) {v : Nat} : s.Keeps (t.bellSnap v) :=
  (h.put.put.stamped.forMask fun _ _ h => h.put.put).bind fun h₂ => (Keeps.ite (h₂.foldl fun _ _ h =>
    h.put.put.put.put) h₂).bind fun h₁ => .ite (h₁.foldl fun _ _ h => h.wr.wr) h₁
theorem bellCommit (h : s.Keeps t) {v : Nat} : s.Keeps (t.bellCommit v) :=
  (h.forMask fun _ _ h => h.commitReq).bind fun h₂ => (Keeps.ite h₂.setActv h₂).bind fun h₁ => .ite
    (h₁.foldl fun _ _ h => h.chnCommit) h₁
theorem bellStrobe (h : s.Keeps t) : s.Keeps t.bellStrobe := by
  unfold State.bellStrobe
  split
  · exact h
  · exact h.modSys.wr.bind fun h₁ => (Keeps.ite h₁.bellSnap h₁).bind fun h => .ite h.bellCommit h
theorem bellWrite (h : s.Keeps t) {v : Nat} : s.Keeps (t.bellWrite v) := .ite h.wr.blockEvent (.ite h.modSys.wr h)
theorem fwBell (h : s.Keeps t) {v : Nat} : s.Keeps (t.fwBell v) := h.bellStrobe.bellWrite.bellStrobe
theorem runWrite (h : s.Keeps t) {n : Fin 4} {v : Nat} : s.Keeps (t.runWrite n v) := h.plainWrite.tryStart
theorem execFrameStart (h : s.Keeps t) {n : Chan} : s.KeepsOut (execFrameStart n t) := .next (.ite h h.frameStart)
theorem execLatchPoint (h : s.Keeps t) {n : Chan} : s.KeepsOut (execLatchPoint n t) := .next (.ite h h.latchPoint)
theorem execTransferLine (h : s.Keeps t) {n : Chan} : s.KeepsOut (execTransferLine n t) :=
  .next (.ite h h.transferLine)
theorem execLecCommitGo (h : s.Keeps t) {n : Chan} {v : Word} : s.KeepsOut (execLecCommitGo n v t) :=
  .next (.ite h.commitReq h)
theorem execLecRunWrite (h : s.Keeps t) {n : Chan} {v : Word} : s.KeepsOut (execLecRunWrite n v t) :=
  .next (.ite h h.runWrite)
theorem execBellWrite (h : s.Keeps t) {v : Word} : s.KeepsOut (execBellWrite v t) := .next h.bellWrite
theorem execBellStrobe (h : s.Keeps t) : s.KeepsOut (execBellStrobe t) := .next (.ite h h.bellStrobe)
theorem execFrameLockWrite (h : s.Keeps t) {v : Word} : s.KeepsOut (execFrameLockWrite v t) := .next h.flWrite
theorem execLsyncInEdge (h : s.Keeps t) {i : Duo} {inWindow : Bool} : s.KeepsOut (execLsyncInEdge i inWindow t) :=
  .next (.ite h h.lsyncEdge)
theorem execLsyncEdgeMissing (h : s.Keeps t) : s.KeepsOut (execLsyncEdgeMissing t) := .next (.ite h h.lsyncMissing)
theorem execChainSwapPoint (h : s.Keeps t) {n : Chan} : s.KeepsOut (execChainSwapPoint n t) :=
  .next (.ite h h.swapPoint.portTick)

/-! ### Commit -/

theorem wrs (h : s.Keeps t) {l : List (Fld × Nat)} : s.Keeps (t.wrs l) := h.foldl fun _ _ h => h.wr
theorem shadowCopy (h : s.Keeps t) {m : Stage} {n : Fin 4} : s.Keeps (t.shadowCopy m n) :=
  (h.foldl fun _ _ h₁ => h₁.foldl fun _ _ h => h.put).wr.put
theorem noteBanks (h : s.Keeps t) {n : Fin 4} : s.Keeps (t.noteBanks n) := h.modFw
theorem layerShadow (h : s.Keeps t) {m : Stage} {n x : Fin 4} : s.Keeps (t.layerShadow m n x) :=
  h.wrs.foldl fun _ _ h => h.wr
theorem sclAssign (h : s.Keeps t) {m : Stage} {n x : Fin 4} {k : Nat} : s.Keeps (t.sclAssign m n x k) := h.wrs
theorem sclShadow (h : s.Keeps t) {m : Stage} {n : Fin 4} : s.Keeps (t.sclShadow m n) := by
  unfold State.sclShadow
  cases (m.layersOn n).filter fun x => layerScaled m n x with
  | nil => exact h.wrs
  | cons x r =>
    refine h.wrs.wr.sclAssign.bind fun h => .ite h.wr.wr.sclAssign ?_
    cases r with
    | nil => exact h
    | cons y r => exact h.wr.wr.sclAssign
theorem lutShadow (h : s.Keeps t) {m : Stage} {n : Fin 4} : s.Keeps (t.lutShadow m n) := by
  unfold State.lutShadow
  split
  · exact h
  · exact .ite h (.ite h (Keeps.ite h.composeDraw h).modCh.wr)
theorem ttShadow (h : s.Keeps t) {n : Fin 4} {fs : List (List Slot)} : s.Keeps (t.ttShadow n fs) :=
  .ite h (h.foldl fun _ _ h => h.ttWriteField).wrs
theorem bpfShadow (h : s.Keeps t) {m : Stage} {n : Fin 4} {p : Profile} : s.Keeps (t.bpfShadow m n p) := by
  unfold State.bpfShadow
  exact h.wrs.bind fun h₂ => (Keeps.ite h₂.wrs h₂).bind fun h₁ => (Keeps.ite h₁.wr h₁).bind fun h => by
    extract_lets
    split
    · exact h.ttShadow
    · exact h
theorem writeShadow (h : s.Keeps t) {m : Stage} {n : Fin 4} {p : Profile} : s.Keeps (t.writeShadow m n p) := by
  unfold State.writeShadow
  exact ((h.shadowCopy.foldl fun _ _ h => h.layerShadow).foldl fun _ _ h => h.wr).sclShadow.lutShadow.wr.bind fun h =>
    (Keeps.ite h.bpfShadow h).noteBanks.modCh
theorem bindEntry (h : s.Keeps t) {rx : Fin 2} {v : Nat} {w : Option (List Nat)} : s.Keeps (t.bindEntry rx v w) := by
  unfold State.bindEntry
  split
  · exact h.csiRebind
  · exact h.modFw.csiRebind
theorem bindAll (h : s.Keeps t) {m : Stage} : s.Keeps (t.bindAll m) :=
  (h.foldl fun _ _ h₁ => h₁.foldl fun _ _ h => .ite h h.bindEntry).csiEnable
theorem chainShadow (h : s.Keeps t) {m : Stage} : s.Keeps (t.chainShadow m) := by
  unfold State.chainShadow
  exact h.modFw.foldl fun _ _ h₁ => (h₁.wrs.foldl fun _ _ h => by
    split
    · exact h.wrs
    · exact h.wr).modSrc.foldl fun _ _ h => .ite h.wr h
theorem runAll (h : s.Keeps t) {mask : Nat} : s.Keeps (t.runAll mask) := h.forMask fun _ _ h => .ite h.runWrite h
theorem chnRun (h : s.Keeps t) {n : Fin 4} {on : Bool} : s.Keeps (t.chnRun n on) :=
  h.wrB.wrB.chnSync.bind fun h => .ite h h.portTick
theorem issue (h : s.Keeps t) {m : Stage} {mask : Nat} {chains : Bool} {tag : Option Tag} :
    s.Keeps (t.issue m mask chains tag) :=
  ((h.foldl fun _ _ h => .ite h.releaseLec h).bindAll.forMask fun _ _ h => h.writeShadow.modLink.modMask).modFw.bind
    fun h₃ => (Keeps.ite h₃.chainShadow h₃).modFw.bind fun h₂ => (Keeps.ite h₂.fwBell
    (h₂.forMask fun _ _ h => h.commitReq)).bind fun h₁ => (Keeps.ite (h₁.foldl fun _ _ h => h.chnRun)
    h₁).runAll.commitsDone
theorem commitCmd (h : s.Keeps t) {mask : Nat} {chains dry : Bool} {tag : Option Tag} :
    s.KeepsAns (t.commitCmd mask chains dry tag) := by
  unfold State.commitCmd
  exact .ite (.of (h.forMask fun _ _ h => h.logEvent)) (.ite (.of h) (.of h.issue))

/-! ### Mail -/

theorem refuse (h : s.Keeps t) {st detail : Nat} : s.KeepsAns (refuse t st detail) := .of h
theorem ignoredMb (h : s.Keeps t) {mb : Nat} {p : Fin 3} : s.Keeps (t.ignoredMb mb p) := h.wr.logEvent
theorem setFull (h : s.Keeps t) {mb : Nat} {b : Bool} : s.Keeps (t.setFull mb b) := h.wr.wr.wrB
theorem setBusy (h : s.Keeps t) {mb : Nat} {b : Bool} : s.Keeps (t.setBusy mb b) := h.wr
theorem hostWrite (h : s.Keeps t) {a : Nat} {bs : List Byte} : s.Keeps (t.hostWrite a bs) := h.modMbx
theorem received (h : s.Keeps t) {p : Fin 3} {mb : Nat} : s.Keeps (t.received p mb) := h.modMbx
theorem doorbell (h : s.Keeps t) {v : Nat} : s.Keeps (t.doorbell v) :=
  h.foldl fun _ _ h => .ite (.ite h.setBusy.received h.ignoredMb) h
theorem begun (h : s.Keeps t) {p : Fin 3} {mb : Nat} : s.Keeps (t.begun p mb) := h.modMbx
theorem take (h : s.Keeps t) {p : Fin 3} {mb : Nat} : s.Keeps (t.take p mb) :=
  h.begun.bind fun h => .ite h.setBusy h.modPort
theorem place (h : s.Keeps t) {p : Fin 3} {mb : Nat} {m : List Byte} : s.Keeps (t.place p mb m) :=
  .ite h.hostWrite.setFull h.modPort
theorem portDefaults (h : s.Keeps t) {p : Fin 3} : s.Keeps (t.portDefaults p) :=
  h.modPort.bind fun h => .ite h.wr.wr.wr.wr h
theorem helloFailed (h : s.Keeps t) {g : Tag} {st : Nat} : s.Keeps (t.helloFailed g st) := .ite h.portDefaults h
theorem reply (h : s.Keeps t) {g : Tag} {st : Nat} : s.Keeps (t.reply g st) := h.helloFailed.place
theorem answer (h : s.Keeps t) {g : Tag} {st detail : Nat} {data : List Byte} : s.Keeps (t.answer g st detail data) :=
  h.helloFailed.modPort.place
theorem grantStatus (h : s.Keeps t) : s.Keeps t.grantStatus := h.wr.wr.wrB
theorem endGrant (h : s.Keeps t) {g : Grant} {reason : Nat} : s.Keeps (t.endGrant g reason) :=
  h.modMbx.grantStatus.logEvent.notify
theorem endGrants (h : s.Keeps t) {reason : Nat} : s.Keeps (t.endGrants reason) := h.forEach fun _ _ h => h.endGrant
theorem expireGrants (h : s.Keeps t) : s.Keeps t.expireGrants := h.forEach fun _ _ h => h.endGrant
theorem enterMode (h : s.Keeps t) {m cause : Nat} : s.Keeps (t.enterMode m cause) :=
  h.setMode.bind fun h => .ite h h.endGrants
theorem hallpassReq (h : s.Keeps t) {pl : List Byte} : s.KeepsAns (t.hallpassReq pl) := by
  unfold State.hallpassReq
  exact .ite h.refuse (.ite h.refuse (.ite (by
    split
    · exact h.refuse
    · exact .ite h.refuse (.of h.modMbx.grantStatus)) (.ite h.refuse (.of
        h.expireGrants.nextFree.modMbx.grantStatus.logEvent))))
theorem hallpassReturn (h : s.Keeps t) {pl : List Byte} : s.KeepsAns (t.hallpassReturn pl) := by
  unfold State.hallpassReturn
  exact .ite h.refuse (by
    split
    · exact h.refuse
    · exact .of h.endGrant)
theorem helloEffect (h : s.Keeps t) {p : Fin 3} {hd : HelloSet} : s.Keeps (t.helloEffect p hd) :=
  h.modPort.bind fun h => .ite h.wrB.wrB.wrB.wr.wr.wr h
theorem helloLeaves (h : s.Keeps t) {p : Fin 3} {mb : Nat} : s.Keeps (t.helloLeaves p mb) := by
  unfold State.helloLeaves
  split
  · exact h.helloEffect
  · exact h
theorem hello (h : s.Keeps t) {g : Tag} {pl : List Byte} : s.KeepsAns (t.hello g pl) := by
  unfold State.hello
  exact .ite h.refuse (.ite h.refuse (.ite h.refuse (.ite h.refuse (.ite h.refuse (.of h.modPort)))))
theorem runCommand (h : s.Keeps t) {g : Tag} {flags : Nat} {pl : List Byte} {f : Handler}
    (k : ∀ u g pl, s.Keeps u → s.KeepsAns (f u g pl)) : s.KeepsAns (t.runCommand g flags pl f) :=
  .ite h.refuse (.ite h.refuse (.ite h.refuse (.ite h.refuse (.ite h.refuse (.ite h.refuse (k _ _ _ h))))))
theorem setFrag (h : s.Keeps t) {p : Fin 3} {mb : Nat} {f : Option Frag} : s.Keeps (t.setFrag p mb f) :=
  h.modPort
theorem accepted (h : s.Keeps t) {g : Tag} {flags : Nat} {pl : List Byte} {f : Handler}
    (k : ∀ u g pl, s.Keeps u → s.KeepsAns (f u g pl)) : s.Keeps (t.accepted g flags pl f) :=
  h.modPort.bind fun h => .ite h.setFrag.answer (.ite h.setFrag.answer
    ((h.setFrag.runCommand k).bind fun h => .ite h.modPort h.answer))
theorem sequenced (h : s.Keeps t) {g : Tag} {flags : Nat} {pl : List Byte} {f : Handler}
    (k : ∀ u g pl, s.Keeps u → s.KeepsAns (f u g pl)) : s.Keeps (t.sequenced g flags pl f) := by
  have go : s.Keeps (match t.frag g.port g.mb with
      | none => t.accepted g flags pl f
      | some x =>
        if x.op != g.op || setBit x.flags 2 false != setBit flags 2 false then
          (t.setFrag g.port g.mb none).reply g stSEQ_ERROR
        else if x.tick + 32768 < t.tb.toNat then (t.setFrag g.port g.mb none).reply g stTIMEOUT
        else t.accepted g flags pl f) := by
    split
    · exact h.accepted k
    · exact .ite h.setFrag.reply (.ite h.setFrag.reply (h.accepted k))
  unfold State.sequenced
  extract_lets
  split
  · exact go
  · exact .ite (.ite h h.place) (.ite go h.reply)
theorem serve (h : s.Keeps t) {p : Fin 3} {mb : Fin 6} {mine : Nat → Bool} {f : Handler}
    (k : ∀ u g pl, s.Keeps u → s.KeepsAns (f u g pl)) : s.Keeps (t.serve p mb mine f) := by
  unfold State.serve
  split
  · exact h
  · exact .ite h (h.take.bind fun h => .ite h.reply (.ite h.reply (h.sequenced k)))
theorem outboxAck (h : s.Keeps t) {v : Nat} : s.Keeps (t.outboxAck v) :=
  h.foldl fun _ _ h => .ite h.setFull.helloLeaves h
theorem notifPlace (h : s.Keeps t) : s.Keeps t.notifPlace := by
  unfold State.notifPlace
  split
  · exact h
  · exact .ite h h.modPort.hostWrite.setFull
theorem canRequest (h : s.Keeps t) {c : Fin 2} {mb : Fin 6} {bytes : List Byte} {fd : Bool} :
    s.Keeps (t.canRequest c mb bytes fd) :=
  .ite h (.ite h.modPort.errHit.nextFree (.ite h (.ite h.logEvent (.ite h h.modPort.received))))
theorem canSent (h : s.Keeps t) {c : Fin 2} : s.Keeps (t.canSent c) := by
  unfold State.canSent
  exact .ite h (by
    split
    · exact h.modPort.helloLeaves
    · split
      · exact h.modPort
      · exact h)
theorem execDoorbell (h : s.Keeps t) {v : Word} : s.KeepsOut (execDoorbell v t) := .next (.ite h.doorbell h)
theorem execOutboxAck (h : s.Keeps t) {v : Word} : s.KeepsOut (execOutboxAck v t) := .next (.ite h.outboxAck h)
theorem execNotificationPlace (h : s.Keeps t) : s.KeepsOut (execNotificationPlace t) := .next (.ite h.notifPlace h)
theorem execCanRequestFrame (h : s.Keeps t) {c : Duo} {mb : Fin 6} {bytes : List Byte} {fd : Bool} :
    s.KeepsOut (execCanRequestFrame c mb bytes fd t) :=
  .next (.ite h h.canRequest)
theorem execCanErrorPassive (h : s.Keeps t) {c : Duo} : s.KeepsOut (execCanErrorPassive c t) :=
  .next (.ite h h.modPort.logEvent)
theorem execCanBusOff (h : s.Keeps t) {c : Duo} : s.KeepsOut (execCanBusOff c t) := .next (.ite h h.modPort.logEvent)
theorem execCanBusOffRecovery (h : s.Keeps t) {c : Duo} : s.KeepsOut (execCanBusOffRecovery c t) :=
  .next (.ite h h.modPort)
theorem execHallpassExpiry (h : s.Keeps t) {g : Nat} : s.KeepsOut (execHallpassExpiry g t) := by
  unfold Machine.execHallpassExpiry
  exact .next (by
    split
    · exact h.endGrant
    · exact h)

/-! ### Dmc -/

theorem dramFree (h : s.Keeps t) {a k : Nat} : s.Keeps (t.dramFree a k) := h.dwrite.setFree
theorem dramLost (h : s.Keeps t) {ch : Fin 2} : s.Keeps (t.dramLost ch) := (h.setDram (swf_skeep _ _)).modDmc
theorem trainArea (h : s.Keeps t) {ch : Fin 2} {rank : Nat} : s.Keeps (t.trainArea ch rank) :=
  h.foldl fun _ _ h => h.dramFree
theorem takeIn (h : s.Keeps t) {ch : Fin 2} : s.Keeps (t.takeIn ch) := .ite h h.modDmc
theorem srExit (h : s.Keeps t) {ch : Fin 2} : s.Keeps (t.srExit ch) := .ite h.wr h
theorem dramReq (h : s.Keeps t) {port a : Nat} {write : Bool} {len : Nat} : s.Keeps (t.dramReq port a write len) := by
  unfold State.dramReq
  exact (Keeps.self (by
    split
    · exact h.dramOutside
    · exact h)).foldl fun _ _ h => h.modDmc.setRequests.srExit.takeIn
theorem deliver (h : s.Keeps t) : s.Keeps t.deliver := h.foldl fun _ _ h => h.modDmc
theorem panicNow (h : s.Keeps t) : s.Keeps t.panicNow := (h.foldl fun _ _ h => h.wr.wrB).nextFree
theorem issueCmd (h : s.Keeps t) {ch : Fin 2} {c : DmcCmd} : s.Keeps (t.issueCmd ch c) := h.modDmc
theorem setRow (h : s.Keeps t) {ch : Fin 2} {bank : Nat} {r : Option Nat} : s.Keeps (t.setRow ch bank r) := h.modDmc
theorem disturb (h : s.Keeps t) {ch : Fin 2} {bank row : Nat} : s.Keeps (t.disturb ch bank row) := .ite h h.modDmc
theorem refresh (h : s.Keeps t) {ch : Fin 2} : s.Keeps (t.refresh ch) :=
  h.modDmc.issueCmd.bind fun h₁ => .ite h₁ (h₁.issueCmd.bind fun h => .ite h.issueCmd h)
theorem countBurst (h : s.Keeps t) {ch : Fin 2} : s.Keeps (t.countBurst ch) := .ite h.modDmc h.wr.modDmc
theorem serveReq (h : s.Keeps t) {ch : Fin 2} {i : Nat} : s.Keeps (t.serveReq ch i) := by
  unfold State.serveReq
  split
  · exact h
  · extract_lets
    split
    · exact h.setRow.issueCmd.disturb
    · exact .ite h.setRow.issueCmd (h.modDmc.bind fun h => (Keeps.ite h.setPoison h).issueCmd.countBurst.takeIn)
theorem dmcSlot (h : s.Keeps t) {ch : Fin 2} : s.Keeps (t.dmcSlot ch) := by
  unfold State.dmcSlot
  exact .ite h (h.panicNow.takeIn.bind fun h => by
    extract_lets
    split
    · exact h.modDmc.setRow.issueCmd.incSat.logEvent
    · exact .ite h.refresh (.ite h.refresh.wr (.ite h h.nextFree.serveReq)))
theorem promote (h : s.Keeps t) {ch : Fin 2} {idx : Nat} : s.Keeps (t.promote ch idx) := .ite h (.ite h.modDmc h.modDmc)
theorem refRate (h : s.Keeps t) {ch : Fin 2} : s.Keeps (t.refRate ch) := .ite h h.wrB.logEvent
theorem refreshDue (h : s.Keeps t) {ch : Fin 2} : s.Keeps (t.refreshDue ch) :=
  .ite h (h.refRate.panicNow.bind fun h => .ite h.modDmc (.ite h.wr h.modDmc.incSat.errEvent))
theorem abandon (h : s.Keeps t) {ch : Fin 2} {c : DmcCmd} : s.Keeps (t.abandon ch c) :=
  h.incSat.errEvent.bind fun h => .ite h.dramFree h.modDmc.deliver.incSat
theorem alert (h : s.Keeps t) {ch : Fin 2} {clocks : Nat} : s.Keeps (t.alert ch clocks) := by
  unfold State.alert
  exact .ite h (.ite (.ite h (h.nextFree.modDmc.incSat.logEvent.bind fun h => .ite h (by
    split
    · exact h.abandon.modDmc
    · exact h.modDmc))) (.ite h (h.nextFree.modDmc.incSat.logEvent.bind fun h => .ite h h.abandon.modDmc)))
theorem eccCorrected (h : s.Keeps t) {ch : Fin 2} {a i : Nat} : s.Keeps (t.eccCorrected ch a i) := by
  unfold State.eccCorrected
  exact h.incSat.logEvent.wr.wr.modDmc
theorem eccBeats (h : s.Keeps t) {ch : Fin 2} {a : Nat} {beats : List Nat} : s.Keeps (t.eccBeats ch a beats) := by
  unfold State.eccBeats
  exact h.foldl fun _ _ h => by
    split
    · exact h.eccCorrected
    · exact h
theorem eccPoison (h : s.Keeps t) {ch : Fin 2} {a lane : Nat} : s.Keeps (t.eccPoison ch a lane) := by
  unfold State.eccPoison
  exact h.incSat.errEvent.wr.wr.modDmc
theorem readReturn (h : s.Keeps t) {ch : Fin 2} {syn : List Nat} : s.Keeps (t.readReturn ch syn) := by
  unfold State.readReturn
  split
  · exact h
  · exact h.panicNow.modDmc.deliver.bind fun h₂ => .ite (.ite h₂.setPoison h₂) (.ite
      (h₂.eccBeats.bind fun h => .ite h.setPoison h) (h₂.incSat.nextFree.bind fun h₁ => .ite
      (h₁.errEvent.eccBeats.bind fun h => .ite h.setPoison h) (h₁.eccPoison.bind fun h => .ite h.setPoison h)))
theorem drain (h : s.Keeps t) {ch : Fin 2} : s.Keeps (t.drain ch) := h.modDmc.deliver
theorem srEnter (h : s.Keeps t) {ch : Fin 2} {st : Nat} : s.Keeps (t.srEnter ch st) :=
  h.drain.wr.bind fun h => .ite h h.incWrap
theorem dmcCtrlWrite (h : s.Keeps t) {ch : Fin 2} {v : Nat} : s.Keeps (t.dmcCtrlWrite ch v) :=
  h.plainWrite.csiEnable.bind fun h => .ite h.wr.wr.modDmc (.ite (.ite h h.srEnter) (.ite h.wr.wr.takeIn h))
theorem srIdle (h : s.Keeps t) {ch : Fin 2} : s.Keeps (t.srIdle ch) := .ite h.srEnter h
theorem patGo (h : s.Keeps t) {ch : Fin 2} {v : Nat} : s.Keeps (t.patGo ch v) :=
  .ite h ((h.foldl fun _ _ h => h.wr).bind fun h => (Keeps.ite h.trainArea h).wr.wr.wr)
theorem patDone (h : s.Keeps t) {ch : Fin 2} {mism : List Nat} : s.Keeps (t.patDone ch mism) :=
  .ite h (h.foldl fun _ _ h => h.wr).wr.wr.wr
theorem writeDelay (h : s.Keeps t) {f : Fld} {tap : Nat} : s.Keeps (t.writeDelay f tap) := h.wr
theorem writeDelays (h : s.Keeps t) {ch : Fin 2} : s.Keeps (t.writeDelays ch) :=
  h.foldl fun _ _ h => h.writeDelay.nextFree
theorem trainLane (h : s.Keeps t) {ch : Fin 2} {r l step : Nat} : s.Keeps (t.trainLane ch r l step) :=
  (h.foldl fun _ _ h => h.nextFree.modFw.writeDelay).nextFree
theorem trainStore (h : s.Keeps t) : s.Keeps t.trainStore := by
  unfold State.trainStore
  exact h.modFw
theorem trainRestore (h : s.Keeps t) {ch : Fin 2} {r : TrainRec} : s.Keeps (t.trainRestore ch r) :=
  h.modFw.writeDelays.trainArea.bind fun h => .ite h.trainArea h
theorem fullTraining (h : s.Keeps t) {ch : Fin 2} {failStep failMask : Nat} :
    s.Keeps (t.fullTraining ch failStep failMask) :=
  (h.dramLost.foldl fun _ _ h₂ => h₂.foldl fun _ _ h₁ => h₁.foldl fun _ _ h => .ite h h.trainLane).trainStore
theorem dmcRun (h : s.Keeps t) {ch : Fin 2} : s.Keeps (t.dmcRun ch) := h.wr.wr.wr.wr.takeIn.csiEnable
theorem dmcSpeed (h : s.Keeps t) {ch : Fin 2} {sp : Nat} : s.Keeps (t.dmcSpeed ch sp) := h.wr.put.put.put.wr.wr
theorem trainStep (h : s.Keeps t) {pl : List Byte} {results : List (Nat × Nat)} : s.KeepsAns (t.trainStep pl results) :=
  .ite h.refuse (.ite h.refuse (.ite h.refuse ((Keeps.ite h.dramLost h).thenAns fun h₁ =>
    ((Keeps.ite h₁.trainArea h₁).foldl fun _ _ h => .ite h.trainLane h).thenAns fun h => .of
    (Keeps.ite h.trainStore h).dmcRun)))
theorem execDramRequest (h : s.Keeps t) {port : Fin 12} {addr : Nat} {write : Bool} {len : Nat} :
    s.KeepsOut (execDramRequest port addr write len t) :=
  .next h.dramReq
theorem execDramCommandSlot (h : s.Keeps t) {ch : Duo} : s.KeepsOut (execDramCommandSlot ch t) :=
  .next (.ite h h.dmcSlot)
theorem execDramRequestPromotion (h : s.Keeps t) {ch : Duo} {idx : Nat} :
    s.KeepsOut (execDramRequestPromotion ch idx t) :=
  .next (.ite h h.promote)
theorem execDramReadReturn (h : s.Keeps t) {ch : Duo} {syndromes : List Nat} :
    s.KeepsOut (execDramReadReturn ch syndromes t) :=
  .next (.ite h h.readReturn)
theorem execRefreshDue (h : s.Keeps t) {ch : Duo} : s.KeepsOut (execRefreshDue ch t) := .next (.ite h h.refreshDue)
theorem execZqcsDue (h : s.Keeps t) {ch : Duo} : s.KeepsOut (execZqcsDue ch t) := .next (.ite h.modDmc h)
theorem execRowDisturbWindowEnd (h : s.Keeps t) {ch : Duo} : s.KeepsOut (execRowDisturbWindowEnd ch t) :=
  .next (.ite h h.modDmc)
theorem execAlertPulse (h : s.Keeps t) {ch : Duo} {clocks : Nat} : s.KeepsOut (execAlertPulse ch clocks t) :=
  .next (.ite h h.alert)
theorem execSelfRefreshIdle (h : s.Keeps t) {ch : Duo} : s.KeepsOut (execSelfRefreshIdle ch t) :=
  .next (.ite h h.srIdle)
theorem execHoldSelfRefreshWrite (h : s.Keeps t) {ch : Duo} {v : Word} : s.KeepsOut (execHoldSelfRefreshWrite ch v t) :=
  .next (.ite h h.dmcCtrlWrite)
theorem execPatternRunGo (h : s.Keeps t) {ch : Duo} {v : Word} : s.KeepsOut (execPatternRunGo ch v t) :=
  .next (.ite h h.patGo)
theorem execPatternRunDone (h : s.Keeps t) {ch : Duo} {mismatches : List Nat} :
    s.KeepsOut (execPatternRunDone ch mismatches t) :=
  .next (.ite h h.patDone)
theorem execDramTrainStep (h : s.Keeps t) {port : Fin 3} {mb : Fin 6} {results : List (Nat × Nat)} :
    s.KeepsOut (execDramTrainStep port mb results t) :=
  .next (h.serve fun _ _ _ h => h.trainStep)

/-! ### Cal -/

theorem calStatus (h : s.Keeps t) : s.Keeps t.calStatus := by
  unfold State.calStatus
  split
  · exact h.put
  · exact h.put.wrs
theorem setRun (h : s.Keeps t) {r : Option CalRun} : s.Keeps (t.setRun r) := h.modCal.calStatus
theorem setDue (h : s.Keeps t) {i : Nat} {b : Bool} : s.Keeps (t.setDue i b) := h.wr
theorem setCmd (h : s.Keeps t) {i : Nat} {b : Bool} : s.Keeps (t.setCmd i b) := h.wr
theorem calLoop (h : s.Keeps t) {i : Nat} {b : Bool} : s.Keeps (t.calLoop i b) := .ite h.wrB.mgmt h
theorem calNext (h : s.Keeps t) : s.Keeps t.calNext := by
  unfold State.calNext
  exact .ite h (by
    extract_lets
    split
    · exact h.calLoop.setRun
    · exact .ite h (by
        split
        · exact h.calLoop.setRun
        · exact h))
theorem calDrive (h : s.Keeps t) {i : Nat} : s.Keeps (t.calDrive i) :=
  .ite (h.foldl fun _ _ h => h.wr.wr) (.ite (h.foldl fun _ _ h => h.wr).writeDelays h)
theorem calFlash (h : s.Keeps t) : s.Keeps t.calFlash := .ite h.modCal h.modCal.wr
theorem calFlashDue (h : s.Keeps t) : s.Keeps t.calFlashDue := .ite h.calFlash h
theorem calClose (h : s.Keeps t) : s.Keeps t.calClose := by
  unfold State.calClose
  extract_lets s₁
  have h₁ : s.Keeps s₁ := by
    unfold s₁
    split
    · exact .ite h h.modCal.calFlash.logEvent
    · exact h
  split
  · exact .ite h₁ h₁.modCal.done
  · exact h₁
theorem calCard (h : s.Keeps t) {i res temp : Nat} : s.Keeps (t.calCard i res temp) := by
  unfold State.calCard
  exact h.wrs.modCal
theorem calEnd (h : s.Keeps t) {r : CalRun} {res : Nat} : s.Keeps (t.calEnd r res) :=
  h.calCard.setDue.setCmd.calLoop.bind fun h => (Keeps.ite h.wr h).modCal.setRun.calClose
theorem calGood (h : s.Keeps t) {r : CalRun} {res q : Nat} : s.Keeps (t.calGood r res q) :=
  h.wr.bind fun h₃ => (Keeps.ite (h₃.foldl fun _ _ h => .ite h.setDue h) h₃).bind fun h₂ => (Keeps.ite
    (h₂.foldl fun _ _ h₁ => .ite (h₁.foldl fun _ _ h => .ite h.setDue h) h₁) h₂).calEnd
theorem calPair (h : s.Keeps t) {r : CalRun} {k : Nat} : s.Keeps (t.calPair r k) := h.setRun
theorem calDiscard (h : s.Keeps t) {r : CalRun} : s.Keeps (t.calDiscard r) := h.logEvent.setRun
theorem calBad (h : s.Keeps t) {r : CalRun} {diff : Nat} : s.Keeps (t.calBad r diff) := h.errEvent.calEnd
theorem calFallEnd (h : s.Keeps t) {r : CalRun} {q : Nat} : s.Keeps (t.calFallEnd r q) := h.errEvent.calGood
theorem calMove (h : s.Keeps t) {r : CalRun} : s.Keeps (t.calMove r) := by
  unfold State.calMove
  extract_lets
  split
  · exact h.wr.calDrive.calPair
  · exact h.wr.calDrive.calFallEnd
  · exact h
theorem calNextTap (h : s.Keeps t) {r : CalRun} {dir : Bool} {q : Nat} : s.Keeps (t.calNextTap r dir q) :=
  .ite h.calFallEnd (.ite h.calMove h.setRun)
theorem calFall (h : s.Keeps t) {r : CalRun} {dir : Bool} {last q : Nat} : s.Keeps (t.calFall r dir last q) :=
  .ite h.calFallEnd (.ite (.ite h.calMove h.setRun) h.calNextTap)
theorem calApply (h : s.Keeps t) {r : CalRun} : s.Keeps (t.calApply r) := by
  unfold State.calApply
  split
  · exact h.wr.calDrive.bind fun h => .ite h.calGood h.nextFree.calNextTap
  · exact h.calMove
theorem calSelect (h : s.Keeps t) {r : CalRun} {f1 f2 : List Nat} : s.Keeps (t.calSelect r f1 f2) := by
  unfold State.calSelect
  exact h.modCal.bind fun h => .ite (.ite h.calEnd h.calPair) (by
    split
    · exact h.calFall
    · exact .ite h.calGood (.ite h.calApply h.setRun))
theorem calTake (h : s.Keeps t) {figs : List Nat} : s.Keeps (t.calTake figs) := by
  unfold State.calTake
  split
  · exact h
  · exact .ite h.calStatus (.ite h.calDiscard (by
      extract_lets
      split
      · exact h.wr.setRun
      · exact .ite h.wr.setRun (h.wr.bind fun h => .ite h.calSelect (.ite h.calPair (.ite h.calBad h.calPair)))))
theorem calAbandon (h : s.Keeps t) : s.Keeps t.calAbandon := h.modCal.setRun.wr
theorem calRestart (h : s.Keeps t) : s.Keeps t.calRestart := by
  unfold State.calRestart
  split
  · exact h.setRun
  · exact h
theorem calQueue (h : s.Keeps t) {mask : Nat} : s.Keeps (t.calQueue mask) := h.wr.wr
theorem calPass (h : s.Keeps t) : s.Keeps t.calPass := h.modCal.calQueue.calNext
theorem runCalibration (h : s.Keeps t) {g : Tag} {pl : List Byte} : s.KeepsAns (t.runCalibration g pl) :=
  .ite h.refuse (.ite h.refuse (.ite (.of h) (.ite h.refuse (.ite (.of h.done) (.of h.modCal.calQueue.calNext)))))
theorem calSet (h : s.Keeps t) {i act v : Nat} : s.Keeps (t.calSet i act v) := (Keeps.ite h.wr h.wr).calDrive
theorem calStep (h : s.Keeps t) {g : Tag} {pl : List Byte} {q : Nat} : s.KeepsAns (t.calStep g pl q) := by
  unfold State.calStep
  refine .ite h.refuse (.ite h.refuse (.ite h.refuse (.ite ?_ (.ite (.of h) (.ite ?_
    (.ite (.of h.calSet) (.of h.modCal)))))))
  · cases sget (fun _ => none) t.cal.agreed (byteAt pl 4) with
    | none => exact .of h.calCard.wr.setDue.calFlash
    | some p => exact .of h.calCard.wr.wr.setDue.calFlash
  · exact h.wr.wr.thenAns fun h => .of (Keeps.ite h.modCal h)
theorem calRecess (h : s.Keeps t) : s.Keeps t.calRecess := by
  unfold State.calRecess
  split
  · exact h.modCal.calSet.answer.calNext
  · split
    · exact h
    · exact .ite h.calStatus (.ite h.calDiscard h.calApply.calNext)
theorem calDefer (h : s.Keeps t) : s.Keeps t.calDefer := by
  unfold State.calDefer
  split
  · exact h
  · exact .ite h h.errEvent.calEnd.calNext
theorem sensorConv (h : s.Keeps t) {k : Fin 4} {raw : Nat} : s.Keeps (t.sensorConv k raw) :=
  .ite h (h.wr.bind fun h₁ => (Keeps.ite (h₁.foldl fun _ _ h => .ite h.refRate h) h₁).modCal)
theorem calCheck (h : s.Keeps t) : s.Keeps t.calCheck := .ite h (h.foldl fun _ _ h => .ite h.setDue h).calNext
theorem calRestore (h : s.Keeps t) {b : List Byte} {i : Nat} : s.Keeps (t.calRestore b i) :=
  .ite h.wrs.wr.modCal h.wr.errEvent
theorem calBoot (h : s.Keeps t) : s.Keeps t.calBoot := by
  unfold State.calBoot
  exact (Keeps.ite h.wr h.wr.errEvent).bind fun h₂ => (Keeps.self (by
    split
    · exact h₂.wr.wr.foldl fun _ _ h => h.calRestore
    · exact (h₂.wr.foldl fun _ _ h => h.wr).bind fun h₁ => .ite h₁.errEvent (h₁.foldl fun _ _ h =>
        h.errEvent))).wr.modCal.calNext
theorem execSensorConversion (h : s.Keeps t) {k : Fin 4} {raw : Nat} : s.KeepsOut (execSensorConversion k raw t) :=
  .next (.ite h h.sensorConv)
theorem execCalDueCheck (h : s.Keeps t) : s.KeepsOut (execCalDueCheck t) := .next h.calCheck
theorem execCalTakeComplete (h : s.Keeps t) {figs : List Nat} : s.KeepsOut (execCalTakeComplete figs t) :=
  .next (.ite h h.calTake.calNext)
theorem execCalRecessApply (h : s.Keeps t) : s.KeepsOut (execCalRecessApply t) := .next (.ite h h.calRecess)
theorem execCalDeferExpiry (h : s.Keeps t) : s.KeepsOut (execCalDeferExpiry t) := .next h.calDefer
theorem execCalStepTimeout (h : s.Keeps t) : s.KeepsOut (execCalStepTimeout t) := by
  unfold Machine.execCalStepTimeout
  exact .next (by
    split
    · exact h.modCal.answer.calNext
    · exact h)
theorem execRunCalibration (h : s.Keeps t) {port : Fin 3} {mb : Fin 6} : s.KeepsOut (execRunCalibration port mb t) :=
  .next (h.serve fun _ _ _ h => h.runCalibration)
theorem execCalStep (h : s.Keeps t) {port : Fin 3} {mb : Fin 6} {q : Nat} : s.KeepsOut (execCalStep port mb q t) :=
  .next (h.serve fun _ _ _ h => h.calStep)

/-! ### Power -/

theorem relocked (h : s.Keeps t) : s.Keeps t.relocked := by
  unfold State.relocked
  split
  · exact h
  · exact .ite (h.foldl fun _ _ h => h.dmcSpeed).modSys h
theorem pllLock (h : s.Keeps t) {i : Nat} : s.Keeps (t.pllLock i) :=
  .ite h (h.setPll.bind fun h₁ => (Keeps.ite h₁.modAon h₁).relocked.bind fun h => .ite h.linkLocked h)
theorem pllLoss (h : s.Keeps t) {i : Nat} : s.Keeps (t.pllLoss i) := .ite h h.setPll.dropGood.showPend.errEvent
theorem pllStop (h : s.Keeps t) {i : Nat} : s.Keeps (t.pllStop i) := .ite h h.setPll
theorem clkWrite (h : s.Keeps t) {k v : Nat} : s.Keeps (t.clkWrite k v) :=
  (h.foldl fun _ _ h₁ => .ite (h₁.setClk.bind fun h => .ite h h.modSys) h₁).showPend
theorem speedStart (h : s.Keeps t) {target : Nat} : s.Keeps (t.speedStart target) := by
  unfold State.speedStart
  exact ((h.forMask fun _ _ h => h.wr).foldl fun _ _ h => h.wr.chnSync).modSys
theorem drained (h : s.Keeps t) : s.Keeps t.drained := by
  unfold State.drained
  split
  · exact h
  · exact .ite h (h.foldl fun _ _ h₁ => (Keeps.ite h₁ h₁.srEnter).wr.wr.bind fun h => .ite h
      h.incWrap.setPll.dropGood.showPend).modSys
theorem trainFull (h : s.Keeps t) {ch : Fin 2} {o : Nat} : s.Keeps (t.trainFull ch o) :=
  h.logEvent.fullTraining.bind fun h => .ite h.errEvent h
theorem trainOutcome (h : s.Keeps t) {ch : Fin 2} {o : Nat} : s.Keeps (t.trainOutcome ch o) := by
  unfold State.trainOutcome
  split
  · exact .ite h.trainRestore (.ite h.trainRestore.modSys h.trainFull)
  · exact h.trainFull
theorem trained (h : s.Keeps t) {outs : List Nat} : s.Keeps (t.trained outs) := by
  unfold State.trained
  split
  · exact h
  · exact .ite h ((h.foldl fun _ _ h => h.trainOutcome.dmcRun).forMask fun _ _ h₁ => h₁.writeShadow.bind fun h => .ite
      h h.commitReq).modSys.speedEnd
theorem modePins (h : s.Keeps t) : s.Keeps t.modePins := h.foldl fun _ _ h => h.lampUpdate.wrB.chnSync
theorem stopNow (h : s.Keeps t) {mask : Nat} : s.Keeps (t.stopNow mask) :=
  h.forMask fun _ _ h₁ => h₁.wr.bind fun h => .ite h.channelStop h
theorem arrive (h : s.Keeps t) {m prof cause : Nat} : s.Keeps (t.arrive m prof cause) := by
  unfold State.arrive
  exact (Keeps.ite h.wr h).enterMode.modSys.bind fun h₃ => (Keeps.ite (h₃.foldl fun _ _ h => .ite h.wr.mgmt
    h).tutorBack.runAll h₃).bind fun h₂ => (Keeps.ite (by
    split
    · exact h₂.calLoop
    · exact h₂) h₂).bind fun h₁ => (Keeps.ite (h₁.forMask fun _ _ h => h.linkOff) h₁).bind fun h =>
        (Keeps.ite h.speedStart h).modePins
theorem showTransit (h : s.Keeps t) {on : Bool} {target : Nat} : s.Keeps (t.showTransit on target) := h.wrB.wr
theorem transitStart (h : s.Keeps t) {target prof : Nat} {tag : Option Tag} :
    s.Keeps (t.transitStart target prof tag) :=
  h.modSys.showTransit.bind fun h₇ => (Keeps.ite (h₇.foldl fun _ _ h => .ite h.modSrc h) h₇).bind fun h₆ => (Keeps.ite
    (h₆.forMask fun _ _ h => h.wr) h₆).bind fun h₅ => (Keeps.ite (h₅.forMask fun _ _ h₁ =>
    (Keeps.ite h₁.runWrite h₁).bind fun h => .ite h.retrain h) h₅).bind fun h₄ => (Keeps.ite h₄.speedStart h₄).bind
    fun h₃ => (Keeps.ite (h₃.foldl fun _ _ h => h.replayStop) h₃).bind fun h₂ => (Keeps.ite
    h₂.tutorAllOff.stopNow.calPass h₂).bind fun h₁ => (Keeps.ite (h₁.calAbandon.tutorAllOff.stopNow.foldl fun _ _ h =>
    h.wr.chnSync.linkOff).modAon h₁).modePins
theorem scanEnter (h : s.Keeps t) {g : Tag} : s.Keeps (t.scanEnter g) :=
  ((((h.modSys.calAbandon.tutorAllOff.stopNow.foldl fun _ _ h => h.wr.chnSync.linkOff).foldl fun _ _ h =>
    h.put.put.dramLost).modPins.csiEnable.setClks.setClks.foldl fun _ _ h => h.modPort).enterMode.wr.foldl fun _ _ h =>
    h.modPort).modePins.done.bind fun h => .ite h h.modRst.wr
theorem modeReject (h : s.Keeps t) {why : Nat} : s.KeepsAns (t.modeReject why) := by
  unfold State.modeReject
  exact .of (h.forMask fun _ _ h => h.logEvent)
theorem modeGo (h : s.Keeps t) {target prof : Nat} {g : Tag} : s.KeepsAns (t.modeGo target prof g) :=
  .ite h.refuse (.ite h.modeReject (.ite (.of h.scanEnter) (.of h.transitStart)))
theorem setModeCmd (h : s.Keeps t) {g : Tag} {pl : List Byte} : s.KeepsAns (t.setModeCmd g pl) :=
  .ite h.refuse (.ite h.refuse (.ite h.refuse (.ite h.refuse (.ite h.refuse (.ite h.refuse (.ite (.of h) h.modeGo))))))
theorem setDegrade (h : s.Keeps t) {g : Tag} {pl : List Byte} : s.KeepsAns (t.setDegrade g pl) := by
  unfold State.setDegrade
  exact h.modSys.thenAns fun h₁ => .ite h.refuse (.ite h.refuse (.ite (.of h₁.wr) (.ite h.refuse (.ite (.of h₁)
    (.ite h.refuse (.ite h.refuse (h.modeGo.thenAns fun h => .ite (.of h.modSys) h)))))))
theorem standbyEnter (h : s.Keeps t) : s.Keeps t.standbyEnter := by
  unfold State.standbyEnter
  exact (h.foldl fun _ _ h => .ite h.srEnter.wr h.put.put.dramLost).bind fun h =>
    (Keeps.ite h h.calFlash).wrB.incSat.wr.setClks.put.modRst.modSys.modAon.modPins
theorem transitEnd (h : s.Keeps t) : s.Keeps t.transitEnd := by
  unfold State.transitEnd
  split
  · exact h
  · exact .ite h (h.modSys.showTransit.arrive.doneOpt.bind fun h => .ite h.standbyEnter h)
theorem parkCheck (h : s.Keeps t) : s.Keeps t.parkCheck := by
  unfold State.parkCheck
  split
  · exact h
  · exact .ite h (h.modSys.logEvent.bind fun h => .ite h h.arrive)
theorem transitDrop (h : s.Keeps t) : s.Keeps t.transitDrop := by
  unfold State.transitDrop
  split
  · exact h
  · exact .ite h (h.modSys.showTransit.doneOpt.bind fun h₁ => by
      extract_lets
      split
      · exact h₁
      · exact .ite ((h₁.forMask fun _ _ h => h.wr).modSys.foldl fun _ _ h => h.wr.chnSync) h₁.modSys)
theorem pwrFall (h : s.Keeps t) : s.Keeps t.pwrFall :=
  .ite h (.ite h.modSys (h.modSys.transitDrop.calRestart.forMask fun _ _ h₂ => h₂.modSrc.wr.modCh.bind fun h₁ =>
    (Keeps.ite h₁ h₁.wr).bind fun h => (Keeps.ite h.wr h).lampUpdate.chnOe).stamped.modSys.parkCheck)
theorem parkTimeout (h : s.Keeps t) : s.Keeps t.parkTimeout := by
  unfold State.parkTimeout
  split
  · exact h
  · exact (h.forMask fun _ _ h => h.blockEvent).modSys.parkCheck
theorem wakeNow (h : s.Keeps t) : s.Keeps t.wakeNow := by
  unfold State.wakeNow
  exact h.put.modAon.modPins
theorem wake (h : s.Keeps t) {k : Nat} : s.Keeps (t.wake k) := .ite h.put (h.modAon.bind fun h => .ite h.wakeNow h)
theorem advisory (h : s.Keeps t) {reason : Nat} : s.Keeps (t.advisory reason) :=
  .ite h (h.logEvent.modSys.bind fun h₁ => .ite (h₁.foldl fun _ _ h => h.modDmc) h₁)
theorem execSetMode (h : s.Keeps t) {port : Fin 3} {mb : Fin 6} : s.KeepsOut (execSetMode port mb t) :=
  .next (h.serve fun _ _ _ h => h.setModeCmd)
theorem execSetDegrade (h : s.Keeps t) {port : Fin 3} {mb : Fin 6} : s.KeepsOut (execSetDegrade port mb t) :=
  .next (h.serve fun _ _ _ h => h.setDegrade)
theorem execModeTransitionComplete (h : s.Keeps t) : s.KeepsOut (execModeTransitionComplete t) :=
  .next (.ite h.transitEnd h)
theorem execPwrWarnFall (h : s.Keeps t) : s.KeepsOut (execPwrWarnFall t) := .next h.pwrFall
theorem execPwrWarnRise (h : s.Keeps t) : s.KeepsOut (execPwrWarnRise t) := .next h.modSys
theorem execParkTimeout (h : s.Keeps t) : s.KeepsOut (execParkTimeout t) := .next h.parkTimeout
theorem execBackStatus (h : s.Keeps t) {n : Chan} {arr : Arrival} {payload : List Byte} :
    s.KeepsOut (execBackStatus n arr payload t) :=
  .next (h.released fun _ h => h.status.parkCheck)
theorem execStandbyMinLowExpiry (h : s.Keeps t) : s.KeepsOut (execStandbyMinLowExpiry t) :=
  .next (.ite (h.modAon.bind fun h => .ite h h.wakeNow) h)
theorem execWakePin (h : s.Keeps t) {i : Duo} : s.KeepsOut (execWakePin i t) := .next (.ite h.wake h)
theorem execWakeCanPattern (h : s.Keeps t) {c : Duo} : s.KeepsOut (execWakeCanPattern c t) := .next (.ite h.wake h)
theorem execWakeHspi (h : s.Keeps t) : s.KeepsOut (execWakeHspi t) := .next (.ite h.wake h)
theorem execWakeTimer (h : s.Keeps t) : s.KeepsOut (execWakeTimer t) := .next (.ite h.wake h)
theorem execPmicTimeout (h : s.Keeps t) : s.KeepsOut (execPmicTimeout t) := .next (.ite h.modAon.wr h)
theorem execCrystalSwitch (h : s.Keeps t) : s.KeepsOut (execCrystalSwitch t) := .next (.ite h.modAon.wr.logEvent h)
theorem execCrystalStop (h : s.Keeps t) : s.KeepsOut (execCrystalStop t) := .next (.ite h.modAon.wr.errEvent h)
theorem execPllLock (h : s.Keeps t) {i : Fin 9} : s.KeepsOut (execPllLock i t) := .next h.pllLock
theorem execPllLockLoss (h : s.Keeps t) {i : Fin 9} : s.KeepsOut (execPllLockLoss i t) := .next h.pllLoss
theorem execPllStop (h : s.Keeps t) {i : Fin 9} : s.KeepsOut (execPllStop i t) := .next h.pllStop
theorem execClockEnableWrite (h : s.Keeps t) {k : Fin 8} {v : Word} : s.KeepsOut (execClockEnableWrite k v t) :=
  .next h.clkWrite
theorem execDramDrainComplete (h : s.Keeps t) : s.KeepsOut (execDramDrainComplete t) := .next h.drained
theorem execTrainingRestoreComplete (h : s.Keeps t) {outcomes : List Nat} :
    s.KeepsOut (execTrainingRestoreComplete outcomes t) :=
  .next h.trained
theorem execDegradeAdvisory (h : s.Keeps t) {reason : Nat} : s.KeepsOut (execDegradeAdvisory reason t) :=
  .next h.advisory

/-! ### Boot -/

theorem coreReset (h : s.Keeps t) : s.Keeps t.coreReset :=
  ⟨fun w => swf_sset _ _ _ (swf_skeep _ _ (h.regs w)), fun w => swf_skeep _ _ (h.dram w), h.fifo, h.pending⟩
theorem recordCause (h : s.Keeps t) {k : Nat} {mid : Bool} : s.Keeps (t.recordCause k mid) :=
  h.put.bind fun h => .ite h.incSat h
theorem enterBoot (h : s.Keeps t) {was cause : Nat} : s.Keeps (t.enterBoot was cause) :=
  (Keeps.ite h.wr.wr h.setMode).endGrants
theorem deviceReset (h : s.Keeps t) {k c : Nat} : s.Keeps (t.deviceReset k c) :=
  h.coreReset.recordCause.wr.modRst.bind fun h => .ite h.wr.wr.endGrants.modRst h.enterBoot
theorem portsReset (h : s.Keeps t) : s.Keeps t.portsReset := (h.foldl fun _ _ h => h.modPort).modMbx.portDefaults.wr.wrs
theorem selectPart (h : s.Keeps t) {cs : Nat} : s.Keeps (t.selectPart cs) := .ite h h.modFw.modCal
theorem releaseCpu (h : s.Keeps t) : s.Keeps t.releaseCpu :=
  .ite h (h.wr.bind fun h => (Keeps.ite h h.selectPart).modRst.modPins)
theorem watchdogReset (h : s.Keeps t) : s.Keeps t.watchdogReset :=
  (h.stopNow.foldl fun _ _ h => h.setLampEn.modLink.chnOe).bind fun h =>
    h.modFw.modCal.modSys.modRst.modPins.showTransit.portsReset.recordCause.wr.enterBoot.tutorAllOff.releaseCpu.showPend
/-- The empty machine in which only the queue stands. -/
theorem fresh (h : s.Keeps t) {f : Fw} {c : CalState} {k : Nat} {y : Sys} {a : Aon} :
    s.Keeps { State.reset with pending := t.pending, fw := f, cal := c, free := k, sys := y, aon := a } :=
  ⟨fun _ => rfl, fun _ => rfl, fun _ => Nat.zero_le _, h.pending⟩
theorem powerOn (h : s.Keeps t) {bank0 : Nat} {win : Bool} : s.Keeps (t.powerOn bank0 win) :=
  h.fresh.wrs.logEvent.bind fun h => .ite h.errEvent h
theorem aonRelease (h : s.Keeps t) : s.Keeps t.aonRelease := .ite h.wr h
theorem coreGood (h : s.Keeps t) : s.Keeps t.coreGood := .ite h.modAon.modPins h
theorem brownOut (h : s.Keeps t) : s.Keeps t.brownOut := .ite h.modAon.modPins.deviceReset h
theorem resetPin (h : s.Keeps t) : s.Keeps t.resetPin :=
  .ite h (.ite h.recordCause.wake (.ite (h.recordCause.bind fun h => .ite h.wake h) h.deviceReset))
theorem standbyExit (h : s.Keeps t) : s.Keeps t.standbyExit := .ite h.modAon.modPins.deviceReset h
theorem optionsLoad (h : s.Keeps t) {straps : Nat} {otp : Word} {ok : Bool} {banks : Nat} {testenN : Bool} :
    s.Keeps (t.optionsLoad straps otp ok banks testenN) :=
  .ite h ((h.put.wrs.foldl fun _ _ h => .ite h.errEvent h).bind fun h₁ => (Keeps.ite h₁ h₁.errEvent).modRst.wrB.bind
    fun h => .ite (Keeps.ite h.logEvent h).modPins.wr.setPll.setPll.setClks.releaseCpu.showPend
    h.wr.setMode.wr.logEvent)
theorem releaseLate (h : s.Keeps t) : s.Keeps t.releaseLate := .ite h.errEvent h
theorem canConfig (h : s.Keeps t) {req : List Byte} : s.Keeps (t.canConfig req) := h.foldl fun _ _ h => h.put.modPort
theorem canDefaults (h : s.Keeps t) : s.Keeps t.canDefaults := h.put.put
theorem loadConfig (h : s.Keeps t) : s.Keeps t.loadConfig := by
  unfold State.loadConfig
  extract_lets s₁
  have h₁ : s.Keeps s₁ := h.setRegs (swf_skeep _ _)
  split
  · exact h₁.canDefaults.logEvent
  · exact ((h₁.modFw.foldl fun _ _ h => h.put).foldl fun _ _ h => h.modTut.foldl fun _ _ h => h.wr.modCtx).bind
      fun h => .ite h.canConfig h.canDefaults
theorem loadPatterns (h : s.Keeps t) : s.Keeps t.loadPatterns := by
  unfold State.loadPatterns
  exact h.foldl fun _ _ h => by
    split
    · exact h.sramWrite
    · exact .ite h.logEvent h
theorem releaseDram (h : s.Keeps t) : s.Keeps t.releaseDram := .ite h.wr h
theorem fabricRun (h : s.Keeps t) : s.Keeps t.fabricRun :=
  h.modRst.drivePins.modPins.wr.wr.logEvent.bind fun h₁ => ((((Keeps.ite h₁.modAon.logEvent
    h₁).calBoot.loadConfig.loadPatterns.foldl fun _ _ h => h.noteBanks).foldl fun _ _ h => .ite h.dmcRun h).foldl
    fun _ _ h => .ite h h.negotiate).releaseDram.showPend
theorem releaseFabric (h : s.Keeps t) : s.Keeps t.releaseFabric := .ite h.fabricRun h
theorem firmwareStart (h : s.Keeps t) {slot : Nat} : s.Keeps (t.firmwareStart slot) :=
  h.modRst.modFw.wr.setClks.setClks.releaseFabric.showPend
theorem clockGood (h : s.Keeps t) {d : Nat} : s.Keeps (t.clockGood d) := by
  unfold State.clockGood
  split
  · exact h
  · exact .ite (h.put.releaseCpu.releaseFabric.releaseDram.foldl fun _ _ h => .ite h.lecFree.tryStart h).showPend h
theorem readMode (h : s.Keeps t) : s.Keeps t.readMode := by
  unfold State.readMode
  exact h.modRst
theorem slotCheck (h : s.Keeps t) {modes : Nat} {fault : Bool} : s.Keeps (t.slotCheck modes fault) :=
  .ite h ((Keeps.ite h h.modFw.readMode).bind fun h₂ => .ite h₂.firmwareStart (h₂.logEvent.modRst.bind fun h₁ =>
    (Keeps.ite h₁.selectPart h₁).bind fun h => .ite h h.logEvent.modRst.modPins))
theorem bringUp (h : s.Keeps t) {ch : Fin 2} {how : Nat} : s.Keeps (t.bringUp ch how) := by
  unfold State.bringUp
  exact .ite h (h.dmcSpeed.fwBell.bind fun h₁ => (Keeps.ite h₁ h₁.dramLost).bind fun h => (Keeps.ite (by
    split
    · exact h.trainRestore
    · exact h.trainFull) h.trainFull).dmcRun.modPins.modRst.modAon)
theorem assetPlace (h : s.Keeps t) {a : Asset} {bs : List Byte} : s.Keeps (t.assetPlace a bs) := by
  unfold State.assetPlace
  exact h.portWrite.modFw
theorem assetsLoaded (h : s.Keeps t) : s.Keeps t.assetsLoaded := .ite h (h.foldl fun _ _ h => h.assetPlace).modRst
theorem chnBoot (h : s.Keeps t) {n : Fin 4} : s.Keeps (t.chnBoot n) := by
  unfold State.chnBoot
  split
  · exact .ite h.modChn.wr.wr.wr.chnSync h
  · exact h
theorem bootRoll (h : s.Keeps t) {found : List (List Nat)} : s.Keeps (t.bootRoll found) :=
  .ite h (h.foldl fun _ _ h => h.rollCall.chnBoot).modRst
theorem bootLight (h : s.Keeps t) {n : Fin 4} : s.Keeps (t.bootLight n) :=
  .ite h (h.releaseLec.bind fun h => .ite h (.ite h.logEvent h.issue.modRst.wr.runWrite.lampUpdate.chnBoot.logEvent))
theorem bootCommit (h : s.Keeps t) : s.Keeps t.bootCommit := by
  unfold State.bootCommit
  split
  · exact h
  · exact (Keeps.ite h (.ite (h.forMask fun _ _ h => h.logEvent) (h.issue.forMask fun _ _ h => h.runWrite))).bind
      fun h => .ite h.issue h
theorem bootEnd (h : s.Keeps t) : s.Keeps t.bootEnd :=
  .ite h (((h.foldl fun _ _ h => .ite h.logEvent h).bootCommit.wr.enterMode.foldl fun _ _ h =>
    h.wr).modePins.tutorBack.bind fun h => (Keeps.ite h.notify h).notify.notify)
theorem bankReset (h : s.Keeps t) {lo hi : Nat} : s.Keeps (t.bankReset lo hi) :=
  (h.setRegs (swf_skeep _ _)).setPend.setComp.setStrm.setActv
theorem subHidden (h : s.Keeps t) {n : Fin 4} {i : Nat} : s.Keeps (t.subHidden n i) := by
  unfold State.subHidden
  split
  · exact h.modCh
  · exact h.modMask
  · exact h.modBpf
  · exact h.modMask
  · exact h.modSrc
  · exact h.modLink
  · exact h.modChn.portTick
  · exact h.modTut
  · exact h.modCh
  · exact h
theorem pinsOff (h : s.Keeps t) {mask low : Nat} : s.Keeps (t.pinsOff mask low) := h.modPins
theorem chainPins (h : s.Keeps t) {n : Fin 4} {i : Nat} : s.Keeps (t.chainPins n i) := .ite h.modPins h
theorem subReset (h : s.Keeps t) {n : Fin 4} {i : Nat} : s.Keeps (t.subReset n i) :=
  (Keeps.ite (h.wr.wr.bind fun h => .ite h.channelStop h) h).bind fun h => (Keeps.ite h.linkOff
    h).bankReset.modCh.subHidden.lampUpdate.chnOe.pinsOff.chainPins
theorem sysReset (h : s.Keeps t) {i : Nat} : s.Keeps (t.sysReset i) :=
  .ite h.csiClk.modCsi.bankReset (.ite h.dramLost.bankReset.modDmc.modPins.modAon.csiEnable (.ite h.modPort (.ite
    (h.calAbandon.bankReset.foldl fun _ _ h => h.wr.put).wr (.ite h.modTap.bankReset.put h))))
theorem softReset (h : s.Keeps t) {k v : Nat} : s.Keeps (t.softReset k v) :=
  (Keeps.ite (h.put.foldl fun _ _ h => .ite h.subReset h) (.ite (h.put.foldl fun _ _ h => .ite h.sysReset h)
    h)).showPend
theorem softRelease (h : s.Keeps t) {k v : Nat} : s.Keeps (t.softRelease k v) :=
  h.put.bind fun h₂ => (Keeps.ite (h₂.foldl fun _ _ h => h.sendHard) h₂).bind fun h₁ =>
    ((Keeps.ite h₁.lecPins h₁).modRst.foldl fun _ _ h => h.answer).showPend
theorem watchdogArm (h : s.Keeps t) {v : Nat} : s.Keeps (t.watchdogArm v) :=
  .ite h (h.wr.bind fun h => .ite h.modRst.wr h)
theorem watchdogExpiry (h : s.Keeps t) : s.Keeps t.watchdogExpiry := .ite h.recordCause (.ite h.watchdogReset h)
/-- The part of a tick that moves the timebase on. -/
theorem tickTime (h : s.Keeps t) {k : BitVec 46} {a : Aon} : s.Keeps { t with tb := k, aon := a } :=
  ⟨h.regs, h.dram, h.fifo, h.pending⟩
theorem tick (h : s.Keeps t) : s.Keeps t.tick :=
  .ite (h.tickTime.bind fun h => (Keeps.ite h h.modPins).fwDrain) h
theorem execPowerOn (h : s.Keeps t) {bank0 : Fin 4} {win : Bool} : s.KeepsOut (execPowerOn t bank0 win) :=
  .next h.powerOn
theorem execAonRelease (h : s.Keeps t) : s.KeepsOut (execAonRelease t) := .next h.aonRelease
theorem execVddCoreGood (h : s.Keeps t) : s.KeepsOut (execVddCoreGood t) := .next h.coreGood
theorem execVddCoreBrownOut (h : s.Keeps t) : s.KeepsOut (execVddCoreBrownOut t) := .next h.brownOut
theorem execResetNPulse (h : s.Keeps t) : s.KeepsOut (execResetNPulse t) := .next h.resetPin
theorem execCoreSupplyGood (h : s.Keeps t) : s.KeepsOut (execCoreSupplyGood t) := .next h.standbyExit
theorem execWatchdogExpiry (h : s.Keeps t) : s.KeepsOut (execWatchdogExpiry t) := .next h.watchdogExpiry
theorem execWatchdogKick (h : s.Keeps t) : s.KeepsOut (execWatchdogKick t) := .next (.ite h.modRst h)
theorem execWatchdogArm (h : s.Keeps t) {v : Word} : s.KeepsOut (execWatchdogArm v t) := .next h.watchdogArm
theorem execDeviceReset (h : s.Keeps t) {v : Word} : s.KeepsOut (execDeviceReset v t) := .next (.ite h.deviceReset h)
theorem execDeviceResetDelay (h : s.Keeps t) : s.KeepsOut (execDeviceResetDelay t) := .next (.ite h.deviceReset h)
theorem execOptionLoadingComplete (h : s.Keeps t) {straps : Nat} {otp : Word} {otpOk : Bool} {banks : Nat} {testenN :
    Bool} :
    s.KeepsOut (execOptionLoadingComplete straps otp otpOk banks testenN t) :=
  .next h.optionsLoad
theorem execReleasePendingTimeout (h : s.Keeps t) : s.KeepsOut (execReleasePendingTimeout t) := .next h.releaseLate
theorem execSoftReset (h : s.Keeps t) {k : Fin 5} {v : Word} : s.KeepsOut (execSoftReset k v t) := .next h.softReset
theorem execSoftResetRelease (h : s.Keeps t) {k : Fin 5} {v : Word} : s.KeepsOut (execSoftResetRelease t k v) :=
  .next h.softRelease
theorem execImageSlotCheck (h : s.Keeps t) {modes : Nat} {fault : Bool} :
    s.KeepsOut (execImageSlotCheck modes fault t) :=
  .next h.slotCheck
theorem execClockGood (h : s.Keeps t) {d : Fin 256} : s.KeepsOut (execClockGood d t) := .next h.clockGood
theorem execDramBringupComplete (h : s.Keeps t) {ch : Duo} {how : Nat} :
    s.KeepsOut (execDramBringupComplete ch how t) :=
  .next h.bringUp
theorem execAssetCopyComplete (h : s.Keeps t) : s.KeepsOut (execAssetCopyComplete t) := .next h.assetsLoaded
theorem execBootRollCall (h : s.Keeps t) {found : List (List Nat)} : s.KeepsOut (execBootRollCall found t) :=
  .next h.bootRoll
theorem execBootLightStart (h : s.Keeps t) {n : Chan} : s.KeepsOut (execBootLightStart n t) := .next h.bootLight
theorem execBootComplete (h : s.Keeps t) : s.KeepsOut (execBootComplete t) := .next h.bootEnd

/-! ### Test -/

theorem tapSelect (h : s.Keeps t) {ir drive : Nat} : s.Keeps (t.tapSelect ir drive) := h.modTap
theorem tapRefuse (h : s.Keeps t) : s.Keeps t.tapRefuse := h.modTap.wr
theorem tapPublic (h : s.Keeps t) {ir shift : Nat} : s.Keeps (t.tapPublic ir shift) := .ite h.tapSelect.modTap h
theorem tapIntrusive (h : s.Keeps t) {ir drive : Nat} : s.Keeps (t.tapIntrusive ir drive) :=
  .ite h (.ite h.tapSelect h.tapRefuse)
theorem bypassed (h : s.Keeps t) {u : State} : s.Keeps (State.bypassed t u) := .ite h.modTap h
theorem tapField (h : s.Keeps t) {ir : Nat} {f : State → State} (k : ∀ u, s.Keeps u → s.Keeps (f u)) :
    s.Keeps (t.tapField ir f) := .ite h (.ite (k _ h.tapSelect) h.tapRefuse)
theorem jtagReset (h : s.Keeps t) : s.Keeps t.jtagReset := .ite h.modTap.wr h
theorem scanHalt (h : s.Keeps t) : s.Keeps t.scanHalt := .ite h.modRst.wr h
theorem tapEvrRead (h : s.Keeps t) {sel : Option Nat} : s.Keeps (t.tapEvrRead sel) := h.tapField fun _ h => h.modTap
theorem tapEvrClear (h : s.Keeps t) {key : Nat} : s.Keeps (t.tapEvrClear key) :=
  h.tapField fun _ h => .ite h.modTap.clearRequest h.modTap
theorem bistEvent (h : s.Keeps t) {kind unit result sev : Nat} : s.Keeps (t.bistEvent kind unit result sev) :=
  h.logEvent
theorem drillFault (h : s.Keeps t) {kind unit param : Nat} : s.Keeps (t.drillFault kind unit param) := by
  unfold State.drillFault
  extract_lets
  split
  · exact h.drillDone.logEvent
  · exact h.dramFree.drillDone.setPoison.bind fun h => .ite h.eccCorrected.nextFree h
  · exact h.dramFree.drillDone.setPoison.bind fun h => .ite h.incSat.eccPoison.nextFree h
  · exact h.drillDone.issueCmd.alert
  · exact h.dramFree.drillDone.issueCmd.alert
  · exact h.drillDone.modLink
  · exact h.drillDone.request
  · exact h
theorem drillGo (h : s.Keeps t) : s.Keeps t.drillGo :=
  .ite h.logEvent (h.logEvent.bind fun h => .ite h.drillEnd h.modEvr.wr.wr.drillFault)
theorem bistStart (h : s.Keeps t) {allowed : Bool} : s.Keeps (t.bistStart allowed) :=
  .ite h.wr.wr.wr.wr.put.modTap h.wr.bistEvent
theorem bistGo (h : s.Keeps t) {v : Nat} : s.Keeps (t.bistGo v) := .ite h.bistStart h
theorem tapBistCtrl (h : s.Keeps t) {v : Nat} : s.Keeps (t.tapBistCtrl v) :=
  h.tapField fun _ h₁ => h₁.wr.wr.modTap.bind fun h => .ite h.bistStart h
theorem bistComplete (h : s.Keeps t) {errs word mem : Nat} : s.Keeps (t.bistComplete errs word mem) := by
  unfold State.bistComplete
  split
  · exact h
  · exact h.modTap.wr.bind fun h₂ => .ite h₂.wr.bistEvent (h₂.wr.bind fun h₁ => (Keeps.ite h₁.wr h₁).bind fun h =>
      (Keeps.ite h.wr h).bistEvent)
theorem execJtagReset (h : s.Keeps t) : s.KeepsOut (execJtagReset t) := .next h.jtagReset
theorem execScantestHalt (h : s.Keeps t) : s.KeepsOut (execScantestHalt t) := .next h.scanHalt
theorem execTapIdcode (h : s.Keeps t) : s.KeepsOut (execTapIdcode t) := .next h.tapPublic
theorem execTapExtest (h : s.Keeps t) : s.KeepsOut (execTapExtest t) := .next h.tapIntrusive
theorem execTapSample (h : s.Keeps t) {pins : Nat} : s.KeepsOut (execTapSample pins t) := .next h.tapPublic
theorem execTapPreload (h : s.Keeps t) {cells : Nat} : s.KeepsOut (execTapPreload cells t) :=
  .next (.ite h.tapSelect.modTap h)
theorem execTapClamp (h : s.Keeps t) : s.KeepsOut (execTapClamp t) := .next h.tapIntrusive.bypassed
theorem execTapHighz (h : s.Keeps t) : s.KeepsOut (execTapHighz t) := .next h.tapIntrusive.bypassed
theorem execTapBypass (h : s.Keeps t) : s.KeepsOut (execTapBypass t) := .next h.tapPublic
theorem execTapFactory (h : s.Keeps t) {code : Nat} : s.KeepsOut (execTapFactory code t) :=
  .ite (.next h) (.ite (.next h.tapPublic) (.ite .refused (.next h.tapRefuse)))
theorem execTapEvrRead (h : s.Keeps t) {sel : Option Nat} : s.KeepsOut (execTapEvrRead sel t) := .next h.tapEvrRead
theorem execTapEvrClear (h : s.Keeps t) {key : Nat} : s.KeepsOut (execTapEvrClear key t) := .next h.tapEvrClear
theorem execTapBistCtrl (h : s.Keeps t) {v : Word} : s.KeepsOut (execTapBistCtrl v t) := .next (.ite h h.tapBistCtrl)
theorem execTapBistResult (h : s.Keeps t) : s.KeepsOut (execTapBistResult t) := .next (h.tapField fun _ h => h.modTap)
theorem execBistGo (h : s.Keeps t) {v : Word} : s.KeepsOut (execBistGo v t) := .next (.ite h h.bistGo)
theorem execBistComplete (h : s.Keeps t) {errs word mem : Nat} : s.KeepsOut (execBistComplete errs word mem t) :=
  .next (.ite h h.bistComplete)
theorem execDrillGo (h : s.Keeps t) {v : Word} : s.KeepsOut (execDrillGo v t) := .next (.ite h.drillGo h)

/-! ### Bus -/

theorem sysWrite (h : s.Keeps t) {a v : Nat} : s.Keeps (t.sysWrite a v) :=
  .ite h.bellWrite (.ite h.flWrite (.ite h.clkWrite h.plainWrite))
theorem rstWrite (h : s.Keeps t) {a v : Nat} : s.Keeps (t.rstWrite a v) :=
  .ite (h.plainWrite.bind fun h => .ite h.wr h) (.ite h.softReset (.ite h.watchdogArm h.plainWrite))
theorem evrWrite (h : s.Keeps t) {a v : Nat} : s.Keeps (t.evrWrite a v) :=
  .ite (.ite h.clearRequest h) (.ite (.ite h.faultRelease h) (.ite (.ite h.drillGo h) h.plainWrite))
theorem mbxWrite (h : s.Keeps t) {a v : Nat} : s.Keeps (t.mbxWrite a v) :=
  .ite h.doorbell (.ite h.outboxAck (.ite (.ite h.plainWrite h.wr) h.plainWrite))
theorem csiWrite (h : s.Keeps t) {rx : Fin 2} {a v : Nat} : s.Keeps (t.csiWrite rx a v) := by
  unfold State.csiWrite
  exact .ite (h.plainWrite.bind fun h => .ite h.wr h) (by
    split
    · exact h.csiCfgWrite
    · exact h.plainWrite)
theorem lnkCtrlWrite (h : s.Keeps t) {n : Fin 4} {v : Nat} : s.Keeps (t.lnkCtrlWrite n v) :=
  h.plainWrite.bind fun h₁ => (Keeps.ite h₁.mgmt h₁).bind fun h => .ite h.negotiate (.ite h.linkOff h)
theorem lecWriteHi (h : s.Keeps t) {n : Fin 4} {a v : Nat} : s.Keeps (t.lecWriteHi n a v) := by
  unfold State.lecWriteHi
  exact .ite h.lnkCtrlWrite (.ite h.chnCtrlWrite (.ite h.chnMemWrite (.ite h.plainWrite.levelNew (.ite h.trcCfgWrite
    (.ite h.injCfgWrite (.ite h.injTableWrite (by
    split
    · exact h.ctxCtrlWrite
    · split
      · exact h.zfwWrite
      · exact h.plainWrite.bind fun h => by
          extract_lets
          split
          · exact h.alignUpdate
          · exact h)))))))
theorem injMask (h : s.Keeps t) {n : Fin 4} : s.Keeps (t.injMask n) := h.maskSubmit
theorem lecWrite (h : s.Keeps t) {n : Fin 4} {a v : Nat} : s.Keeps (t.lecWrite n a v) :=
  .ite h.runWrite (.ite (.ite h.commitReq h) (.ite h.lecWriteHi (.ite h.lutWrite (.ite h.meshWrite (.ite h.coefWrite
    (.ite h.ttWrite (.ite (.ite h.injMask h) (.ite (h.plainWrite.bind fun h => .ite h.wr h) h.plainWrite))))))))
theorem dmcWrite (h : s.Keeps t) {ch : Fin 2} {a v : Nat} : s.Keeps (t.dmcWrite ch a v) :=
  .ite h.dmcCtrlWrite (.ite h.patGo h.plainWrite)
theorem busWrite (h : s.Keeps t) {a v : Nat} : s.Keeps (t.busWrite a v) := by
  unfold State.busWrite
  split
  · exact h
  · exact .ite h (.ite h.portWrite (.ite h.errWrite (.ite h.sysWrite (.ite h.rstWrite (.ite (.ite h.evrWrite h)
      (.ite h.mbxWrite (.ite h.csiWrite (.ite h.dmcWrite (.ite (.ite h.bistGo h.plainWrite)
      (.ite h.lecWrite h.plainWrite))))))))))
theorem tbRead (h : s.Keeps t) : s.Keeps t.tbRead.1 := .fst h.stamped.put
theorem busRead (h : s.Keeps t) {a : Nat} : s.Keeps (t.busRead a).1 := by
  unfold State.busRead
  split
  · exact .fst h
  · exact .iteFst (.iteFst (.fst h.dramOutside) (.fst h)) (.iteFst (.fst h.tbRead) (.iteFst (.fst h.grantStatus)
      (.iteFst (.fst h) (.iteFst (.iteFst (.fst h.wr) (.iteFst (.fst h.wr) (.iteFst (.fst h.wr) (.iteFst (.fst h)
      (.iteFst (.fst h) (.iteFst (.fst h) (by
      split
      · exact .fst h
      · exact .fst h))))))) (.iteFst (.fst h) (.fst h))))))
theorem execRegisterWrite (h : s.Keeps t) {addr : Nat} {v : Word} : s.KeepsOut (execRegisterWrite addr v t) :=
  .next h.busWrite
theorem execErrClear (h : s.Keeps t) {addr : Nat} {v : Word} : s.KeepsOut (execErrClear addr v t) :=
  .next (.ite h.errWrite h)

/-! ### Hspi -/

theorem malformed (h : s.Keeps t) {op : Nat} : s.Keeps (t.malformed op) := h.wr.incSat.logEvent
theorem cutShort (h : s.Keeps t) {op partBits : Nat} : s.Keeps (t.cutShort op partBits) := .ite h.malformed h
theorem notLive (h : s.Keeps t) {dead : Bool} : s.Keeps (t.notLive dead) := .ite h.wr.errEvent h
theorem windowRead (h : s.Keeps t) {hd : Nat} {late : Bool} : s.Keeps (t.windowRead hd late).1 :=
  .iteFst (h.busRead.bind fun h => .iteFst (.fst h) (.fst h.wr)) (.fst h)
theorem readByte (h : s.Keeps t) {addr i word : Nat} {late : List Nat} : s.Keeps (t.readByte addr i word late).1 := by
  unfold State.readByte
  exact .iteFst (.iteFst (.fst h.busRead) (.fst h)) (.iteFst (.fst h) (.iteFst (.fst h.windowRead) (.fst h)))
theorem readBytes (h : s.Keeps t) {addr : Nat} {late : List Nat} {k i word : Nat} {dead : Bool} {out : List Byte} :
    s.Keeps (State.readBytes addr late k i t word dead out).1 := by
  induction k generalizing t i word dead out with
  | zero => exact h
  | succ k ih => exact ih h.readByte
theorem drive (h : s.Keeps t) {bs : List Byte} : s.Keeps (t.drive bs) := h.modMbx
theorem readServed (h : s.Keeps t) {addr n : Nat} {late : List Nat} : s.Keeps (t.readServed addr n late) :=
  h.readBytes.notLive.drive
theorem hspiRead (h : s.Keeps t) {op addr n : Nat} {late : List Nat} {partBits : Nat} :
    s.Keeps (t.hspiRead op addr n late partBits) :=
  .ite h.drive (.ite h.malformed.drive (.ite h.malformed.drive (.ite h.readServed.malformed.drive
    h.readServed.cutShort)))
theorem readStatus (h : s.Keeps t) {n partBits : Nat} : s.Keeps (t.readStatus n partBits) :=
  .ite h.grantStatus.drive.cutShort h.drive
theorem windowWrite (h : s.Keeps t) {hd v : Nat} : s.Keeps (t.windowWrite hd v).1 := by
  unfold State.windowWrite
  exact .iteFst (.fst h) (.iteFst (.fst h) (.fst h.busWrite))
theorem writeByte {addr i : Nat} {bs : List Byte} {p : State × Bool × Nat} (h : s.Keeps p.1) :
    s.Keeps (State.writeByte addr bs p i).1 :=
  .iteFst (.iteFst (.fst h.busWrite) h) (.iteFst (.iteFst h (.iteFst (.fst h) (.fst h.hostWrite))) (.iteFst h
    (.iteFst (.fst h.windowWrite) h)))
theorem hspiWrite (h : s.Keeps t) {op addr : Nat} {bytes : List Byte} {partBits : Nat} :
    s.Keeps (t.hspiWrite op addr bytes partBits) := by
  unfold State.hspiWrite
  exact .ite h (.ite h.malformed (.ite h (.ite h.malformed (
    (((Keeps.fst h).foldlFst fun _ _ h => h.writeByte).notLive.foldl fun _ _ h => .ite h.ignoredMb h).bind
      fun h => .ite h.malformed h.cutShort))))
theorem fastLane (h : s.Keeps t) {addr : Nat} {bytes : List Byte} {partBits : Nat} :
    s.Keeps (t.fastLane addr bytes partBits) :=
  .ite h (.ite h.malformed h.maskSubmit.cutShort)
theorem execHspiRead (h : s.Keeps t) {addr n partBits : Nat} : s.KeepsOut (execHspiRead addr n t partBits) :=
  .next h.hspiRead
theorem execHspiFastRead (h : s.Keeps t) {addr n : Nat} {late : List Nat} {partBits : Nat} :
    s.KeepsOut (execHspiFastRead addr n late t partBits) :=
  .next h.hspiRead
theorem execHspiQuadRead (h : s.Keeps t) {addr n : Nat} {late : List Nat} {partBits : Nat} :
    s.KeepsOut (execHspiQuadRead addr n late t partBits) :=
  .next h.hspiRead
theorem execHspiWrite (h : s.Keeps t) {op : Byte} {addr : Nat} {bytes : List Byte} {partBits : Nat} :
    s.KeepsOut (execHspiWrite op addr bytes partBits t) :=
  .next (.ite h h.hspiWrite)
theorem execHspiQuadWrite (h : s.Keeps t) {addr : Nat} {bytes : List Byte} {partBits : Nat} :
    s.KeepsOut (execHspiQuadWrite addr bytes partBits t) :=
  .next h.hspiWrite
theorem execHspiReadStatus (h : s.Keeps t) {n partBits : Nat} : s.KeepsOut (execHspiReadStatus n t partBits) :=
  .next h.readStatus
theorem execFastLaneWrite (h : s.Keeps t) {addr : Nat} {bytes : List Byte} {partBits : Nat} :
    s.KeepsOut (execFastLaneWrite addr bytes t partBits) :=
  .next h.fastLane

/-! ### Staging -/

theorem restage (h : s.Keeps t) {f : Stage → Stage} : s.Keeps (t.restage f) := h.modFw
theorem staged (h : s.Keeps t) {f : Stage → Stage} : s.KeepsAns (t.staged f) :=
  .of h.restage
theorem setTiming (h : s.Keeps t) {pl : List Byte} : s.KeepsAns (t.setTiming pl) :=
  .ite h.refuse (.ite h.refuse (h.forMask fun _ _ h => h.wr).staged)
theorem setLayer (h : s.Keeps t) {pl : List Byte} : s.KeepsAns (t.setLayer pl) :=
  .ite h.refuse (.ite h.refuse h.staged)
theorem setBeam (h : s.Keeps t) {pl : List Byte} : s.KeepsAns (t.setBeam pl) := by
  unfold State.setBeam
  exact .ite h.refuse (.ite h.refuse (.ite h.staged (by
    split
    · exact h.refuse
    · exact .ite h.refuse h.staged)))
theorem setMasks (h : s.Keeps t) {pl : List Byte} : s.KeepsAns (t.setMasks pl) := by
  unfold State.setMasks
  exact .ite h.refuse (.ite h.refuse (.of h.modFw))
theorem setAnimation (h : s.Keeps t) {pl : List Byte} : s.KeepsAns (t.setAnimation pl) :=
  .ite h.refuse (.ite h.refuse h.staged)
theorem touchGroups (h : s.Keeps t) {mask : Nat} : s.Keeps (t.touchGroups mask) := h.modFw
theorem groupLevel (h : s.Keeps t) {mask level fade : Nat} : s.Keeps (t.groupLevel mask level fade) :=
  h.foldl fun _ _ h₁ => h₁.foldl fun _ _ h => h.wr.wr.levelNew
theorem setGroups (h : s.Keeps t) {pl : List Byte} : s.KeepsAns (t.setGroups pl) := by
  unfold State.setGroups
  exact .ite h.refuse (.ite h.refuse (by
    split
    · exact h.touchGroups.staged
    · exact .of h.groupLevel
    · exact h.touchGroups.staged
    · exact h.touchGroups.staged))
theorem setDerate (h : s.Keeps t) {pl : List Byte} : s.KeepsAns (t.setDerate pl) :=
  .ite h.refuse (.ite h.refuse (.ite h.refuse h.staged))
theorem setLevelling (h : s.Keeps t) {pl : List Byte} : s.KeepsAns (t.setLevelling pl) :=
  .ite h.refuse (.ite h.refuse (h.forMask fun _ _ h => h.modTut).staged)
theorem commitReceived (h : s.Keeps t) {g : Tag} {pl : List Byte} : s.KeepsAns (t.commitReceived g pl) :=
  .ite h.refuse (.ite h.refuse (.ite h.refuse (.ite h.refuse h.commitCmd)))
theorem snapshot (h : s.Keeps t) {pl : List Byte} : s.KeepsAns (t.snapshot pl) :=
  .ite h.refuse (.ite h.refuse (.of h.fwBell))
theorem execSetTiming (h : s.Keeps t) {port : Fin 3} {mb : Fin 6} : s.KeepsOut (execSetTiming port mb t) :=
  .next (h.serve fun _ _ _ h => h.setTiming)
theorem execSetLayer (h : s.Keeps t) {port : Fin 3} {mb : Fin 6} : s.KeepsOut (execSetLayer port mb t) :=
  .next (h.serve fun _ _ _ h => h.setLayer)
theorem execCommit (h : s.Keeps t) {port : Fin 3} {mb : Fin 6} : s.KeepsOut (execCommit port mb t) :=
  .next (h.serve fun _ _ _ h => h.commitReceived)
theorem execSetBeam (h : s.Keeps t) {port : Fin 3} {mb : Fin 6} : s.KeepsOut (execSetBeam port mb t) :=
  .next (h.serve fun _ _ _ h => h.setBeam)
theorem execSetMasks (h : s.Keeps t) {port : Fin 3} {mb : Fin 6} : s.KeepsOut (execSetMasks port mb t) :=
  .next (h.serve fun _ _ _ h => h.setMasks)
theorem execSetAnimation (h : s.Keeps t) {port : Fin 3} {mb : Fin 6} : s.KeepsOut (execSetAnimation port mb t) :=
  .next (h.serve fun _ _ _ h => h.setAnimation)
theorem execSetGroups (h : s.Keeps t) {port : Fin 3} {mb : Fin 6} : s.KeepsOut (execSetGroups port mb t) :=
  .next (h.serve fun _ _ _ h => h.setGroups)
theorem execSetDerate (h : s.Keeps t) {port : Fin 3} {mb : Fin 6} : s.KeepsOut (execSetDerate port mb t) :=
  .next (h.serve fun _ _ _ h => h.setDerate)
theorem execSnapshot (h : s.Keeps t) {port : Fin 3} {mb : Fin 6} : s.KeepsOut (execSnapshot port mb t) :=
  .next (h.serve fun _ _ _ h => h.snapshot)
theorem execSetLevelling (h : s.Keeps t) {port : Fin 3} {mb : Fin 6} : s.KeepsOut (execSetLevelling port mb t) :=
  .next (h.serve fun _ _ _ h => h.setLevelling)

/-! ### Assets -/

theorem dropUpload (h : s.Keeps t) {id : Nat} : s.Keeps (t.dropUpload id) := h.modFw
theorem startUpload (h : s.Keeps t) {a : Asset} {store : Bool} : s.Keeps (t.startUpload a store) := by
  unfold State.startUpload
  exact h.dropUpload.modFw
theorem finishUpload (h : s.Keeps t) {g : Tag} {u : Upload} {b : List Byte} : s.KeepsAns (t.finishUpload g u b) := by
  unfold State.finishUpload
  exact h.dropUpload.thenAns fun h₂ => .ite h₂.refuse (.ite h₂.refuse (h₂.modFw.thenAns fun h₁ =>
    (Keeps.ite h₁.sramWrite h₁).thenAns fun h => .ite (.of h.modFw) (.of h)))
theorem takePiece (h : s.Keeps t) {g : Tag} {u : Upload} {d : List Byte} : s.KeepsAns (t.takePiece g u d) := by
  unfold State.takePiece
  exact h.portWrite.modFw.thenAns fun h => .ite h.finishUpload (.of h)
theorem loadAsset (h : s.Keeps t) {g : Tag} {pl : List Byte} : s.KeepsAns (t.loadAsset g pl) := by
  unfold State.loadAsset
  exact .ite h.refuse (.ite h.refuse (.ite h.refuse (.ite (.ite h.refuse (.ite h.refuse (.ite h.refuse
    (h.startUpload.thenAns fun h => by
    extract_lets
    split
    · exact h.takePiece
    · exact h.refuse)))) (by
    split
    · exact h.refuse
    · exact .ite h.refuse (.ite h.refuse (.ite h.refuse (.ite h.refuse h.takePiece)))))))
theorem execLoadAsset (h : s.Keeps t) {port : Fin 3} {mb : Fin 6} : s.KeepsOut (execLoadAsset port mb t) :=
  .next (h.serve fun _ _ _ h => h.loadAsset)

/-! ### Loops -/

theorem putList (h : s.Keeps t) {f : Nat → Nat} {k : Nat} {l : List Nat} : s.Keeps (t.putList f k l) :=
  h.foldl fun _ _ h => h.put
theorem putRefs (h : s.Keeps t) {n c : Fin 4} {pl : List Byte} : s.Keeps (t.putRefs n c pl) := h.putList
theorem putTemplate (h : s.Keeps t) {n c : Fin 4} {kind rate phi : Nat} {g : Template} :
    s.Keeps (t.putTemplate n c kind rate phi g) :=
  h.put.bind fun h => (Keeps.ite h.wr
    h.wr).wr.putList.putList.putList.putList.putList.putList.putList.modCtx.alignUpdate
theorem stageSpSel (h : s.Keeps t) {n k : Fin 4} : s.Keeps (t.stageSpSel n k) := .ite h h.restage
theorem loadTemplate (h : s.Keeps t) {n c : Fin 4} {pl : List Byte} : s.KeepsAns (t.loadTemplate n c pl) := by
  unfold State.loadTemplate
  exact .ite h.refuse (by
    split
    · exact h.refuse
    · exact .ite (.ite (h.setFree.putTemplate.putRefs.thenAns fun h => .of (.ite h.stageSpSel h)) h.refuse) (by
        split
        · exact h.refuse
        · split
          · exact h.refuse
          · exact .ite (h.setFree.putTemplate.putRefs.thenAns fun h => .of (.ite h.stageSpSel h)) h.refuse))
theorem setLoop (h : s.Keeps t) {pl : List Byte} : s.KeepsAns (t.setLoop pl) := by
  unfold State.setLoop
  exact .ite h.refuse (.ite h.refuse (.ite h.loadTemplate (.ite h.refuse (.ite (.of (.ite h.ctxDisable h)) (.ite
    (.ite h.refuse (.ite h.refuse (.of (.ite h h.ctxEnable)))) (.ite h.refuse (.of h.putRefs)))))))
theorem putMatrix (h : s.Keeps t) {n c : Fin 4} {m rows cols : Nat} {pl : List Byte} :
    s.Keeps (t.putMatrix n c m rows cols pl) :=
  h.foldl fun _ _ h₁ => h₁.foldl fun _ _ h => h.put
theorem putDims (h : s.Keeps t) {n c : Fin 4} {m rows cols : Nat} : s.Keeps (t.putDims n c m rows cols) := by
  unfold State.putDims
  extract_lets d set
  have hset : ∀ u f v, s.Keeps u → s.Keeps (set u f v) := fun u f v h => by
    unfold set
    split
    · exact h.wr
    · exact h
  exact hset _ _ _ (hset _ _ _ (hset _ _ _ h))
theorem loopLoadMatrix (h : s.Keeps t) {pl : List Byte} : s.KeepsAns (t.loopLoadMatrix pl) := by
  unfold State.loopLoadMatrix
  exact .ite h.refuse (.ite h.refuse (.ite h.refuse (.of h.putMatrix.putDims.modCtx)))
theorem traceSetup (h : s.Keeps t) {pl : List Byte} : s.KeepsAns (t.traceSetup pl) :=
  .ite h.refuse (.ite h.refuse (.of h.put.wr.trcCfgWrite))
theorem injectSetup (h : s.Keeps t) {pl : List Byte} : s.KeepsAns (t.injectSetup pl) := by
  unfold State.injectSetup
  exact .ite h.refuse (.ite h.refuse (.ite (.of h.put.put.put.put.injCfgWrite) (by
    split
    · exact h.refuse
    · exact .ite h.refuse (.of (h.foldl fun _ _ h => h.injTableWrite).put.put.put.put.injCfgWrite))))
theorem traceRead (h : s.Keeps t) {pl : List Byte} : s.KeepsAns (t.traceRead pl) :=
  .ite h.refuse (.ite h.refuse (.of h))
theorem execSetLoop (h : s.Keeps t) {port : Fin 3} {mb : Fin 6} : s.KeepsOut (execSetLoop port mb t) :=
  .next (h.serve fun _ _ _ h => h.setLoop)
theorem execLoopLoadMatrix (h : s.Keeps t) {port : Fin 3} {mb : Fin 6} : s.KeepsOut (execLoopLoadMatrix port mb t) :=
  .next (h.serve fun _ _ _ h => h.loopLoadMatrix)
theorem execTraceSetup (h : s.Keeps t) {port : Fin 3} {mb : Fin 6} : s.KeepsOut (execTraceSetup port mb t) :=
  .next (h.serve fun _ _ _ h => h.traceSetup)
theorem execInjectSetup (h : s.Keeps t) {port : Fin 3} {mb : Fin 6} : s.KeepsOut (execInjectSetup port mb t) :=
  .next (h.serve fun _ _ _ h => h.injectSetup)
theorem execTraceRead (h : s.Keeps t) {port : Fin 3} {mb : Fin 6} : s.KeepsOut (execTraceRead port mb t) :=
  .next (h.serve fun _ _ _ h => h.traceRead)

/-! ### Storage -/

theorem storeConfig (h : s.Keeps t) {g : Tag} {pl : List Byte} : s.KeepsAns (t.storeConfig g pl) := by
  unfold State.storeConfig
  exact .ite h.refuse (.ite h.refuse (.ite h.refuse (.of h.modFw)))
theorem fwUpdateRun (h : s.Keeps t) {g : Tag} {act slot off : Nat} {d : List Byte} {fault : Bool} :
    s.KeepsAns (t.fwUpdateRun g act slot off d fault) :=
  .ite h.refuse (.ite h.refuse (.ite h.refuse (.ite h.refuse (.ite h.refuse (.ite (.of h.modFw) (.of h.modFw))))))
theorem fwUpdateRom (h : s.Keeps t) {act slot off : Nat} {d : List Byte} : s.KeepsAns (t.fwUpdateRom act slot off d) :=
  .ite (.ite h.refuse (.ite h.refuse (.of h.modFw))) (.ite (.ite (.of h.firmwareStart) (.of h.logEvent)) h.refuse)
theorem fwUpdate (h : s.Keeps t) {fault : Bool} {g : Tag} {pl : List Byte} : s.KeepsAns (State.fwUpdate fault t g pl) :=
  .ite h.refuse (.ite h.refuse (.ite h.fwUpdateRom h.fwUpdateRun))
theorem flashDone (h : s.Keeps t) {fault : Bool} : s.Keeps (t.flashDone fault) := by
  unfold State.flashDone
  split
  · exact h
  · exact .ite h (h.modFw.calFlashDue.bind fun h => by
      extract_lets
      split
      · exact h.modFw.doneOpt
      · split
        · exact h.modFw.doneOpt
        · exact h.doneOpt
      · exact h.modFw.doneOpt
      · exact .ite h.doneOpt h.doneOpt)
theorem execStoreConfig (h : s.Keeps t) {port : Fin 3} {mb : Fin 6} : s.KeepsOut (execStoreConfig port mb t) :=
  .next (h.serve fun _ _ _ h => h.storeConfig)
theorem execFwUpdate (h : s.Keeps t) {port : Fin 3} {mb : Fin 6} {fault : Bool} :
    s.KeepsOut (execFwUpdate port mb fault t) :=
  .next (h.serve fun _ _ _ h => h.fwUpdate)
theorem execFlashOpComplete (h : s.Keeps t) {fault : Bool} : s.KeepsOut (execFlashOpComplete fault t) :=
  .next h.flashDone

/-! ### Commands -/

theorem getInfo (h : s.Keeps t) {pl : List Byte} : s.KeepsAns (t.getInfo pl) := .ite h.refuse (.ite h.refuse (.of h))
theorem getStatus (h : s.Keeps t) {pl : List Byte} : s.KeepsAns (t.getStatus pl) :=
  .ite h.refuse (.ite (.of h) (.of h))
theorem readEvents (h : s.Keeps t) {g : Tag} {pl : List Byte} : s.KeepsAns (t.readEvents g pl) :=
  .ite h.refuse (.ite h.refuse (.ite h.refuse (.of h)))
theorem clearEvents (h : s.Keeps t) {g : Tag} {pl : List Byte} : s.KeepsAns (t.clearEvents g pl) :=
  .ite h.refuse (.of h.clearRequest)
theorem retrainTo (h : s.Keeps t) {n : Fin 4} {lanes rate back cause : Nat} {g : Tag} :
    s.KeepsAns (t.retrainTo n lanes rate back cause g) := by
  unfold State.retrainTo
  split
  · exact h.refuse
  · exact .of h.setLimit.retrain
theorem negotiateNow (h : s.Keeps t) {n : Fin 4} {g : Tag} : s.KeepsAns (t.negotiateNow n g) :=
  .of h.negotiate
theorem linkControl (h : s.Keeps t) {g : Tag} {pl : List Byte} : s.KeepsAns (t.linkControl g pl) :=
  .ite h.refuse (.ite h.refuse (.ite (.of h) (.ite (.ite h.refuse (.of h.linkOff.wr)) (.ite h.refuse
    (.ite h.negotiateNow (.ite (.ite h.refuse (.ite h.refuse h.retrainTo)) (.ite h.retrainTo h.negotiateNow)))))))
theorem chainRollcall (h : s.Keeps t) {pl : List Byte} {found : List (List Nat)} :
    s.KeepsAns (t.chainRollcall pl found) :=
  .ite h.refuse (.ite h.refuse (.ite h.refuse (.of (h.forMask fun _ _ h => h.modFw.rollCall))))
theorem resetBlock (h : s.Keeps t) {g : Tag} {id : Nat} : s.KeepsAns (t.resetBlock g id) := by
  unfold State.resetBlock
  split
  · exact h.refuse
  · exact .ite h.refuse (.ite (.of h.modRst) (.of h.softReset.modRst))
theorem resetFunction (h : s.Keeps t) {g : Tag} {pl : List Byte} : s.KeepsAns (t.resetFunction g pl) := by
  unfold State.resetFunction
  exact .ite h.refuse (by
    split
    · exact .ite h.resetBlock h.refuse
    · exact .ite (.of h.modRst) h.refuse
    · exact .ite h.refuse (.ite h.refuse (.of h.watchdogArm))
    · exact h.refuse)
theorem canSentReset (h : s.Keeps t) {c : Fin 2} : s.Keeps (t.canSentReset c) :=
  h.canSent.bind fun h => .ite h.modRst.softReset h
theorem readWords (h : s.Keeps t) {k a : Nat} : s.Keeps (State.readWords k a t).1 := by
  induction k generalizing t a with
  | zero => exact h
  | succ k ih => exact ih h.busRead
theorem writeWords (h : s.Keeps t) {vs : List Nat} {a : Nat} : s.Keeps (State.writeWords vs a t) := by
  induction vs generalizing t a with
  | nil => exact h
  | cons v vs ih => exact ih h.busWrite
theorem regRead (h : s.Keeps t) {pl : List Byte} : s.KeepsAns (t.regRead pl) :=
  .ite h.refuse (.ite h.refuse (.ite h.refuse (h.readWords.thenAns fun h => .ite (.of h) h.refuse)))
theorem regWrite (h : s.Keeps t) {pl : List Byte} : s.KeepsAns (t.regWrite pl) :=
  .ite h.refuse (.ite h.refuse (.ite h.refuse (.ite h.refuse (.of h.writeWords))))
theorem regModify (h : s.Keeps t) {pl : List Byte} : s.KeepsAns (t.regModify pl) :=
  .ite h.refuse (.ite h.refuse (.ite h.refuse (.ite h.refuse (h.busRead.thenAns fun h => .ite h.refuse
    (.of h.busWrite.busRead)))))
theorem memRead (h : s.Keeps t) {pl : List Byte} : s.KeepsAns (t.memRead pl) :=
  .ite h.refuse (.ite h.refuse (.ite (h.readWords.thenAns fun h => .ite (.of h) h.refuse) (.ite (.of h) (.of h))))
theorem chainWrite (h : s.Keeps t) {n : Fin 4} {a : Nat} {d : List Byte} : s.Keeps (t.chainWrite n a d) :=
  (h.foldl fun _ _ h => .ite h h.modChn).bind fun h => .ite h.report0108 h
theorem memWrite (h : s.Keeps t) {pl : List Byte} : s.KeepsAns (t.memWrite pl) :=
  .ite h.refuse (.ite h.refuse (.ite (.ite h.refuse (.of h.writeWords)) (.ite (.ite h.refuse (.of
    (.ite h h.sramWrite))) (.of h.chainWrite))))
theorem timetableLoad (h : s.Keeps t) {pl : List Byte} : s.KeepsAns (t.timetableLoad pl) :=
  .ite h.refuse (.ite h.refuse (.ite h.refuse (.ite h.refuse (.ite h.refuse (.ite h.refuse (.of h.modFw))))))
theorem setBackTx (h : s.Keeps t) {n : Fin 4} {cursors : List Byte} : s.Keeps (t.setBackTx n cursors) :=
  .ite h.mgmt.modLink h
theorem linkEq (h : s.Keeps t) {pl : List Byte} {width height : Nat} : s.KeepsAns (t.linkEq pl width height) :=
  .ite h.refuse (.ite h.refuse (.ite h.refuse (.of (Keeps.ite h.setBackTx (.ite h.put (.ite h.put h))))))
theorem execHello (h : s.Keeps t) {port : Fin 3} {mb : Fin 6} : s.KeepsOut (execHello port mb t) :=
  .next (h.serve fun _ _ _ h => h.hello)
theorem execGetInfo (h : s.Keeps t) {port : Fin 3} {mb : Fin 6} : s.KeepsOut (execGetInfo port mb t) :=
  .next (h.serve fun _ _ _ h => h.getInfo)
theorem execGetStatus (h : s.Keeps t) {port : Fin 3} {mb : Fin 6} : s.KeepsOut (execGetStatus port mb t) :=
  .next (h.serve fun _ _ _ h => h.getStatus)
theorem execReadEvents (h : s.Keeps t) {port : Fin 3} {mb : Fin 6} : s.KeepsOut (execReadEvents port mb t) :=
  .next (h.serve fun _ _ _ h => h.readEvents)
theorem execClearEvents (h : s.Keeps t) {port : Fin 3} {mb : Fin 6} : s.KeepsOut (execClearEvents port mb t) :=
  .next (h.serve fun _ _ _ h => h.clearEvents)
theorem execLinkControl (h : s.Keeps t) {port : Fin 3} {mb : Fin 6} : s.KeepsOut (execLinkControl port mb t) :=
  .next (h.serve fun _ _ _ h => h.linkControl)
theorem execChainRollcall (h : s.Keeps t) {port : Fin 3} {mb : Fin 6} {found : List (List Nat)} :
    s.KeepsOut (execChainRollcall port mb found t) :=
  .next (h.serve fun _ _ _ h => h.chainRollcall)
theorem execResetFunction (h : s.Keeps t) {port : Fin 3} {mb : Fin 6} : s.KeepsOut (execResetFunction port mb t) :=
  .next (h.serve fun _ _ _ h => h.resetFunction)
theorem execHallpassReq (h : s.Keeps t) {port : Fin 3} {mb : Fin 6} : s.KeepsOut (execHallpassReq port mb t) :=
  .next (h.serve fun _ _ _ h => h.hallpassReq)
theorem execHallpassReturn (h : s.Keeps t) {port : Fin 3} {mb : Fin 6} : s.KeepsOut (execHallpassReturn port mb t) :=
  .next (h.serve fun _ _ _ h => h.hallpassReturn)
theorem execRegRead (h : s.Keeps t) {port : Fin 3} {mb : Fin 6} : s.KeepsOut (execRegRead port mb t) :=
  .next (h.serve fun _ _ _ h => h.regRead)
theorem execRegWrite (h : s.Keeps t) {port : Fin 3} {mb : Fin 6} : s.KeepsOut (execRegWrite port mb t) :=
  .next (h.serve fun _ _ _ h => h.regWrite)
theorem execRegModify (h : s.Keeps t) {port : Fin 3} {mb : Fin 6} : s.KeepsOut (execRegModify port mb t) :=
  .next (h.serve fun _ _ _ h => h.regModify)
theorem execMemRead (h : s.Keeps t) {port : Fin 3} {mb : Fin 6} : s.KeepsOut (execMemRead port mb t) :=
  .next (h.serve fun _ _ _ h => h.memRead)
theorem execMemWrite (h : s.Keeps t) {port : Fin 3} {mb : Fin 6} : s.KeepsOut (execMemWrite port mb t) :=
  .next (h.serve fun _ _ _ h => h.memWrite)
theorem execTimetableLoad (h : s.Keeps t) {port : Fin 3} {mb : Fin 6} : s.KeepsOut (execTimetableLoad port mb t) :=
  .next (h.serve fun _ _ _ h => h.timetableLoad)
theorem execLinkEq (h : s.Keeps t) {port : Fin 3} {mb : Fin 6} {width height : Nat} :
    s.KeepsOut (execLinkEq port mb width height t) :=
  .next (h.serve fun _ _ _ h => h.linkEq)
theorem execUndefinedOpcodeCommand (h : s.Keeps t) {port : Fin 3} {mb : Fin 6} :
    s.KeepsOut (execUndefinedOpcodeCommand port mb t) :=
  .next (h.serve fun _ _ _ h => h.refuse)
theorem execCanFrameSent (h : s.Keeps t) {c : Duo} : s.KeepsOut (execCanFrameSent c t) :=
  .next (.ite h h.canSentReset)

end State.Keeps
end Sys2Proof.Machine
end

section
namespace Sys2Proof.Machine
/-- Every command keeps a state so. -/
theorem State.Keeps.exec {s t : State} (h : s.Keeps t) (i : Instr) : s.KeepsOut (Machine.exec i t) := by
  cases i with
  | hspiRead => exact h.execHspiRead
  | hspiFastRead => exact h.execHspiFastRead
  | hspiQuadRead => exact h.execHspiQuadRead
  | hspiWrite => exact h.execHspiWrite
  | hspiQuadWrite => exact h.execHspiQuadWrite
  | hspiReadStatus => exact h.execHspiReadStatus
  | fastLaneWrite => exact h.execFastLaneWrite
  | doorbell => exact h.execDoorbell
  | outboxAck => exact h.execOutboxAck
  | notificationPlace => exact h.execNotificationPlace
  | canRequestFrame => exact h.execCanRequestFrame
  | canFrameSent => exact h.execCanFrameSent
  | canErrorPassive => exact h.execCanErrorPassive
  | canBusOff => exact h.execCanBusOff
  | canBusOffRecovery => exact h.execCanBusOffRecovery
  | hello => exact h.execHello
  | getInfo => exact h.execGetInfo
  | setMode => exact h.execSetMode
  | getStatus => exact h.execGetStatus
  | setTiming => exact h.execSetTiming
  | loadAsset => exact h.execLoadAsset
  | setLayer => exact h.execSetLayer
  | commit => exact h.execCommit
  | setBeam => exact h.execSetBeam
  | setMasks => exact h.execSetMasks
  | setAnimation => exact h.execSetAnimation
  | setGroups => exact h.execSetGroups
  | setDerate => exact h.execSetDerate
  | runCalibration => exact h.execRunCalibration
  | readEvents => exact h.execReadEvents
  | clearEvents => exact h.execClearEvents
  | snapshot => exact h.execSnapshot
  | setLevelling => exact h.execSetLevelling
  | linkControl => exact h.execLinkControl
  | chainRollcall => exact h.execChainRollcall
  | setDegrade => exact h.execSetDegrade
  | resetFunction => exact h.execResetFunction
  | setLoop => exact h.execSetLoop
  | storeConfig => exact h.execStoreConfig
  | hallpassReq => exact h.execHallpassReq
  | hallpassReturn => exact h.execHallpassReturn
  | hallpassExpiry => exact h.execHallpassExpiry
  | regRead => exact h.execRegRead
  | regWrite => exact h.execRegWrite
  | regModify => exact h.execRegModify
  | memRead => exact h.execMemRead
  | memWrite => exact h.execMemWrite
  | dramTrainStep => exact h.execDramTrainStep
  | calStep => exact h.execCalStep
  | traceSetup => exact h.execTraceSetup
  | injectSetup => exact h.execInjectSetup
  | traceRead => exact h.execTraceRead
  | loopLoadMatrix => exact h.execLoopLoadMatrix
  | timetableLoad => exact h.execTimetableLoad
  | linkEq => exact h.execLinkEq
  | fwUpdate => exact h.execFwUpdate
  | flashOpComplete => exact h.execFlashOpComplete
  | modeTransitionComplete => exact h.execModeTransitionComplete
  | pwrWarnFall => exact h.execPwrWarnFall
  | pwrWarnRise => exact h.execPwrWarnRise
  | parkTimeout => exact h.execParkTimeout
  | standbyMinLowExpiry => exact h.execStandbyMinLowExpiry
  | wakePin => exact h.execWakePin
  | wakeCanPattern => exact h.execWakeCanPattern
  | wakeHspi => exact h.execWakeHspi
  | wakeTimer => exact h.execWakeTimer
  | coreSupplyGood => exact h.execCoreSupplyGood
  | pmicTimeout => exact h.execPmicTimeout
  | crystalSwitch => exact h.execCrystalSwitch
  | crystalStop => exact h.execCrystalStop
  | pllLock => exact h.execPllLock
  | pllLockLoss => exact h.execPllLockLoss
  | pllStop => exact h.execPllStop
  | clockGood => exact h.execClockGood
  | clockEnableWrite => exact h.execClockEnableWrite
  | dramDrainComplete => exact h.execDramDrainComplete
  | trainingRestoreComplete => exact h.execTrainingRestoreComplete
  | degradeAdvisory => exact h.execDegradeAdvisory
  | powerOn => exact h.execPowerOn
  | aonRelease => exact h.execAonRelease
  | vddCoreBrownOut => exact h.execVddCoreBrownOut
  | resetNPulse => exact h.execResetNPulse
  | jtagReset => exact h.execJtagReset
  | watchdogExpiry => exact h.execWatchdogExpiry
  | watchdogKick => exact h.execWatchdogKick
  | watchdogArm => exact h.execWatchdogArm
  | deviceResetDelay => exact h.execDeviceResetDelay
  | deviceReset => exact h.execDeviceReset
  | optionLoadingComplete => exact h.execOptionLoadingComplete
  | releasePendingTimeout => exact h.execReleasePendingTimeout
  | softReset => exact h.execSoftReset
  | softResetRelease => exact h.execSoftResetRelease
  | imageSlotCheck => exact h.execImageSlotCheck
  | dramBringupComplete => exact h.execDramBringupComplete
  | assetCopyComplete => exact h.execAssetCopyComplete
  | bootLightStart => exact h.execBootLightStart
  | bootComplete => exact h.execBootComplete
  | frameStart => exact h.execFrameStart
  | latchPoint => exact h.execLatchPoint
  | transferLine => exact h.execTransferLine
  | compositionComplete => exact h.execCompositionComplete
  | fieldStart => exact h.execFieldStart
  | lecCommitGo => exact h.execLecCommitGo
  | lecRunWrite => exact h.execLecRunWrite
  | bellWrite => exact h.execBellWrite
  | bellStrobe => exact h.execBellStrobe
  | frameLockWrite => exact h.execFrameLockWrite
  | lsyncInEdge => exact h.execLsyncInEdge
  | lsyncEdgeMissing => exact h.execLsyncEdgeMissing
  | errClear => exact h.execErrClear
  | registerWrite => exact h.execRegisterWrite
  | csiPacket => exact h.execCsiPacket
  | csiFrameComplete => exact h.execCsiFrameComplete
  | csiStopTimeout => exact h.execCsiStopTimeout
  | csiEntryEnableWrite => exact h.execCsiEntryEnableWrite
  | layerUnderrun => exact h.execLayerUnderrun
  | lutPortWrite => exact h.execLutPortWrite
  | coefRamWrite => exact h.execCoefRamWrite
  | meshPortWrite => exact h.execMeshPortWrite
  | timetableRamWrite => exact h.execTimetableRamWrite
  | chainMemWrite => exact h.execChainMemWrite
  | injTableWrite => exact h.execInjTableWrite
  | blockPacketSend => exact h.execBlockPacketSend
  | blockDeadlineMiss => exact h.execBlockDeadlineMiss
  | scanLineStart => exact h.execScanLineStart
  | maskInject => exact h.execMaskInject
  | maskLifetimeExpiry => exact h.execMaskLifetimeExpiry
  | maskAckTimeout => exact h.execMaskAckTimeout
  | controlSlot => exact h.execControlSlot
  | lampEnMismatch => exact h.execLampEnMismatch
  | derateEvaluation => exact h.execDerateEvaluation
  | tempInputLoss => exact h.execTempInputLoss
  | backSensor => exact h.execBackSensor
  | backStatus => exact h.execBackStatus
  | backNak => exact h.execBackNak
  | backMaskAck => exact h.execBackMaskAck
  | backTableAck => exact h.execBackTableAck
  | backCacheAck => exact h.execBackCacheAck
  | backCapability => exact h.execBackCapability
  | backEcho => exact h.execBackEcho
  | backEye => exact h.execBackEye
  | backSyncLoss => exact h.execBackSyncLoss
  | backSilence => exact h.execBackSilence
  | capReqRepeat => exact h.execCapReqRepeat
  | capabilityTimeout => exact h.execCapabilityTimeout
  | trainSwitch => exact h.execTrainSwitch
  | eyeTimeout => exact h.execEyeTimeout
  | retrainStart => exact h.execRetrainStart
  | chainSwapPoint => exact h.execChainSwapPoint
  | chainReloadComplete => exact h.execChainReloadComplete
  | auditWindowEnd => exact h.execAuditWindowEnd
  | tutorLatch => exact h.execTutorLatch
  | tutorRelease => exact h.execTutorRelease
  | pitchFrame => exact h.execPitchFrame
  | pitchTimeout => exact h.execPitchTimeout
  | traceArm => exact h.execTraceArm
  | injectionGo => exact h.execInjectionGo
  | sensorConversion => exact h.execSensorConversion
  | calDueCheck => exact h.execCalDueCheck
  | calTakeComplete => exact h.execCalTakeComplete
  | calRecessApply => exact h.execCalRecessApply
  | calDeferExpiry => exact h.execCalDeferExpiry
  | calStepTimeout => exact h.execCalStepTimeout
  | dramRequest => exact h.execDramRequest
  | dramCommandSlot => exact h.execDramCommandSlot
  | dramRequestPromotion => exact h.execDramRequestPromotion
  | dramReadReturn => exact h.execDramReadReturn
  | refreshDue => exact h.execRefreshDue
  | zqcsDue => exact h.execZqcsDue
  | rowDisturbWindowEnd => exact h.execRowDisturbWindowEnd
  | alertPulse => exact h.execAlertPulse
  | selfRefreshIdle => exact h.execSelfRefreshIdle
  | holdSelfRefreshWrite => exact h.execHoldSelfRefreshWrite
  | patternRunGo => exact h.execPatternRunGo
  | patternRunDone => exact h.execPatternRunDone
  | eventRequest => exact h.execEventRequest
  | eventRecordWrite => exact h.execEventRecordWrite
  | fwQueueOverflowReport => exact h.execFwQueueOverflowReport
  | faultReleaseWrite => exact h.execFaultReleaseWrite
  | logClearRequest => exact h.execLogClearRequest
  | logClearEnd => exact h.execLogClearEnd
  | drillGo => exact h.execDrillGo
  | drillDeadline => exact h.execDrillDeadline
  | processorHalt => exact h.execProcessorHalt
  | processorSramCorrected => exact h.execProcessorSramCorrected
  | scantestHalt => exact h.execScantestHalt
  | tapIdcode => exact h.execTapIdcode
  | tapExtest => exact h.execTapExtest
  | tapSample => exact h.execTapSample
  | tapPreload => exact h.execTapPreload
  | tapClamp => exact h.execTapClamp
  | tapHighz => exact h.execTapHighz
  | tapBypass => exact h.execTapBypass
  | tapFactory => exact h.execTapFactory
  | tapEvrRead => exact h.execTapEvrRead
  | tapEvrClear => exact h.execTapEvrClear
  | tapBistCtrl => exact h.execTapBistCtrl
  | tapBistResult => exact h.execTapBistResult
  | bistGo => exact h.execBistGo
  | bistComplete => exact h.execBistComplete
  | undefinedOpcodeCommand => exact h.execUndefinedOpcodeCommand
  | vddCoreGood => exact h.execVddCoreGood
  | bootRollCall => exact h.execBootRollCall
  | chainSwapWaitTimeout => exact h.execChainSwapWaitTimeout
  | backLaneSyncGained => exact h.execBackLaneSyncGained
  | csiLaneStateChange => exact h.execCsiLaneStateChange

/-- A step runs the command at the front of the queue on the queue's rest, or ticks. -/
theorem State.Keeps.of_step {s t : State} (h : step s = .next t) :
    ({ s with pending := s.pending.tail } : State).Keeps t := by
  unfold step at h
  cases hq : s.pending with
  | nil =>
    rw [hq] at h
    obtain rfl := Host.Outcome.next.inj h
    obtain ⟨hregs, hdram, hfifo, hpending⟩ := (State.Keeps.refl s).tick
    exact ⟨hregs, hdram, hfifo, hpending.trans hq⟩
  | cons c cs =>
    rw [hq] at h
    exact (State.Keeps.refl { s with pending := cs }).exec c t h

/-- Settles O3: what every command and the tick keep (`State.Keeps`) holds of a step. -/
theorem stepKeepsCanonical : Obligations.StepKeepsCanonical := by
  unfold Obligations.StepKeepsCanonical
  intro s t hs h
  have k := State.Keeps.of_step h
  obtain ⟨hregs, hdram⟩ := (Bool.and_eq_true _ _).mp hs
  exact (Bool.and_eq_true _ _).mpr ⟨k.regs hregs, k.dram hdram⟩

end Sys2Proof.Machine
end

section
/-! SUPPORT. Writes of the register blocks without behaviour of their own, field by field (R9), and of the error registers
(R16, R17). -/

namespace Sys2Proof.Machine

theorem bits_mod_two_pow {v lo w k : Nat} (h : lo + w ≤ k) : bits (v % 2 ^ k) lo w = bits v lo w := by
  refine Nat.eq_of_testBit_eq fun i => ?_
  by_cases hi : i < w
  · simp [bits, Nat.testBit_mod_two_pow, Nat.testBit_div_two_pow, hi, show i + lo < k by omega]
  · simp [bits, Nat.testBit_mod_two_pow, hi]

/-! ### One field -/

/-- The width of a field. -/
def FieldSpec.width (f : FieldSpec) : Nat := f.hi - f.lo + 1

/-- Two fields have no bit in common. -/
def FieldSpec.apart (f g : FieldSpec) : Bool := decide (f.lo + f.width ≤ g.lo ∨ g.lo + g.width ≤ f.lo)

/-- What the bits of a field become under a write of v to its register, while its block is stopped and no count is cleared
(R9). -/
def FieldSpec.written (f : FieldSpec) (v old : Nat) : Nat :=
  match f.acc with
  | .rw | .rws | .rwl | .rwx => bits v f.lo f.width
  | .ro | .wo | .clr => old
  | .w1c => old &&& (2 ^ f.width - 1 - bits v f.lo f.width)

theorem FieldSpec.written_lt (f : FieldSpec) {v old : Nat} (h : old < 2 ^ f.width) : f.written v old < 2 ^ f.width := by
  obtain ⟨hi, lo, acc, reset⟩ := f
  cases acc with
  | rw | rws | rwl | rwx => exact bits_lt _ _ _
  | ro | wo | clr => exact h
  | w1c => exact Nat.lt_of_le_of_lt Nat.and_le_left h

/-- A write leaves the word as it was, or puts the field's new bits in their place. -/
theorem writeField_stopped (f : FieldSpec) (v old : Nat) :
    let o := bits old f.lo f.width
    writeField true v old f = old ∧ f.written v o = o ∨
      writeField true v old f = setBits old f.lo f.width (f.written v o) := by
  obtain ⟨hi, lo, acc, reset⟩ := f
  cases acc with
  | rw | rws | rwl | rwx | w1c => exact .inr rfl
  | ro | wo | clr => exact .inl ⟨rfl, rfl⟩

theorem bits_writeField_self (f : FieldSpec) (v old : Nat) :
    bits (writeField true v old f) f.lo f.width = f.written v (bits old f.lo f.width) := by
  obtain ⟨hw, ho⟩ | hw := writeField_stopped f v old
  · rw [hw, ho]
  · rw [hw, bits_setBits_self, Nat.mod_eq_of_lt (f.written_lt (bits_lt _ _ _))]

theorem bits_writeField_apart {f g : FieldSpec} (h : f.apart g = true) (v old : Nat) :
    bits (writeField true v old g) f.lo f.width = bits old f.lo f.width := by
  obtain ⟨hw, -⟩ | hw := writeField_stopped g v old
  · rw [hw]
  · rw [hw]
    exact (of_decide_eq_true h).elim bits_setBits_below bits_setBits_above

/-! ### All fields of a register -/

theorem bits_writeFields_apart {f : FieldSpec} {gs : List FieldSpec} (h : ∀ g ∈ gs, f.apart g = true) (v old : Nat) :
    bits (gs.foldl (writeField true v) old) f.lo f.width = bits old f.lo f.width := by
  induction gs generalizing old with
  | nil => rfl
  | cons g gs ih =>
    rw [List.foldl_cons, ih (fun x hx => h x (.tail _ hx)), bits_writeField_apart (h g (.head _))]

theorem FieldSpec.apart_comm (f g : FieldSpec) : f.apart g = g.apart f := by simp [FieldSpec.apart, or_comm]

/-- Each of the fields takes its own bits, whatever the order. -/
theorem bits_writeFields {f : FieldSpec} {fs : List FieldSpec} (hp : fs.Pairwise fun f g => f.apart g = true) (hf : f ∈ fs)
    (v old : Nat) :
    bits (fs.foldl (writeField true v) old) f.lo f.width = f.written v (bits old f.lo f.width) := by
  induction hp generalizing old with
  | nil => nomatch hf
  | @cons g gs hg _ ih =>
    rw [List.foldl_cons]
    cases hf with
    | head => rw [bits_writeFields_apart hg, bits_writeField_self]
    | tail _ hf => rw [ih hf, bits_writeField_apart (g.apart_comm f ▸ hg f hf)]

/-- The row of a register whose fields lie in its word without touching each other, none of them a CLR bit. -/
def RegSpec.tidy (r : RegSpec) : Bool :=
  r.fields.all (fun f => decide (f.lo + f.width ≤ 32 ∧ f.acc ≠ .clr)) && decide (r.fields.Pairwise fun f g => f.apart g = true)

theorem RegSpec.tidy_iff (r : RegSpec) : r.tidy = true ↔
    (∀ f ∈ r.fields, f.lo + f.width ≤ 32 ∧ f.acc ≠ .clr) ∧ r.fields.Pairwise fun f g => f.apart g = true := by
  simp [RegSpec.tidy]

/-- A tidy register of a stopped block takes the written bits of its fields, and nothing else happens. -/
theorem State.plainWrite_tidy {s : State} {a : Nat} {r : RegSpec} (hr : specAt a = some r) (ht : r.tidy = true)
    (hs : s.stoppedFor a = true) (v : Nat) : s.plainWrite a v = s.put a (r.fields.foldl (writeField true v) (s.get a)) := by
  have hclr : r.fields.any (clearField v) = false :=
    List.any_eq_false.mpr fun f hf => by simp [clearField, ((r.tidy_iff.mp ht).1 f hf).2]
  have hrep : r.fields.any (reportField true v (s.get a)) = false := List.any_eq_false.mpr fun f _ => by simp [reportField]
  simp [State.plainWrite, hr, hs, hclr, hrep]

/-! ### The blocks AON and CAL -/

theorem tidy_aon_cal : (aonRegs ++ calRegs).all RegSpec.tidy = true := by decide

/-- The addresses of AON and of CAL (R12). -/
theorem range_of_blockOf {a id b : Nat} (h : blockOf a = some (id, b)) (hid : id = 3 ∨ id = 5) :
    (0x40020000 ≤ a ∧ a < 0x40030000) ∨ (0x40050000 ≤ a ∧ a < 0x40060000) := by
  by_contra hout
  obtain hlo | ⟨hlo, hhi⟩ | ⟨hlo, hhi⟩ | hlo : a < 0x40060000 ∨ (0x40060000 ≤ a ∧ a < 0x40200000) ∨
      (0x40200000 ≤ a ∧ a < 0x40320000) ∨ 0x40320000 ≤ a := by omega
  · grind [blockOf]
  · grind [blockOf]
  · grind [blockOf]
  · grind [blockOf]

theorem regionOf_aon_cal {a : Nat} (h : (0x40020000 ≤ a ∧ a < 0x40030000) ∨ (0x40050000 ≤ a ∧ a < 0x40060000)) :
    ∃ b m, regionOf a = some (b, m) ∧ m ⊆ aonRegs ++ calRegs := by
  obtain ⟨hlo, hhi⟩ | ⟨hlo, hhi⟩ := h
  · exact ⟨0x40020000, aonRegs, by grind [regionOf], List.subset_append_left _ _⟩
  · exact ⟨0x40050000, calRegs, by grind [regionOf], List.subset_append_right _ _⟩

theorem tidy_of_specAt {a id b : Nat} {r : RegSpec} (h : blockOf a = some (id, b)) (hid : id = 3 ∨ id = 5)
    (hr : specAt a = some r) : r.tidy = true := by
  obtain ⟨b, m, hreg, hm⟩ := regionOf_aon_cal (range_of_blockOf h hid)
  simp only [specAt, hreg] at hr
  exact List.all_eq_true.mp tidy_aon_cal r (hm (List.mem_of_find?_eq_some hr))

/-- A write of AON or CAL that no soft reset holds is a write of a register of a stopped block. -/
theorem State.busWrite_aon_cal {s : State} {a id b : Nat} {r : RegSpec} (h : blockOf a = some (id, b))
    (hid : id = 3 ∨ id = 5) (hheld : s.heldId id = false) (herr : State.isErr a = false) (hr : specAt a = some r) (v : Nat) :
    s.busWrite a v = s.put a (r.fields.foldl (writeField true v) (s.get a)) := by
  have hstop : s.stoppedFor a = true := by
    obtain rfl | rfl := hid
    · simp [State.stoppedFor, h]
    · simp [State.stoppedFor, h]
  rw [← State.plainWrite_tidy hr (tidy_of_specAt h hid hr) hstop]
  obtain rfl | rfl := hid
  · simp [State.busWrite, h, hheld, herr]
  · simp [State.busWrite, h, hheld, herr]

/-- The register written, as its fields read. -/
theorem State.bits_get_writeFields {s : State} {a : Nat} {r : RegSpec} (ht : r.tidy = true) {f : FieldSpec}
    (hf : f ∈ r.fields) (v : Nat) :
    bits ((s.put a (r.fields.foldl (writeField true v) (s.get a))).get a) f.lo f.width =
      f.written v (bits (s.get a) f.lo f.width) := by
  obtain ⟨hfit, hapart⟩ := r.tidy_iff.mp ht
  rw [get_put_self, bits_mod_two_pow (hfit f hf).1, bits_writeFields hapart hf]

theorem State.put_regsKeep (s : State) (a v : Nat) : s.regsKeep (s.put a v) [a] := fun x hx =>
  get_put_ne s v (by simpa using hx)

/-! ### Held blocks and error registers -/

theorem State.busWrite_held {s : State} {a id b : Nat} (h : blockOf a = some (id, b)) (hheld : s.heldId id = true) (v : Nat) :
    s.busWrite a v = s := by simp [State.busWrite, h, hheld]

/-- An error register lies in a block, beyond its first words. -/
theorem le_of_isErr {a : Nat} (h : State.isErr a = true) : 0x40000000 ≤ a := by
  by_contra hlt
  have hnone : specAt a = none := by simp [specAt, regionOf, show a < 0x40000000 by omega]
  simp [State.isErr, hnone] at h

theorem State.get_errWrite_set (s : State) {a v : Nat} (ha : 0x1F0 ≤ a) (hv : bit v 31 = true) :
    (s.errWrite a v).get a = 0 ∧ (s.errWrite a v).get (a + 4) = 0 := by
  have e : a - 0x1F0 + 0x1F0 = a := Nat.sub_add_cancel ha
  have e4 : a - 0x1F0 + 0x1F4 = a + 4 := by omega
  rw [State.errWrite, if_pos hv, State.errClear, e, e4]
  exact ⟨by rw [get_put_ne _ _ (by omega), get_put_self, Nat.zero_mod], (get_put_self _ _ _).trans (Nat.zero_mod _)⟩

theorem State.errWrite_clear (s : State) {a v : Nat} (hv : bit v 31 = false) : s.errWrite a v = s := by
  simp [State.errWrite, hv]

theorem State.errWrite_regs (s : State) (a v : Nat) : s.errWrite a v = { s with regs := (s.errWrite a v).regs } := by
  have clear : ∀ b, s.errClear b = { s with regs := (s.errClear b).regs } := fun _ => by
    simp only [State.errClear, State.put]
  unfold State.errWrite
  split
  · exact clear _
  · rfl

theorem State.errWrite_regsKeep (s : State) {a : Nat} (ha : 0x1F0 ≤ a) (v : Nat) :
    s.regsKeep (s.errWrite a v) [a, a + 4] := fun x hx => by
  obtain ⟨h1, h2⟩ : x ≠ a ∧ x ≠ a + 4 := by simpa using hx
  unfold State.errWrite
  split
  · rw [State.errClear, get_put_ne _ _ (by omega), get_put_ne _ _ (by omega)]
  · rfl

/-- Settles O31: held blocks ignore the write, AON and CAL take it field by field, an error register clears as a whole. -/
theorem registerWriteAttributes : Obligations.RegisterWriteAttributes := by
  unfold Obligations.RegisterWriteAttributes
  intro a v s
  refine ⟨fun id b h hheld => ⟨?_, ?_⟩, fun r f b h herr hr hf => ?_, fun herr hfree => ?_⟩
  · show Host.Outcome.next (s.busWrite a v.toNat) = _
    rw [s.busWrite_held h hheld]
  · simp [exec, execErrClear, h, hheld]
  · obtain ⟨id, h, hid, hheld⟩ : ∃ id, blockOf a = some (id, b) ∧ (id = 3 ∨ id = 5) ∧ s.heldId id = false := by
      obtain h | ⟨h, hheld⟩ := h
      · exact ⟨3, h, .inl rfl, rfl⟩
      · exact ⟨5, h, .inr rfl, hheld⟩
    have ht := tidy_of_specAt h hid hr
    refine ⟨_, congrArg Host.Outcome.next (s.busWrite_aon_cal h hid hheld herr hr v.toNat), rfl, s.put_regsKeep a _, ?_⟩
    refine (s.bits_get_writeFields ht hf v.toNat).trans ?_
    have hclr := ((r.tidy_iff.mp ht).1 f hf).2
    unfold FieldSpec.written
    cases hacc : f.acc with
    | clr => exact absurd hacc hclr
    | rw | rws | rwl | rwx | ro | wo | w1c => rfl
  · have ha : 0x1F0 ≤ a := Nat.le_trans (by decide) (le_of_isErr herr)
    have hexec : exec (.errClear a v) s = .next (s.errWrite a v.toNat) := by
      cases hb : blockOf a with
      | none => simp [exec, execErrClear, herr, hb]
      | some p => simp [exec, execErrClear, herr, hb, hfree p.1 p.2 hb]
    refine ⟨_, hexec, s.errWrite_regs a _, s.errWrite_regsKeep ha _, ?_⟩
    cases hv : bit v.toNat 31 with
    | true => exact s.get_errWrite_set ha hv
    | false => exact s.errWrite_clear hv

end Sys2Proof.Machine
end

section
/-! SUPPORT. The identification words (R2, R429). -/

namespace Sys2Proof.Machine

theorem sysId_reset : State.reset.get R.SYS_ID = 0x9480C201 := by decide

/-- TAP_IDCODE captures the identification word while the TAP runs. -/
theorem exec_tapIdcode {s : State} (h : s.aon.vaonGood = true) :
    ∃ t, exec .tapIdcode s = .next t ∧ t.tap.shift = 0x294801CB :=
  ⟨_, congrArg Host.Outcome.next (if_pos h), rfl⟩

/-- Settles O5: the reset value of SYS_ID and the word that IDCODE captures, each cut into its parts. -/
theorem identification : Obligations.Identification := by
  unfold Obligations.Identification
  rw [sysId_reset]
  refine ⟨rfl, rfl, rfl, rfl, rfl, fun s h => ?_⟩
  obtain ⟨t, ht, hid⟩ := exec_tapIdcode h
  refine ⟨t, ht, ?_⟩
  rw [hid]
  exact ⟨rfl, rfl, rfl, rfl, rfl⟩

end Sys2Proof.Machine
end

section
/-! SUPPORT. The report of a write that an access port ignores (R17, R440), and the ports themselves: a write of a free bank, a
write of a bank in use (R180, R184, R192, R215, R329). -/

namespace Sys2Proof.Machine

/-! ### The sub-block that an address of a channel window reports to (R15, R16) -/

theorem subOf_low {o : Nat} (h : o < 0x10000) : subOf o = some (o / 0x2000) := if_pos h

/-- An address of sub-block i of channel n. -/
theorem blockOf_channel (n : Fin 4) {o i : Nat} (ho : o < 0x40000) (hi : subOf o = some i) :
    blockOf (lecBase n + o) = some (0x10 + 16 * n.val + i, lecBase n + subBase i) := by
  have hn := n.isLt
  have hq : (lecBase n + o - 0x40100000) / 0x40000 = n.val := by unfold lecBase; omega
  have hr : (lecBase n + o - 0x40100000) % 0x40000 = o := by unfold lecBase; omega
  have hlo : 0x40100000 ≤ lecBase n + o := by unfold lecBase; omega
  have hhi : lecBase n + o < 0x40200000 := by unfold lecBase; omega
  unfold blockOf
  iterate 13 rw [if_neg (by omega)]
  rw [if_pos hhi]
  simp only [hq, hr, hi]
  rfl

/-- The sub-blocks from FETCH to TUT keep their errors in words of their own (R16). -/
theorem errBaseOf_channel (n : Fin 4) {o i : Nat} (ho : o < 0x40000) (hi : subOf o = some i) (h11 : i < 11) :
    errBaseOf (lecBase n + o) = lecBase n + subBase i := by
  have hn := n.isLt
  simp only [errBaseOf, blockOf_channel n ho hi]
  rw [if_neg (by omega), if_neg (by omega), if_neg (by omega), if_neg (by omega), if_neg (by omega)]

theorem channel_not_mem_eventRegs (n : Fin 4) (k : Nat) : lecBase n + k ∉ State.eventRegs := by
  simp [State.eventRegs, R.MBX_IRQ_STATUS, R.EVR_FAULT, R.EVR_DROPPED, R.EVR_STATUS, lecBase]
  omega

namespace State

/-! ### The report (R17, R440) -/

theorem report0108_of_block {s : State} {a id b : Nat} (h : blockOf a = some (id, b)) :
    s.report0108 a = ((s.errHit (errBaseOf a) 0x0108).put (errBaseOf a + 0x1F0)
      (setBit ((s.errHit (errBaseOf a) 0x0108).get (errBaseOf a + 0x1F0)) 17 true)).logEvent 0x0108 2 id (a - b) := by
  simp only [report0108, h]

theorem report0108_of_none {s : State} {a : Nat} (h : blockOf a = none) : s.report0108 a = s := by
  simp only [report0108, h]

@[simp] theorem report0108_dram (s : State) (a : Nat) : (s.report0108 a).dram = s.dram := by
  cases h : blockOf a with
  | none => rw [report0108_of_none h]
  | some p => rw [report0108_of_block h]; simp

@[simp] theorem report0108_lec (s : State) (a : Nat) : (s.report0108 a).lec = s.lec := by
  cases h : blockOf a with
  | none => rw [report0108_of_none h]
  | some p => rw [report0108_of_block h]; simp

@[simp] theorem report0108_ch (s : State) (a : Nat) (n : Fin 4) : (s.report0108 a).ch n = s.ch n := by simp [ch]

theorem report0108_get (s : State) {a x : Nat} (hx : x ∉ eventRegs) (h0 : x ≠ errBaseOf a + 0x1F0)
    (h1 : x ≠ errBaseOf a + 0x1F4) : (s.report0108 a).get x = s.get x := by
  cases h : blockOf a with
  | none => rw [report0108_of_none h]
  | some p => rw [report0108_of_block h, logEvent_get _ _ _ _ _ hx, get_put_ne _ _ h0, errHit_get _ _ _ h0 h1]

theorem logged_report0108 {s : State} {a id b : Nat} (h : blockOf a = some (id, b)) :
    s.logged (s.report0108 a) 0x0108 2 id (a - b) := by
  rw [report0108_of_block h]
  exact logged_logEvent (by simp) (by simp) _ _ _ _

/-- A report for an address of a channel changes no word of the channel but the error words of the sub-block. -/
theorem report0108_get_channel (s : State) (n : Fin 4) {o i k : Nat} (ho : o < 0x40000) (hi : subOf o = some i) (h11 : i < 11)
    (h0 : k ≠ subBase i + 0x1F0) (h1 : k ≠ subBase i + 0x1F4) :
    (s.report0108 (lecBase n + o)).get (lecBase n + k) = s.get (lecBase n + k) := by
  have e := errBaseOf_channel n ho hi h11
  exact s.report0108_get (channel_not_mem_eventRegs n k) (by omega) (by omega)

/-! ### Banks -/

/-- No bank of a stopped channel is in use. -/
theorem bankBusy_stopped {s : State} {n : Fin 4} (h : s.on (F.LEC_STATUS_RUNNING n) = false) (f : Fld) (b : Nat) :
    s.bankBusy n f b = false := by simp [bankBusy, h]

/-! ### Words behind an offset: coefficients, timetable, injection table (R192, R215, R329) -/

/-- A write of the word at an address of a RAM, which is ignored and reported while the RAM is shut. -/
def ramWrite (s : State) (shut : Bool) (a v : Nat) : State := if shut then s.report0108 a else s.put a v

theorem coefWrite_in (s : State) (n : Fin 4) {o : Nat} (h : o < 0x1400) (v : Nat) :
    s.coefWrite n o v = s.ramWrite (s.bistOn 0 n || s.bankBusy n (F.SCL_CTRL_COEF_BANK n) (o / 0xA00))
      (sclBase n + 0x400 + o / 4 * 4) (v % 1024) := if_neg (by omega)
theorem coefWrite_out (s : State) (n : Fin 4) {o : Nat} (h : 0x1400 ≤ o) (v : Nat) : s.coefWrite n o v = s := if_pos h

theorem ttWrite_in (s : State) (n : Fin 4) {o : Nat} (h : o < 0xC00) (v : Nat) :
    s.ttWrite n o v = s.ramWrite (s.bistOn 0 n || s.bankBusy n (F.BPF_TT_CTRL_BANK n) (o / 0x600))
      (bpfBase n + 0x400 + o / 4 * 4) v := if_neg (by omega)
theorem ttWrite_out (s : State) (n : Fin 4) {o : Nat} (h : 0xC00 ≤ o) (v : Nat) : s.ttWrite n o v = s := if_pos h

/-- The injection table plays (R329). -/
def playing (s : State) (n : Fin 4) : Bool :=
  s.rd (F.TUT_INJ_STATUS_STATE n) == 2 && s.rd (F.TUT_INJ_CFG_SIGNAL n) == 4

theorem playing_iff {s : State} {n : Fin 4} :
    s.playing n = true ↔ s.rd (F.TUT_INJ_STATUS_STATE n) = 2 ∧ s.rd (F.TUT_INJ_CFG_SIGNAL n) = 4 := by simp [playing]

theorem injTableWrite_in (s : State) (n : Fin 4) {e : Nat} (h : e < 1024) (v : Nat) :
    s.injTableWrite n e v = s.ramWrite (s.bistOn 0 n || s.playing n) (R.TUT_INJ_TABLEe n e) v := if_neg (by omega)
theorem injTableWrite_out (s : State) (n : Fin 4) {e : Nat} (h : 1024 ≤ e) (v : Nat) : s.injTableWrite n e v = s := if_pos h

/-- A port changes neither DRAM nor what a channel holds beyond its registers. -/
theorem ramWrite_frame (s : State) (shut : Bool) (a v : Nat) :
    (s.ramWrite shut a v).dram = s.dram ∧ (s.ramWrite shut a v).lec = s.lec := by
  cases shut with
  | true => exact ⟨s.report0108_dram a, s.report0108_lec a⟩
  | false => exact ⟨s.put_dram a v, s.put_lec a v⟩

theorem coefWrite_frame (s : State) (n : Fin 4) (o v : Nat) :
    (s.coefWrite n o v).dram = s.dram ∧ (s.coefWrite n o v).lec = s.lec := by
  obtain h | h := Nat.lt_or_ge o 0x1400
  · rw [coefWrite_in _ _ h]
    exact s.ramWrite_frame _ _ _
  · rw [coefWrite_out _ _ h]
    exact ⟨rfl, rfl⟩

theorem ttWrite_frame (s : State) (n : Fin 4) (o v : Nat) :
    (s.ttWrite n o v).dram = s.dram ∧ (s.ttWrite n o v).lec = s.lec := by
  obtain h | h := Nat.lt_or_ge o 0xC00
  · rw [ttWrite_in _ _ h]
    exact s.ramWrite_frame _ _ _
  · rw [ttWrite_out _ _ h]
    exact ⟨rfl, rfl⟩

theorem injTableWrite_frame (s : State) (n : Fin 4) (e v : Nat) :
    (s.injTableWrite n e v).dram = s.dram ∧ (s.injTableWrite n e v).lec = s.lec := by
  obtain h | h := Nat.lt_or_ge e 1024
  · rw [injTableWrite_in _ _ h]
    exact s.ramWrite_frame _ _ _
  · rw [injTableWrite_out _ _ h]
    exact ⟨rfl, rfl⟩

/-- A RAM that is not shut takes the word, and no other register changes. -/
theorem ramWrite_open (s : State) {shut : Bool} (h : shut = false) (a : Nat) {v : Nat} (hv : v < 2 ^ 32) :
    (s.ramWrite shut a v).get a = v ∧ s.regsKeep (s.ramWrite shut a v) [a] := by
  subst h
  exact ⟨(s.get_put_self a v).trans (Nat.mod_eq_of_lt hv), s.put_regsKeep a v⟩

/-- A shut RAM of a channel keeps the word, and the write is reported. -/
theorem ramWrite_shut (s : State) {shut : Bool} (h : shut = true) {n : Fin 4} {a o i : Nat} (ha : a = lecBase n + o)
    (ho : o < 0x40000) (hi : subOf o = some i) (h11 : i < 11) (h0 : o ≠ subBase i + 0x1F0) (h1 : o ≠ subBase i + 0x1F4)
    (v : Nat) : (s.ramWrite shut a v).get a = s.get a ∧ ∃ x y, s.logged (s.ramWrite shut a v) 0x0108 2 x y := by
  subst h ha
  exact ⟨s.report0108_get_channel n ho hi h11 h0 h1, _, _, logged_report0108 (blockOf_channel n ho hi)⟩

theorem coefWrite_shut (s : State) {n : Fin 4} {o : Nat} (h : o < 0x1400)
    (hb : s.bankBusy n (F.SCL_CTRL_COEF_BANK n) (o / 0xA00) = true) (v : Nat) :
    let a := sclBase n + 0x400 + o / 4 * 4
    (s.coefWrite n o v).get a = s.get a ∧ ∃ x y, s.logged (s.coefWrite n o v) 0x0108 2 x y := by
  rw [coefWrite_in _ _ h]
  have hi : subOf (0x2400 + o / 4 * 4) = some 1 := by
    rw [subOf_low (by omega)]
    exact congrArg some (by omega)
  exact s.ramWrite_shut (by simp [hb]) (n := n) (o := 0x2400 + o / 4 * 4) (by unfold sclBase; omega) (by omega) hi (by decide)
    (by simp [subBase]; omega) (by simp [subBase]; omega) _

theorem ttWrite_shut (s : State) {n : Fin 4} {o : Nat} (h : o < 0xC00)
    (hb : s.bankBusy n (F.BPF_TT_CTRL_BANK n) (o / 0x600) = true) (v : Nat) :
    let a := bpfBase n + 0x400 + o / 4 * 4
    (s.ttWrite n o v).get a = s.get a ∧ ∃ x y, s.logged (s.ttWrite n o v) 0x0108 2 x y := by
  rw [ttWrite_in _ _ h]
  have hi : subOf (0xA400 + o / 4 * 4) = some 5 := by
    rw [subOf_low (by omega)]
    exact congrArg some (by omega)
  exact s.ramWrite_shut (by simp [hb]) (n := n) (o := 0xA400 + o / 4 * 4) (by unfold bpfBase; omega) (by omega) hi (by decide)
    (by simp [subBase]; omega) (by simp [subBase]; omega) _

theorem injTableWrite_shut (s : State) {n : Fin 4} {e : Nat} (h : e < 1024) (hp : s.playing n = true) (v : Nat) :
    let a := R.TUT_INJ_TABLEe n e
    (s.injTableWrite n e v).get a = s.get a ∧ ∃ x y, s.logged (s.injTableWrite n e v) 0x0108 2 x y := by
  rw [injTableWrite_in _ _ h]
  have hi : subOf (0x1F000 + 4 * e) = some 10 := by
    unfold subOf
    rw [if_neg (by omega), if_neg (by omega), if_neg (by omega), if_pos (by omega)]
  exact s.ramWrite_shut (by simp [hp]) (n := n) (o := 0x1F000 + 4 * e) (by unfold R.TUT_INJ_TABLEe; omega) (by omega) hi
    (by decide) (by simp [subBase]; omega) (by simp [subBase]; omega) _

/-! ### Words behind an address register: look-up table and mesh (R180, R184) -/

/-- A write through a port whose address register moves on by one: `store` to the memory, or the report of an ignored write. -/
def portStep (s : State) (shut : Bool) (a : Nat) (store : State) (f : Fld) : State :=
  (if shut then s.report0108 a else store).wr f (s.rd f + 1)

theorem portStep_shut (s : State) {shut : Bool} (h : shut = true) (a : Nat) (u : State) (f : Fld) :
    s.portStep shut a u f = (s.report0108 a).wr f (s.rd f + 1) := by rw [portStep, if_pos h]
theorem portStep_open (s : State) {shut : Bool} (h : shut = false) (a : Nat) (u : State) (f : Fld) :
    s.portStep shut a u f = u.wr f (s.rd f + 1) := by rw [portStep, h]; rfl

theorem portStep_dram {s u : State} (hu : u.dram = s.dram) (shut : Bool) (a : Nat) (f : Fld) :
    (s.portStep shut a u f).dram = s.dram := by
  cases shut with
  | true => simp [portStep]
  | false => simp [portStep, hu]

/-- The address moves on whether the word is stored or not. -/
theorem portStep_rd {s u : State} (shut : Bool) (a : Nat) {f : Fld} (hf : f.lo + f.w ≤ 32) :
    (s.portStep shut a u f).rd f = (s.rd f + 1) % 2 ^ f.w := rd_wr _ _ hf

theorem portStep_regsKeep {s u : State} (hu : u.regs = s.regs) {shut : Bool} (h : shut = false) (a : Nat) (f : Fld) :
    s.regsKeep (s.portStep shut a u f) [f.addr] := fun x hx => by
  rw [portStep_open _ h, get_wr_ne _ _ (by simpa using hx), get_congr hu]

theorem portStep_reported (s u : State) {shut : Bool} (h : shut = true) (n : Fin 4) {o i : Nat} (ho : o < 0x40000)
    (hi : subOf o = some i) (f : Fld) : ∃ a b, s.logged (s.portStep shut (lecBase n + o) u f) 0x0108 2 a b := by
  rw [portStep_shut _ h]
  exact ⟨_, _, logged_congr (by simp) (logged_report0108 (blockOf_channel n ho hi))⟩

/-- The entry of the look-up table that CMP_LUT_ADDR names, written. -/
def lutStore (s : State) (n : Fin 4) (v : Nat) : State :=
  let e := 4096 * s.rd (F.CMP_LUT_ADDR_BANK n) + s.rd (F.CMP_LUT_ADDR_ENTRY n)
  s.modCh n fun c => { c with lut := sset (fun _ => 0) c.lut e (v % 65536) }

/-- The node of the mesh that WRP_MESH_ADDR names, written if there is such a node. -/
def meshStore (s : State) (n : Fin 4) (v : Nat) : State :=
  let e := 1024 * s.rd (F.WRP_MESH_ADDR_BANK n) + s.rd (F.WRP_MESH_ADDR_NODE n)
  if s.rd (F.WRP_MESH_ADDR_NODE n) < 561 then s.modCh n fun c => { c with mesh := sset (fun _ => 0) c.mesh e v } else s

theorem lutWrite_eq (s : State) (n : Fin 4) (v : Nat) : s.lutWrite n v =
    s.portStep (s.bistOn 0 n || s.bankBusy n (F.CMP_CTRL_LUT_BANK n) (s.rd (F.CMP_LUT_ADDR_BANK n))) (R.CMP_LUT_DATA n)
      (s.lutStore n v) (F.CMP_LUT_ADDR_ENTRY n) := rfl

theorem meshWrite_eq (s : State) (n : Fin 4) (v : Nat) : s.meshWrite n v =
    s.portStep (s.bistOn 0 n || s.bankBusy n (F.WRP_CTRL_MESH_BANK n) (s.rd (F.WRP_MESH_ADDR_BANK n))) (R.WRP_MESH_DATA n)
      (s.meshStore n v) (F.WRP_MESH_ADDR_NODE n) := rfl

@[simp] theorem lutStore_dram (s : State) (n : Fin 4) (v : Nat) : (s.lutStore n v).dram = s.dram := rfl
@[simp] theorem lutStore_regs (s : State) (n : Fin 4) (v : Nat) : (s.lutStore n v).regs = s.regs := rfl
@[simp] theorem meshStore_dram (s : State) (n : Fin 4) (v : Nat) : (s.meshStore n v).dram = s.dram := by
  unfold meshStore; split <;> rfl
@[simp] theorem meshStore_regs (s : State) (n : Fin 4) (v : Nat) : (s.meshStore n v).regs = s.regs := by
  unfold meshStore; split <;> rfl

theorem sget_lutStore (s : State) (n : Fin 4) (v k : Nat) : sget (fun _ => 0) ((s.lutStore n v).ch n).lut k =
    if k = 4096 * s.rd (F.CMP_LUT_ADDR_BANK n) + s.rd (F.CMP_LUT_ADDR_ENTRY n) then v % 65536
    else sget (fun _ => 0) (s.ch n).lut k := by
  simp [lutStore, sget_sset]

theorem sget_meshStore (s : State) (n : Fin 4) (v k : Nat) : sget (fun _ => 0) ((s.meshStore n v).ch n).mesh k =
    if s.rd (F.WRP_MESH_ADDR_NODE n) < 561 ∧ k = 1024 * s.rd (F.WRP_MESH_ADDR_BANK n) + s.rd (F.WRP_MESH_ADDR_NODE n) then v
    else sget (fun _ => 0) (s.ch n).mesh k := by
  unfold meshStore
  split
  · next h => simp [h, sget_sset]
  · next h => simp [h]

end State

/-! ### The commands -/

theorem exec_lutPortWrite {s : State} {n : Chan} (h : s.subHeld n 2 = false) (v : Word) :
    exec (.lutPortWrite n v) s = .next (s.lutWrite n v.toNat) := congrArg Host.Outcome.next (if_neg (by simp [h]))
theorem exec_meshPortWrite {s : State} {n : Chan} (h : s.subHeld n 3 = false) (v : Word) :
    exec (.meshPortWrite n v) s = .next (s.meshWrite n v.toNat) := congrArg Host.Outcome.next (if_neg (by simp [h]))
theorem exec_coefRamWrite {s : State} {n : Chan} (h : s.subHeld n 1 = false) (o : Nat) (v : Word) :
    exec (.coefRamWrite n o v) s = .next (s.coefWrite n o v.toNat) := congrArg Host.Outcome.next (if_neg (by simp [h]))
theorem exec_timetableRamWrite {s : State} {n : Chan} (h : s.subHeld n 5 = false) (o : Nat) (v : Word) :
    exec (.timetableRamWrite n o v) s = .next (s.ttWrite n o v.toNat) := congrArg Host.Outcome.next (if_neg (by simp [h]))
theorem exec_injTableWrite {s : State} {n : Chan} (h : s.subHeld n 10 = false) (e : Nat) (v : Word) :
    exec (.injTableWrite n e v) s = .next (s.injTableWrite n e v.toNat) := congrArg Host.Outcome.next (if_neg (by simp [h]))

/-- A command that a block held in reset ignores. -/
theorem next_of_held {s u : State} {b : Bool} (h : b = true) :
    (Host.Outcome.next (if b then s else u) : Host.Outcome State Fault Refusal) = .next s :=
  congrArg Host.Outcome.next (if_pos h)

/-- Settles O55: each port is a memory word that is written when its bank is free, and reported when it is not. -/
theorem accessPorts : Obligations.AccessPorts := by
  unfold Obligations.AccessPorts
  intro n o v s free lb le mb me ca ta playing reported
  have idle : free → ∀ f b, (s.bistOn 0 n || s.bankBusy n f b) = false := fun h f b => by
    simp [h.2, State.bankBusy_stopped h.1]
  refine ⟨fun h => ⟨_, exec_lutPortWrite h v, ?_⟩, fun h => ⟨_, exec_meshPortWrite h v, ?_⟩,
    fun h => ⟨_, exec_coefRamWrite h o v, ?_⟩, fun h => ⟨_, exec_timetableRamWrite h o v, ?_⟩,
    fun h => ⟨_, exec_injTableWrite h o v, ?_⟩, next_of_held, next_of_held, next_of_held, next_of_held, next_of_held⟩
  · rw [s.lutWrite_eq]
    refine ⟨State.portStep_dram (s.lutStore_dram n _) _ _ _, State.portStep_rd _ _ (show 0 + 12 ≤ 32 by decide),
      fun hf => ⟨?_, fun k => ?_⟩, fun hb => ⟨?_, ?_⟩⟩
    · exact State.portStep_regsKeep (s.lutStore_regs n _) (idle hf _ _) _ _
    · rw [State.portStep_open _ (idle hf _ _), State.wr_ch]
      exact s.sget_lutStore n _ k
    · rw [State.portStep_shut _ (by simp [lb, hb]), State.wr_ch, State.report0108_ch]
    · exact s.portStep_reported _ (by simp [lb, hb]) n (o := 0x4018) (by decide) (subOf_low (by decide)) _
  · rw [s.meshWrite_eq]
    refine ⟨State.portStep_dram (s.meshStore_dram n _) _ _ _, State.portStep_rd _ _ (show 0 + 11 ≤ 32 by decide),
      fun hf => ⟨?_, fun k => ?_⟩, fun hb => ⟨?_, ?_⟩⟩
    · exact State.portStep_regsKeep (s.meshStore_regs n _) (idle hf _ _) _ _
    · rw [State.portStep_open _ (idle hf _ _), State.wr_ch]
      exact s.sget_meshStore n _ k
    · rw [State.portStep_shut _ (by simp [mb, hb]), State.wr_ch, State.report0108_ch]
    · exact s.portStep_reported _ (by simp [mb, hb]) n (o := 0x6044) (by decide) (subOf_low (by decide)) _
  · obtain ⟨hdram, hlec⟩ := s.coefWrite_frame n o v.toNat
    refine ⟨hdram, hlec, fun ho => s.coefWrite_out n ho _, fun ho hf => ?_, fun ho hb => s.coefWrite_shut ho hb _⟩
    rw [s.coefWrite_in n ho]
    exact s.ramWrite_open (idle hf _ _) _ (by omega)
  · obtain ⟨hdram, hlec⟩ := s.ttWrite_frame n o v.toNat
    refine ⟨hdram, hlec, fun ho => s.ttWrite_out n ho _, fun ho hf => ?_, fun ho hb => s.ttWrite_shut ho hb _⟩
    rw [s.ttWrite_in n ho]
    exact s.ramWrite_open (idle hf _ _) _ v.isLt
  · obtain ⟨hdram, hlec⟩ := s.injTableWrite_frame n o v.toNat
    refine ⟨hdram, hlec, fun ho => s.injTableWrite_out n ho _, fun ho hp hb => ?_,
      fun ho hp => s.injTableWrite_shut ho (State.playing_iff.mpr hp) _⟩
    rw [s.injTableWrite_in n ho]
    refine s.ramWrite_open ?_ _ v.isLt
    rw [hb, Bool.false_or, Bool.eq_false_iff]
    exact mt State.playing_iff.mp hp

end Sys2Proof.Machine
end

section
/-! SUPPORT. The banks of a channel (R26): the copy of one bank into another, and which operations of a transfer line leave the
banks and the frame-timing words of every channel alone. -/

namespace Sys2Proof.Machine

/-! ### Copies of banks -/

/-- Selected entries written over a bank that holds nothing at the selected addresses. -/
theorem sget_foldr_filter (p : Nat → Bool) (src base : RegFile) (a : Nat)
    (hb : p a = true → sget regReset base a = regReset a) :
    sget regReset ((src.filter fun e => p e.1).foldr (fun e m => sset regReset m e.1 e.2) base) a =
      if p a then sget regReset src a else sget regReset base a := by
  induction src with
  | nil =>
    split
    · next h => exact hb h
    · rfl
  | cons e src ih =>
    obtain ⟨k, v⟩ := e
    by_cases hk : p k = true
    · rw [List.filter_cons, if_pos hk, List.foldr_cons, sget_sset, ih]
      by_cases hak : a = k
      · subst hak
        simp [hk, sget]
      · simp [hak, Ne.symm hak, sget]
    · rw [List.filter_cons, if_neg hk, ih]
      split
      · next h =>
        have hka : k ≠ a := fun e => hk (e ▸ h)
        simp [sget, hka]
      · rfl

/-- A copy takes the selected entries from the source, and the others from the destination. -/
theorem sget_bankCopy (p : Nat → Bool) (src dst : RegFile) (a : Nat) :
    sget regReset (bankCopy p src dst) a = if p a then sget regReset src a else sget regReset dst a := by
  have hbase : sget regReset (skeep (fun x => !p x) dst) a = if p a then regReset a else sget regReset dst a := by
    rw [sget_skeep]
    cases p a with
    | true | false => rfl
  rw [bankCopy, sget_foldr_filter p src _ a fun h => by rw [hbase, if_pos h], hbase]
  split <;> rfl

theorem rwsRange_iff (n : Fin 4) (a : Nat) : rwsRange n a = true ↔ lecBase n ≤ a ∧ a < lecBase n + 0x10000 :=
  decide_eq_true_iff

/-! ### What leaves the banks alone -/

/-- The words of CTL in which a channel's frame timing stands: LEC_CTRL to LEC_TRANSFER_LINE (R18, R26, R29). -/
def ctlWord (a : Nat) : Bool :=
  decide (0x40100000 ≤ a ∧ a < 0x40200000 ∧ 0x3F000 ≤ a % 0x40000 ∧ a % 0x40000 < 0x3F020)

/-- The pending bank, the composition stage, the streaming stage and the frame-timing words of every channel are as before. -/
structure State.SparesBanks (s t : State) : Prop where
  pend : t.pend = s.pend
  comp : t.comp = s.comp
  strm : t.strm = s.strm
  ctl : ∀ a, ctlWord a = true → t.get a = s.get a

namespace State.SparesBanks

variable {s t u : State}

theorem refl (s : State) : s.SparesBanks s := ⟨rfl, rfl, rfl, fun _ _ => rfl⟩

theorem on (h : s.SparesBanks t) {f : Fld} (hf : ctlWord f.addr = true := by clear * -; decide +revert) : t.on f = s.on f :=
  on_congr (rd_congr (h.ctl _ hf))

/-- Name an intermediate result. -/
theorem bind (h : s.SparesBanks t) (k : s.SparesBanks t → s.SparesBanks u) : s.SparesBanks u := k h
theorem ite {c : Prop} {_ : Decidable c} (h : s.SparesBanks t) (k : s.SparesBanks u) : s.SparesBanks (if c then t else u) := by
  split
  · exact h
  · exact k
theorem foldl {α : Type} {l : List α} {f : State → α → State} (h : s.SparesBanks t)
    (k : ∀ u x, s.SparesBanks u → s.SparesBanks (f u x)) : s.SparesBanks (l.foldl f t) := by
  induction l generalizing t with
  | nil => exact h
  | cons x l ih => exact ih (k t x h)

/-! ### Ops -/

theorem put (h : s.SparesBanks t) {a v : Nat} (ha : ctlWord a = false := by
  clear * -; decide +revert) : s.SparesBanks (t.put a v) :=
  ⟨h.pend, h.comp, h.strm, fun x hx =>
    (get_put_ne _ _ (fun e => by rw [e, ha] at hx; exact Bool.false_ne_true hx)).trans (h.ctl x hx)⟩
theorem wr (h : s.SparesBanks t) {f : Fld} {v : Nat} (ha : ctlWord f.addr = false := by clear * -; decide +revert) :
    s.SparesBanks (t.wr f v) := h.put ha
theorem wrB (h : s.SparesBanks t) {f : Fld} {b : Bool} (ha : ctlWord f.addr = false := by clear * -; decide +revert) :
    s.SparesBanks (t.wrB f b) := h.put ha
theorem incSat (h : s.SparesBanks t) {f : Fld} (ha : ctlWord f.addr = false := by clear * -; decide +revert) :
    s.SparesBanks (t.incSat f) := h.put ha
theorem modCh (h : s.SparesBanks t) {n : Fin 4} {f : Lec → Lec} : s.SparesBanks (t.modCh n f) :=
  ⟨h.pend, h.comp, h.strm, h.ctl⟩
theorem modDmc (h : s.SparesBanks t) {c : Fin 2} {f : DmcRun → DmcRun} : s.SparesBanks (t.modDmc c f) :=
  ⟨h.pend, h.comp, h.strm, h.ctl⟩
theorem modSys (h : s.SparesBanks t) {f : Sys → Sys} : s.SparesBanks (t.modSys f) := ⟨h.pend, h.comp, h.strm, h.ctl⟩
theorem modPins (h : s.SparesBanks t) {f : Pins → Pins} : s.SparesBanks (t.modPins f) := ⟨h.pend, h.comp, h.strm, h.ctl⟩
theorem modFw (h : s.SparesBanks t) {f : Fw → Fw} : s.SparesBanks (t.modFw f) := ⟨h.pend, h.comp, h.strm, h.ctl⟩
theorem nextFree (h : s.SparesBanks t) : s.SparesBanks t.nextFree := ⟨h.pend, h.comp, h.strm, h.ctl⟩
theorem dwrite (h : s.SparesBanks t) {a : Nat} {bs : List Byte} : s.SparesBanks (t.dwrite a bs) :=
  ⟨h.pend, h.comp, h.strm, h.ctl⟩

/-- An error of a block changes the block's error words and those of the recorder. -/
theorem errEvent (h : s.SparesBanks t) {base code sev a b : Nat} (h0 : ctlWord (base + 0x1F0) = false := by
  clear * -; decide +revert)
    (h1 : ctlWord (base + 0x1F4) = false := by clear * -; decide +revert) : s.SparesBanks (t.errEvent base code sev a b) := by
  refine ⟨by simp [h.pend], by simp [h.comp], by simp [h.strm], fun x hx => ?_⟩
  have apart : ∀ {y}, ctlWord y = false → x ≠ y := fun hy e => by rw [e, hy] at hx; exact Bool.false_ne_true hx
  have hev : x ∉ eventRegs := fun he => by
    have : ∀ y ∈ eventRegs, ctlWord y = false := by decide
    exact apart (this x he) rfl
  exact (errEvent_get _ _ _ _ _ _ hev (apart h0) (apart h1)).trans (h.ctl x hx)

/-! ### Clocks -/

theorem setPll (h : s.SparesBanks t) {i : Nat} {on lock : Bool} : s.SparesBanks (t.setPll i on lock) := h.wr.wr
theorem setClk (h : s.SparesBanks t) {d : Nat} {on : Bool} : s.SparesBanks (t.setClk d on) := by
  unfold State.setClk
  split
  · exact h
  · next hd =>
    have hen : ctlWord (R.SYS_CLKENk (d / 32)) = false := decide_eq_false (by unfold R.SYS_CLKENk; omega)
    have hgood : ctlWord (R.SYS_CLKGOODk (d / 32)) = false := decide_eq_false (by unfold R.SYS_CLKGOODk; omega)
    exact ((ite h.modSys h).put hen).bind fun h => ite (by
      split
      · exact ite h h.setPll
      · exact h) (h.put hgood)
theorem setClks (h : s.SparesBanks t) {lo hi : Nat} {on : Bool} : s.SparesBanks (t.setClks lo hi on) :=
  h.foldl fun _ _ h => h.setClk
theorem csiClk (h : s.SparesBanks t) {rx : Fin 2} {on : Bool} : s.SparesBanks (t.csiClk rx on) := h.setClks.modPins

/-! ### The drawing of a frame, and the rings that a transfer frees (R151, R157) -/

theorem portRead (h : s.SparesBanks t) {port a k : Nat} : s.SparesBanks (t.portRead port a k) := by
  unfold State.portRead
  refine ite h ?_
  split
  · next b _ => exact errEvent h (by generalize dramCh b = c; decide +revert) (by generalize dramCh b = c; decide +revert)
  · exact h
theorem portWrite (h : s.SparesBanks t) {port a : Nat} {bs : List Byte} : s.SparesBanks (t.portWrite port a bs) :=
  (h.foldl fun _ _ h => ite h h.modDmc).bind fun h => ite h.dwrite (h.portRead.foldl fun _ _ h => h.dwrite)
theorem fetchStatus (h : s.SparesBanks t) {n : Fin 4} : s.SparesBanks (t.fetchStatus n) := h.wr.wr.wr.wr
theorem underrun (h : s.SparesBanks t) {n x : Fin 4} {row : Nat} : s.SparesBanks (t.underrun n x row) :=
  ite ((h.errEvent.incSat.wr.foldl fun _ _ h => h.modCh).modCh.bind fun h => (ite h.wr h).fetchStatus.nextFree) h
theorem trajLoad (h : s.SparesBanks t) {n : Fin 4} : s.SparesBanks (t.trajLoad n) := ite (ite h.portRead h.modCh) h
theorem drawFrame (h : s.SparesBanks t) {n : Fin 4} {cols rows fields k : Nat} :
    s.SparesBanks (t.drawFrame n cols rows fields k) := by
  unfold State.drawFrame
  exact h.portWrite.bind fun h => (ite h.portWrite h).modCh
theorem composeDraw (h : s.SparesBanks t) {n : Fin 4} : s.SparesBanks (t.composeDraw n) := by
  unfold State.composeDraw
  refine ite h ?_
  split
  · exact h
  · exact (h.foldl fun _ _ h => by
      split
      · exact h.portRead.underrun
      · exact h).trajLoad.drawFrame.bind fun h => ite h.wr h
theorem patternCheck (h : s.SparesBanks t) {n : Fin 4} {size : Option (Nat × Nat)} : s.SparesBanks (t.patternCheck n size) :=
  h.wrB
theorem csiEnable (h : s.SparesBanks t) : s.SparesBanks t.csiEnable :=
  h.foldl fun _ _ h => ite h.wr.wr.csiClk (ite h.wr.csiClk h)
theorem ringsTrim (h : s.SparesBanks t) : s.SparesBanks t.ringsTrim := h.modFw.csiEnable

end State.SparesBanks

/-! ### The latch point (R26) -/

namespace State

@[simp] theorem setPend_pend (s : State) (r : RegFile) : (s.setPend r).pend = r := rfl
@[simp] theorem setComp_comp (s : State) (r : RegFile) : (s.setComp r).comp = r := rfl

@[simp] theorem maskLatch_pend (s : State) (n : Fin 4) : (s.maskLatch n).pend = s.pend := rfl
@[simp] theorem maskLatch_comp (s : State) (n : Fin 4) : (s.maskLatch n).comp = s.comp := rfl
@[simp] theorem maskLatch_strm (s : State) (n : Fin 4) : (s.maskLatch n).strm = s.strm := rfl
@[simp] theorem maskLatch_dram (s : State) (n : Fin 4) : (s.maskLatch n).dram = s.dram := rfl
@[simp] theorem maskLatch_get (s : State) (n : Fin 4) (a : Nat) : (s.maskLatch n).get a = s.get a := rfl
@[simp] theorem maskLatch_on (s : State) (n : Fin 4) (f : Fld) : (s.maskLatch n).on f = s.on f := rfl

/-- The raster reaches the latch point: LINE shows its line, and GUARD reads 1 from it. -/
def atLatch (s : State) (n : Fin 4) : State :=
  ((s.wr (F.LEC_LINE_LINE n) (s.rd (F.LEC_TRANSFER_LINE_LINE n) - s.rd (F.LEC_COMMIT_CFG_COMMIT_GUARD n))).modCh n
    fun c => { c with afterLatch := true }).wr (F.LEC_STATUS_GUARD n) 1

/-- The armed commit of a channel moves into the pending bank. -/
def pendMove (s : State) (n : Fin 4) : State :=
  ((((s.setPend (bankCopy (rwsRange n) s.regs s.pend)).modCh n fun c => { c with cfgPend := c.cfgNew }).wr
    (F.LEC_COMMIT_STATUS_PENDING n) 0).wr (F.LEC_COMMIT_STATUS_LATCHED n) 1).maskLatch n

@[simp] theorem atLatch_pend (s : State) (n : Fin 4) : (s.atLatch n).pend = s.pend := by
  rw [atLatch, wr_pend, modCh_pend, wr_pend]
@[simp] theorem atLatch_comp (s : State) (n : Fin 4) : (s.atLatch n).comp = s.comp := by
  rw [atLatch, wr_comp, modCh_comp, wr_comp]
@[simp] theorem atLatch_strm (s : State) (n : Fin 4) : (s.atLatch n).strm = s.strm := by
  rw [atLatch, wr_strm, modCh_strm, wr_strm]
@[simp] theorem atLatch_dram (s : State) (n : Fin 4) : (s.atLatch n).dram = s.dram := by
  rw [atLatch, wr_dram, modCh_dram, wr_dram]
theorem atLatch_get (s : State) {n : Fin 4} {a : Nat} (h0 : a ≠ R.LEC_LINE n) (h1 : a ≠ R.LEC_STATUS n) :
    (s.atLatch n).get a = s.get a := by rw [atLatch, get_wr_ne _ _ h1, modCh_get, get_wr_ne _ _ h0]
theorem atLatch_get_window (s : State) {n : Fin 4} {a : Nat} (h : a < lecBase n + 0x10000) : (s.atLatch n).get a = s.get a :=
  s.atLatch_get (by unfold R.LEC_LINE; omega) (by unfold R.LEC_STATUS; omega)
@[simp] theorem atLatch_guard (s : State) (n : Fin 4) : (s.atLatch n).on (F.LEC_STATUS_GUARD n) = true :=
  on_wr_one _ (show 2 + 1 ≤ 32 by decide) rfl
@[simp] theorem atLatch_pending (s : State) (n : Fin 4) :
    (s.atLatch n).on (F.LEC_COMMIT_STATUS_PENDING n) = s.on (F.LEC_COMMIT_STATUS_PENDING n) := by
  rw [atLatch, on_wr_apart _ _ (by decide +revert), modCh_on, on_wr_apart _ _ (by decide +revert)]

@[simp] theorem pendMove_comp (s : State) (n : Fin 4) : (s.pendMove n).comp = s.comp := by
  rw [pendMove, maskLatch_comp, wr_comp, wr_comp, modCh_comp, setPend_comp]
@[simp] theorem pendMove_strm (s : State) (n : Fin 4) : (s.pendMove n).strm = s.strm := by
  rw [pendMove, maskLatch_strm, wr_strm, wr_strm, modCh_strm, setPend_strm]
@[simp] theorem pendMove_dram (s : State) (n : Fin 4) : (s.pendMove n).dram = s.dram := by
  rw [pendMove, maskLatch_dram, wr_dram, wr_dram, modCh_dram, setPend_dram]
theorem pendMove_get (s : State) {n : Fin 4} {a : Nat} (h : a ≠ R.LEC_COMMIT_STATUS n) : (s.pendMove n).get a = s.get a := by
  rw [pendMove, maskLatch_get, get_wr_ne _ _ h, get_wr_ne _ _ h, modCh_get, setPend_get]
@[simp] theorem pendMove_guard (s : State) (n : Fin 4) :
    (s.pendMove n).on (F.LEC_STATUS_GUARD n) = s.on (F.LEC_STATUS_GUARD n) :=
  on_congr (rd_congr (s.pendMove_get (by decide +revert)))
@[simp] theorem pendMove_pending (s : State) (n : Fin 4) : (s.pendMove n).on (F.LEC_COMMIT_STATUS_PENDING n) = false := by
  rw [pendMove, maskLatch_on, on_wr_apart _ _ (by decide +revert), on_wr_zero _ (show 0 + 1 ≤ 32 by decide)]
@[simp] theorem pendMove_latched (s : State) (n : Fin 4) : (s.pendMove n).on (F.LEC_COMMIT_STATUS_LATCHED n) = true := by
  rw [pendMove, maskLatch_on, on_wr_one _ (show 1 + 1 ≤ 32 by decide) rfl]
theorem sget_pendMove (s : State) (n : Fin 4) (a : Nat) :
    sget regReset (s.pendMove n).pend a = if rwsRange n a then BitVec.ofNat 32 (s.get a) else sget regReset s.pend a := by
  have hp : (s.pendMove n).pend = bankCopy (rwsRange n) s.regs s.pend := by
    rw [pendMove, maskLatch_pend, wr_pend, wr_pend, modCh_pend, setPend_pend]
  rw [hp, sget_bankCopy, get, BitVec.ofNat_toNat, BitVec.setWidth_eq]

theorem latchPoint_eq {s : State} {n : Fin 4} (hr : s.on (F.LEC_STATUS_RUNNING n) = true) (hl : s.latchAtStart n = false) :
    s.latchPoint n = if (s.atLatch n).on (F.LEC_COMMIT_STATUS_PENDING n) then (s.atLatch n).pendMove n else s.atLatch n :=
  if_neg (by simp [hr, hl])

/-! ### The transfer line (R26, R157) -/

theorem foldl_dram {α : Type} {f : State → α → State} (h : ∀ s x, (f s x).dram = s.dram) (l : List α) (s : State) :
    (l.foldl f s).dram = s.dram := by
  induction l generalizing s with
  | nil => rfl
  | cons x l ih => exact (ih _).trans (h s x)

theorem setClk_dram (s : State) (d : Nat) (on : Bool) : (s.setClk d on).dram = s.dram := by
  unfold setClk
  split
  · rfl
  · cases on with
    | false => rfl
    | true =>
      cases pllOf d with
      | none => simp
      | some i =>
        simp only [if_true]
        split
        · simp
        · simp [setPll]
theorem csiClk_dram (s : State) (rx : Fin 2) (on : Bool) : (s.csiClk rx on).dram = s.dram :=
  foldl_dram (fun s _ => s.setClk_dram _ _) _ s
theorem ringsTrim_dram (s : State) : s.ringsTrim.dram = s.dram :=
  foldl_dram (fun s rx => by
    dsimp only
    split
    · exact csiClk_dram _ _ _
    · split
      · exact csiClk_dram _ _ _
      · rfl) _ _

/-- The raster reaches the transfer line: LINE shows it, and VBLANK reads 1. -/
def atBlank (s : State) (n : Fin 4) : State :=
  (s.wr (F.LEC_LINE_LINE n) (s.rd (F.LEC_TRANSFER_LINE_LINE n))).wr (F.LEC_STATUS_VBLANK n) 1

/-- At the transfer line the frame in composition is drawn. -/
def atTransfer (s : State) (n : Fin 4) : State :=
  if (s.atBlank n).subStill n 2 then s.atBlank n else (s.atBlank n).composeDraw n

/-- The pending bank of a channel moves into the composition stage. -/
def compMove (s : State) (n : Fin 4) : State :=
  (((s.setComp (bankCopy (rwsRange n) s.pend s.comp)).modCh n fun c =>
    { c with cfgComp := c.cfgPend, recompose := true, newComp := true }).wr (F.LEC_COMMIT_STATUS_LATCHED n) 0).ringsTrim

/-- The drawing of a frame leaves the banks and the frame-timing words alone. -/
theorem atTransfer_spares (s : State) (n : Fin 4) : (s.atBlank n).SparesBanks (s.atTransfer n) :=
  .ite (.refl _) (SparesBanks.refl _).composeDraw

theorem composeDraw_idle {s : State} {n : Fin 4} (h : (s.ch n).composing = false) : s.composeDraw n = s :=
  if_pos (by simp [h])

@[simp] theorem atTransfer_dram {s : State} {n : Fin 4} (h : (s.ch n).composing = false) : (s.atTransfer n).dram = s.dram := by
  have hblank : (s.atBlank n).dram = s.dram := by rw [atBlank, wr_dram, wr_dram]
  unfold atTransfer
  split
  · exact hblank
  · rw [composeDraw_idle (by rwa [atBlank, wr_ch, wr_ch]), hblank]

@[simp] theorem atTransfer_pend (s : State) (n : Fin 4) : (s.atTransfer n).pend = s.pend := by
  rw [(s.atTransfer_spares n).pend, atBlank, wr_pend, wr_pend]
@[simp] theorem atTransfer_comp (s : State) (n : Fin 4) : (s.atTransfer n).comp = s.comp := by
  rw [(s.atTransfer_spares n).comp, atBlank, wr_comp, wr_comp]
@[simp] theorem atTransfer_strm (s : State) (n : Fin 4) : (s.atTransfer n).strm = s.strm := by
  rw [(s.atTransfer_spares n).strm, atBlank, wr_strm, wr_strm]
@[simp] theorem atTransfer_frameCount (s : State) (n : Fin 4) :
    (s.atTransfer n).get (R.LEC_FRAME_COUNT n) = s.get (R.LEC_FRAME_COUNT n) := by
  rw [(s.atTransfer_spares n).ctl _ (by decide +revert), atBlank, get_wr_ne _ _ (by decide +revert),
    get_wr_ne _ _ (by decide +revert)]
@[simp] theorem atTransfer_vblank (s : State) (n : Fin 4) : (s.atTransfer n).on (F.LEC_STATUS_VBLANK n) = true := by
  rw [(s.atTransfer_spares n).on]
  exact on_wr_one _ (show 1 + 1 ≤ 32 by decide) rfl
@[simp] theorem atTransfer_latched (s : State) (n : Fin 4) :
    (s.atTransfer n).on (F.LEC_COMMIT_STATUS_LATCHED n) = s.on (F.LEC_COMMIT_STATUS_LATCHED n) := by
  rw [(s.atTransfer_spares n).on, atBlank, on_wr_apart _ _ (by decide +revert), on_wr_apart _ _ (by decide +revert)]

/-- The move of the pending bank frees rings and acknowledges the commit; beyond that it changes the composition stage. -/
theorem compMove_spares (s : State) (n : Fin 4) :
    (((s.setComp (bankCopy (rwsRange n) s.pend s.comp)).modCh n fun c =>
      { c with cfgComp := c.cfgPend, recompose := true, newComp := true }).wr (F.LEC_COMMIT_STATUS_LATCHED n) 0).SparesBanks
        (s.compMove n) := (SparesBanks.refl _).ringsTrim

@[simp] theorem compMove_pend (s : State) (n : Fin 4) : (s.compMove n).pend = s.pend := by simp [(s.compMove_spares n).pend]
@[simp] theorem compMove_strm (s : State) (n : Fin 4) : (s.compMove n).strm = s.strm := by simp [(s.compMove_spares n).strm]
@[simp] theorem compMove_dram (s : State) (n : Fin 4) : (s.compMove n).dram = s.dram := by simp [compMove, ringsTrim_dram]
@[simp] theorem compMove_frameCount (s : State) (n : Fin 4) :
    (s.compMove n).get (R.LEC_FRAME_COUNT n) = s.get (R.LEC_FRAME_COUNT n) := by
  rw [(s.compMove_spares n).ctl _ (by decide +revert), get_wr_ne _ _ (by decide +revert), modCh_get, setComp_get]
@[simp] theorem compMove_vblank (s : State) (n : Fin 4) :
    (s.compMove n).on (F.LEC_STATUS_VBLANK n) = s.on (F.LEC_STATUS_VBLANK n) := by
  rw [(s.compMove_spares n).on, on_wr_apart _ _ (by decide +revert), modCh_on, setComp_on]
@[simp] theorem compMove_latched (s : State) (n : Fin 4) : (s.compMove n).on (F.LEC_COMMIT_STATUS_LATCHED n) = false := by
  rw [(s.compMove_spares n).on]
  exact on_wr_zero _ (show 1 + 1 ≤ 32 by decide)
theorem sget_compMove (s : State) (n : Fin 4) (a : Nat) :
    sget regReset (s.compMove n).comp a = if rwsRange n a then sget regReset s.pend a else sget regReset s.comp a := by
  rw [(s.compMove_spares n).comp, wr_comp, modCh_comp, setComp_comp, sget_bankCopy]

@[simp] theorem patternCheck_pend (s : State) (n : Fin 4) (z : Option (Nat × Nat)) :
    (s.patternCheck n z).pend = s.pend := (SparesBanks.refl s).patternCheck.pend
@[simp] theorem patternCheck_comp (s : State) (n : Fin 4) (z : Option (Nat × Nat)) :
    (s.patternCheck n z).comp = s.comp := (SparesBanks.refl s).patternCheck.comp
@[simp] theorem patternCheck_strm (s : State) (n : Fin 4) (z : Option (Nat × Nat)) :
    (s.patternCheck n z).strm = s.strm := (SparesBanks.refl s).patternCheck.strm
@[simp] theorem patternCheck_dram (s : State) (n : Fin 4) (z : Option (Nat × Nat)) :
    (s.patternCheck n z).dram = s.dram := s.wrB_dram _ _
@[simp] theorem patternCheck_frameCount (s : State) (n : Fin 4) (z : Option (Nat × Nat)) :
    (s.patternCheck n z).get (R.LEC_FRAME_COUNT n) = s.get (R.LEC_FRAME_COUNT n) :=
  (SparesBanks.refl s).patternCheck.ctl _ (by decide +revert)
@[simp] theorem patternCheck_vblank (s : State) (n : Fin 4) (z : Option (Nat × Nat)) :
    (s.patternCheck n z).on (F.LEC_STATUS_VBLANK n) = s.on (F.LEC_STATUS_VBLANK n) :=
  (SparesBanks.refl s).patternCheck.on
@[simp] theorem patternCheck_latched (s : State) (n : Fin 4) (z : Option (Nat × Nat)) :
    (s.patternCheck n z).on (F.LEC_COMMIT_STATUS_LATCHED n) = s.on (F.LEC_COMMIT_STATUS_LATCHED n) :=
  (SparesBanks.refl s).patternCheck.on

theorem transferLine_eq {s : State} {n : Fin 4} (hr : s.on (F.LEC_STATUS_RUNNING n) = true) :
    s.transferLine n =
      let u := if (s.atTransfer n).on (F.LEC_COMMIT_STATUS_LATCHED n) then (s.atTransfer n).compMove n else s.atTransfer n
      u.patternCheck n (u.activeSize n) := if_neg (by simp [hr])

end State

/-! ### The commands -/

theorem exec_latchPoint {s : State} {n : Chan} (h : s.subStill n 12 = false) :
    exec (.latchPoint n) s = .next (s.latchPoint n) := congrArg Host.Outcome.next (if_neg (by simp [h]))
theorem exec_transferLine {s : State} {n : Chan} (h : s.subStill n 12 = false) :
    exec (.transferLine n) s = .next (s.transferLine n) := congrArg Host.Outcome.next (if_neg (by simp [h]))

/-- Settles O25: the latch point is `atLatch`, with `pendMove` for an armed commit; the transfer line is `atTransfer`, with
`compMove` for a latched one. -/
theorem latchThenTransfer : Obligations.LatchThenTransfer := by
  unfold Obligations.LatchThenTransfer
  intro n s hstill hrun hstart mine
  have hmine : ∀ a (x y : Word), (if rwsRange n a then x else y) = if mine a then x else y := fun a x y =>
    if_congr (rwsRange_iff n a) rfl rfl
  refine ⟨⟨_, exec_latchPoint hstill, ?_⟩, ⟨_, exec_transferLine hstill, ?_⟩⟩
  · rw [State.latchPoint_eq hrun hstart, s.atLatch_pending n]
    have reach : s.regsKeep (s.atLatch n) [R.LEC_LINE n, R.LEC_STATUS n, R.LEC_COMMIT_STATUS n] := fun a ha =>
      s.atLatch_get (fun e => ha (by simp [e])) (fun e => ha (by simp [e]))
    cases hp : s.on (F.LEC_COMMIT_STATUS_PENDING n) with
    | false => exact ⟨by simp, by simp, by simp, by simp, reach, fun _ => by simp, nofun⟩
    | true =>
      refine ⟨by simp, by simp, by simp, by simp, fun a ha => ?_, nofun, fun _ => ⟨by simp, by simp, fun a => ?_⟩⟩
      · exact ((s.atLatch n).pendMove_get (fun e => ha (by simp [e]))).trans (reach a ha)
      · rw [if_pos rfl, State.sget_pendMove, hmine, State.atLatch_pend]
        refine if_ctx_congr Iff.rfl (fun ha => ?_) fun _ => rfl
        rw [s.atLatch_get_window ha.2]
  · rw [State.transferLine_eq hrun]
    dsimp only
    rw [s.atTransfer_latched n]
    cases hl : s.on (F.LEC_COMMIT_STATUS_LATCHED n) with
    | false => exact ⟨by simp, by simp, fun h => by simp [h], by simp, by simp, fun _ => by simp, nofun⟩
    | true =>
      refine ⟨by simp, by simp, fun h => by simp [h], by simp, by simp, nofun, fun _ => ⟨by simp, fun a => ?_⟩⟩
      rw [if_pos rfl, State.patternCheck_comp, State.sget_compMove, hmine, State.atTransfer_pend, State.atTransfer_comp]

end Sys2Proof.Machine
end

section
/-! SUPPORT. A frame start that loses its count (R18, R222): the slot of a soft-mask change is a number without a bound in the
model's state, and the entry of slot 0x3A81 in CMP_SMs would stand where LEC_FRAME_COUNT does. -/

namespace Sys2Proof.Machine

/-- Channel 0 runs alone, and a soft-mask change that has arrived empties slot 0x3A81. -/
def strayMask : State :=
  ((State.reset.wr (F.LEC_STATUS_RUNNING 0) 1).wr (F.LEC_CTRL_RUN 0) 1).modMask 0 fun m =>
    { m with arrived := [⟨0x3A81, none⟩] }

/-- The change takes the frame start's count away again: frame 0 is followed by frame 0. -/
theorem strayMask_frameCount : strayMask.get (R.LEC_FRAME_COUNT 0) = 0 ∧
    (strayMask.frameStart 0).get (R.LEC_FRAME_COUNT 0) = 0 := by decide +kernel

theorem exec_frameStart {s : State} {n : Chan} (h : s.subStill n 12 = false) :
    exec (.frameStart n) s = .next (s.frameStart n) := congrArg Host.Outcome.next (if_neg (by simp [h]))

/-- Refutes O26: from `strayMask` the frame number stays 0. No command makes such a state, for every slot that arrives is taken
modulo 64 (R108); the statement is of all states. -/
theorem not_frameStarts : ¬ Obligations.FrameStarts := by
  unfold Obligations.FrameStarts
  intro h
  have hstill : strayMask.subStill 0 12 = false := by decide +kernel
  obtain ⟨t, ht, hrun, -⟩ := h 0 strayMask hstill (by decide +kernel) (by decide +kernel) (by decide +kernel)
    (by decide +kernel) (by decide +kernel)
  obtain ⟨hcount, -⟩ := hrun (by decide +kernel)
  obtain rfl := Host.Outcome.next.inj ((exec_frameStart hstill).symm.trans ht)
  obtain ⟨hbefore, hafter⟩ := strayMask_frameCount
  rw [hbefore, hafter] at hcount
  exact absurd hcount (by decide)

end Sys2Proof.Machine
end

section
/-! SUPPORT. The queue, the tick (R48) and the machine right after reset (R37, R61). -/

namespace Sys2Proof.Machine

namespace State

/-- What neither a notification nor the recorder's own data changes, the sending of the queued records does not change. -/
theorem fwDrain_congr {α : Type} {f : State → α} (hn : ∀ s p o l, f (notify s p o l) = f s) (he : ∀ s g, f (modEvr s g) = f s)
    (s : State) : f s.fwDrain = f s := by
  have one : ∀ t r p, f t = f s → f (eventTo t r p) = f s := fun t r p ht => by
    unfold eventTo
    split
    · rw [hn, ht]
    · exact ht
  unfold fwDrain
  split
  · exact foldl_inv (P := fun t => f t = f s) (fun t r ht => foldl_inv (P := fun t => f t = f s) (fun u p => one u r p) _ t ht)
      _ _ (he _ _)
  · rfl

theorem tick_off {s : State} (h : s.aon.vaonGood = false) : s.tick = s := by simp [tick, h]

/-- A tick moves the timebase on by one, and touches neither DRAM nor the channels. -/
theorem tick_on {s : State} (h : s.aon.vaonGood = true) :
    s.tick.dram = s.dram ∧ s.tick.lec = s.lec ∧ s.tick.tb = s.tb + 1 := by
  unfold tick
  rw [if_pos h]
  dsimp only
  rw [fwDrain_congr (f := State.dram) notify_dram modEvr_dram, fwDrain_congr (f := State.lec) notify_lec modEvr_lec,
    fwDrain_congr (f := State.tb) notify_tb modEvr_tb]
  split
  · exact ⟨rfl, rfl, rfl⟩
  · exact ⟨rfl, rfl, rfl⟩

end State

/-- Settles O2: the tick is the step of an empty queue; every command leaves the rest of the queue alone (`State.Keeps`). -/
theorem queueAndTick : Obligations.QueueAndTick := by
  unfold Obligations.QueueAndTick
  refine ⟨fun s hq => ⟨s.tick, by simp [step, hq], ?_⟩, fun s t h => (State.Keeps.of_step h).pending⟩
  have hpending : s.tick.pending = [] := (State.Keeps.refl s).tick.pending.trans hq
  cases hv : s.aon.vaonGood with
  | false => simp [State.tick_off hv, hq]
  | true =>
    obtain ⟨hdram, hlec, htb⟩ := State.tick_on hv
    exact ⟨hpending, hdram, hlec, fun _ => htb, nofun⟩

/-- The machine of power-on is empty, hence canonical and within its bounds. -/
theorem reset_safe : State.reset.safe = true := by decide

/-- The machine of power-on runs, links and lights nothing on a channel. -/
theorem reset_dark (n : Fin 4) : State.reset.on (F.LEC_CTRL_RUN n) = false ∧ State.reset.linkState n = 0 ∧
    State.reset.rd (F.SRC_STATUS_ARM n) = 0 ∧ State.reset.pins.lampEnN.get n = true ∧
    State.reset.pins.oeN.get n = true ∧ State.reset.pins.latN.get n = true := by
  decide +revert

/-- Settles O6: `State.reset` keeps the bounds, logs nothing and drives nothing. -/
theorem resetState : Obligations.ResetState := by
  unfold Obligations.ResetState
  exact ⟨reset_safe, by decide, by decide, rfl, rfl, rfl, reset_dark⟩

end Sys2Proof.Machine
end

section
/-! SUPPORT. A transition into READY that leaves a lamp enabled (R80, R247): a BOOT_LIGHT pattern that runs on into READY. -/

namespace Sys2Proof.Machine

/-- The part of `tailPattern` that no register shows: firmware runs and ends a transition into READY that waits for nothing;
channel 0 has a node and keeps its BOOT_LIGHT pattern until its frame start (R80). -/
def tailRun : State :=
  ({ State.reset with
      rst := { Rst.reset with cpu := .running, tail := 1 }
      sys := { Sys.reset with transit := some ⟨modeREADY, 0, none, 0, false⟩ } }).modLink 0 fun l => { l with capOk := true }

/-- Channel 0 streams the pattern to a mirror array with four sources, all enabled, and SERVICE turns into READY. -/
def tailPattern : State :=
  ((((tailRun.wr F.SYS_MODE_MODE modeSERVICE).wr (F.LEC_STATUS_RUNNING 0) 1).wr (F.BPF_SRCSEL_PATTERN 0) 1).put
    (R.LNK_CAP 0 2) 0xF00).setStrm [(R.SRC_CTRL 0, 0xF)]

/-- LAMP0_EN_N is low after the transition: the pattern governs the channel as in BOOT. -/
theorem tailPattern_lit : tailPattern.transitEnd.pins.lampEnN.get 0 = false := by decide +kernel

theorem exec_modeTransitionComplete {s : State} (h : s.fwRuns = true) : exec .modeTransitionComplete s = .next s.transitEnd :=
  congrArg Host.Outcome.next (if_pos h)

/-- Refutes O21: `tailPattern` ends its transition in READY with LAMP0_EN_N low, for R80 lets a BOOT_LIGHT pattern run on into
READY until the channel's frame start. A transition that SET_MODE begins waits for that frame start; the statement is of all
states, and leaves the pattern open. -/
theorem not_transitionsAndDegrade : ¬ Obligations.TransitionsAndDegrade := by
  unfold Obligations.TransitionsAndDegrade
  rintro ⟨h, -⟩
  have hfw : tailPattern.fwRuns = true := by decide
  obtain ⟨t, ht, -, -, -, -, -, -, hlamps⟩ := h ⟨modeREADY, 0, none, 0, false⟩ tailPattern hfw rfl rfl rfl (by decide +kernel)
    (by decide) (by decide +kernel)
  obtain rfl := Host.Outcome.next.inj ((exec_modeTransitionComplete hfw).symm.trans ht)
  obtain ⟨hlamp, -⟩ := hlamps (by decide) 0
  exact absurd (tailPattern_lit.symm.trans hlamp) (by decide)

end Sys2Proof.Machine
end

section
/-! SUPPORT. What the operations of a mode change and of a park leave as it is (`State.Steady`): DRAM, the timebase, SYS_MODE,
the cause and phase of reset, the capability of every node, the accepted SEQ of every mailbox; and what they only add to: a
recorded source error, PARK and the dark field of a channel. First the primitive operations. -/

-- Many small proofs: one after another they hold few threads.
set_option Elab.async false

namespace Sys2Proof.Machine

/-- SYS_MODE, RST_CAUSE and RST_STATUS, and the word of a node's capability block that holds its type (R268). -/
def steadyWord (a : Nat) : Bool :=
  decide (a = 0x40000010 ∨ a = 0x40010000 ∨ a = 0x40010004 ∨ 0x40100000 ≤ a ∧ a < 0x40200000 ∧ a % 0x40000 = 0x10100)

/-- SRC_ERR of a channel (R16). -/
def srcErrWord (a : Nat) : Bool := decide (0x40100000 ≤ a ∧ a < 0x40200000 ∧ a % 0x40000 = 0xE1F0)

/-- No word that `State.Steady` speaks of. -/
def plainWord (a : Nat) : Bool := !steadyWord a && !srcErrWord a

/-- A source error of channel n is recorded (R16). -/
def State.srcErr (s : State) (n : Fin 4) : Bool := bit (s.get (srcBase n + 0x1F0)) 31

/-- What stays through the operations of a mode change and of a park. -/
structure State.Steady (s t : State) : Prop where
  dram : t.dram = s.dram
  tb : t.tb = s.tb
  word : ∀ a, steadyWord a = true → t.get a = s.get a
  err : ∀ n, s.srcErr n = true → t.srcErr n = true
  seqs : ∀ p, (t.port p).seqs = (s.port p).seqs
  pwrLow : t.sys.pwrLow = s.sys.pwrLow
  park : t.sys.park = s.sys.park
  capOk : ∀ n, (t.ch n).link.capOk = (s.ch n).link.capOk
  parkSet : ∀ n, (s.ch n).src.parkSet = true → (t.ch n).src.parkSet = true
  dark : ∀ n, (s.ch n).fieldDark = true → (t.ch n).fieldDark = true

/-- What a change of a channel's own data must leave for `State.Steady`. -/
structure Lec.Steady (c d : Lec) : Prop where
  capOk : d.link.capOk = c.link.capOk
  parkSet : c.src.parkSet = true → d.src.parkSet = true
  dark : c.fieldDark = true → d.fieldDark = true

theorem plainWord_iff {a : Nat} : plainWord a = true ↔ steadyWord a = false ∧ srcErrWord a = false := by simp [plainWord]

theorem plainWord_ne {a x : Nat} (ha : plainWord a = true) (hx : steadyWord x = true) : x ≠ a := by
  rintro rfl
  simp [plainWord, hx] at ha

theorem plainWord_ne_srcErr {a : Nat} (ha : plainWord a = true) (n : Fin 4) : srcBase n + 0x1F0 ≠ a := by
  rintro rfl
  have hw : srcErrWord (srcBase n + 0x1F0) = true := by clear ha; decide +revert
  simp [plainWord, hw] at ha

/-- A word of the system blocks. -/
theorem plainWord_of_low {a : Nat} (h : a < 0x40100000) (h0 : a ≠ 0x40000010 ∧ a ≠ 0x40010000 ∧ a ≠ 0x40010004) :
    plainWord a = true := by
  simp [plainWord, steadyWord, srcErrWord]
  omega

namespace State

theorem steady_not_event {x : Nat} (h : steadyWord x = true) : x ∉ eventRegs := fun he => by
  have : ∀ y ∈ eventRegs, plainWord y = true := by decide
  exact plainWord_ne (this x he) h rfl

theorem srcErr_not_event (n : Fin 4) : srcBase n + 0x1F0 ∉ eventRegs := by decide +revert

theorem srcErr_congr {s t : State} {n : Fin 4} (h : t.get (srcBase n + 0x1F0) = s.get (srcBase n + 0x1F0)) :
    t.srcErr n = s.srcErr n := by rw [srcErr, srcErr, h]

/-- An error of a block is recorded in its error word. -/
theorem errHit_bit (s : State) (base code : Nat) : bit ((s.errHit base code).get (base + 0x1F0)) 31 = true := by
  unfold errHit
  dsimp only
  split
  · next h =>
    rw [get_put_ne _ _ (by omega), get_put_self, bit_mod (by decide), bit_setBit_ne _ _ (by decide), h]
  · rw [get_put_ne _ _ (by omega), get_put_self, bit_mod (by decide), bit_setBit_self]

end State

namespace State.Steady

variable {s t u : State}

theorem refl (s : State) : s.Steady s :=
  ⟨rfl, rfl, fun _ _ => rfl, fun _ => id, fun _ => rfl, rfl, rfl, fun _ => rfl, fun _ => id, fun _ => id⟩

theorem trans (h : s.Steady t) (k : t.Steady u) : s.Steady u :=
  ⟨k.dram.trans h.dram, k.tb.trans h.tb, fun a ha => (k.word a ha).trans (h.word a ha), fun n => k.err n ∘ h.err n,
    fun p => (k.seqs p).trans (h.seqs p), k.pwrLow.trans h.pwrLow, k.park.trans h.park,
    fun n => (k.capOk n).trans (h.capOk n), fun n => k.parkSet n ∘ h.parkSet n, fun n => k.dark n ∘ h.dark n⟩

theorem mode (h : s.Steady t) : t.mode = s.mode := rd_congr (h.word _ (by decide))

theorem nodeType (h : s.Steady t) (n : Fin 4) : t.nodeType n = s.nodeType n := by
  unfold State.nodeType State.cap
  rw [h.capOk n, h.word _ (by clear * -; decide +revert)]

/-- Name an intermediate result. -/
theorem bind (h : s.Steady t) (k : s.Steady t → s.Steady u) : s.Steady u := k h
theorem ite {c : Prop} {_ : Decidable c} (h : s.Steady t) (k : s.Steady u) : s.Steady (if c then t else u) := by
  split
  · exact h
  · exact k
/-- A loop, over elements that a property `hl` is known of. -/
theorem foldlMem {α : Type} {l : List α} {f : State → α → State} {P : α → Prop} (h : s.Steady t) (hl : ∀ x ∈ l, P x)
    (k : ∀ u x, P x → s.Steady u → s.Steady (f u x)) : s.Steady (l.foldl f t) := by
  induction l generalizing t with
  | nil => exact h
  | cons x l ih => exact ih (k t x (hl x (.head _)) h) fun y hy => hl y (.tail _ hy)
theorem foldl {α : Type} {l : List α} {f : State → α → State} (h : s.Steady t)
    (k : ∀ u x, s.Steady u → s.Steady (f u x)) : s.Steady (l.foldl f t) :=
  h.foldlMem (P := fun _ => True) (fun _ _ => trivial) fun u x _ => k u x

/-! ### Ops -/

theorem put (h : s.Steady t) {a v : Nat} (ha : plainWord a = true := by clear * -; decide +revert) : s.Steady (t.put a v) :=
  h.trans ⟨rfl, rfl, fun _ hx => get_put_ne _ _ (plainWord_ne ha hx),
    fun n he => (srcErr_congr (get_put_ne _ _ (plainWord_ne_srcErr ha n))).trans he,
    fun _ => rfl, rfl, rfl, fun _ => rfl, fun _ => id, fun _ => id⟩
theorem wr (h : s.Steady t) {f : Fld} {v : Nat} (ha : plainWord f.addr = true := by clear * -; decide +revert) :
    s.Steady (t.wr f v) := h.put ha
theorem wrB (h : s.Steady t) {f : Fld} {b : Bool} (ha : plainWord f.addr = true := by clear * -; decide +revert) :
    s.Steady (t.wrB f b) := h.put ha
theorem incSat (h : s.Steady t) {f : Fld} (ha : plainWord f.addr = true := by clear * -; decide +revert) :
    s.Steady (t.incSat f) := h.put ha
theorem incWrap (h : s.Steady t) {f : Fld} (ha : plainWord f.addr = true := by clear * -; decide +revert) :
    s.Steady (t.incWrap f) := h.put ha
theorem modMbx (h : s.Steady t) {f : Mbx → Mbx} (hf : (f t.mbx).ports = t.mbx.ports := by exact rfl) :
    s.Steady (t.modMbx f) :=
  h.trans ⟨rfl, rfl, fun _ _ => rfl, fun _ => id, fun p => by simp [port, State.modMbx, hf], rfl, rfl, fun _ => rfl,
    fun _ => id, fun _ => id⟩
theorem modSys (h : s.Steady t) {f : Sys → Sys} (hp : (f t.sys).pwrLow = t.sys.pwrLow := by exact rfl)
    (hk : (f t.sys).park = t.sys.park := by exact rfl) : s.Steady (t.modSys f) :=
  h.trans ⟨rfl, rfl, fun _ _ => rfl, fun _ => id, fun _ => rfl, hp, hk, fun _ => rfl, fun _ => id, fun _ => id⟩
theorem modAon (h : s.Steady t) {f : Aon → Aon} : s.Steady (t.modAon f) :=
  h.trans ⟨rfl, rfl, fun _ _ => rfl, fun _ => id, fun _ => rfl, rfl, rfl, fun _ => rfl, fun _ => id, fun _ => id⟩
theorem modPins (h : s.Steady t) {f : Pins → Pins} : s.Steady (t.modPins f) :=
  h.trans ⟨rfl, rfl, fun _ _ => rfl, fun _ => id, fun _ => rfl, rfl, rfl, fun _ => rfl, fun _ => id, fun _ => id⟩
theorem modCal (h : s.Steady t) {f : CalState → CalState} : s.Steady (t.modCal f) :=
  h.trans ⟨rfl, rfl, fun _ _ => rfl, fun _ => id, fun _ => rfl, rfl, rfl, fun _ => rfl, fun _ => id, fun _ => id⟩
theorem modFw (h : s.Steady t) {f : Fw → Fw} : s.Steady (t.modFw f) :=
  h.trans ⟨rfl, rfl, fun _ _ => rfl, fun _ => id, fun _ => rfl, rfl, rfl, fun _ => rfl, fun _ => id, fun _ => id⟩
theorem modEvr (h : s.Steady t) {f : Evr → Evr} : s.Steady (t.modEvr f) :=
  h.trans ⟨rfl, rfl, fun _ _ => rfl, fun _ => id, fun _ => rfl, rfl, rfl, fun _ => rfl, fun _ => id, fun _ => id⟩
theorem setComp (h : s.Steady t) {r : RegFile} : s.Steady (t.setComp r) :=
  h.trans ⟨rfl, rfl, fun _ _ => rfl, fun _ => id, fun _ => rfl, rfl, rfl, fun _ => rfl, fun _ => id, fun _ => id⟩
theorem setStrm (h : s.Steady t) {r : RegFile} : s.Steady (t.setStrm r) :=
  h.trans ⟨rfl, rfl, fun _ _ => rfl, fun _ => id, fun _ => rfl, rfl, rfl, fun _ => rfl, fun _ => id, fun _ => id⟩
theorem setActv (h : s.Steady t) {r : RegFile} : s.Steady (t.setActv r) :=
  h.trans ⟨rfl, rfl, fun _ _ => rfl, fun _ => id, fun _ => rfl, rfl, rfl, fun _ => rfl, fun _ => id, fun _ => id⟩
theorem setFree (h : s.Steady t) {k : Nat} : s.Steady (t.setFree k) :=
  h.trans ⟨rfl, rfl, fun _ _ => rfl, fun _ => id, fun _ => rfl, rfl, rfl, fun _ => rfl, fun _ => id, fun _ => id⟩
theorem stamped (h : s.Steady t) : s.Steady t.stamped := h.modEvr.setFree
theorem modCh (h : s.Steady t) {n : Fin 4} {f : Lec → Lec}
    (hf : (t.ch n).Steady (f (t.ch n)) := by exact ⟨rfl, id, id⟩) : s.Steady (t.modCh n f) := by
  have hch : ∀ m, (t.ch m).Steady ((t.modCh n f).ch m) := fun m => by
    by_cases hm : m = n
    · subst hm
      rwa [ch_modCh]
    · rw [ch_modCh_ne _ _ hm]
      exact ⟨rfl, id, id⟩
  exact h.trans ⟨rfl, rfl, fun _ _ => rfl, fun _ => id, fun _ => rfl, rfl, rfl, fun m => (hch m).capOk,
    fun m => (hch m).parkSet, fun m => (hch m).dark⟩
theorem logEvent (h : s.Steady t) {code sev a b : Nat} : s.Steady (t.logEvent code sev a b) :=
  h.trans ⟨logEvent_dram .., logEvent_tb .., fun _ hx => logEvent_get _ _ _ _ _ (steady_not_event hx),
    fun n he => (srcErr_congr (logEvent_get _ _ _ _ _ (srcErr_not_event n))).trans he, fun _ => by simp, by simp, by simp,
    fun _ => by simp, fun _ => by simp, fun _ => by simp⟩
/-- An error of a block changes its error words, and records an error of a source at most. -/
theorem errHit (h : s.Steady t) {base code : Nat} (h0 : steadyWord (base + 0x1F0) = false := by clear * -; decide +revert)
    (h1 : plainWord (base + 0x1F4) = true := by clear * -; decide +revert) : s.Steady (t.errHit base code) := by
  refine h.trans ⟨by simp, by simp, fun x hx => errHit_get _ _ _ ?_ (plainWord_ne h1 hx), fun n he => ?_, fun _ => by simp,
    by simp, by simp, fun _ => by simp, fun _ => by simp, fun _ => by simp⟩
  · rintro rfl
    exact absurd hx (by simp [h0])
  · by_cases hn : srcBase n + 0x1F0 = base + 0x1F0
    · rw [srcErr, hn]
      exact errHit_bit _ _ _
    · exact (srcErr_congr (errHit_get _ _ _ hn (plainWord_ne_srcErr h1 n))).trans he
theorem errEvent (h : s.Steady t) {base code sev a b : Nat}
    (h0 : steadyWord (base + 0x1F0) = false := by clear * -; decide +revert)
    (h1 : plainWord (base + 0x1F4) = true := by clear * -; decide +revert) : s.Steady (t.errEvent base code sev a b) :=
  (h.errHit h0 h1).logEvent
theorem forMask (h : s.Steady t) {mask : Nat} {f : State → Fin 4 → State}
    (k : ∀ u n, s.Steady u → s.Steady (f u n)) : s.Steady (t.forMask mask f) := h.foldl fun _ _ h => .ite (k _ _ h) h

end State.Steady
end Sys2Proof.Machine
end

section
/-! SUPPORT. `State.Steady` through the operations of the model, one lemma for each, in the order of the model's files. -/

-- Many small proofs: one after another they hold few threads.
set_option Elab.async false

namespace Sys2Proof.Machine
namespace State.Steady
variable {s t u : State}

/-! ### Clocks, notifications, register writes -/

theorem setPll (h : s.Steady t) {i : Nat} {on lock : Bool} : s.Steady (t.setPll i on lock) := h.wr.wr
theorem setClk (h : s.Steady t) {d : Nat} {on : Bool} : s.Steady (t.setClk d on) := by
  unfold State.setClk
  split
  · exact h
  · next hd =>
    have hen : plainWord (R.SYS_CLKENk (d / 32)) = true :=
      plainWord_of_low (by unfold R.SYS_CLKENk; omega) (by unfold R.SYS_CLKENk; omega)
    have hgood : plainWord (R.SYS_CLKGOODk (d / 32)) = true :=
      plainWord_of_low (by unfold R.SYS_CLKGOODk; omega) (by unfold R.SYS_CLKGOODk; omega)
    exact ((ite h.modSys h).put hen).bind fun h => ite (by
      split
      · exact ite h h.setPll
      · exact h) (h.put hgood)
theorem setClks (h : s.Steady t) {lo hi : Nat} {on : Bool} : s.Steady (t.setClks lo hi on) := h.foldl fun _ _ h => h.setClk
theorem linkClk (h : s.Steady t) {n : Fin 4} {on : Bool} : s.Steady (t.linkClk n on) := h.setClks.modPins
theorem csiClk (h : s.Steady t) {rx : Fin 2} {on : Bool} : s.Steady (t.csiClk rx on) := h.setClks.modPins
theorem modPort (h : s.Steady t) {p : Fin 3} {f : Port → Port} (hf : (f (t.port p)).seqs = (t.port p).seqs := by exact rfl) :
    s.Steady (t.modPort p f) :=
  h.trans ⟨by simp, by simp, fun _ _ => by simp, fun n he => (srcErr_congr (by simp)).trans he, fun q => by
    by_cases hq : q = p
    · subst hq
      rw [port_modPort, hf]
    · rw [port_modPort_ne _ _ hq], by simp, by simp, fun _ => by simp, fun _ => by simp, fun _ => by simp⟩
theorem notify (h : s.Steady t) {p : Fin 3} {op : Nat} {payload : List Byte} : s.Steady (t.notify p op payload) :=
  ite h.modPort (h.modPort.bind fun h => ite h h.errEvent)
theorem done (h : s.Steady t) {g : Tag} {st detail : Nat} : s.Steady (t.done g st detail) := ite h.notify h
theorem doneOpt (h : s.Steady t) {g : Option Tag} {st detail : Nat} : s.Steady (t.doneOpt g st detail) := by
  unfold State.doneOpt
  split
  · exact h
  · exact h.done
theorem report0108 (h : s.Steady t) {a : Nat} (h0 : plainWord (errBaseOf a + 0x1F0) = true := by clear * -; decide +revert)
    (h1 : plainWord (errBaseOf a + 0x1F4) = true := by clear * -; decide +revert) : s.Steady (t.report0108 a) := by
  unfold State.report0108
  split
  · exact h
  · exact ((h.errHit (plainWord_iff.mp h0).1 h1).put h0).logEvent
theorem plainWrite (h : s.Steady t) {a v : Nat} (ha : plainWord a = true := by clear * -; decide +revert)
    (h0 : plainWord (errBaseOf a + 0x1F0) = true := by clear * -; decide +revert)
    (h1 : plainWord (errBaseOf a + 0x1F4) = true := by clear * -; decide +revert) : s.Steady (t.plainWrite a v) := by
  unfold State.plainWrite
  split
  · exact h
  · exact (h.put ha).bind fun h => ite (h.report0108 h0 h1) h
theorem csiEnable (h : s.Steady t) : s.Steady t.csiEnable := h.foldl fun _ _ h => ite h.wr.wr.csiClk (ite h.wr.csiClk h)

/-! ### Links, masks, sources, chains -/

theorem modLink (h : s.Steady t) {n : Fin 4} {f : LinkRun → LinkRun}
    (hf : (f (t.ch n).link).capOk = (t.ch n).link.capOk := by exact rfl) : s.Steady (t.modLink n f) := h.modCh ⟨hf, id, id⟩
theorem modMask (h : s.Steady t) {n : Fin 4} {f : MaskRun → MaskRun} : s.Steady (t.modMask n f) := h.modCh
theorem modSrc (h : s.Steady t) {n : Fin 4} {f : SrcRun → SrcRun}
    (hf : (t.ch n).src.parkSet = true → (f (t.ch n).src).parkSet = true := by exact id) : s.Steady (t.modSrc n f) :=
  h.modCh ⟨rfl, hf, id⟩
theorem modChn (h : s.Steady t) {n : Fin 4} {f : ChnRun → ChnRun} : s.Steady (t.modChn n f) := h.modCh
theorem modTut (h : s.Steady t) {n : Fin 4} {f : TutRun → TutRun} : s.Steady (t.modTut n f) := h.modCh
theorem modBpf (h : s.Steady t) {n : Fin 4} {f : BpfRun → BpfRun} : s.Steady (t.modBpf n f) := h.modCh
theorem modCtx (h : s.Steady t) {n c : Fin 4} {f : CtxRun → CtxRun} : s.Steady (t.modCtx n c f) := h.modTut
theorem modLay (h : s.Steady t) {n x : Fin 4} {f : LayerRun → LayerRun} : s.Steady (t.modLay n x f) := h.modCh
theorem send (h : s.Steady t) {n : Fin 4} {typ : Nat} {payload : List Byte} : s.Steady (t.send n typ payload) :=
  ite h h.modLink
theorem mgmt (h : s.Steady t) {n : Fin 4} {cmd : Nat} {args : List Byte} : s.Steady (t.mgmt n cmd args) := h.send
theorem mskStatus (h : s.Steady t) {n : Fin 4} : s.Steady (t.mskStatus n) := h.wr.wrB
theorem sendHard (h : s.Steady t) {n : Fin 4} {k : Nat} : s.Steady (t.sendHard n k) :=
  ite h (ite h.send.incSat.modMask h.modMask)

/-- A word of the sub-blocks FETCH to MSK of a channel (R15). -/
theorem plainWord_window {n : Fin 4} {a : Nat} (hlo : lecBase n ≤ a) (hhi : a < lecBase n + 0xE000) : plainWord a = true := by
  have hn := n.isLt
  unfold lecBase at hlo hhi
  simp [plainWord, steadyWord, srcErrWord]
  omega

theorem hardChanged (h : s.Steady t) {n : Fin 4} {k cause : Nat} (hk : k < 64) : s.Steady (t.hardChanged n k cause) :=
  (h.incWrap (plainWord_window (n := n) (by simp [F.MSK_HSs_GEN, R.MSK_HSs]; omega)
    (by simp [F.MSK_HSs_GEN, R.MSK_HSs]; omega))).wr.wr.wr.modMask.sendHard.mskStatus
theorem hardEmpty (h : s.Steady t) {n : Fin 4} {k cause : Nat} (hk : k < 64) : s.Steady (t.hardEmpty n k cause) := by
  have hlive : plainWord (R.MSK_HSs n k) = true :=
    plainWord_window (n := n) (by unfold R.MSK_HSs; omega) (by unfold R.MSK_HSs; omega)
  have hremain : plainWord (R.MSK_HRs n k) = true :=
    plainWord_window (n := n) (by unfold R.MSK_HRs; omega) (by unfold R.MSK_HRs; omega)
  exact (((h.wr hlive).wr hremain).foldlMem (P := (· < 4)) (by decide) fun _ w hw h =>
    h.put (plainWord_window (n := n) (by unfold R.MSK_HMs; omega) (by unfold R.MSK_HMs; omega))).hardChanged hk
theorem softClear (h : s.Steady t) {n : Fin 4} {k : Nat} (hk : k < 64) : s.Steady (t.softSet n ⟨k, none⟩) := by
  unfold State.softSet
  exact (h.foldlMem (P := (· < 4)) (by decide) fun _ w hw h =>
    h.put (plainWord_window (n := n) (by dsimp only [R.CMP_SMs]; omega) (by dsimp only [R.CMP_SMs]; omega))).modMask
theorem maskLatch (h : s.Steady t) {n : Fin 4} : s.Steady (t.maskLatch n) := by
  unfold State.maskLatch
  exact h.modMask
theorem maskStop (h : s.Steady t) {n : Fin 4} : s.Steady (t.maskStop n) := by
  have slots : ∀ (p : Nat → Bool), ∀ k ∈ (List.range 64).filter p, k < 64 := fun p k hk =>
    List.mem_range.mp (List.mem_of_mem_filter hk)
  exact ((h.foldlMem (slots _) fun _ _ hk h => h.hardEmpty hk).foldlMem (slots _) fun _ _ hk h =>
    h.softClear hk).modMask.wr.wr.logEvent
theorem blockEvent (h : s.Steady t) {base code sev a b : Nat}
    (h0 : steadyWord (base + 0x1F0) = false := by clear * -; decide +revert)
    (h1 : plainWord (base + 0x1F4) = true := by clear * -; decide +revert) : s.Steady (t.blockEvent base code sev a b) :=
  ite (h.errEvent h0 h1) h.logEvent
theorem setLampEn (h : s.Steady t) {n : Fin 4} {high : Bool} : s.Steady (t.setLampEn n high) :=
  (ite h h.modPins).wrB.wrB
theorem lampUpdate (h : s.Steady t) {n : Fin 4} : s.Steady (t.lampUpdate n) := h.setLampEn
theorem chnOe (h : s.Steady t) {n : Fin 4} : s.Steady (t.chnOe n) := h.modPins.wrB
theorem sendAmp (h : s.Steady t) {n : Fin 4} {words : List Nat} {gen k : Nat} : s.Steady (t.sendAmp n words gen k) := h.send
theorem ampTransfer (h : s.Steady t) {n : Fin 4} : s.Steady (t.ampTransfer n) :=
  ite h (h.modSrc.foldl fun _ _ h => h.sendAmp)
theorem setF (h : s.Steady t) {n : Fin 4} {f : Nat} : s.Steady (t.setF n f) :=
  h.modSrc.wrB.bind fun h => ite h.blockEvent (ite h.blockEvent h)
theorem lawUpdate (h : s.Steady t) {n : Fin 4} {was : Bool} : s.Steady (t.lawUpdate n was) :=
  h.wrB.bind fun h => ite h (ite h h.setF).modSrc.wr
theorem chnSync (h : s.Steady t) {n : Fin 4} : s.Steady (t.chnSync n) := (ite h.wr h.wr.wr.wr.modChn).chnOe

/-! ### Tutor -/

theorem setX (h : s.Steady t) {n c : Fin 4} {i : Nat} {v : Int} (hi : i < 16) : s.Steady (t.setX n c i v) := by
  have hlo : plainWord (R.TUT_CTXc_Xi_LO n c.val i) = true := by clear h; decide +revert
  have hhi : plainWord (R.TUT_CTXc_Xi_HI n c.val i) = true := by clear h; decide +revert
  exact (h.put hlo).put hhi
theorem alignUpdate (h : s.Steady t) {n c : Fin 4} : s.Steady (t.alignUpdate n c) := h.wrB.wr
theorem ctxRunning (h : s.Steady t) {n c : Fin 4} {b : Bool} : s.Steady (t.ctxRunning n c b) := h.wrB.wrB.wr
theorem juncClear (h : s.Steady t) {n c : Fin 4} : s.Steady (t.juncClear n c) := h.modTut
theorem ctxEnable (h : s.Steady t) {n c : Fin 4} : s.Steady (t.ctxEnable n c) := by
  have hsat : ∀ f ∈ [F.TUT_SAT_OUT_SAT n, F.TUT_SAT_ROUTE_SAT n, F.TUT_SAT_STATE_SAT n, F.TUT_SAT_INNOV n],
      plainWord f.addr = true := by clear h; decide +revert
  exact (((h.foldlMem (fun i hi => List.mem_range.mp hi) fun _ _ hi h => h.setX hi).wr.wr.foldlMem hsat fun _ _ hf h =>
    h.wr hf)).wr.modCtx.juncClear.alignUpdate.ctxRunning
theorem ctxDisable (h : s.Steady t) {n c : Fin 4} : s.Steady (t.ctxDisable n c) := h.juncClear.modCtx.ctxRunning
theorem tutorAllOff (h : s.Steady t) {keep : Bool} : s.Steady (t.tutorAllOff keep) :=
  h.foldl fun _ _ h₂ => h₂.foldl fun _ _ h₁ => (ite h₁.modCtx h₁).bind fun h => ite h.ctxDisable h
theorem tutorBack (h : s.Steady t) : s.Steady t.tutorBack :=
  h.foldl fun _ _ h₁ => h₁.foldl fun _ _ h => ite h.modCtx.ctxEnable h

/-! ### Composition, bit-planes, link operations -/

theorem patternCheck (h : s.Steady t) {n : Fin 4} {size : Option (Nat × Nat)} : s.Steady (t.patternCheck n size) := h.wrB
theorem fetchStatus (h : s.Steady t) {n : Fin 4} : s.Steady (t.fetchStatus n) := h.wr.wr.wr.wr
theorem workLoad (h : s.Steady t) {n : Fin 4} : s.Steady (t.workLoad n) := by
  unfold State.workLoad
  exact (h.foldl fun _ _ h => ite h.wr h).modCh
theorem layersFresh (h : s.Steady t) {n : Fin 4} : s.Steady (t.layersFresh n) := h.foldl fun _ _ h => h.wr.wr
theorem layersIdle (h : s.Steady t) {n : Fin 4} : s.Steady (t.layersIdle n) :=
  (h.layersFresh.foldl fun _ _ h => h.modLay).fetchStatus.wr
theorem replayStop (h : s.Steady t) {n : Fin 4} {cause : Nat} : s.Steady (t.replayStop n cause) := ite h.send.modBpf h
theorem replayQuit (h : s.Steady t) {n : Fin 4} {cause : Nat} : s.Steady (t.replayQuit n cause) :=
  h.replayStop.modBpf.bind fun h₁ => (ite h₁.wr h₁).bind fun h => ite h.logEvent h
theorem setNeg (h : s.Steady t) {n : Fin 4} {g : Option Neg} : s.Steady (t.setNeg n g) := h.modLink
theorem linkTiming (h : s.Steady t) {n : Fin 4} : s.Steady (t.linkTiming n) := h.wr.wr
theorem setLinkMode (h : s.Steady t) {n : Fin 4} {lanes rate back : Nat} : s.Steady (t.setLinkMode n lanes rate back) :=
  h.wr.wr.wr.linkTiming
theorem negDone (h : s.Steady t) {n : Fin 4} {st detail : Nat} : s.Steady (t.negDone n st detail) := by
  unfold State.negDone
  split
  · exact h.setNeg.doneOpt
  · exact h
theorem sendTrain (h : s.Steady t) {n : Fin 4} {cmd : Nat} {g : Neg} {phase : Nat} :
    s.Steady (t.sendTrain n cmd g phase) := h.mgmt
theorem retrainBegin (h : s.Steady t) {n : Fin 4} {g : Neg} : s.Steady (t.retrainBegin n g) :=
  h.replayStop.wr.sendTrain.incSat.setNeg.bind fun h₁ =>
    ite ((h₁.modCh ⟨rfl, id, fun _ => rfl⟩).bind fun h => ite h h.wr) h₁
theorem retrain (h : s.Steady t) {n : Fin 4} {lanes rate back cause : Nat} {tag : Option Tag} :
    s.Steady (t.retrain n lanes rate back cause tag) :=
  ite (h.linkClk.bind fun h => ite h.retrainBegin h.setNeg) (ite h.setNeg h.retrainBegin)
theorem linkOff (h : s.Steady t) {n : Fin 4} {bye : Bool} : s.Steady (t.linkOff n bye) := by
  unfold State.linkOff
  exact (ite h.mgmt h).negDone.linkClk.put.setLinkMode.modLink

/-! ### Frame timing -/

theorem toStream (h : s.Steady t) {n : Fin 4} : s.Steady (t.toStream n) := h.setStrm.modCh
theorem ringsTrim (h : s.Steady t) : s.Steady t.ringsTrim := h.modFw.csiEnable
theorem setLocked (h : s.Steady t) {n : Fin 4} {b : Bool} : s.Steady (t.setLocked n b) := h.wr.wrB
theorem flJoin (h : s.Steady t) : s.Steady t.flJoin :=
  ite h (h.foldl fun _ _ h₁ => ite ((h₁.modCh ⟨rfl, id, fun _ => rfl⟩).bind fun h => ite h h.wr) h₁)
theorem flApply (h : s.Steady t) : s.Steady t.flApply :=
  h.setActv.modSys.bind fun h₂ => ((ite h₂.wr.modSys h₂).foldl fun _ _ h₁ => (ite h₁.setLocked.logEvent
    (ite h₁.setLocked h₁)).bind fun h => ite h h.modCh).flJoin
theorem flWrite (h : s.Steady t) {v : Nat} : s.Steady (t.flWrite v) :=
  h.plainWrite.bind fun h₁ => (ite h₁ h₁.wr).bind fun h => ite h.modSys h.flApply
theorem flFrom (h : s.Steady t) {n : Fin 4} : s.Steady (t.flFrom n) := by
  unfold State.flFrom
  split
  · exact h
  · exact ite h h.flWrite
theorem commitsDone (h : s.Steady t) : s.Steady t.commitsDone := h.modFw.foldl fun _ _ h => h.doneOpt
theorem commitTick (h : s.Steady t) {n : Fin 4} {stopped : Bool} : s.Steady (t.commitTick n stopped) := h.modFw.commitsDone
theorem rasterStart (h : s.Steady t) {n : Fin 4} : s.Steady (t.rasterStart n) := h.wr.wr.modCh.lampUpdate.flJoin
theorem tryStart (h : s.Steady t) {n : Fin 4} : s.Steady (t.tryStart n) := ite (ite h.rasterStart h.modCh) h.modCh
theorem relit (h : s.Steady t) {n : Fin 4} : s.Steady (t.relit n) := ite h.modLink h
theorem moveAll (h : s.Steady t) {n : Fin 4} {bank : RegFile} {cfg : Option Cfg} {commit : Bool} :
    s.Steady (t.moveAll n bank cfg commit) := by
  unfold State.moveAll
  extract_lets was old cfgOld s₁ s₂ s₃ s₄ s₅ s₆ s₇ s₈
  have h₄ : s.Steady s₄ := h.setComp.ampTransfer.modCh.workLoad.toStream.modCh.lawUpdate
  have h₅ : s.Steady s₅ := ite h₄.modTut h₄
  have h₆ : s.Steady s₆ := by
    unfold s₆
    split
    · exact h₅.wr
    · exact h₅
  have h₇ : s.Steady s₇ := h₆.patternCheck.linkTiming
  exact (ite h₇.relit h₇).ringsTrim.flFrom
theorem speedEnd (h : s.Steady t) : s.Steady t.speedEnd := by
  unfold State.speedEnd
  split
  · exact ite (h.modSys.foldl fun _ _ h => h.wr.chnSync) h
  · exact h
theorem noAwait (h : s.Steady t) {n : Fin 4} : s.Steady (t.noAwait n) := h.modSys.speedEnd
theorem groupEnd (h : s.Steady t) : s.Steady t.groupEnd :=
  h.foldl fun _ _ h₁ => (ite h₁.setLocked h₁).bind fun h => ite h.modCh h
theorem channelStop (h : s.Steady t) {n : Fin 4} : s.Steady (t.channelStop n) :=
  (ite h.maskLatch.moveAll (ite h.moveAll h.moveAll)).wr.wr.put.setLocked.bind fun h₂ =>
    ((ite h₂ h₂.replayQuit).modCh ⟨rfl, id, fun _ => rfl⟩).wr.layersIdle.maskStop.lampUpdate.bind fun h₁ =>
    (ite h₁.groupEnd h₁).bind fun h => (ite h.flApply h).noAwait.commitTick
theorem runWrite (h : s.Steady t) {n : Fin 4} {v : Nat} : s.Steady (t.runWrite n v) := h.plainWrite.tryStart
theorem runAll (h : s.Steady t) {mask : Nat} : s.Steady (t.runAll mask) := h.forMask fun _ _ h => ite h.runWrite h

/-! ### Grants, calibration, power -/

theorem grantStatus (h : s.Steady t) : s.Steady t.grantStatus := h.wr.wr.wrB
theorem endGrant (h : s.Steady t) {g : Grant} {reason : Nat} : s.Steady (t.endGrant g reason) :=
  h.modMbx.grantStatus.logEvent.notify
theorem endGrants (h : s.Steady t) {reason : Nat} : s.Steady (t.endGrants reason) := h.foldl fun _ _ h => h.endGrant
theorem calStatus (h : s.Steady t) : s.Steady t.calStatus := by
  unfold State.calStatus
  split
  · exact h.put
  · have hp : plainWord R.CAL_STATUS = true := by decide
    exact ((((((((h.put hp).wr hp).wr hp).wr hp).wr hp).wr hp).wr hp).wr hp).wr hp
theorem setRun (h : s.Steady t) {r : Option CalRun} : s.Steady (t.setRun r) := h.modCal.calStatus
theorem calLoop (h : s.Steady t) {i : Nat} {b : Bool} : s.Steady (t.calLoop i b) := by
  unfold State.calLoop
  generalize calLink i = n
  exact ite h.wrB.mgmt h
theorem calNext (h : s.Steady t) : s.Steady t.calNext := by
  unfold State.calNext
  exact ite h (by
    extract_lets
    split
    · exact h.calLoop.setRun
    · exact ite h (by
        split
        · exact h.calLoop.setRun
        · exact h))
theorem calAbandon (h : s.Steady t) : s.Steady t.calAbandon := h.modCal.setRun.wr
theorem calRestart (h : s.Steady t) : s.Steady t.calRestart := by
  unfold State.calRestart
  split
  · exact h.setRun
  · exact h
theorem calQueue (h : s.Steady t) {mask : Nat} : s.Steady (t.calQueue mask) := h.wr.wr
theorem calPass (h : s.Steady t) : s.Steady t.calPass := h.modCal.calQueue.calNext
theorem speedStart (h : s.Steady t) {target : Nat} : s.Steady (t.speedStart target) := by
  unfold State.speedStart
  exact ((h.forMask fun _ _ h => h.wr).foldl fun _ _ h => h.wr.chnSync).modSys
theorem modePins (h : s.Steady t) : s.Steady t.modePins := h.foldl fun _ _ h => h.lampUpdate.wrB.chnSync
theorem stopNow (h : s.Steady t) {mask : Nat} : s.Steady (t.stopNow mask) :=
  h.forMask fun _ _ h₁ => h₁.wr.bind fun h => ite h.channelStop h

end State.Steady
end Sys2Proof.Machine
end

section
/-! SUPPORT. Transitions (R39–R42): how one begins, and the answers of SET_MODE (R119). -/

set_option Elab.async false

namespace Sys2Proof.Machine
open State
namespace State

/-! ### The begin of a transition -/

/-- What follows the showing of a transition that begins is steady. -/
theorem transitStart_steady (s : State) (target prof : Nat) (tag : Option Tag) : ∃ g : Transit,
    ((s.modSys fun y => { y with transit := some g }).showTransit true target).Steady (s.transitStart target prof tag) := by
  unfold transitStart
  extract_lets old sp move frames g s₀ s₁ s₂ s₃ s₄ s₅ s₆ s₇ s₈ s₉
  refine ⟨g, ?_⟩
  have h₁ : s₀.Steady s₁ := .ite ((Steady.refl _).foldl fun _ _ h => .ite h.modSrc h) (Steady.refl _)
  have h₂ : s₀.Steady s₂ := .ite (h₁.forMask fun _ _ h => h.wr) h₁
  have h₃ : s₀.Steady s₃ :=
    .ite (h₂.forMask fun _ _ h₁ => (Steady.ite h₁.runWrite h₁).bind fun h => .ite h.retrain h) h₂
  have h₄ : s₀.Steady s₄ := .ite h₃.speedStart h₃
  have h₅ : s₀.Steady s₅ := .ite (h₄.foldl fun _ _ h => h.replayStop) h₄
  have h₆ : s₀.Steady s₆ := .ite h₅.tutorAllOff.stopNow.calPass h₅
  have h₈ : s₀.Steady s₈ :=
    h₆.calAbandon.tutorAllOff.stopNow.foldl fun _ _ h => h.wr.chnSync.linkOff
  have h₉ : s₀.Steady s₉ := .ite h₈.modAon h₆
  exact h₉.modePins

theorem showTransit_mode (s : State) (on : Bool) (target : Nat) : (s.showTransit on target).mode = s.mode := by
  rw [mode, showTransit, rd_wr_apart _ _ (by decide), rd_wrB_apart _ _ (by decide), mode]

/-- A transition that begins is shown by TRANSIT and TARGET, and the mode is still the old one. -/
theorem transitStart_shows (s : State) {target : Nat} (ht : target < 16) (prof : Nat) (tag : Option Tag) :
    (s.transitStart target prof tag).on F.SYS_MODE_TRANSIT = true ∧
    (s.transitStart target prof tag).rd F.SYS_MODE_TARGET = target ∧
    (s.transitStart target prof tag).mode = s.mode ∧ (s.transitStart target prof tag).dram = s.dram ∧
    ∀ p, ((s.transitStart target prof tag).port p).seqs = (s.port p).seqs := by
  obtain ⟨g, h⟩ := transitStart_steady s target prof tag
  have hrd : ∀ f : Fld, f.addr = R.SYS_MODE → (s.transitStart target prof tag).rd f =
      ((s.modSys fun y => { y with transit := some g }).showTransit true target).rd f := fun f hf =>
    rd_congr (hf ▸ h.word _ (by decide))
  refine ⟨?_, ?_, ?_, h.dram, h.seqs⟩
  · rw [on_congr (hrd _ rfl)]
    unfold showTransit
    rw [on_wr_apart _ _ (by decide), on_wrB _ _ (by decide) rfl]
  · rw [hrd _ rfl]
    unfold showTransit
    rw [rd_wr _ _ (by decide)]
    exact Nat.mod_eq_of_lt ht
  · exact (hrd _ rfl).trans (showTransit_mode ..)

/-! ### SET_MODE -/

/-- The payload of a plain SET_MODE. -/
def modePayload (target : Nat) : List Byte := leBytes 1 target ++ [0, 0, 0]

theorem mem_light {m : Nat} : m ∈ [4, 5, 6, 7, 8] ↔ 4 ≤ m ∧ m ≤ 8 := by
  simp only [List.mem_cons, List.not_mem_nil, or_false]
  omega

/-- The rows of the table of R39. -/
theorem mayMove_iff {a b : Nat} : mayMove a b = true ↔
    a = 3 ∧ (b ∈ [4, 5, 6, 7, 8] ∨ b ∈ [9, 10, 11, 1, 12]) ∨ a ∈ [4, 5, 6, 7, 8] ∧ (b ∈ [4, 5, 6, 7, 8] ∨ b ∈ [3, 11]) ∨
      a = 11 ∧ (b ∈ [4, 5, 6, 7, 8] ∨ b ∈ [3, 10, 1]) ∨ a = 9 ∧ b ∈ [3, 11] ∨ a = 10 ∧ b ∈ [3, 11, 12] := by
  simp only [mem_light]
  simp only [List.mem_cons, List.not_mem_nil, or_false]
  unfold mayMove
  split_ifs
  all_goals
    simp only [lightMode, modeREADY, modeDARKHOLD, modeCALIBRATE, modeSERVICE, modeSTANDBY, modeSCANTEST,
      Bool.or_eq_true, decide_eq_true_eq, beq_iff_eq, false_iff] at *
    omega

/-- What SET_MODE does for a target other than LIMP, without a profile. -/
theorem setModeCmd_plain (u : State) (g : Tag) {target : Nat} (ht : target < 256) (hl : target ≠ modeLIMP) :
    u.setModeCmd g (modePayload target) =
      if target = 0 ∨ 12 < target then refuse u stBAD_PARAM 0
      else if u.sys.pwrLow && target != modeSTANDBY then refuse u stWRONG_MODE 0
      else if !mayMove u.mode target && target != u.mode then refuse u stWRONG_MODE 0
      else if u.moving then refuse u stBUSY 0
      else if target = u.mode then ⟨u, stOK, 0, []⟩
      else u.modeGo target (u.rd F.SYS_MODE_PROFILE) g := by
  have h0 : byteAt (modePayload target) 0 = target := by
    simp [modePayload, leBytes, byteAt]
    omega
  have h1 : byteAt (modePayload target) 1 = 0 := by simp [modePayload, leBytes, byteAt]
  have h2 : le16 (modePayload target) 2 = 0 := by simp [modePayload, leBytes, byteAt, le16]
  have h3 : (modePayload target).length = 4 := rfl
  have h4 : (target == modeLIMP) = false := beq_false_of_ne hl
  simp only [setModeCmd, h0, h1, h2, h3, h4, hl]
  simp

/-- A handler that answers without touching the machine: a reply of that status. -/
theorem replies_closed (s : State) (p : Fin 3) (mb : Fin 6) {op : Nat} (flags seq : Nat) {st : Nat} (hop : op ≠ 1)
    (hst : st ≠ stDEFER) : s.replies (closed ⟨s.opened p mb seq, st, 0, []⟩ (tagOf p mb op flags seq)) p mb op seq st s.fw := by
  refine ⟨?_, mailOnly_refuse _ _ _ _ (.inl hop), by simp⟩
  simpa using answered_closed ⟨s.opened p mb seq, st, 0, []⟩ p mb op flags seq hst (opened_seqs s p mb seq)

/-- A transition that owes no check begins (R39, R54). -/
theorem modeGo_start (u : State) {target : Nat} (prof : Nat) (g : Tag) (hl : target ≠ modeLIMP) (hm : u.mode ≠ modeLIMP)
    (hs : target ≠ modeSCANTEST) (ho : u.sys.checkOwed = false) :
    u.modeGo target prof g = ⟨u.transitStart target prof (some g), stACCEPTED, 0, []⟩ := by
  simp [modeGo, hl, hm, hs, ho]

theorem data_ite {c : Prop} [Decidable c] {a b : Ans} (ha : a.data = []) (hb : b.data = []) : (if c then a else b).data = [] := by
  split
  · exact ha
  · exact hb

/-- Every answer of SET_MODE is without data. -/
theorem setModeCmd_data (u : State) (g : Tag) (pl : List Byte) : (u.setModeCmd g pl).data = [] := by
  have hgo : ∀ target prof, (u.modeGo target prof g).data = [] := fun _ _ =>
    data_ite rfl (data_ite rfl (data_ite rfl rfl))
  exact data_ite rfl (data_ite rfl (data_ite rfl (data_ite rfl (data_ite rfl (data_ite rfl (data_ite rfl (hgo _ _)))))))

@[simp] theorem opened_moving (s : State) (p : Fin 3) (mb : Fin 6) (q : Nat) : (s.opened p mb q).moving = s.moving := by
  simp [moving]

end State

/-- Settles O20: a plain SET_MODE is answered in the order of its checks, and the begin of the transition is steady. -/
theorem setModeRequests : Obligations.SetModeRequests := by
  intro p mb flags seq target s a ht hl hm light listed
  have hserve : exec (.setMode p mb) s =
      .next (closed ((s.opened p mb seq).setModeCmd (tagOf p mb 0x03 flags seq) (modePayload target))
        (tagOf p mb 0x03 flags seq)) := by
    change Host.Outcome.next _ = _
    rw [serve_ok a _ rfl _ rfl (by rw [setModeCmd_data]; exact a.max)]
    rfl
  have hlist : listed ↔ mayMove s.mode target = true := mayMove_iff.symm
  have reply : ∀ {st : Nat}, st ≠ stDEFER → (s.opened p mb seq).setModeCmd (tagOf p mb 0x03 flags seq) (modePayload target) =
      ⟨s.opened p mb seq, st, 0, []⟩ → s.replies (closed ((s.opened p mb seq).setModeCmd (tagOf p mb 0x03 flags seq)
        (modePayload target)) (tagOf p mb 0x03 flags seq)) p mb 0x03 seq st s.fw := fun hst h =>
    h ▸ replies_closed s p mb flags seq (by decide) hst
  have hcmd := setModeCmd_plain (s.opened p mb seq) (tagOf p mb 0x03 flags seq) ht hl
  simp only [opened_sys, opened_mode, opened_moving] at hcmd
  refine ⟨_, hserve, ?_, ?_, ?_⟩
  · intro h
    exact reply (by decide) (by rw [hcmd, if_pos h]; rfl)
  · intro h1 h12 hp h
    exact reply (by decide) (by rw [hcmd, if_neg (by omega), if_pos (by simp [hp, h, modeSTANDBY])]; rfl)
  · intro h1 h12 hp
    rw [if_neg (by omega), if_neg (by simp [hp])] at hcmd
    refine ⟨?_, ?_, ?_, ?_⟩
    · intro he hmv
      exact reply (by decide) (by rw [hcmd, if_neg (by simp [he]), if_neg (by simp [hmv]), if_pos he])
    · intro hne hno
      rw [hlist] at hno
      exact reply (by decide) (by rw [hcmd, if_pos (by simp [hne, hno])]; rfl)
    · intro hne hyes hmv
      rw [hlist] at hyes
      exact reply (by decide) (by rw [hcmd, if_neg (by simp [hyes]), if_pos hmv]; rfl)
    · intro hne hyes hmv hs ho
      rw [hlist] at hyes
      rw [if_neg (by simp [hyes]), if_neg (by simp [hmv]), if_neg hne,
        modeGo_start _ _ _ hl (by rwa [opened_mode]) hs (by simpa using ho)] at hcmd
      rw [hcmd]
      obtain ⟨htr, htg, hmode, hdram, hseq⟩ := transitStart_shows (s.opened p mb seq) (target := target) (by omega)
        ((s.opened p mb seq).rd F.SYS_MODE_PROFILE) (some (tagOf p mb 0x03 flags seq))
      have hrd : ∀ f : Fld, f.addr = R.SYS_MODE → ∀ v : Ans, (closed v (tagOf p mb 0x03 flags seq)).rd f = v.s.rd f :=
        fun f hf v => closed_rd _ _ (by rw [hf]; decide) (by rw [hf]; decide) (.inl (by rw [hf]; decide))
      refine ⟨?_, ?_, ?_, ?_, ?_⟩
      · simpa using answered_closed ⟨_, stACCEPTED, 0, []⟩ p mb 0x03 flags seq (show stACCEPTED ≠ stDEFER by decide)
          (by rw [hseq]; exact opened_seqs s p mb seq)
      · rw [on_congr (hrd _ rfl _), htr]
      · rw [hrd _ rfl, htg]
      · exact (hrd _ rfl _).trans (hmode.trans (opened_mode ..))
      · rw [closed_dram, hdram, opened_dram]

end Sys2Proof.Machine
end

section
/-! SUPPORT. The power warning and the park sequence (R43, R252, R253). -/

set_option Elab.async false

namespace Sys2Proof.Machine
namespace State

/-! ### Masks and loops over the channels -/

theorem bit_or (v w i : Nat) : bit (v ||| w) i = (bit v i || bit w i) := by
  have h : ∀ v, bit v i = v.testBit i := fun v => by
    rw [Nat.testBit_eq_decide_div_mod_eq, bit]
    rfl
  rw [h, h, h, Nat.testBit_or]

/-- The mask of the channels of a condition. -/
def chanMask (c : Fin 4 → Bool) : Nat := chans.foldl (fun m n => if c n then setBit m n.val true else m) 0

theorem parkOwes_eq (s : State) (k : Park) : s.parkOwes k = chanMask fun n =>
    bit k.mask n.val && s.nodeType n != 3 && !bit k.parked n.val && !bit k.late n.val := rfl

theorem bit_chanMask (c : Fin 4 → Bool) (n : Fin 4) : bit (chanMask c) n.val = c n := by
  have h : ∀ a b d e : Bool, bit (chanMask ![a, b, d, e]) n.val = ![a, b, d, e] n := by decide +revert
  have hc : ![c 0, c 1, c 2, c 3] = c := by
    funext m
    fin_cases m <;> rfl
  exact hc ▸ h (c 0) (c 1) (c 2) (c 3)

theorem chanMask_false {c : Fin 4 → Bool} (h : ∀ n, c n = false) : chanMask c = 0 := by
  rw [show c = fun _ => false from funext h]
  rfl

theorem chanMask_ne_zero {c : Fin 4 → Bool} {n : Fin 4} (h : c n = true) : chanMask c ≠ 0 := fun h0 => by
  have hb := bit_chanMask c n
  rw [h0, h] at hb
  exact absurd hb (by decide +revert)

theorem foldl_keeps {α β : Type} (g : State → β) {f : State → α → State} (h : ∀ u x, g (f u x) = g u) (l : List α)
    (s : State) : g (l.foldl f s) = g s := by
  induction l generalizing s with
  | nil => rfl
  | cons x l ih => rw [List.foldl_cons, ih, h]

theorem forMask_keeps {β : Type} (g : State → β) {f : State → Fin 4 → State} (h : ∀ u n, g (f u n) = g u) (mask : Nat)
    (s : State) : g (s.forMask mask f) = g s := foldl_keeps g (fun u n => by
  split
  · exact h u n
  · rfl) chans s

theorem forMask_zero (s : State) (f : State → Fin 4 → State) : s.forMask 0 f = s := by
  have h0 : ∀ n : Fin 4, bit 0 n.val = false := by decide
  simp [forMask, chans, h0]

theorem mem_chans (n : Fin 4) : n ∈ chans := by decide +revert

/-- What each step of a loop establishes, and later steps keep, holds at its end for every channel of the mask. -/
theorem forMask_each {P : State → Fin 4 → Prop} {f : State → Fin 4 → State} (hs : ∀ (u : State) n, u.Steady (f u n))
    (hp : ∀ u n, P (f u n) n) (hk : ∀ {u v : State} {n}, u.Steady v → P u n → P v n) {mask : Nat} (s : State) {n : Fin 4} (h : bit mask n.val = true) :
    P (s.forMask mask f) n := by
  have loop : ∀ (l : List (Fin 4)) (u : State), n ∈ l ∨ P u n →
      P (l.foldl (fun s n => if bit mask n.val then f s n else s) u) n := fun l => by
    induction l with
    | nil => exact fun u hu => hu.resolve_left (List.not_mem_nil)
    | cons m l ih =>
      refine fun u hu => ih _ ?_
      by_cases hm : m = n
      · subst hm
        exact .inr (by simpa [h] using hp u m)
      · refine hu.imp (fun hn => (List.mem_cons.mp hn).resolve_left (Ne.symm hm)) fun hu => ?_
        exact hk (.ite (hs u m) (.refl u)) hu
  exact loop chans s (.inl (mem_chans n))

/-! ### What also a change of mode leaves -/

/-- What stays through a change of mode and the end of a park. -/
structure Retains (s t : State) : Prop where
  dram : t.dram = s.dram
  tb : t.tb = s.tb
  nodeType : ∀ n, t.nodeType n = s.nodeType n
  err : ∀ n, s.srcErr n = true → t.srcErr n = true
  pwrLow : t.sys.pwrLow = s.sys.pwrLow
  parkSet : ∀ n, (s.ch n).src.parkSet = true → (t.ch n).src.parkSet = true
  dark : ∀ n, (s.ch n).fieldDark = true → (t.ch n).fieldDark = true

theorem Steady.retains {s t : State} (h : s.Steady t) : s.Retains t :=
  ⟨h.dram, h.tb, h.nodeType, h.err, h.pwrLow, h.parkSet, h.dark⟩

namespace Retains
variable {s t u : State}

theorem refl (s : State) : s.Retains s := (Steady.refl s).retains
theorem trans (h : s.Retains t) (k : t.Retains u) : s.Retains u :=
  ⟨k.dram.trans h.dram, k.tb.trans h.tb, fun n => (k.nodeType n).trans (h.nodeType n), fun n => k.err n ∘ h.err n,
    k.pwrLow.trans h.pwrLow, fun n => k.parkSet n ∘ h.parkSet n, fun n => k.dark n ∘ h.dark n⟩
theorem modSys (h : s.Retains t) {f : Sys → Sys} (hp : (f t.sys).pwrLow = t.sys.pwrLow := by exact rfl) : s.Retains (t.modSys f) :=
  h.trans ⟨rfl, rfl, fun _ => rfl, fun _ => id, hp, fun _ => id, fun _ => id⟩
/-- A field of SYS_MODE is written. -/
theorem wrMode (h : s.Retains t) {f : Fld} {v : Nat} (hf : f.addr = R.SYS_MODE := by exact rfl) : s.Retains (t.wr f v) := by
  have hget : ∀ a, a ≠ R.SYS_MODE → (t.wr f v).get a = t.get a := fun a ha => get_wr_ne _ _ (hf ▸ ha)
  exact h.trans ⟨rfl, rfl, fun n => by
    unfold State.nodeType State.cap
    rw [hget _ (by clear * -; decide +revert)]
    rfl, fun n he => (srcErr_congr (hget _ (by clear * -; decide +revert))).trans he, rfl, fun _ => id, fun _ => id⟩
theorem wrBMode (h : s.Retains t) {f : Fld} {b : Bool} (hf : f.addr = R.SYS_MODE := by exact rfl) : s.Retains (t.wrB f b) :=
  h.wrMode hf
theorem steady (h : s.Retains t) (k : t.Steady u) : s.Retains u := h.trans k.retains
theorem logEvent (h : s.Retains t) {code sev a b : Nat} : s.Retains (t.logEvent code sev a b) := h.steady (Steady.refl t).logEvent
theorem setMode (h : s.Retains t) {m cause : Nat} : s.Retains (t.setMode m cause) := h.wrMode.wrMode.logEvent
theorem showTransit (h : s.Retains t) {on : Bool} {target : Nat} : s.Retains (t.showTransit on target) := h.wrBMode.wrMode

end Retains

theorem enterMode_steady (s : State) (m cause : Nat) : (s.setMode m cause).Steady (s.enterMode m cause) :=
  .ite (.refl _) (Steady.refl _).endGrants

/-- A change of the mode, to another than LIMP, is steady after SYS_MODE is written. -/
theorem arrive_steady (s : State) {m : Nat} (hm : m ≠ modeLIMP) (prof cause : Nat) :
    (s.setMode m cause).Steady (s.arrive m prof cause) := by
  unfold arrive
  rw [if_neg hm]
  extract_lets old s₀ s₁ s₂ s₃ s₄ s₅ s₆ s₇
  have h₂ : (s.setMode m cause).Steady s₂ := (s.enterMode_steady m cause).modSys
  have h₃ : (s.setMode m cause).Steady s₃ := h₂.foldl fun _ _ h => .ite h.wr.mgmt h
  have h₄ : (s.setMode m cause).Steady s₄ := .ite h₃.tutorBack.runAll h₂
  have h₅ : (s.setMode m cause).Steady s₅ := .ite (by
    split
    · exact h₄.calLoop
    · exact h₄) h₄
  have h₆ : (s.setMode m cause).Steady s₆ := .ite (h₅.forMask fun _ _ h => h.linkOff) h₅
  have h₇ : (s.setMode m cause).Steady s₇ := .ite h₆.speedStart h₆
  exact h₇.modePins

theorem setMode_mode (s : State) {m : Nat} (hm : m < 16) (cause : Nat) : (s.setMode m cause).mode = m := by
  have h : ((s.wr F.SYS_MODE_MODE m).wr F.SYS_MODE_CAUSE cause).Steady (s.setMode m cause) := (Steady.refl _).logEvent
  rw [h.mode, mode, rd_wr_apart _ _ (by decide), rd_wr _ _ (by decide)]
  exact Nat.mod_eq_of_lt hm

theorem setMode_park (s : State) (m cause : Nat) : (s.setMode m cause).sys.park = s.sys.park := by simp [setMode]

/-- A transition dropped (R43): TRANSIT and TARGET fall, and what follows is steady. -/
theorem transitDrop_retains (s : State) : s.Retains s.transitDrop ∧ s.transitDrop.mode = s.mode := by
  unfold transitDrop
  split
  · exact ⟨.refl s, rfl⟩
  · split
    · exact ⟨.refl s, rfl⟩
    · generalize hu : (s.modSys fun y => { y with transit := none }).showTransit false 0 = u
      have hr : s.Retains u := hu ▸ (Retains.refl s).modSys.showTransit
      have hm : u.mode = s.mode := hu ▸ showTransit_mode _ _ _
      suffices h : u.Steady _ from ⟨hr.steady h, h.mode.trans hm⟩
      have h₁ := (Steady.refl u).doneOpt (g := ‹Transit›.tag) (st := stWRONG_MODE) (detail := 0)
      dsimp only
      split
      · exact h₁
      · exact .ite ((h₁.forMask fun _ _ h => h.wr).modSys.foldl fun _ _ h => h.wr.chnSync) h₁.modSys

/-! ### The end of a park -/

/-- The state in which a park has ended: event 0x0103 (R253). -/
def parkEnded (s : State) (k : Park) : State :=
  (s.modSys fun y => { y with park := none }).logEvent 0x0103 3 k.parked
    (if k.parked = 0 then 0 else min 65535 (microsBetween k.tick k.sub k.lastTick k.lastSub))

theorem parkCheck_open {s : State} {k : Park} (hk : s.sys.park = some k) (h : s.parkOwes k ≠ 0) : s.parkCheck = s := by
  simp [parkCheck, hk, h]

/-- STANDBY is being entered. -/
def toStandby (s : State) : Bool := match s.sys.transit with | some t => t.target == modeSTANDBY | none => false

/-- A park that nobody owes ends, and the mode becomes DARK-HOLD where it can (R43). -/
theorem parkCheck_ends {s : State} {k : Park} (hk : s.sys.park = some k) (h : s.parkOwes k = 0) :
    s.parkCheck = if s.mode = modeBOOT ∨ s.mode = modeDARKHOLD ∨ s.mode = modeSTANDBY ∨ s.mode = modeSCANTEST ∨ s.toStandby = true
      then s.parkEnded k else (s.parkEnded k).arrive modeDARKHOLD ((s.parkEnded k).rd F.SYS_MODE_PROFILE) 3 := by
  have hm : (s.parkEnded k).mode = s.mode := (Steady.logEvent (Steady.refl _)).mode
  have ht : (s.parkEnded k).sys.transit = s.sys.transit := by rw [parkEnded, logEvent_sys]; rfl
  unfold parkCheck
  rw [hk]
  dsimp only
  rw [if_neg (by simpa using h)]
  change (if (s.parkEnded k).mode = _ ∨ (s.parkEnded k).mode = _ ∨ (s.parkEnded k).mode = _ ∨ (s.parkEnded k).mode = _ ∨
    (s.parkEnded k).toStandby = true then _ else _) = _
  rw [hm, toStandby, ht]
  rfl

theorem parkEnded_retains (s : State) (k : Park) : s.Retains (s.parkEnded k) := (Retains.refl s).modSys.logEvent

theorem parkEnded_logged (s : State) (k : Park) : s.logged (s.parkEnded k) 0x0103 3 k.parked
    (if k.parked = 0 then 0 else min 65535 (microsBetween k.tick k.sub k.lastTick k.lastSub)) := by
  unfold parkEnded
  refine logged_logEvent ?_ ?_ _ _ _ _
  all_goals rfl

theorem parkCheck_retains (s : State) : s.Retains s.parkCheck := by
  cases hk : s.sys.park with
  | none => simpa [parkCheck, hk] using Retains.refl s
  | some k =>
    by_cases h : s.parkOwes k = 0
    · rw [parkCheck_ends hk h]
      split
      · exact s.parkEnded_retains k
      · exact (s.parkEnded_retains k).setMode.steady (arrive_steady _ (by decide) _ _)
    · rw [parkCheck_open hk h]
      exact .refl s

theorem parkCheck_park {s : State} {k : Park} (hk : s.sys.park = some k) (h : s.parkOwes k = 0) : s.parkCheck.sys.park = none := by
  have he : (s.parkEnded k).sys.park = none := by rw [parkEnded, logEvent_sys]; rfl
  rw [parkCheck_ends hk h]
  split
  · exact he
  · rw [(arrive_steady _ (by decide) _ _).park, setMode_park, he]

/-- A park that ends outside BOOT, STANDBY and SCAN-TEST, with no transition, leads to DARK-HOLD (R43). -/
theorem parkCheck_mode {s : State} {k : Park} (hk : s.sys.park = some k) (h : s.parkOwes k = 0) (hb : s.mode ≠ modeBOOT)
    (hs : s.mode ≠ modeSTANDBY) (ht : s.mode ≠ modeSCANTEST) (hn : s.sys.transit = none) : s.parkCheck.mode = modeDARKHOLD := by
  rw [parkCheck_ends hk h]
  split
  · next hd =>
    have hm : (s.parkEnded k).mode = s.mode := (Steady.logEvent (Steady.refl _)).mode
    simpa [hb, hs, ht, toStandby, hn, hm] using hd
  · rw [(arrive_steady _ (by decide) _ _).mode, setMode_mode _ (by decide)]

/-! ### The fall of PWR_WARN_N -/

/-- PARK and the dark field of a released channel (R252). -/
def parkChannel (s : State) (n : Fin 4) : State :=
  ((s.modSrc n fun r => { r with parkSet := true, unpark := false, parkDark := false }).wr (F.SRC_STATUS_PARKED n) 0).modCh n
    fun c => { c with fieldDark := true }

/-- What the fall of PWR_WARN_N does to a released channel. -/
def fallChannel (s : State) (n : Fin 4) : State :=
  let s := s.parkChannel n
  let s := if s.rd (F.BPF_STATUS_STATE n) = 0 then s else s.wr (F.BPF_STATUS_STATE n) 2
  let s := if s.mode = modeBOOT then s.wr (F.BPF_SRCSEL_PATTERN n) 0 else s
  (s.lampUpdate n).chnOe n

theorem parkChannel_steady (s : State) (n : Fin 4) : s.Steady (s.parkChannel n) :=
  ((Steady.refl s).modSrc fun _ => rfl).wr.modCh ⟨rfl, id, fun _ => rfl⟩

theorem fallChannel_steady (s : State) (n : Fin 4) : (s.parkChannel n).Steady (s.fallChannel n) := by
  unfold fallChannel
  generalize s.parkChannel n = t
  exact (Steady.ite (.refl t) (Steady.refl t).wr).bind fun h => (Steady.ite h.wr h).lampUpdate.chnOe

/-- A channel stands parked and dark. -/
def Parked (s : State) (n : Fin 4) : Prop := (s.ch n).src.parkSet = true ∧ (s.ch n).fieldDark = true

theorem fallChannel_parked (s : State) (n : Fin 4) : (s.fallChannel n).Parked n := by
  have h := s.fallChannel_steady n
  have hc : (s.parkChannel n).Parked n := by simp [Parked, parkChannel, modSrc, ch_modCh]
  obtain ⟨hpark, hdark⟩ := hc
  exact ⟨h.parkSet n hpark, h.dark n hdark⟩

/-- The machine at the recognition of the fall, before the park is opened. -/
def fallen (s : State) : State :=
  ((s.modSys fun y => { y with pwrLow := true }).transitDrop.calRestart.forMask s.rst.released fallChannel).stamped

/-- The park that the fall opens. -/
def fallPark (s : State) (sub : Nat) : Park := ⟨s.tb.toNat, sub, s.tb.toNat, sub, s.rst.released, 0, 0⟩

theorem fallen_retains (s : State) : (s.modSys fun y => { y with pwrLow := true }).Retains s.fallen ∧ s.fallen.mode = s.mode := by
  have ⟨hr, hm⟩ := transitDrop_retains (s.modSys fun y => { y with pwrLow := true })
  have hs : (s.modSys fun y => { y with pwrLow := true }).transitDrop.Steady s.fallen :=
    ((Steady.refl _).calRestart.forMask fun u n h => (h.trans (u.parkChannel_steady n)).trans (u.fallChannel_steady n)).stamped
  exact ⟨hr.steady hs, hs.mode.trans hm⟩

theorem fallen_parked (s : State) {n : Fin 4} (h : bit s.rst.released n.val = true) : s.fallen.Parked n :=
  forMask_each (P := Parked) (fun u n => (u.parkChannel_steady n).trans (u.fallChannel_steady n)) fallChannel_parked
    (fun h ⟨hpark, hdark⟩ => ⟨h.parkSet _ hpark, h.dark _ hdark⟩) _ h

/-- The fall of PWR_WARN_N by its cases (R252). -/
theorem pwrFall_eq (s : State) : s.pwrFall =
    if s.sys.pwrLow then s
    else if s.mode = modeSCANTEST ∨ s.mode = modeSTANDBY then s.modSys fun y => { y with pwrLow := true }
    else
      let u := (s.modSys fun y => { y with pwrLow := true }).transitDrop.calRestart.forMask s.rst.released fallChannel
      (u.stamped.modSys fun y =>
        { y with park := some ⟨u.tb.toNat, u.subNow, u.tb.toNat, u.subNow, s.rst.released, 0, 0⟩ }).parkCheck := by
  unfold pwrFall
  rfl

/-- The fall of PWR_WARN_N outside SCAN-TEST and STANDBY (R252). -/
theorem pwrFall_opens {s : State} (hp : s.sys.pwrLow = false) (ht : s.mode ≠ modeSCANTEST) (hs : s.mode ≠ modeSTANDBY) :
    ∃ sub, s.pwrFall = (s.fallen.modSys fun y => { y with park := some (s.fallPark sub) }).parkCheck := by
  rw [pwrFall_eq, if_neg (by simp [hp]), if_neg (by simp [ht, hs])]
  dsimp only
  generalize hu : (s.modSys fun y => { y with pwrLow := true }).transitDrop.calRestart.forMask s.rst.released fallChannel = u
  have hf : s.fallen = u.stamped := by rw [fallen, hu]
  have htb : u.tb = s.tb := (hf ▸ s.fallen_retains.1.tb :)
  exact ⟨u.subNow, by rw [hf, htb, fallPark]⟩

/-- A node that owes its report keeps the park open (R253). -/
theorem fallPark_owes {s u : State} {sub : Nat} (hn : ∀ n, u.nodeType n = s.nodeType n)
    (h : ∃ n : Fin 4, bit s.rst.released n.val = true ∧ s.nodeType n ≠ 3) : u.parkOwes (s.fallPark sub) ≠ 0 := by
  obtain ⟨n, hr, ht⟩ := h
  have h0 : bit 0 n.val = false := by clear * -; decide +revert
  rw [parkOwes_eq]
  exact chanMask_ne_zero (n := n) (by simp [fallPark, hr, hn, ht, h0])

/-! ### PARK_TIMEOUT -/

/-- The error of a channel that has not reported (R253). -/
def parkLate (s : State) (n : Fin 4) : State := s.blockEvent (srcBase n) (0x2012 + 256 * n.val) 5 0 0

theorem parkLate_steady (s : State) (n : Fin 4) : s.Steady (s.parkLate n) := (Steady.refl s).blockEvent

theorem parkLate_err (s : State) (n : Fin 4) : (s.parkLate n).srcErr n = true := by
  unfold parkLate blockEvent errEvent srcErr
  rw [if_pos (by decide), logEvent_get _ _ _ _ _ (srcErr_not_event n)]
  exact errHit_bit _ _ _

/-- The machine when the time of a park is up, with the channels that have not reported marked late. -/
def timedOut (s : State) (k : Park) : State :=
  (s.forMask (s.parkOwes k) parkLate).modSys fun y => { y with park := some { k with late := k.late ||| s.parkOwes k } }

theorem parkTimeout_eq {s : State} {k : Park} (hk : s.sys.park = some k) : s.parkTimeout = (s.timedOut k).parkCheck := by
  unfold parkTimeout
  rw [hk]
  rfl

theorem timedOut_steady (s : State) (k : Park) : s.Steady (s.forMask (s.parkOwes k) parkLate) :=
  (Steady.refl s).forMask fun u n h => h.trans (u.parkLate_steady n)

/-- Nobody owes a report once the late channels are marked. -/
theorem timedOut_owes (s : State) (k : Park) :
    (s.timedOut k).parkOwes { k with late := k.late ||| s.parkOwes k } = 0 := by
  have hn : ∀ n, (s.timedOut k).nodeType n = s.nodeType n := (s.timedOut_steady k).nodeType
  rw [parkOwes_eq]
  refine chanMask_false fun n => ?_
  have hb := bit_chanMask (fun n => bit k.mask n.val && s.nodeType n != 3 && !bit k.parked n.val && !bit k.late n.val) n
  rw [← parkOwes_eq] at hb
  rw [hn, bit_or, hb]
  simp only
  generalize bit k.mask n.val = a, (s.nodeType n != 3) = b, bit k.parked n.val = c, bit k.late n.val = d
  clear * -
  decide +revert

/-- At PARK_TIMEOUT the park ends, and a channel that has not reported sets its error (R253). -/
theorem parkTimeout_ends {s : State} {k : Park} (hk : s.sys.park = some k) :
    s.Retains s.parkTimeout ∧ s.parkTimeout.sys.park = none ∧
    (∀ n : Fin 4, bit (s.parkOwes k) n.val = true → s.parkTimeout.srcErr n = true) := by
  rw [parkTimeout_eq hk]
  have hr : (s.forMask (s.parkOwes k) parkLate).Retains (s.timedOut k).parkCheck :=
    (Retains.refl _).modSys.trans (parkCheck_retains _)
  refine ⟨(s.timedOut_steady k).retains.trans hr, parkCheck_park rfl (s.timedOut_owes k), fun n hn => hr.err n ?_⟩
  exact forMask_each (P := fun u n => u.srcErr n = true) (fun u n => u.parkLate_steady n) parkLate_err
    (fun h he => h.err _ he) s hn

/-- At PARK_TIMEOUT the mode becomes DARK-HOLD where it can (R253). -/
theorem parkTimeout_mode {s : State} {k : Park} (hk : s.sys.park = some k) (hb : s.mode ≠ modeBOOT) (hs : s.mode ≠ modeSTANDBY)
    (ht : s.mode ≠ modeSCANTEST) (hn : s.sys.transit = none) : s.parkTimeout.mode = modeDARKHOLD := by
  have hm : (s.timedOut k).mode = s.mode := (s.timedOut_steady k).mode
  have hsys : (s.forMask (s.parkOwes k) parkLate).sys = s.sys :=
    forMask_keeps State.sys (fun u n => by simp [parkLate, blockEvent]) _ _
  have hnt : (s.timedOut k).sys.transit = none := by
    rw [← hn, ← hsys]
    rfl
  rw [parkTimeout_eq hk]
  exact parkCheck_mode rfl (s.timedOut_owes k) (hm ▸ hb) (hm ▸ hs) (hm ▸ ht) hnt

/-- A park that nobody owes ends at PARK_TIMEOUT with event 0x0103 (R43). -/
theorem parkTimeout_logged {s : State} {k : Park} (hk : s.sys.park = some k) (h0 : s.parkOwes k = 0)
    (hm : s.mode = modeBOOT ∨ s.mode = modeDARKHOLD) : s.logged s.parkTimeout 0x0103 3 k.parked
      (if k.parked = 0 then 0 else min 65535 (microsBetween k.tick k.sub k.lastTick k.lastSub)) := by
  have ht : s.timedOut k = s.modSys fun y => { y with park := some { k with late := k.late ||| s.parkOwes k } } := by
    rw [timedOut, h0, forMask_zero]
  have hmode : (s.timedOut k).mode = s.mode := (s.timedOut_steady k).mode
  rw [parkTimeout_eq hk, parkCheck_ends rfl (s.timedOut_owes k), if_pos (by rw [hmode]; exact hm.imp_right .inl), ht]
  exact parkEnded_logged (s.modSys _) { k with late := k.late ||| s.parkOwes k }

end State
end Sys2Proof.Machine
end

section
/-! SUPPORT. Standby and wake (R44–R46). -/

set_option Elab.async false

namespace Sys2Proof.Machine
open State
namespace State

/-! ### Wake sources -/

/-- What an enabled wake source k does, by the phase of STANDBY (R45, R46, log entry 115). -/
def Woken (s t : State) (k : Nat) : Prop :=
  (s.aon.phase = .lowDone → t.aon.phase = .waking ∧ t.pins.stbyEnN = true ∧ bit (t.get R.AON_WAKE_STATUS) k = true ∧
    s.regsKeep t [R.AON_WAKE_STATUS]) ∧
  (s.aon.phase = .low ∨ s.aon.phase = .entering → t = { s with aon := { s.aon with wakes := setBit s.aon.wakes k true } }) ∧
  (s.aon.phase = .waking → s.aon.wakeTick = s.tb.toNat → t = { s with regs := t.regs } ∧
    bit (t.get R.AON_WAKE_STATUS) k = true ∧ s.regsKeep t [R.AON_WAKE_STATUS]) ∧
  (s.aon.phase = .awake ∨ s.aon.phase = .waking ∧ s.aon.wakeTick ≠ s.tb.toNat → t = s)

/-- The answer of the machine to a wake source k that is enabled or not. -/
def sourced (s : State) (k : Nat) (en : Bool) : State := if s.asleep && en then s.wake k else s

theorem wakeNow_get (s : State) : s.wakeNow.get R.AON_WAKE_STATUS = (s.get R.AON_WAKE_STATUS ||| s.aon.wakes) % 2 ^ 32 :=
  get_put_self _ _ _

theorem wakeNow_regsKeep (s : State) : s.regsKeep s.wakeNow [R.AON_WAKE_STATUS] := fun _ ha =>
  get_put_ne _ _ (List.ne_of_not_mem_cons ha)

theorem wake_lowDone {s : State} {k : Nat} (h : s.aon.phase = .lowDone) :
    s.wake k = (s.modAon fun a => { a with wakes := setBit s.aon.wakes k true }).wakeNow := by
  rw [wake, if_neg (by simp [h])]
  exact if_pos h

theorem wake_low {s : State} {k : Nat} (h : s.aon.phase = .low ∨ s.aon.phase = .entering) :
    s.wake k = s.modAon fun a => { a with wakes := setBit s.aon.wakes k true } := by
  have hw : s.aon.phase ≠ .waking := by rcases h with h | h <;> simp [h]
  have hd : s.aon.phase ≠ .lowDone := by rcases h with h | h <;> simp [h]
  rw [wake, if_neg hw]
  exact if_neg hd

theorem wake_waking {s : State} {k : Nat} (h : s.aon.phase = .waking) :
    s.wake k = s.put R.AON_WAKE_STATUS (setBit (s.get R.AON_WAKE_STATUS) k true) := by rw [wake, if_pos h]

theorem sourced_woken (s : State) {k : Nat} (hk : k < 32) : s.Woken (s.sourced k true) k := by
  have hon : s.asleep = true → s.sourced k true = s.wake k := fun h => by simp [sourced, h]
  refine ⟨fun h => ?_, fun h => ?_, fun h ht => ?_, fun h => ?_⟩
  · rw [hon (by simp [asleep, h]), wake_lowDone h]
    refine ⟨rfl, rfl, ?_, wakeNow_regsKeep _⟩
    rw [wakeNow_get, bit_mod hk, bit_or]
    exact Bool.or_eq_true_iff.mpr (.inr (bit_setBit_self ..))
  · rw [hon (by rcases h with h | h <;> simp [asleep, h]), wake_low h]
    rfl
  · rw [hon (by simp [asleep, h, ht]), wake_waking h]
    refine ⟨rfl, ?_, fun _ ha => get_put_ne _ _ (List.ne_of_not_mem_cons ha)⟩
    rw [get_put_self, bit_mod hk, bit_setBit_self]
  · have ha : s.asleep = false := by
      rcases h with h | ⟨h, ht⟩
      · simp [asleep, h]
      · simp [asleep, h, ht]
    simp [sourced, ha]

/-- A wake source, enabled or not. -/
theorem sourced_cases (s : State) {k : Nat} (hk : k < 32) (en : Bool) :
    if en then s.Woken (s.sourced k en) k else s.sourced k en = s := by
  cases en
  · simp [sourced]
  · exact s.sourced_woken hk

/-- The minimum low time has passed (R44). -/
def lowEnded (s : State) : State := s.modAon fun a => { a with phase := .lowDone }

/-! ### The standby-exit reset -/

/-- A source of reset is recorded in RST_CAUSE, with a restart or without (R62). -/
theorem recordCause_bit (s : State) {k : Nat} (hk : k < 8) (mid : Bool) : bit ((s.recordCause k mid).get R.RST_CAUSE) k = true := by
  have h : bit ((s.put R.RST_CAUSE (setBit (s.get R.RST_CAUSE) k true)).get R.RST_CAUSE) k = true := by
    rw [get_put_self, bit_mod (by omega), bit_setBit_self]
  unfold recordCause
  cases mid
  · exact h
  · have hr : ∀ u : State, (u.incSat F.RST_CAUSE_RESTARTS).rd ⟨R.RST_CAUSE, k, 1⟩ = u.rd ⟨R.RST_CAUSE, k, 1⟩ := fun u =>
      rd_wr_dis u _ rfl (by decide) (.inl hk)
    unfold bit at h ⊢
    have h1 := hr (s.put R.RST_CAUSE (setBit (s.get R.RST_CAUSE) k true))
    unfold rd bits at h1
    simp only [Nat.pow_one] at h1
    simpa only [if_true, h1] using h

theorem recordCause_kept (s : State) (k : Nat) (mid : Bool) :
    (s.recordCause k mid).aon = s.aon ∧ (s.recordCause k mid).pins = s.pins ∧ (s.recordCause k mid).tb = s.tb := by
  cases mid <;> exact ⟨rfl, rfl, rfl⟩

/-- What a reset leaves of AON, the isolation and the timebase (R61). -/
theorem coreReset_kept (s : State) : s.coreReset.aon.phase = .awake ∧ s.coreReset.aon.coreGood = s.aon.coreGood ∧
    s.coreReset.pins.isolated = s.pins.isolated ∧ s.coreReset.tb = s.tb := by
  unfold coreReset
  refine ⟨?_, ?_, ?_, ?_⟩
  all_goals rfl

/-- BOOT is shown with a cause: what follows is steady. -/
theorem enterBoot_steady (s : State) (was : Nat) {cause : Nat} (hc : cause < 16) :
    ∃ u : State, u.Steady (s.enterBoot was cause) ∧ u.mode = modeBOOT ∧ u.rd F.SYS_MODE_CAUSE = cause ∧ u.tb = s.tb ∧
      u.get R.RST_CAUSE = s.get R.RST_CAUSE ∧ u.get R.RST_STATUS = s.get R.RST_STATUS := by
  have hu : ∀ u : State, u = (s.wr F.SYS_MODE_MODE modeBOOT).wr F.SYS_MODE_CAUSE cause →
      u.mode = modeBOOT ∧ u.rd F.SYS_MODE_CAUSE = cause ∧ u.tb = s.tb ∧ u.get R.RST_CAUSE = s.get R.RST_CAUSE ∧
        u.get R.RST_STATUS = s.get R.RST_STATUS := by
    rintro u rfl
    refine ⟨?_, ?_, rfl, ?_, ?_⟩
    · rw [mode, rd_wr_apart _ _ (by decide), rd_wr _ _ (by decide)]
      rfl
    · rw [rd_wr _ _ (by decide)]
      exact Nat.mod_eq_of_lt hc
    all_goals rw [get_wr_ne _ _ (by decide), get_wr_ne _ _ (by decide)]
  have hl : ((s.wr F.SYS_MODE_MODE modeBOOT).wr F.SYS_MODE_CAUSE cause).Steady (s.setMode modeBOOT cause) := (Steady.refl _).logEvent
  exact ⟨_, (Steady.ite (.refl _) hl).endGrants, hu _ rfl⟩

theorem logEvent_isolated (s : State) (code sev a b : Nat) : (s.logEvent code sev a b).pins.isolated = s.pins.isolated := by
  have h : (s.occur code sev).pins.isolated = s.pins.isolated := by
    unfold occur
    extract_lets u
    split
    · simp [faultDrive, modPins, u]
    · simp [u]
  unfold logEvent
  split
  · simpa [enqueue] using h
  · simpa [dropReq] using h

theorem notify_isolated (s : State) (p : Fin 3) (op : Nat) (payload : List Byte) :
    (s.notify p op payload).pins.isolated = s.pins.isolated := by
  unfold notify
  extract_lets q m s'
  split
  · simp
  · split
    · simp [s']
    · simp [s', errEvent, logEvent_isolated]

theorem endGrant_isolated (s : State) (g : Grant) (reason : Nat) : (s.endGrant g reason).pins.isolated = s.pins.isolated := by
  simp [endGrant, notify_isolated, logEvent_isolated]

/-- What the entry into BOOT leaves of AON and the isolation. -/
theorem enterBoot_kept (s : State) (was cause : Nat) :
    (s.enterBoot was cause).aon = s.aon ∧ (s.enterBoot was cause).pins.isolated = s.pins.isolated := by
  unfold enterBoot
  extract_lets u
  have hu : u.aon = s.aon ∧ u.pins.isolated = s.pins.isolated := by
    unfold u
    split
    · simp
    · simp [setMode, logEvent_isolated]
  obtain ⟨ha, hp⟩ := hu
  exact ⟨(foldl_keeps State.aon (fun v g => endGrant_aon v g 4) _ u).trans ha,
    (foldl_keeps (fun v => v.pins.isolated) (fun v g => endGrant_isolated v g 4) _ u).trans hp⟩

/-- The standby-exit reset (R46, R61). -/
theorem standbyExit_boots {s : State} (h : s.aon.phase = .waking) :
    s.standbyExit.mode = modeBOOT ∧ s.standbyExit.rd F.SYS_MODE_CAUSE = 2 ∧ bit (s.standbyExit.get R.RST_CAUSE) 2 = true ∧
    s.standbyExit.rd F.RST_STATUS_PHASE = 2 ∧ s.standbyExit.aon.phase = .awake ∧ s.standbyExit.aon.coreGood = true ∧
    s.standbyExit.pins.isolated = false ∧ s.standbyExit.tb = s.tb := by
  rw [standbyExit, if_pos h]
  generalize hs : ((s.modAon fun a => { a with coreGood := true }).modPins fun p => { p with isolated := false }) = w
  obtain ⟨hphase, hgood, hiso, htb⟩ := coreReset_kept w
  obtain ⟨hwgood, hwiso, hwtb⟩ : w.aon.coreGood = true ∧ w.pins.isolated = false ∧ w.tb = s.tb := hs ▸ ⟨rfl, rfl, rfl⟩
  rw [hwgood] at hgood
  rw [hwiso] at hiso
  rw [hwtb] at htb
  unfold deviceReset
  generalize w.coreReset = r at hphase hgood hiso htb ⊢
  extract_lets was owed mid armed t₀ t
  rw [if_neg (by decide)]
  obtain ⟨ha, hp, hb⟩ := recordCause_kept r 2 mid
  obtain ⟨u, hst, hm, hc, htu, hcause, hstatus⟩ := enterBoot_steady t was (cause := 2) (by decide)
  obtain ⟨hta, htp⟩ := enterBoot_kept t was 2
  have h2 : t₀.get R.RST_CAUSE = (r.recordCause 2 mid).get R.RST_CAUSE := get_wr_ne _ _ (by decide)
  have h3 : t₀.rd F.RST_STATUS_PHASE = 2 := rd_wr _ _ (by decide)
  have hget : ∀ a, t.get a = t₀.get a := fun _ => rfl
  have haon : t.aon = r.aon := ha
  have hpins : t.pins = r.pins := hp
  have htime : t.tb = r.tb := hb
  refine ⟨hst.mode.trans hm, ?_, ?_, ?_, ?_, ?_, ?_, ?_⟩
  · rw [rd_congr (hst.word _ (by decide)), hc]
  · rw [hst.word _ (by decide), hcause, hget, h2, recordCause_bit _ (by decide)]
  · rw [rd_congr (hst.word _ (by decide)), rd_congr hstatus, rd_congr (hget _), h3]
  · rw [hta, haon, hphase]
  · rw [hta, haon, hgood]
  · rw [htp, hpins, hiso]
  · rw [hst.tb, htu, htime, htb]

end State

/-- The power warning of O37: its fall, its rise and the end of the park. -/
theorem supply_warning (s : State) :
    (s.sys.pwrLow = false → s.mode = modeSCANTEST ∨ s.mode = modeSTANDBY →
      exec .pwrWarnFall s = .next { s with sys := { s.sys with pwrLow := true } }) ∧
    (s.sys.pwrLow = false → s.mode ≠ modeSCANTEST → s.mode ≠ modeSTANDBY → s.mode ≠ modeCALIBRATE →
      ∃ t, exec .pwrWarnFall s = .next t ∧ t.sys.pwrLow = true ∧ t.dram = s.dram ∧
        (∀ n : Fin 4, bit s.rst.released n.val = true →
          (t.ch n).src.parkSet = true ∧ (t.ch n).fieldDark = true ∧ t.arm n = 0) ∧
        ((∃ n : Fin 4, bit s.rst.released n.val = true ∧ s.nodeType n ≠ 3) →
          t.mode = s.mode ∧ ∃ sub, t.sys.park = some ⟨s.tb.toNat, sub, s.tb.toNat, sub, s.rst.released, 0, 0⟩)) := by
  refine ⟨fun hp hm => ?_, fun hp ht hs _ => ?_⟩
  · change Host.Outcome.next s.pwrFall = _
    rw [State.pwrFall_eq, if_neg (by simp [hp]), if_pos hm]
    rfl
  · obtain ⟨sub, hfall⟩ := State.pwrFall_opens hp ht hs
    obtain ⟨hret, hmode⟩ := s.fallen_retains
    refine ⟨s.pwrFall, rfl, ?_⟩
    rw [hfall]
    generalize hu : s.fallen.modSys (fun y => { y with park := some (s.fallPark sub) }) = u
    have hfu : s.fallen.Retains u := hu ▸ (State.Retains.refl _).modSys
    have hall := (hret.trans hfu).trans u.parkCheck_retains
    refine ⟨hall.pwrLow, hall.dram, fun n hn => ?_, fun howes => ?_⟩
    · obtain ⟨hpark, hdark⟩ := s.fallen_parked hn
      have hrest := hfu.trans u.parkCheck_retains
      have hd := hrest.dark n hdark
      exact ⟨hrest.parkSet n hpark, hd, if_pos hd⟩
    · have hk : u.sys.park = some (s.fallPark sub) := hu ▸ rfl
      rw [State.parkCheck_open hk (State.fallPark_owes (hret.trans hfu).nodeType howes)]
      exact ⟨hu ▸ hmode, sub, hk⟩

/-- The end of the minimum low time (R44): with wake conditions latched, the device wakes. -/
theorem exec_standbyMinLowExpiry (s : State) : exec .standbyMinLowExpiry s =
    .next (if s.aon.phase = .low then (if s.aon.wakes = 0 then s.lowEnded else s.lowEnded.wakeNow) else s) := rfl

/-- Settles O37: the park keeps dark and parked what the fall made so, a wake source acts by the phase of STANDBY, and the
reset of VDD_CORE enters BOOT with cause 2. -/
theorem supplyAndStandby : Obligations.SupplyAndStandby := by
  refine ⟨fun s => ?_, fun i s => ?_⟩
  · obtain ⟨hflat, hfall⟩ := supply_warning s
    refine ⟨hflat, hfall, ⟨_, rfl, rfl⟩, fun k hk => ?_⟩
    obtain ⟨hret, hpark, herr⟩ := State.parkTimeout_ends hk
    exact ⟨_, rfl, hpark, hret.dram, herr, State.parkTimeout_logged hk, State.parkTimeout_mode hk⟩
  · intro woken source
    have hsource : ∀ {c : Instr} {k : Nat} {en : Bool}, k < 32 → exec c s = .next (s.sourced k en) → source c k en :=
      fun hk hc => ⟨_, hc, s.sourced_cases hk _⟩
    refine ⟨hsource (by omega) rfl, hsource (by omega) rfl, hsource (by decide) rfl, hsource (by decide) ?_,
      ⟨_, exec_standbyMinLowExpiry s, ?_⟩, fun h => ⟨_, rfl, State.standbyExit_boots h⟩, ⟨_, rfl, ?_⟩⟩
    · rw [State.sourced, ← Bool.and_assoc]
      rfl
    · refine ⟨fun h hw => ?_, fun h hw => ?_, fun h => if_neg h⟩
      · rw [if_pos h]
        exact if_pos hw
      · rw [if_pos h, if_neg hw]
        exact ⟨rfl, rfl, State.wakeNow_get _⟩
    · refine ⟨fun h => ?_, fun h => if_neg h⟩
      rw [if_pos h]
      exact ⟨rfl, on_wr_one _ (by decide) rfl, fun a ha => get_wr_ne _ _ (List.ne_of_not_mem_cons ha)⟩

end Sys2Proof.Machine
end

section
/-! SUPPORT. Which registers the operations of a channel may change (`State.Within`): the words of the channels they are about
but LEC_CTRL, and words of the system blocks that all channels share. No such operation starts a raster, ends a grant, or
changes DRAM, the reset controller or the always-on domain. -/

-- Many small proofs: one after another they hold few threads.
set_option Elab.async false

namespace Sys2Proof.Machine

/-- The blocks SYS, EVR, MBX and CSI (R12), which operations of every channel may write. -/
def sharedWord (a : Nat) : Bool :=
  decide (0x40000000 ≤ a ∧ a < 0x40010000 ∨ 0x40030000 ≤ a ∧ a < 0x40040000 ∨ 0x40060000 ≤ a ∧ a < 0x40070000 ∨
    0x40080000 ≤ a ∧ a < 0x40090000)

/-- The window of channel n (R12). -/
def windowWord (n : Fin 4) (a : Nat) : Bool := decide (lecBase n ≤ a ∧ a < lecBase n + 0x40000)

/-- The words that operations of the channels of a list may change. -/
def mayTouch (cs : List (Fin 4)) (a : Nat) : Bool := sharedWord a || cs.any fun n => windowWord n a && a != R.LEC_CTRL n

/-- A word of channel n other than LEC_CTRL and LEC_STATUS. -/
def ownWord (n : Fin 4) (a : Nat) : Bool := windowWord n a && a != R.LEC_CTRL n && a != R.LEC_STATUS n

theorem windowWord_iff {n : Fin 4} {a : Nat} : windowWord n a = true ↔ lecBase n ≤ a ∧ a < lecBase n + 0x40000 := decide_eq_true_iff

theorem windowWord_apart {n m : Fin 4} {a : Nat} (h : windowWord n a = true) (hm : m ≠ n) : windowWord m a = false := by
  have h' : m.val ≠ n.val := fun e => hm (Fin.ext e)
  obtain ⟨hlo, hhi⟩ := windowWord_iff.mp h
  refine decide_eq_false fun hw => ?_
  unfold lecBase at hlo hhi hw
  omega

theorem not_shared_of_window {n : Fin 4} {a : Nat} (h : windowWord n a = true) : sharedWord a = false := by
  obtain ⟨hlo, hhi⟩ := windowWord_iff.mp h
  refine decide_eq_false fun hw => ?_
  unfold lecBase at hlo hhi
  omega

theorem mayTouch_of_own {cs : List (Fin 4)} {n : Fin 4} (hn : n ∈ cs) {a : Nat} (h : ownWord n a = true) :
    mayTouch cs a = true ∧ ∀ m, R.LEC_STATUS m ≠ a := by
  simp only [ownWord, Bool.and_eq_true, bne_iff_ne, ne_eq] at h
  obtain ⟨⟨hw, hc⟩, hs⟩ := h
  refine ⟨?_, fun m e => ?_⟩
  · simp only [mayTouch, Bool.or_eq_true, List.any_eq_true, Bool.and_eq_true, bne_iff_ne]
    exact .inr ⟨n, hn, hw, hc⟩
  · by_cases hm : m = n
    · exact hs (hm ▸ e.symm)
    · have hself : windowWord m (R.LEC_STATUS m) = true := by clear * -; decide +revert
      exact absurd (windowWord_apart hw hm) (by simp [← e, hself])

theorem mayTouch_of_shared {cs : List (Fin 4)} {a : Nat} (h : sharedWord a = true) :
    mayTouch cs a = true ∧ ∀ m, R.LEC_STATUS m ≠ a := by
  refine ⟨by simp [mayTouch, h], ?_⟩
  rintro m rfl
  have hself : sharedWord (R.LEC_STATUS m) = false := by clear h; decide +revert
  simp [hself] at h

/-- A word of another channel's window. -/
theorem not_mayTouch_of_window {n m : Fin 4} {a : Nat} (h : windowWord m a = true) (hm : m ≠ n) : mayTouch [n] a = false := by
  simp [mayTouch, not_shared_of_window h, windowWord_apart h hm.symm]

/-- What operations of the channels `cs` leave. -/
structure State.Within (cs : List (Fin 4)) (s t : State) : Prop where
  word : ∀ a, mayTouch cs a = false → t.get a = s.get a
  run : ∀ n, s.on (F.LEC_STATUS_RUNNING n) = false → t.on (F.LEC_STATUS_RUNNING n) = false
  grants : t.mbx.grants = s.mbx.grants
  dram : t.dram = s.dram
  tb : t.tb = s.tb
  rst : t.rst = s.rst
  aon : t.aon = s.aon

namespace State.Within

variable {cs : List (Fin 4)} {s t u : State}

theorem refl (s : State) : s.Within cs s := ⟨fun _ _ => rfl, fun _ => id, rfl, rfl, rfl, rfl, rfl⟩

theorem trans (h : s.Within cs t) (k : t.Within cs u) : s.Within cs u :=
  ⟨fun a ha => (k.word a ha).trans (h.word a ha), fun n => k.run n ∘ h.run n, k.grants.trans h.grants, k.dram.trans h.dram,
    k.tb.trans h.tb, k.rst.trans h.rst, k.aon.trans h.aon⟩

/-- A field of a word that no operation touches. -/
theorem rd (h : s.Within cs t) {f : Fld} (hf : mayTouch cs f.addr = false) : t.rd f = s.rd f := rd_congr (h.word _ hf)

/-- Name an intermediate result. -/
theorem bind (h : s.Within cs t) (k : s.Within cs t → s.Within cs u) : s.Within cs u := k h
theorem ite {c : Prop} {_ : Decidable c} (h : s.Within cs t) (k : s.Within cs u) : s.Within cs (if c then t else u) := by
  split
  · exact h
  · exact k
/-- A loop, over elements that a property `hl` is known of. -/
theorem foldlMem {α : Type} {l : List α} {f : State → α → State} {P : α → Prop} (h : s.Within cs t) (hl : ∀ x ∈ l, P x)
    (k : ∀ u x, P x → s.Within cs u → s.Within cs (f u x)) : s.Within cs (l.foldl f t) := by
  induction l generalizing t with
  | nil => exact h
  | cons x l ih => exact ih (k t x (hl x (.head _)) h) fun y hy => hl y (.tail _ hy)
theorem foldl {α : Type} {l : List α} {f : State → α → State} (h : s.Within cs t)
    (k : ∀ u x, s.Within cs u → s.Within cs (f u x)) : s.Within cs (l.foldl f t) :=
  h.foldlMem (P := fun _ => True) (fun _ _ => trivial) fun u x _ => k u x

/-! ### Ops -/

/-- An operation that changes no register, no grant, and none of what else stays. -/
theorem other (h : s.Within cs t) (hr : u.regs = t.regs := by exact rfl) (hg : u.mbx.grants = t.mbx.grants := by exact rfl)
    (hd : u.dram = t.dram := by exact rfl) (ht : u.tb = t.tb := by exact rfl) (hs : u.rst = t.rst := by exact rfl)
    (ha : u.aon = t.aon := by exact rfl) : s.Within cs u :=
  h.trans ⟨fun a _ => get_congr hr a, fun _ hn => (on_congr (rd_congr (get_congr hr _))).trans hn, hg, hd, ht, hs, ha⟩

theorem putOf (h : s.Within cs t) {a v : Nat} (ha : mayTouch cs a = true ∧ ∀ m, R.LEC_STATUS m ≠ a) : s.Within cs (t.put a v) :=
  h.trans ⟨fun x hx => get_put_ne _ _ (by rintro rfl; simp [ha.1] at hx),
    fun m hm => (on_put_ne _ _ (ha.2 m)).trans hm, rfl, rfl, rfl, rfl, rfl⟩
theorem put (h : s.Within cs t) {n : Fin 4} (hn : n ∈ cs) {a v : Nat} (ha : ownWord n a = true := by clear * -; decide +revert) :
    s.Within cs (t.put a v) := h.putOf (mayTouch_of_own hn ha)
theorem wr (h : s.Within cs t) {n : Fin 4} (hn : n ∈ cs) {f : Fld} {v : Nat} (ha : ownWord n f.addr = true := by clear * -; decide +revert) :
    s.Within cs (t.wr f v) := h.put hn ha
theorem wrB (h : s.Within cs t) {n : Fin 4} (hn : n ∈ cs) {f : Fld} {b : Bool} (ha : ownWord n f.addr = true := by clear * -; decide +revert) :
    s.Within cs (t.wrB f b) := h.put hn ha
theorem incSat (h : s.Within cs t) {n : Fin 4} (hn : n ∈ cs) {f : Fld} (ha : ownWord n f.addr = true := by clear * -; decide +revert) :
    s.Within cs (t.incSat f) := h.put hn ha
theorem incWrap (h : s.Within cs t) {n : Fin 4} (hn : n ∈ cs) {f : Fld} (ha : ownWord n f.addr = true := by clear * -; decide +revert) :
    s.Within cs (t.incWrap f) := h.put hn ha
theorem putShared (h : s.Within cs t) {a v : Nat} (ha : sharedWord a = true := by clear * -; decide +revert) :
    s.Within cs (t.put a v) := h.putOf (mayTouch_of_shared ha)
theorem wrShared (h : s.Within cs t) {f : Fld} {v : Nat} (ha : sharedWord f.addr = true := by clear * -; decide +revert) :
    s.Within cs (t.wr f v) := h.putShared ha
/-- A field of LEC_STATUS other than RUNNING. -/
theorem wrStatus (h : s.Within cs t) {n : Fin 4} (hn : n ∈ cs) {f : Fld} {v : Nat} (ha : f.addr = R.LEC_STATUS n)
    (hf : ∀ m, apart f (F.LEC_STATUS_RUNNING m) = true) : s.Within cs (t.wr f v) := by
  have ht : mayTouch cs f.addr = true := by
    have hw : (windowWord n (R.LEC_STATUS n) && R.LEC_STATUS n != R.LEC_CTRL n) = true := by clear * -; decide +revert
    rw [ha, mayTouch, Bool.or_eq_true, List.any_eq_true]
    exact .inr ⟨n, hn, hw⟩
  exact h.trans ⟨fun x hx => get_wr_ne _ _ (by rintro rfl; simp [ht] at hx),
    fun m hm => (on_wr_apart _ _ (hf m)).trans hm, rfl, rfl, rfl, rfl, rfl⟩
/-- LEC_STATUS is cleared: the channel does not run. -/
theorem clearStatus (h : s.Within cs t) {n : Fin 4} (hn : n ∈ cs) : s.Within cs (t.put (R.LEC_STATUS n) 0) := by
  have ht : mayTouch cs (R.LEC_STATUS n) = true := by
    have hw : (windowWord n (R.LEC_STATUS n) && R.LEC_STATUS n != R.LEC_CTRL n) = true := by clear * -; decide +revert
    rw [mayTouch, Bool.or_eq_true, List.any_eq_true]
    exact .inr ⟨n, hn, hw⟩
  refine h.trans ⟨fun x hx => get_put_ne _ _ (by rintro rfl; simp [ht] at hx), fun m hm => ?_, by simp, by simp, by simp, by simp, by simp⟩
  by_cases e : R.LEC_STATUS m = R.LEC_STATUS n
  · rw [on, State.rd, show (F.LEC_STATUS_RUNNING m).addr = R.LEC_STATUS n from e, get_put_self]
    simp [bits]
  · rw [on_put_ne _ _ e, hm]

theorem modSys (h : s.Within cs t) {f : Sys → Sys} : s.Within cs (t.modSys f) := h.other
theorem modPins (h : s.Within cs t) {f : Pins → Pins} : s.Within cs (t.modPins f) := h.other
theorem modFw (h : s.Within cs t) {f : Fw → Fw} : s.Within cs (t.modFw f) := h.other
theorem modEvr (h : s.Within cs t) {f : Evr → Evr} : s.Within cs (t.modEvr f) := h.other
theorem modCh (h : s.Within cs t) {m : Fin 4} {f : Lec → Lec} : s.Within cs (t.modCh m f) := h.other
theorem setComp (h : s.Within cs t) {r : RegFile} : s.Within cs (t.setComp r) := h.other
theorem setStrm (h : s.Within cs t) {r : RegFile} : s.Within cs (t.setStrm r) := h.other
theorem setActv (h : s.Within cs t) {r : RegFile} : s.Within cs (t.setActv r) := h.other
theorem eventRegs_shared {a : Nat} (h : a ∈ eventRegs) : sharedWord a = true := (by decide : ∀ a ∈ eventRegs, sharedWord a = true) a h
theorem logEvent (h : s.Within cs t) {code sev a b : Nat} : s.Within cs (t.logEvent code sev a b) :=
  h.trans ⟨fun x hx => logEvent_get _ _ _ _ _ fun he => by simp [(mayTouch_of_shared (cs := cs) (eventRegs_shared he)).1] at hx,
    fun m hm => (logEvent_on _ _ _ _ _ (by clear * -; decide +revert)).trans hm, by simp, by simp, by simp, by simp, by simp⟩
theorem errHitOf (h : s.Within cs t) {base code : Nat} (h0 : mayTouch cs (base + 0x1F0) = true ∧ ∀ m, R.LEC_STATUS m ≠ base + 0x1F0)
    (h1 : mayTouch cs (base + 0x1F4) = true ∧ ∀ m, R.LEC_STATUS m ≠ base + 0x1F4) : s.Within cs (t.errHit base code) :=
  ite ((h.putOf h0).putOf h1) ((h.putOf h0).putOf h1)
/-- An error of a system block. -/
theorem errShared (h : s.Within cs t) {base code sev a b : Nat}
    (h0 : sharedWord (base + 0x1F0) = true := by clear * -; decide +revert)
    (h1 : sharedWord (base + 0x1F4) = true := by clear * -; decide +revert) : s.Within cs (t.errEvent base code sev a b) :=
  (h.errHitOf (mayTouch_of_shared h0) (mayTouch_of_shared h1)).logEvent
/-- An error of a sub-block of channel n. -/
theorem errOwn (h : s.Within cs t) {n : Fin 4} (hn : n ∈ cs) {base code sev a b : Nat}
    (h0 : ownWord n (base + 0x1F0) = true := by clear * -; decide +revert)
    (h1 : ownWord n (base + 0x1F4) = true := by clear * -; decide +revert) : s.Within cs (t.errEvent base code sev a b) :=
  (h.errHitOf (mayTouch_of_own hn h0) (mayTouch_of_own hn h1)).logEvent
theorem blockEvent (h : s.Within cs t) {n : Fin 4} (hn : n ∈ cs) {base code sev a b : Nat}
    (h0 : ownWord n (base + 0x1F0) = true := by clear * -; decide +revert)
    (h1 : ownWord n (base + 0x1F4) = true := by clear * -; decide +revert) : s.Within cs (t.blockEvent base code sev a b) :=
  ite (h.errOwn hn h0 h1) h.logEvent

/-! ### Clocks, notifications, register writes -/

theorem setPll (h : s.Within cs t) {i : Nat} {on lock : Bool} : s.Within cs (t.setPll i on lock) := h.wrShared.wrShared
theorem setClk (h : s.Within cs t) {d : Nat} {on : Bool} : s.Within cs (t.setClk d on) := by
  unfold State.setClk
  split
  · exact h
  · next hd =>
    have hen : sharedWord (R.SYS_CLKENk (d / 32)) = true := decide_eq_true (by unfold R.SYS_CLKENk; omega)
    have hgood : sharedWord (R.SYS_CLKGOODk (d / 32)) = true := decide_eq_true (by unfold R.SYS_CLKGOODk; omega)
    exact ((ite h.modSys h).putShared hen).bind fun h => ite (by
      split
      · exact ite h h.setPll
      · exact h) (h.putShared hgood)
theorem setClks (h : s.Within cs t) {lo hi : Nat} {on : Bool} : s.Within cs (t.setClks lo hi on) :=
  h.foldl fun _ _ h => h.setClk
theorem linkClk (h : s.Within cs t) {m : Fin 4} {on : Bool} : s.Within cs (t.linkClk m on) := h.setClks.modPins
theorem csiClk (h : s.Within cs t) {rx : Fin 2} {on : Bool} : s.Within cs (t.csiClk rx on) := h.setClks.modPins
theorem csiEnable (h : s.Within cs t) : s.Within cs t.csiEnable :=
  h.foldl fun _ _ h => ite h.wrShared.wrShared.csiClk (ite h.wrShared.csiClk h)
theorem modPort (h : s.Within cs t) {p : Fin 3} {f : Port → Port} : s.Within cs (t.modPort p f) := h.other
theorem notify (h : s.Within cs t) {p : Fin 3} {op : Nat} {payload : List Byte} : s.Within cs (t.notify p op payload) :=
  ite h.modPort (h.modPort.bind fun h => ite h h.errShared)
theorem done (h : s.Within cs t) {g : Tag} {st detail : Nat} : s.Within cs (t.done g st detail) := ite h.notify h
theorem doneOpt (h : s.Within cs t) {g : Option Tag} {st detail : Nat} : s.Within cs (t.doneOpt g st detail) := by
  unfold State.doneOpt
  split
  · exact h
  · exact h.done
theorem report0108 (h : s.Within cs t) {a : Nat} (h0 : sharedWord (errBaseOf a + 0x1F0) = true := by clear * -; decide +revert)
    (h1 : sharedWord (errBaseOf a + 0x1F4) = true := by clear * -; decide +revert) : s.Within cs (t.report0108 a) := by
  unfold State.report0108
  split
  · exact h
  · exact ((h.errHitOf (mayTouch_of_shared h0) (mayTouch_of_shared h1)).putShared h0).logEvent
theorem plainShared (h : s.Within cs t) {a v : Nat} (ha : sharedWord a = true := by clear * -; decide +revert)
    (h0 : sharedWord (errBaseOf a + 0x1F0) = true := by clear * -; decide +revert)
    (h1 : sharedWord (errBaseOf a + 0x1F4) = true := by clear * -; decide +revert) : s.Within cs (t.plainWrite a v) := by
  unfold State.plainWrite
  split
  · exact h
  · exact (h.putShared ha).bind fun h => ite (h.report0108 h0 h1) h

/-! ### Links, masks, sources, chains, Tutor -/

theorem modLink (h : s.Within cs t) {m : Fin 4} {f : LinkRun → LinkRun} : s.Within cs (t.modLink m f) := h.modCh
theorem modMask (h : s.Within cs t) {m : Fin 4} {f : MaskRun → MaskRun} : s.Within cs (t.modMask m f) := h.modCh
theorem modSrc (h : s.Within cs t) {m : Fin 4} {f : SrcRun → SrcRun} : s.Within cs (t.modSrc m f) := h.modCh
theorem modChn (h : s.Within cs t) {m : Fin 4} {f : ChnRun → ChnRun} : s.Within cs (t.modChn m f) := h.modCh
theorem modTut (h : s.Within cs t) {m : Fin 4} {f : TutRun → TutRun} : s.Within cs (t.modTut m f) := h.modCh
theorem modBpf (h : s.Within cs t) {m : Fin 4} {f : BpfRun → BpfRun} : s.Within cs (t.modBpf m f) := h.modCh
theorem modCtx (h : s.Within cs t) {m c : Fin 4} {f : CtxRun → CtxRun} : s.Within cs (t.modCtx m c f) := h.modTut
theorem modLay (h : s.Within cs t) {m x : Fin 4} {f : LayerRun → LayerRun} : s.Within cs (t.modLay m x f) := h.modCh
theorem send (h : s.Within cs t) {m : Fin 4} {typ : Nat} {payload : List Byte} : s.Within cs (t.send m typ payload) :=
  ite h h.modLink
theorem mgmt (h : s.Within cs t) {m : Fin 4} {cmd : Nat} {args : List Byte} : s.Within cs (t.mgmt m cmd args) := h.send
theorem mskStatus (h : s.Within cs t) {n : Fin 4} (hn : n ∈ cs) : s.Within cs (t.mskStatus n) := (h.wr hn).wrB hn
theorem sendHard (h : s.Within cs t) {n : Fin 4} (hn : n ∈ cs) {k : Nat} : s.Within cs (t.sendHard n k) :=
  ite h (ite (h.send.incSat hn).modMask h.modMask)

/-- A word of the sub-blocks FETCH to TRC of a channel (R15). -/
theorem ownWord_of_offset {n : Fin 4} {a : Nat} (hlo : lecBase n ≤ a) (hhi : a < lecBase n + 0x3F000) : ownWord n a = true := by
  simp [ownWord, windowWord, R.LEC_CTRL, R.LEC_STATUS]
  omega

theorem hardChanged (h : s.Within cs t) {n : Fin 4} (hn : n ∈ cs) {k cause : Nat} (hk : k < 64) : s.Within cs (t.hardChanged n k cause) :=
  ((((((h.incWrap hn (ownWord_of_offset (by simp [F.MSK_HSs_GEN, R.MSK_HSs]; omega)
    (by simp [F.MSK_HSs_GEN, R.MSK_HSs]; omega))).wr hn).wr hn).wr hn).modMask).sendHard hn).mskStatus hn
theorem hardEmpty (h : s.Within cs t) {n : Fin 4} (hn : n ∈ cs) {k cause : Nat} (hk : k < 64) : s.Within cs (t.hardEmpty n k cause) := by
  have hlive : ownWord n (R.MSK_HSs n k) = true := ownWord_of_offset (by unfold R.MSK_HSs; omega) (by unfold R.MSK_HSs; omega)
  have hremain : ownWord n (R.MSK_HRs n k) = true := ownWord_of_offset (by unfold R.MSK_HRs; omega) (by unfold R.MSK_HRs; omega)
  exact (((h.wr hn hlive).wr hn hremain).foldlMem (P := (· < 4)) (by decide) fun _ w hw h =>
    h.put hn (ownWord_of_offset (by unfold R.MSK_HMs; omega) (by unfold R.MSK_HMs; omega))).hardChanged hn hk
theorem softClear (h : s.Within cs t) {n : Fin 4} (hn : n ∈ cs) {k : Nat} (hk : k < 64) : s.Within cs (t.softSet n ⟨k, none⟩) := by
  unfold State.softSet
  exact (h.foldlMem (P := (· < 4)) (by decide) fun _ w hw h =>
    h.put hn (ownWord_of_offset (by dsimp only [R.CMP_SMs]; omega) (by dsimp only [R.CMP_SMs]; omega))).modMask
theorem maskLatch (h : s.Within cs t) {n : Fin 4} : s.Within cs (t.maskLatch n) := by
  unfold State.maskLatch
  exact h.modMask
theorem maskStop (h : s.Within cs t) {n : Fin 4} (hn : n ∈ cs) : s.Within cs (t.maskStop n) := by
  have slots : ∀ (p : Nat → Bool), ∀ k ∈ (List.range 64).filter p, k < 64 := fun p k hk =>
    List.mem_range.mp (List.mem_of_mem_filter hk)
  exact ((((h.foldlMem (slots _) fun _ _ hk h => h.hardEmpty hn hk).foldlMem (slots _) fun _ _ hk h =>
    h.softClear hn hk).modMask.wr hn).wr hn).logEvent
theorem setLampEn (h : s.Within cs t) {n : Fin 4} (hn : n ∈ cs) {high : Bool} : s.Within cs (t.setLampEn n high) :=
  ((ite h h.modPins).wrB hn).wrB hn
theorem lampUpdate (h : s.Within cs t) {n : Fin 4} (hn : n ∈ cs) : s.Within cs (t.lampUpdate n) := h.setLampEn hn
theorem chnOe (h : s.Within cs t) {n : Fin 4} (hn : n ∈ cs) : s.Within cs (t.chnOe n) := h.modPins.wrB hn
theorem sendAmp (h : s.Within cs t) {n : Fin 4} {words : List Nat} {gen k : Nat} : s.Within cs (t.sendAmp n words gen k) := h.send
theorem ampTransfer (h : s.Within cs t) {n : Fin 4} : s.Within cs (t.ampTransfer n) := ite h (h.modSrc.foldl fun _ _ h => h.sendAmp)
theorem setF (h : s.Within cs t) {n : Fin 4} (hn : n ∈ cs) {f : Nat} : s.Within cs (t.setF n f) :=
  (h.modSrc.wrB hn).bind fun h => ite (h.blockEvent hn) (ite (h.blockEvent hn) h)
theorem lawUpdate (h : s.Within cs t) {n : Fin 4} (hn : n ∈ cs) {was : Bool} : s.Within cs (t.lawUpdate n was) :=
  (h.wrB hn).bind fun h => ite h ((ite h (h.setF hn)).modSrc.wr hn)
theorem chnSync (h : s.Within cs t) {n : Fin 4} (hn : n ∈ cs) : s.Within cs (t.chnSync n) :=
  (ite (h.wr hn) (((h.wr hn).wr hn).wr hn).modChn).chnOe hn
theorem ctxRunning (h : s.Within cs t) {n : Fin 4} (hn : n ∈ cs) {c : Fin 4} {b : Bool} : s.Within cs (t.ctxRunning n c b) :=
  ((h.wrB hn).wrB hn).wr hn
theorem ctxDisable (h : s.Within cs t) {n : Fin 4} (hn : n ∈ cs) {c : Fin 4} : s.Within cs (t.ctxDisable n c) :=
  h.modTut.modCtx.ctxRunning hn
theorem tutorAllOff (h : s.Within cs t) (hcs : ∀ n, n ∈ cs) {keep : Bool} : s.Within cs (t.tutorAllOff keep) :=
  h.foldl fun _ n h₂ => h₂.foldl fun _ _ h₁ => (ite h₁.modCtx h₁).bind fun h => ite (h.ctxDisable (hcs n)) h

/-! ### Composition, bit-planes, link operations -/

theorem patternCheck (h : s.Within cs t) {n : Fin 4} (hn : n ∈ cs) {size : Option (Nat × Nat)} : s.Within cs (t.patternCheck n size) := h.wrB hn
theorem fetchStatus (h : s.Within cs t) {n : Fin 4} (hn : n ∈ cs) : s.Within cs (t.fetchStatus n) := (((h.wr hn).wr hn).wr hn).wr hn
theorem workLoad (h : s.Within cs t) {n : Fin 4} (hn : n ∈ cs) : s.Within cs (t.workLoad n) := by
  unfold State.workLoad
  exact (h.foldl fun _ _ h => ite (h.wr hn) h).modCh
theorem layersFresh (h : s.Within cs t) {n : Fin 4} (hn : n ∈ cs) : s.Within cs (t.layersFresh n) := h.foldl fun _ _ h => (h.wr hn).wr hn
theorem layersIdle (h : s.Within cs t) {n : Fin 4} (hn : n ∈ cs) : s.Within cs (t.layersIdle n) :=
  (((h.layersFresh hn).foldl fun _ _ h => h.modLay).fetchStatus hn).wr hn
theorem replayStop (h : s.Within cs t) {n : Fin 4} {cause : Nat} : s.Within cs (t.replayStop n cause) := ite h.send.modBpf h
theorem replayQuit (h : s.Within cs t) {n : Fin 4} (hn : n ∈ cs) {cause : Nat} : s.Within cs (t.replayQuit n cause) :=
  h.replayStop.modBpf.bind fun h₁ => (ite (h₁.wr hn) h₁).bind fun h => ite h.logEvent h
theorem linkTiming (h : s.Within cs t) {n : Fin 4} (hn : n ∈ cs) : s.Within cs (t.linkTiming n) := (h.wr hn).wr hn
theorem setLinkMode (h : s.Within cs t) {n : Fin 4} (hn : n ∈ cs) {lanes rate back : Nat} : s.Within cs (t.setLinkMode n lanes rate back) :=
  (((h.wr hn).wr hn).wr hn).linkTiming hn
theorem negDone (h : s.Within cs t) {n : Fin 4} {st detail : Nat} : s.Within cs (t.negDone n st detail) := by
  unfold State.negDone
  split
  · exact h.modLink.doneOpt
  · exact h
theorem linkOff (h : s.Within cs t) {n : Fin 4} (hn : n ∈ cs) {bye : Bool} : s.Within cs (t.linkOff n bye) := by
  unfold State.linkOff
  exact (((ite h.mgmt h).negDone.linkClk.put hn).setLinkMode hn).modLink

/-! ### Frame timing -/

theorem toStream (h : s.Within cs t) {n : Fin 4} : s.Within cs (t.toStream n) := h.setStrm.modCh
theorem ringsTrim (h : s.Within cs t) : s.Within cs t.ringsTrim := h.modFw.csiEnable
theorem setLocked (h : s.Within cs t) {n : Fin 4} (hn : n ∈ cs) {b : Bool} : s.Within cs (t.setLocked n b) :=
  h.wrShared.wrStatus hn rfl fun m => by clear * -; decide +revert
theorem flJoin (h : s.Within cs t) (hcs : ∀ n, n ∈ cs) : s.Within cs t.flJoin :=
  ite h (h.foldl fun _ n h₁ => ite (h₁.modCh.bind fun h => ite h (h.wr (hcs n))) h₁)
theorem flApply (h : s.Within cs t) (hcs : ∀ n, n ∈ cs) : s.Within cs t.flApply :=
  h.setActv.modSys.bind fun h₂ => ((ite h₂.wrShared.modSys h₂).foldl fun _ n h₁ => (ite (h₁.setLocked (hcs n)).logEvent
    (ite (h₁.setLocked (hcs n)) h₁)).bind fun h => ite h h.modCh).flJoin hcs
theorem flWrite (h : s.Within cs t) (hcs : ∀ n, n ∈ cs) {v : Nat} : s.Within cs (t.flWrite v) :=
  h.plainShared.bind fun h₁ => (ite h₁ h₁.wrShared).bind fun h => ite h.modSys (h.flApply hcs)
theorem flFrom (h : s.Within cs t) (hcs : ∀ n, n ∈ cs) {n : Fin 4} : s.Within cs (t.flFrom n) := by
  unfold State.flFrom
  split
  · exact h
  · exact ite h (h.flWrite hcs)
theorem commitsDone (h : s.Within cs t) : s.Within cs t.commitsDone := h.modFw.foldl fun _ _ h => h.doneOpt
theorem commitTick (h : s.Within cs t) {n : Fin 4} {stopped : Bool} : s.Within cs (t.commitTick n stopped) := h.modFw.commitsDone
theorem portTick (h : s.Within cs t) {n : Fin 4} : s.Within cs (t.portTick n) := h.modFw.commitsDone
theorem relit (h : s.Within cs t) {n : Fin 4} : s.Within cs (t.relit n) := ite h.modLink h
theorem moveAll (h : s.Within cs t) (hcs : ∀ n, n ∈ cs) {n : Fin 4} {bank : RegFile} {cfg : Option Cfg} {commit : Bool} :
    s.Within cs (t.moveAll n bank cfg commit) := by
  have hn := hcs n
  unfold State.moveAll
  extract_lets was old cfgOld s₁ s₂ s₃ s₄ s₅ s₆ s₇ s₈
  have h₄ : s.Within cs s₄ := (h.setComp.ampTransfer.modCh.workLoad hn).toStream.modCh.lawUpdate hn
  have h₅ : s.Within cs s₅ := ite h₄.modTut h₄
  have h₆ : s.Within cs s₆ := by
    unfold s₆
    split
    · exact h₅.wr hn
    · exact h₅
  have h₇ : s.Within cs s₇ := (h₆.patternCheck hn).linkTiming hn
  exact (ite h₇.relit h₇).ringsTrim.flFrom hcs
theorem speedEnd (h : s.Within cs t) (hcs : ∀ n, n ∈ cs) : s.Within cs t.speedEnd := by
  unfold State.speedEnd
  split
  · exact ite (h.modSys.foldl fun _ n h => (h.wr (hcs n)).chnSync (hcs n)) h
  · exact h
theorem noAwait (h : s.Within cs t) (hcs : ∀ n, n ∈ cs) {n : Fin 4} : s.Within cs (t.noAwait n) := h.modSys.speedEnd hcs
theorem groupEnd (h : s.Within cs t) (hcs : ∀ n, n ∈ cs) : s.Within cs t.groupEnd :=
  h.foldl fun _ n h₁ => (ite (h₁.setLocked (hcs n)) h₁).bind fun h => ite h.modCh h

/-- The state in which a channel that stops is cleared, and what follows. -/
theorem channelStop_within (s : State) (hcs : ∀ n, n ∈ cs) (n : Fin 4) :
    ∃ u, s.Within cs u ∧ (u.put (R.LEC_STATUS n) 0).Within cs (s.channelStop n) := by
  have hn := hcs n
  have h := refl (cs := cs) s
  exact ⟨_, ((ite (h.maskLatch.moveAll hcs) (ite (h.moveAll hcs) (h.moveAll hcs))).wr hn).wr hn,
    ((refl _).setLocked hn).bind fun h₂ =>
      ((((((ite h₂ (h₂.replayQuit hn)).modCh).wr hn).layersIdle hn).maskStop hn).lampUpdate hn).bind fun h₁ =>
      (ite (h₁.groupEnd hcs) h₁).bind fun h => ((ite (h.flApply hcs) h).noAwait hcs).commitTick⟩

theorem channelStop (h : s.Within cs t) (hcs : ∀ n, n ∈ cs) {n : Fin 4} : s.Within cs (t.channelStop n) := by
  obtain ⟨u, hu, hs⟩ := channelStop_within t hcs n
  exact (h.trans (hu.clearStatus (hcs n))).trans hs

end State.Within

end Sys2Proof.Machine
end

section
/-! SUPPORT. The firmware watchdog (R71): how it is armed, and what its expiry leaves. -/

set_option Elab.async false

namespace Sys2Proof.Machine
open State

/-- What each step of a loop over the channels establishes, and every step keeps, holds at its end for every channel. -/
theorem State.chans_each {P : State → Fin 4 → Prop} {f : State → Fin 4 → State} (hp : ∀ u n, P (f u n) n)
    (hk : ∀ u m n, P u n → P (f u m) n) (s : State) (n : Fin 4) : P (chans.foldl f s) n := by
  have loop : ∀ (l : List (Fin 4)) (u : State), n ∈ l ∨ P u n → P (l.foldl f u) n := fun l => by
    induction l with
    | nil => exact fun u hu => hu.resolve_left List.not_mem_nil
    | cons m l ih =>
      refine fun u hu => ih _ (hu.symm.elim (fun h => .inr (hk u m n h)) fun hm => ?_)
      rcases List.mem_cons.mp hm with rfl | hm
      · exact .inr (hp u n)
      · exact .inl hm
  exact loop chans s (.inl (mem_chans n))

/-- The pins but FAULT_N. -/
def Pins.noFault (p : Pins) : Pins := { p with faultLow := false }

namespace State

/-! ### Every channel stops -/

/-- Channel n does not run, and nothing asks it to. -/
def stoppedCh (s : State) (n : Fin 4) : Prop := s.on (F.LEC_STATUS_RUNNING n) = false ∧ s.on (F.LEC_CTRL_RUN n) = false

theorem stoppedCh_congr {s t : State} (h : ∀ a, 0x40100000 ≤ a → t.get a = s.get a) {n : Fin 4} (hs : s.stoppedCh n) : t.stoppedCh n :=
  ⟨(on_congr (rd_congr (h _ (by clear * -; decide +revert)))).trans hs.1,
    (on_congr (rd_congr (h _ (by clear * -; decide +revert)))).trans hs.2⟩

theorem Within.stoppedCh {s t : State} (h : s.Within chans t) {n : Fin 4} (hs : s.stoppedCh n) : t.stoppedCh n :=
  ⟨h.run n hs.1, (on_congr (h.rd (by clear * -; decide +revert))).trans hs.2⟩

theorem stopNow_stops (s : State) (n : Fin 4) : (s.stopNow 15).stoppedCh n := by
  have hall : ∀ m : Fin 4, bit 15 m.val = true := by decide
  have hrun : ∀ (u : State) m, (u.wr (F.LEC_CTRL_RUN m) 0).on (F.LEC_CTRL_RUN m) = false := fun u m =>
    on_wr_zero _ (by clear * -; decide +revert)
  unfold stopNow forMask
  simp only [hall, if_true]
  refine chans_each (P := stoppedCh) (fun u m => ?_) (fun u m k hk => ?_) s n
  · split
    · obtain ⟨v, hv, hw⟩ := Within.channelStop_within (u.wr (F.LEC_CTRL_RUN m) 0) mem_chans m
      refine hw.stoppedCh ⟨?_, ?_⟩
      · rw [on, rd, show (F.LEC_STATUS_RUNNING m).addr = R.LEC_STATUS m from rfl, get_put_self]
        simp [bits]
      · rw [on_put_ne _ _ (by clear * -; decide +revert), on_congr (hv.rd (by clear * -; decide +revert)), hrun]
    · next h => exact ⟨Bool.eq_false_iff.mpr h, hrun u m⟩
  · have h : (u.wr (F.LEC_CTRL_RUN m) 0).stoppedCh k := by
      refine ⟨(on_wr_apart _ _ (by clear * -; decide +revert)).trans hk.1, ?_⟩
      by_cases e : k = m
      · subst e
        exact hrun u k
      · exact (on_wr_apart _ _ (by clear hk; decide +revert)).trans hk.2
    split
    · exact ((Within.refl _).channelStop mem_chans).stoppedCh h
    · exact h


/-! ### What an event, a notification and the end of a grant do to the pins: FAULT_N alone -/

theorem logEvent_noFault (s : State) (code sev a b : Nat) : (s.logEvent code sev a b).pins.noFault = s.pins.noFault := by
  have h : (s.occur code sev).pins.noFault = s.pins.noFault := by
    unfold occur
    extract_lets u
    split
    · simp [faultDrive, modPins, Pins.noFault, u]
    · simp [u]
  unfold logEvent
  split
  · simpa [enqueue] using h
  · simpa [dropReq] using h

theorem notify_noFault (s : State) (p : Fin 3) (op : Nat) (payload : List Byte) :
    (s.notify p op payload).pins.noFault = s.pins.noFault := by
  unfold notify
  extract_lets q m s'
  split
  · simp
  · split
    · simp [s']
    · simp [s', errEvent, logEvent_noFault]

theorem endGrants_noFault (s : State) (reason : Nat) : (s.endGrants reason).pins.noFault = s.pins.noFault :=
  foldl_keeps (fun v => v.pins.noFault) (fun v g => by simp [endGrant, notify_noFault, logEvent_noFault]) _ s

/-! ### The end of all grants (R105) -/

theorem grantStatus_word (s : State) {a : Nat} (ha : sharedWord a = false) : s.grantStatus.get a = s.get a := by
  have hne : ∀ {x : Nat}, sharedWord x = true → a ≠ x := fun hx e => by simp [e, hx] at ha
  unfold grantStatus
  rw [get_wrB_ne _ _ (hne (by decide)), get_wr_ne _ _ (hne (by decide)), get_wr_ne _ _ (hne (by decide))]

theorem endGrant_after (u : State) (g : Grant) (reason : Nat) : ∃ v : State, v.Within [] (u.endGrant g reason) ∧
    v = (u.modMbx fun m => { m with grants := u.mbx.grants.filter fun x => x.num != g.num }).grantStatus :=
  ⟨_, (Within.refl _).logEvent.notify, rfl⟩

theorem endGrants_none (s : State) (reason : Nat) : (s.endGrants reason).mbx.grants = [] := by
  have loop : ∀ (l : List Grant) (u : State), u.mbx.grants ⊆ l → (l.foldl (fun s g => s.endGrant g reason) u).mbx.grants = [] := by
    intro l
    induction l with
    | nil => exact fun u h => List.subset_nil.mp h
    | cons g l ih =>
      refine fun u h => ih _ fun x hx => ?_
      obtain ⟨v, hv, rfl⟩ := endGrant_after u g reason
      rw [hv.grants, grantStatus_mbx, modMbx, List.mem_filter] at hx
      obtain ⟨hx, hne⟩ := hx
      refine (List.mem_cons.mp (h hx)).resolve_left ?_
      rintro rfl
      simp at hne
  exact loop _ s fun _ => id

theorem endGrants_word (s : State) (reason : Nat) {a : Nat} (ha : sharedWord a = false) : (s.endGrants reason).get a = s.get a :=
  foldl_keeps (fun u => u.get a) (fun u g => by
    obtain ⟨v, hv, rfl⟩ := endGrant_after u g reason
    rw [hv.word a (by simp [mayTouch, ha]), grantStatus_word _ ha]
    rfl) _ s

/-! ### The entry into BOOT, and what firmware finds after it -/

theorem setMode_word (s : State) (m cause : Nat) {a : Nat} (ha : sharedWord a = false) : (s.setMode m cause).get a = s.get a := 
  ((Within.refl (cs := []) s).wrShared.wrShared.logEvent).word a (by simp [mayTouch, ha])

theorem enterBoot_word (s : State) (was cause : Nat) {a : Nat} (ha : sharedWord a = false) :
    (s.enterBoot was cause).get a = s.get a := by
  unfold enterBoot
  extract_lets u
  rw [endGrants_word _ _ ha]
  unfold u
  split
  · exact ((Within.refl (cs := []) s).wrShared.wrShared).word a (by simp [mayTouch, ha])
  · exact setMode_word _ _ _ ha

theorem enterBoot_noFault (s : State) (was cause : Nat) : (s.enterBoot was cause).pins.noFault = s.pins.noFault := by
  unfold enterBoot
  extract_lets u
  rw [endGrants_noFault]
  unfold u
  split
  · simp
  · simp [setMode, logEvent_noFault]

theorem enterBoot_dram (s : State) (was cause : Nat) : (s.enterBoot was cause).dram = s.dram := by
  unfold enterBoot
  extract_lets u
  have hu : u.dram = s.dram := by
    unfold u
    split
    · simp
    · simp [setMode]
  exact (foldl_keeps State.dram (fun v g => endGrant_dram v g 4) _ u).trans hu

theorem portsReset_word (s : State) {a : Nat} (ha : sharedWord a = false) : s.portsReset.get a = s.get a := by
  have hs : ∀ u : State, (u.wrs [(F.MBX_HSTAT_READY, 0), (F.MBX_HSTAT_HELLO_DONE, 0), (F.MBX_HSTAT_OUTBOX_FULL, 0),
      (F.MBX_HSTAT_INBOX_BUSY, 0), (F.MBX_IRQ_STATUS_RESP, 0), (F.MBX_IRQ_STATUS_NOTIFY, 0)]).get a = u.get a := fun u =>
    ((Within.refl (cs := []) u).wrShared.wrShared.wrShared.wrShared.wrShared.wrShared).word a (by simp [mayTouch, ha])
  have hd : ∀ u : State, (u.portDefaults 0).get a = u.get a := fun u =>
    ((Within.refl (cs := []) u).modPort.wrShared.wrShared.wrShared.wrShared).word a (by simp [mayTouch, ha])
  unfold portsReset
  extract_lets u v w
  rw [hs]
  unfold w
  rw [get_wr_ne _ _ (by rintro rfl; revert ha; decide), hd]
  exact foldl_keeps (fun x => x.get a) (fun x p => by simp) _ s

theorem portsReset_kept (s : State) : s.portsReset.pins = s.pins ∧ s.portsReset.dram = s.dram ∧ s.portsReset.tb = s.tb := by
  simp [portsReset, wrs]

theorem recordCause_word (s : State) (k : Nat) (mid : Bool) {a : Nat} (ha : a ≠ R.RST_CAUSE) : (s.recordCause k mid).get a = s.get a := by
  unfold recordCause
  extract_lets u
  split
  · rw [get_incSat_ne _ ha, get_put_ne _ _ ha]
  · exact get_put_ne _ _ ha

/-- What a step of the reset controller leaves: every register but RST_STATUS, and the data of the other blocks. -/
structure Shown (s t : State) : Prop where
  word : ∀ a, a ≠ R.RST_STATUS → t.get a = s.get a
  dram : t.dram = s.dram
  tb : t.tb = s.tb
  mbx : t.mbx = s.mbx
  lec : t.lec = s.lec
  evr : t.evr = s.evr
  lampEnN : t.pins.lampEnN = s.pins.lampEnN

namespace Shown
variable {s t u : State}

theorem refl (s : State) : s.Shown s := ⟨fun _ _ => rfl, rfl, rfl, rfl, rfl, rfl, rfl⟩
theorem trans (h : s.Shown t) (k : t.Shown u) : s.Shown u :=
  ⟨fun a ha => (k.word a ha).trans (h.word a ha), k.dram.trans h.dram, k.tb.trans h.tb, k.mbx.trans h.mbx, k.lec.trans h.lec,
    k.evr.trans h.evr, k.lampEnN.trans h.lampEnN⟩
theorem ite {c : Prop} {_ : Decidable c} (h : s.Shown t) (k : s.Shown u) : s.Shown (if c then t else u) := by
  split
  · exact h
  · exact k
theorem wrStatus (h : s.Shown t) {f : Fld} {v : Nat} (hf : f.addr = R.RST_STATUS := by exact rfl) : s.Shown (t.wr f v) :=
  h.trans ⟨fun _ ha => get_wr_ne _ _ (hf ▸ ha), by simp, by simp, by simp, by simp, by simp, by simp⟩
theorem modRst (h : s.Shown t) {f : Rst → Rst} : s.Shown (t.modRst f) := h.trans ⟨fun _ _ => rfl, rfl, rfl, rfl, rfl, rfl, rfl⟩
theorem modFw (h : s.Shown t) {f : Fw → Fw} : s.Shown (t.modFw f) := h.trans ⟨fun _ _ => rfl, rfl, rfl, rfl, rfl, rfl, rfl⟩
theorem modCal (h : s.Shown t) {f : CalState → CalState} : s.Shown (t.modCal f) := h.trans ⟨fun _ _ => rfl, rfl, rfl, rfl, rfl, rfl, rfl⟩
theorem modSys (h : s.Shown t) {f : Sys → Sys} : s.Shown (t.modSys f) := h.trans ⟨fun _ _ => rfl, rfl, rfl, rfl, rfl, rfl, rfl⟩
theorem modPins (h : s.Shown t) {f : Pins → Pins} (hf : (f t.pins).lampEnN = t.pins.lampEnN := by exact rfl) : s.Shown (t.modPins f) :=
  h.trans ⟨fun _ _ => rfl, rfl, rfl, rfl, rfl, rfl, hf⟩
theorem showPend (h : s.Shown t) : s.Shown t.showPend := by
  unfold State.showPend
  split
  · exact h.wrStatus.wrStatus
  · exact h.wrStatus.wrStatus
theorem selectPart (h : s.Shown t) {cs : Nat} : s.Shown (t.selectPart cs) := ite h h.modFw.modCal
theorem releaseCpu (h : s.Shown t) : s.Shown t.releaseCpu :=
  ite h (h.wrStatus.trans ((ite (refl _) (refl _).selectPart).modRst.modPins))

end Shown

/-! ### The expiry (R71) -/

/-- LAMPn_EN_N driven high is high, and the other channels' pins stay. -/
theorem setLampEn_get (s : State) (n m : Fin 4) :
    (s.setLampEn n true).pins.lampEnN.get m = if m = n then true else s.pins.lampEnN.get m := by
  have h : (s.setLampEn n true).pins.lampEnN = if s.pins.lampEnN.get n then s.pins.lampEnN else s.pins.lampEnN.set n true := by
    unfold setLampEn
    extract_lets u
    simp only [wrB_pins, u]
    cases s.pins.lampEnN.get n <;> rfl
  rw [h]
  by_cases e : m = n
  · subst e
    cases hm : s.pins.lampEnN.get m <;> simp [hm]
  · cases s.pins.lampEnN.get n <;> simp [e, Four.get_set_ne]

/-- Every channel stopped with its lamp disabled, as the watchdog's expiry begins (R71). -/
def stilled (s : State) : State :=
  chans.foldl (fun (s : State) n => ((s.setLampEn n true).modLink n fun l => { l with idle := true, neg := none }).chnOe n) (s.stopNow 15)

/-- What the expiry then resets of the processor and of what belongs to it. -/
def renewed (s : State) : State :=
  let up := ([0, 1] : List (Fin 2)).foldl (fun m ch => setBit m ch.val (decide (3 ≤ s.rd (F.DMC_STATUS_STATE ch)))) 0
  ((((s.modFw fun _ => { flashOf s.fw with speed := s.fw.speed, delays := s.fw.delays }).modCal fun _ => calKept s.cal).modSys fun y =>
    { y with transit := none, speed := none, advArm := 0, advTick := [], checkOwed := false, marginLow := false }).modRst fun _ =>
    { Rst.reset with testenN := s.rst.testenN, released := s.rst.released, wdtTick := s.tb.toNat, dramUp := up,
                     edge := some s.tb.toNat, edgeArmed := true }).modPins fun p => { p with faultLow := false }

theorem watchdogReset_eq (s : State) : s.watchdogReset =
    ((((((s.stilled.renewed.showTransit false 0).portsReset.recordCause 4 (s.rd F.RST_STATUS_PHASE != 0)).wr F.RST_STATUS_PHASE
      4).enterBoot s.mode 4).tutorAllOff false).releaseCpu).showPend := rfl

theorem stilled_lamp (s : State) (n : Fin 4) : s.stilled.pins.lampEnN.get n = true := by
  have hp : ∀ (u : State) m, (((u.setLampEn m true).modLink m fun l => { l with idle := true, neg := none }).chnOe m).pins.lampEnN =
      (u.setLampEn m true).pins.lampEnN := fun u m => by simp [chnOe, modPins]
  refine chans_each (P := fun u n => u.pins.lampEnN.get n = true) (fun u m => ?_) (fun u m k hk => ?_) _ n
  · rw [hp]
    exact (u.setLampEn_get m m).trans (if_pos rfl)
  · rw [hp]
    exact (u.setLampEn_get m k).trans (ite_eq_left_iff.mpr fun _ => hk)

theorem stilled_within (s : State) : (s.stopNow 15).Within chans s.stilled :=
  (Within.refl _).foldl fun _ n h => ((h.setLampEn (mem_chans n)).modLink).chnOe (mem_chans n)

theorem renewed_kept (s : State) : s.renewed.dram = s.dram ∧ s.renewed.tb = s.tb ∧ s.renewed.pins.lampEnN = s.pins.lampEnN ∧
    ∀ a, s.renewed.get a = s.get a := by
  unfold renewed
  refine ⟨by simp, by simp, ?_, fun a => by simp⟩
  simp only [modPins, modRst_pins, modSys_pins, modCal_pins, modFw_pins]

theorem tutorAllOff_pins (s : State) (keep : Bool) : (s.tutorAllOff keep).pins = s.pins := by
  refine foldl_keeps pins (fun u n => foldl_keeps pins (fun v c => ?_) _ u) _ s
  cases keep <;> simp only [if_true] <;> split <;> simp [ctxDisable, ctxRunning, juncClear, modCtx, modTut]

/-- Where the processor's registers have been reset and BOOT has not been entered yet (R71). -/
theorem watchdogReset_via (s : State) : ∃ (w : State) (mid : Bool), s.watchdogReset =
    ((((w.recordCause 4 mid).wr F.RST_STATUS_PHASE 4).enterBoot s.mode 4).tutorAllOff false).releaseCpu.showPend ∧
    w.dram = s.dram ∧ w.tb = s.tb ∧ ∀ n, w.pins.lampEnN.get n = true ∧ w.stoppedCh n := by
  have h₁ : s.Steady (s.stopNow 15) := (Steady.refl s).stopNow
  have h₂ := s.stilled_within
  obtain ⟨hd, ht, hl, hg⟩ := s.stilled.renewed_kept
  obtain ⟨hpins, hdram, htb⟩ := (s.stilled.renewed.showTransit false 0).portsReset_kept
  refine ⟨_, _, s.watchdogReset_eq, ?_, ?_, fun n => ⟨?_, ?_⟩⟩
  · rw [hdram, showTransit, wr_dram, wrB_dram, hd, h₂.dram, h₁.dram]
  · rw [htb, showTransit, wr_tb, wrB_tb, ht, h₂.tb, h₁.tb]
  · rw [hpins, showTransit, wr_pins, wrB_pins, hl, stilled_lamp]
  · refine stoppedCh_congr (fun a ha => ?_) (h₂.stoppedCh (s.stopNow_stops n))
    rw [portsReset_word _ (decide_eq_false (by omega)), showTransit, get_wr_ne _ _ (by rintro rfl; revert ha; decide),
      get_wrB_ne _ _ (by rintro rfl; revert ha; decide), hg]

theorem watchdogReset_acts (s : State) : let t := s.watchdogReset
    t.mode = modeBOOT ∧ bit (t.get R.RST_CAUSE) 4 = true ∧ t.dram = s.dram ∧ t.tb = s.tb ∧ t.mbx.grants = [] ∧
      ∀ n : Fin 4, t.pins.lampEnN.get n = true ∧ t.stoppedCh n := by
  obtain ⟨w, mid, h, hdram, htb, hw⟩ := s.watchdogReset_via
  rw [h]
  generalize hx : (w.recordCause 4 mid).wr F.RST_STATUS_PHASE 4 = x
  have hxw : ∀ a, a ≠ R.RST_CAUSE → a ≠ R.RST_STATUS → x.get a = w.get a := fun a h1 h2 => by
    rw [← hx, get_wr_ne _ _ h2, recordCause_word _ _ _ h1]
  have hcause : bit (x.get R.RST_CAUSE) 4 = true := by
    rw [← hx, get_wr_ne _ _ (by decide), recordCause_bit _ (by decide)]
  have hx2 : x.pins = w.pins ∧ x.tb = w.tb ∧ x.dram = w.dram := by
    obtain ⟨_, hp, ht⟩ := recordCause_kept w 4 mid
    exact hx ▸ ⟨by rw [wr_pins, hp], by rw [wr_tb, ht], by cases mid <;> rfl⟩
  obtain ⟨hpins, hxtb, hxdram⟩ := hx2
  generalize hy : x.enterBoot s.mode 4 = y
  obtain ⟨u, hu, hmode, _, hutb, hucause, _⟩ := x.enterBoot_steady s.mode (cause := 4) (by decide)
  rw [hy] at hu
  have hy' : y.mbx.grants = [] := hy ▸ endGrants_none _ 4
  have hoff : y.Within chans (y.tutorAllOff false) := (Within.refl y).tutorAllOff mem_chans
  have hst : u.Steady (y.tutorAllOff false) := hu.tutorAllOff
  have hend : (y.tutorAllOff false).Shown (y.tutorAllOff false).releaseCpu.showPend := (Shown.refl _).releaseCpu.showPend
  generalize (y.tutorAllOff false).releaseCpu.showPend = t at hend ⊢
  refine ⟨?_, ?_, ?_, ?_, ?_, fun n => ⟨?_, ?_⟩⟩
  · exact (rd_congr (hend.word _ (by decide))).trans (hst.mode.trans hmode)
  · rw [hend.word _ (by decide), hst.word _ (by decide), hucause, hcause]
  · rw [hend.dram, hoff.dram, ← hy, enterBoot_dram, hxdram, hdram]
  · rw [hend.tb, hst.tb, hutb, hxtb, htb]
  · rw [hend.mbx, hoff.grants, hy']
  · rw [hend.lampEnN, tutorAllOff_pins, ← hy]
    have hf := congrArg Pins.lampEnN (enterBoot_noFault x s.mode 4)
    exact (congrArg (Four.get · n) hf).trans (hpins ▸ (hw n).1)
  · refine stoppedCh_congr (fun a ha => hend.word a (by rintro rfl; revert ha; decide)) (hoff.stoppedCh ?_)
    refine stoppedCh_congr (fun a ha => ?_) (hw n).2
    rw [← hy, enterBoot_word _ _ _ (decide_eq_false (by omega)), hxw a (by rintro rfl; revert ha; decide) (by rintro rfl; revert ha; decide)]

/-! ### Arming (R71) -/

theorem watchdogArm_armed {s : State} (h : s.on F.RST_WDT_CFG_ARMED = true) (v : Nat) : s.watchdogArm v = s := if_pos h

theorem watchdogArm_arms {s : State} (h : s.on F.RST_WDT_CFG_ARMED = false) {v : Nat} (hv : bit v 31 = true) :
    s.watchdogArm v = ((s.wr F.RST_WDT_CFG_TIMEOUT v).modRst fun r => { r with wdtTick := s.tb.toNat }).wr F.RST_WDT_CFG_ARMED 1 := by
  simp [watchdogArm, h, hv]

end State

/-- Settles O40: the watchdog arms once; its expiry stops every channel, and what follows the stop changes no register of a
channel but those that the end of the tutor writes. -/
theorem watchdogActs : Obligations.WatchdogActs := by
  intro v s
  refine ⟨⟨_, rfl, fun h => watchdogArm_armed h _, fun h hv => ?_⟩, ⟨_, rfl, ?_⟩, fun ha hin => ?_, fun ha hout hm hp => ?_⟩
  · have hto : (s.wr F.RST_WDT_CFG_TIMEOUT v.toNat).rd F.RST_WDT_CFG_TIMEOUT = v.toNat % 1024 := rd_wr _ _ (by decide)
    rw [watchdogArm_arms h hv]
    refine ⟨on_wr_one _ (by decide) rfl, ?_, by simp [modRst], fun a hn => ?_, by simp, by simp⟩
    · rw [rd_wr_apart _ _ (by decide)]
      exact hto
    · have hne : a ≠ R.RST_WDT_CFG := List.ne_of_not_mem_cons hn
      rw [get_wr_ne _ _ hne, modRst_get, get_wr_ne _ _ hne]
  · unfold modRst
    rfl
  · change Host.Outcome.next s.watchdogExpiry = _
    rw [watchdogExpiry, if_neg (by simp [ha]), if_neg (by simp [hin])]
  · have h : s.watchdogExpiry = s.watchdogReset := by
      rw [watchdogExpiry, if_neg (by simp [ha]), if_pos (by simp [ha, hout, hm, hp])]
    obtain ⟨hmode, hcause, hdram, htb, hgr, hch⟩ := s.watchdogReset_acts
    exact ⟨_, rfl, h ▸ ⟨hmode, hcause, hdram, htb, hgr, fun n => hch n⟩⟩

end Sys2Proof.Machine
end

section
/-! SUPPORT. Soft resets of blocks (R66, R68, R69): what the reset of a sub-block leaves of the other words, and which bits a
release clears. -/

set_option Elab.async false

namespace Sys2Proof.Machine
namespace State

/-! ### One block of a mask -/

/-- A loop that acts for one index alone. -/
theorem foldl_only {l : List Nat} {p : Nat → Bool} {i : Nat} (h : l.filter p = [i]) (f : State → Nat → State) (s : State) :
    l.foldl (fun s j => if p j then f s j else s) s = f s i := by
  rw [← List.foldl_filter, h]
  rfl

theorem subMask_only {i : Nat} (hi : i < 13) :
    ((List.range 13).filter fun j => bit (BitVec.ofNat 32 (2 ^ i)).toNat j || bit (BitVec.ofNat 32 (2 ^ i)).toNat 16) = [i] :=
  (by decide : ∀ i < 13, ((List.range 13).filter fun j =>
    bit (BitVec.ofNat 32 (2 ^ i)).toNat j || bit (BitVec.ofNat 32 (2 ^ i)).toNat 16) = [i]) i hi

/-! ### Registers of a range at reset -/

theorem bankReset_get (s : State) (lo hi a : Nat) :
    (s.bankReset lo hi).get a = if lo ≤ a ∧ a < hi then State.reset.get a else s.get a := by
  change (sget regReset (skeep _ s.regs) a).toNat = _
  rw [sget_skeep]
  by_cases h : lo ≤ a ∧ a < hi <;> simp [h] <;> rfl

theorem bankReset_getC (s : State) {lo hi a : Nat} (h : lo ≤ a ∧ a < hi) : (s.bankReset lo hi).getC a = State.reset.getC a := by
  change (sget regReset (skeep _ s.comp) a).toNat = _
  rw [sget_skeep, if_neg (by simp [h])]
  rfl

theorem bankReset_getS (s : State) {lo hi a : Nat} (h : lo ≤ a ∧ a < hi) : (s.bankReset lo hi).getS a = State.reset.getS a := by
  change (sget regReset (skeep _ s.strm) a).toNat = _
  rw [sget_skeep, if_neg (by simp [h])]
  rfl

/-! ### The reset of a sub-block -/

theorem portTick_banks (s : State) (n : Fin 4) : (s.portTick n).comp = s.comp ∧ (s.portTick n).strm = s.strm := by
  have hd : ∀ (u : State) (c : CommitRun), (u.doneOpt c.tag stOK 0).comp = u.comp ∧ (u.doneOpt c.tag stOK 0).strm = u.strm := by
    intro u c
    unfold doneOpt done
    split
    · simp
    · split <;> simp
  exact ⟨foldl_keeps State.comp (fun u c => (hd u c).1) _ _, foldl_keeps State.strm (fun u c => (hd u c).2) _ _⟩

theorem subHidden_within (s : State) (n : Fin 4) (i : Nat) : s.Within [] (s.subHidden n i) := by
  have h := Within.refl (cs := []) s
  unfold subHidden
  split
  · exact h.modCh
  · exact h.modMask
  · exact h.modBpf
  · exact h.modMask
  · exact h.modSrc
  · exact h.modLink
  · exact h.modChn.portTick
  · exact h.modTut
  · exact h.modCh
  · exact h

theorem subHidden_banks (s : State) (n : Fin 4) (i : Nat) : (s.subHidden n i).comp = s.comp ∧ (s.subHidden n i).strm = s.strm := by
  unfold subHidden
  split
  case h_7 => exact portTick_banks _ n
  all_goals exact ⟨rfl, rfl⟩

/-- What follows the reset of the registers of a sub-block (R68, R73): only SRC_STATUS and CHN_STATUS show it. -/
structure Cleared (n : Fin 4) (s t : State) : Prop where
  word : ∀ a, sharedWord a = false → a ≠ R.SRC_STATUS n → a ≠ R.CHN_STATUS n → t.get a = s.get a
  dram : t.dram = s.dram
  comp : t.comp = s.comp
  strm : t.strm = s.strm
  rst : t.rst = s.rst

namespace Cleared
variable {n : Fin 4} {s t u : State}

theorem refl (s : State) : Cleared n s s := ⟨fun _ _ _ _ => rfl, rfl, rfl, rfl, rfl⟩
theorem trans (h : Cleared n s t) (k : Cleared n t u) : Cleared n s u :=
  ⟨fun a h0 h1 h2 => (k.word a h0 h1 h2).trans (h.word a h0 h1 h2), k.dram.trans h.dram, k.comp.trans h.comp, k.strm.trans h.strm,
    k.rst.trans h.rst⟩
theorem modCh (h : Cleared n s t) {m : Fin 4} {f : Lec → Lec} : Cleared n s (t.modCh m f) := h.trans ⟨fun _ _ _ _ => rfl, rfl, rfl, rfl, rfl⟩
theorem modPins (h : Cleared n s t) {f : Pins → Pins} : Cleared n s (t.modPins f) := h.trans ⟨fun _ _ _ _ => rfl, rfl, rfl, rfl, rfl⟩
theorem subHidden (h : Cleared n s t) {i : Nat} : Cleared n s (t.subHidden n i) :=
  h.trans ⟨fun a ha _ _ => (t.subHidden_within n i).word a (by simp [mayTouch, ha]), (t.subHidden_within n i).dram,
    (t.subHidden_banks n i).1, (t.subHidden_banks n i).2, (t.subHidden_within n i).rst⟩
theorem lampUpdate (h : Cleared n s t) : Cleared n s (t.lampUpdate n) := by
  unfold State.lampUpdate setLampEn
  extract_lets v
  have hv : Cleared n s v := by
    unfold v
    split
    · exact h
    · exact h.modPins
  exact hv.trans ⟨fun a _ h1 _ => by rw [get_wrB_ne _ _ h1, get_wrB_ne _ _ h1], by simp, by simp, by simp, by simp⟩
theorem chnOe (h : Cleared n s t) : Cleared n s (t.chnOe n) := by
  unfold State.chnOe
  extract_lets low ret
  exact h.modPins.trans ⟨fun a _ _ h2 => get_wrB_ne _ _ h2, by simp, by simp, by simp, by simp⟩
theorem chainPins (h : Cleared n s t) {i : Nat} : Cleared n s (t.chainPins n i) := by
  unfold State.chainPins
  split
  · exact h.modPins
  · exact h

end Cleared

/-- The channels whose words the begin of a sub-block's reset may change. -/
def subScope (n : Fin 4) (i : Nat) : List (Fin 4) := if i = 12 then chans else [n]

/-- A sub-block enters reset: what stops, the reset of its registers, and what shows it. -/
theorem subReset_via (s : State) (n : Fin 4) (i : Nat) : ∃ u : State, s.Within (subScope n i) u ∧
    Cleared n (u.bankReset (lecBase n + subBase i) (lecBase n + subEnd i)) (s.subReset n i) := by
  unfold subReset
  extract_lets c s₁ s₂ low s₃ s₄
  have hn : n ∈ subScope n i := by
    unfold subScope
    split
    · exact mem_chans n
    · exact .head _
  have h₁ : s.Within (subScope n i) s₁ := by
    unfold s₁
    split
    · next hi =>
      have hcs : ∀ m, m ∈ subScope n i := fun m => by rw [subScope, if_pos hi]; exact mem_chans m
      have h := ((Within.refl (cs := subScope n i) s).wr hn (f := F.LEC_COMMIT_STATUS_PENDING n) (v := 0)).wr hn
        (f := F.LEC_COMMIT_STATUS_LATCHED n) (v := 0)
      exact .ite (h.channelStop hcs) h
    · exact .refl s
  refine ⟨s₂, .ite (h₁.linkOff hn) h₁, ?_⟩
  exact ((((Cleared.refl _).modCh).subHidden.lampUpdate.chnOe).modPins).chainPins

/-! ### A sub-block named in RST_BLK_CTRLn -/

theorem mayTouch_system {cs : List (Fin 4)} {a : Nat} (ha : a < 0x40100000) : mayTouch cs a = sharedWord a := by
  have h : ∀ n : Fin 4, windowWord n a = false := fun n => decide_eq_false (by unfold lecBase; omega)
  simp [mayTouch, h]

theorem showPend_banks (s : State) : s.showPend.comp = s.comp ∧ s.showPend.strm = s.strm := by
  unfold showPend
  split <;> simp

theorem showPend_pins (s : State) : s.showPend.pins = s.pins := by
  unfold showPend
  split <;> simp

theorem showPend_rst (s : State) : s.showPend.rst = s.rst := by
  unfold showPend
  split <;> simp

/-- A write that names one sub-block resets that one. -/
theorem softReset_sub (s : State) (n : Fin 4) {i : Nat} (hi : i < 13) : ∃ v, bit v i = true ∧
    s.softReset n.val (BitVec.ofNat 32 (2 ^ i)).toNat =
      ((s.put (R.RST_BLK_CTRLk n.val) (s.get (R.RST_BLK_CTRLk n.val) ||| v)).subReset n i).showPend := by
  refine ⟨(BitVec.ofNat 32 (2 ^ i)).toNat % 2 ^ 13 + (BitVec.ofNat 32 (2 ^ i)).toNat / 2 ^ 16 % 2 * 2 ^ 16, ?_, ?_⟩
  · exact (by decide : ∀ i < 13, bit ((BitVec.ofNat 32 (2 ^ i)).toNat % 2 ^ 13 + (BitVec.ofNat 32 (2 ^ i)).toNat / 2 ^ 16 % 2 * 2 ^ 16) i = true) i hi
  · have hn : chan n.val = n := by decide +revert
    unfold softReset
    rw [if_pos n.isLt, foldl_only (subMask_only hi), hn]

/-- What the reset of a sub-block does to the registers (R68). -/
theorem softReset_sub_acts (s : State) (n : Fin 4) {i : Nat} (hi : i < 13) :
    let t := s.softReset n.val (BitVec.ofNat 32 (2 ^ i)).toNat
    t.dram = s.dram ∧ bit (t.get (R.RST_BLK_CTRLk n.val)) i = true ∧
      (∀ a, lecBase n + subBase i ≤ a → a < lecBase n + subEnd i → a ≠ R.SRC_STATUS n → a ≠ R.CHN_STATUS n →
        t.get a = State.reset.get a ∧ t.getC a = State.reset.getC a ∧ t.getS a = State.reset.getS a) ∧
      (i ≠ 12 → ∀ m : Fin 4, m ≠ n → ∀ a, lecBase m ≤ a → a < lecBase m + 0x40000 → t.get a = s.get a) := by
  obtain ⟨v, hv, ht⟩ := s.softReset_sub n hi
  rw [ht]
  generalize hw : s.put (R.RST_BLK_CTRLk n.val) (s.get (R.RST_BLK_CTRLk n.val) ||| v) = w
  obtain ⟨u, hu, hc⟩ := w.subReset_via n i
  have hend := (Shown.refl (w.subReset n i)).showPend
  obtain ⟨hcomp, hstrm⟩ := (w.subReset n i).showPend_banks
  generalize (w.subReset n i).showPend = t at hend hcomp hstrm
  have hwin : subEnd i ≤ 0x40000 := (by decide : ∀ i < 13, subEnd i ≤ 0x40000) i hi
  have hget : ∀ a, sharedWord a = false → a ≠ R.SRC_STATUS n → a ≠ R.CHN_STATUS n → a ≠ R.RST_STATUS → t.get a =
      if lecBase n + subBase i ≤ a ∧ a < lecBase n + subEnd i then State.reset.get a else u.get a := fun a h0 h1 h2 h3 => by
    rw [hend.word a h3, hc.word a h0 h1 h2, bankReset_get]
  have hbase : 0x40100000 ≤ lecBase n := by unfold lecBase; omega
  refine ⟨?_, ?_, fun a hlo hhi h1 h2 => ⟨?_, ?_, ?_⟩, fun h12 m hm a hlo hhi => ?_⟩
  · rw [hend.dram, hc.dram, show (u.bankReset _ _).dram = u.dram from rfl, hu.dram, ← hw, put_dram]
  · have hk : R.RST_BLK_CTRLk n.val < 0x40100000 ∧ sharedWord (R.RST_BLK_CTRLk n.val) = false ∧ R.RST_BLK_CTRLk n.val ≠ R.RST_STATUS ∧
      R.RST_BLK_CTRLk n.val ≠ R.SRC_STATUS n ∧ R.RST_BLK_CTRLk n.val ≠ R.CHN_STATUS n := by clear * -; decide +revert
    obtain ⟨hlow, hsh, hst, hsrc, hchn⟩ := hk
    rw [hget _ hsh hsrc hchn hst, if_neg (by omega), hu.word _ (by rw [mayTouch_system hlow, hsh]), ← hw, get_put_self,
      bit_mod (by omega), bit_or, hv, Bool.or_true]
  · rw [hget a (decide_eq_false (by omega)) h1 h2 (by rintro rfl; revert hlo; unfold R.RST_STATUS; omega), if_pos ⟨hlo, hhi⟩]
  · rw [getC, hcomp, hc.comp]
    exact bankReset_getC u ⟨hlo, hhi⟩
  · rw [getS, hstrm, hc.strm]
    exact bankReset_getS u ⟨hlo, hhi⟩
  · have hwm : windowWord m a = true := windowWord_iff.mpr ⟨hlo, hhi⟩
    have hwn := windowWord_apart hwm hm.symm
    have hout : ¬ (lecBase n ≤ a ∧ a < lecBase n + 0x40000) := fun h => by simp [windowWord_iff.mpr h] at hwn
    have hst : windowWord n (R.SRC_STATUS n) = true ∧ windowWord n (R.CHN_STATUS n) = true := by clear * -; decide +revert
    have hne : a ≠ R.RST_STATUS ∧ a ≠ R.RST_BLK_CTRLk n.val := by
      unfold lecBase at hlo
      unfold R.RST_STATUS R.RST_BLK_CTRLk
      omega
    rw [hget a (not_shared_of_window hwm) (by rintro rfl; simp [hst] at hwn) (by rintro rfl; simp [hst] at hwn) hne.1,
      if_neg (by omega), hu.word a (by rw [subScope, if_neg h12]; exact not_mayTouch_of_window hwm hm), ← hw, get_put_ne _ _ hne.2]

/-! ### A DRAM controller -/

/-- Nothing but registers and the data of SYS differs. -/
def SysParts (s t : State) : Prop := ∃ r y, t = { s with regs := r, sys := y }

namespace SysParts
variable {s t u : State}

theorem refl (s : State) : SysParts s s := ⟨_, _, rfl⟩
theorem put (h : SysParts s t) {a v : Nat} : SysParts s (t.put a v) := by
  obtain ⟨r, y, rfl⟩ := h
  exact ⟨_, y, rfl⟩
theorem modSys (h : SysParts s t) {f : Sys → Sys} : SysParts s (t.modSys f) := by
  obtain ⟨r, y, rfl⟩ := h
  exact ⟨r, _, rfl⟩
theorem setPll (h : SysParts s t) {i : Nat} {on lock : Bool} : SysParts s (t.setPll i on lock) := h.put.put
theorem setClk (h : SysParts s t) {d : Nat} {on : Bool} : SysParts s (t.setClk d on) := by
  unfold State.setClk
  split
  · exact h
  · cases on
    · exact h.put.put
    · simp only [if_true]
      split
      · split
        · exact h.modSys.put
        · exact h.modSys.put.setPll
      · exact h.modSys.put
theorem setClks (h : SysParts s t) {lo hi : Nat} {on : Bool} : SysParts s (t.setClks lo hi on) := by
  unfold State.setClks
  induction List.range (hi + 1 - lo) generalizing t with
  | nil => exact h
  | cons i l ih => exact ih h.setClk

end SysParts

/-- What the receivers' clocks leave of the pins and the channels. -/
theorem csiEnable_kept (s : State) : s.csiEnable.pins.dramCke = s.pins.dramCke ∧ s.csiEnable.lec = s.lec := by
  have hclk : ∀ (u : State) (rx : Fin 2) (on : Bool), (u.csiClk rx on).pins.dramCke = u.pins.dramCke ∧ (u.csiClk rx on).lec = u.lec := by
    intro u rx on
    obtain ⟨r, y, h⟩ := (SysParts.refl u).setClks (lo := (sysDoms rx.val).1) (hi := (sysDoms rx.val).2) (on := on)
    unfold csiClk
    rw [h]
    exact ⟨rfl, rfl⟩
  refine ⟨foldl_keeps (fun v => v.pins.dramCke) (fun v rx => ?_) _ s, foldl_keeps State.lec (fun v rx => ?_) _ s⟩
  all_goals
    dsimp only
    split
    · simp [hclk]
    · split <;> simp [hclk]

/-- A write that names one DRAM controller resets that one: what stands before the receivers are enabled again. -/
theorem softReset_dram (s : State) (ch : Fin 2) : ∃ w : State, s.softReset 4 (BitVec.ofNat 32 (2 ^ (2 + ch.val))).toNat = w.csiEnable.showPend ∧
    w.lec = s.lec ∧ w.pins.dramCke.get ch = false ∧ w.dram = skeep (fun a => dramCh a != ch) s.dram ∧
    ∀ a, dmcBase ch ≤ a → a < dmcBase ch + 0x10000 → w.get a = State.reset.get a := by
  have hone : ((List.range 9).filter fun j => bit (BitVec.ofNat 32 (2 ^ (2 + ch.val))).toNat j) = [2 + ch.val] := by decide +revert
  have hduo : duo (2 + ch.val) = ch := by decide +revert
  unfold softReset
  rw [if_neg (by decide), if_pos rfl, foldl_only hone, sysReset, if_neg (by omega), if_pos (by omega), hduo]
  refine ⟨_, rfl, rfl, Two.get_set_self .., rfl, fun a hlo hhi => ?_⟩
  exact (bankReset_get _ _ _ a).trans (if_pos ⟨hlo, hhi⟩)

theorem softReset_dram_acts (s : State) (ch : Fin 2) : let t := s.softReset 4 (BitVec.ofNat 32 (2 ^ (2 + ch.val))).toNat
    t.lec = s.lec ∧ t.pins.dramCke.get ch = false ∧
      (∀ a, dmcBase ch ≤ a → a < dmcBase ch + 0x10000 → t.get a = State.reset.get a) ∧
      ∀ a, t.dbyte a = if dramCh a = ch then 0 else s.dbyte a := by
  obtain ⟨w, ht, hlec, hcke, hdram, hget⟩ := s.softReset_dram ch
  have hend := (Shown.refl w.csiEnable).showPend
  have hcsi : w.Within [] w.csiEnable := (Within.refl w).csiEnable
  obtain ⟨hpins, hl⟩ := w.csiEnable_kept
  rw [ht]
  refine ⟨?_, ?_, fun a hlo hhi => ?_, fun a => ?_⟩
  · rw [hend.lec, hl, hlec]
  · rw [showPend_pins, hpins, hcke]
  · have hbase : 0x40200000 ≤ a := Nat.le_trans (Nat.le_add_right ..) hlo
    rw [hend.word a (by unfold R.RST_STATUS; omega),
      hcsi.word a (by rw [mayTouch, List.any_nil, Bool.or_false]; exact decide_eq_false (by omega)), hget a hlo hhi]
  · rw [dbyte_congr hend.dram, dbyte_congr hcsi.dram, dbyte, hdram, sget_skeep]
    by_cases h : dramCh a = ch
    · simp only [h]
      simp
      rfl
    · simp [h, dbyte]

/-! ### A release -/

theorem bit_eq_testBit (v i : Nat) : bit v i = v.testBit i := by
  rw [Nat.testBit_eq_decide_div_mod_eq, bit]
  rfl

theorem bit_and (v w i : Nat) : bit (v &&& w) i = (bit v i && bit w i) := by simp [bit_eq_testBit]

theorem bit_succ (v i : Nat) : bit v (i + 1) = bit (v / 2) i := by
  rw [bit, bit, Nat.pow_succ', Nat.div_div_eq_div_mul]

/-- Taking away bits that a word has clears them. -/
theorem bit_sub {x y : Nat} (h : ∀ j, bit y j = true → bit x j = true) (i : Nat) : bit (x - y) i = (bit x i && !bit y i) := by
  have h0 : y % 2 = 1 → x % 2 = 1 := by simpa [bit] using h 0
  have hle : y ≤ x := by
    have he : x &&& y = y := Nat.eq_of_testBit_eq fun j => by
      have := h j
      simp only [bit_eq_testBit] at this
      cases hy : y.testBit j <;> simp [hy, this]
    exact he ▸ Nat.and_le_left
  induction i generalizing x y with
  | zero =>
    simp only [bit, Nat.pow_zero, Nat.div_one, beq_eq_decide]
    rcases Nat.mod_two_eq_zero_or_one y with hy | hy
    · simp [hy, show (x - y) % 2 = x % 2 by omega]
    · simp [hy, show (x - y) % 2 = 0 by omega]
  | succ i ih =>
    have hs : ∀ j, bit (y / 2) j = true → bit (x / 2) j = true := fun j => by simpa only [bit_succ] using h (j + 1)
    rw [bit_succ, bit_succ, bit_succ, show (x - y) / 2 = x / 2 - y / 2 by omega]
    exact ih hs (by simpa [bit] using hs 0) (by omega)

theorem bit_setBits_range (p : Nat → Bool) (l : List Nat) (m j : Nat) :
    bit (l.foldl (fun m i => if p i then setBit m i true else m) m) j = (bit m j || (decide (j ∈ l) && p j)) := by
  induction l generalizing m with
  | nil => simp
  | cons i l ih =>
    have hstep : bit (if p i then setBit m i true else m) j = (bit m j || (decide (j = i) && p j)) := by
      by_cases hj : j = i
      · subst hj
        by_cases hp : p j = true <;> simp [hp, bit_setBit_self]
      · by_cases hp : p i = true <;> simp [hp, hj, bit_setBit_ne]
    rw [List.foldl_cons, ih, hstep]
    by_cases h1 : j = i
    · simp only [h1, List.mem_cons, true_or, decide_true, Bool.true_and]
      cases p i <;> simp
    · simp [h1]

/-- The bits that a release clears. -/
theorem bit_releasable (s : State) (k v i : Nat) : bit (s.releasable k v) i = (decide (i < 17) && (bit (s.get (R.RST_BLK_CTRLk k) &&& v) i &&
    if i = 16 then (List.range 13).all fun j => (s.domWait (domRange (if k < 4 then subDoms (chan k) j else sysDoms j))).isEmpty
    else (s.domWait (domRange (if k < 4 then subDoms (chan k) i else sysDoms i))).isEmpty)) := by
  unfold releasable
  extract_lets held good
  rw [bit_setBits_range]
  rw [show bit 0 i = false by simp [bit], Bool.false_or]
  simp only [List.mem_range, held, good]

theorem Shown.answered {s t : State} (h : s.Shown t) {p : Fin 3} {mb : Fin 6} {op seq st detail : Nat} {data : List Byte}
    (ha : s.answered p mb op seq st detail data) : t.answered p mb op seq st detail data := by
  obtain ⟨hc, hbox, htx⟩ := ha
  have hp : t.port p = s.port p := by rw [port, port, h.mbx]
  have hfull : t.isFull mb.val = s.isFull mb.val := by rw [isFull, isFull, rd_congr (h.word _ (by decide))]
  refine ⟨hp ▸ hc, fun h0 => ?_, hp ▸ htx⟩
  rw [hfull, hostRead, h.mbx]
  exact hbox h0

/-- The blocks that a RESET_FUNCTION named through a word are all released (R138). -/
def tagFree (s : State) (k : Nat) (t : Nat × Nat × Tag) : Bool := t.1 == k && s.get (R.RST_BLK_CTRLk k) &&& t.2.1 == 0

/-- A release: what stands before the answers. -/
theorem softRelease_via (s : State) (k : Fin 5) (v : Nat) : ∃ w : State,
    s.softRelease k.val v = ((s.rst.softTag.filter (w.tagFree k.val)).foldl (fun (s : State) t => s.answer t.2.2 stOK 0 [])
      (w.modRst fun r => { r with softTag := s.rst.softTag.filter fun t => !w.tagFree k.val t })).showPend ∧
    w.dram = s.dram ∧ (∀ p, (w.port p).seqs = (s.port p).seqs) ∧
    w.get (R.RST_BLK_CTRLk k.val) = (s.get (R.RST_BLK_CTRLk k.val) - s.releasable k.val v) % 2 ^ 32 := by
  unfold softRelease
  extract_lets go n was old s₁ freed s₂ s₃ done s₄
  have h₂ : s₁.Within chans s₃ := by
    have h : s₁.Within chans s₂ := .ite ((Within.refl s₁).foldl fun _ _ h => h.sendHard (mem_chans n)) (.refl s₁)
    exact .ite (Within.ite h.modPins h).modPins h
  have hseq : s₁.Steady s₃ := by
    have h : s₁.Steady s₂ := .ite ((Steady.refl s₁).foldl fun _ _ h => h.sendHard) (.refl s₁)
    exact .ite (Steady.ite h.modPins h).modPins h
  have hk : R.RST_BLK_CTRLk k.val < 0x40100000 ∧ sharedWord (R.RST_BLK_CTRLk k.val) = false := by clear * -; decide +revert
  have htag : s₃.rst.softTag = s.rst.softTag := by rw [h₂.rst]; rfl
  refine ⟨s₃, ?_, h₂.dram, hseq.seqs, ?_⟩
  · unfold s₄ done
    rw [htag]
    rfl
  · rw [h₂.word _ (by rw [mayTouch_system hk.1, hk.2]), get_put_self]

theorem answer_word (s : State) (g : Tag) {a : Nat} (ha : sharedWord a = false) : (s.answer g stOK 0 []).get a = s.get a := by
  have hne : ∀ {x : Nat}, sharedWord x = true → a ≠ x := fun hx e => by simp [e, hx] at ha
  exact closed_get ⟨s, stOK, 0, []⟩ g (hne (by decide)) (hne (by decide)) (.inr (.inr rfl))

theorem softRelease_acts (s : State) (k : Fin 5) (v : Nat) :
    let good := fun i => (s.domWait (domRange (if k.val < 4 then subDoms (chan k.val) i else sysDoms i))).isEmpty
    let t := s.softRelease k.val v
    t.dram = s.dram ∧
      (∀ i, i < 17 → bit (t.get (R.RST_BLK_CTRLk k.val)) i = (bit (s.get (R.RST_BLK_CTRLk k.val)) i &&
        !(bit v i && (if i = 16 then (List.range 13).all good else good i)))) ∧
      ∀ (v' : Nat) (p : Fin 3) (mb : Fin 6) (op seq : Nat) (nt : Bool), s.rst.softTag = [(k.val, v', ⟨p, mb.val, op, seq, nt⟩)] →
        op < 256 → seq < 65536 → sget (fun _ => none) (s.port p).seqs mb.val = some ⟨seq, []⟩ →
        t.get (R.RST_BLK_CTRLk k.val) &&& v' = 0 → t.rst.softTag = [] ∧ t.answered p mb op seq stOK 0 [] := by
  obtain ⟨w, ht, hdram, hseq, hget⟩ := s.softRelease_via k v
  intro good t
  generalize hx : w.modRst (fun r => { r with softTag := s.rst.softTag.filter fun t => !w.tagFree k.val t }) = x at ht
  generalize hy : (s.rst.softTag.filter (w.tagFree k.val)).foldl (fun (s : State) t => s.answer t.2.2 stOK 0 []) x = y at ht
  have hend : y.Shown t := by
    unfold t
    exact ht ▸ (Shown.refl y).showPend
  have hk : sharedWord (R.RST_BLK_CTRLk k.val) = false ∧ R.RST_BLK_CTRLk k.val ≠ R.RST_STATUS := by clear * -; decide +revert
  have hword : t.get (R.RST_BLK_CTRLk k.val) = w.get (R.RST_BLK_CTRLk k.val) := by
    rw [hend.word _ hk.2, ← hy]
    exact (foldl_keeps (fun u => u.get (R.RST_BLK_CTRLk k.val)) (fun u (g : Nat × Nat × Tag) => answer_word u g.2.2 hk.1) _ x).trans (hx ▸ modRst_get ..)
  have hkept : y.dram = s.dram ∧ y.rst = x.rst := by
    refine ⟨?_, hy ▸ foldl_keeps State.rst (fun u g => by simp) _ x⟩
    rw [← hdram, ← hy, ← hx]
    exact foldl_keeps State.dram (fun u g => by simp) _ _
  refine ⟨hend.dram.trans hkept.1, fun i hi => ?_, fun v' p mb op seq nt htag hop hsq hport hall => ?_⟩
  · have hsub : ∀ j, bit (s.releasable k.val v) j = true → bit (s.get (R.RST_BLK_CTRLk k.val)) j = true := fun j hj => by
      rw [bit_releasable, bit_and] at hj
      simp only [Bool.and_eq_true] at hj
      exact hj.2.1.1
    rw [hword, hget, Nat.mod_eq_of_lt (by have := s.get_lt (R.RST_BLK_CTRLk k.val); omega), bit_sub hsub, bit_releasable, bit_and,
      decide_eq_true hi, Bool.true_and]
    generalize (if i = 16 then _ else _ : Bool) = c
    cases bit (s.get (R.RST_BLK_CTRLk k.val)) i <;> simp
  · have hdone : w.tagFree k.val (k.val, v', ⟨p, mb.val, op, seq, nt⟩) = true := by
      simp [tagFree, ← hword, t, hall]
    rw [htag] at hx hy
    simp only [List.filter, hdone, Bool.not_true] at hx hy
    have hseqs : sget (fun _ => none) (x.port p).seqs mb.val = some ⟨seq, []⟩ := by rw [← hx, modRst_port, hseq, hport]
    have hans : y.answered p mb op seq stOK 0 [] := by
      rw [← hy]
      cases nt
      · exact answered_closed ⟨x, stOK, 0, []⟩ p mb op 0 seq (show stOK ≠ stDEFER by decide) hseqs
      · exact answered_closed ⟨x, stOK, 0, []⟩ p mb op 8 seq (show stOK ≠ stDEFER by decide) hseqs
    refine ⟨?_, hend.answered hans⟩
    have hrst : t.rst = y.rst := by
      unfold t
      rw [ht, showPend_rst]
    rw [hrst, hkept.2, ← hx]
    rfl

theorem releaseLate_acts (s : State) : let t := s.releaseLate
    (s.on F.RST_STATUS_RELEASE_PENDING = false → t = s) ∧
      (s.on F.RST_STATUS_RELEASE_PENDING = true → s.logged t 0x0205 3 (s.rd F.RST_STATUS_PEND_DOMAIN) 0 ∧
        s.regsKeep t (State.eventRegs ++ State.errRegs rstBase) ∧ t.dram = s.dram) := by
  refine ⟨fun h => if_neg (by simp [h]), fun h => ?_⟩
  have he : s.releaseLate = s.errEvent rstBase 0x0205 3 (s.rd F.RST_STATUS_PEND_DOMAIN) 0 := if_pos h
  rw [he]
  refine ⟨fun hfree => logged_errEvent rfl rfl _ _ _ _ _ hfree, fun a ha => ?_, by simp⟩
  rw [List.mem_append, not_or] at ha
  obtain ⟨hev, herr⟩ := ha
  rw [errRegs, List.mem_cons, List.mem_singleton, not_or] at herr
  exact errEvent_get _ _ _ _ _ _ hev herr.1 herr.2

end State

/-- Settles O41: a write that names one block resets that one, and the operations about its channel reach no other channel's
registers; a release clears the bits that it may. -/
theorem softResets : Obligations.SoftResets := by
  intro s
  refine ⟨fun n i k hi hk => ⟨_, rfl, ?_⟩, fun ch => ⟨_, rfl, s.softReset_dram_acts ch⟩, fun k v => ?_,
    ⟨_, rfl, s.releaseLate_acts⟩⟩
  · rw [hk]
    exact s.softReset_sub_acts n hi
  · exact ⟨_, rfl, s.softRelease_acts k v.toNat⟩

end Sys2Proof.Machine
end

section
/-! SUPPORT. What firmware's start leaves (R65, R78, R79): the words in which the reset controller and the mailboxes show
how far it is, the state of every link it does not start, DRAM, and the clocks of the processor. -/

set_option Elab.async false

namespace Sys2Proof.Machine
open State

/-- SYS_MODE, RST_STATUS, MBX_HSTAT and the clock-good word of the DPLL domains. -/
def startWord (a : Nat) : Bool := decide (a = 0x40000010 ∨ a = 0x40000138 ∨ a = 0x40010004 ∨ a = 0x40060004)

/-- LNK_STATUS of a channel. -/
def linkWord (a : Nat) : Bool := decide (0x40100000 ≤ a ∧ a < 0x40200000 ∧ a % 0x40000 = 0x10004)

/-- Neither. -/
def asideWord (a : Nat) : Bool := !startWord a && !linkWord a

theorem asideWord_ne {a : Nat} (h : asideWord a = true) : (∀ x, startWord x = true → x ≠ a) ∧ ∀ n, R.LNK_STATUS n ≠ a := by
  rw [asideWord, Bool.and_eq_true, Bool.not_eq_true', Bool.not_eq_true'] at h
  obtain ⟨hs, hl⟩ := h
  refine ⟨fun x hx e => by simp [← e, hx] at hs, fun n e => ?_⟩
  have : linkWord (R.LNK_STATUS n) = true := by clear * -; decide +revert
  simp [← e, this] at hl

/-- A word of the system blocks. -/
theorem asideWord_of_low {a : Nat} (h : a < 0x40100000) (h0 : a ≠ 0x40000010 ∧ a ≠ 0x40000138 ∧ a ≠ 0x40010004 ∧ a ≠ 0x40060004) :
    asideWord a = true := by
  have hs : startWord a = false := decide_eq_false (by omega)
  have hl : linkWord a = false := decide_eq_false (by omega)
  rw [asideWord, hs, hl]
  rfl

theorem asideWord_of_tutor {n : Fin 4} {a : Nat} (hlo : lecBase n + 0x18400 ≤ a) (hhi : a < lecBase n + 0x1E000) : asideWord a = true := by
  unfold lecBase at hlo hhi
  simp [asideWord, startWord, linkWord]
  omega

/-- What stays through firmware's start, with the links of some channels aside. -/
structure State.Booting (cs : List (Fin 4)) (s t : State) : Prop where
  word : ∀ a, startWord a = true → t.get a = s.get a
  link : ∀ n, n ∉ cs → t.get (R.LNK_STATUS n) = s.get (R.LNK_STATUS n)
  dram : t.dram = s.dram
  rst : t.rst = s.rst
  running : t.fw.running = s.fw.running
  clkOff : ∀ i, bit s.sys.clkOff i = false → bit t.sys.clkOff i = false

namespace State.Booting
variable {cs : List (Fin 4)} {s t u : State}

theorem refl (s : State) : s.Booting cs s := ⟨fun _ _ => rfl, fun _ _ => rfl, rfl, rfl, rfl, fun _ => id⟩
theorem trans (h : s.Booting cs t) (k : t.Booting cs u) : s.Booting cs u :=
  ⟨fun a ha => (k.word a ha).trans (h.word a ha), fun n hn => (k.link n hn).trans (h.link n hn), k.dram.trans h.dram,
    k.rst.trans h.rst, k.running.trans h.running, fun i => k.clkOff i ∘ h.clkOff i⟩
theorem bind (h : s.Booting cs t) (k : s.Booting cs t → s.Booting cs u) : s.Booting cs u := k h
theorem ite {c : Prop} {_ : Decidable c} (h : s.Booting cs t) (k : s.Booting cs u) : s.Booting cs (if c then t else u) := by
  split
  · exact h
  · exact k
theorem foldlMem {α : Type} {l : List α} {f : State → α → State} {P : α → Prop} (h : s.Booting cs t) (hl : ∀ x ∈ l, P x)
    (k : ∀ u x, P x → s.Booting cs u → s.Booting cs (f u x)) : s.Booting cs (l.foldl f t) := by
  induction l generalizing t with
  | nil => exact h
  | cons x l ih => exact ih (k t x (hl x (.head _)) h) fun y hy => hl y (.tail _ hy)
theorem foldl {α : Type} {l : List α} {f : State → α → State} (h : s.Booting cs t)
    (k : ∀ u x, s.Booting cs u → s.Booting cs (f u x)) : s.Booting cs (l.foldl f t) :=
  h.foldlMem (P := fun _ => True) (fun _ _ => trivial) fun u x _ => k u x

/-- An operation that changes no register, and none of what else stays. -/
theorem other (h : s.Booting cs t) (hr : u.regs = t.regs := by exact rfl) (hd : u.dram = t.dram := by exact rfl)
    (hs : u.rst = t.rst := by exact rfl) (hf : u.fw.running = t.fw.running := by exact rfl) (hy : u.sys = t.sys := by exact rfl) :
    s.Booting cs u :=
  h.trans ⟨fun a _ => get_congr hr a, fun _ _ => get_congr hr _, hd, hs, hf, fun _ hi => hy ▸ hi⟩

theorem put (h : s.Booting cs t) {a v : Nat} (ha : asideWord a = true := by clear * -; decide +revert) : s.Booting cs (t.put a v) :=
  h.trans ⟨fun x hx => get_put_ne _ _ ((asideWord_ne ha).1 x hx), fun n _ => get_put_ne _ _ ((asideWord_ne ha).2 n), rfl, rfl, rfl, fun _ => id⟩
theorem wr (h : s.Booting cs t) {f : Fld} {v : Nat} (ha : asideWord f.addr = true := by clear * -; decide +revert) : s.Booting cs (t.wr f v) :=
  h.put ha
theorem wrB (h : s.Booting cs t) {f : Fld} {b : Bool} (ha : asideWord f.addr = true := by clear * -; decide +revert) : s.Booting cs (t.wrB f b) :=
  h.put ha
theorem wrs (h : s.Booting cs t) {l : List (Fld × Nat)} (hl : ∀ e ∈ l, asideWord e.1.addr = true) : s.Booting cs (t.wrs l) :=
  h.foldlMem hl fun _ _ he h => h.wr he
/-- A field of LNK_STATUS of a channel whose link is aside. -/
theorem wrLink (h : s.Booting cs t) {n : Fin 4} (hn : n ∈ cs) {f : Fld} {v : Nat} (hf : f.addr = R.LNK_STATUS n := by exact rfl) :
    s.Booting cs (t.wr f v) := by
  refine h.trans ⟨fun x hx => get_wr_ne _ _ ?_, fun m hm => get_wr_ne _ _ ?_, rfl, rfl, rfl, fun _ => id⟩
  · rintro rfl
    rw [hf] at hx
    have : startWord (R.LNK_STATUS n) = false := by clear * -; decide +revert
    simp [this] at hx
  · rw [hf]
    have : m ≠ n := fun e => hm (e ▸ hn)
    clear * - this
    revert this
    decide +revert
theorem modFw (h : s.Booting cs t) {f : Fw → Fw} (hf : (f t.fw).running = t.fw.running := by exact rfl) : s.Booting cs (t.modFw f) :=
  h.other (hf := hf)
theorem modCal (h : s.Booting cs t) {f : CalState → CalState} : s.Booting cs (t.modCal f) := h.other
theorem modCh (h : s.Booting cs t) {m : Fin 4} {f : Lec → Lec} : s.Booting cs (t.modCh m f) := h.other
theorem modPins (h : s.Booting cs t) {f : Pins → Pins} : s.Booting cs (t.modPins f) := h.other
theorem modAon (h : s.Booting cs t) {f : Aon → Aon} : s.Booting cs (t.modAon f) := h.other
theorem modPort (h : s.Booting cs t) {p : Fin 3} {f : Port → Port} : s.Booting cs (t.modPort p f) := h.other
theorem modDmc (h : s.Booting cs t) {ch : Fin 2} {f : DmcRun → DmcRun} : s.Booting cs (t.modDmc ch f) := h.other
theorem modLink (h : s.Booting cs t) {m : Fin 4} {f : LinkRun → LinkRun} : s.Booting cs (t.modLink m f) := h.modCh
theorem modBpf (h : s.Booting cs t) {m : Fin 4} {f : BpfRun → BpfRun} : s.Booting cs (t.modBpf m f) := h.modCh
theorem modTut (h : s.Booting cs t) {m : Fin 4} {f : TutRun → TutRun} : s.Booting cs (t.modTut m f) := h.modCh
theorem modCtx (h : s.Booting cs t) {m c : Fin 4} {f : CtxRun → CtxRun} : s.Booting cs (t.modCtx m c f) := h.modTut

theorem eventRegs_aside {a : Nat} (h : a ∈ eventRegs) : asideWord a = true := (by decide : ∀ a ∈ eventRegs, asideWord a = true) a h
theorem logEvent (h : s.Booting cs t) {code sev a b : Nat} : s.Booting cs (t.logEvent code sev a b) :=
  h.trans ⟨fun x hx => logEvent_get _ _ _ _ _ fun he => (asideWord_ne (eventRegs_aside he)).1 x hx rfl,
    fun n _ => logEvent_get _ _ _ _ _ fun he => (asideWord_ne (eventRegs_aside he)).2 n rfl, by simp, by simp, by simp, fun _ hi => by simpa using hi⟩
theorem errEvent (h : s.Booting cs t) {base code sev a b : Nat} (h0 : asideWord (base + 0x1F0) = true := by clear * -; decide +revert)
    (h1 : asideWord (base + 0x1F4) = true := by clear * -; decide +revert) : s.Booting cs (t.errEvent base code sev a b) :=
  (ite ((h.put h0).put h1) ((h.put h0).put h1)).logEvent

/-! ### Clocks -/

theorem setPll (h : s.Booting cs t) {i : Nat} {on lock : Bool} : s.Booting cs (t.setPll i on lock) := h.wr.wr
/-- A domain that is switched on, or one that is not of the DPLL. -/
theorem setClk (h : s.Booting cs t) {d : Nat} {on : Bool} (hd : on = true ∨ d / 32 ≠ 6) : s.Booting cs (t.setClk d on) := by
  unfold State.setClk
  split
  · exact h
  · next hlt =>
    have hen : asideWord (R.SYS_CLKENk (d / 32)) = true :=
      asideWord_of_low (by unfold R.SYS_CLKENk; omega) (by unfold R.SYS_CLKENk; omega)
    cases on
    · have h6 : d / 32 ≠ 6 := hd.resolve_left (by decide)
      have hgood : asideWord (R.SYS_CLKGOODk (d / 32)) = true :=
        asideWord_of_low (by unfold R.SYS_CLKGOODk; omega) (by unfold R.SYS_CLKGOODk; omega)
      exact (h.put hen).put hgood
    · have hoff : s.Booting cs (t.modSys fun y => { y with clkOff := setBit t.sys.clkOff d false }) :=
        h.trans ⟨fun _ _ => rfl, fun _ _ => rfl, rfl, rfl, rfl, fun i hi => by
          by_cases e : i = d
          · exact e ▸ bit_setBit_self ..
          · exact (bit_setBit_ne _ _ e).trans hi⟩
      simp only [if_true]
      split
      · exact ite (hoff.put hen) (hoff.put hen).setPll
      · exact hoff.put hen
theorem setClks (h : s.Booting cs t) {lo hi : Nat} {on : Bool} (hd : on = true ∨ 224 ≤ lo) : s.Booting cs (t.setClks lo hi on) :=
  h.foldl fun _ _ h => h.setClk (hd.imp_right fun _ => by omega)
theorem csiClk (h : s.Booting cs t) {rx : Fin 2} {on : Bool} : s.Booting cs (t.csiClk rx on) :=
  (h.setClks (.inr (by clear * -; decide +revert))).modPins
theorem csiEnable (h : s.Booting cs t) : s.Booting cs t.csiEnable :=
  h.foldl fun _ _ h => ite h.wr.wr.csiClk (ite h.wr.csiClk h)

/-! ### Calibration (R331, R347) -/

theorem send (h : s.Booting cs t) {m : Fin 4} {typ : Nat} {payload : List Byte} : s.Booting cs (t.send m typ payload) := ite h h.modLink
theorem mgmt (h : s.Booting cs t) {m : Fin 4} {cmd : Nat} {args : List Byte} : s.Booting cs (t.mgmt m cmd args) := h.send
theorem calStatus (h : s.Booting cs t) : s.Booting cs t.calStatus := by
  unfold State.calStatus
  split
  · exact h.put
  · exact h.put.wrs (by simp only [List.forall_mem_cons, List.not_mem_nil, false_implies, implies_true]; decide)
theorem setRun (h : s.Booting cs t) {r : Option CalRun} : s.Booting cs (t.setRun r) := h.modCal.calStatus
theorem calLoop (h : s.Booting cs t) {i : Nat} {b : Bool} : s.Booting cs (t.calLoop i b) := by
  unfold State.calLoop
  generalize calLink i = n
  exact ite h.wrB.mgmt h
theorem calNext (h : s.Booting cs t) : s.Booting cs t.calNext := by
  unfold State.calNext
  exact ite h (by
    extract_lets
    split
    · exact h.calLoop.setRun
    · exact ite h (by
        split
        · exact h.calLoop.setRun
        · exact h))

/-- The words of calibration item i. -/
theorem aside_of_item {i o : Nat} (hi : i < 14) (ho : o < 0x20) : asideWord (0x40050400 + o + 0x20 * i) = true :=
  asideWord_of_low (by omega) (by omega)
theorem calRestore (h : s.Booting cs t) {b : List Byte} {i : Nat} (hi : i < 14) : s.Booting cs (t.calRestore b i) := by
  have hw : ∀ o < 0x20, asideWord (0x40050400 + o + 0x20 * i) = true := fun o => aside_of_item hi
  have hcard := hw 8 (by decide)
  refine ite ((h.wrs ?_).wr.modCal) (h.wr hcard).errEvent
  simp only [List.forall_mem_cons, List.not_mem_nil, false_implies, implies_true, and_true]
  exact ⟨hcard, hcard, hcard, hcard, hw 0xC (by decide), hw 0x10 (by decide), hw 0x14 (by decide)⟩
theorem calBoot (h : s.Booting cs t) : s.Booting cs t.calBoot := by
  have hr : ∀ i ∈ List.range 14, i < 14 := fun i => List.mem_range.mp
  unfold State.calBoot
  extract_lets v x w
  have hv : s.Booting cs v := ite h.wr h.wr.errEvent
  have hw : s.Booting cs w := by
    unfold w
    split
    · exact hv.wr.wr.foldlMem hr fun _ _ hi h => h.calRestore hi
    · have hx : s.Booting cs x := hv.wr.foldlMem hr fun _ _ hi h => h.wr (aside_of_item (o := 8) hi (by decide))
      exact ite hx.errEvent (hx.foldl fun _ _ h => h.errEvent)
  exact hw.wr.modCal.calNext


/-! ### The stored configuration (R79, R140) -/

theorem canConfig (h : s.Booting cs t) {req : List Byte} : s.Booting cs (t.canConfig req) :=
  h.foldl fun _ c h => by
    refine (h.put ?_).modPort
    split <;> decide
theorem canDefaults (h : s.Booting cs t) : s.Booting cs t.canDefaults := h.put.put
theorem loopReg_aside {a : Nat} (h : loopReg a = true) : asideWord a = true := by
  obtain ⟨n, _, hn⟩ := List.any_eq_true.mp h
  simp only [Bool.or_eq_true, Bool.and_eq_true, decide_eq_true_eq] at hn
  obtain ⟨⟨⟨hlo, hhi⟩, _⟩, _⟩ | ⟨hlo, hhi⟩ := hn
  · exact asideWord_of_tutor hlo (by omega)
  · exact asideWord_of_tutor (by omega) hhi
theorem loadConfig (h : s.Booting cs t) : s.Booting cs t.loadConfig := by
  have hkeep : s.Booting cs (t.setRegs (skeep (fun a => !loopReg a) t.regs)) := by
    have hget : ∀ a, asideWord a = false → (t.setRegs (skeep (fun a => !loopReg a) t.regs)).get a = t.get a := fun a ha => by
      have : loopReg a = false := Bool.eq_false_iff.mpr fun hl => by simp [loopReg_aside hl] at ha
      change (sget regReset (skeep _ t.regs) a).toNat = _
      rw [sget_skeep, if_pos (by simp [this])]
      rfl
    exact h.trans ⟨fun a ha => hget a (by simp [asideWord, ha]), fun n _ => hget _ (by clear * -; decide +revert), rfl, rfl, rfl, fun _ => id⟩
  unfold State.loadConfig
  extract_lets u
  split
  · exact hkeep.canDefaults.logEvent
  · extract_lets v w x
    have hw : s.Booting cs w := hkeep.modFw.foldlMem (fun e he => (List.mem_filter.mp he).2) fun _ _ he h => h.put (loopReg_aside he)
    have hx : s.Booting cs x := hw.foldl fun _ _ h => h.modTut.foldl fun _ _ h => h.wr.modCtx
    exact ite hx.canConfig hx.canDefaults
theorem patternCheck (h : s.Booting cs t) {n : Fin 4} {size : Option (Nat × Nat)} : s.Booting cs (t.patternCheck n size) := h.wrB
theorem loadPatterns (h : s.Booting cs t) : s.Booting cs t.loadPatterns :=
  h.foldl fun _ _ h => by
    split
    · exact h.modCh.patternCheck
    · exact ite h.logEvent h
theorem noteBanks (h : s.Booting cs t) {n : Fin 4} : s.Booting cs (t.noteBanks n) := h.modFw

/-! ### DRAM and links -/

theorem takeIn (h : s.Booting cs t) {ch : Fin 2} : s.Booting cs (t.takeIn ch) := ite h h.modDmc
theorem dmcRun (h : s.Booting cs t) {ch : Fin 2} : s.Booting cs (t.dmcRun ch) := h.wr.wr.wr.wr.takeIn.csiEnable
theorem setNeg (h : s.Booting cs t) {n : Fin 4} {g : Option Neg} : s.Booting cs (t.setNeg n g) := h.modLink
theorem replayStop (h : s.Booting cs t) {n : Fin 4} {cause : Nat} : s.Booting cs (t.replayStop n cause) := ite h.send.modBpf h
theorem linkTiming (h : s.Booting cs t) {n : Fin 4} : s.Booting cs (t.linkTiming n) := h.wr.wr
theorem setLinkMode (h : s.Booting cs t) {n : Fin 4} {lanes rate back : Nat} : s.Booting cs (t.setLinkMode n lanes rate back) :=
  h.wr.wr.wr.linkTiming
theorem negStart (h : s.Booting cs t) {n : Fin 4} {g : Neg} : s.Booting cs (t.negStart n g) := h.setNeg.mgmt.mgmt
theorem linkClkOn (h : s.Booting cs t) {n : Fin 4} : s.Booting cs (t.linkClk n true) := (h.setClks (.inl rfl)).modPins
theorem negotiate (h : s.Booting cs t) {n : Fin 4} (hn : n ∈ cs) {cause : Nat} {tag : Option Tag} : s.Booting cs (t.negotiate n cause tag) :=
  (((h.replayStop.linkClkOn.wr.wrLink hn).setLinkMode).modLink.put).bind fun h => ite h.negStart h.setNeg

end State.Booting
end Sys2Proof.Machine
end

section
/-! SUPPORT. The boot ROM and firmware's start (R65, R76, R78). -/

set_option Elab.async false

namespace Sys2Proof.Machine
namespace State

/-! ### The steps of the reset controller -/

theorem showPend_phase (s : State) : s.showPend.rd F.RST_STATUS_PHASE = s.rd F.RST_STATUS_PHASE := by
  unfold showPend
  split
  all_goals rw [rd_wr_apart _ _ (by decide), rd_wr_apart _ _ (by decide)]

/-- The clocks that a step waits for are all good. -/
theorem waits_none (s : State) (lo k : Nat) :
    ((domRange (lo, lo + k)).filter fun d => !s.clkGood d).isEmpty = (List.range (k + 1)).all fun i => s.clkGood (lo + i) := by
  rw [Bool.eq_iff_iff]
  simp [domRange, List.isEmpty_iff, List.filter_eq_nil_iff, show lo + k + 1 - lo = k + 1 by omega]

theorem stepDoms_fabric {s : State} (h : s.rd F.RST_STATUS_PHASE = 5) :
    s.stepDoms.isEmpty = (List.range 4).all fun i => s.clkGood (227 + i) := by
  rw [stepDoms]
  simpa [h] using s.waits_none 227 3

theorem stepDoms_dram {s : State} (h : s.rd F.RST_STATUS_PHASE = 6) :
    s.stepDoms.isEmpty = (List.range 16).all fun i => s.clkGood (208 + i) := by
  rw [stepDoms]
  simpa [h] using s.waits_none 208 15

/-- The DRAM controllers are released when their clocks are good (R65 step 6). -/
theorem releaseDram_phase {s : State} (h : s.rd F.RST_STATUS_PHASE = 6) (hf : s.fwRuns = true) :
    s.releaseDram.rd F.RST_STATUS_PHASE = if (List.range 16).all fun i => s.clkGood (208 + i) then 7 else 6 := by
  unfold releaseDram
  rw [stepDoms_dram h]
  by_cases hc : ((List.range 16).all fun i => s.clkGood (208 + i)) = true
  · rw [if_pos ⟨h, hf, hc⟩, if_pos hc]
    exact rd_wr s 7 (f := F.RST_STATUS_PHASE) (by decide)
  · rw [if_neg (fun h' => hc h'.2.2), if_neg hc, h]

theorem showPend_regs (s : State) : ∃ r, s.showPend = s.setRegs r := by
  unfold showPend
  split <;> exact ⟨_, rfl⟩

theorem releaseDram_regs (s : State) : ∃ r, s.releaseDram = s.setRegs r := by
  unfold releaseDram
  split
  · exact ⟨_, rfl⟩
  · exact ⟨s.regs, rfl⟩

theorem releaseDram_shown (s : State) : s.Shown s.releaseDram := .ite (Shown.refl s).wrStatus (.refl s)

/-! ### Links (R78) -/

/-- In a loop over the channels, what each step changes of its own channel alone is what its own step made it. -/
theorem chans_once {β : Type} (g : State → Fin 4 → β) {f : State → Fin 4 → State} (hk : ∀ u m n, m ≠ n → g (f u m) n = g u n)
    (s : State) (n : Fin 4) : ∃ u, g u n = g s n ∧ g (chans.foldl f s) n = g (f u n) n := by
  have h : chans.foldl f s = f (f (f (f s 0) 1) 2) 3 := rfl
  rw [h]
  match n with
  | 0 => exact ⟨s, rfl, by rw [hk _ 3 0 (by decide), hk _ 2 0 (by decide), hk _ 1 0 (by decide)]⟩
  | 1 => exact ⟨f s 0, hk _ 0 1 (by decide), by rw [hk _ 3 1 (by decide), hk _ 2 1 (by decide)]⟩
  | 2 => exact ⟨f (f s 0) 1, by rw [hk _ 1 2 (by decide), hk _ 0 2 (by decide)], hk _ 3 2 (by decide)⟩
  | 3 => exact ⟨f (f (f s 0) 1) 2, by rw [hk _ 2 3 (by decide), hk _ 1 3 (by decide), hk _ 0 3 (by decide)], rfl⟩

/-- Negotiation begins in state NEG (R263). -/
theorem negotiate_state (s : State) (n : Fin 4) (cause : Nat) (tag : Option Tag) : (s.negotiate n cause tag).linkState n = 1 := by
  have h : ∃ u : State, (u.wr (F.LNK_STATUS_STATE n) 1).Booting [] (s.negotiate n cause tag) :=
    ⟨_, (((Booting.refl _).setLinkMode).modLink.put).bind fun h => .ite h.negStart h.setNeg⟩
  obtain ⟨u, hu⟩ := h
  rw [linkState, rd_congr (hu.link n List.not_mem_nil)]
  exact rd_wr u 1 (f := F.LNK_STATUS_STATE n) (by clear * -; decide +revert)

/-- Links that are not up negotiate, the others stay. -/
def linksBegin (s : State) : State := chans.foldl (fun (s : State) n => if s.linkUp n then s else s.negotiate n 0 none) s

theorem linksBegin_state (s : State) (n : Fin 4) :
    if s.linkUp n then s.linksBegin.linkState n = s.linkState n else s.linksBegin.linkState n = 1 := by
  have hk : ∀ (u : State) (m n : Fin 4), m ≠ n → (if u.linkUp m then u else u.negotiate m 0 none).linkState n = u.linkState n := by
    intro u m n hmn
    have h : u.Booting [m] (if u.linkUp m then u else u.negotiate m 0 none) :=
      .ite (.refl u) ((Booting.refl u).negotiate (.head _))
    exact rd_congr (h.link n (by simp [hmn.symm]))
  obtain ⟨u, hu, hend⟩ := chans_once linkState hk s n
  have hup : u.linkUp n = s.linkUp n := by rw [linkUp, linkUp, hu]
  unfold linksBegin
  rw [hend, hup]
  split
  · exact hu
  · exact negotiate_state ..

/-! ### The fabric runs (R65 step 5, R78) -/

/-- What the fabric's release begins with: the phase and HSTAT.READY. -/
def fabricBegin (s : State) : State :=
  let s : State := s.modRst fun r => { r with cpu := .running, fabric := true }
  let s := (s.drivePins 1 (2 ^ 13 + 2 ^ 14)).modPins fun p => { p with hspi := p.hspi || s.on F.RST_OPT_HOSTSEL, drive := (12, 8) }
  (s.wr F.RST_STATUS_PHASE 6).wr F.MBX_HSTAT_READY 1

theorem drivePins_modPins (s : State) (b mask : Nat) : ∃ g, s.drivePins b mask = s.modPins g := by
  unfold drivePins
  split
  · exact ⟨_, rfl⟩
  · exact ⟨id, rfl⟩

theorem fabricBegin_spec (s : State) : s.fabricBegin.dram = s.dram ∧ s.fabricBegin.rst.cpu = .running ∧ s.fabricBegin.fw = s.fw ∧
    s.fabricBegin.sys = s.sys ∧ s.fabricBegin.rd F.RST_STATUS_PHASE = 6 ∧ s.fabricBegin.on F.MBX_HSTAT_READY = true ∧
    ∀ a, a ≠ R.RST_STATUS → a ≠ R.MBX_HSTAT → s.fabricBegin.get a = s.get a := by
  unfold fabricBegin
  extract_lets u v
  obtain ⟨g, hg⟩ := u.drivePins_modPins 1 (2 ^ 13 + 2 ^ 14)
  have hv : v.dram = s.dram ∧ v.rst.cpu = .running ∧ v.fw = s.fw ∧ v.sys = s.sys ∧ ∀ a, v.get a = s.get a := by
    unfold v
    rw [hg]
    exact ⟨rfl, rfl, rfl, rfl, fun _ => rfl⟩
  clear_value v
  obtain ⟨hd, hr, hf, hy, hget⟩ := hv
  refine ⟨by simp [hd], by simp [hr], by simp [hf], by simp [hy], ?_, on_wr_one _ (by decide) rfl, fun a h1 h2 => ?_⟩
  · rw [rd_wr_apart _ _ (by decide), rd_wr _ _ (by decide)]
    rfl
  · rw [get_wr_ne _ _ h2, get_wr_ne _ _ h1, hget]

theorem fabricRun_via (s : State) : ∃ w : State, s.fabricBegin.Booting [] w ∧ s.fabricRun = w.linksBegin.releaseDram.showPend := by
  have h := (Booting.refl (cs := []) s.fabricBegin).logEvent (code := 0x0201) (sev := 1)
    (a := s.fabricBegin.get R.RST_CAUSE % 256) (b := s.fabricBegin.get R.RST_CAUSE / 256 % 256)
  exact ⟨_, ((Booting.ite h.modAon.logEvent h).calBoot.loadConfig.loadPatterns.foldl fun _ _ h => h.noteBanks).foldl
    fun _ _ h => .ite h.dmcRun h, rfl⟩

theorem fwRuns_of {s : State} (hc : s.rst.cpu = .running) (ho : ∀ i, 224 ≤ i → i < 227 → bit s.sys.clkOff i = false) : s.fwRuns = true := by
  have h0 := ho 224 (by decide) (by decide)
  have h1 := ho 225 (by decide) (by decide)
  have h2 := ho 226 (by decide) (by decide)
  have hb : bits s.sys.clkOff 224 3 = 0 := by
    simp only [bit, beq_eq_false_iff_ne] at h0 h1 h2
    rw [show (225 : Nat) = 224 + 1 from rfl, Nat.pow_succ, ← Nat.div_div_eq_div_mul] at h1
    rw [show (226 : Nat) = 224 + 2 from rfl, Nat.pow_add, ← Nat.div_div_eq_div_mul] at h2
    unfold bits
    generalize s.sys.clkOff / 2 ^ 224 = x at h0 h1 h2 ⊢
    omega
  simp [fwRuns, hc, hb]

theorem fabricRun_acts {s : State} (ho : ∀ i, 224 ≤ i → i < 227 → bit s.sys.clkOff i = false) : let t := s.fabricRun
    t.dram = s.dram ∧ t.mode = s.mode ∧ t.fwRuns = true ∧ t.fw.running = s.fw.running ∧ t.on F.MBX_HSTAT_READY = true ∧
      t.rd F.RST_STATUS_PHASE = (if (List.range 16).all fun i => s.clkGood (208 + i) then 7 else 6) ∧
      ∀ n : Fin 4, if s.linkUp n then t.linkState n = s.linkState n else t.linkState n = 1 := by
  obtain ⟨w, hw, ht⟩ := s.fabricRun_via
  obtain ⟨hd, hr, hf, hy, hph, hrdy, hget⟩ := s.fabricBegin_spec
  have hl : w.Booting chans w.linksBegin := (Booting.refl w).foldl fun _ n h => .ite h (h.negotiate (mem_chans n))
  have hend : w.linksBegin.Shown w.linksBegin.releaseDram.showPend := w.linksBegin.releaseDram_shown.showPend
  have hoff : ∀ i, 224 ≤ i → i < 227 → bit w.linksBegin.sys.clkOff i = false := fun i h1 h2 =>
    hl.clkOff i (hw.clkOff i (hy ▸ ho i h1 h2))
  have hcpu : w.linksBegin.rst.cpu = .running := by rw [hl.rst, hw.rst, hr]
  have hruns := fwRuns_of hcpu hoff
  have hsame : s.fabricRun.rst = w.linksBegin.rst ∧ s.fabricRun.sys = w.linksBegin.sys ∧ s.fabricRun.fw = w.linksBegin.fw := by
    obtain ⟨r, hr⟩ := w.linksBegin.releaseDram.showPend_regs
    obtain ⟨r', hr'⟩ := w.linksBegin.releaseDram_regs
    rw [ht, hr, hr']
    exact ⟨rfl, rfl, rfl⟩
  have hword : ∀ a, startWord a = true → w.linksBegin.get a = s.fabricBegin.get a := fun a ha => (hl.word a ha).trans (hw.word a ha)
  have hword' : ∀ a, startWord a = true → a ≠ R.RST_STATUS → s.fabricRun.get a = s.fabricBegin.get a := fun a ha hne => by
    rw [ht, hend.word a hne, hword a ha]
  have hphase : w.linksBegin.rd F.RST_STATUS_PHASE = 6 := (rd_congr (hword _ (by decide))).trans hph
  refine ⟨?_, ?_, ?_, ?_, ?_, ?_, fun n => ?_⟩
  · rw [ht, hend.dram, hl.dram, hw.dram, hd]
  · rw [mode, mode, rd_congr (hword' _ (by decide) (by decide)), rd_congr (hget _ (by decide) (by decide))]
  · rw [fwRuns, hsame.1, hsame.2.1]
    exact hruns
  · rw [hsame.2.2, hl.running, hw.running, hf]
  · rw [on_congr (rd_congr (hword' _ (by decide) (by decide))), hrdy]
  · have hgood : ∀ i < 16, w.linksBegin.clkGood (208 + i) = s.clkGood (208 + i) := fun i hi => by
      have h6 : (208 + i) / 32 = 6 := by omega
      rw [clkGood, clkGood, h6, hword _ (by decide), hget _ (by decide) (by decide)]
    rw [ht, showPend_phase, releaseDram_phase hphase hruns]
    have hall : ((List.range 16).all fun i => w.linksBegin.clkGood (208 + i)) = (List.range 16).all fun i => s.clkGood (208 + i) := by
      rw [Bool.eq_iff_iff]
      simp only [List.all_eq_true, List.mem_range]
      exact forall₂_congr fun i hi => by rw [hgood i hi]
    rw [hall]
  · have hlink : ∀ m, w.linkState m = s.linkState m := fun m => by
      rw [linkState, rd_congr (hw.link m List.not_mem_nil), linkState]
      exact rd_congr (hget _ (by clear * -; decide +revert) (by clear * -; decide +revert))
    have hup : w.linkUp n = s.linkUp n := by rw [linkUp, linkUp, hlink]
    have ht' : s.fabricRun.linkState n = w.linksBegin.linkState n := by
      rw [ht, linkState]
      exact rd_congr (hend.word _ (by clear * -; decide +revert))
    rw [ht', ← hup, ← hlink]
    exact w.linksBegin_state n

/-! ### An accepted image (R65, R78) -/

theorem setClk_on_get (s : State) (d : Nat) {a : Nat} (ha : 0x40000120 ≤ a) (hp : a ≠ R.SYS_PLL_STATUS) : (s.setClk d true).get a = s.get a := by
  unfold setClk
  split
  · rfl
  · next hd =>
    have hen : a ≠ R.SYS_CLKENk (d / 32) := by unfold R.SYS_CLKENk; omega
    have hpll : ∀ (u : State) i, (u.setPll i true false).get a = u.get a := fun u i => by
      rw [setPll, get_wr_ne _ _ hp, get_wr_ne _ _ hp]
    simp only [if_true]
    split
    · split
      · rw [get_put_ne _ _ hen]
        rfl
      · rw [hpll, get_put_ne _ _ hen]
        rfl
    · rw [get_put_ne _ _ hen]
      rfl

theorem setClks_on_get (s : State) (lo hi : Nat) {a : Nat} (ha : 0x40000120 ≤ a) (hp : a ≠ R.SYS_PLL_STATUS) :
    (s.setClks lo hi true).get a = s.get a :=
  foldl_keeps (fun u => u.get a) (fun u i => setClk_on_get u (lo + i) ha hp) _ s

theorem setClk_on_clkOff (s : State) {d : Nat} (hd : d < 250) : (s.setClk d true).sys.clkOff = setBit s.sys.clkOff d false := by
  have hpll : ∀ (u : State) i, (u.setPll i true false).sys = u.sys := fun u i => by simp [setPll]
  unfold setClk
  rw [if_neg (by omega)]
  simp only [if_true]
  split
  · split
    · rfl
    · rw [hpll]
      rfl
  · rfl

/-- A domain that is switched on is not switched off. -/
theorem setClks_on_clkOff (s : State) {lo hi i : Nat} (hlo : lo ≤ i) (hi' : i ≤ hi) (hlt : i < 250) :
    bit (s.setClks lo hi true).sys.clkOff i = false := by
  have loop : ∀ (l : List Nat) (u : State), i - lo ∈ l ∨ bit u.sys.clkOff i = false →
      bit (l.foldl (fun s i => s.setClk (lo + i) true) u).sys.clkOff i = false := fun l => by
    induction l with
    | nil => exact fun u hu => hu.resolve_left List.not_mem_nil
    | cons j l ih =>
      refine fun u hu => ih _ (hu.symm.elim (fun h => .inr ?_) fun hm => (List.mem_cons.mp hm).symm.imp_right fun e => ?_)
      · exact (Booting.setClk (cs := []) (.refl u) (.inl rfl)).clkOff i h
      · have hj : lo + j = i := by omega
        dsimp only
        rw [hj, setClk_on_clkOff u hlt, bit_setBit_self]
  exact loop _ s (.inl (List.mem_range.mpr (by omega)))

/-- The clocks of the accepted image. -/
def imageStart (s : State) (slot : Nat) : State :=
  (((((s.modRst fun r => { r with cpu := .starting }).modFw fun w => { w with running := slot }).wr F.RST_STATUS_PHASE 5).setClks
    208 234 true)).setClks 239 249 true

theorem imageStart_spec (s : State) (slot : Nat) : (s.imageStart slot).dram = s.dram ∧ (s.imageStart slot).rst.cpu = .starting ∧
    (s.imageStart slot).fw.running = slot ∧ (s.imageStart slot).rd F.RST_STATUS_PHASE = 5 ∧ (s.imageStart slot).mode = s.mode ∧
    (∀ n, (s.imageStart slot).linkState n = s.linkState n) ∧ (∀ d, d < 250 → (s.imageStart slot).clkGood d = s.clkGood d) ∧
    ∀ i, 224 ≤ i → i < 227 → bit (s.imageStart slot).sys.clkOff i = false := by
  unfold imageStart
  generalize hu : (((s.modRst fun r => { r with cpu := .starting }).modFw fun w => { w with running := slot }).wr F.RST_STATUS_PHASE 5) = u
  have hus : u.dram = s.dram ∧ u.rst.cpu = .starting ∧ u.fw.running = slot := by
    rw [← hu]
    exact ⟨by simp, by rw [wr_rst]; rfl, by rw [wr_fw]; rfl⟩
  have hph : u.rd F.RST_STATUS_PHASE = 5 := hu ▸ rd_wr _ 5 (f := F.RST_STATUS_PHASE) (by decide)
  have hget : ∀ a, a ≠ R.RST_STATUS → u.get a = s.get a := fun a ha => by
    rw [← hu, get_wr_ne _ _ ha]
    rfl
  obtain ⟨hd, hr, hf⟩ := hus
  have h : u.Booting [] ((u.setClks 208 234 true).setClks 239 249 true) := ((Booting.refl u).setClks (.inl rfl)).setClks (.inl rfl)
  refine ⟨h.dram.trans hd, ?_, h.running.trans hf, ?_, ?_, fun n => ?_, fun d hlt => ?_, fun i h1 h2 => ?_⟩
  · rw [h.rst, hr]
  · rw [rd_congr (h.word _ (by decide)), hph]
  · rw [mode, mode, rd_congr (h.word _ (by decide)), rd_congr (hget _ (by decide))]
  · rw [linkState, linkState, rd_congr (h.link n List.not_mem_nil), rd_congr (hget _ (by clear * -; decide +revert))]
  · have ha : 0x40000120 ≤ R.SYS_CLKGOODk (d / 32) ∧ R.SYS_CLKGOODk (d / 32) ≠ R.SYS_PLL_STATUS ∧ R.SYS_CLKGOODk (d / 32) ≠ R.RST_STATUS := by
      unfold R.SYS_CLKGOODk R.SYS_PLL_STATUS R.RST_STATUS
      omega
    rw [clkGood, clkGood, setClks_on_get _ _ _ ha.1 ha.2.1, setClks_on_get _ _ _ ha.1 ha.2.1, hget _ ha.2.2]
  · exact (Booting.setClks (cs := []) (.refl _) (.inl rfl)).clkOff i (setClks_on_clkOff u (by omega) (by omega) (by omega))

theorem firmwareStart_eq (s : State) (slot : Nat) : s.firmwareStart slot = (s.imageStart slot).releaseFabric.showPend := by
  unfold firmwareStart imageStart
  rfl

/-- The clocks that the fabric waits for are good. -/
def fabricClocked (s : State) : Bool := (List.range 4).all fun i => s.clkGood (227 + i)

theorem imageStart_clocked (s : State) (slot : Nat) : (s.imageStart slot).stepDoms.isEmpty = s.fabricClocked := by
  obtain ⟨_, _, _, hph, _, _, hgood, _⟩ := s.imageStart_spec slot
  rw [stepDoms_fabric hph, fabricClocked, Bool.eq_iff_iff]
  simp only [List.all_eq_true, List.mem_range]
  exact forall₂_congr fun i hi => by rw [hgood _ (by omega)]

/-- The fabric waits for its clocks. -/
theorem firmwareStart_waits {s : State} (h : s.fabricClocked = false) (slot : Nat) :
    s.firmwareStart slot = (s.imageStart slot).showPend := by
  rw [firmwareStart_eq, releaseFabric, if_neg]
  rw [imageStart_clocked, h]
  simp

/-- The fabric runs at once. -/
theorem firmwareStart_runs {s : State} (h : s.fabricClocked = true) (slot : Nat) :
    s.firmwareStart slot = (s.imageStart slot).fabricRun.showPend := by
  obtain ⟨_, hcpu, _, hph, _, _, _, _⟩ := s.imageStart_spec slot
  rw [firmwareStart_eq, releaseFabric, if_pos ⟨hcpu, hph, by rw [imageStart_clocked, h]⟩]

theorem showPend_kept (s : State) : s.showPend.dram = s.dram ∧ s.showPend.mode = s.mode ∧ s.showPend.rst = s.rst ∧
    s.showPend.fw = s.fw ∧ s.showPend.fwRuns = s.fwRuns ∧ s.showPend.on F.MBX_HSTAT_READY = s.on F.MBX_HSTAT_READY ∧
    ∀ n, s.showPend.linkState n = s.linkState n := by
  have h := (Shown.refl s).showPend
  obtain ⟨r, hr⟩ := s.showPend_regs
  refine ⟨h.dram, rd_congr (h.word _ (by decide)), ?_, ?_, ?_, on_congr (rd_congr (h.word _ (by decide))),
    fun n => rd_congr (h.word _ (by clear * -; decide +revert))⟩
  all_goals
    rw [hr]
    rfl

theorem firmwareStart_acts (s : State) (slot : Nat) :
    (s.firmwareStart slot).dram = s.dram ∧ (s.firmwareStart slot).mode = s.mode ∧
      (s.fabricClocked = false → (s.firmwareStart slot).rst.cpu = .starting ∧ (s.firmwareStart slot).fw.running = slot ∧
        (s.firmwareStart slot).rd F.RST_STATUS_PHASE = 5) ∧
      (s.fabricClocked = true → (s.firmwareStart slot).fwRuns = true ∧ (s.firmwareStart slot).fw.running = slot ∧
        (s.firmwareStart slot).on F.MBX_HSTAT_READY = true ∧
        (s.firmwareStart slot).rd F.RST_STATUS_PHASE = (if (List.range 16).all fun i => s.clkGood (208 + i) then 7 else 6) ∧
        ∀ n : Fin 4, if s.linkUp n then (s.firmwareStart slot).linkState n = s.linkState n else (s.firmwareStart slot).linkState n = 1) := by
  obtain ⟨hd, hcpu, hrun, hph, hmode, hlink, hgood, hoff⟩ := s.imageStart_spec slot
  cases hc : s.fabricClocked with
  | false =>
    rw [firmwareStart_waits hc]
    obtain ⟨kd, km, kr, kf, _, _, _⟩ := (s.imageStart slot).showPend_kept
    exact ⟨kd.trans hd, km.trans hmode, fun _ => ⟨kr ▸ hcpu, kf ▸ hrun, (showPend_phase _).trans hph⟩, fun h => Bool.noConfusion h⟩
  | true =>
    rw [firmwareStart_runs hc]
    obtain ⟨kd, km, _, kf, kruns, krdy, kl⟩ := (s.imageStart slot).fabricRun.showPend_kept
    obtain ⟨hd', hm', hf', hr', hrdy, hp', hl'⟩ := fabricRun_acts hoff
    refine ⟨(kd.trans hd').trans hd, (km.trans hm').trans hmode, fun h => Bool.noConfusion h,
      fun _ => ⟨kruns.trans hf', ?_, krdy.trans hrdy, ?_, fun n => ?_⟩⟩
    · rw [kf, hr', hrun]
    · have hall : ((List.range 16).all fun i => (s.imageStart slot).clkGood (208 + i)) = (List.range 16).all fun i => s.clkGood (208 + i) := by
        rw [Bool.eq_iff_iff]
        simp only [List.all_eq_true, List.mem_range]
        exact forall₂_congr fun i hi => by rw [hgood _ (by omega)]
      rw [showPend_phase, hp', hall]
    · have hup : (s.imageStart slot).linkUp n = s.linkUp n := by rw [linkUp, linkUp, hlink]
      rw [kl, ← hup, ← hlink]
      exact hl' n

end State
end Sys2Proof.Machine
end

section
/-! SUPPORT. The checks of the image slots (R76) and option loading (R65, R67, R433). -/

set_option Elab.async false

namespace Sys2Proof.Machine
open State
namespace State

/-! ### An image slot (R75, R76) -/

/-- The flash controller's state when the boot ROM has read a slot, or failed to. -/
def slotRead (s : State) (modes : Nat) (fault : Bool) : State :=
  if fault then s else (s.modFw fun w => { w with flashModes := modes % 8 }).readMode

/-- What the boot ROM finds of a slot: the reason of its rejection, 0 to accept it. -/
def slotReason (s : State) (fault : Bool) : Nat :=
  if fault then 7 else s.imageReason (s.slotByte (s.slotTry s.rst.tried))

theorem slotRead_kept (s : State) (modes : Nat) (fault : Bool) : (s.slotRead modes fault).regs = s.regs ∧
    (s.slotRead modes fault).dram = s.dram ∧ (s.slotRead modes fault).evr = s.evr ∧ (s.slotRead modes fault).rst.tried = s.rst.tried ∧
    (s.slotRead modes fault).rst.cpu = s.rst.cpu := by
  cases fault
  · exact ⟨rfl, rfl, rfl, rfl, rfl⟩
  · exact ⟨rfl, rfl, rfl, rfl, rfl⟩

/-- A slot that is accepted. -/
theorem slotCheck_accepts {s : State} (hc : s.rst.cpu = .bootRom) {fault : Bool} (h : s.slotReason fault = 0) (modes : Nat) :
    s.slotCheck modes fault = (s.slotRead modes fault).firmwareStart (s.slotTry s.rst.tried) := by
  cases fault
  · rw [slotCheck, if_neg (by simp [hc])]
    exact if_pos h
  · exact absurd h (show ¬ (7 : Nat) = 0 by decide)

/-- A slot that is rejected: its event is logged and its try is counted. -/
def slotReject (s : State) (slot reason : Nat) : State :=
  (s.logEvent 0x0401 3 slot reason).modRst fun r => { r with tried := (s.logEvent 0x0401 3 slot reason).rst.tried + 1 }

theorem slotCheck_rejects {s : State} (hc : s.rst.cpu = .bootRom) {fault : Bool} (h : s.slotReason fault ≠ 0) (modes : Nat) :
    let both := (s.slotRead modes fault).rd F.RST_OPT_BOOTSEL == 1
    let u := (s.slotRead modes fault).slotReject (s.slotTry s.rst.tried) (s.slotReason fault)
    let v := if both && u.rst.tried == 2 then u.selectPart 1 else u
    s.slotCheck modes fault = if v.rst.tried < (if both then 4 else 2) then v
      else ((v.logEvent 0x0402 7 0 0).modRst fun r => { r with cpu := .noImage }).modPins fun p => { p with faultLow := true } := by
  cases fault
  · rw [slotCheck, if_neg (by simp [hc])]
    exact if_neg h
  · rw [slotCheck, if_neg (by simp [hc])]
    rfl

theorem slotTry_lt (s : State) (k : Nat) : s.slotTry k < 2 := by
  unfold slotTry b2n
  split
  · split <;> decide
  · split <;> decide

theorem imageReason_lt (s : State) (b : Nat → Byte) : s.imageReason b < 7 := by
  unfold imageReason
  extract_lets hd len key
  split_ifs <;> decide

theorem slotReason_lt (s : State) (fault : Bool) : s.slotReason fault < 8 := by
  unfold slotReason
  split
  · decide
  · exact Nat.lt_succ_of_lt (s.imageReason_lt _)

/-- An event adds to the recorder's queue, or is dropped (R387). -/
theorem logEvent_appends (s : State) (code sev a b : Nat) : ∃ rest, (s.logEvent code sev a b).evr.fifo = s.evr.fifo ++ rest := by
  by_cases h : s.evr.fifo.length < 16
  · exact ⟨_, logEvent_fifo s code sev a b h⟩
  · exact ⟨[], by rw [logEvent_full s code sev a b h, List.append_nil]⟩

theorem slotReject_spec (s : State) {slot reason : Nat} (hs : slot < 65536) (hr : reason < 65536) :
    (s.slotReject slot reason).dram = s.dram ∧ (s.slotReject slot reason).mode = s.mode ∧
    (s.slotReject slot reason).rst.cpu = s.rst.cpu ∧ (s.slotReject slot reason).rst.tried = s.rst.tried + 1 ∧
    (s.evr.fifo.length < 16 → ∃ q, (s.slotReject slot reason).evr.fifo = s.evr.fifo ++ [q] ∧ q.code = 0x0401 ∧ q.sev = 3 ∧
      q.a = slot ∧ q.b = reason) := by
  have h : s.Steady (s.logEvent 0x0401 3 slot reason) := (Steady.refl s).logEvent
  refine ⟨h.dram, h.mode, by simp [slotReject, modRst], by simp [slotReject, modRst], fun hl => ?_⟩
  obtain ⟨q, hq, hcode, hsev, ha, hb, _⟩ := logged_logEvent (s := s) (u := s) rfl rfl 0x0401 3 slot reason hl
  exact ⟨q, hq, hcode, hsev, ha.trans (Nat.mod_eq_of_lt hs), hb.trans (Nat.mod_eq_of_lt hr)⟩

theorem slotCheck_reject_acts {s : State} (hc : s.rst.cpu = .bootRom) {fault : Bool} (h : s.slotReason fault ≠ 0) (modes : Nat) :
    let t := s.slotCheck modes fault
    t.dram = s.dram ∧ t.mode = s.mode ∧ (s.evr.fifo.length < 16 → ∃ q rest, t.evr.fifo = s.evr.fifo ++ q :: rest ∧ q.code = 0x0401 ∧ q.sev = 3 ∧
        q.a = s.slotTry s.rst.tried ∧ q.b = s.slotReason fault) ∧
      if s.rst.tried + 1 < (if s.rd F.RST_OPT_BOOTSEL = 1 then 4 else 2) then t.rst.cpu = .bootRom ∧ t.rst.tried = s.rst.tried + 1
      else t.rst.cpu = .noImage ∧ t.pins.faultLow = true := by
  have heq := slotCheck_rejects hc h modes
  obtain ⟨hregs, hdram, hevr, htried, hcpu⟩ := s.slotRead_kept modes fault
  generalize s.slotRead modes fault = r at heq hregs hdram hevr htried hcpu
  extract_lets both u v at heq
  obtain ⟨ud, um, uc, ut, ue⟩ := r.slotReject_spec (slot := s.slotTry s.rst.tried) (reason := s.slotReason fault)
    (by have := s.slotTry_lt s.rst.tried; omega) (by have := s.slotReason_lt fault; omega)
  have hsel : r.rd F.RST_OPT_BOOTSEL = s.rd F.RST_OPT_BOOTSEL := rd_congr (get_congr hregs _)
  have hv : v.dram = u.dram ∧ v.mode = u.mode ∧ v.rst = u.rst ∧ v.evr = u.evr := by
    have hp : (u.selectPart 1).rst = u.rst := by
      unfold selectPart
      split <;> rfl
    have hk : u.Shown (u.selectPart 1) := (Shown.refl u).selectPart
    unfold v
    split
    · exact ⟨hk.dram, rd_congr (hk.word _ (by decide)), hp, hk.evr⟩
    · exact ⟨rfl, rfl, rfl, rfl⟩
  clear_value v
  obtain ⟨vd, vm, vr, ve⟩ := hv
  have hboth : (if both then 4 else 2) = if s.rd F.RST_OPT_BOOTSEL = 1 then 4 else 2 := by simp [both, hsel]
  rw [hboth, vr, ut, htried] at heq
  rw [heq]
  have hd : v.dram = s.dram := by rw [vd, ud, hdram]
  have hm : v.mode = s.mode := (vm.trans um).trans (rd_congr (get_congr hregs _))
  have hfifo : s.evr.fifo.length < 16 → ∃ q, v.evr.fifo = s.evr.fifo ++ [q] ∧ q.code = 0x0401 ∧ q.sev = 3 ∧
      q.a = s.slotTry s.rst.tried ∧ q.b = s.slotReason fault := by
    rw [ve, ← hevr]
    exact ue
  have hucpu : u.rst.cpu = .bootRom := uc.trans (hcpu.trans hc)
  have hutried : u.rst.tried = s.rst.tried + 1 := htried ▸ ut
  clear_value u
  generalize (if s.rd F.RST_OPT_BOOTSEL = 1 then 4 else 2) = tries
  by_cases hlt : s.rst.tried + 1 < tries
  · rw [if_pos hlt]
    refine ⟨hd, hm, fun hl => ?_, ?_⟩
    · obtain ⟨q, hq, hrest⟩ := hfifo hl
      exact ⟨q, [], hq, hrest⟩
    · rw [if_pos hlt]
      exact ⟨by rw [vr, hucpu], by rw [vr, hutried]⟩
  · rw [if_neg hlt]
    have hend : v.Steady (v.logEvent 0x0402 7 0 0) := (Steady.refl v).logEvent
    refine ⟨hend.dram.trans hd, hend.mode.trans hm, fun hl => ?_, ?_⟩
    · obtain ⟨q, hq, hrest⟩ := hfifo hl
      obtain ⟨rest, happ⟩ := v.logEvent_appends 0x0402 7 0 0
      exact ⟨q, rest, happ.trans (by rw [hq, List.append_assoc]; rfl), hrest⟩
    · rw [if_neg hlt]
      exact ⟨rfl, rfl⟩

/-! ### Option loading (R67) -/

/-- What option loading reads: the straps, the OTP word and the classes of the banks. -/
def optionWords (s : State) (straps : Nat) (otp : Word) (ok : Bool) (banks : Nat) : State :=
  let s := s.put R.RST_OPT (setBit (setBits otp.toNat 0 3 straps) 31 ok)
  s.wrs [(⟨R.RST_OPT, 9, 7⟩, 0), (⟨R.RST_OPT, 24, 7⟩, 0),
    (F.RST_OPT_BANKV_CLASS, setBits banks 0 2 s.aon.bank0), (F.RST_OPT_BANKV_OUT_WIN, setBits (banks / 2 ^ 16) 0 1 (s.aon.bank0 / 4))]

theorem optionWords_spec (s : State) {straps banks : Nat} (otp : Word) (ok : Bool) (hs : straps < 8) (hb : banks < 2 ^ 16) :
    let u := s.optionWords straps otp ok banks
    u.get R.RST_OPT % 8 = straps ∧ u.on F.RST_OPT_OTP_OK = ok ∧ u.rd F.RST_OPT_BANKV_CLASS = banks / 4 * 4 + s.aon.bank0 % 4 ∧
      u.rd F.RST_OPT_BANKV_OUT_WIN = s.aon.bank0 / 4 % 2 ∧ u.dram = s.dram ∧
      ∀ a, a ≠ R.RST_OPT → a ≠ R.RST_OPT_BANKV → u.get a = s.get a := by
  intro u
  generalize hv : setBit (setBits otp.toNat 0 3 straps) 31 ok = v
  have hu : u = ((((s.put R.RST_OPT v).wr ⟨R.RST_OPT, 9, 7⟩ 0).wr ⟨R.RST_OPT, 24, 7⟩ 0).wr F.RST_OPT_BANKV_CLASS
      (setBits banks 0 2 s.aon.bank0)).wr F.RST_OPT_BANKV_OUT_WIN (setBits (banks / 2 ^ 16) 0 1 (s.aon.bank0 / 4)) := by
    unfold u optionWords
    rw [hv]
    simp only [put_aon]
    rfl
  have hopt : ∀ f : Fld, f.addr = R.RST_OPT → apart ⟨R.RST_OPT, 9, 7⟩ f = true → apart ⟨R.RST_OPT, 24, 7⟩ f = true → f.lo + f.w ≤ 32 →
      u.rd f = bits v f.lo f.w := by
    intro f hf h9 h24 hw
    have hne : f.addr ≠ R.RST_OPT_BANKV := by rw [hf]; decide
    rw [hu, rd_wr_ne _ _ hne, rd_wr_ne _ _ hne, rd_wr_apart _ _ h24, rd_wr_apart _ _ h9, rd, hf, get_put_self]
    exact bits_mod_two_pow hw
  have hlow : u.rd ⟨R.RST_OPT, 0, 3⟩ = straps := by
    rw [hopt _ rfl (by decide) (by decide) (by decide), ← hv, setBit, bits_setBits_below (by decide), bits_setBits_self]
    exact Nat.mod_eq_of_lt hs
  refine ⟨?_, ?_, ?_, ?_, ?_, fun a h1 h2 => ?_⟩
  · simpa [rd, bits] using hlow
  · rw [on, hopt _ rfl (by decide) (by decide) (by decide), ← hv]
    change (bits (setBits _ 31 1 (b2n ok)) 31 1 != 0) = ok
    rw [bits_setBits_self]
    cases ok <;> rfl
  · rw [hu, rd_wr_apart _ _ (by decide), rd_wr _ _ (by decide)]
    change setBits banks 0 2 s.aon.bank0 % 2 ^ 16 = _
    unfold setBits
    omega
  · rw [hu, rd_wr _ _ (by decide), Nat.div_eq_of_lt hb]
    change setBits 0 0 1 (s.aon.bank0 / 4) % 2 ^ 8 = _
    unfold setBits
    omega
  · rw [hu]
    simp
  · rw [hu, get_wr_ne _ _ h2, get_wr_ne _ _ h2, get_wr_ne _ _ h1, get_wr_ne _ _ h1, get_put_ne _ _ h1]

/-- Option loading up to the sample of TESTEN_N: its events are logged (R67). -/
def optionsRead (s : State) (straps : Nat) (otp : Word) (ok : Bool) (banks : Nat) (testenN : Bool) : State :=
  let s := s.optionWords straps otp ok banks
  let s := (List.range 8).foldl (fun (s : State) b =>
    if b ≠ 0 ∧ bit (s.rd F.RST_OPT_BANKV_OUT_WIN) b then s.errEvent rstBase 0x0202 2 b (bits banks (2 * b) 2) else s) s
  let s := if ok then s else s.errEvent rstBase 0x0203 7 0 0
  (s.modRst fun r => { r with testenN := testenN, bootOwed := false }).wrB F.TST_STATUS_TESTEN (!testenN)

/-- No word that option loading's events, its TESTEN bit and RST_STATUS stand in. -/
def optionQuiet (a : Nat) : Bool :=
  !decide (a ∈ eventRegs) && a != rstBase + 0x1F0 && a != rstBase + 0x1F4 && a != R.TST_STATUS && a != R.RST_STATUS

theorem optionQuiet_iff {a : Nat} : optionQuiet a = true ↔
    a ∉ eventRegs ∧ a ≠ rstBase + 0x1F0 ∧ a ≠ rstBase + 0x1F4 ∧ a ≠ R.TST_STATUS ∧ a ≠ R.RST_STATUS := by
  simp [optionQuiet, and_assoc]

theorem optionsRead_spec (s : State) (straps : Nat) (otp : Word) (ok : Bool) (banks : Nat) (testenN : Bool) :
    let u := s.optionsRead straps otp ok banks testenN
    (∀ a, optionQuiet a = true → u.get a = (s.optionWords straps otp ok banks).get a) ∧
      u.dram = (s.optionWords straps otp ok banks).dram ∧ u.on F.TST_STATUS_TESTEN = !testenN := by
  unfold optionsRead
  extract_lets v w x
  refine ⟨fun a ha => ?_, ?_, on_wrB _ _ (by decide) rfl⟩
  · obtain ⟨hev, h0, h1, htst, _⟩ := optionQuiet_iff.mp ha
    have hw : w.get a = v.get a := foldl_keeps (fun u => u.get a) (fun u b => by
      split
      · exact errEvent_get _ _ _ _ _ _ hev h0 h1
      · rfl) _ v
    rw [get_wrB_ne _ _ htst, modRst_get]
    unfold x
    split
    · exact hw
    · rw [errEvent_get _ _ _ _ _ _ hev h0 h1, hw]
  · have hw : w.dram = v.dram := foldl_keeps State.dram (fun u b => by
      split <;> simp) _ v
    rw [wrB_dram, modRst_dram]
    unfold x
    split
    · exact hw
    · rw [errEvent_dram, hw]

/-! ### After the sample of TESTEN_N (R65, R433) -/

theorem setPll_on (s : State) {i : Nat} (hi : i < 9) (j : Nat) (lock : Bool) :
    (s.setPll j true lock).pllOn i = (decide (i = j) || s.pllOn i) := by
  have h : ∀ v, bit (v % 2 ^ F.SYS_PLL_STATUS_ON.w) i = bit v i := fun v => bit_mod hi
  rw [pllOn, pllOn, setPll, rd_wr_apart _ _ (by decide), rd_wr _ _ (by decide), h]
  by_cases e : i = j
  · rw [e, bit_setBit_self, decide_eq_true rfl, Bool.true_or]
  · rw [bit_setBit_ne _ _ e, decide_eq_false e, Bool.false_or]

theorem setClk_on_pll (s : State) (d : Nat) {i : Nat} (hi : i < 9) (h : s.pllOn i = true) : (s.setClk d true).pllOn i = true := by
  have hput : ∀ (u : State) d v, d < 250 → u.pllOn i = true → (u.put (R.SYS_CLKENk (d / 32)) v).pllOn i = true := fun u d v hd hu => by
    rw [pllOn, rd_put_ne _ _ (show R.SYS_PLL_STATUS ≠ _ by unfold R.SYS_CLKENk R.SYS_PLL_STATUS; omega)]
    exact hu
  unfold setClk
  split
  · exact h
  · next hd =>
    have hen : ∀ v, ((s.modSys fun y => { y with clkOff := setBit s.sys.clkOff d false }).put (R.SYS_CLKENk (d / 32)) v).pllOn i = true :=
      fun v => hput _ d v (by omega) h
    simp only [if_true]
    split
    · split
      · exact hen _
      · rw [setPll_on _ hi, hen, Bool.or_true]
    · exact hen _

theorem setClks_on_pll (s : State) (lo hi : Nat) {i : Nat} (hi' : i < 9) (h : s.pllOn i = true) : (s.setClks lo hi true).pllOn i = true := by
  unfold setClks
  induction List.range (hi + 1 - lo) generalizing s with
  | nil => exact h
  | cons j l ih => exact ih _ (setClk_on_pll s (lo + j) hi' h)

/-- With TESTEN_N high, the PLLs start and the processor waits for its clocks. -/
def pllsStart (s : State) (owed : Bool) : State :=
  let s := if owed then s.logEvent 0x0101 1 modeBOOT 4 else s
  let s : State := s.modPins fun p => { p with analog := true }
  (((((s.wr F.RST_STATUS_PHASE 3).setPll 0 true false).setPll 1 true false).setClks 224 226 true).releaseCpu).showPend

/-- With it low, SCAN-TEST is entered. -/
def testScan (s : State) : State := (((s.wr F.RST_STATUS_PHASE 0).setMode modeSCANTEST 5).wr F.TST_STATUS_SCAN 1).logEvent 0x7F01 2 0 0

theorem optionsLoad_eq {s : State} (hp : s.rd F.RST_STATUS_PHASE = 2) (hg : s.aon.coreGood = true) (straps : Nat) (otp : Word) (ok : Bool)
    (banks : Nat) (testenN : Bool) : ∃ owed, s.optionsLoad straps otp ok banks testenN =
      if testenN then (s.optionsRead straps otp ok banks testenN).pllsStart owed else (s.optionsRead straps otp ok banks testenN).testScan := by
  unfold optionsLoad optionsRead optionWords pllsStart testScan
  rw [if_neg (by simp [hp, hg])]
  exact ⟨_, rfl⟩

theorem pllsStart_via (s : State) (owed : Bool) : ∃ u : State, ((∀ a, a ∉ eventRegs → u.get a = s.get a) ∧ u.dram = s.dram) ∧
    s.pllsStart owed = (((((u.wr F.RST_STATUS_PHASE 3).setPll 0 true false).setPll 1 true false).setClks 224 226 true).releaseCpu).showPend := by
  unfold pllsStart
  extract_lets u v
  refine ⟨v, ?_, rfl⟩
  cases owed
  · exact ⟨fun _ _ => rfl, rfl⟩
  · exact ⟨fun a ha => logEvent_get _ _ _ _ _ ha, logEvent_dram ..⟩

theorem pllsStart_spec (s : State) (owed : Bool) : let t := s.pllsStart owed
    (∀ a, a ∉ eventRegs → a ≠ R.RST_STATUS → a = R.SYS_MODE ∨ 0x40000150 ≤ a → t.get a = s.get a) ∧ t.dram = s.dram ∧
      t.pllOn 0 = true ∧ t.pllOn 1 = true := by
  obtain ⟨u, hu, ht⟩ := s.pllsStart_via owed
  rw [ht]
  generalize hw : ((u.wr F.RST_STATUS_PHASE 3).setPll 0 true false).setPll 1 true false = w
  have hwg : ∀ a, a ≠ R.RST_STATUS → a ≠ R.SYS_PLL_STATUS → w.get a = u.get a := fun a h1 h2 => by
    rw [← hw, setPll, setPll, get_wr_ne _ _ h2, get_wr_ne _ _ h2, get_wr_ne _ _ h2, get_wr_ne _ _ h2, get_wr_ne _ _ h1]
  have hwd : w.dram = u.dram := by
    rw [← hw]
    simp [setPll]
  have hb : w.Booting [] (w.setClks 224 226 true) := (Booting.refl w).setClks (.inl rfl)
  have hend : (w.setClks 224 226 true).Shown (w.setClks 224 226 true).releaseCpu.showPend := (Shown.refl _).releaseCpu.showPend
  have hpll : ∀ i < 2, ((w.setClks 224 226 true).releaseCpu.showPend).pllOn i = true := fun i hi => by
    have hwi : w.pllOn i = true := by
      rw [← hw, setPll_on _ (by omega), setPll_on _ (by omega)]
      rcases (show i = 0 ∨ i = 1 by omega) with rfl | rfl <;> simp
    rw [pllOn, rd_congr (hend.word _ (by decide))]
    exact setClks_on_pll w 224 226 (by omega) hwi
  refine ⟨fun a hev h1 ha => ?_, ?_, hpll 0 (by decide), hpll 1 (by decide)⟩
  · have hclk : (w.setClks 224 226 true).get a = w.get a := by
      rcases ha with rfl | ha
      · exact hb.word _ (by decide)
      · exact setClks_on_get _ _ _ (by omega) (by unfold R.SYS_PLL_STATUS; omega)
    have hp : a ≠ R.SYS_PLL_STATUS := by unfold R.SYS_PLL_STATUS; unfold R.SYS_MODE at ha; omega
    rw [hend.word a h1, hclk, hwg a h1 hp, hu.1 a hev]
  · rw [hend.dram, hb.dram, hwd, hu.2]

theorem testScan_spec (s : State) : let t := s.testScan
    (∀ a, optionQuiet a = true → a ≠ R.SYS_MODE → t.get a = s.get a) ∧ t.dram = s.dram ∧
      t.on F.TST_STATUS_TESTEN = s.on F.TST_STATUS_TESTEN ∧ t.mode = modeSCANTEST ∧ t.rd F.SYS_MODE_CAUSE = 5 ∧ t.on F.TST_STATUS_SCAN = true := by
  unfold testScan setMode
  refine ⟨fun a ha hm => ?_, by simp, ?_, ?_, ?_, ?_⟩
  · obtain ⟨hev, _, _, htst, hst⟩ := optionQuiet_iff.mp ha
    rw [logEvent_get _ _ _ _ _ hev, get_wr_ne _ _ htst, logEvent_get _ _ _ _ _ hev, get_wr_ne _ _ hm, get_wr_ne _ _ hm, get_wr_ne _ _ hst]
  · rw [logEvent_on _ _ _ _ _ (by decide), on_wr_apart _ _ (by decide), logEvent_on _ _ _ _ _ (by decide),
      on_wr_apart _ _ (by decide), on_wr_apart _ _ (by decide), on_wr_apart _ _ (by decide)]
  · rw [mode, logEvent_rd _ _ _ _ _ (by decide), rd_wr_ne _ _ (by decide), logEvent_rd _ _ _ _ _ (by decide), rd_wr_apart _ _ (by decide),
      rd_wr _ _ (by decide)]
    rfl
  · rw [logEvent_rd _ _ _ _ _ (by decide), rd_wr_ne _ _ (by decide), logEvent_rd _ _ _ _ _ (by decide), rd_wr _ _ (by decide)]
    rfl
  · rw [logEvent_on _ _ _ _ _ (by decide)]
    exact on_wr_one _ (by decide) rfl

theorem optionQuiet_words : optionQuiet R.RST_OPT = true ∧ optionQuiet R.RST_OPT_BANKV = true ∧ optionQuiet R.SYS_MODE = true := by decide

theorem slotCheck_accept_acts {s : State} (hc : s.rst.cpu = .bootRom) {fault : Bool} (h : s.slotReason fault = 0) (modes : Nat) :
    let t := s.slotCheck modes fault
    let slot := s.slotTry s.rst.tried
    t.dram = s.dram ∧ t.mode = s.mode ∧
      (s.fabricClocked = false → t.rst.cpu = .starting ∧ t.fw.running = slot ∧ t.rd F.RST_STATUS_PHASE = 5) ∧
      (s.fabricClocked = true → t.fwRuns = true ∧ t.fw.running = slot ∧ t.on F.MBX_HSTAT_READY = true ∧
        t.rd F.RST_STATUS_PHASE = (if (List.range 16).all fun i => s.clkGood (208 + i) then 7 else 6) ∧
        ∀ n : Fin 4, if s.linkUp n then t.linkState n = s.linkState n else t.linkState n = 1) := by
  obtain ⟨hregs, hdram, _, _, _⟩ := s.slotRead_kept modes fault
  have hacts := (s.slotRead modes fault).firmwareStart_acts (s.slotTry s.rst.tried)
  rw [slotCheck_accepts hc h]
  generalize s.slotRead modes fault = r at hregs hdram hacts
  have hget : ∀ a, r.get a = s.get a := get_congr hregs
  have hmode : r.mode = s.mode := rd_congr (hget _)
  have hgood : r.clkGood = s.clkGood := funext fun d => by rw [clkGood, hget, clkGood]
  have hstate : r.linkState = s.linkState := funext fun n => rd_congr (hget _)
  have hup : r.linkUp = s.linkUp := funext fun n => by rw [linkUp, hstate, linkUp]
  have hclk : r.fabricClocked = s.fabricClocked := by rw [fabricClocked, hgood, fabricClocked]
  rwa [hmode, hgood, hstate, hup, hclk, hdram] at hacts

end State

/-- Option loading, as O42 states it. -/
theorem optionLoading_spec {straps banks : Nat} (otp : Word) (ok testenN : Bool) {s : State} (hp : s.rd F.RST_STATUS_PHASE = 2)
    (hg : s.aon.coreGood = true) (hs : straps < 8) (hb : banks < 2 ^ 16) : let t := s.optionsLoad straps otp ok banks testenN
    t.get R.RST_OPT % 8 = straps ∧
      t.on F.RST_OPT_OTP_OK = ok ∧ t.rd F.RST_OPT_BANKV_CLASS = banks / 4 * 4 + s.aon.bank0 % 4 ∧
      t.rd F.RST_OPT_BANKV_OUT_WIN = s.aon.bank0 / 4 % 2 ∧ t.dram = s.dram ∧
      t.on F.TST_STATUS_TESTEN = (!testenN) ∧
      (testenN = true → t.pllOn 0 = true ∧ t.pllOn 1 = true ∧ t.mode = s.mode) ∧
      (testenN = false → t.mode = modeSCANTEST ∧ t.rd F.SYS_MODE_CAUSE = 5 ∧ t.on F.TST_STATUS_SCAN = true) := by
  obtain ⟨owed, ht⟩ := s.optionsLoad_eq hp hg straps otp ok banks testenN
  obtain ⟨hopt, hotp, hclass, hwin, hwd, hword⟩ := s.optionWords_spec (straps := straps) (banks := banks) otp ok hs hb
  obtain ⟨hread, hrd, htest⟩ := s.optionsRead_spec straps otp ok banks testenN
  obtain ⟨hq1, hq2, hq3⟩ := optionQuiet_words
  have hmode : (s.optionsRead straps otp ok banks testenN).mode = s.mode :=
    (rd_congr (hread _ hq3)).trans (rd_congr (hword _ (by decide) (by decide)))
  generalize s.optionsRead straps otp ok banks testenN = u at ht hread hrd htest hmode
  generalize s.optionWords straps otp ok banks = v at hopt hotp hclass hwin hwd hread hrd
  have words : ∀ t : State, (t.get R.RST_OPT = u.get R.RST_OPT) → (t.get R.RST_OPT_BANKV = u.get R.RST_OPT_BANKV) → t.get R.RST_OPT % 8 = straps ∧
      t.on F.RST_OPT_OTP_OK = ok ∧ t.rd F.RST_OPT_BANKV_CLASS = banks / 4 * 4 + s.aon.bank0 % 4 ∧
      t.rd F.RST_OPT_BANKV_OUT_WIN = s.aon.bank0 / 4 % 2 := fun t h1 h2 =>
    ⟨by rw [h1, hread _ hq1, hopt], (on_congr (rd_congr (h1.trans (hread _ hq1)))).trans hotp,
      (rd_congr (h2.trans (hread _ hq2))).trans hclass, (rd_congr (h2.trans (hread _ hq2))).trans hwin⟩
  cases testenN with
  | true =>
    rw [ht, if_pos rfl]
    obtain ⟨hget, hd, hp0, hp1⟩ := u.pllsStart_spec owed
    obtain ⟨w1, w2, w3, w4⟩ := words (u.pllsStart owed) (hget _ (by decide) (by decide) (.inr (by decide)))
      (hget _ (by decide) (by decide) (.inr (by decide)))
    exact ⟨w1, w2, w3, w4, (hd.trans hrd).trans hwd, (on_congr (rd_congr (hget _ (by decide) (by decide) (.inr (by decide))))).trans htest,
      fun _ => ⟨hp0, hp1, (rd_congr (hget _ (by decide) (by decide) (.inl rfl))).trans hmode⟩, fun h => Bool.noConfusion h⟩
  | false =>
    rw [ht, if_neg Bool.false_ne_true]
    obtain ⟨hget, hd, htst, hm, hcause, hscan⟩ := u.testScan_spec
    obtain ⟨w1, w2, w3, w4⟩ := words u.testScan (hget _ hq1 (by decide)) (hget _ hq2 (by decide))
    exact ⟨w1, w2, w3, w4, (hd.trans hrd).trans hwd, htst.trans htest, fun h => Bool.noConfusion h, fun _ => ⟨hm, hcause, hscan⟩⟩

/-- Settles O42: the words of option loading outlast its events and the start of the PLLs; an accepted image starts firmware, whose
steps keep the words that show how far it is; a rejected one is logged and counted. -/
theorem bootRomSteps : Obligations.BootRomSteps := by
  refine ⟨fun straps banks otp ok testenN s hp hg hs hb => ⟨_, rfl, optionLoading_spec otp ok testenN hp hg hs hb⟩,
    fun modes fault s hc => ?_⟩
  intro slot reason clocked
  have hexec : exec (.imageSlotCheck modes fault) s = .next (s.slotCheck modes fault) := rfl
  refine ⟨_, hexec, ?_⟩
  obtain ⟨hslot, hreason, hclocked⟩ : slot = s.slotTry s.rst.tried ∧ reason = s.slotReason fault ∧ clocked = s.fabricClocked := ⟨rfl, rfl, rfl⟩
  clear_value slot reason clocked
  subst hslot hreason hclocked
  by_cases h : s.slotReason fault = 0
  · obtain ⟨hd, hm, hwait, hrun⟩ := slotCheck_accept_acts hc h modes
    exact ⟨hd, hm, fun _ => hwait, fun _ => hrun, fun hne => absurd h hne⟩
  · obtain ⟨hd, hm, hlog, hnext⟩ := slotCheck_reject_acts hc h modes
    exact ⟨hd, hm, fun he => absurd he h, fun he => absurd he h, fun _ hl => ⟨hlog hl, hnext⟩⟩

end Sys2Proof.Machine
end

section
/-! SUPPORT. Power-on and the resets with the reach of RESET_N (R61–R65). -/

set_option Elab.async false

namespace Sys2Proof.Machine
open State
namespace State

/-! ### What ends with the grants (R105) -/

/-- A word outside the recorder's and the mailboxes' blocks, which events and notifications write. -/
def unloggedWord (a : Nat) : Bool := decide (¬ (0x40030000 ≤ a ∧ a < 0x40040000) ∧ ¬ (0x40060000 ≤ a ∧ a < 0x40070000))

theorem unlogged_ne {a x : Nat} (h : unloggedWord a = true) (hx : unloggedWord x = false) : a ≠ x := by
  rintro rfl
  simp [hx] at h

theorem unlogged_not_event {a : Nat} (h : unloggedWord a = true) : a ∉ eventRegs := fun he =>
  unlogged_ne h ((by decide : ∀ x ∈ eventRegs, unloggedWord x = false) a he) rfl

theorem notify_unlogged (s : State) (p : Fin 3) (op : Nat) (payload : List Byte) {a : Nat} (h : unloggedWord a = true) :
    (s.notify p op payload).get a = s.get a := by
  unfold notify
  extract_lets q m s'
  split
  · exact modPort_get ..
  · split
    · exact modPort_get ..
    · exact (errEvent_get _ _ _ _ _ _ (unlogged_not_event h) (unlogged_ne h (by decide)) (unlogged_ne h (by decide))).trans (modPort_get ..)

theorem endGrants_unlogged (s : State) (reason : Nat) {a : Nat} (h : unloggedWord a = true) : (s.endGrants reason).get a = s.get a :=
  foldl_keeps (fun u => u.get a) (fun u g => by
    unfold endGrant grantStatus
    extract_lets gs ends v w x
    have hx : x.get a = u.get a := by
      unfold x w v
      rw [logEvent_get _ _ _ _ _ (unlogged_not_event h), get_wrB_ne _ _ (unlogged_ne h (by decide)),
        get_wr_ne _ _ (unlogged_ne h (by decide)), get_wr_ne _ _ (unlogged_ne h (by decide)), modMbx_get]
    rw [notify_unlogged _ _ _ _ h, hx]) _ s

/-- What else the end of the grants leaves. -/
theorem endGrants_kept (s : State) (reason : Nat) : (s.endGrants reason).tb = s.tb ∧ (s.endGrants reason).lec = s.lec ∧
    (s.endGrants reason).fw = s.fw ∧ (s.endGrants reason).aon = s.aon ∧ (s.endGrants reason).dram = s.dram :=
  ⟨foldl_keeps tb (fun u g => by simp) _ s, foldl_keeps State.lec (fun u g => by simp) _ s, foldl_keeps State.fw (fun u g => by simp) _ s,
    foldl_keeps State.aon (fun u g => by simp) _ s, foldl_keeps State.dram (fun u g => by simp) _ s⟩

/-! ### A reset with the reach of RESET_N (R61, R62) -/

/-- What stands after such a reset of cause k: BOOT with cause 4, and everything but what R61 keeps at reset. -/
structure Reborn (s t : State) (k : Nat) : Prop where
  mode : t.mode = modeBOOT
  modeCause : t.rd F.SYS_MODE_CAUSE = 4
  cause : bit (t.get R.RST_CAUSE) k = true
  phase : t.rd F.RST_STATUS_PHASE = 2
  tb : t.tb = s.tb
  grants : t.mbx.grants = []
  lamps : ∀ n : Fin 4, t.pins.lampEnN.get n = true
  aon : ∀ a, 0x40020000 ≤ a → a < 0x40030000 → t.get a = s.get a
  records : ∀ a, 0x40040000 ≤ a → a < 0x40048000 → t.get a = s.get a
  blocks : ∀ a, 0x40080000 ≤ a → t.get a = State.reset.get a
  lec : t.lec = State.reset.lec
  act : t.fw.act = Stage.reset
  copies : t.fw.copies = s.fw.copies
  image : t.fw.image = s.fw.image
  dram : ∀ a, t.dbyte a = if s.aon.retain.get (dramCh a) then s.dbyte a else 0

theorem coreReset_get (s : State) {a : Nat} (h : a ≠ R.RST_OPT_BANKV) :
    s.coreReset.get a = if keptReg a then s.get a else State.reset.get a := by
  change (sget regReset (sset regReset (skeep keptReg s.regs) R.RST_OPT_BANKV _) a).toNat = _
  rw [sget_sset_ne _ _ _ h, sget_skeep]
  split <;> rfl

theorem coreReset_dbyte (s : State) (a : Nat) : s.coreReset.dbyte a = if s.aon.retain.get (dramCh a) then s.dbyte a else 0 := by
  change sget memReset (skeep _ s.dram) a = _
  rw [sget_skeep]
  rfl

theorem coreReset_data (s : State) : s.coreReset.lec = State.reset.lec ∧ s.coreReset.fw = flashOf s.fw ∧
    s.coreReset.pins.lampEnN = Pins.reset.lampEnN := ⟨rfl, rfl, rfl⟩

/-- The reset but for the end of the grants and the armed edge. -/
def rebornAt (s : State) (k : Nat) (mid : Bool) (f : Rst → Rst) : State :=
  ((((s.coreReset.recordCause k mid).wr F.RST_STATUS_PHASE 2).modRst f).wr F.SYS_MODE_MODE modeBOOT).wr F.SYS_MODE_CAUSE 4

theorem deviceReset_eq (s : State) (k : Nat) : ∃ mid f g, s.deviceReset k 4 = ((s.rebornAt k mid f).endGrants 4).modRst g := by
  unfold deviceReset
  extract_lets was owed mid armed u v
  exact ⟨mid, _, _, if_pos rfl⟩

/-- Where the reset writes. -/
theorem rebornAt_get (s : State) (k : Nat) (mid : Bool) (f : Rst → Rst) {a : Nat} (h1 : a ≠ R.RST_CAUSE) (h2 : a ≠ R.RST_STATUS)
    (h3 : a ≠ R.SYS_MODE) : (s.rebornAt k mid f).get a = s.coreReset.get a := by
  rw [rebornAt, get_wr_ne _ _ h3, get_wr_ne _ _ h3, modRst_get, get_wr_ne _ _ h2, recordCause_word _ _ _ h1]

theorem recordCause_data (s : State) (k : Nat) (mid : Bool) : (s.recordCause k mid).dram = s.dram ∧ (s.recordCause k mid).lec = s.lec ∧
    (s.recordCause k mid).fw = s.fw := by
  cases mid <;> exact ⟨rfl, rfl, rfl⟩

theorem rebornAt_data (s : State) (k : Nat) (mid : Bool) (f : Rst → Rst) : (s.rebornAt k mid f).tb = s.tb ∧
    (s.rebornAt k mid f).lec = State.reset.lec ∧ (s.rebornAt k mid f).fw = flashOf s.fw ∧ (s.rebornAt k mid f).aon = s.coreReset.aon ∧
    (s.rebornAt k mid f).dram = s.coreReset.dram ∧ (s.rebornAt k mid f).pins = s.coreReset.pins := by
  obtain ⟨haon, hpins, htb⟩ := recordCause_kept s.coreReset k mid
  obtain ⟨hdram, hlec, hfw⟩ := recordCause_data s.coreReset k mid
  obtain ⟨_, _, _, ktb⟩ := coreReset_kept s
  obtain ⟨klec, kfw, _⟩ := s.coreReset_data
  unfold rebornAt
  refine ⟨?_, ?_, ?_, ?_, ?_, ?_⟩
  · rw [wr_tb, wr_tb, modRst_tb, wr_tb, htb, ktb]
  · rw [wr_lec, wr_lec, modRst_lec, wr_lec, hlec, klec]
  · rw [wr_fw, wr_fw, modRst_fw, wr_fw, hfw, kfw]
  · rw [wr_aon, wr_aon, modRst_aon, wr_aon, haon]
  · rw [wr_dram, wr_dram, modRst_dram, wr_dram, hdram]
  · rw [wr_pins, wr_pins, modRst_pins, wr_pins, hpins]

theorem rebornAt_words (s : State) {k : Nat} (hk : k < 8) (mid : Bool) (f : Rst → Rst) : (s.rebornAt k mid f).mode = modeBOOT ∧
    (s.rebornAt k mid f).rd F.SYS_MODE_CAUSE = 4 ∧ bit ((s.rebornAt k mid f).get R.RST_CAUSE) k = true ∧
    (s.rebornAt k mid f).rd F.RST_STATUS_PHASE = 2 := by
  unfold rebornAt
  refine ⟨?_, ?_, ?_, ?_⟩
  · rw [mode, rd_wr_apart _ _ (by decide), rd_wr _ _ (by decide)]
    rfl
  · rw [rd_wr _ _ (by decide)]
    rfl
  · rw [get_wr_ne _ _ (by decide), get_wr_ne _ _ (by decide), modRst_get, get_wr_ne _ _ (by decide), recordCause_bit _ hk]
  · rw [rd_wr_ne _ _ (by decide), rd_wr_ne _ _ (by decide), modRst_rd, rd_wr _ _ (by decide)]
    rfl

theorem deviceReset_reborn (s : State) {k : Nat} (hk : k < 8) : s.Reborn (s.deviceReset k 4) k ∧
    (s.deviceReset k 4).aon = s.coreReset.aon ∧ (s.deviceReset k 4).pins.noFault = s.coreReset.pins.noFault := by
  obtain ⟨mid, f, g, ht⟩ := s.deviceReset_eq k
  obtain ⟨hmode, hmc, hcause, hphase⟩ := s.rebornAt_words hk mid f
  obtain ⟨htb, hlec, hfw, haon, hdram, hpins⟩ := s.rebornAt_data k mid f
  have hgrants := (s.rebornAt k mid f).endGrants_none 4
  have hget : ∀ a, unloggedWord a = true → (s.deviceReset k 4).get a = (s.rebornAt k mid f).get a := fun a ha => by
    rw [ht, modRst_get, endGrants_unlogged _ _ ha]
  obtain ⟨ktb, klec, kfw, kaon, kdram⟩ := (s.rebornAt k mid f).endGrants_kept 4
  have knf := (s.rebornAt k mid f).endGrants_noFault 4
  have hwords : ∀ a, unloggedWord a = true → a ≠ R.RST_CAUSE → a ≠ R.RST_STATUS → a ≠ R.SYS_MODE → a ≠ R.RST_OPT_BANKV →
      (s.deviceReset k 4).get a = if keptReg a then s.get a else State.reset.get a := fun a h0 h1 h2 h3 h4 => by
    rw [hget a h0, rebornAt_get _ _ _ _ h1 h2 h3, coreReset_get _ h4]
  have hpart : (s.deviceReset k 4).tb = s.tb ∧ (s.deviceReset k 4).lec = State.reset.lec ∧ (s.deviceReset k 4).fw = flashOf s.fw ∧
      (s.deviceReset k 4).aon = s.coreReset.aon ∧ (s.deviceReset k 4).dram = s.coreReset.dram ∧
      (s.deviceReset k 4).pins.noFault = s.coreReset.pins.noFault ∧ (s.deviceReset k 4).mbx.grants = [] := by
    rw [ht]
    exact ⟨ktb.trans htb, klec.trans hlec, kfw.trans hfw, kaon.trans haon, kdram.trans hdram, knf.trans (congrArg Pins.noFault hpins), hgrants⟩
  obtain ⟨dtb, dlec, dfw, daon, ddram, dnf, dgr⟩ := hpart
  have hlow : ∀ {a : Nat}, a < 0x40030000 ∨ 0x40040000 ≤ a ∧ a < 0x40060000 ∨ 0x40070000 ≤ a → unloggedWord a = true := fun h =>
    decide_eq_true (by omega)
  have hne : ∀ {a : Nat}, 0x40020000 ≤ a → a ≠ R.RST_CAUSE ∧ a ≠ R.RST_STATUS ∧ a ≠ R.SYS_MODE ∧ a ≠ R.RST_OPT_BANKV := fun h => by
    unfold R.RST_CAUSE R.RST_STATUS R.SYS_MODE R.RST_OPT_BANKV
    omega
  have hkept : ∀ a, 0x40020000 ≤ a → a < 0x40048000 → unloggedWord a = true → (s.deviceReset k 4).get a = s.get a := fun a h1 h2 h => by
    obtain ⟨n1, n2, n3, n4⟩ := hne h1
    rw [hwords a h n1 n2 n3 n4, if_pos (by rw [keptReg, decide_eq_true ⟨h1, h2⟩, Bool.true_or])]
  refine ⟨⟨?_, ?_, ?_, ?_, dtb, dgr, fun n => ?_, fun a h1 h2 => ?_, fun a h1 h2 => ?_, fun a h1 => ?_, dlec, ?_, ?_, ?_, fun a => ?_⟩, daon, dnf⟩
  · exact (rd_congr (hget _ (by decide))).trans hmode
  · exact (rd_congr (hget _ (by decide))).trans hmc
  · rw [hget _ (by decide), hcause]
  · exact (rd_congr (hget _ (by decide))).trans hphase
  · have hl : (s.deviceReset k 4).pins.lampEnN = Pins.reset.lampEnN := (congrArg Pins.lampEnN dnf).trans s.coreReset_data.2.2
    rw [hl]
    clear * -
    decide +revert
  · exact hkept a h1 (by omega) (hlow (.inl h2))
  · exact hkept a (by omega) h2 (hlow (.inr (.inl ⟨h1, by omega⟩)))
  · obtain ⟨n1, n2, n3, n4⟩ := hne (show 0x40020000 ≤ a by omega)
    have hk' : keptReg a = false := by
      rw [keptReg, decide_eq_false (by omega), Bool.false_or, beq_eq_false_iff_ne]
      exact n1
    rw [hwords a (hlow (.inr (.inr (by omega)))) n1 n2 n3 n4, hk', if_neg Bool.false_ne_true]
  · rw [dfw]
    rfl
  · rw [dfw]
    rfl
  · rw [dfw]
    rfl
  · rw [dbyte_congr ddram, coreReset_dbyte]

/-- A reset of a state that differs in pins and AON alone. -/
theorem Reborn.of {s w t : State} {k : Nat} (h : w.Reborn t k) (hregs : w.regs = s.regs) (htb : w.tb = s.tb) (hfw : w.fw = s.fw)
    (hdram : w.dram = s.dram) (hheld : w.aon.retain = s.aon.retain) : s.Reborn t k :=
  { h with
    tb := h.tb.trans htb
    aon := fun a h1 h2 => (h.aon a h1 h2).trans (get_congr hregs a)
    records := fun a h1 h2 => (h.records a h1 h2).trans (get_congr hregs a)
    copies := h.copies.trans (congrArg Fw.copies hfw)
    image := h.image.trans (congrArg Fw.image hfw)
    dram := fun a => by rw [h.dram, hheld, dbyte_congr hdram] }

theorem brownOut_reborn {s : State} (hg : s.aon.coreGood = true) (hup : s.aon.phase = .awake ∨ s.aon.phase = .entering) :
    s.Reborn s.brownOut 1 ∧ s.brownOut.pins.isolated = true ∧ s.brownOut.aon.coreGood = false := by
  generalize hw : (s.modAon fun a => { a with coreGood := false }).modPins (fun p => { p with isolated := true }) = w
  have hs : s.brownOut = w.deviceReset 1 4 := by
    rw [← hw]
    exact if_pos (by rcases hup with h | h <;> simp [hg, h])
  obtain ⟨hr, ha, hp⟩ := w.deviceReset_reborn (k := 1) (by decide)
  obtain ⟨_, hcg, hiso, _⟩ := coreReset_kept w
  have hwa : w.aon.coreGood = false ∧ w.pins.isolated = true := hw ▸ ⟨rfl, rfl⟩
  rw [hs]
  refine ⟨hr.of (hw ▸ rfl) (hw ▸ rfl) (hw ▸ rfl) (hw ▸ rfl) (hw ▸ rfl), ?_, ?_⟩
  · exact (congrArg Pins.isolated hp).trans (hiso.trans hwa.2)
  · rw [ha, hcg, hwa.1]

theorem resetPin_reborn {s : State} (hv : s.aon.vaonGood = true) (hp : s.rd F.RST_STATUS_PHASE ≠ 1)
    (hup : s.aon.phase = .awake ∨ s.aon.phase = .entering) : s.resetPin = s.deviceReset 3 4 := by
  unfold resetPin
  rw [if_neg (by simp [hv, hp]), if_neg (by rcases hup with h | h <;> simp [h]), if_neg (by rcases hup with h | h <;> simp [h])]

/-! ### Power-on (R61, R67, R397) -/

/-- The words of power-on, before its events. -/
def powerWords (s : State) (bank0 : Nat) (win : Bool) : State :=
  ({ State.reset with
    pending := s.pending, fw := flashOf s.fw, cal := calKept s.cal, free := s.free, sys := { Sys.reset with pwrLow := s.sys.pwrLow },
    aon := { Aon.reset with vaonGood := true, bank0 := bank0 + 4 * b2n win } } : State).wrs
      [(F.RST_STATUS_PHASE, 1), (F.RST_OPT_BANKV_CLASS, bank0), (F.RST_OPT_BANKV_OUT_WIN, b2n win)]

theorem powerOn_eq (s : State) (bank0 : Nat) (win : Bool) : s.powerOn bank0 win =
    if win then ((s.powerWords bank0 win).logEvent 0x0104 0 2 0).errEvent rstBase 0x0202 2 0 bank0
    else (s.powerWords bank0 win).logEvent 0x0104 0 2 0 := rfl

theorem powerWords_spec (s : State) {bank0 : Nat} (hb : bank0 < 4) (win : Bool) : let u := s.powerWords bank0 win
    u.tb = 0 ∧ u.dram = [] ∧ u.aon.vaonGood = true ∧ u.rd F.RST_STATUS_PHASE = 1 ∧ u.rd F.RST_OPT_BANKV_CLASS = bank0 ∧
      u.rd F.RST_OPT_BANKV_OUT_WIN = b2n win ∧ u.sys.pwrLow = s.sys.pwrLow ∧
      (∀ a, a ≠ R.RST_STATUS → a ≠ R.RST_OPT_BANKV → u.get a = State.reset.get a) ∧ u.lec = State.reset.lec ∧ u.mbx = State.reset.mbx ∧
      u.evr = State.reset.evr ∧ u.fw = flashOf s.fw ∧ u.pending = s.pending := by
  unfold powerWords
  generalize hv : ({ State.reset with
    pending := s.pending, fw := flashOf s.fw, cal := calKept s.cal, free := s.free, sys := { Sys.reset with pwrLow := s.sys.pwrLow },
    aon := { Aon.reset with vaonGood := true, bank0 := bank0 + 4 * b2n win } } : State) = v
  have hu : v.wrs [(F.RST_STATUS_PHASE, 1), (F.RST_OPT_BANKV_CLASS, bank0), (F.RST_OPT_BANKV_OUT_WIN, b2n win)] =
      ((v.wr F.RST_STATUS_PHASE 1).wr F.RST_OPT_BANKV_CLASS bank0).wr F.RST_OPT_BANKV_OUT_WIN (b2n win) := rfl
  rw [hu]
  have hdata : v.tb = 0 ∧ v.dram = [] ∧ v.aon.vaonGood = true ∧ v.sys.pwrLow = s.sys.pwrLow ∧ (∀ a, v.get a = State.reset.get a) ∧
      v.lec = State.reset.lec ∧ v.mbx = State.reset.mbx ∧ v.evr = State.reset.evr ∧ v.fw = flashOf s.fw ∧ v.pending = s.pending := by
    rw [← hv]
    exact ⟨rfl, rfl, rfl, rfl, fun _ => rfl, rfl, rfl, rfl, rfl, rfl⟩
  obtain ⟨htb, hd, hvg, hlow, hget, hlec, hmbx, hevr, hfw, hpend⟩ := hdata
  refine ⟨by simp [htb], by simp [hd], by simp [hvg], ?_, ?_, ?_, by simp [hlow], fun a h1 h2 => ?_, by simp [hlec], by simp [hmbx],
    by simp [hevr], by simp [hfw], by simp [hpend]⟩
  · rw [rd_wr_ne _ _ (by decide), rd_wr_ne _ _ (by decide), rd_wr _ _ (by decide)]
    rfl
  · rw [rd_wr_apart _ _ (by decide), rd_wr _ _ (by decide)]
    exact Nat.mod_eq_of_lt (Nat.lt_trans hb (by decide))
  · rw [rd_wr _ _ (by decide)]
    cases win <;> rfl
  · rw [get_wr_ne _ _ h2, get_wr_ne _ _ h2, get_wr_ne _ _ h1, hget]

/-- The events of power-on change the recorder alone. -/
theorem powerOn_events (s : State) (bank0 : Nat) (win : Bool) : let u := s.powerWords bank0 win
    let t := s.powerOn bank0 win
    t.tb = u.tb ∧ t.dram = u.dram ∧ t.aon = u.aon ∧ t.sys = u.sys ∧ t.lec = u.lec ∧ t.mbx = u.mbx ∧ t.fw = u.fw ∧ t.pending = u.pending ∧
      u.regsKeep t (eventRegs ++ errRegs rstBase) := by
  intro u t
  have ht : t = if win then (u.logEvent 0x0104 0 2 0).errEvent rstBase 0x0202 2 0 bank0 else u.logEvent 0x0104 0 2 0 := s.powerOn_eq bank0 win
  clear_value u t
  rw [ht]
  cases win
  · rw [if_neg Bool.false_ne_true]
    refine ⟨by simp, by simp, by simp, by simp, by simp, by simp, by simp, by simp, fun a ha => ?_⟩
    exact logEvent_get _ _ _ _ _ fun he => ha (List.mem_append_left _ he)
  · rw [if_pos rfl]
    refine ⟨by simp, by simp, by simp, by simp, by simp, by simp, by simp, by simp, fun a ha => ?_⟩
    rw [List.mem_append, not_or, errRegs, List.mem_cons, List.mem_singleton, not_or] at ha
    obtain ⟨hev, h0, h1⟩ := ha
    rw [errEvent_get _ _ _ _ _ _ hev h0 h1, logEvent_get _ _ _ _ _ hev]

theorem powerOn_spec (s : State) (b : Fin 4) (win : Bool) : let t := s.powerOn b.val win
    t.tb = 0 ∧ t.dram = [] ∧ t.aon.vaonGood = true ∧ t.rd F.RST_STATUS_PHASE = 1 ∧
      t.rd F.RST_OPT_BANKV_CLASS = b.val ∧ t.rd F.RST_OPT_BANKV_OUT_WIN = b2n win ∧ t.sys.pwrLow = s.sys.pwrLow ∧
      State.reset.regsKeep t (R.RST_STATUS :: R.RST_OPT_BANKV :: State.eventRegs ++ State.errRegs rstBase) ∧
      t.lec = State.reset.lec ∧ t.mbx = State.reset.mbx ∧
      (win = false → State.reset.logged t 0x0104 0 2 0) ∧
      (win = true → ∃ q r, t.evr.fifo = [q, r] ∧ q.code = 0x0104 ∧ q.a = 2 ∧ r.code = 0x0202 ∧ r.sev = 2 ∧ r.a = 0 ∧ r.b = b.val) ∧
      t.fw.copies = s.fw.copies ∧ t.fw.store = s.fw.store ∧ t.fw.image = s.fw.image ∧ t.pending = s.pending := by
  intro t
  have heq := s.powerOn_eq b.val win
  obtain ⟨htb, hd, hv, hph, hcl, how, hlow, hget, hlec, hmbx, hevr, hfw, hpend⟩ := s.powerWords_spec b.isLt win
  obtain ⟨ktb, kd, ka, ky, kl, km, kf, kp, kw⟩ := s.powerOn_events b.val win
  obtain ⟨u, hu⟩ : ∃ u, s.powerWords b.val win = u := ⟨_, rfl⟩
  rw [hu] at heq htb hd hv hph hcl how hlow hget hlec hmbx hevr hfw hpend ktb kd ka ky kl km kf kp kw
  have hempty : u.evr.fifo = [] := congrArg Evr.fifo hevr
  have hrd : ∀ f : Fld, f.addr ∉ eventRegs ++ errRegs rstBase → t.rd f = u.rd f := fun f hf => rd_congr (kw _ hf)
  have htfw : t.fw = flashOf s.fw := kf.trans hfw
  refine ⟨ktb.trans htb, kd.trans hd, (congrArg Aon.vaonGood ka).trans hv, (hrd _ (by decide)).trans hph, (hrd _ (by decide)).trans hcl,
    (hrd _ (by decide)).trans how, (congrArg Sys.pwrLow ky).trans hlow, fun a ha => ?_, kl.trans hlec, km.trans hmbx, fun hw => ?_, fun hw => ?_,
    by rw [htfw]; rfl, by rw [htfw]; rfl, by rw [htfw]; rfl, kp.trans hpend⟩
  · rw [List.cons_append, List.cons_append, List.mem_cons, List.mem_cons, not_or, not_or] at ha
    obtain ⟨h1, h2, h3⟩ := ha
    rw [kw a h3, hget a h1 h2]
  · rw [show t = u.logEvent 0x0104 0 2 0 from heq.trans (if_neg (by simp [hw]))]
    exact logged_logEvent hevr htb 0x0104 0 2 0
  · rw [show t = (u.logEvent 0x0104 0 2 0).errEvent rstBase 0x0202 2 0 b.val from heq.trans (if_pos hw)]
    have h1 : (u.logEvent 0x0104 0 2 0).evr.fifo = [u.reqOf 0x0104 0 2 0] := by
      rw [logEvent_fifo _ _ _ _ _ (by rw [hempty]; decide), hempty]
      rfl
    refine ⟨_, _, by rw [errEvent_fifo _ _ _ _ _ _ (by rw [h1]; exact (by decide : 1 < 16)), h1]; rfl, rfl, rfl, rfl, rfl, rfl, ?_⟩
    exact Nat.mod_eq_of_lt (Nat.lt_trans b.isLt (by decide))

end State

/-- Settles O39: a reset with the reach of RESET_N puts everything at reset but what it keeps, and the end of the grants after it
writes the recorder's and the mailboxes' words alone; power-on leaves the reset state with its events. -/
theorem powerOnAndResets : Obligations.PowerOnAndResets := by
  refine ⟨fun s b win => ⟨⟨_, rfl, s.powerOn_spec b win⟩, ⟨s.aonRelease, rfl, ?_⟩, fun hv hp => ⟨s.coreGood, rfl, ?_⟩⟩, fun v s => ?_⟩
  · by_cases h : (s.aon.vaonGood && s.rd F.RST_STATUS_PHASE == 1) = true
    · have ht : s.aonRelease = s.wr F.RST_STATUS_PHASE 2 := if_pos h
      rw [if_pos h, ht]
      exact ⟨rd_wr s 2 (f := F.RST_STATUS_PHASE) (by decide), fun a ha => get_wr_ne _ _ (List.ne_of_not_mem_cons ha), rfl⟩
    · rw [if_neg h]
      exact if_neg h
  · exact if_pos (by simp [hv, hp])
  · intro reborn up
    have hspec : ∀ t k, s.Reborn t k → reborn t k := fun t k h =>
      ⟨h.mode, h.modeCause, h.cause, h.phase, h.tb, h.grants, h.lamps, h.aon, h.records, h.blocks, h.lec, h.act, h.copies, h.image, h.dram⟩
    have hdev : ∀ k, k < 8 → reborn (s.deviceReset k 4) k := fun k hk => hspec _ k (s.deviceReset_reborn hk).1
    refine ⟨fun hg hup => ⟨s.brownOut, rfl, ?_⟩, fun hv hp hup => ⟨s.resetPin, rfl, ?_⟩, ⟨_, rfl, ?_⟩, ⟨_, rfl, ?_⟩⟩
    · obtain ⟨hr, hiso, hcg⟩ := brownOut_reborn hg hup
      exact ⟨hspec _ 1 hr, hiso, hcg⟩
    · rw [resetPin_reborn hv hp hup]
      exact hdev 3 (by decide)
    · by_cases h : v.toNat % 65536 = 0x9480 ∧ bit v.toNat 16 = true
      · rw [if_pos h, if_pos h]
        exact hdev 6 (by decide)
      · rw [if_neg h, if_neg h]
    · by_cases h : (s.rst.device && s.fwRuns) = true
      · rw [if_pos h, if_pos h]
        exact hdev 6 (by decide)
      · rw [if_neg h, if_neg h]

end Sys2Proof.Machine
end

section
/-! SUPPORT. RESET_FUNCTION (R70, R138). -/

set_option Elab.async false

namespace Sys2Proof.Machine
open State
namespace State

/-- A handler that changes only the reset controller's data leaves the rest of the machine alone. -/
theorem performs_modRst (s : State) (p : Fin 3) (mb : Fin 6) {op : Nat} (flags seq : Nat) (f : Rst → Rst) :
    performs { s with rst := f s.rst } (closed ⟨(s.opened p mb seq).modRst f, stOK, 0, []⟩ (tagOf p mb op flags seq)) p mb op seq stOK 0 [] := by
  refine ⟨?_, ?_, by simp⟩
  · refine answered_closed ⟨_, stOK, 0, []⟩ p mb op flags seq (show stOK ≠ stDEFER by decide) (c := []) ?_
    rw [modRst_port]
    exact opened_seqs s p mb seq
  · constructor
    · intro a ha
      simp only [List.mem_cons, List.not_mem_nil, or_false, not_or] at ha
      rw [closed_get _ _ ha.1 ha.2 (.inr (.inr rfl)), modRst_get, opened_get _ _ _ _ ha.1]
      rfl
    case rst => rw [closed_rst, modRst, opened_rst]
    all_goals simp

theorem resetFunction_data (u : State) (g : Tag) (pl : List Byte) : (u.resetFunction g pl).data = [] := by
  unfold resetFunction
  refine data_ite rfl ?_
  split
  · refine data_ite ?_ rfl
    unfold resetBlock
    split
    · rfl
    · exact data_ite rfl (data_ite rfl rfl)
  · exact data_ite rfl rfl
  · exact data_ite rfl (data_ite rfl rfl)
  · rfl

theorem exec_resetFunction {s : State} {p : Fin 3} {mb : Fin 6} {flags seq : Nat} {pl : List Byte} (a : s.Asks p mb 0x16 flags seq pl)
    (hmax : 4 ≤ s.maxPay p) : exec (.resetFunction p mb) s =
      .next (closed ((s.opened p mb seq).resetFunction (tagOf p mb 0x16 flags seq) pl) (tagOf p mb 0x16 flags seq)) := by
  change Host.Outcome.next _ = _
  rw [serve_ok a _ rfl _ rfl (by rw [resetFunction_data]; exact hmax)]

/-- DEVICE: with its key the reset is scheduled. -/
theorem resetFunction_device (u : State) (g : Tag) {key : Nat} (hk : key < 2 ^ 16) :
    u.resetFunction g ([1, 0] ++ leBytes 2 key ++ [0, 0]) =
      if key = 0x9480 then ⟨u.modRst fun r => { r with device := true }, stOK, 0, []⟩ else refuse u stBAD_PARAM 0 := by
  have h2 : le16 ([1, 0] ++ leBytes 2 key ++ [0, 0]) 2 = key := by
    simp [leBytes, le16, byteAt]
    omega
  have h0 : byteAt ([1, 0] ++ leBytes 2 key ++ [0, 0]) 0 = 1 := rfl
  have hz : zeroAt ([1, 0] ++ leBytes 2 key ++ [0, 0]) 1 1 = true ∧ zeroAt ([1, 0] ++ leBytes 2 key ++ [0, 0]) 4 2 = true := ⟨rfl, rfl⟩
  have hlen : ([1, 0] ++ leBytes 2 key ++ [0, 0]).length = 6 := rfl
  generalize [1, 0] ++ leBytes 2 key ++ [0, 0] = pl at *
  unfold resetFunction
  simp [h0, h2, hz, hlen]

/-- WATCHDOG: arms the watchdog. -/
theorem resetFunction_watchdog (u : State) (g : Tag) {ms : Nat} (h1 : 1 ≤ ms) (h2 : ms ≤ 1000) :
    u.resetFunction g ([2, 0, 0, 0] ++ leBytes 2 ms) =
      if u.on F.RST_WDT_CFG_ARMED then refuse u stBUSY 0 else ⟨u.watchdogArm (ms + 2 ^ 31), stOK, 0, []⟩ := by
  have h4 : le16 ([2, 0, 0, 0] ++ leBytes 2 ms) 4 = ms := by
    simp [leBytes, le16, byteAt]
    omega
  have h0 : byteAt ([2, 0, 0, 0] ++ leBytes 2 ms) 0 = 2 := rfl
  have hz : zeroAt ([2, 0, 0, 0] ++ leBytes 2 ms) 1 3 = true := rfl
  have hlen : ([2, 0, 0, 0] ++ leBytes 2 ms).length = 6 := rfl
  have hms : ¬ (ms = 0 ∨ 1000 < ms) := by omega
  generalize [2, 0, 0, 0] ++ leBytes 2 ms = pl at *
  unfold resetFunction
  simp [h0, h4, hz, hlen, hms]

/-- BLOCK: names a block by its Hall Pass identifier. -/
theorem resetFunction_block (u : State) (g : Tag) {id : Nat} (hid : id < 256) :
    u.resetFunction g ([0] ++ leBytes 1 id ++ [0, 0, 0, 0]) = u.resetBlock g id := by
  have h1 : byteAt ([0] ++ leBytes 1 id ++ [0, 0, 0, 0]) 1 = id := by
    simp [leBytes, byteAt]
    omega
  have h0 : byteAt ([0] ++ leBytes 1 id ++ [0, 0, 0, 0]) 0 = 0 := rfl
  have hz : zeroAt ([0] ++ leBytes 1 id ++ [0, 0, 0, 0]) 2 4 = true := rfl
  have hlen : ([0] ++ leBytes 1 id ++ [0, 0, 0, 0]).length = 6 := rfl
  generalize [0] ++ leBytes 1 id ++ [0, 0, 0, 0] = pl at *
  unfold resetFunction
  simp [h0, h1, hz, hlen]

/-! ### BLOCK: the reset of a named block (R68, R70) -/

/-- The bits of one block of a register of resets. -/
def blockBits (k v : Nat) : Prop := k < 4 ∧ (v = 65536 ∨ ∃ i < 13, v = 2 ^ i) ∨ k = 4 ∧ ∃ i < 6, v = 2 ^ i

theorem resetBits_some {id k v : Nat} (h : resetBits id = some (k, v)) : blockBits k v := by
  unfold resetBits at h
  split_ifs at h with h1 h2 h3
  · obtain ⟨rfl, rfl⟩ := by simpa using h
    exact .inr ⟨rfl, id - 7, by omega, rfl⟩
  · obtain ⟨rfl, rfl⟩ := by simpa using h
    exact .inl ⟨by omega, .inl rfl⟩
  · obtain ⟨rfl, rfl⟩ := by simpa using h
    exact .inl ⟨by omega, .inr ⟨_, by omega, rfl⟩⟩

/-- The reset of a sub-block leaves the reset controller alone. -/
theorem subReset_rst (s : State) (n : Fin 4) (i : Nat) : (s.subReset n i).rst = s.rst ∧
    (s.subReset n i).get (R.RST_BLK_CTRLk n.val) = s.get (R.RST_BLK_CTRLk n.val) := by
  obtain ⟨u, hu, hc⟩ := s.subReset_via n i
  have hk : R.RST_BLK_CTRLk n.val < 0x40100000 ∧ sharedWord (R.RST_BLK_CTRLk n.val) = false ∧
      R.RST_BLK_CTRLk n.val ≠ R.SRC_STATUS n ∧ R.RST_BLK_CTRLk n.val ≠ R.CHN_STATUS n := by clear * -; decide +revert
  obtain ⟨hlow, hsh, hsrc, hchn⟩ := hk
  have hbase : 0x40100000 ≤ lecBase n := Nat.le_add_right ..
  refine ⟨hc.rst.trans hu.rst, ?_⟩
  rw [hc.word _ hsh hsrc hchn, bankReset_get, if_neg (by omega), hu.word _ (by rw [mayTouch_system hlow, hsh])]

/-- So does that of a block that RESET_FUNCTION names beside the channels: a receiver, a DRAM controller or a CAN controller. -/
theorem sysReset_rst (s : State) {i : Nat} (hi : i < 6) : (s.sysReset i).rst = s.rst ∧
    (s.sysReset i).get R.RST_BLK_CTRL4 = s.get R.RST_BLK_CTRL4 := by
  have hbank : ∀ (u : State) (lo hi : Nat), 0x40080000 ≤ lo → (u.bankReset lo hi).get R.RST_BLK_CTRL4 = u.get R.RST_BLK_CTRL4 := fun u lo hi h => by
    rw [bankReset_get, if_neg (by unfold R.RST_BLK_CTRL4; omega)]
  have hrst : ∀ (u : State) (lo hi : Nat), (u.bankReset lo hi).rst = u.rst := fun _ _ _ => rfl
  unfold sysReset
  split
  · have h := (Within.refl (cs := []) s).csiClk (rx := duo i) (on := false)
    extract_lets rx
    refine ⟨?_, ?_⟩
    · rw [hrst, modCsi_rst, h.rst]
    · rw [hbank _ _ _ (show 0x40080000 ≤ csiBase rx from Nat.le_add_right ..), modCsi_get, h.word _ (by decide)]
  · split
    · extract_lets ch u
      have hu : u.rst = s.rst ∧ u.get R.RST_BLK_CTRL4 = s.get R.RST_BLK_CTRL4 :=
        ⟨rfl, hbank (s.dramLost ch) _ _ (Nat.le_trans (by decide) (Nat.le_add_right ..))⟩
      clear_value u
      have h : ∀ v : State, v.rst = u.rst → v.regs = u.regs → v.csiEnable.rst = s.rst ∧
          v.csiEnable.get R.RST_BLK_CTRL4 = s.get R.RST_BLK_CTRL4 := fun v hv hr => by
        have hw := (Within.refl (cs := []) v).csiEnable
        exact ⟨hw.rst.trans (hv.trans hu.1), (hw.word _ (by decide)).trans ((get_congr hr _).trans hu.2)⟩
      exact h _ (by simp) (by simp)
    · exact ⟨rfl, rfl⟩

/-- The word that names a block in reset. -/
def blockWord (k : Nat) : Nat := if k = 4 then R.RST_BLK_CTRL4 else R.RST_BLK_CTRLk k

theorem and_of_or {x v : Nat} (hv : v < 2 ^ 32) : (x ||| v) % 2 ^ 32 &&& v = v := by
  refine Nat.eq_of_testBit_eq fun j => ?_
  rw [Nat.testBit_and, Nat.testBit_mod_two_pow, Nat.testBit_or]
  cases hj : v.testBit j with
  | false => simp
  | true =>
    have : j < 32 := by
      by_contra hge
      rw [Nat.testBit_lt_two_pow (Nat.lt_of_lt_of_le hv (Nat.pow_le_pow_right (by decide) (by omega)))] at hj
      cases hj
    simp [this]

/-- The bits of a write that names blocks of a channel. -/
theorem blockBits_channel {v : Nat} (h : v = 65536 ∨ ∃ i < 13, v = 2 ^ i) : v % 2 ^ 13 + v / 2 ^ 16 % 2 * 2 ^ 16 = v ∧ v < 2 ^ 32 := by
  rcases h with rfl | ⟨i, hi, rfl⟩
  · decide
  · exact (by decide : ∀ i < 13, 2 ^ i % 2 ^ 13 + 2 ^ i / 2 ^ 16 % 2 * 2 ^ 16 = 2 ^ i ∧ 2 ^ i < 2 ^ 32) i hi

theorem softReset_block (s : State) {k v : Nat} (h : blockBits k v) : (s.softReset k v).rst = s.rst ∧
    (s.softReset k v).get (blockWord k) &&& v = v := by
  have hend : ∀ u : State, u.showPend.rst = u.rst ∧ ∀ a, a ≠ R.RST_STATUS → u.showPend.get a = u.get a := fun u =>
    ⟨u.showPend_rst, (Shown.refl u).showPend.word⟩
  unfold softReset
  rcases h with ⟨hk, hv⟩ | ⟨rfl, i, hi, rfl⟩
  · obtain ⟨hbits, hlt⟩ := blockBits_channel hv
    obtain ⟨n, rfl⟩ : ∃ n : Fin 4, n.val = k := ⟨⟨k, hk⟩, rfl⟩
    have hn : chan n.val = n := by clear * -; decide +revert
    have hw : blockWord n.val = R.RST_BLK_CTRLk n.val ∧ R.RST_BLK_CTRLk n.val ≠ R.RST_STATUS := by clear * -; decide +revert
    rw [if_pos n.isLt, hn, hbits, hw.1]
    refine ⟨(hend _).1.trans ((foldl_keeps State.rst (fun u i => ?_) _ _).trans rfl), ?_⟩
    · split
      · exact (u.subReset_rst n i).1
      · rfl
    · rw [(hend _).2 _ hw.2]
      refine (congrArg (· &&& v) ((foldl_keeps (fun u => u.get (R.RST_BLK_CTRLk n.val)) (fun u i => ?_) _ _).trans (get_put_self ..))).trans
        (and_of_or hlt)
      split
      · exact (u.subReset_rst n i).2
      · rfl
  · have hone : ((List.range 9).filter fun j => bit (2 ^ i) j) = [i] :=
      (by decide : ∀ i < 6, ((List.range 9).filter fun j => bit (2 ^ i) j) = [i]) i hi
    have hv : 2 ^ i % 512 = 2 ^ i ∧ 2 ^ i < 2 ^ 32 := (by decide : ∀ i < 6, 2 ^ i % 512 = 2 ^ i ∧ 2 ^ i < 2 ^ 32) i hi
    rw [if_neg (by decide), if_pos rfl, foldl_only hone, hv.1]
    obtain ⟨hr, hg⟩ := (s.put R.RST_BLK_CTRL4 (s.get R.RST_BLK_CTRL4 ||| 2 ^ i)).sysReset_rst hi
    refine ⟨(hend _).1.trans (hr.trans rfl), ?_⟩
    rw [show blockWord 4 = R.RST_BLK_CTRL4 from rfl, (hend _).2 _ (by decide), hg, get_put_self, and_of_or hv.2]

/-- A block reset that is put off: the answer follows the release. -/
theorem resetBlock_defers {u : State} {id k v : Nat} (hb : resetBits id = some (k, v)) (hi : u.resetIdle id = true) (g : Tag)
    (h1 : ¬ (id = 11 ∧ g.port = 1)) (h2 : ¬ (id = 12 ∧ g.port = 2)) : u.resetBlock g id =
      ⟨(u.softReset k v).modRst fun r => { r with softTag := (u.softReset k v).rst.softTag ++ [(k, v, g)] }, stDEFER, 0, []⟩ := by
  unfold resetBlock
  rw [hb]
  simp [hi, h1, h2]

theorem opened_resetIdle (s : State) (p : Fin 3) (mb : Fin 6) (q id : Nat) : (s.opened p mb q).resetIdle id = s.resetIdle id := by
  have h1 : ∀ n, (s.opened p mb q).on (F.LEC_STATUS_RUNNING n) = s.on (F.LEC_STATUS_RUNNING n) := fun n =>
    on_congr (opened_rd _ _ _ _ (by clear * -; decide +revert))
  have h2 : ∀ rx v, (s.opened p mb q).on (F.CSI_VCv_CFG_EN rx v) = s.on (F.CSI_VCv_CFG_EN rx v) := fun rx v =>
    on_congr (opened_rd _ _ _ _ (show R.CSI_VCv_CFG rx v ≠ R.MBX_HSTAT by unfold R.CSI_VCv_CFG csiBase R.MBX_HSTAT; omega))
  simp only [resetIdle, h1, h2, opened_fw]

/-- What a deferred command leaves beside its waiting mailbox. -/
theorem closed_defers (u : State) (p : Fin 3) (mb : Fin 6) (op flags seq : Nat) :
    ((closed ⟨u, stDEFER, 0, []⟩ (tagOf p mb op flags seq)).port p).defer.contains mb.val = true := by
  unfold closed
  rw [if_pos rfl, show (tagOf p mb op flags seq).port = p from rfl, port_modPort]
  simp [tagOf]

theorem resetBlock_acts (s : State) (p : Fin 3) (mb : Fin 6) (flags seq : Nat) {id k v : Nat} (hb : resetBits id = some (k, v))
    (hi : s.resetIdle id = true) (h1 : ¬ (id = 11 ∧ p = 1)) (h2 : ¬ (id = 12 ∧ p = 2)) :
    let t := closed ((s.opened p mb seq).resetBlock (tagOf p mb 0x16 flags seq) id) (tagOf p mb 0x16 flags seq)
    (t.port p).defer.contains mb.val = true ∧
      t.rst.softTag = s.rst.softTag ++ [(k, v, ⟨p, mb.val, 0x16, seq, bit flags 3⟩)] ∧ t.get (blockWord k) &&& v = v := by
  rw [resetBlock_defers hb ((opened_resetIdle s p mb seq id).trans hi) _ h1 h2]
  obtain ⟨hr, hw⟩ := (s.opened p mb seq).softReset_block (resetBits_some hb)
  have hne : blockWord k ≠ R.MBX_HSTAT ∧ blockWord k ≠ R.MBX_IRQ_STATUS ∧ blockWord k ≠ R.MBX_HCFG := by
    have hk : k ≤ 4 := (resetBits_some hb).elim (fun h => Nat.le_of_lt h.1) fun h => Nat.le_of_eq h.1
    clear * - hk
    interval_cases k <;> decide
  refine ⟨closed_defers _ p mb 0x16 flags seq, ?_, ?_⟩
  · rw [closed_rst, modRst, hr, opened_rst]
    rfl
  · rw [closed_get _ _ hne.1 hne.2.1 (.inl hne.2.2), modRst_get, hw]

/-- WATCHDOG on a watchdog that is not armed. -/
theorem watchdogArm_answers (s : State) (p : Fin 3) (mb : Fin 6) (flags seq : Nat) (h : s.on F.RST_WDT_CFG_ARMED = false) {ms : Nat}
    (hms : ms ≤ 1000) : let t := closed ⟨(s.opened p mb seq).watchdogArm (ms + 2 ^ 31), stOK, 0, []⟩ (tagOf p mb 0x16 flags seq)
    t.answered p mb 0x16 seq stOK 0 [] ∧ t.on F.RST_WDT_CFG_ARMED = true ∧
      t.rd F.RST_WDT_CFG_TIMEOUT = ms ∧ t.rst = { s.rst with wdtTick := s.tb.toNat } ∧ t.fw = s.fw ∧ t.dram = s.dram ∧
      s.regsKeep t [R.MBX_HSTAT, R.MBX_IRQ_STATUS, R.RST_WDT_CFG] := by
  have harm : (s.opened p mb seq).on F.RST_WDT_CFG_ARMED = false := (on_congr (opened_rd _ _ _ _ (by decide))).trans h
  have hbit : bit (ms + 2 ^ 31) 31 = true := by
    simp only [bit, beq_iff_eq]
    omega
  rw [watchdogArm_arms harm hbit]
  have hrd : ∀ (u : State) (f : Fld), f.addr = R.RST_WDT_CFG → (closed ⟨u, stOK, 0, []⟩ (tagOf p mb 0x16 flags seq)).rd f = u.rd f :=
    fun u f hf => closed_rd _ _ (by rw [hf]; decide) (by rw [hf]; decide) (.inl (by rw [hf]; decide))
  refine ⟨?_, ?_, ?_, ?_, by simp, by simp, fun a ha => ?_⟩
  · refine answered_closed ⟨_, stOK, 0, []⟩ p mb 0x16 flags seq (show stOK ≠ stDEFER by decide) (c := []) ?_
    rw [wr_port, modRst_port, wr_port]
    exact opened_seqs s p mb seq
  · rw [on_congr (hrd _ _ rfl)]
    exact on_wr_one _ (by decide) rfl
  · rw [hrd _ _ rfl, rd_wr_apart _ _ (by decide), modRst_rd, rd_wr _ _ (by decide)]
    change (ms + 2 ^ 31) % 2 ^ 10 = ms
    omega
  · rw [closed_rst, wr_rst, modRst, wr_rst, opened_rst, opened_tb]
  · simp only [List.mem_cons, List.not_mem_nil, or_false, not_or] at ha
    obtain ⟨h1, h2, h3⟩ := ha
    rw [closed_get _ _ h1 h2 (.inr (.inr rfl)), get_wr_ne _ _ h3, modRst_get, get_wr_ne _ _ h3, opened_get _ _ _ _ h1]

/-- RESET_FUNCTION, as O34 states it. -/
theorem resetFunction_spec (p : Fin 3) (mb : Fin 6) (flags seq : Nat) (s : State) (hmax : 4 ≤ s.maxPay p) :
    (∀ key, s.Asks p mb 0x16 flags seq ([1, 0] ++ leBytes 2 key ++ [0, 0]) → key < 2 ^ 16 →
        ∃ t, exec (.resetFunction p mb) s = .next t ∧
          (key = 0x9480 → State.performs { s with rst := { s.rst with device := true } } t p mb 0x16 seq stOK 0 []) ∧
          (key ≠ 0x9480 → s.performs t p mb 0x16 seq stBAD_PARAM 0 [])) ∧
      (∀ ms, s.Asks p mb 0x16 flags seq ([2, 0, 0, 0] ++ leBytes 2 ms) → 1 ≤ ms → ms ≤ 1000 →
        ∃ t, exec (.resetFunction p mb) s = .next t ∧
          (s.on F.RST_WDT_CFG_ARMED = true → s.performs t p mb 0x16 seq stBUSY 0 []) ∧
          (s.on F.RST_WDT_CFG_ARMED = false → t.answered p mb 0x16 seq stOK 0 [] ∧ t.on F.RST_WDT_CFG_ARMED = true ∧
            t.rd F.RST_WDT_CFG_TIMEOUT = ms ∧ t.rst = { s.rst with wdtTick := s.tb.toNat } ∧ t.fw = s.fw ∧ t.dram = s.dram ∧
            s.regsKeep t [R.MBX_HSTAT, R.MBX_IRQ_STATUS, R.RST_WDT_CFG])) ∧
      (∀ id, s.Asks p mb 0x16 flags seq ([0] ++ leBytes 1 id ++ [0, 0, 0, 0]) → id < 256 →
        ∃ t, exec (.resetFunction p mb) s = .next t ∧
          (State.resetBits id = none → s.performs t p mb 0x16 seq stBAD_PARAM 0 []) ∧
          (∀ k v, State.resetBits id = some (k, v) → s.resetIdle id = false → s.performs t p mb 0x16 seq stWRONG_MODE 0 []) ∧
          (∀ k v, State.resetBits id = some (k, v) → s.resetIdle id = true → ¬ (id = 11 ∧ p = 1) → ¬ (id = 12 ∧ p = 2) →
            (t.port p).defer.contains mb.val = true ∧
            t.rst.softTag = s.rst.softTag ++ [(k, v, ⟨p, mb.val, 0x16, seq, bit flags 3⟩)] ∧
            t.get (if k = 4 then R.RST_BLK_CTRL4 else R.RST_BLK_CTRLk k) &&& v = v)) := by
  have refused : ∀ {st : Nat}, st ≠ stDEFER →
      s.performs (closed (refuse (s.opened p mb seq) st 0) (tagOf p mb 0x16 flags seq)) p mb 0x16 seq st 0 [] := fun hst =>
    replies_closed s p mb flags seq (by decide) hst
  refine ⟨fun key a hk => ⟨_, exec_resetFunction a hmax, ?_⟩, fun ms a h1 h2 => ⟨_, exec_resetFunction a hmax, ?_⟩,
    fun id a hid => ⟨_, exec_resetFunction a hmax, ?_⟩⟩
  · rw [resetFunction_device _ _ hk]
    refine ⟨fun h => ?_, fun h => ?_⟩
    · rw [if_pos h]
      exact performs_modRst s p mb flags seq fun r => { r with device := true }
    · rw [if_neg h]
      exact refused (by decide)
  · rw [resetFunction_watchdog _ _ h1 h2]
    have harm : (s.opened p mb seq).on F.RST_WDT_CFG_ARMED = s.on F.RST_WDT_CFG_ARMED := on_congr (opened_rd _ _ _ _ (by decide))
    refine ⟨fun h => ?_, fun h => ?_⟩
    · rw [if_pos (harm.trans h)]
      exact refused (by decide)
    · rw [if_neg (by rw [harm, h]; decide)]
      exact watchdogArm_answers s p mb flags seq h h2
  · rw [resetFunction_block _ _ hid]
    refine ⟨fun h => ?_, fun k v h hidle => ?_, fun k v h hidle n1 n2 => ?_⟩
    · rw [resetBlock, h]
      exact refused (by decide)
    · rw [resetBlock, h]
      dsimp only
      rw [opened_resetIdle, hidle]
      exact refused (by decide)
    · exact resetBlock_acts s p mb flags seq h hidle n1 n2

end State
end Sys2Proof.Machine
end

section
/-! SUPPORT. CHAIN_ROLLCALL (R134, R288–R292). -/

set_option Elab.async false

namespace Sys2Proof.Machine
open State
namespace State

/-! ### Roll Call of one port -/

theorem Within.latPulse {cs : List (Fin 4)} {s t : State} (h : s.Within cs t) {n : Fin 4} {reset : Bool} : s.Within cs (t.latPulse n reset) :=
  h.modPins.modChn

/-- The registers of the drivers are the port's own. -/
theorem driver_own (n : Fin 4) {d : Nat} (h : d < 64) : ownWord n (F.CHN_DRVd_ID n d).addr = true :=
  Within.ownWord_of_offset (show lecBase n ≤ R.CHN_DRVd n d by unfold R.CHN_DRVd; omega)
    (show R.CHN_DRVd n d < lecBase n + 0x3F000 by unfold R.CHN_DRVd; omega)

/-- The mode of the chain as Roll Call records it. -/
def rollMode (s : State) (n : Fin 4) (k mux pwm div : Nat) : State :=
  if k = 0 then ((s.wr (F.CHN_MODE_MUX n) 0).wr (F.CHN_MODE_PWM n) 0).wr (F.CHN_MODE_DIV n) 0
  else ((s.wr (F.CHN_MODE_MUX n) mux).wr (F.CHN_MODE_PWM n) pwm).wr (F.CHN_MODE_DIV n) div

/-- Roll Call: the drivers' words, the count, the mode, the outcome, and an event where the outcome is not 0. -/
theorem rollCall_via (s : State) (n : Fin 4) (off ratio : Nat) (i : RollIn) : ∃ (u : State) (mux pwm div tdiag : Nat),
    (s.Within [n] u ∧ u.mbx = s.mbx) ∧
    let v := ((((u.wr (F.CHN_MODE_DRIVERS n) (rollResult i).2).rollMode n (rollResult i).2 mux pwm div).wr (F.CHN_RC_RESULT n)
      (rollResult i).1).wr (F.CHN_RC_COUNTED n) i.count).wr (F.CHN_RC_TDIAG n) tdiag
    s.rollCall n off ratio i = v ∨
      s.rollCall n off ratio i = v.blockEvent (chnBase n) (0x3003 + 256 * n.val) 3 (rollResult i).1 i.count := by
  obtain ⟨r, hr⟩ : ∃ r, s.rollCall n off ratio i = r := ⟨_, rfl⟩
  rw [hr]
  unfold rollCall at hr
  generalize rollResult i = q at hr ⊢
  obtain ⟨res, k⟩ := q
  dsimp -zeta only at hr
  extract_lets found clk pwm mux tdiag v0 v1 v2 v3 v4 at hr
  refine ⟨v1, mux, pwm, ceilDiv 300000 clk, tdiag, ⟨?_, ?_⟩, ?_⟩
  · exact (Within.refl s).latPulse.modChn.foldlMem (l := List.range 64) (fun d => List.mem_range.mp) fun _ d hd h => h.wr (.head _) (driver_own n hd)
  · exact (foldl_keeps State.mbx (fun u d => wr_mbx ..) _ _).trans rfl
  · by_cases h : res = 0
    · exact .inl (hr.symm.trans (if_pos h))
    · exact .inr (hr.symm.trans (if_neg h))

theorem rollMode_within {cs : List (Fin 4)} {s t : State} (h : s.Within cs t) {n : Fin 4} (hn : n ∈ cs) (k mux pwm div : Nat) :
    s.Within cs (t.rollMode n k mux pwm div) :=
  .ite (((h.wr hn).wr hn).wr hn) (((h.wr hn).wr hn).wr hn)

theorem rollMode_mbx (s : State) (n : Fin 4) (k mux pwm div : Nat) : (s.rollMode n k mux pwm div).mbx = s.mbx := by
  unfold rollMode
  split <;> simp

theorem rollMode_drivers (s : State) (n : Fin 4) (k mux pwm div : Nat) :
    (s.rollMode n k mux pwm div).rd (F.CHN_MODE_DRIVERS n) = s.rd (F.CHN_MODE_DRIVERS n) := by
  have h : apart (F.CHN_MODE_MUX n) (F.CHN_MODE_DRIVERS n) = true ∧ apart (F.CHN_MODE_PWM n) (F.CHN_MODE_DRIVERS n) = true ∧
      apart (F.CHN_MODE_DIV n) (F.CHN_MODE_DRIVERS n) = true := by clear * -; decide +revert
  obtain ⟨h1, h2, h3⟩ := h
  unfold rollMode
  split <;> rw [rd_wr_apart _ _ h3, rd_wr_apart _ _ h2, rd_wr_apart _ _ h1]

theorem blockEvent_mbx (s : State) (base code sev a b : Nat) : (s.blockEvent base code sev a b).mbx = s.mbx := by
  unfold blockEvent
  split <;> simp

theorem rollCall_within (s : State) (n : Fin 4) (off ratio : Nat) (i : RollIn) :
    s.Within [n] (s.rollCall n off ratio i) ∧ (s.rollCall n off ratio i).mbx = s.mbx := by
  have hn : n ∈ [n] := .head _
  obtain ⟨u, mux, pwm, div, tdiag, ⟨hu, hm⟩, h⟩ := s.rollCall_via n off ratio i
  have hv := (((rollMode_within (hu.wr hn (f := F.CHN_MODE_DRIVERS n) (v := (rollResult i).2)) hn (rollResult i).2 mux pwm div).wr hn
    (f := F.CHN_RC_RESULT n) (v := (rollResult i).1)).wr hn (f := F.CHN_RC_COUNTED n) (v := i.count)).wr hn (f := F.CHN_RC_TDIAG n) (v := tdiag)
  rcases h with h | h
  · rw [h]
    exact ⟨hv, by simp only [wr_mbx, rollMode_mbx, hm]⟩
  · rw [h]
    exact ⟨hv.blockEvent hn, by simp only [blockEvent_mbx, wr_mbx, rollMode_mbx, hm]⟩

/-- The count of drivers and the result that a port records. -/
def rollRecords (s : State) (n : Fin 4) : Nat × Nat := (s.rd (F.CHN_MODE_DRIVERS n), s.rd (F.CHN_RC_RESULT n))

theorem rollCall_records (s : State) (n : Fin 4) (off ratio : Nat) (i : RollIn) :
    (s.rollCall n off ratio i).rollRecords n = ((rollResult i).2 % 2 ^ 7, (rollResult i).1 % 2 ^ 2) := by
  have hd : (F.CHN_MODE_DRIVERS n).addr ∉ eventRegs := by clear * -; decide +revert
  have hr : (F.CHN_RC_RESULT n).addr ∉ eventRegs := by clear * -; decide +revert
  have hev : ∀ (v : State) (code a b : Nat), (v.blockEvent (chnBase n) code 3 a b).rollRecords n = v.rollRecords n := fun v code a b =>
    congrArg₂ Prod.mk (errEvent_rd v _ _ _ _ _ hd (by clear * -; decide +revert) (by clear * -; decide +revert))
      (errEvent_rd v _ _ _ _ _ hr (by clear * -; decide +revert) (by clear * -; decide +revert))
  have hap : apart (F.CHN_RC_COUNTED n) (F.CHN_RC_RESULT n) = true ∧ apart (F.CHN_RC_TDIAG n) (F.CHN_RC_RESULT n) = true ∧
      apart (F.CHN_RC_COUNTED n) (F.CHN_MODE_DRIVERS n) = true ∧ apart (F.CHN_RC_TDIAG n) (F.CHN_MODE_DRIVERS n) = true ∧
      apart (F.CHN_RC_RESULT n) (F.CHN_MODE_DRIVERS n) = true := by clear * -; decide +revert
  obtain ⟨h1, h2, h3, h4, h5⟩ := hap
  obtain ⟨u, mux, pwm, div, tdiag, -, h⟩ := s.rollCall_via n off ratio i
  refine (h.elim (congrArg (rollRecords · n)) fun h => (congrArg (rollRecords · n) h).trans (hev ..)).trans ?_
  refine congrArg₂ Prod.mk ?_ ?_
  · rw [rd_wr_apart _ _ h4, rd_wr_apart _ _ h3, rd_wr_apart _ _ h5, rollMode_drivers, rd_wr _ _ (by clear * -; decide +revert)]
    rfl
  · rw [rd_wr_apart _ _ h2, rd_wr_apart _ _ h1, rd_wr _ _ (by clear * -; decide +revert)]
    rfl

/-! ### The outcomes of Roll Call (R292) -/

theorem rollResult_none : rollResult (rollIn []) = (1, 0) := rfl

theorem rollResult_all {c : Nat} {recs : List Nat} (h1 : 1 ≤ c) (h2 : c ≤ 64) (hv : c ≤ validRun 0 recs) :
    rollResult (rollIn (1 :: c :: recs)) = (0, c) := by
  simp only [rollIn, Nat.min_eq_left h2]
  simp [rollResult, hv, show c ≠ 0 by omega]

/-! ### CHAIN_ROLLCALL -/

/-- Roll Call of one named port, with what its chain returned. -/
def rollOne (khz : Nat) (found : List (List Nat)) (s : State) (n : Fin 4) : State :=
  (s.modFw fun w => { w with offer := s.fw.offer.set n khz }).rollCall n (if khz = 0 then 50000 else khz) 8 (rollIn (found.getD n.val []))

/-- The eight bytes of every named port. -/
def rollReports (s : State) (mask : Nat) : List Byte := (chans.map fun n => if bit mask n.val then s.rollReport n else []).flatten

theorem chainRollcall_eq (u : State) (found : List (List Nat)) {mask khz : Nat} (h0 : 0 < mask) (h16 : mask < 16)
    (hk : khz = 0 ∨ 1000 ≤ khz ∧ khz ≤ 50000) : u.chainRollcall (leBytes 1 mask ++ [0] ++ leBytes 2 khz) found =
      if chans.any fun n => bit mask n.val && u.rd (F.CHN_STATUS_STATE n) != 0 then refuse u stBUSY 0
      else ⟨u.forMask mask (rollOne khz found), stOK, 0, (u.forMask mask (rollOne khz found)).rollReports mask⟩ := by
  have hb : byteAt (leBytes 1 mask ++ [0] ++ leBytes 2 khz) 0 = mask := by
    simp [leBytes, byteAt]
    omega
  have h2 : le16 (leBytes 1 mask ++ [0] ++ leBytes 2 khz) 2 = khz := by
    simp [leBytes, le16, byteAt]
    omega
  have hz : zeroAt (leBytes 1 mask ++ [0] ++ leBytes 2 khz) 1 1 = true := rfl
  have hlen : (leBytes 1 mask ++ [0] ++ leBytes 2 khz).length = 4 := rfl
  have hm : maskOk mask = true := decide_eq_true ⟨h0, h16⟩
  have hkz : (khz == 0 || decide (1000 ≤ khz ∧ khz ≤ 50000)) = true := by simpa using hk
  generalize leBytes 1 mask ++ [0] ++ leBytes 2 khz = pl at *
  unfold chainRollcall
  extract_lets m k v
  have hm' : m = mask := hb
  have hk' : k = khz := h2
  subst hm' hk'
  rw [if_neg (by simp [hlen]), if_neg (by simp only [hm, hz, hkz]; decide)]
  rfl

theorem rollOne_within (khz : Nat) (found : List (List Nat)) (s : State) (n : Fin 4) :
    s.Within [n] (rollOne khz found s n) ∧ (rollOne khz found s n).mbx = s.mbx := by
  obtain ⟨h, hm⟩ := (s.modFw fun w => { w with offer := s.fw.offer.set n khz }).rollCall_within n (if khz = 0 then 50000 else khz) 8
    (rollIn (found.getD n.val []))
  exact ⟨(Within.refl s).modFw.trans h, hm⟩

/-- What all Roll Calls of a mask leave: DRAM, the mailboxes, and the words of the ports that are not named. -/
theorem rollMask_kept (s : State) (mask khz : Nat) (found : List (List Nat)) : let t := s.forMask mask (rollOne khz found)
    t.dram = s.dram ∧ t.mbx = s.mbx ∧ ∀ n : Fin 4, bit mask n.val = false → ∀ a, windowWord n a = true → t.get a = s.get a := by
  refine ⟨forMask_keeps State.dram (fun u n => (rollOne_within khz found u n).1.dram) mask s,
    forMask_keeps State.mbx (fun u n => (rollOne_within khz found u n).2) mask s, fun n hn a ha => ?_⟩
  refine foldl_keeps (fun u => u.get a) (fun u m => ?_) chans s
  by_cases hm : m = n
  · subst hm
    simp only [hn, Bool.false_eq_true, if_false]
  · split
    · exact (rollOne_within khz found u m).1.word a (not_mayTouch_of_window ha (Ne.symm hm))
    · rfl

theorem rollRecords_window (n : Fin 4) : windowWord n (R.CHN_MODE n) = true ∧ windowWord n (R.CHN_RC n) = true := by
  decide +revert

/-- What a named port records. -/
theorem rollMask_records (s : State) {mask : Nat} (khz : Nat) (found : List (List Nat)) {n : Fin 4} (hn : bit mask n.val = true) :
    (s.forMask mask (rollOne khz found)).rollRecords n =
      ((rollResult (rollIn (found.getD n.val []))).2 % 2 ^ 7, (rollResult (rollIn (found.getD n.val []))).1 % 2 ^ 2) := by
  have hk : ∀ (u : State) (m n : Fin 4), m ≠ n → (if bit mask m.val then rollOne khz found u m else u).rollRecords n = u.rollRecords n := by
    intro u m n hmn
    obtain ⟨h1, h2⟩ := rollRecords_window n
    split
    · have hw := (rollOne_within khz found u m).1
      exact congrArg₂ Prod.mk (hw.rd (not_mayTouch_of_window h1 hmn.symm)) (hw.rd (not_mayTouch_of_window h2 hmn.symm))
    · rfl
  obtain ⟨u, -, h⟩ := chans_once rollRecords hk s n
  rw [if_pos hn] at h
  exact h.trans (rollCall_records ..)

theorem rollReports_length (s : State) (mask : Nat) : (s.rollReports mask).length ≤ 32 := by
  have h : ∀ n : Fin 4, (if bit mask n.val then s.rollReport n else []).length ≤ 8 := fun n => by
    split
    · simp [rollReport]
    · exact Nat.zero_le _
  have h0 := h 0
  have h1 := h 1
  have h2 := h 2
  have h3 := h 3
  simp only [rollReports, chans, List.map_cons, List.map_nil, List.flatten_cons, List.flatten_nil, List.length_append, List.length_nil]
  omega

/-- The words that a report of a port is made of. -/
theorem rollReport_congr {s t : State} {n : Fin 4} (h1 : t.get (R.CHN_MODE n) = s.get (R.CHN_MODE n)) (h2 : t.get (R.CHN_RC n) = s.get (R.CHN_RC n)) :
    t.rollReport n = s.rollReport n := by
  have hm : ∀ {f : Fld}, f.addr = R.CHN_MODE n → t.rd f = s.rd f := fun h => rd_congr (by rw [h, h1])
  have hr : ∀ {f : Fld}, f.addr = R.CHN_RC n → t.rd f = s.rd f := fun h => rd_congr (by rw [h, h2])
  simp only [rollReport, chainKhz, hm (f := F.CHN_MODE_DRIVERS n) rfl, hm (f := F.CHN_MODE_MUX n) rfl, hm (f := F.CHN_MODE_PWM n) rfl,
    hm (f := F.CHN_MODE_DIV n) rfl, hr (f := F.CHN_RC_RESULT n) rfl, hr (f := F.CHN_RC_TDIAG n) rfl]

theorem exec_chainRollcall {s : State} {p : Fin 3} {mb : Fin 6} {flags seq mask khz : Nat} (found : List (List Nat))
    (a : s.Asks p mb 0x14 flags seq (leBytes 1 mask ++ [0] ++ leBytes 2 khz)) (h0 : 0 < mask) (h16 : mask < 16)
    (hk : khz = 0 ∨ 1000 ≤ khz ∧ khz ≤ 50000) (hmax : 36 ≤ s.maxPay p) : exec (.chainRollcall p mb found) s =
      .next (closed ((s.opened p mb seq).chainRollcall (leBytes 1 mask ++ [0] ++ leBytes 2 khz) found) (tagOf p mb 0x14 flags seq)) := by
  change Host.Outcome.next _ = _
  refine congrArg _ (serve_ok a _ rfl _ rfl ?_)
  rw [chainRollcall_eq _ _ h0 h16 hk]
  split
  · exact Nat.le_trans (show ([] : List Byte).length + 4 ≤ 36 by decide) hmax
  · exact Nat.le_trans (Nat.add_le_add_right (rollReports_length ..) 4) hmax

/-- CHAIN_ROLLCALL, as O34 states it. -/
theorem chainRollcall_spec (p : Fin 3) (mb : Fin 6) (flags seq mask khz : Nat) (found : List (List Nat)) (s : State)
    (a : s.Asks p mb 0x14 flags seq (leBytes 1 mask ++ [0] ++ leBytes 2 khz)) (h0 : 0 < mask) (h16 : mask < 16)
    (hk : khz = 0 ∨ 1000 ≤ khz ∧ khz ≤ 50000) (hmax : 36 ≤ s.maxPay p) :
    ∃ t, exec (.chainRollcall p mb found) s = .next t ∧ t.dram = s.dram ∧
      ((∃ n : Fin 4, bit mask n.val = true ∧ s.rd (F.CHN_STATUS_STATE n) ≠ 0) → s.performs t p mb 0x14 seq stBUSY 0 []) ∧
      ((∀ n : Fin 4, bit mask n.val = true → s.rd (F.CHN_STATUS_STATE n) = 0) →
        t.answered p mb 0x14 seq stOK 0 (t.rollReports mask) ∧
        ∀ n : Fin 4,
          (bit mask n.val = false → ∀ a, chnBase n ≤ a → a < chnBase n + 0x4000 → t.get a = s.get a) ∧
          (bit mask n.val = true → found.getD n.val [] = [] → t.rd (F.CHN_MODE_DRIVERS n) = 0 ∧ t.rd (F.CHN_RC_RESULT n) = 1) ∧
          (∀ c recs, bit mask n.val = true → found.getD n.val [] = 1 :: c :: recs → 1 ≤ c → c ≤ 64 → c ≤ validRun 0 recs →
            t.rd (F.CHN_MODE_DRIVERS n) = c ∧ t.rd (F.CHN_RC_RESULT n) = 0)) := by
  refine ⟨_, exec_chainRollcall found a h0 h16 hk hmax, ?_⟩
  rw [chainRollcall_eq _ _ h0 h16 hk]
  have hstate : ∀ n, (s.opened p mb seq).rd (F.CHN_STATUS_STATE n) = s.rd (F.CHN_STATUS_STATE n) := fun n =>
    opened_rd _ _ _ _ (by clear * -; decide +revert)
  by_cases hbusy : (chans.any fun n => bit mask n.val && s.rd (F.CHN_STATUS_STATE n) != 0) = true
  · rw [if_pos (by simpa only [hstate] using hbusy)]
    refine ⟨by simp [refuse], fun _ => replies_closed s p mb flags seq (by decide) (show stBUSY ≠ stDEFER by decide), fun h => absurd hbusy ?_⟩
    simp only [List.any_eq_true, not_exists, not_and, Bool.and_eq_true, bne_iff_ne, ne_eq, not_not]
    exact fun n _ hn => h n hn
  · rw [if_neg (by simpa only [hstate] using hbusy)]
    obtain ⟨hd, hmbx, hget⟩ := (s.opened p mb seq).rollMask_kept mask khz found
    have hrec := fun {n : Fin 4} (hn : bit mask n.val = true) => (s.opened p mb seq).rollMask_records khz found hn
    generalize (s.opened p mb seq).forMask mask (rollOne khz found) = u at hd hmbx hget hrec ⊢
    have hw : ∀ {n : Fin 4} {x : Nat}, windowWord n x = true → x ≠ R.MBX_HSTAT ∧ x ≠ R.MBX_IRQ_STATUS := fun h => by
      have hs := not_shared_of_window h
      exact ⟨fun e => absurd hs (by rw [e]; decide), fun e => absurd hs (by rw [e]; decide)⟩
    have hclosed : ∀ {n : Fin 4} {x : Nat}, windowWord n x = true →
        (closed ⟨u, stOK, 0, u.rollReports mask⟩ (tagOf p mb 0x14 flags seq)).get x = u.get x := fun h =>
      closed_get _ _ (hw h).1 (hw h).2 (.inr (.inr rfl))
    have hans : answered (closed ⟨u, stOK, 0, u.rollReports mask⟩ (tagOf p mb 0x14 flags seq)) p mb 0x14 seq stOK 0 (u.rollReports mask) := by
      refine answered_closed ⟨u, stOK, 0, u.rollReports mask⟩ p mb 0x14 flags seq (show stOK ≠ stDEFER by decide) (c := []) ?_
      rw [show u.port p = (s.opened p mb seq).port p by rw [port, hmbx, port]]
      exact opened_seqs s p mb seq
    have hdram : (closed ⟨u, stOK, 0, u.rollReports mask⟩ (tagOf p mb 0x14 flags seq)).dram = s.dram := by simp [hd]
    generalize closed ⟨u, stOK, 0, u.rollReports mask⟩ (tagOf p mb 0x14 flags seq) = t at hclosed hans hdram ⊢
    have hrd : ∀ {n : Fin 4}, bit mask n.val = true → t.rollRecords n =
        ((rollResult (rollIn (found.getD n.val []))).2 % 2 ^ 7, (rollResult (rollIn (found.getD n.val []))).1 % 2 ^ 2) := fun {n} hn =>
      (congrArg₂ Prod.mk (rd_congr (hclosed (rollRecords_window n).1)) (rd_congr (hclosed (rollRecords_window n).2))).trans (hrec hn)
    have hreport : t.rollReports mask = u.rollReports mask := by
      have h : ∀ n, t.rollReport n = u.rollReport n := fun n =>
        rollReport_congr (hclosed (rollRecords_window n).1) (hclosed (rollRecords_window n).2)
      simp only [rollReports, h]
    refine ⟨hdram, fun ⟨n, hn, hs⟩ => absurd (List.any_eq_true.mpr ⟨n, ?_, ?_⟩) hbusy,
      fun _ => ⟨hreport ▸ hans, fun n => ⟨fun hn x h1 h2 => ?_, fun hn hf => ?_, ?_⟩⟩⟩
    · clear * -
      decide +revert
    · simp [hn, hs]
    · have hx : windowWord n x = true := windowWord_iff.mpr (by unfold chnBase at h1 h2; omega)
      rw [hclosed hx, hget n hn x hx, opened_get _ _ _ _ (hw hx).1]
    · have h := hrd hn
      rw [hf, rollResult_none] at h
      exact Prod.mk.inj h
    · intro c recs hn hf h1 h2 hv
      have h := hrd hn
      rw [hf, rollResult_all h1 h2 hv, Nat.mod_eq_of_lt (show c < 2 ^ 7 by omega)] at h
      exact Prod.mk.inj h

end State

/-- Settles O34: Roll Call of each named port changes the words of that port alone; RESET_FUNCTION changes the reset
controller's data alone, or begins the reset of the block that it names. -/
theorem rollCallAndResetFunction : Obligations.RollCallAndResetFunction :=
  ⟨chainRollcall_spec, fun p mb flags seq s hmax => s.resetFunction_spec p mb flags seq hmax⟩

end Sys2Proof.Machine
end

section
/-! SUPPORT. Flash: the configuration copy, the end of a flash operation, and FW_UPDATE (R139, R140, R146). -/

set_option Elab.async false

namespace Sys2Proof.Machine
open State
namespace State

/-- A handler that changes only firmware's own data answers with its status. -/
theorem replies_modFw (s : State) (p : Fin 3) (mb : Fin 6) {op : Nat} (flags seq : Nat) {st : Nat} (hop : op ≠ 1) (hst : st ≠ stDEFER)
    (f : Fw → Fw) :
    s.replies (closed ⟨(s.opened p mb seq).modFw f, st, 0, []⟩ (tagOf p mb op flags seq)) p mb op seq st (f s.fw) := by
  refine ⟨?_, mailOnly_closed _ _ _ _ (.inl hop) ⟨f, rfl⟩, ?_⟩
  · simpa using answered_closed ⟨(s.opened p mb seq).modFw f, st, 0, []⟩ p mb op flags seq hst (opened_seqs s p mb seq)
  · rw [closed_fw, modFw, opened_fw]

/-! ### STORE_CONFIG (R139, R140) -/

/-- The valid copies depend on the copies and SYS_ID alone. -/
theorem validCopy_congr {s t : State} (hid : t.get R.SYS_ID = s.get R.SYS_ID) {i : Fin 2} (h : t.fw.copies.get i = s.fw.copies.get i) :
    t.validCopy i = s.validCopy i := by
  have hok : t.copyOk = s.copyOk := funext fun c => by rw [copyOk, copyOk, hid]
  rw [validCopy, validCopy, h, hok]

theorem stored_congr {s t : State} (hid : t.get R.SYS_ID = s.get R.SYS_ID) (h : t.fw.copies = s.fw.copies) : t.stored = s.stored := by
  rw [stored, stored, validCopy_congr hid (by rw [h]), validCopy_congr hid (by rw [h])]

theorem spareCopy_congr {s t : State} (hid : t.get R.SYS_ID = s.get R.SYS_ID) (h : t.fw.copies = s.fw.copies) :
    t.spareCopy = s.spareCopy := by
  rw [spareCopy, spareCopy, validCopy_congr hid (by rw [h]), validCopy_congr hid (by rw [h])]

/-- The erase of the spare copy leaves the configuration in force. -/
theorem stored_spare_erased {s t : State} (hid : t.get R.SYS_ID = s.get R.SYS_ID) (h : t.fw.copies = s.fw.copies.set s.spareCopy none)
    {c : Stored} (hc : s.stored = some c) : t.stored = some c := by
  have hspare : t.validCopy s.spareCopy = none := by
    rw [validCopy, h, Two.get_set_self]
    rfl
  have hkept : ∀ i, i ≠ s.spareCopy → t.validCopy i = s.validCopy i := fun i hi =>
    validCopy_congr hid (by rw [h, Two.get_set_ne _ _ hi])
  unfold stored at hc ⊢
  unfold spareCopy at hspare hkept
  cases h0 : s.validCopy 0 with
  | none =>
    simp only [h0] at hspare hkept hc
    rw [hspare, hkept 1 (by decide)]
    exact hc
  | some a =>
    cases h1 : s.validCopy 1 with
    | none =>
      simp only [h0, h1] at hspare hkept hc
      rw [hspare, hkept 0 (by decide), h0]
      exact hc
    | some b =>
      simp only [h0, h1] at hspare hkept hc
      by_cases hlt : a.seq < b.seq
      · simp only [hlt, if_true] at hspare hkept hc
        rw [hspare, hkept 1 (by decide), h1]
        exact hc
      · simp only [hlt, if_false] at hspare hkept hc
        rw [hspare, hkept 0 (by decide), h0]
        exact hc

/-- A STORE_CONFIG request that R139 allows. -/
structure StoreAsks (pl : List Byte) : Prop where
  len : pl.length = 36
  parts : byteAt pl 0 < 16
  ports : byteAt pl 1 < 16
  zeros : zeroAt pl 2 2 = true ∧ zeroAt pl 5 3 = true ∧ zeroAt pl 21 3 = true
  can : bit (byteAt pl 0) 3 = true → canOk pl = true

/-- The flash operation that an accepted STORE_CONFIG becomes. -/
def storeOp (s : State) (g : Tag) (pl : List Byte) : FlashOp := ⟨0, s.spareCopy.val, some g, some (s.newCopy pl), none⟩

theorem storeConfig_eq (u : State) (g : Tag) {pl : List Byte} (h : StoreAsks pl) : u.storeConfig g pl =
    if u.fw.flash.isSome then refuse u stBUSY 0
    else ⟨u.modFw fun w => { w with flash := some (u.storeOp g pl), copies := u.fw.copies.set u.spareCopy none }, stACCEPTED, 0, []⟩ := by
  obtain ⟨hlen, hparts, hports, ⟨hz1, hz2, hz3⟩, hcan⟩ := h
  have hcan' : (bit (byteAt pl 0) 3 && !canOk pl) = false := by
    cases hb : bit (byteAt pl 0) 3 with
    | false => rfl
    | true => rw [hcan hb]; rfl
  unfold storeConfig
  rw [if_neg (by simp [hlen]), if_neg (by simp [hparts, hports, hz1, hz2, hz3, hcan'])]
  rfl

theorem storeConfig_data (u : State) (g : Tag) {pl : List Byte} (h : StoreAsks pl) : (u.storeConfig g pl).data = [] := by
  rw [storeConfig_eq u g h]
  exact data_ite rfl rfl

theorem duo_val (i : Fin 2) : duo i.val = i := by decide +revert

/-- STORE_CONFIG, as O29 states it. -/
theorem storeConfig_spec {p : Fin 3} {mb : Fin 6} {flags seq : Nat} {pl : List Byte} {s : State} (a : s.Asks p mb 0x18 flags seq pl)
    (h : StoreAsks pl) : ∃ t, exec (.storeConfig p mb) s = .next t ∧
      (s.fw.flash.isSome = true → s.replies t p mb 0x18 seq stBUSY s.fw) ∧
      (s.fw.flash = none → ∃ op, op.kind = 0 ∧ op.tag = some (⟨p, mb.val, 0x18, seq, bit flags 3⟩) ∧
        s.replies t p mb 0x18 seq stACCEPTED { s.fw with flash := some op, copies := s.fw.copies.set (duo op.unit) none } ∧
        (∀ c, s.stored = some c → t.stored = some c) ∧ ∃ c, op.copy = some c ∧ c.request = pl ∧
        c.parts = ((s.stored.map Stored.parts).getD 0) ||| byteAt pl 0) := by
  have hmax : 4 ≤ s.maxPay p := by
    have := a.max
    rw [h.len] at this
    omega
  refine ⟨_, congrArg Host.Outcome.next (serve_ok a _ rfl _ rfl (by rw [storeConfig_data _ _ h]; exact hmax)), ?_⟩
  have hid : (s.opened p mb seq).get R.SYS_ID = s.get R.SYS_ID := opened_get _ _ _ _ (by decide)
  rw [storeConfig_eq _ _ h, opened_fw, spareCopy_congr hid (by rw [opened_fw])]
  refine ⟨fun hf => ?_, fun hf => ?_⟩
  · rw [if_pos hf]
    exact replies_closed s p mb flags seq (by decide) (show stBUSY ≠ stDEFER by decide)
  · rw [if_neg (by simp [hf])]
    refine ⟨(s.opened p mb seq).storeOp (tagOf p mb 0x18 flags seq) pl, rfl, rfl, ?_, fun c hc => ?_, _, rfl, rfl, ?_⟩
    · rw [storeOp, duo_val, spareCopy_congr hid (by rw [opened_fw])]
      exact replies_modFw s p mb flags seq (by decide) (show stACCEPTED ≠ stDEFER by decide)
        fun w => { w with flash := some _, copies := s.fw.copies.set s.spareCopy none }
    · refine stored_spare_erased ?_ ?_ hc
      · rw [closed_get _ _ (by decide) (by decide) (.inl (by decide)), modFw_get, hid]
      · rw [closed_fw]
        rfl
    · change ((s.opened p mb seq).stored.getD _).parts ||| byteAt pl 0 = _
      rw [stored_congr hid (by rw [opened_fw])]
      cases s.stored <;> rfl

/-! ### The end of a flash operation (R140) -/

/-- No flash operation is in progress. -/
def noFlash (w : Fw) : Fw := { w with flash := none }

/-- What firmware's data becomes. -/
def flashFw (op : FlashOp) (w : Fw) : Fw :=
  match op.kind with
  | 0 => { w with copies := w.copies.set (duo op.unit) op.copy, copiesWritten := w.copiesWritten + 1 }
  | 1 => match op.asset with
    | some a => { w with store := storeEnd w.store a.1.id }
    | none => w
  | 2 => { w with
      image := skeep (fun a => !decide (slotSize * op.unit ≤ a ∧ a < slotSize * (op.unit + 1))) w.image
      slots := w.slots.set (duo op.unit) (some 0) }
  | _ => w

/-- The status and detail of its DONE. -/
def flashVerdict (op : FlashOp) (reason : Nat) : Nat × Nat :=
  match op.kind with
  | 0 => (stOK, 0)
  | 1 => if op.asset = none then (stBAD_PARAM, 5) else (stOK, 0)
  | 2 => (stOK, 0)
  | _ => if reason = 0 then (stOK, 0) else (stBAD_PARAM, reason)

/-- What VERIFY finds: the reason for which R76 rejects the slot, 7 where the part could not be read. -/
def verifyReason (s : State) (fault : Bool) (slot : Nat) : Nat := if fault then 7 else s.imageReason (s.slotByte slot)

/-- The operation has ended and the calibration area is written where that waited (R345). -/
def flashFreed (s : State) : State := (s.modFw noFlash).calFlashDue

theorem flashDone_eq {s : State} {op : FlashOp} (h : s.fw.flash = some op) (fault : Bool) : s.flashDone fault =
    if s.fwRuns = false ∨ s.sysStill 6 = true then s
    else (s.flashFreed.modFw (flashFw op)).doneOpt op.tag (flashVerdict op (s.flashFreed.verifyReason fault op.unit)).1
      (flashVerdict op (s.flashFreed.verifyReason fault op.unit)).2 := by
  have hcond : (!s.fwRuns || s.sysStill 6) = true ↔ s.fwRuns = false ∨ s.sysStill 6 = true := by simp
  unfold flashDone
  simp only [h]
  by_cases hc : s.fwRuns = false ∨ s.sysStill 6 = true
  · rw [if_pos (hcond.mpr hc), if_pos hc]
  · rw [if_neg (mt hcond.mp hc), if_neg hc]
    obtain ⟨kind, unit, tag, copy, asset⟩ := op
    match kind with
    | 0 => rfl
    | 1 => cases asset <;> rfl
    | 2 => rfl
    | k + 3 =>
      change (if s.flashFreed.verifyReason fault unit = 0 then s.flashFreed.doneOpt tag stOK 0
        else s.flashFreed.doneOpt tag stBAD_PARAM (s.flashFreed.verifyReason fault unit)) = _
      generalize hr : s.flashFreed.verifyReason fault unit = reason
      by_cases hz : reason = 0
      · subst hz
        rfl
      · rw [if_neg hz, flashVerdict, if_neg hz]
        rfl

/-- The write of the calibration area touches nothing but the calibration unit. -/
theorem calFlashDue_kept {s : State} (h : s.fw.flash = none) : s.calFlashDue.fw = s.fw ∧ s.calFlashDue.dram = s.dram ∧
    s.calFlashDue.lec = s.lec ∧ s.calFlashDue.mbx = s.mbx ∧ ∀ a, a ≠ R.CAL_TRIM_STATUS → s.calFlashDue.get a = s.get a := by
  unfold calFlashDue calFlash
  split
  · rw [if_neg (by simp [h])]
    split
    exact ⟨by simp, by simp, by simp, by simp, fun a ha => (get_wr_ne _ _ ha).trans (modCal_get ..)⟩
  · exact ⟨rfl, rfl, rfl, rfl, fun _ _ => rfl⟩

theorem flashFreed_kept (s : State) : s.flashFreed.fw = noFlash s.fw ∧ s.flashFreed.dram = s.dram ∧
    s.flashFreed.lec = s.lec ∧ s.flashFreed.mbx = s.mbx ∧ ∀ a, a ≠ R.CAL_TRIM_STATUS → s.flashFreed.get a = s.get a := by
  obtain ⟨hf, hd, hl, hm, hget⟩ := calFlashDue_kept (s := s.modFw noFlash) rfl
  exact ⟨hf, hd, hl, hm, fun a ha => (hget a ha).trans (modFw_get ..)⟩

theorem imageReason_congr {s t : State} (hopt : t.get R.RST_OPT = s.get R.RST_OPT) (hkey : t.fw.otpKeys = s.fw.otpKeys) (b : Nat → Byte) :
    t.imageReason b = s.imageReason b := by
  have h1 : t.rd F.RST_OPT_KEY_REVOKE = s.rd F.RST_OPT_KEY_REVOKE := rd_congr hopt
  have h2 : t.on F.RST_OPT_OTP_OK = s.on F.RST_OPT_OTP_OK := on_congr (rd_congr hopt)
  have h3 : t.rd F.RST_OPT_MIN_SEC_VER = s.rd F.RST_OPT_MIN_SEC_VER := rd_congr hopt
  simp only [imageReason, h1, h2, h3, hkey]

theorem flashFreed_reason (s : State) (fault : Bool) (slot : Nat) : s.flashFreed.verifyReason fault slot = s.verifyReason fault slot := by
  obtain ⟨hfw, -, -, -, hget⟩ := s.flashFreed_kept
  have hb : s.flashFreed.slotByte slot = s.slotByte slot := funext fun i => by
    rw [slotByte, slotByte, hfw]
    rfl
  have hkey : s.flashFreed.fw.otpKeys = s.fw.otpKeys := by
    rw [hfw]
    rfl
  rw [verifyReason, verifyReason, hb, imageReason_congr (hget _ (by decide)) hkey]

/-- The notification of a command's end is queued where there is room (R100). -/
theorem done_queues (s : State) {g : Tag} (hn : g.notify = true) (hroom : (s.port g.port).notifs.length < 16) (st detail : Nat) :
    ((s.done g st detail).port g.port).notifs = (s.port g.port).notifs ++
      [mkMessage 0x60 1 (s.port g.port).nseq (statusWord st detail ++ leBytes 1 g.mb ++ leBytes 1 g.op ++ leBytes 2 g.seq)] := by
  unfold done notify
  rw [if_pos hn]
  dsimp only
  rw [if_pos hroom, port_modPort]

/-- The record that ends becomes the valid one (R140). -/
theorem mem_storeEnd {l : List AssetRec} {id : Nat} {r : AssetRec} (hr : r ∈ l) (hid : r.asset.id = id) (hs : r.state = 0xFE) :
    { r with state := 0xFC } ∈ storeEnd l id :=
  List.mem_map.mpr ⟨r, hr, by rw [if_neg (by simp [hid]), if_pos hs]⟩

/-- The data of firmware that the end of an operation leaves. -/
theorem flashFw_kept (op : FlashOp) (w : Fw) : (flashFw op w).flash = w.flash ∧ (flashFw op w).act = w.act ∧
    (op.kind ≠ 2 → (flashFw op w).image = w.image) := by
  unfold flashFw
  split
  · exact ⟨rfl, rfl, fun _ => rfl⟩
  · split <;> exact ⟨rfl, rfl, fun _ => rfl⟩
  · next h => exact ⟨rfl, rfl, fun hne => absurd h hne⟩
  · exact ⟨rfl, rfl, fun _ => rfl⟩

/-- An erase leaves 0xFF in every byte of the slot (R140). -/
theorem erased_byte (m : Mem) (slot a : Nat) :
    sget flashReset (skeep (fun a => !decide (slotSize * slot ≤ a ∧ a < slotSize * (slot + 1))) m) a =
      if slotSize * slot ≤ a ∧ a < slotSize * (slot + 1) then 0xFF else sget flashReset m a := by
  rw [sget_skeep]
  by_cases h : slotSize * slot ≤ a ∧ a < slotSize * (slot + 1)
  · rw [if_pos h, if_neg (by simp [h])]
    rfl
  · rw [if_neg h, if_pos (by rw [decide_eq_false h]; rfl)]

/-- FLASH_OP_COMPLETE, as O29 states it. -/
theorem flashOpComplete_spec (fault : Bool) (op : FlashOp) (s : State) (hop : s.fw.flash = some op) :
    ∃ t, exec (.flashOpComplete fault) s = .next t ∧
      (s.fwRuns = false ∨ s.sysStill 6 = true → t = s) ∧
      (s.fwRuns = true → s.sysStill 6 = false →
        let reason := if fault then 7 else s.imageReason (s.slotByte op.unit)
        let verdict := if op.kind = 1 ∧ op.asset = none then (stBAD_PARAM, 5)
          else if op.kind = 3 ∧ reason ≠ 0 then (stBAD_PARAM, reason) else (stOK, 0)
        t.fw.flash = none ∧ t.dram = s.dram ∧ t.lec = s.lec ∧ t.fw.act = s.fw.act ∧
        (op.kind = 0 → t.fw.copies.get (duo op.unit) = op.copy) ∧
        (op.kind = 1 → ∀ a b, op.asset = some (a, b) → ∀ r, r ∈ s.fw.store → r.asset.id = a.id → r.state = 0xFE →
          { r with state := 0xFC } ∈ t.fw.store) ∧
        (op.kind = 2 → ∀ a, sget State.flashReset t.fw.image a =
          if State.slotSize * op.unit ≤ a ∧ a < State.slotSize * (op.unit + 1) then 0xFF else sget State.flashReset s.fw.image a) ∧
        (op.kind ≠ 2 → t.fw.image = s.fw.image) ∧
        (op.kind ≤ 3 → ∀ tag, op.tag = some tag → tag.notify = true → (s.port tag.port).notifs.length < 16 →
          (t.port tag.port).notifs = (s.port tag.port).notifs ++
            [mkMessage 0x60 1 (s.port tag.port).nseq
              (statusWord verdict.1 verdict.2 ++ leBytes 1 tag.mb ++ leBytes 1 tag.op ++ leBytes 2 tag.seq)])) := by
  refine ⟨_, congrArg Host.Outcome.next (flashDone_eq hop fault), fun h => if_pos h, fun hr hs => ?_⟩
  intro reason verdict
  rw [if_neg (by simp [hr, hs]), flashFreed_reason]
  have hv : op.kind ≤ 3 → flashVerdict op (s.verifyReason fault op.unit) = verdict := fun hk => by
    change flashVerdict op reason = verdict
    unfold verdict flashVerdict
    obtain ⟨kind, unit, tag, copy, asset⟩ := op
    dsimp only at hk ⊢
    interval_cases kind
    · rfl
    · simp
    · rfl
    · simp [eq_comm]
  obtain ⟨hfw, hd, hl, hm, -⟩ := s.flashFreed_kept
  have hport : ∀ q, (s.flashFreed.modFw (flashFw op)).port q = s.port q := fun q => congrArg (·.ports.get (portIx q)) hm
  have hend : (s.flashFreed.modFw (flashFw op)).fw = flashFw op (noFlash s.fw) := congrArg (flashFw op) hfw
  have hd' : (s.flashFreed.modFw (flashFw op)).dram = s.dram := hd
  have hl' : (s.flashFreed.modFw (flashFw op)).lec = s.lec := hl
  generalize s.flashFreed.modFw (flashFw op) = u at hport hend hd' hl' ⊢
  obtain ⟨h1, h2, h3⟩ := flashFw_kept op (noFlash s.fw)
  simp only [doneOpt_fw, doneOpt_dram, doneOpt_lec, hend, hd', hl', h1, h2, true_and]
  refine ⟨rfl, rfl, fun hk => ?_, fun hk a b ha r hr hid hst => ?_, fun hk a => ?_, h3, fun hk g hg hn hroom => ?_⟩
  · simp only [flashFw, hk]
    exact Two.get_set_self ..
  · simp only [flashFw, hk, ha]
    exact mem_storeEnd hr hid hst
  · simp only [flashFw, hk]
    exact erased_byte ..
  · rw [hg, hv hk, ← hport]
    exact done_queues u hn (by rw [hport]; exact hroom) _ _

/-! ### FW_UPDATE under firmware (R146) -/

/-- The bytes that programming clears bits by, from index k of the list on (R140). -/
theorem sget_program_from (a : Nat) (bs : List Byte) (k : Nat) (m : Mem) (x : Nat) :
    sget flashReset ((bs.zipIdx k).foldl (fun m q => sset flashReset m (a + q.2) (sget flashReset m (a + q.2) &&& q.1)) m) x =
      sget flashReset m x &&& (if a + k ≤ x then (bs[x - (a + k)]?).getD 0xFF else 0xFF) := by
  have hff : ∀ b : Byte, b &&& 0xFF = b := fun b => BitVec.and_allOnes
  induction bs generalizing k m with
  | nil => simpa using (hff _).symm
  | cons b bs ih =>
    rw [List.zipIdx_cons, List.foldl_cons, ih, sget_sset]
    rcases Nat.lt_trichotomy x (a + k) with h | rfl | h
    · rw [if_neg (by omega), if_neg (by omega), if_neg (by omega)]
    · rw [if_pos rfl, if_neg (by omega), if_pos (Nat.le_refl _), hff, Nat.sub_self]
      rfl
    · rw [if_neg (by omega), if_pos (by omega), if_pos (by omega), show x - (a + k) = x - (a + (k + 1)) + 1 by omega,
        List.getElem?_cons_succ]

theorem sget_program (m : Mem) (a : Nat) (bs : List Byte) (x : Nat) : sget flashReset (program m a bs) x =
    sget flashReset m x &&& (if a ≤ x then (bs[x - a]?).getD 0xFF else 0xFF) := sget_program_from a bs 0 m x

/-- The request of FW_UPDATE. -/
def updateReq (num act slot off : Nat) (d : List Byte) : List Byte :=
  leBytes 4 num ++ leBytes 1 act ++ leBytes 1 slot ++ [0, 0] ++ leBytes 4 off ++ d

theorem updateReq_fields (num : Nat) {act slot off : Nat} (d : List Byte) (ha : act < 256) (hs : slot < 256) (ho : off < 2 ^ 32) :
    byteAt (updateReq num act slot off d) 4 = act ∧ byteAt (updateReq num act slot off d) 5 = slot ∧
      zeroAt (updateReq num act slot off d) 6 2 = true ∧ le32 (updateReq num act slot off d) 8 = off ∧
      (updateReq num act slot off d).drop 12 = d ∧ (updateReq num act slot off d).length = 12 + d.length := by
  refine ⟨?_, ?_, rfl, ?_, rfl, ?_⟩
  · simp [updateReq, leBytes, byteAt]
    omega
  · simp [updateReq, leBytes, byteAt]
    omega
  · simp [updateReq, leBytes, byteAt, le32, le16]
    omega
  · simp [updateReq]
    omega

/-- FW_UPDATE of a well-formed request under firmware. -/
theorem fwUpdate_eq {u : State} (hcpu : u.rst.cpu = .running) (fault : Bool) (g : Tag) (num : Nat) {act slot off : Nat} {d : List Byte}
    (ha : act < 3) (hd : act = 1 ↔ d ≠ []) (hs : slot < 2) (ho : off < 2 ^ 32) :
    fwUpdate fault u g (updateReq num act slot off d) = u.fwUpdateRun g act slot off d fault := by
  obtain ⟨h4, h5, hz, h8, hdrop, hlen⟩ := updateReq_fields num d (show act < 256 by omega) (show slot < 256 by omega) ho
  have hshape : ¬ ((updateReq num act slot off d).length < 12 ∨ act = 1 ∧ d = [] ∨ act ≠ 1 ∧ d ≠ []) := by
    rw [hlen]
    rintro (h | ⟨h, hn⟩ | ⟨h, hn⟩)
    · omega
    · exact hd.mp h hn
    · exact h (hd.mpr hn)
  unfold fwUpdate
  simp only [h4, h5, hz, h8, hdrop]
  rw [if_neg hshape, if_neg (by simp [hs, show act < 4 by omega]), if_neg (by simp [hcpu])]

theorem fwUpdateRun_data (u : State) (g : Tag) (act slot off : Nat) (d : List Byte) (fault : Bool) :
    (u.fwUpdateRun g act slot off d fault).data = [] := by
  unfold fwUpdateRun
  exact data_ite rfl (data_ite rfl (data_ite rfl (data_ite rfl (data_ite rfl (data_ite rfl rfl)))))

theorem serve_fwUpdate {s : State} {mb : Fin 6} {flags seq num act slot off : Nat} {d : List Byte} (fault : Bool)
    (a : s.Asks 0 mb 0x8F flags seq (updateReq num act slot off d)) (ha : act < 3) (hd : act = 1 ↔ d ≠ []) (hs : slot < 2)
    (ho : off < 2 ^ 32) : s.serve 0 mb (· == 0x8F) (fwUpdate fault) =
      closed ((s.opened 0 mb seq).fwUpdateRun (tagOf 0 mb 0x8F flags seq) act slot off d fault) (tagOf 0 mb 0x8F flags seq) := by
  have hcpu : (s.opened 0 mb seq).rst.cpu = .running := by rw [opened_rst, a.running]
  have heq := fwUpdate_eq hcpu fault (tagOf 0 mb 0x8F flags seq) num ha hd hs ho
  have hmax : 4 ≤ s.maxPay 0 := by
    have h1 := a.max
    obtain ⟨-, -, -, -, -, h2⟩ := updateReq_fields num d (show act < 256 by omega) (show slot < 256 by omega) ho
    omega
  rw [serve_ok a _ rfl _ rfl (by rw [heq, fwUpdateRun_data]; exact hmax), heq]

/-- An offset that a WRITE may begin at: 0, or the one reached. -/
theorem offset_reached {o : Option Nat} {off : Nat} (h : off = 0 ∨ o = some off) : ¬ (off ≠ 0 ∧ off ≠ o.getD 0) := by
  rintro ⟨h0, hne⟩
  rcases h with h | h
  · exact h0 h
  · rw [h] at hne
    exact hne rfl

/-- The slot that runs is refused. -/
theorem fwUpdateRun_running (u : State) (g : Tag) (act off : Nat) (d : List Byte) (fault : Bool) :
    u.fwUpdateRun g act u.fw.running off d fault = refuse u stBAD_PARAM 0 := by
  unfold fwUpdateRun
  rw [if_pos (.inr rfl)]

/-- What FW_UPDATE does with the other slot while no flash operation is in progress. -/
theorem fwUpdateRun_other {u : State} (g : Tag) {act slot off : Nat} {d : List Byte} (fault : Bool) (ha : act < 3)
    (hs : slot ≠ u.fw.running) (hf : u.fw.flash = none) (ho : act = 1 → off = 0 ∨ u.fw.slots.get (duo slot) = some off)
    (hl : act = 1 → off + d.length ≤ slotSize) : u.fwUpdateRun g act slot off d fault =
      if fault then refuse u stINTERNAL 0
      else if act = 1 then
        ⟨u.modFw fun w => { w with
          image := program u.fw.image (slotSize * slot + off) d, slots := u.fw.slots.set (duo slot) (some (off + d.length)) }, stOK, 0, []⟩
      else ⟨u.modFw fun w => { w with flash := some ⟨if act = 0 then 2 else 3, slot, some g, none, none⟩ }, stACCEPTED, 0, []⟩ := by
  unfold fwUpdateRun
  have h1 : ¬ (act = 3 ∨ slot = u.fw.running) := by
    rintro (h | h)
    · omega
    · exact hs h
  have h2 : ¬ (act = 1 ∧ off ≠ 0 ∧ off ≠ (u.fw.slots.get (duo slot)).getD 0) := fun h => offset_reached (ho h.1) h.2
  have h3 : ¬ (act = 1 ∧ slotSize < off + d.length) := fun h => absurd h.2 (Nat.not_lt.mpr (hl h.1))
  dsimp only
  rw [if_neg h1, if_neg h2, if_neg h3, if_neg (by simp [hf])]

/-- FW_UPDATE, as O29 states it. -/
theorem fwUpdate_spec (mb : Fin 6) (flags seq num act slot off : Nat) (d : List Byte) (fault : Bool) (s : State)
    (a : s.Asks 0 mb 0x8F flags seq (updateReq num act slot off d)) (hs : slot < 2) (hoff : off < 2 ^ 32) :
    ∃ t, exec (.fwUpdate 0 mb fault) s = .next t ∧
      (act < 3 → (act = 1 ↔ d ≠ []) → slot = s.fw.running → s.replies t 0 mb 0x8F seq stBAD_PARAM s.fw) ∧
      (fault = true → act < 3 → (act = 1 ↔ d ≠ []) → slot ≠ s.fw.running → s.fw.flash = none →
        (act = 1 → off = 0 ∨ s.fw.slots.get (duo slot) = some off) → (act = 1 → off + d.length ≤ State.slotSize) →
        s.replies t 0 mb 0x8F seq stINTERNAL s.fw) ∧
      (fault = false → act = 1 → d ≠ [] → slot ≠ s.fw.running → s.fw.flash = none → off = 0 ∨ s.fw.slots.get (duo slot) = some off →
        off + d.length ≤ State.slotSize →
        s.replies t 0 mb 0x8F seq stOK { s.fw with image := t.fw.image, slots := t.fw.slots } ∧
        t.fw.slots.get (duo slot) = some (off + d.length) ∧
        ∀ a, sget State.flashReset t.fw.image a = sget State.flashReset s.fw.image a &&&
          (if State.slotSize * slot + off ≤ a then (d[a - (State.slotSize * slot + off)]?).getD 0xFF else 0xFF)) ∧
      (fault = false → act = 0 ∨ act = 2 → d = [] → slot ≠ s.fw.running → s.fw.flash = none →
        let op : FlashOp := ⟨if act = 0 then 2 else 3, slot, some ⟨0, mb.val, 0x8F, seq, bit flags 3⟩, none, none⟩
        s.replies t 0 mb 0x8F seq stACCEPTED { s.fw with flash := some op }) := by
  have hfw : (s.opened 0 mb seq).fw = s.fw := opened_fw ..
  have other := fun (ha : act < 3) (hd : act = 1 ↔ d ≠ []) (hne : slot ≠ s.fw.running) (hf : s.fw.flash = none)
      (ho : act = 1 → off = 0 ∨ s.fw.slots.get (duo slot) = some off) (hl : act = 1 → off + d.length ≤ slotSize) =>
    (serve_fwUpdate fault a ha hd hs hoff).trans (congrArg (closed · (tagOf 0 mb 0x8F flags seq))
      (fwUpdateRun_other (u := s.opened 0 mb seq) _ fault ha (by rwa [hfw]) (by rwa [hfw]) (by rwa [hfw]) hl))
  refine ⟨s.serve 0 mb (· == 0x8F) (fwUpdate fault), rfl, fun ha hd hrun => ?_, fun hft ha hd hne hf ho hl => ?_,
    fun hft ha hd hne hf ho hl => ?_, fun hft ha hd hne hf => ?_⟩
  · rw [serve_fwUpdate fault a ha hd hs hoff, hrun, ← hfw, fwUpdateRun_running, hfw]
    exact replies_closed s 0 mb flags seq (by decide) (show stBAD_PARAM ≠ stDEFER by decide)
  · rw [other ha hd hne hf ho hl, if_pos hft]
    exact replies_closed s 0 mb flags seq (by decide) (show stINTERNAL ≠ stDEFER by decide)
  · rw [other (by omega) (by simp [ha, hd]) hne hf (fun _ => ho) (fun _ => hl), if_neg (show ¬ fault = true by simp [hft]), if_pos ha, hfw]
    have hreply := replies_modFw s 0 mb (op := 0x8F) flags seq (by decide) (show stOK ≠ stDEFER by decide) fun w =>
      { w with image := program s.fw.image (slotSize * slot + off) d, slots := s.fw.slots.set (duo slot) (some (off + d.length)) }
    generalize closed _ _ = t at hreply ⊢
    obtain ⟨hans, hmail, hend⟩ := hreply
    have himage : t.fw.image = program s.fw.image (slotSize * slot + off) d := by rw [hend]
    have hslots : t.fw.slots = s.fw.slots.set (duo slot) (some (off + d.length)) := by rw [hend]
    refine ⟨⟨hans, hmail, by rw [himage, hslots, hend]⟩, by rw [hslots, Two.get_set_self], fun x => ?_⟩
    rw [himage, sget_program]
  · have h1 : act ≠ 1 := by omega
    rw [other (by omega) (by simp [h1, hd]) hne hf (fun h => absurd h h1) (fun h => absurd h h1), if_neg (show ¬ fault = true by simp [hft]), if_neg h1]
    exact replies_modFw s 0 mb (op := 0x8F) flags seq (by decide) (show stACCEPTED ≠ stDEFER by decide) fun w => { w with flash := some _ }

end State

/-- Settles O29: STORE_CONFIG erases only the copy that is not in force; the end of a flash operation is one change of
firmware's data (`flashFw`) and one DONE (`flashVerdict`); FW_UPDATE programs or begins an operation on the other slot. -/
theorem flashAndFirmware : Obligations.FlashAndFirmware :=
  ⟨⟨fun _ _ _ _ _ _ a hlen hparts hports hz1 hz2 hz3 hcan => storeConfig_spec a ⟨hlen, hparts, hports, ⟨hz1, hz2, hz3⟩, hcan⟩,
    flashOpComplete_spec⟩, fwUpdate_spec⟩

end Sys2Proof.Machine
end

section
/-! SUPPORT. HSPI transactions: Read status, reads and writes of the mailboxes, malformed transactions (R84–R88). -/

set_option Elab.async false

namespace Sys2Proof.Machine
open State
namespace State

/-! ### Malformed transactions (R86) -/

theorem drive_out (s : State) (bs : List Byte) : (s.drive bs).mbx.out = bs := rfl

/-- A malformed transaction, whatever the device drives. -/
structure Malformed (s t : State) (op : Nat) (out : List Byte) : Prop where
  out_eq : t.mbx.out = out
  lastErr : t.on F.MBX_HSTAT_LAST_ERR = true
  host : t.mbx.host = s.mbx.host
  dram : t.dram = s.dram
  count : t.rd F.MBX_HSPI_ERR_CNT_COUNT = min (s.rd F.MBX_HSPI_ERR_CNT_COUNT + 1) (2 ^ F.MBX_HSPI_ERR_CNT_COUNT.w - 1)
  event : s.logged t 0x0301 1 op 0

theorem malformed_silent (s : State) (op : Nat) : s.Malformed (s.malformed op) op s.mbx.out := by
  obtain ⟨herr, hmbx, hdram, hcount, hlog⟩ := s.malformed_spec op
  exact ⟨by rw [hmbx], herr, by rw [hmbx], hdram, hcount, hlog⟩

theorem malformed_driven (s : State) (op : Nat) (out : List Byte) : s.Malformed ((s.malformed op).drive out) op out := by
  obtain ⟨herr, hmbx, hdram, hcount, hlog⟩ := s.malformed_spec op
  exact ⟨rfl, (drive_on ..).trans herr, by simp [drive, modMbx, hmbx], (drive_dram ..).trans hdram, (drive_rd ..).trans hcount,
    logged_congr (by simp) hlog⟩

/-- A transaction that ends with a whole byte is not malformed. -/
theorem cutShort_whole (s : State) (op : Nat) {k : Nat} (h : k % 8 = 0) : s.cutShort op k = s := by simp [cutShort, h]
theorem cutShort_part (s : State) (op : Nat) {k : Nat} (h : k % 8 ≠ 0) : s.cutShort op k = s.malformed op := by simp [cutShort, h]

theorem cutShort_mbx (s : State) (op k : Nat) : (s.cutShort op k).mbx = s.mbx ∧ (s.cutShort op k).dram = s.dram := by
  by_cases h : k % 8 = 0
  · simp [cutShort_whole s op h]
  · rw [cutShort_part s op h]
    exact ⟨(s.malformed_spec op).2.1, (s.malformed_spec op).2.2.1⟩

/-- A malformed transaction changes no field of MBX_HSTAT but LAST_ERR. -/
theorem cutShort_on (s : State) (op k : Nat) {f : Fld} (h : apart F.MBX_HSTAT_LAST_ERR f = true)
    (h₂ : apart F.MBX_HSPI_ERR_CNT_COUNT f = true) (he : f.addr ∉ eventRegs) : (s.cutShort op k).on f = s.on f := by
  by_cases hk : k % 8 = 0
  · rw [cutShort_whole s op hk]
  · rw [cutShort_part s op hk, malformed, logEvent_on _ _ _ _ _ he, on_incSat_apart _ h₂, on_wr_apart _ _ h]

/-! ### Read status (R85) -/

theorem grantStatus_regsKeep (s : State) : s.regsKeep s.grantStatus [R.MBX_HSTAT, R.MBX_GRANT_STATUS] := by
  intro a ha
  simp only [List.mem_cons, List.not_mem_nil, or_false, not_or] at ha
  unfold grantStatus
  rw [get_wrB_ne _ _ ha.1, get_wr_ne _ _ ha.2, get_wr_ne _ _ ha.2]

theorem grantStatus_winLive (s : State) : s.grantStatus.on F.MBX_HSTAT_WIN_LIVE = !s.liveGrants.isEmpty :=
  on_wrB _ _ (by decide) (by decide)

theorem readStatus_spec (s : State) (n k : Nat) (h : s.hspiServed = true) :
    let t := s.readStatus n k
    t.dram = s.dram ∧ t.mbx.out.length = n ∧
      (∀ i, i < n → t.mbx.out[i]? = some (BitVec.ofNat 8 (s.grantStatus.get R.MBX_HSTAT / 2 ^ (8 * (i % 4))))) ∧
      t.on F.MBX_HSTAT_WIN_LIVE = !s.liveGrants.isEmpty ∧
      (k % 8 = 0 → s.regsKeep t [R.MBX_HSTAT, R.MBX_GRANT_STATUS] ∧ t.evr = s.evr ∧
        t.get R.MBX_HSTAT = s.grantStatus.get R.MBX_HSTAT) ∧
      (k % 8 ≠ 0 → t.on F.MBX_HSTAT_LAST_ERR = true ∧ s.logged t 0x0301 1 0x05 0) := by
  intro t
  have ht : t = (s.grantStatus.drive ((List.range n).map fun i =>
      BitVec.ofNat 8 (s.grantStatus.get R.MBX_HSTAT / 2 ^ (8 * (i % 4))))).cutShort 0x05 k := if_pos h
  generalize hu : s.grantStatus.drive _ = u at ht
  have hout : t.mbx.out = (List.range n).map fun i => BitVec.ofNat 8 (s.grantStatus.get R.MBX_HSTAT / 2 ^ (8 * (i % 4))) := by
    rw [ht, (u.cutShort_mbx _ _).1, ← hu, drive_out]
  have hevr : u.evr = s.evr := by simp [← hu]
  refine ⟨?_, by simp [hout], fun i hi => by simp [hout, hi], ?_, fun hk => ?_, fun hk => ?_⟩
  · rw [ht, (u.cutShort_mbx _ _).2, ← hu, drive_dram, grantStatus_dram]
  · rw [ht, cutShort_on _ _ _ (by decide) (by decide) (by decide), ← hu, drive_on, grantStatus_winLive]
  · rw [ht, cutShort_whole _ _ hk]
    refine ⟨fun a ha => ?_, hevr, by rw [← hu, drive_get]⟩
    rw [← hu, drive_get, s.grantStatus_regsKeep a ha]
  · rw [ht, cutShort_part _ _ hk]
    exact ⟨(u.malformed_spec _).1, logged_logEvent (u := (u.wr F.MBX_HSTAT_LAST_ERR 1).incSat F.MBX_HSPI_ERR_CNT_COUNT)
      (by simpa using hevr) (by simp [← hu]) _ _ _ _⟩

/-! ### Reads of the mailboxes (R84, R85, R88) -/

/-- A byte between the control area and the direct window is read without an effect. -/
theorem readByte_mailbox (s : State) {addr i : Nat} (word : Nat) (late : List Nat) (hlo : 0x1000 ≤ addr) (hhi : addr + i < 0x100000) :
    s.readByte addr i word late = (s, s.hostByte (addr + i), 0, false) := by
  have hm : (addr + i) % 2 ^ 24 = addr + i := Nat.mod_eq_of_lt (by omega)
  unfold readByte
  rw [hm]
  simp [show ¬ addr + i < 0x1000 by omega, hhi]

theorem readBytes_mailbox (s : State) {addr : Nat} (late : List Nat) (hlo : 0x1000 ≤ addr) (k i word : Nat) (out : List Byte)
    (hhi : addr + i + k ≤ 0x100000) :
    readBytes addr late k i s word false out = (s, out.reverse ++ (List.range k).map fun j => s.hostByte (addr + (i + j)), false) := by
  induction k generalizing i word out with
  | zero => simp [readBytes]
  | succ k ih =>
    rw [readBytes, readByte_mailbox s word late hlo (by omega)]
    dsimp only
    rw [Bool.or_false, ih (i + 1) _ _ (by omega), List.range_succ_eq_map]
    simp [Nat.add_assoc, Nat.add_comm 1, Function.comp_def]

theorem readServed_mailbox (s : State) {addr n : Nat} (late : List Nat) (hlo : 0x1000 ≤ addr) (hhi : addr + n ≤ 0x100000) :
    s.readServed addr n late = s.drive ((List.range n).map fun i => s.hostByte (addr + i)) := by
  unfold readServed
  rw [readBytes_mailbox s late hlo n 0 0 [] (by omega)]
  simp [notLive]

/-- A read of the mailboxes under an opcode that is honoured. -/
theorem hspiRead_mailbox (s : State) {op addr n : Nat} (late : List Nat) (k : Nat) (h : s.hspiServed = true)
    (hq : op = 0x6B → s.on F.MBX_HCFG_QUAD = true) (hlo : 0x1000 ≤ addr) (hlt : addr < 0x100000) (hhi : addr + n ≤ 0x100000) :
    let t := s.hspiRead op addr n late k
    t.mbx.out = (List.range n).map (fun i => s.hostByte (addr + i)) ∧
      (k % 8 = 0 → t = { s with mbx := { s.mbx with out := t.mbx.out } }) ∧
      (k % 8 ≠ 0 → t.on F.MBX_HSTAT_LAST_ERR = true ∧ t.dram = s.dram ∧ t.mbx.host = s.mbx.host ∧ s.logged t 0x0301 1 op 0) := by
  intro t
  have hm : addr % 2 ^ 24 = addr := Nat.mod_eq_of_lt (by omega)
  have ht : t = (s.drive ((List.range n).map fun i => s.hostByte (addr + i))).cutShort op k := by
    unfold t hspiRead
    rw [hm, h, readServed_mailbox s late hlo hhi]
    have h1 : ¬ (op = 0x6B ∧ (!s.on F.MBX_HCFG_QUAD) = true) := fun ⟨e, hn⟩ => by simp [hq e] at hn
    rw [if_neg (by simp), if_neg h1, if_neg (by omega), if_neg (by omega)]
  have hout : t.mbx.out = (List.range n).map (fun i => s.hostByte (addr + i)) := by
    rw [ht, (cutShort_mbx ..).1, drive_out]
  refine ⟨hout, fun hk => ?_, fun hk => ?_⟩
  · rw [hout, ht, cutShort_whole _ _ hk]
    rfl
  · rw [ht, cutShort_part _ _ hk]
    obtain ⟨herr, hmbx, hdram, -, hlog⟩ := malformed_spec (s.drive ((List.range n).map fun i => s.hostByte (addr + i))) op
    refine ⟨herr, hdram.trans (drive_dram ..), by rw [hmbx]; rfl, fun hl => ?_⟩
    obtain ⟨q, hf, hr⟩ := hlog hl
    exact ⟨q, hf, hr⟩

/-! ### Writes into an inbox (R87, R88, R90) -/

theorem ssets_concat {α : Type} [DecidableEq α] (d : Nat → α) (m : Sparse α) (a : Nat) (xs : List α) (x : α) :
    ssets d m a (xs ++ [x]) = sset d (ssets d m a xs) (a + xs.length) x := by
  induction xs generalizing m a with
  | nil => rfl
  | cons y ys ih => simp [ssets, ih, Nat.add_assoc, Nat.add_comm 1]

/-- Bytes written after those before them are one write. -/
theorem hostWrite_concat (s : State) (a : Nat) (bs : List Byte) (b : Byte) :
    (s.hostWrite a bs).hostWrite (a + bs.length) [b] = s.hostWrite a (bs ++ [b]) := by
  simp [hostWrite, modMbx, ssets, ssets_concat]

theorem writeByte_inbox (s : State) {mb : Fin 6} {off i : Nat} {bs : List Byte} (late : Bool × Nat) (hb : s.isBusy mb.val = false)
    (hi : i < bs.length) (hw : off + bs.length ≤ 0x200) :
    writeByte (inboxAt mb.val + off) bs (s, late) i = (s.hostWrite (inboxAt mb.val + off + i) [bs[i]], late) := by
  have hmb := mb.isLt
  have ha : inboxAt mb.val + off + i = 0x1000 + 0x400 * mb.val + off + i := rfl
  have hm : (inboxAt mb.val + off + i) % 2 ^ 24 = inboxAt mb.val + off + i := Nat.mod_eq_of_lt (by omega)
  have h1 : ¬ inboxAt mb.val + off + i < 0x1000 := by omega
  have h2 : inboxAt mb.val + off + i < 0x2800 := by omega
  have h3 : ¬ 0x200 ≤ (inboxAt mb.val + off + i) % 0x400 := by omega
  have h4 : (inboxAt mb.val + off + i - 0x1000) / 0x400 = mb.val := by omega
  unfold writeByte
  rw [hm]
  simp [h1, h2, h3, h4, hb, hi]

theorem writeBytes_inbox (s : State) {mb : Fin 6} {off : Nat} {bs : List Byte} (late : Bool × Nat) (hb : s.isBusy mb.val = false)
    (hw : off + bs.length ≤ 0x200) (k : Nat) (hk : k ≤ bs.length) :
    (List.range k).foldl (writeByte (inboxAt mb.val + off) bs) (s, late) = (s.hostWrite (inboxAt mb.val + off) (bs.take k), late) := by
  induction k with
  | zero => rfl
  | succ k ih =>
    have hlen : (bs.take k).length = k := by simp; omega
    have hc := s.hostWrite_concat (inboxAt mb.val + off) (bs.take k) bs[k]
    rw [hlen] at hc
    rw [List.range_succ, List.foldl_append, ih (by omega), List.foldl_cons, List.foldl_nil,
      writeByte_inbox _ late (by simpa [isBusy] using hb) hk hw, hc, List.take_append_getElem]

/-- A write into the inbox of an idle mailbox under an opcode that is honoured. -/
theorem hspiWrite_inbox (s : State) {op : Nat} {mb : Fin 6} {off k : Nat} {bs : List Byte} (hk : k % 8 = 0) (h : s.hspiServed = true)
    (hb : s.isBusy mb.val = false) (hw : off + bs.length ≤ 0x200)
    (hop : op = 0x02 ∨ op = 0x32 ∧ s.on F.MBX_HCFG_QUAD = true) :
    s.hspiWrite op (inboxAt mb.val + off) bs k = s.hostWrite (inboxAt mb.val + off) bs := by
  have hmb := mb.isLt
  have hopcode : hspiOpcodes.contains op = true ∧ ¬ (op ≠ 0x02 ∧ op ≠ 0x32) ∧ ¬ (op = 0x32 ∧ (!s.on F.MBX_HCFG_QUAD) = true) := by
    rcases hop with rfl | ⟨rfl, hq⟩
    · exact ⟨rfl, by simp⟩
    · exact ⟨rfl, by simp [hq]⟩
  have hmb7 : mb7At (inboxAt mb.val + off) bs.length = none := by
    refine List.find?_eq_none.mpr fun i hi => ?_
    have hi := List.mem_range.mp hi
    have ha : inboxAt mb.val = 0x1000 + 0x400 * mb.val := rfl
    simp only [decide_eq_true_eq]
    omega
  unfold hspiWrite
  rw [if_neg (by simp [h]), if_neg (by rw [hopcode.1]; decide), if_neg hopcode.2.1, if_neg hopcode.2.2, hmb7]
  simp only [Option.getD_none, List.take_length, writeBytes_inbox s (false, 0) hb hw _ le_rfl, Option.isSome_none]
  rw [cutShort_whole _ _ hk]
  simp [notLive, bit, List.range_succ]

/-- The bytes of the host window after a write of mailbox bytes. -/
theorem hostByte_hostWrite (s : State) {mb : Fin 6} {off : Nat} {bs : List Byte} (hw : off + bs.length ≤ 0x200) :
    let addr := inboxAt mb.val + off
    (∀ i (h : i < bs.length), (s.hostWrite addr bs).hostByte (addr + i) = bs[i]) ∧
      (∀ a, a < addr ∨ addr + bs.length ≤ a → (s.hostWrite addr bs).hostByte a = s.hostByte a) := by
  have hmb := mb.isLt
  refine ⟨fun i hi => ?_, fun a ha => ?_⟩
  · have ha : inboxAt mb.val + off + i < 0x2800 := by unfold inboxAt; omega
    unfold hostByte
    rw [if_pos (.inl ha)]
    exact sget_ssets_in _ _ _ _ _ hi
  · unfold hostByte
    rw [hostWrite_get, hostWrite_get, hostWrite_get]
    simp only [hostWrite, modMbx, sget_ssets_out _ _ _ _ _ ha]

end State

/-- Settles O7: Read status shows MBX_HSTAT as the live grants leave it; a read of the mailboxes has no effect but what it drives. -/
theorem hspiReads : Obligations.HspiReads :=
  ⟨fun n k s h => ⟨_, rfl, s.readStatus_spec n k h⟩, fun _ _ k late s h hlo hlt hhi =>
    ⟨⟨_, rfl, s.hspiRead_mailbox [] k h (by simp) hlo hlt hhi⟩, ⟨_, rfl, s.hspiRead_mailbox late k h (by simp) hlo hlt hhi⟩,
      fun hq => ⟨_, rfl, s.hspiRead_mailbox late k h (fun _ => hq) hlo hlt hhi⟩⟩⟩

/-- Settles O8: the transaction is one write of mailbox bytes. -/
theorem inboxWrites : Obligations.InboxWrites := by
  intro mb off k bytes s hk h hb hw addr after
  have stored : after (s.hostWrite addr bytes) := ⟨rfl, rfl, s.hostByte_hostWrite hw⟩
  refine ⟨⟨_, rfl, ?_⟩, fun hq => ⟨_, rfl, ?_⟩⟩
  · exact (s.hspiWrite_inbox hk h hb hw (.inl rfl)).symm ▸ stored
  · exact (s.hspiWrite_inbox hk h hb hw (.inr ⟨rfl, hq⟩)).symm ▸ stored

/-- Settles O9: each of these transactions is `State.malformed`, and only the read into the direct window drives bytes. -/
theorem malformedTransactions : Obligations.MalformedTransactions := by
  intro addr n k op bytes late s h after
  have holds : ∀ {c : Instr} {o : Nat} {out : List Byte} {t : State}, exec c s = .next t → s.Malformed t o out → after c o out :=
    fun he m => ⟨_, he, m.out_eq, m.lastErr, m.host, m.dram, m.count, m.event⟩
  refine ⟨fun hop => ?_, fun hq => ⟨?_, ?_, fun hst => ?_⟩, fun hw => ?_⟩
  · have hne : op ≠ 0x32 := by rintro rfl; exact absurd hop (by decide)
    refine holds (congrArg Host.Outcome.next ?_) (s.malformed_silent op.toNat)
    rw [if_neg hne, hspiWrite, if_neg (by simp [h]), if_pos (by simpa using hop)]
  · refine holds (congrArg Host.Outcome.next ?_) (s.malformed_driven 0x6B [])
    rw [hspiRead, if_neg (by simp [h]), if_pos (by simp [hq])]
  · refine holds (congrArg Host.Outcome.next ?_) (s.malformed_silent 0x32)
    rw [hspiWrite, if_neg (by simp [h]), if_neg (by decide), if_neg (by decide), if_pos (by simp [hq])]
  · refine holds (congrArg Host.Outcome.next ?_) (s.malformed_silent 0xA5)
    rw [fastLane, if_neg (by simp [h, hst]), if_pos (by simp [hq])]
  · refine holds (congrArg Host.Outcome.next ?_) (s.malformed_driven 0x03 (List.replicate n 0xFF))
    rw [hspiRead, if_neg (by simp [h]), if_neg (by simp), if_pos ⟨rfl, hw⟩]

end Sys2Proof.Machine
end

section
/-! SUPPORT. Doorbells, acknowledgements and notifications of HSPI (R89, R90, R98, R100). -/

set_option Elab.async false

namespace Sys2Proof.Machine
open State
namespace State

/-! ### Doorbells (R89, R90) -/

/-- A doorbell bit announces a command in a mailbox that is served and neither busy nor full. -/
def announced (s : State) (v k : Nat) : Bool := bit v k && s.serves 0 k && !s.isBusy k && !s.isFull k

/-- What a doorbell does for one mailbox, in a write that finds the mailboxes as `s` shows them. -/
def doorbellFor (s u : State) (k : Nat) : State :=
  if s.serves 0 k && !s.isBusy k && !s.isFull k then (u.setBusy k true).received 0 k else u.ignoredMb k 0

/-- What one bit of a doorbell does. -/
def doorbellBit (s : State) (v : Nat) (u : State) (k : Nat) : State := if bit v k then s.doorbellFor u k else u

theorem doorbell_eq (s : State) (v : Nat) : s.doorbell v = (List.range 6).foldl (s.doorbellBit v) s := rfl

theorem doorbellBit_of_announced {s : State} {v k : Nat} (u : State) (h : s.announced v k = true) :
    s.doorbellBit v u k = (u.setBusy k true).received 0 k := by
  simp only [announced, Bool.and_eq_true] at h
  obtain ⟨⟨⟨hv, hs⟩, hb⟩, hf⟩ := h
  simp [doorbellBit, doorbellFor, hv, hs, hb, hf]

theorem doorbellBit_of_not {s : State} {v k : Nat} (u : State) (h : s.announced v k = false) :
    s.doorbellBit v u k = if bit v k then u.ignoredMb k 0 else u := by
  unfold doorbellBit doorbellFor
  cases hv : bit v k
  · rfl
  · simp only [announced, hv, Bool.true_and] at h
    simp [h]

theorem doorbellBits_mbx (s : State) (v : Nat) (l : List Nat) (u : State) :
    (l.foldl (s.doorbellBit v) u).mbx = { u.mbx with order := u.mbx.order ++ (l.filter (s.announced v)).map fun k => (0, k) } := by
  induction l generalizing u with
  | nil => simp
  | cons k l ih =>
    rw [List.foldl_cons, ih]
    cases hk : s.announced v k
    · rw [doorbellBit_of_not u hk]
      split <;> simp [hk]
    · rw [doorbellBit_of_announced u hk]
      simp [hk, received, modMbx]

theorem doorbellBits_busy (s : State) (v : Nat) (l : List Nat) (u : State) {j : Nat} (hj : j < 6) :
    (l.foldl (s.doorbellBit v) u).isBusy j = (u.isBusy j || (decide (j ∈ l) && s.announced v j)) := by
  induction l generalizing u with
  | nil => simp
  | cons k l ih =>
    have hstep : (s.doorbellBit v u k).isBusy j = (u.isBusy j || (decide (j = k) && s.announced v k)) := by
      cases hk : s.announced v k
      · rw [doorbellBit_of_not u hk]
        split <;> simp [isBusy_ignored]
      · rw [doorbellBit_of_announced u hk, isBusy, received_rd, ← isBusy, isBusy_setBusy _ _ _ _ hj]
        by_cases e : j = k <;> simp [e]
    rw [List.foldl_cons, ih, hstep]
    by_cases e : j = k
    · subst e
      cases s.announced v j <;> simp
    · simp [e]

theorem doorbell_dram (s : State) (v : Nat) : (s.doorbell v).dram = s.dram :=
  foldl_keeps State.dram (fun u k => by
    split
    · split <;> simp
    · rfl) _ s

theorem doorbell_spec (s : State) (v : Nat) : let t := s.doorbell v
    t.dram = s.dram ∧
      t.mbx = { s.mbx with order := s.mbx.order ++ ((List.range 6).filter fun k =>
        bit v k && s.serves 0 k && !s.isBusy k && !s.isFull k).map fun k => (0, k) } ∧
      ∀ k, k < 6 → t.isBusy k = (s.isBusy k || (bit v k && s.serves 0 k && !s.isFull k)) := by
  refine ⟨s.doorbell_dram v, s.doorbellBits_mbx v _ s, fun k hk => ?_⟩
  rw [doorbell_eq, doorbellBits_busy _ _ _ _ hk, announced]
  cases s.isBusy k <;> simp [hk]

/-- A doorbell for one mailbox that is busy or full is ignored (R90). -/
theorem doorbell_ignored (s : State) {mb : Fin 6} (h : (s.isBusy mb.val || s.isFull mb.val) = true) :
    s.doorbell (BitVec.ofNat 32 (2 ^ mb.val)).toNat = s.ignoredMb mb.val 0 := by
  have hone : (List.range 6).filter (bit (BitVec.ofNat 32 (2 ^ mb.val)).toNat) = [mb.val] := by clear h; decide +revert
  have hfree : ¬ (s.serves 0 mb.val && !s.isBusy mb.val && !s.isFull mb.val) = true := by
    simp only [Bool.or_eq_true] at h
    rcases h with h | h <;> simp [h]
  exact (foldl_only hone s.doorbellFor s).trans (if_neg hfree)

theorem ignoredMb_spec (s : State) (mb : Nat) (p : Fin 3) :
    (s.ignoredMb mb p).on F.MBX_HSTAT_LAST_ERR = true ∧ s.logged (s.ignoredMb mb p) 0x0302 1 mb p.val := by
  refine ⟨?_, logged_logEvent (wr_evr ..) (wr_tb ..) _ _ _ _⟩
  rw [ignoredMb, logEvent_on _ _ _ _ _ (by decide)]
  exact on_wr_one _ (by decide) (by decide)

/-! ### Acknowledgements (R89, R98) -/

theorem outboxAck_full (s : State) (v : Nat) (l : List Nat) (hl : ∀ k ∈ l, k < 7) {j : Nat} (hj : j < 7) :
    (l.foldl (fun (s : State) mb => if bit v mb && s.isFull mb then (s.setFull mb false).helloLeaves 0 mb else s) s).isFull j =
      (s.isFull j && !(decide (j ∈ l) && bit v j)) := by
  induction l generalizing s with
  | nil => simp
  | cons k l ih =>
    have hstep : (if bit v k && s.isFull k then (s.setFull k false).helloLeaves 0 k else s).isFull j =
        (s.isFull j && !(decide (j = k) && bit v k)) := by
      have hk := hl k (.head _)
      by_cases e : j = k
      · subst e
        cases hv : bit v j <;> cases hf : s.isFull j <;> simp [hf, (helloLeaves_facts ..).1, isFull_setFull _ _ _ hk]
      · split <;> simp [e, (helloLeaves_facts ..).1, isFull_setFull_ne _ _ hj e]
    rw [List.foldl_cons, ih _ fun x hx => hl x (.tail _ hx), hstep]
    by_cases e : j = k
    · subst e
      cases bit v j <;> simp
    · simp [e]

theorem outboxAck_spec (s : State) (v : Nat) : let t := s.outboxAck v
    t.dram = s.dram ∧ t.mbx.host = s.mbx.host ∧ ∀ k, k < 7 → t.isFull k = (s.isFull k && !bit v k) := by
  refine ⟨foldl_keeps State.dram (fun u k => ?_) _ s, foldl_keeps (fun u => u.mbx.host) (fun u k => ?_) _ s, fun k hk => ?_⟩
  · split
    · exact (helloLeaves_facts _ 0 k 0).2.1.trans (setFull_dram ..)
    · rfl
  · split
    · exact (helloLeaves_facts _ 0 k 0).2.2.trans (by rw [setFull_mbx])
    · rfl
  · rw [outboxAck, outboxAck_full s v _ (fun _ => List.mem_range.mp) hk]
    simp [hk]

/-! ### Notifications (R100) -/

theorem hostWrite_port (s : State) (a : Nat) (bs : List Byte) (p : Fin 3) : (s.hostWrite a bs).port p = s.port p := rfl

theorem notifPlace_spec {s : State} {m : List Byte} {ms : List (List Byte)} (hn : (s.port 0).notifs = m :: ms) (hf : s.isFull 6 = false) :
    let t := s.notifPlace
    t.isFull 6 = true ∧ (t.port 0).notifs = ms ∧ t.hostRead (outboxAt 6) m.length = m ∧ t.dram = s.dram ∧
      (∀ k, k < 6 → t.isFull k = s.isFull k) ∧ s.regsKeep t [R.MBX_HSTAT, R.MBX_IRQ_STATUS] := by
  intro t
  have ht : t = ((s.modPort 0 fun q => { q with notifs := ms }).hostWrite (outboxAt 6) m).setFull 6 true := by
    unfold t notifPlace
    rw [hn]
    exact if_neg (by simp [hf])
  rw [ht]
  refine ⟨isFull_setFull _ _ _ (by decide), ?_, ?_, by simp, fun k hk => ?_, fun a ha => ?_⟩
  · rw [setFull_port, hostWrite_port, port_modPort]
  · rw [hostRead, setFull_mbx]
    exact sgets_ssets ..
  · rw [isFull_setFull_ne _ _ (by omega) (by omega), isFull, isFull, hostWrite_rd, modPort_rd]
  · simp only [List.mem_cons, List.not_mem_nil, or_false, not_or] at ha
    rw [setFull_get _ _ _ ha.1 ha.2, hostWrite_get, modPort_get]

end State

/-- Settles O10: a doorbell is one change for each of its bits (`State.doorbellBit`), an acknowledgement clears the bits that it
names, and the oldest notification is placed as a response is. -/
theorem doorbellsAndNotifications : Obligations.DoorbellsAndNotifications := by
  refine ⟨fun v s h => ⟨⟨_, congrArg Host.Outcome.next (if_pos h), s.doorbell_spec v.toNat⟩,
    ⟨_, congrArg Host.Outcome.next (if_pos h), s.outboxAck_spec v.toNat⟩⟩, fun mb s h hb => ?_,
    fun m ms s hr hn hf => ⟨_, congrArg Host.Outcome.next (if_pos hr), notifPlace_spec hn hf⟩⟩
  obtain ⟨herr, hlog⟩ := s.ignoredMb_spec mb.val 0
  exact ⟨_, congrArg Host.Outcome.next ((if_pos h).trans (s.doorbell_ignored hb)), herr, hlog, fun k _ => isBusy_ignored ..⟩

end Sys2Proof.Machine
end

section
/-! SUPPORT. CAN: request frames, error states, and the frames that go out (R102, R103). -/

set_option Elab.async false

namespace Sys2Proof.Machine
open State
namespace State

theorem canPort_ne_zero (c : Fin 2) : canPort c ≠ 0 := by decide +revert

/-! ### Request frames -/

/-- What waits in a CAN mailbox is its request message. -/
theorem waiting_congr {s t : State} {p : Fin 3} (hp : p ≠ 0) {mb : Nat}
    (h : sget (fun _ => none) (t.port p).rx mb = sget (fun _ => none) (s.port p).rx mb) : t.waiting p mb = s.waiting p mb := by
  rw [waiting, waiting, if_neg hp, if_neg hp, h]

theorem canRequest_delivers {s : State} {c : Fin 2} {mb : Fin 6} {bytes : List Byte} (hr : s.fwRuns = true)
    (ho : (s.port (canPort c)).busOff = false) (hb : bytes ≠ []) (hrx : sget (fun _ => none) (s.port (canPort c)).rx mb.val = none) :
    let t := s.canRequest c mb bytes true
    t.waiting (canPort c) mb.val = some bytes ∧ t.mbx.order = s.mbx.order ++ [((canPort c).val, mb.val)] ∧ t.regs = s.regs ∧
      t.dram = s.dram := by
  intro t
  have ht : t = (s.modPort (canPort c) fun q => { q with rx := sset (fun _ => none) q.rx mb.val (some bytes) }).received (canPort c) mb.val := by
    simp [t, canRequest, hr, ho, hb, hrx]
  rw [ht]
  refine ⟨?_, rfl, rfl, rfl⟩
  rw [waiting, if_neg (canPort_ne_zero c), received_port, port_modPort, sget_sset_self]
  cases bytes with
  | nil => exact absurd rfl hb
  | cons b bs => rfl

/-- The count of a block's error register after an error (R16). -/
theorem errHit_count (s : State) (base code : Nat) : (s.errHit base code).get (base + 0x1F4) = satN 16 (s.get (base + 0x1F4) + 1) := by
  have hlt : satN 16 (s.get (base + 0x1F4) + 1) < 2 ^ 32 := by unfold satN; omega
  unfold errHit
  dsimp only
  split <;> rw [get_put_self, Nat.mod_eq_of_lt hlt]

theorem errHit_regsKeep (s : State) (base code : Nat) : s.regsKeep (s.errHit base code) (errRegs base) := by
  intro a ha
  simp only [errRegs, List.mem_cons, List.not_mem_nil, or_false, not_or] at ha
  exact errHit_get _ _ _ ha.1 ha.2

theorem canRequest_classical {s : State} {c : Fin 2} {mb : Fin 6} {bytes : List Byte} (ho : (s.port (canPort c)).busOff = false) :
    let t := s.canRequest c mb bytes false
    (t.port (canPort c)).ignored = (s.port (canPort c)).ignored + 1 ∧
      t.waiting (canPort c) mb.val = s.waiting (canPort c) mb.val ∧ bit (t.get (canBase c + 0x1F0)) 31 = true ∧
      t.get (canBase c + 0x1F4) = satN 16 (s.get (canBase c + 0x1F4) + 1) ∧ s.regsKeep t (errRegs (canBase c)) ∧
      t.dram = s.dram ∧ t.evr = s.evr := by
  intro t
  have ht : t = ((s.modPort (canPort c) fun q => { q with ignored := q.ignored + 1 }).errHit (canBase c)
      (Config.openWord s.free).toNat).nextFree := by
    simp [t, canRequest, ho]
  generalize hu : s.modPort (canPort c) _ = u at ht
  have hport : t.port (canPort c) = { s.port (canPort c) with ignored := (s.port (canPort c)).ignored + 1 } := by
    rw [ht, nextFree_port, errHit_port, ← hu, port_modPort]
  have hget : ∀ a, u.get a = s.get a := fun a => by rw [← hu, modPort_get]
  refine ⟨by rw [hport], waiting_congr (canPort_ne_zero c) (by rw [hport]), ?_, ?_, fun a ha => ?_, ?_, ?_⟩
  · rw [ht, nextFree_get, errHit_bit]
  · rw [ht, nextFree_get, errHit_count, hget]
  · rw [ht, nextFree_get, errHit_regsKeep _ _ _ a ha, hget]
  · simp [ht, ← hu]
  · simp [ht, ← hu]

theorem canRequest_unanswered {s : State} {c : Fin 2} {mb : Fin 6} {bytes m : List Byte} (hr : s.fwRuns = true)
    (ho : (s.port (canPort c)).busOff = false) (hrx : sget (fun _ => none) (s.port (canPort c)).rx mb.val = some m) :
    let t := s.canRequest c mb bytes true
    s.logged t 0x0302 1 mb.val (canPort c).val ∧ t.mbx = s.mbx ∧ t.dram = s.dram := by
  intro t
  have ht : t = s.logEvent 0x0302 1 mb.val (canPort c).val := by simp [t, canRequest, hr, ho, hrx]
  rw [ht]
  exact ⟨logged_logEvent rfl rfl _ _ _ _, by simp, by simp⟩

/-! ### The reset that follows a response (R70) -/

/-- The soft reset of a CAN controller empties its frames and ends its error states. -/
theorem softReset_can_port (s : State) (c : Fin 2) : (s.softReset 4 (2 ^ (4 + c.val))).port (canPort c) =
    { s.port (canPort c) with rx := [], tx := [], busOff := false, passive := false } := by
  have hone : (List.range 9).filter (bit (2 ^ (4 + c.val))) = [4 + c.val] := by decide +revert
  have hduo : duo (4 + c.val) = c := by decide +revert
  have shows : ∀ u : State, u.showPend.port (canPort c) = u.port (canPort c) := fun u => by
    rw [port, port, ((Shown.refl u).showPend).mbx]
  unfold softReset
  rw [if_neg (by decide), if_pos rfl, shows, foldl_only hone, sysReset, if_neg (by omega), if_neg (by omega), if_pos (by omega), hduo,
    port_modPort, put_port]

/-- What a reset after the last frame leaves of the frames and notifications that wait. -/
theorem canSentReset_queues (s : State) (c : Fin 2) : let p := canPort c
    ((s.canSentReset c).port p).tx = ((s.canSent c).port p).tx ∧ ((s.canSentReset c).port p).notifs = ((s.canSent c).port p).notifs := by
  unfold canSentReset
  extract_lets p u
  split
  · next h =>
    simp only [Bool.and_eq_true, List.isEmpty_iff] at h
    rw [softReset_can_port, modRst_port]
    exact ⟨h.2.symm, rfl⟩
  · exact ⟨rfl, rfl⟩

theorem canSentReset_of_none {s : State} {c : Fin 2} (h : (s.canSent c).rst.canReset = 0) : s.canSentReset c = s.canSent c := by
  unfold canSentReset
  exact if_neg (by simp [h, bit])

/-! ### Frames that go out (R103) -/

theorem canSent_response {s : State} {c : Fin 2} {id : Nat} {m : List Byte} {rest : List (Nat × List Byte)}
    (ho : (s.port (canPort c)).busOff = false) (hh : (s.port (canPort c)).hello = []) (ht : (s.port (canPort c)).tx = (id, m) :: rest) :
    s.canSent c = s.modPort (canPort c) fun q =>
      { q with tx := rest, rx := sset (fun _ => none) q.rx (id - (s.port (canPort c)).rspId) none, sent := some (id, m) } := by
  unfold canSent
  simp only [ho, ht, helloLeaves, port_modPort, hh]
  rfl

theorem canSent_notification {s : State} {c : Fin 2} {m : List Byte} {ms : List (List Byte)} (ho : (s.port (canPort c)).busOff = false)
    (ht : (s.port (canPort c)).tx = []) (hn : (s.port (canPort c)).notifs = m :: ms) :
    s.canSent c = s.modPort (canPort c) fun q => { q with notifs := ms, sent := some (q.ntfId, canPad m) } := by
  unfold canSent
  simp only [ho, ht, hn]
  rfl

theorem canSent_busOff {s : State} {c : Fin 2} (ho : (s.port (canPort c)).busOff = true) : s.canSent c = s := by
  unfold canSent
  simp only [ho]
  rfl

/-! ### Error states (R103) -/

/-- A controller enters an error state: its event, and no frame or notification is lost. -/
theorem canState_event (s : State) (c : Fin 2) (f : Port → Port) (code sev : Nat) :
    let t := (s.modPort (canPort c) f).logEvent code sev c.val 0
    t.port (canPort c) = f (s.port (canPort c)) ∧ s.logged t code sev c.val 0 :=
  ⟨(logEvent_port ..).trans (port_modPort ..), logged_logEvent (u := s.modPort (canPort c) f) (modPort_evr ..) (modPort_tb ..) _ _ _ _⟩

end State

/-- A row of a CAN controller that is outside reset with its clocks. -/
theorem next_of_not_still {s : State} {c : Duo} (h : s.sysStill (4 + c.val) = false) (u v : State) :
    (Host.Outcome.next (if s.sysStill (4 + c.val) then u else v) : Host.Outcome State Fault Refusal) = .next v := by
  simp [h]

theorem exec_canErrorPassive {s : State} {c : Duo} (h : s.sysStill (4 + c.val) = false) (hp : (s.port (State.canPort c)).passive = false) :
    exec (.canErrorPassive c) s =
      .next ((s.modPort (State.canPort c) fun q => { q with passive := true }).logEvent 0x0311 2 c.val 0) :=
  congrArg Host.Outcome.next (if_neg (by simp [h, hp]))

theorem exec_canBusOff {s : State} {c : Duo} (h : s.sysStill (4 + c.val) = false) (ho : (s.port (State.canPort c)).busOff = false) :
    exec (.canBusOff c) s =
      .next ((s.modPort (State.canPort c) fun q => { q with busOff := true }).logEvent 0x0310 3 c.val 0) :=
  congrArg Host.Outcome.next (if_neg (by simp [h, ho]))

/-- Settles O11: each row is one change of the controller's port, with its event or error; the reset that may follow the last
response finds no frame to lose (`State.canSentReset_queues`). -/
theorem canPort : Obligations.CanPort := by
  refine ⟨fun c mb bytes s hr ho hst hb => ⟨fun hrx => ?_, ?_, fun m hrx => ?_⟩, fun c s hst => ?_⟩
  · exact ⟨_, next_of_not_still hst _ _, canRequest_delivers hr ho hb hrx⟩
  · exact ⟨_, next_of_not_still hst _ _, canRequest_classical ho⟩
  · exact ⟨_, next_of_not_still hst _ _, canRequest_unanswered hr ho hrx⟩
  intro p
  refine ⟨fun hp => ?_, fun ho => ?_, fun ho => ?_, ?_, fun mb m rest ho hc hh htx => ?_, fun m ms ho hc htx hn => ?_⟩
  · obtain ⟨hport, hlog⟩ := s.canState_event c (fun q => { q with passive := true }) 0x0311 2
    exact ⟨_, exec_canErrorPassive hst hp, by rw [hport], hlog⟩
  · obtain ⟨hport, hlog⟩ := s.canState_event c (fun q => { q with busOff := true }) 0x0310 3
    exact ⟨_, exec_canBusOff hst ho, by rw [hport], by rw [hport], by rw [hport], hlog⟩
  · obtain ⟨htx, hnt⟩ := s.canSentReset_queues c
    rw [canSent_busOff ho] at htx hnt
    exact ⟨_, next_of_not_still hst _ _, htx, hnt⟩
  · refine ⟨_, next_of_not_still hst _ _, ?_⟩
    rw [port_modPort]
    exact ⟨rfl, rfl, rfl, rfl, rfl⟩
  · have hs := canSent_response ho hh htx
    refine ⟨_, next_of_not_still hst _ _, ?_⟩
    rw [canSentReset_of_none (by rw [hs]; exact hc), hs, port_modPort]
    exact ⟨rfl, rfl, by rw [Nat.add_sub_cancel_left, sget_sset_self], rfl⟩
  · have hs := canSent_notification ho htx hn
    refine ⟨_, next_of_not_still hst _ _, ?_⟩
    rw [canSentReset_of_none (by rw [hs]; exact hc), hs, port_modPort]
    exact ⟨rfl, rfl, rfl⟩

end Sys2Proof.Machine
end

section
/-! SUPPORT. The message checks of R95 and R96, and HELLO (R97, R98). -/

set_option Elab.async false

namespace Sys2Proof.Machine
open State
namespace State

/-! ### Steps 1 to 3 of R95 -/

/-- The tag of the message in a mailbox. -/
def msgTag (p : Fin 3) (mb : Fin 6) (m : List Byte) : Tag := ⟨p, mb.val, byteAt m 0, le16 m 2, bit (byteAt m 1) 3⟩

section
variable {s : State} {p : Fin 3} {mb : Fin 6} {m : List Byte} {mine : Nat → Bool}
  (hs : s.serves p mb.val = true) (hw : s.waiting p mb.val = some m) (hm : mine (byteAt m 0) = true)
  (ht : s.turn p mb.val (byteAt m 0) = true) (h : Handler)
include hs hw hm ht

/-- A message that firmware takes is checked for its length, its CRC and its sequence number, in this order. -/
theorem serve_checks : s.serve p mb mine h =
    if s.maxPay p < le16 m 4 || m.length < 8 + le16 m 4 then (s.take p mb.val).reply (msgTag p mb m) stBAD_LENGTH
    else if (s.crcOn p || byteAt m 0 == 1) && crc16 (slice m 0 6 ++ [0, 0] ++ slice m 8 (le16 m 4)) != le16 m 6 then
      (s.take p mb.val).reply (msgTag p mb m) stBAD_CRC
    else (s.take p mb.val).sequenced (msgTag p mb m) (byteAt m 1) (slice m 8 (le16 m 4)) h := by
  unfold serve
  rw [hw]
  dsimp only
  rw [if_neg (by simp [hs, hm, ht]), take_maxPay, take_crcOn]
  rfl

theorem serve_tooLong (hl : s.maxPay p < le16 m 4) : s.serve p mb mine h = (s.take p mb.val).reply (msgTag p mb m) stBAD_LENGTH := by
  rw [serve_checks hs hw hm ht h, if_pos (by simp [hl])]

theorem serve_badCrc (hl : le16 m 4 ≤ s.maxPay p) (hlen : 8 + le16 m 4 ≤ m.length) (hc : s.crcOn p = true)
    (hx : crc16 (slice m 0 6 ++ [0, 0] ++ slice m 8 (le16 m 4)) ≠ le16 m 6) :
    s.serve p mb mine h = (s.take p mb.val).reply (msgTag p mb m) stBAD_CRC := by
  rw [serve_checks hs hw hm ht h, if_neg (by simp; omega), if_pos (by rw [hc, Bool.true_or, Bool.true_and, bne_iff_ne]; exact hx)]

end

/-- A refusal of steps 1 to 3 leaves the machine and the sequence state. -/
theorem reply_take_facts (s : State) (p : Fin 3) (mb : Fin 6) (m : List Byte) {st : Nat} (hst : st ≠ stOK) (hst2 : st ≠ stACCEPTED) :
    let t := (s.take p mb.val).reply (msgTag p mb m) st
    (t.port p).seqs = (s.port p).seqs ∧ t.dram = s.dram ∧ t.lec = s.lec ∧ t.fw = s.fw ∧
      (p = 0 → t.isFull mb.val = true ∧ t.hostRead (outboxAt mb.val) 12 = mkMessage (byteAt m 0) 1 (le16 m 2) (statusWord st 0)) ∧
      (p ≠ 0 → ((t.port p).rspId + mb.val, canPad (mkMessage (byteAt m 0) 1 (le16 m 2) (statusWord st 0))) ∈ (t.port p).tx) := by
  obtain ⟨hseq, hdram, hlec, hfw, hbox, htx⟩ :=
    reply_facts (s.take p mb.val) p mb (byteAt m 0) (le16 m 2) st (bit (byteAt m 1) 3) hst hst2
  exact ⟨hseq.trans (take_seqs ..), hdram.trans (take_dram ..), hlec.trans (take_lec ..), hfw.trans (take_fw ..), hbox, htx⟩

/-- A whole message within the settled maximum, as R92 makes its CRC, reaches step 3. -/
theorem serve_message {s : State} {p : Fin 3} {mb : Fin 6} {op flags seq : Nat} {pl pad : List Byte} {mine : Nat → Bool}
    (hs : s.serves p mb.val = true) (hw : s.waiting p mb.val = some (mkMessage op flags seq pl ++ pad)) (hop : op < 256)
    (hf : flags < 256) (hq : seq < 65536) (hl : pl.length < 65536) (hmax : pl.length ≤ s.maxPay p) (hm : mine op = true)
    (ht : s.turn p mb.val op = true) (h : Handler) :
    s.serve p mb mine h = (s.take p mb.val).sequenced (tagOf p mb op flags seq) flags pl h := by
  have e0 : byteAt (mkMessage op flags seq pl ++ pad) 0 = op := by rw [byteAt_mkMessage_op, Nat.mod_eq_of_lt hop]
  have e1 : byteAt (mkMessage op flags seq pl ++ pad) 1 = flags := by rw [byteAt_mkMessage_flags, Nat.mod_eq_of_lt hf]
  have e2 : le16 (mkMessage op flags seq pl ++ pad) 2 = seq := by rw [le16_mkMessage_seq, Nat.mod_eq_of_lt hq]
  have e3 : le16 (mkMessage op flags seq pl ++ pad) 4 = pl.length := by rw [le16_mkMessage_len, Nat.mod_eq_of_lt hl]
  rw [serve_checks hs hw (by rwa [e0]) (by rwa [e0]) h, msgTag, e0, e1, e2, e3, slice_mkMessage_head, slice_mkMessage_payload,
    le16_mkMessage_crc]
  rw [if_neg (by simp [hmax]), if_neg (by simp)]
  rfl

/-! ### Sequence numbers (R96) -/

/-- A duplicate of the last accepted command: its cached response is sent again. -/
theorem sequenced_duplicate {s : State} {t : Tag} {q : SeqSt} (hq : sget (fun _ => none) (s.port t.port).seqs t.mb = some q)
    (hseq : t.seq = q.last) (hc : q.cache ≠ []) (flags : Nat) (pl : List Byte) (h : Handler) :
    s.sequenced t flags pl h = s.place t.port t.mb q.cache := by
  simp [sequenced, hq, hseq, hc]

/-- Any other SEQ than the expected one. -/
theorem sequenced_unexpected {s : State} {t : Tag} {q : SeqSt} (hq : sget (fun _ => none) (s.port t.port).seqs t.mb = some q)
    (hdup : t.seq ≠ q.last) (hnext : t.seq ≠ (q.last + 1) % 65536) (flags : Nat) (pl : List Byte) (h : Handler) :
    s.sequenced t flags pl h = s.reply t stSEQ_ERROR := by
  simp [sequenced, hq, hdup, hnext]

/-! ### Step 5 of R95 -/

theorem serve_undefined {s : State} {p : Fin 3} {mb : Fin 6} {op flags seq : Nat} {pl : List Byte} (a : s.Waits p mb op flags seq pl)
    (hd : definedOp op = false) (h : Handler) :
    s.replies (s.serve p mb (fun op => !definedOp op) h) p mb op seq stUNKNOWN_OPCODE s.fw := by
  have hrun : (s.opened p mb seq).runCommand (tagOf p mb op flags seq) flags pl h = ⟨s.opened p mb seq, stUNKNOWN_OPCODE, 0, []⟩ := by
    unfold runCommand
    rw [if_neg (by simp [tagOf, a.flags_ok]), opened_rst, a.running, if_neg (by simp), if_pos (by simp [tagOf, hd])]
    rfl
  rw [serve_asks a _ (by simp [hd]) h, hrun]
  exact replies_closed s p mb flags seq (by rintro rfl; exact absurd hd (by decide)) (by decide)

/-! ### HELLO (R97, R98) -/

/-- A handler that changes only the mailboxes and ports leaves the rest of the machine alone. -/
theorem mailOnly_closed_modPort {s : State} {p : Fin 3} {mb : Fin 6} {q : Nat} (tag : Tag) (d : Nat) (data : List Byte) (r : Fin 3)
    (f : Port → Port) : s.mailOnly (closed ⟨(s.opened p mb q).modPort r f, stOK, d, data⟩ tag) := by
  constructor
  · intro a ha
    simp only [List.mem_cons, List.not_mem_nil, or_false, not_or] at ha
    rw [closed_get _ _ ha.1 ha.2 (.inr (.inr rfl)), modPort_get, opened_get _ _ _ _ ha.1]
  all_goals simp

theorem opened_hello (s : State) (p : Fin 3) (mb : Fin 6) (seq : Nat) : ((s.opened p mb seq).port p).hello = (s.port p).hello := by
  unfold opened setFrag
  rw [port_modPort, port_modPort, take_port]
  split <;> rfl

/-- A HELLO request that R97 allows on a port. -/
structure HelloAsks (p : Fin 3) (pl : List Byte) : Prop where
  len : pl.length = 8
  low : 2 ≤ le16 pl 0
  high : le16 pl 2 ≤ 2
  pay : (if p = 0 then 64 else 8) ≤ le16 pl 4
  caps : byteAt pl 6 < 8
  zero : byteAt pl 7 = 0

/-- What an allowed HELLO settles while firmware runs. -/
def helloSettled (p : Fin 3) (mb : Fin 6) (pl : List Byte) : HelloSet :=
  ⟨mb.val, p = 0 && bit (byteAt pl 6) 0, p = 0 && bit (byteAt pl 6) 1, bit (byteAt pl 6) 2, min (if p = 0 then 504 else 56) (le16 pl 4)⟩

/-- The answer of a HELLO. -/
def helloData (id : Nat) (h : HelloSet) : List Byte :=
  leBytes 2 2 ++ leBytes 2 h.maxPay ++ leBytes 1 (b2n h.quad + 2 * b2n h.crcOff + 4 * b2n h.events) ++ leBytes 1 8 ++
    leBytes 2 0x0302 ++ leBytes 4 id

theorem hello_settles {u : State} {p : Fin 3} {mb : Fin 6} {op flags seq : Nat} {pl : List Byte} (a : HelloAsks p pl)
    (hu : u.unanswered p mb.val = false) (hr : u.rst.cpu = .running) :
    u.hello (tagOf p mb op flags seq) pl =
      ⟨u.modPort p fun q => { q with hello := q.hello.filter (·.mb != mb.val) ++ [helloSettled p mb pl] }, stOK, 0,
        helloData (u.get R.SYS_ID) (helloSettled p mb pl)⟩ := by
  obtain ⟨hlen, hlow, hhigh, hpay, hcaps, hzero⟩ := a
  have hrom : (u.rst.cpu != .romService) = true := by rw [hr]; rfl
  unfold hello
  extract_lets lo hi caps fail h v
  have hh : h = helloSettled p mb pl := by
    unfold h helloSettled
    rw [hrom, Bool.and_true]
    rfl
  have hbad : ¬ (decide (7 < caps) || byteAt pl 7 != 0) = true := by simp [caps, hzero]; omega
  have hver : ¬ (decide (le16 pl 0 < 2) || decide (2 < le16 pl 2)) = true := by simp; omega
  have hlo : ¬ le16 pl 4 < lo := Nat.not_lt.mpr hpay
  rw [if_neg (by simp [hlen]), if_neg hbad, if_neg hver, if_neg hlo, if_neg (by simp [tagOf, hu])]
  simp only [v, modPort_get, hh, helloData, tagOf]

end State

/-- Settles O12: the checks of R95 in their order (`State.serve_checks`), then the sequence number of R96. -/
theorem messageChecks : Obligations.MessageChecks := by
  refine ⟨?_, fun mb flags seq pl pad q s hs hseq hw hl hmax hf ht hq => ?_,
    fun p mb op flags seq pl s a hd => ⟨_, rfl, serve_undefined a hd _⟩⟩
  · intro p mb m s hs hw hop ht refused
    have hturn : s.turn p mb.val (byteAt m 0) = true := by rwa [hop]
    have sends : ∀ st, st ≠ stOK → st ≠ stACCEPTED →
        s.serve p mb (· == 0x04) (fun s _ pl => s.getStatus pl) = (s.take p mb.val).reply (msgTag p mb m) st → refused st :=
      fun st h1 h2 he => ⟨_, congrArg Host.Outcome.next he, by simpa only [hop] using s.reply_take_facts p mb m h1 h2⟩
    exact ⟨fun hlong => sends _ (by decide) (by decide) (serve_tooLong hs hw (by simp [hop]) hturn _ hlong),
      fun hle hlen hc hx => sends _ (by decide) (by decide) (serve_badCrc hs hw (by simp [hop]) hturn _ hle hlen hc hx)⟩
  · have hserve := serve_message hs hw (mine := (· == 0x10)) (by decide) hf hseq hl hmax rfl ht State.clearEvents
    have hseqs : sget (fun _ => none) ((s.take 0 mb.val).port 0).seqs mb.val = some q := by rw [take_seqs, hq]
    refine ⟨fun hdup hc => ?_, fun hne hnext => ?_⟩
    · rw [sequenced_duplicate hseqs hdup hc] at hserve
      refine ⟨_, congrArg Host.Outcome.next hserve, ?_, ?_, isFull_place0 .., hostRead_place0 _ _ _ _ rfl⟩
      · rw [place_evr, take_evr]
      · exact (place_seqs ..).trans (take_seqs ..)
    · rw [sequenced_unexpected hseqs hne hnext] at hserve
      obtain ⟨hsq, -, -, -, hbox, -⟩ := reply_facts (s.take 0 mb.val) 0 mb 0x10 seq stSEQ_ERROR (bit flags 3) (by decide) (by decide)
      obtain ⟨hfull, hmsg⟩ := hbox rfl
      refine ⟨_, congrArg Host.Outcome.next hserve, ?_, hsq.trans (take_seqs ..), hfull, hmsg⟩
      rw [reply_evr, take_evr]

/-- Settles O13: the handler changes the settings that wait on its port, and nothing else. -/
theorem helloSettles : Obligations.HelloSettles := by
  intro p mb flags seq pl s a hlen hlow hhigh hpay hcaps hzero hun hmax lim quad crcOff events
  have hhello := hello_settles (mb := mb) (op := 0x01) (flags := flags) (seq := seq) ⟨hlen, hlow, hhigh, hpay, hcaps, hzero⟩
    ((s.opened_unanswered p mb seq).trans hun) (by rw [opened_rst, a.running])
  have hseqs : sget (fun _ => none) (((s.opened p mb seq).modPort p fun q =>
      { q with hello := q.hello.filter (·.mb != mb.val) ++ [helloSettled p mb pl] }).port p).seqs mb.val = some ⟨seq, []⟩ := by
    rw [port_modPort]
    exact s.opened_seqs p mb seq
  obtain ⟨hserve, hans⟩ := ok_answer a (· == 0x01) rfl State.hello rfl hhello (by simpa [helloData] using hmax) hseqs
  rw [opened_get _ _ _ _ (by decide)] at hans
  refine ⟨_, rfl, hans, ?_, ?_, ?_⟩
  · rw [hserve, closed_hello, port_modPort, opened_hello]
    rfl
  · rw [hserve]
    exact mailOnly_closed_modPort ..
  · rw [hserve]
    simp

end Sys2Proof.Machine
end

section
/-! SUPPORT. Hall Pass grants: the end of a grant, a new grant, and the answers of HALLPASS_REQ and HALLPASS_RETURN (R104–R106). -/

set_option Elab.async false

namespace Sys2Proof.Machine
open State
namespace State

/-! ### What notifications and answers leave of the mailboxes -/

theorem notify_grants (s : State) (p : Fin 3) (op : Nat) (payload : List Byte) :
    (s.notify p op payload).mbx.grants = s.mbx.grants ∧ (s.notify p op payload).mbx.issued = s.mbx.issued := by
  unfold notify
  extract_lets q m s'
  split
  · exact ⟨rfl, rfl⟩
  · split
    · exact ⟨rfl, rfl⟩
    · rw [errEvent_mbx]
      exact ⟨rfl, rfl⟩

theorem notify_room {s : State} {p : Fin 3} (h : (s.port p).notifs.length < 16) (op : Nat) (payload : List Byte) :
    s.notify p op payload = s.modPort p fun q =>
      { q with notifs := q.notifs ++ [mkMessage op 1 (s.port p).nseq payload], nseq := (q.nseq + 1) % 65536, dropRun := false } := if_pos h

theorem notify_get (s : State) (p : Fin 3) (op : Nat) (payload : List Byte) {a : Nat} (h : a ∉ eventRegs ++ errRegs mbxBase) :
    (s.notify p op payload).get a = s.get a := by
  simp only [List.mem_append, errRegs, List.mem_cons, List.not_mem_nil, or_false, not_or] at h
  obtain ⟨he, h0, h1⟩ := h
  unfold notify
  extract_lets q m s'
  split
  · exact modPort_get ..
  · split
    · exact modPort_get ..
    · rw [errEvent_get _ _ _ _ _ _ he h0 h1, modPort_get]

theorem modPort_grants (s : State) (p : Fin 3) (f : Port → Port) :
    (s.modPort p f).mbx.grants = s.mbx.grants ∧ (s.modPort p f).mbx.issued = s.mbx.issued := ⟨rfl, rfl⟩

theorem helloFailed_grants (s : State) (t : Tag) (st : Nat) :
    (s.helloFailed t st).mbx.grants = s.mbx.grants ∧ (s.helloFailed t st).mbx.issued = s.mbx.issued := by
  unfold helloFailed portDefaults
  split
  · split
    · simp only [wr_mbx]
      exact modPort_grants ..
    · exact modPort_grants ..
  · exact ⟨rfl, rfl⟩

theorem closed_grants (a : Ans) (t : Tag) :
    (closed a t).mbx.grants = a.s.mbx.grants ∧ (closed a t).mbx.issued = a.s.mbx.issued := by
  unfold closed answer place
  split
  · exact modPort_grants ..
  · split
    · rw [setFull_mbx]
      exact a.s.helloFailed_grants t a.st
    · exact a.s.helloFailed_grants t a.st

theorem closed_notifs_ok (s : State) {t : Tag} (ht : t.port = 0) (d : Nat) (data : List Byte) :
    ((closed ⟨s, stOK, d, data⟩ t).port 0).notifs = (s.port 0).notifs := by
  unfold closed answer place
  dsimp only
  rw [if_neg (by decide), helloFailed_of _ (.inr rfl), ht, if_pos rfl, setFull_port, hostWrite_port, port_modPort]

/-! ### The end of a grant (R105) -/

/-- The state in which the end of a grant is notified: the grant taken out, and its event logged. -/
def grantGone (s : State) (g : Grant) (reason : Nat) : State :=
  (s.modMbx fun m => { m with grants := s.mbx.grants.filter fun x => x.num != g.num }).grantStatus.logEvent 0x0307 1 g.block reason

theorem endGrant_eq (s : State) (g : Grant) (reason : Nat) : s.endGrant g reason =
    (s.grantGone g reason).notify 0 0x63 (leBytes 4 g.num ++ leBytes 1 g.block ++ leBytes 1 reason) := rfl

theorem grantGone_mbx (s : State) (g : Grant) (reason : Nat) :
    (s.grantGone g reason).mbx = { s.mbx with grants := s.mbx.grants.filter fun x => x.num != g.num } := by
  rw [grantGone, logEvent_mbx, grantStatus_mbx]
  rfl

theorem endGrant_grants (s : State) (g : Grant) (reason : Nat) :
    (s.endGrant g reason).mbx.grants = s.mbx.grants.filter (fun x => x.num != g.num) ∧
      (s.endGrant g reason).mbx.issued = s.mbx.issued := by
  obtain ⟨hg, hi⟩ := (s.grantGone g reason).notify_grants 0 0x63 (leBytes 4 g.num ++ leBytes 1 g.block ++ leBytes 1 reason)
  rw [endGrant_eq, hg, hi, grantGone_mbx]
  exact ⟨rfl, rfl⟩

/-- The words that the end of a grant may change. -/
theorem endGrant_regsKeep (s : State) (g : Grant) (reason : Nat) :
    s.regsKeep (s.endGrant g reason) (R.MBX_HSTAT :: R.MBX_GRANT_STATUS :: eventRegs ++ errRegs mbxBase) := by
  intro a ha
  rw [List.cons_append, List.cons_append, List.mem_cons, List.mem_cons, not_or, not_or] at ha
  obtain ⟨hs, hg, he⟩ := ha
  rw [endGrant_eq, notify_get _ _ _ _ he, grantGone, logEvent_get _ _ _ _ _ fun h => he (List.mem_append_left _ h),
    grantStatus_regsKeep _ a (by simp [hs, hg]), modMbx_get]

/-- With room for its notification, the end of a grant is the event 0x0307 and HALLPASS_END (R99, R105). -/
theorem endGrant_reported (s : State) (g : Grant) (reason : Nat) (h : (s.port 0).notifs.length < 16) :
    s.logged (s.endGrant g reason) 0x0307 1 g.block reason ∧
      ((s.endGrant g reason).port 0).notifs = (s.port 0).notifs ++
        [mkMessage 0x63 1 (s.port 0).nseq (leBytes 4 g.num ++ leBytes 1 g.block ++ leBytes 1 reason)] := by
  have hport : (s.grantGone g reason).port 0 = s.port 0 := by rw [port, port, grantGone_mbx]
  rw [endGrant_eq, notify_room (by rwa [hport]), port_modPort, hport]
  refine ⟨logged_congr (by rw [modPort_evr]) ?_, rfl⟩
  exact logged_logEvent (by rw [grantStatus_evr]; rfl) (by rw [grantStatus_tb]; rfl) _ _ _ _

/-! ### The end of the grants whose time has run out (R105) -/

theorem endAll_grants (l : List Grant) (s : State) :
    (l.foldl (fun s g => s.endGrant g 1) s).mbx.grants = s.mbx.grants.filter (fun x => l.all fun g => x.num != g.num) ∧
      (l.foldl (fun s g => s.endGrant g 1) s).mbx.issued = s.mbx.issued := by
  induction l generalizing s with
  | nil => simp
  | cons g l ih =>
    obtain ⟨hg, hi⟩ := s.endGrant_grants g 1
    obtain ⟨ihg, ihi⟩ := ih (s.endGrant g 1)
    rw [List.foldl_cons, ihg, ihi, hg, hi, List.filter_filter]
    exact ⟨List.filter_congr fun x _ => by rw [List.all_cons, Bool.and_comm], rfl⟩

theorem expireGrants_live (s : State) {g : Grant} (h : g ∈ s.expireGrants.mbx.grants) : s.tb.toNat < g.endTick := by
  rw [expireGrants, forEach, (endAll_grants _ s).1, List.mem_filter, List.all_eq_true] at h
  obtain ⟨hg, hne⟩ := h
  by_contra hle
  have := hne g (List.mem_filter.mpr ⟨hg, decide_eq_true (Nat.le_of_not_lt hle)⟩)
  simp at this

theorem expireGrants_issued (s : State) : s.expireGrants.mbx.issued = s.mbx.issued := (endAll_grants _ s).2

/-- Where every grant is live, none ends. -/
theorem expireGrants_none {s : State} (h : s.liveGrants = s.mbx.grants) : s.expireGrants = s := by
  have hnone : (s.mbx.grants.filter fun g => decide (g.endTick ≤ s.tb.toNat)) = [] := by
    refine List.filter_eq_nil_iff.mpr fun g hg => ?_
    have := List.filter_eq_self.mp h g hg
    simp only [decide_eq_true_eq] at this ⊢
    omega
  rw [expireGrants, hnone]
  rfl

theorem expireGrants_kept (s : State) : s.expireGrants.tb = s.tb ∧ s.expireGrants.lec = s.lec ∧ s.expireGrants.fw = s.fw ∧
    s.expireGrants.dram = s.dram ∧ (s.expireGrants.port 0).seqs = (s.port 0).seqs :=
  ⟨foldl_keeps tb (fun u g => by simp) _ s, foldl_keeps State.lec (fun u g => by simp) _ s, foldl_keeps State.fw (fun u g => by simp) _ s,
    foldl_keeps State.dram (fun u g => by simp) _ s,
    foldl_keeps (fun u => (u.port 0).seqs) (fun u g => ((Steady.refl u).endGrant (g := g) (reason := 1)).seqs 0) _ s⟩

/-! ### A new grant (R105) -/

theorem le_foldl_max {l : List Nat} {m x : Nat} (h : x ≤ m ∨ x ∈ l) : x ≤ l.foldl max m := by
  induction l generalizing m with
  | nil => exact h.resolve_right List.not_mem_nil
  | cons y l ih =>
    refine ih ?_
    rcases h with h | h
    · exact .inl (Nat.le_trans h (Nat.le_max_left ..))
    · rcases List.mem_cons.mp h with rfl | h
      · exact .inl (Nat.le_max_right ..)
      · exact .inr h

/-- The number of the next grant: what the implementation picks, made fresh and not zero. -/
def freshNumber (s : State) : Nat :=
  let pick := (Config.grantNumber s.free).toNat
  if pick = 0 ∨ s.mbx.issued.contains pick then s.mbx.issued.foldl max 0 + 1 else pick

theorem freshNumber_fresh (s : State) : s.freshNumber ≠ 0 ∧ s.freshNumber ∉ s.mbx.issued := by
  unfold freshNumber
  extract_lets pick
  split
  · refine ⟨Nat.succ_ne_zero _, fun h => ?_⟩
    have := le_foldl_max (m := 0) (.inr h)
    omega
  · next h =>
    simp only [not_or, List.contains_iff_mem] at h
    exact h

/-- Seconds granted: those asked for, 10 where none are (R105). -/
def grantTime (dur : Nat) : Nat := if dur = 0 then 10 else dur

/-- The grant that a state with no expired grant gives. -/
def nextGrant (s : State) (blk dur : Nat) : Grant := ⟨s.freshNumber, blk, s.tb.toNat + 32768 * grantTime dur⟩

/-- A state with no expired grant gives a grant: the list, the numbers issued, the status and event 0x0306. -/
def giveGrant (s : State) (blk dur : Nat) : State :=
  ((s.nextFree.modMbx fun _ => { s.mbx with grants := s.mbx.grants ++ [s.nextGrant blk dur],
                                             issued := s.mbx.issued ++ [s.freshNumber] }).grantStatus).logEvent 0x0306 1 blk 0

/-- A request clashes: eight grants are live, or one of them overlaps it (R105). -/
def grantClash (s : State) (blk : Nat) : Bool :=
  decide (8 ≤ s.liveGrants.length) || s.liveGrants.any fun g => covers g.block blk || covers blk g.block

/-- The payload of a plain HALLPASS_REQ. -/
def grantPayload (blk dur : Nat) : List Byte := leBytes 1 blk ++ [0] ++ leBytes 2 dur ++ [0, 0, 0, 0]

theorem hallpassReq_plain (u : State) {blk dur : Nat} (hb : blk < 256) (hid : blockId blk = true) (hd : dur ≤ 600) :
    u.hallpassReq (grantPayload blk dur) =
      if u.grantClash blk then refuse u stBUSY 0
      else ⟨u.expireGrants.giveGrant blk dur, stOK, 0, leBytes 4 u.expireGrants.freshNumber ++ leBytes 2 (grantTime dur)⟩ := by
  have h0 : byteAt (grantPayload blk dur) 0 = blk := by simp [grantPayload, leBytes, byteAt]; omega
  have h1 : byteAt (grantPayload blk dur) 1 = 0 := rfl
  have h2 : le16 (grantPayload blk dur) 2 = dur := by simp [grantPayload, leBytes, byteAt, le16]; omega
  have h4 : le32 (grantPayload blk dur) 4 = 0 := rfl
  have hlen : (grantPayload blk dur).length = 8 := rfl
  have htime : ¬ 600 < grantTime dur := by unfold grantTime; split <;> omega
  unfold hallpassReq
  rw [h0, h1, h2, h4, hlen]
  extract_lets blk' ext time num v pick fresh m w
  rw [if_neg (by decide), if_neg (by simpa [blk', hid, time, ext, num, grantTime] using htime), if_neg (by decide)]
  rfl

theorem giveGrant_mbx (s : State) (blk dur : Nat) : (s.giveGrant blk dur).mbx =
    { s.mbx with grants := s.mbx.grants ++ [s.nextGrant blk dur], issued := s.mbx.issued ++ [s.freshNumber] } := by
  rw [giveGrant, logEvent_mbx, grantStatus_mbx]
  rfl

theorem giveGrant_regsKeep (s : State) (blk dur : Nat) :
    s.regsKeep (s.giveGrant blk dur) (R.MBX_HSTAT :: R.MBX_GRANT_STATUS :: eventRegs) := by
  intro a ha
  rw [List.mem_cons, List.mem_cons, not_or, not_or] at ha
  obtain ⟨hs, hg, he⟩ := ha
  rw [giveGrant, logEvent_get _ _ _ _ _ he, grantStatus_regsKeep _ a (by simp [hs, hg]), modMbx_get, nextFree_get]

theorem giveGrant_logged (s : State) (blk dur : Nat) : s.logged (s.giveGrant blk dur) 0x0306 1 blk 0 :=
  logged_logEvent (by rw [grantStatus_evr]; rfl) (by rw [grantStatus_tb]; rfl) _ _ _ _

theorem opened_liveGrants (s : State) (p : Fin 3) (mb : Fin 6) (q : Nat) : (s.opened p mb q).liveGrants = s.liveGrants := by
  rw [liveGrants, liveGrants, (opened_mbx_grants ..).1, opened_tb]

/-! ### The commands -/

/-- HALLPASS_REQ that clashes. -/
theorem hallpassReq_busy {s : State} {mb : Fin 6} {flags seq blk dur : Nat} (a : s.Asks 0 mb 0x80 flags seq (grantPayload blk dur))
    (hb : blk < 256) (hid : blockId blk = true) (hd : dur ≤ 600) (hmax : 10 ≤ s.maxPay 0) (hc : s.grantClash blk = true) :
    s.replies (s.serve 0 mb (· == 0x80) fun s _ pl => s.hallpassReq pl) 0 mb 0x80 seq stBUSY s.fw := by
  have hreq : (s.opened 0 mb seq).hallpassReq (grantPayload blk dur) = ⟨s.opened 0 mb seq, stBUSY, 0, []⟩ := by
    rw [hallpassReq_plain _ hb hid hd, grantClash, opened_liveGrants]
    exact if_pos hc
  have hserve := serve_ok a (· == 0x80) rfl (fun s _ pl => s.hallpassReq pl) rfl (by rw [hreq]; exact Nat.le_trans (show 4 ≤ 10 by decide) hmax)
  rw [hserve, hreq]
  exact replies_closed s 0 mb flags seq (by decide) (by decide)

/-- What a new grant leaves, in the terms of R105. -/
structure Granted (s t : State) (mb : Fin 6) (seq blk dur num : Nat) : Prop where
  answer : t.answered 0 mb 0x80 seq stOK 0 (leBytes 4 num ++ leBytes 2 (grantTime dur))
  given : (⟨num, blk, s.tb.toNat + 32768 * grantTime dur⟩ : Grant) ∈ t.mbx.grants
  live : ∀ g ∈ t.mbx.grants, s.tb.toNat < g.endTick
  fresh : num ≠ 0 ∧ num ∉ s.mbx.issued
  issued : t.mbx.issued = s.mbx.issued ++ [num]
  kept : t.fw = s.fw ∧ t.dram = s.dram ∧ t.lec = s.lec
  alone : s.liveGrants = s.mbx.grants → t.mbx.grants = s.mbx.grants ++ [⟨num, blk, s.tb.toNat + 32768 * grantTime dur⟩] ∧
    s.logged t 0x0306 1 blk 0 ∧ s.regsKeep t (R.MBX_HSTAT :: R.MBX_GRANT_STATUS :: eventRegs)

/-- HALLPASS_REQ that does not clash: the expired grants end, and the grant is given. -/
theorem hallpassReq_granted {s : State} {mb : Fin 6} {flags seq blk dur : Nat} (a : s.Asks 0 mb 0x80 flags seq (grantPayload blk dur))
    (hb : blk < 256) (hid : blockId blk = true) (hd : dur ≤ 600) (hmax : 10 ≤ s.maxPay 0) (hc : s.grantClash blk = false) :
    ∃ num, s.Granted (s.serve 0 mb (· == 0x80) fun s _ pl => s.hallpassReq pl) mb seq blk dur num := by
  generalize hu : s.opened 0 mb seq = u
  have hlive : u.liveGrants = s.liveGrants := hu ▸ s.opened_liveGrants ..
  obtain ⟨hgrants, hissued⟩ : u.mbx.grants = s.mbx.grants ∧ u.mbx.issued = s.mbx.issued := hu ▸ s.opened_mbx_grants ..
  generalize hv : u.expireGrants = v
  obtain ⟨htb, hlec, hfw, hdram, hseqs⟩ := hv ▸ u.expireGrants_kept
  have hreq : u.hallpassReq (grantPayload blk dur) =
      ⟨v.giveGrant blk dur, stOK, 0, leBytes 4 v.freshNumber ++ leBytes 2 (grantTime dur)⟩ := by
    rw [hallpassReq_plain _ hb hid hd, hv]
    exact if_neg (by rw [grantClash, hlive]; simpa [grantClash] using hc)
  have hseq : sget (fun _ => none) ((v.giveGrant blk dur).port 0).seqs mb.val = some ⟨seq, []⟩ := by
    rw [port, giveGrant_mbx]
    exact (congrArg (sget _ · _) hseqs).trans (hu ▸ s.opened_seqs 0 mb seq)
  obtain ⟨hserve, hans⟩ := ok_answer a (· == 0x80) rfl (fun s _ pl => s.hallpassReq pl) rfl (hu ▸ hreq)
    (by simpa using hmax) hseq
  rw [hserve] at hans ⊢
  generalize hw : closed _ _ = t at hans ⊢
  obtain ⟨hg, hi⟩ : t.mbx.grants = v.mbx.grants ++ [v.nextGrant blk dur] ∧ t.mbx.issued = v.mbx.issued ++ [v.freshNumber] := by
    rw [← hw, (closed_grants ..).1, (closed_grants ..).2, giveGrant_mbx]
    exact ⟨rfl, rfl⟩
  have htick : v.tb = s.tb := by rw [htb, ← hu, opened_tb]
  have hnum : v.mbx.issued = s.mbx.issued := by rw [← hv, expireGrants_issued, hissued]
  have hnext : v.nextGrant blk dur = ⟨v.freshNumber, blk, s.tb.toNat + 32768 * grantTime dur⟩ := by rw [nextGrant, htick]
  refine ⟨v.freshNumber, hans, ?_, fun g hm => ?_, hnum ▸ v.freshNumber_fresh, hnum ▸ hi, ⟨?_, ?_, ?_⟩, fun hall => ?_⟩
  · rw [hg, hnext]
    exact List.mem_append_right _ (.head _)
  · rw [hg, hnext, List.mem_append, List.mem_singleton] at hm
    rcases hm with hm | rfl
    · have := u.expireGrants_live (g := g) (by rwa [hv])
      rwa [← hu, opened_tb] at this
    · have : 0 < grantTime dur := by unfold grantTime; split <;> omega
      dsimp only
      omega
  · rw [← hw, closed_fw, giveGrant, logEvent_fw, grantStatus_fw]
    exact hfw.trans (by rw [← hu, opened_fw])
  · rw [← hw, closed_dram, giveGrant, logEvent_dram, grantStatus_dram]
    exact hdram.trans (by rw [← hu, opened_dram])
  · rw [← hw, closed_lec, giveGrant, logEvent_lec, grantStatus_lec]
    exact hlec.trans (by rw [← hu, opened_lec])
  · have hvu : v = u := hv ▸ expireGrants_none (by rw [hlive, hall, hgrants])
    refine ⟨by rw [hg, hnext, hvu, hgrants], logged_congr (t := v.giveGrant blk dur) (by rw [← hw, closed_evr]) ?_, fun x hx => ?_⟩
    · have hlog := v.giveGrant_logged blk dur
      have hevr : v.evr = s.evr := by rw [hvu, ← hu, opened_evr]
      rwa [logged, hevr, htick] at hlog
    · have hne : x ≠ R.MBX_HSTAT ∧ x ≠ R.MBX_IRQ_STATUS := ⟨fun e => hx (by simp [e]), fun e => hx (by simp [e, eventRegs])⟩
      rw [← hw, closed_get _ _ hne.1 hne.2 (.inr (.inr rfl)), giveGrant_regsKeep _ _ _ x hx, hvu, ← hu, opened_get _ _ _ _ hne.1]

theorem le32_leBytes {v : Nat} (h : v < 2 ^ 32) : le32 (leBytes 4 v) 0 = v := by
  simp [leBytes, byteAt, le16, le32]
  omega

/-- HALLPASS_RETURN of a live grant. -/
theorem hallpassReturn_live {s : State} {mb : Fin 6} {flags seq num : Nat} {g : Grant} (a : s.Asks 0 mb 0x81 flags seq (leBytes 4 num))
    (hn : num < 2 ^ 32) (hg : s.liveGrant num = some g) :
    let t := s.serve 0 mb (· == 0x81) fun s _ pl => s.hallpassReturn pl
    t.answered 0 mb 0x81 seq stOK 0 [] ∧ t.mbx.grants = s.mbx.grants.filter (fun x => x.num != num) ∧ t.fw = s.fw ∧ t.dram = s.dram ∧
      ((s.port 0).notifs.length < 16 → s.logged t 0x0307 1 g.block 2 ∧ (t.port 0).notifs = (s.port 0).notifs ++
        [mkMessage 0x63 1 (s.port 0).nseq (leBytes 4 num ++ leBytes 1 g.block ++ leBytes 1 2)]) := by
  have hnum : g.num = num := by
    have := List.find?_some hg
    simp only [Bool.and_eq_true, beq_iff_eq] at this
    exact this.1
  generalize hu : s.opened 0 mb seq = u
  have hret : (s.opened 0 mb seq).hallpassReturn (leBytes 4 num) = ⟨u.endGrant g 2, stOK, 0, []⟩ := by
    have hlive : u.liveGrant num = some g := by
      rw [← hg, liveGrant, liveGrant, ← hu, (opened_mbx_grants ..).1, opened_tb]
    unfold hallpassReturn
    rw [hu, le32_leBytes hn, hlive]
    rfl
  have hseq : sget (fun _ => none) ((u.endGrant g 2).port 0).seqs mb.val = some ⟨seq, []⟩ := by
    rw [((Steady.refl u).endGrant (g := g) (reason := 2)).seqs 0, ← hu, opened_seqs]
  obtain ⟨hserve, hans⟩ := ok_answer a (· == 0x81) rfl (fun s _ pl => s.hallpassReturn pl) rfl hret
    (by have := a.max; simpa using this) hseq
  intro t
  have ht : t = _ := hserve
  refine ⟨hans, ?_, ?_, ?_, fun hroom => ?_⟩
  · rw [ht, (closed_grants ..).1, (endGrant_grants ..).1, ← hu, (opened_mbx_grants ..).1, hnum]
  · rw [ht, closed_fw, endGrant_fw, ← hu, opened_fw]
  · rw [ht, closed_dram, endGrant_dram, ← hu, opened_dram]
  · have hq : (u.port 0).notifs = (s.port 0).notifs ∧ (u.port 0).nseq = (s.port 0).nseq := by
      rw [← hu, opened, setFrag, port_modPort, port_modPort, take_port, if_pos rfl]
      exact ⟨rfl, rfl⟩
    obtain ⟨hlog, hnotif⟩ := u.endGrant_reported g 2 (by rwa [hq.1])
    refine ⟨logged_congr (t := u.endGrant g 2) (by rw [ht, closed_evr]) ?_, ?_⟩
    · rwa [logged, ← hu, opened_evr, opened_tb, hu] at hlog
    · rw [ht, closed_notifs_ok _ rfl, hnotif, hq.1, hq.2, hnum]

end State

/-- Settles O30: a request that does not clash ends the expired grants and gives the next one; a returned and an expired grant
end by `State.endGrant`. -/
theorem hallPassGrants : Obligations.HallPassGrants := by
  refine ⟨?_, fun mb flags seq num g s a hn hg => ⟨_, rfl, hallpassReturn_live a hn hg⟩, fun num g s hg => ?_⟩
  · intro mb flags seq blk dur s a hb hid hd hmax clash d
    refine ⟨_, rfl, fun hc => hallpassReq_busy a hb hid hd hmax hc, fun hc => ?_⟩
    obtain ⟨num, ⟨hans, hgiven, hlive, ⟨hne, hnew⟩, hissued, ⟨hfw, hdram, hlec⟩, halone⟩⟩ := hallpassReq_granted a hb hid hd hmax hc
    exact ⟨num, hans, hgiven, hlive, hne, hnew, hissued, hfw, hdram, hlec, halone⟩
  · have hnum : g.num = num := by
      have := List.find?_some hg
      simp only [Bool.and_eq_true, beq_iff_eq] at this
      exact this.1
    have hexec : exec (.hallpassExpiry num) s = .next (s.endGrant g 1) := by
      change Host.Outcome.next _ = _
      rw [hg]
    refine ⟨_, hexec, hnum ▸ (s.endGrant_grants g 1).1, by simp, by simp, by simp, s.endGrant_regsKeep g 1, fun hroom => ?_⟩
    exact hnum ▸ s.endGrant_reported g 1 hroom

end Sys2Proof.Machine
end

section
/-! SUPPORT. Hard mask entries: what an accepted record, a lifetime that ends and a missing acknowledgement change, and what a
dropped record reports (R109, R220, R221, R225, R230, R237). -/

set_option Elab.async false

namespace Sys2Proof.Machine
open State

/-! ### The words that changes of the hard entries leave -/

/-- A word of the mailboxes (R12), of the hard entries of channel n, or MSK_LAST. -/
def EntryWord (n : Fin 4) (a : Nat) : Prop :=
  (0x40060000 ≤ a ∧ a < 0x40070000) ∨ (lecBase n + 0xC800 ≤ a ∧ a < lecBase n + 0xD000) ∨ a = R.MSK_LAST n

/-- A word of the entry of slot k. -/
def SlotWord (n : Fin 4) (k a : Nat) : Prop := lecBase n + 0xC800 + 0x20 * k ≤ a ∧ a < lecBase n + 0xC820 + 0x20 * k

/-- The words that a new GEN of slot k leaves. -/
def BesideGen (n : Fin 4) (k a : Nat) : Prop := EntryWord n a ∧ a ≠ R.MSK_HSs n k ∧ a ≠ R.MSK_LAST n

/-- The words that a change of the entry of slot k leaves. -/
def BesideSlot (n : Fin 4) (k a : Nat) : Prop := EntryWord n a ∧ ¬ SlotWord n k a ∧ a ≠ R.MSK_LAST n

theorem slotWord_words (n : Fin 4) (k : Nat) : (∀ w < 4, SlotWord n k (R.MSK_HMs n k w)) ∧ SlotWord n k (R.MSK_HSs n k) ∧
    SlotWord n k (R.MSK_HRs n k) := by
  unfold SlotWord R.MSK_HMs R.MSK_HSs R.MSK_HRs
  exact ⟨fun w hw => by omega, by omega, by omega⟩

theorem SlotWord.entry {n : Fin 4} {k a : Nat} (h : SlotWord n k a) (hk : k < 64) : EntryWord n a := by
  unfold SlotWord at h
  exact .inr (.inl (by omega))

theorem SlotWord.ne_last {n : Fin 4} {k a : Nat} (h : SlotWord n k a) : a ≠ R.MSK_LAST n := by
  unfold SlotWord at h
  unfold R.MSK_LAST
  omega

/-- A word of another slot's entry. -/
theorem SlotWord.beside {n : Fin 4} {j k a : Nat} (h : SlotWord n j a) (hj : j < 64) (hne : j ≠ k) : BesideSlot n k a := by
  refine ⟨h.entry hj, fun hs => ?_, h.ne_last⟩
  unfold SlotWord at h hs
  omega

/-- A word of the slot's entry but its GEN. -/
theorem SlotWord.besideGen {n : Fin 4} {k a : Nat} (h : SlotWord n k a) (hk : k < 64) (hne : a ≠ R.MSK_HSs n k) : BesideGen n k a :=
  ⟨h.entry hk, hne, h.ne_last⟩

theorem besideGen_of_slot {n : Fin 4} {k a : Nat} (h : BesideSlot n k a) : BesideGen n k a :=
  ⟨h.1, fun e => h.2.1 (e ▸ (slotWord_words n k).2.1), h.2.2⟩

theorem besideSlot_mailbox (n : Fin 4) (k : Nat) {a : Nat} (h : 0x40060000 ≤ a ∧ a < 0x40070000) : BesideSlot n k a := by
  refine ⟨.inl h, fun hs => ?_, ?_⟩
  · unfold SlotWord lecBase at hs
    omega
  · unfold R.MSK_LAST lecBase
    omega

/-- MSK_STATUS and MSK_CNT are none of these words. -/
theorem not_entryWord (n : Fin 4) : ¬ EntryWord n (R.MSK_STATUS n) ∧ ¬ EntryWord n (R.MSK_CNT n) := by
  unfold EntryWord R.MSK_STATUS R.MSK_CNT R.MSK_LAST lecBase
  omega

/-! ### What the operations of a mask unit leave -/

/-- What the operations of a channel's mask unit leave: some words, the recorder, DRAM, and the changes that wait for the next
frame start. -/
structure State.MaskKeeps (n : Fin 4) (W : Nat → Prop) (s t : State) : Prop where
  word : ∀ a, W a → t.get a = s.get a
  evr : t.evr = s.evr
  dram : t.dram = s.dram
  arrived : (t.ch n).mask.arrived = (s.ch n).mask.arrived

namespace State.MaskKeeps

variable {n : Fin 4} {W V : Nat → Prop} {s t u : State}

theorem refl (s : State) : MaskKeeps n W s s := ⟨fun _ _ => rfl, rfl, rfl, rfl⟩
theorem trans (h : MaskKeeps n W s t) (k : MaskKeeps n W t u) : MaskKeeps n W s u :=
  ⟨fun a ha => (k.word a ha).trans (h.word a ha), k.evr.trans h.evr, k.dram.trans h.dram, k.arrived.trans h.arrived⟩
theorem mono (h : MaskKeeps n W s t) (hV : ∀ a, V a → W a) : MaskKeeps n V s t :=
  ⟨fun a ha => h.word a (hV a ha), h.evr, h.dram, h.arrived⟩
theorem rd (h : MaskKeeps n W s t) {f : Fld} (hf : W f.addr) : t.rd f = s.rd f := rd_congr (h.word _ hf)

theorem ite {c : Prop} {_ : Decidable c} (h : MaskKeeps n W s t) (k : MaskKeeps n W s u) : MaskKeeps n W s (if c then t else u) := by
  split
  · exact h
  · exact k
theorem put (h : MaskKeeps n W s t) {a v : Nat} (ha : ¬ W a) : MaskKeeps n W s (t.put a v) :=
  h.trans ⟨fun _ hx => get_put_ne _ _ (by rintro rfl; exact ha hx), rfl, rfl, rfl⟩
theorem wr (h : MaskKeeps n W s t) (f : Fld) {v : Nat} (ha : ¬ W f.addr) : MaskKeeps n W s (t.wr f v) := h.put ha
theorem modCh (h : MaskKeeps n W s t) {f : Lec → Lec} (hf : ∀ c, (f c).mask.arrived = c.mask.arrived := by exact fun _ => rfl) :
    MaskKeeps n W s (t.modCh n f) := h.trans ⟨fun _ _ => rfl, rfl, rfl, by rw [ch_modCh, hf]⟩
theorem modMask (h : MaskKeeps n W s t) {f : MaskRun → MaskRun} (hf : ∀ m, (f m).arrived = m.arrived := by exact fun _ => rfl) :
    MaskKeeps n W s (t.modMask n f) := h.modCh fun c => hf c.mask

theorem mskStatus (h : MaskKeeps n (EntryWord n) s t) : MaskKeeps n (EntryWord n) s (t.mskStatus n) :=
  (h.wr (F.MSK_STATUS_LIVE n) (not_entryWord n).1).wr (F.MSK_STATUS_UNACKED n) (not_entryWord n).1
theorem send (h : MaskKeeps n W s t) {typ : Nat} {payload : List Byte} : MaskKeeps n W s (t.send n typ payload) :=
  ite h h.modCh
theorem sendHard (h : MaskKeeps n (EntryWord n) s t) {k : Nat} : MaskKeeps n (EntryWord n) s (t.sendHard n k) :=
  ite h (ite (h.send.wr (F.MSK_CNT_PACKETS n) (not_entryWord n).2).modMask h.modMask)
theorem queueReload (h : MaskKeeps n (EntryWord n) s t) {k : Nat} : MaskKeeps n (EntryWord n) s (t.queueReload n k) := by
  unfold State.queueReload
  dsimp only
  split
  · split
    · exact h
    · exact h.modMask.wr (F.MSK_STATUS_RELOADING n) (not_entryWord n).1
  · exact h
theorem replayReload (h : MaskKeeps n (EntryWord n) s t) {k : Nat} : MaskKeeps n (EntryWord n) s (t.replayReload n k) := ite h.queueReload h

/-- What ends a change of GEN: its packet and the counts of MSK_STATUS. -/
theorem signalled (h : MaskKeeps n W s t) (hW : ∀ a, W a → EntryWord n a) {k : Nat} : MaskKeeps n W s ((t.sendHard n k).mskStatus n) :=
  h.trans ((refl t).sendHard.mskStatus.mono hW)

/-- A new GEN touches only its word and MSK_LAST. -/
theorem hardChanged (h : MaskKeeps n (BesideGen n k) s t) {cause : Nat} : MaskKeeps n (BesideGen n k) s (t.hardChanged n k cause) := by
  have hgen : ¬ BesideGen n k (R.MSK_HSs n k) := fun hb => hb.2.1 rfl
  have hlast : ¬ BesideGen n k (R.MSK_LAST n) := fun hb => hb.2.2 rfl
  exact ((((h.wr (F.MSK_HSs_GEN n k) hgen).wr (F.MSK_LAST_SLOT n) hlast).wr (F.MSK_LAST_GEN n) hlast).wr
    (F.MSK_LAST_CAUSE n) hlast).modMask.signalled fun _ ha => ha.1

end State.MaskKeeps

namespace State

/-! ### A hard entry changes (R230, R237) -/

/-- The entry of slot k changes: its next GEN, its LIVE bit, the cause in MSK_LAST, and nothing outside the entry. -/
structure EntryChange (n : Fin 4) (k : Nat) (live : Bool) (cause : Nat) (s t : State) : Prop where
  keeps : MaskKeeps n (BesideSlot n k) s t
  gen : t.rd (F.MSK_HSs_GEN n k) = (s.rd (F.MSK_HSs_GEN n k) + 1) % 256
  live_eq : t.hardLive n k = live
  cause_eq : t.rd (F.MSK_LAST_CAUSE n) = cause % 8

theorem hardRec_congr {s t : State} {n : Fin 4} {k : Nat} (h : ∀ a, SlotWord n k a → t.get a = s.get a) :
    t.hardRec n k = s.hardRec n k := by
  have hrec := (slotWord_words n k).1
  rw [hardRec, hardRec, h _ (hrec 0 (by decide)), h _ (hrec 1 (by decide)), h _ (hrec 2 (by decide)), h _ (hrec 3 (by decide))]

namespace EntryChange

variable {n : Fin 4} {k cause : Nat} {live : Bool} {s t u : State}

/-- A preparation that leaves GEN. -/
theorem after (c : EntryChange n k live cause u t) (h : MaskKeeps n (BesideSlot n k) s u)
    (hg : u.rd (F.MSK_HSs_GEN n k) = s.rd (F.MSK_HSs_GEN n k)) : EntryChange n k live cause s t :=
  ⟨h.trans c.keeps, hg ▸ c.gen, c.live_eq, c.cause_eq⟩

theorem after_entries (c : EntryChange n k live cause u t) (h : MaskKeeps n (EntryWord n) s u) (hk : k < 64) :
    EntryChange n k live cause s t :=
  c.after (h.mono fun _ ha => ha.1) (h.rd ((slotWord_words n k).2.1.entry hk))

/-- The entries of the other slots. -/
theorem others (c : EntryChange n k live cause s t) {j : Nat} (hj : j < 64) (hne : j ≠ k) :
    t.hardLive n j = s.hardLive n j ∧ t.hardRec n j = s.hardRec n j := by
  have hw : ∀ a, SlotWord n j a → t.get a = s.get a := fun a ha => c.keeps.word a (ha.beside hj hne)
  exact ⟨on_congr (rd_congr (hw _ (slotWord_words n j).2.1)), hardRec_congr hw⟩

end EntryChange

theorem hardChanged_change (s : State) (n : Fin 4) {k : Nat} (cause : Nat) (hk : k < 64) :
    EntryChange n k (s.hardLive n k) cause s (s.hardChanged n k cause) := by
  have hs := (slotWord_words n k).2.1
  have hl : EntryWord n (R.MSK_LAST n) := .inr (.inr rfl)
  generalize hu : s.incWrap (F.MSK_HSs_GEN n k) = u
  generalize hv : (((u.wr (F.MSK_LAST_SLOT n) k).wr (F.MSK_LAST_GEN n) (u.rd (F.MSK_HSs_GEN n k))).wr (F.MSK_LAST_CAUSE n) cause) = v
  have hend : MaskKeeps n (EntryWord n) v (s.hardChanged n k cause) := by
    rw [← hv, ← hu]
    exact (MaskKeeps.refl _).modMask.sendHard.mskStatus
  have hslot : ∀ f : Fld, f.addr = R.MSK_HSs n k → v.rd f = u.rd f := fun f hf => by
    have hf' : f.addr ≠ R.MSK_LAST n := hf ▸ hs.ne_last
    rw [← hv, rd_wr_ne _ _ hf', rd_wr_ne _ _ hf', rd_wr_ne _ _ hf']
  refine ⟨((MaskKeeps.refl s).hardChanged).mono fun a => besideGen_of_slot, ?_, ?_, ?_⟩
  · rw [hend.rd (hs.entry hk), hslot _ rfl, ← hu]
    exact rd_incWrap _ (show 0 + 8 ≤ 32 by decide)
  · rw [hardLive, on_congr (hend.rd (hs.entry hk)), on_congr (hslot _ rfl), ← hu]
    exact on_incWrap_apart _ (by simp [apart, F.MSK_HSs_GEN, F.MSK_HSs_LIVE])
  · rw [hend.rd hl, ← hv]
    exact rd_wr _ _ (show 16 + 3 ≤ 32 by decide)

/-! ### An entry is emptied (R221, R225) -/

/-- Another word of the entry outlasts the new GEN. -/
theorem hardChanged_word (s : State) {n : Fin 4} {k a : Nat} (cause : Nat) (hk : k < 64) (h : SlotWord n k a) (hne : a ≠ R.MSK_HSs n k) :
    (s.hardChanged n k cause).get a = s.get a := ((MaskKeeps.refl s).hardChanged).word a (h.besideGen hk hne)

theorem hmWord_ne (n : Fin 4) (k : Nat) {w : Nat} (hw : w < 4) : R.MSK_HMs n k w ≠ R.MSK_HSs n k ∧ R.MSK_HMs n k w ≠ R.MSK_HRs n k ∧
    R.MSK_HRs n k ≠ R.MSK_HSs n k ∧ ∀ x, x ≠ w → R.MSK_HMs n k w ≠ R.MSK_HMs n k x := by
  unfold R.MSK_HMs R.MSK_HSs R.MSK_HRs
  exact ⟨by omega, by omega, by omega, fun x hx => by omega⟩

/-- The four record words of an entry are written. -/
def putRecord (s : State) (n : Fin 4) (k : Nat) (f : Nat → Nat) : State :=
  [0, 1, 2, 3].foldl (fun s w => s.put (R.MSK_HMs n k w) (f w)) s

theorem putRecord_other (s : State) {n : Fin 4} {k a : Nat} (f : Nat → Nat) (ha : ∀ w < 4, R.MSK_HMs n k w ≠ a) :
    (s.putRecord n k f).get a = s.get a := by
  unfold putRecord
  simp only [List.foldl_cons, List.foldl_nil]
  rw [get_put_ne _ _ (ha 3 (by decide)).symm, get_put_ne _ _ (ha 2 (by decide)).symm, get_put_ne _ _ (ha 1 (by decide)).symm,
    get_put_ne _ _ (ha 0 (by decide)).symm]

theorem putRecord_word (s : State) (n : Fin 4) (k : Nat) (f : Nat → Nat) {w : Nat} (hw : w < 4) :
    (s.putRecord n k f).get (R.MSK_HMs n k w) = f w % 2 ^ 32 := by
  have hne := (hmWord_ne n k hw).2.2.2
  unfold putRecord
  simp only [List.foldl_cons, List.foldl_nil]
  obtain rfl | rfl | rfl | rfl : w = 0 ∨ w = 1 ∨ w = 2 ∨ w = 3 := by omega
  · rw [get_put_ne _ _ (hne 3 (by decide)), get_put_ne _ _ (hne 2 (by decide)), get_put_ne _ _ (hne 1 (by decide)), get_put_self]
  · rw [get_put_ne _ _ (hne 3 (by decide)), get_put_ne _ _ (hne 2 (by decide)), get_put_self]
  · rw [get_put_ne _ _ (hne 3 (by decide)), get_put_self]
  · rw [get_put_self]

theorem not_besideSlot {n : Fin 4} {k a : Nat} (h : SlotWord n k a) : ¬ BesideSlot n k a := fun hb => hb.2.1 h

theorem putRecord_keeps {n : Fin 4} {k : Nat} {s t : State} (h : MaskKeeps n (BesideSlot n k) s t) (f : Nat → Nat) :
    MaskKeeps n (BesideSlot n k) s (t.putRecord n k f) := by
  have hrec := (slotWord_words n k).1
  exact (((h.put (not_besideSlot (hrec 0 (by decide)))).put (not_besideSlot (hrec 1 (by decide)))).put
    (not_besideSlot (hrec 2 (by decide)))).put (not_besideSlot (hrec 3 (by decide)))

/-- LIVE and REMAIN of an entry are written. -/
def putLife (s : State) (n : Fin 4) (k live remain : Nat) : State := (s.wr (F.MSK_HSs_LIVE n k) live).wr (F.MSK_HRs_REMAIN n k) remain

theorem putLife_keeps {n : Fin 4} {k : Nat} {s t : State} (h : MaskKeeps n (BesideSlot n k) s t) (live remain : Nat) :
    MaskKeeps n (BesideSlot n k) s (t.putLife n k live remain) :=
  (h.wr (F.MSK_HSs_LIVE n k) (not_besideSlot (slotWord_words n k).2.1)).wr (F.MSK_HRs_REMAIN n k) (not_besideSlot (slotWord_words n k).2.2)

theorem putLife_reads (s : State) (n : Fin 4) (k live remain : Nat) :
    (s.putLife n k live remain).rd (F.MSK_HSs_GEN n k) = s.rd (F.MSK_HSs_GEN n k) ∧
      (s.putLife n k live remain).rd (F.MSK_HSs_LIVE n k) = live % 2 ∧
      (s.putLife n k live remain).rd (F.MSK_HRs_REMAIN n k) = remain % 2 ^ 17 ∧
      ∀ w < 4, (s.putLife n k live remain).get (R.MSK_HMs n k w) = s.get (R.MSK_HMs n k w) := by
  have hne : R.MSK_HSs n k ≠ R.MSK_HRs n k := (hmWord_ne n k (w := 0) (by decide)).2.2.1.symm
  refine ⟨?_, ?_, rd_wr _ _ (show 0 + 17 ≤ 32 by decide), fun w hw => ?_⟩
  · exact (rd_wr_ne _ _ hne).trans (rd_wr_apart _ _ (by simp [apart, F.MSK_HSs_GEN, F.MSK_HSs_LIVE]))
  · exact (rd_wr_ne _ _ hne).trans (rd_wr _ _ (show 16 + 1 ≤ 32 by decide))
  · obtain ⟨h1, h2, -, -⟩ := hmWord_ne n k hw
    exact (get_wr_ne _ _ h2).trans (get_wr_ne _ _ h1)

theorem hardEmpty_change (s : State) (n : Fin 4) {k : Nat} (cause : Nat) (hk : k < 64) :
    EntryChange n k false cause s (s.hardEmpty n k cause) ∧ (s.hardEmpty n k cause).rd (F.MSK_HRs_REMAIN n k) = 0 := by
  obtain ⟨hgen, hlive, hremain, -⟩ := s.putLife_reads n k 0 0
  generalize hu : s.putLife n k 0 0 = u at hgen hlive hremain
  generalize hv : u.putRecord n k (fun _ => 0) = v
  have he : s.hardEmpty n k cause = v.hardChanged n k cause := by rw [← hv, ← hu]; rfl
  have hkeeps : MaskKeeps n (BesideSlot n k) s v := hv ▸ putRecord_keeps (hu ▸ putLife_keeps (MaskKeeps.refl s) 0 0) _
  have hHS : v.get (R.MSK_HSs n k) = u.get (R.MSK_HSs n k) := hv ▸ u.putRecord_other _ fun w hw => (hmWord_ne n k hw).1
  have hHR : v.get (R.MSK_HRs n k) = u.get (R.MSK_HRs n k) := hv ▸ u.putRecord_other _ fun w hw => (hmWord_ne n k hw).2.1
  have hdead : v.hardLive n k = false := by
    rw [hardLive, on, rd_congr hHS, hlive]
    rfl
  rw [he]
  refine ⟨(hdead ▸ v.hardChanged_change n cause hk).after hkeeps ((rd_congr hHS).trans hgen), ?_⟩
  rw [rd_congr (hardChanged_word _ _ hk (slotWord_words n k).2.2 (hmWord_ne n k (w := 0) (by decide)).2.2.1), rd_congr hHR, hremain,
    Nat.zero_mod]

/-! ### An entry is written (R220, R225) -/

theorem byteAt_lt (bs : List Byte) (i : Nat) : byteAt bs i < 256 := (bs.getD i 0).isLt
theorem le16_lt (bs : List Byte) (i : Nat) : le16 bs i < 65536 := by
  have h0 := byteAt_lt bs i
  have h1 := byteAt_lt bs (i + 1)
  unfold le16
  omega
theorem le32_lt (bs : List Byte) (i : Nat) : le32 bs i < 2 ^ 32 := by
  have h0 := le16_lt bs i
  have h1 := le16_lt bs (i + 2)
  unfold le32
  omega

/-- A 32-bit word of a byte list spells its four bytes. -/
theorem leBytes_le32 (bs : List Byte) (i : Nat) :
    leBytes 4 (le32 bs i) = [bs.getD i 0, bs.getD (i + 1) 0, bs.getD (i + 2) 0, bs.getD (i + 3) 0] := by
  simp only [leBytes, le32, le16, byteAt]
  generalize bs.getD i 0 = a
  generalize bs.getD (i + 1) 0 = b
  rw [show i + 2 + 1 = i + 3 from rfl]
  generalize bs.getD (i + 2) 0 = c
  generalize bs.getD (i + 3) 0 = d
  have ha := a.isLt
  have hb := b.isLt
  have hc := c.isLt
  have hd := d.isLt
  simp only [List.cons.injEq, and_true]
  refine ⟨BitVec.eq_of_toNat_eq ?_, BitVec.eq_of_toNat_eq ?_, BitVec.eq_of_toNat_eq ?_, BitVec.eq_of_toNat_eq ?_⟩
  all_goals
    rw [BitVec.toNat_ofNat]
    omega

/-- The four words of a record spell it. -/
theorem leBytes_record {r : List Byte} (h : r.length = 16) :
    leBytes 4 (le32 r 0) ++ leBytes 4 (le32 r 4) ++ leBytes 4 (le32 r 8) ++ leBytes 4 (le32 r 12) = r := by
  have hr : (List.range 16).map (fun i => r.getD i 0) = r := List.ext_getElem (by simp [h]) fun i _ h2 => by simp [h2]
  simp only [leBytes_le32]
  exact hr

theorem hardWrite_change (s : State) (n : Fin 4) (r : List Byte) (cause : Nat) :
    let k := byteAt r 1 % 64
    let t := s.hardWrite n r cause
    EntryChange n k true cause s t ∧
      (r.length = 16 → t.hardRec n k = r ∧ t.rd (F.MSK_HRs_REMAIN n k) = if lifetime r = 0 then 0 else lifetime r + 1) := by
  intro k t
  have hk : k < 64 := Nat.mod_lt _ (by decide)
  obtain ⟨hrec, -, hHRw⟩ := slotWord_words n k
  generalize hu : s.queueReload n k = u
  have hqueue : MaskKeeps n (EntryWord n) s u := hu ▸ (MaskKeeps.refl s).queueReload
  generalize hv : u.putRecord n k (fun w => le32 r (4 * w)) = v
  have hword : ∀ w < 4, v.get (R.MSK_HMs n k w) = le32 r (4 * w) := fun w hw => by
    rw [← hv, putRecord_word _ _ _ _ hw, Nat.mod_eq_of_lt (le32_lt ..)]
  have hHS : v.get (R.MSK_HSs n k) = u.get (R.MSK_HSs n k) := hv ▸ u.putRecord_other _ fun w hw => (hmWord_ne n k hw).1
  obtain ⟨hgen, hlive, hremain, hsame⟩ := v.putLife_reads n k 1 (if lifetime r = 0 then 0 else lifetime r + 1)
  generalize hw : v.putLife n k 1 (if lifetime r = 0 then 0 else lifetime r + 1) = w at hgen hlive hremain hsame
  generalize hz : w.modMask n (fun m => { m with since := sset (fun _ => 0) m.since k (64 * (w.ch n).bpf.lit + (w.ch n).bpf.blk) }) = z
  have hzget : ∀ a, z.get a = w.get a := fun a => hz ▸ modMask_get ..
  have ht : t = z.hardChanged n k cause := by
    rw [← hz, ← hw, ← hv, ← hu]
    rfl
  have hkeeps : MaskKeeps n (BesideSlot n k) u z := by
    rw [← hz, ← hw, ← hv]
    exact (putLife_keeps (putRecord_keeps (MaskKeeps.refl u) _) _ _).modMask
  have hon : z.hardLive n k = true := by
    rw [hardLive, on, rd_congr (hzget _), hlive]
    rfl
  rw [ht]
  refine ⟨((hon ▸ z.hardChanged_change n cause hk).after hkeeps ?_).after_entries hqueue hk, fun hlen => ⟨?_, ?_⟩⟩
  · have hend : ∀ i < 4, (z.hardChanged n k cause).get (R.MSK_HMs n k i) = le32 r (4 * i) := fun i hi => by
      rw [hardChanged_word _ _ hk (hrec i hi) (hmWord_ne n k hi).1, hzget, hsame i hi, hword i hi]
    rw [hardRec, hend 0 (by decide), hend 1 (by decide), hend 2 (by decide), hend 3 (by decide)]
    exact leBytes_record hlen
  · rw [rd_congr (hardChanged_word _ _ hk hHRw (hmWord_ne n k (w := 0) (by decide)).2.2.1), rd_congr (hzget _), hremain]
    have : lifetime r < 65536 := le16_lt ..
    split <;> omega
  · rw [rd_congr (hzget _), hgen, rd_congr hHS]

/-! ### Accepted records (R109, R220, R225) -/

/-- An accepted record is counted. -/
def flCounted (s : State) : State :=
  (s.incWrap F.MBX_FL_ACCEPT_COUNT).wr F.MBX_HSTAT_FL_COUNT ((s.incWrap F.MBX_FL_ACCEPT_COUNT).rd F.MBX_FL_ACCEPT_COUNT)

/-- What an accepted record does to the hard entry of its slot. -/
def entryOf (s : State) (n : Fin 4) (r : List Byte) (cause : Nat) : State :=
  let k := byteAt r 1 % 64
  if isClear r then (if s.hardLive n k then (s.queueReload n k).hardEmpty n k 2 else s.hardChanged n k 2) else s.hardWrite n r cause

theorem maskAccept_eq (s : State) (n : Fin 4) (r : List Byte) (cause : Nat) : s.maskAccept n r cause =
    (s.flCounted.entryOf n r cause).modMask n fun m =>
      { m with arrived := m.arrived ++ [⟨byteAt r 1 % 64, if isClear r then none else some r⟩] } := rfl

theorem entryOf_change (s : State) (n : Fin 4) (r : List Byte) (cause : Nat) :
    EntryChange n (byteAt r 1 % 64) (!isClear r) (if isClear r then 2 else cause) s (s.entryOf n r cause) := by
  have hk : byteAt r 1 % 64 < 64 := Nat.mod_lt _ (by decide)
  unfold entryOf
  dsimp only
  cases hc : isClear r with
  | false => exact (s.hardWrite_change n r cause).1
  | true =>
    simp only [if_true]
    by_cases hl : s.hardLive n (byteAt r 1 % 64) = true
    · rw [if_pos hl]
      exact (hardEmpty_change _ n 2 hk).1.after_entries (MaskKeeps.refl s).queueReload hk
    · rw [if_neg hl]
      have hdead := s.hardChanged_change n 2 hk
      rwa [Bool.eq_false_iff.mpr hl] at hdead

theorem entryOf_record (s : State) (n : Fin 4) {r : List Byte} (cause : Nat) (hc : isClear r = false) (hlen : r.length = 16) :
    (s.entryOf n r cause).hardRec n (byteAt r 1 % 64) = r ∧
      (s.entryOf n r cause).rd (F.MSK_HRs_REMAIN n (byteAt r 1 % 64)) = if lifetime r = 0 then 0 else lifetime r + 1 := by
  have he : s.entryOf n r cause = s.hardWrite n r cause := by simp [entryOf, hc]
  rw [he]
  exact (s.hardWrite_change n r cause).2 hlen

/-- The words that counting an accepted record leaves. -/
theorem flCounted_get (s : State) {a : Nat} (h1 : a ≠ R.MBX_FL_ACCEPT) (h2 : a ≠ R.MBX_HSTAT) : s.flCounted.get a = s.get a := by
  rw [flCounted, get_wr_ne _ _ h2, get_incWrap_ne _ h1]

/-- The words of the mailboxes that an accepted record leaves. -/
theorem maskAccept_mailbox (s : State) (n : Fin 4) (r : List Byte) (cause : Nat) {a : Nat} (ha : 0x40060000 ≤ a ∧ a < 0x40070000) :
    (s.maskAccept n r cause).get a = s.flCounted.get a := by
  rw [maskAccept_eq, modMask_get]
  exact (s.flCounted.entryOf_change n r cause).keeps.word a (besideSlot_mailbox _ _ ha)

theorem slotWord_not_mailbox {n : Fin 4} {k a : Nat} (h : SlotWord n k a) : 0x40100000 ≤ a := by
  unfold SlotWord lecBase at h
  omega

/-- The entries before a record is counted. -/
theorem flCounted_entry (s : State) {n : Fin 4} {k a : Nat} (h : SlotWord n k a) : s.flCounted.get a = s.get a := by
  have := slotWord_not_mailbox h
  exact s.flCounted_get (by unfold R.MBX_FL_ACCEPT; omega) (by unfold R.MBX_HSTAT; omega)

theorem flCounted_hard (s : State) (n : Fin 4) (j : Nat) :
    s.flCounted.hardLive n j = s.hardLive n j ∧ s.flCounted.hardRec n j = s.hardRec n j :=
  ⟨on_congr (rd_congr (s.flCounted_entry (slotWord_words n j).2.1)), hardRec_congr fun _ => s.flCounted_entry⟩

/-- What an accepted record changes (R109, R220, R225), in the terms of the statement. -/
theorem maskAccept_spec (s : State) (n : Fin 4) {r : List Byte} {cause : Nat} (hlen : r.length = 16) (hcause : cause < 8) :
    let k := byteAt r 1 % 64
    let t := s.maskAccept n r cause
    t.rd F.MBX_FL_ACCEPT_COUNT = (s.rd F.MBX_FL_ACCEPT_COUNT + 1) % 2 ^ 32 ∧ t.evr = s.evr ∧ t.dram = s.dram ∧
      t.rd (F.MSK_HSs_GEN n k) = (s.rd (F.MSK_HSs_GEN n k) + 1) % 256 ∧ t.rd (F.MSK_LAST_CAUSE n) = (if isClear r then 2 else cause) ∧
      (t.ch n).mask.arrived = (s.ch n).mask.arrived ++ [⟨k, if isClear r then none else some r⟩] ∧ t.hardLive n k = !isClear r ∧
      (isClear r = false → t.hardRec n k = r ∧ t.rd (F.MSK_HRs_REMAIN n k) = if lifetime r = 0 then 0 else lifetime r + 1) ∧
      ∀ j, j < 64 → j ≠ k → t.hardLive n j = s.hardLive n j ∧ t.hardRec n j = s.hardRec n j := by
  intro k t
  have c := s.flCounted.entryOf_change n r cause
  have hrecord := fun hc => s.flCounted.entryOf_record n cause hc hlen
  have hcount : t.rd F.MBX_FL_ACCEPT_COUNT = s.flCounted.rd F.MBX_FL_ACCEPT_COUNT := rd_congr (s.maskAccept_mailbox n r cause (by decide))
  have hold : s.flCounted.evr = s.evr ∧ s.flCounted.dram = s.dram ∧ (s.flCounted.ch n) = s.ch n := by simp [flCounted]
  have ht : t = _ := s.maskAccept_eq n r cause
  generalize s.flCounted.entryOf n r cause = u at c hrecord ht
  have hget : ∀ a, t.get a = u.get a := fun a => by rw [ht, modMask_get]
  have hlive : ∀ j, t.hardLive n j = u.hardLive n j := fun j => on_congr (rd_congr (hget _))
  have hrec : ∀ j, t.hardRec n j = u.hardRec n j := fun j => by simp only [hardRec, hget]
  refine ⟨?_, ?_, ?_, ?_, ?_, ?_, ?_, fun hc => ?_, fun j hj hne => ?_⟩
  · rw [hcount, flCounted, rd_wr_ne _ _ (by decide), rd_incWrap _ (by decide)]
    rfl
  · rw [ht, modMask_evr, c.keeps.evr, hold.1]
  · rw [ht, modMask_dram, c.keeps.dram, hold.2.1]
  · rw [rd_congr (hget _), c.gen, rd_congr (s.flCounted_entry (slotWord_words n k).2.1)]
  · rw [rd_congr (hget _), c.cause_eq]
    split
    · rfl
    · exact Nat.mod_eq_of_lt hcause
  · rw [ht, modMask, ch_modCh]
    exact congrArg (· ++ _) (c.keeps.arrived.trans (by rw [hold.2.2]))
  · rw [hlive, c.live_eq]
  · rw [hrec, rd_congr (hget _)]
    exact hrecord hc
  · rw [hlive, hrec, (c.others hj hne).1, (c.others hj hne).2]
    exact s.flCounted_hard n j

/-! ### Dropped records (R109) -/

/-- A dropped record is counted and shown. -/
def dropShown (s : State) (r : List Byte) (reason : Nat) : State :=
  (((((s.addSat F.MBX_FL_DROP_COUNT 1).wr F.MBX_HSTAT_FL_DROP 1).wr F.MBX_FL_LAST_REASON reason).wr F.MBX_FL_LAST_CHANNEL
    (byteAt r 0 % 4)).wr F.MBX_FL_LAST_SLOT (byteAt r 1 % 64)).modMbx fun m => { m with flLast := (r ++ List.replicate 16 0).take 16 }

theorem maskDrop_eq (s : State) (r : List Byte) (reason : Nat) : s.maskDrop r reason =
    if reason ≤ 2 then (s.dropShown r reason).errEvent mbxBase 0x0320 2 reason 0
    else (s.dropShown r reason).errEvent (mskBase (chan (byteAt r 0))) (0x1020 + 256 * (chan (byteAt r 0)).val) 2 reason (byteAt r 1 % 64) := rfl

/-- The words of the mailboxes but its error registers, which the report of a dropped record leaves. -/
theorem maskDrop_mailbox (s : State) (r : List Byte) (reason : Nat) {a : Nat} (ha : a < 0x40070000) (he : a ∉ eventRegs)
    (h0 : a ≠ mbxBase + 0x1F0) (h1 : a ≠ mbxBase + 0x1F4) : (s.maskDrop r reason).get a = (s.dropShown r reason).get a := by
  rw [maskDrop_eq]
  split
  · exact errEvent_get _ _ _ _ _ _ he h0 h1
  · exact errEvent_get _ _ _ _ _ _ he (by unfold mskBase lecBase; omega) (by unfold mskBase lecBase; omega)

theorem maskDrop_spec (s : State) (r : List Byte) {reason : Nat} (hr : reason < 8) :
    let t := s.maskDrop r reason
    t.rd F.MBX_FL_DROP_COUNT = satN 32 (s.rd F.MBX_FL_DROP_COUNT + 1) ∧ t.rd F.MBX_FL_LAST_REASON = reason ∧ t.lec = s.lec ∧
      t.dram = s.dram ∧ t.rd F.MBX_FL_ACCEPT_COUNT = s.rd F.MBX_FL_ACCEPT_COUNT ∧
      if reason ≤ 2 then s.logged t 0x0320 2 reason 0
      else s.logged t (0x1020 + 256 * (chan (byteAt r 0)).val) 2 reason (byteAt r 1 % 64) := by
  intro t
  generalize hu : s.dropShown r reason = u
  have hmbx : ∀ f : Fld, f.addr < 0x40070000 → f.addr ∉ eventRegs → f.addr ≠ mbxBase + 0x1F0 → f.addr ≠ mbxBase + 0x1F4 →
      t.rd f = u.rd f := fun f h1 h2 h3 h4 => hu ▸ rd_congr (s.maskDrop_mailbox r reason h1 h2 h3 h4)
  have hold : u.evr = s.evr ∧ u.tb = s.tb ∧ u.lec = s.lec ∧ u.dram = s.dram := by simp [← hu, dropShown]
  have hdrop := hmbx F.MBX_FL_DROP_COUNT (by decide) (by decide) (by decide) (by decide)
  have hreason := hmbx F.MBX_FL_LAST_REASON (by decide) (by decide) (by decide) (by decide)
  have haccept := hmbx F.MBX_FL_ACCEPT_COUNT (by decide) (by decide) (by decide) (by decide)
  have ht : t = _ := s.maskDrop_eq r reason
  rw [hu] at ht
  refine ⟨?_, ?_, ?_, ?_, ?_, ?_⟩
  · rw [hdrop, ← hu, dropShown, modMbx_rd, rd_wr_ne _ _ (by decide), rd_wr_ne _ _ (by decide), rd_wr_ne _ _ (by decide),
      rd_wr_ne _ _ (by decide), addSat, rd_wr _ _ (by decide)]
    exact Nat.mod_eq_of_lt (show satN 32 _ < 2 ^ 32 by unfold satN; omega)
  · rw [hreason, ← hu, dropShown, modMbx_rd, rd_wr_apart _ _ (by decide), rd_wr_apart _ _ (by decide), rd_wr _ _ (by decide)]
    exact Nat.mod_eq_of_lt hr
  · rw [ht, apply_ite State.lec, errEvent_lec, errEvent_lec, ite_self, hold.2.2.1]
  · rw [ht, apply_ite State.dram, errEvent_dram, errEvent_dram, ite_self, hold.2.2.2]
  · rw [haccept, ← hu, dropShown, modMbx_rd, rd_wr_ne _ _ (by decide), rd_wr_ne _ _ (by decide), rd_wr_ne _ _ (by decide),
      rd_wr_ne _ _ (by decide), addSat, rd_wr_ne _ _ (by decide)]
  · rw [ht]
    split
    · exact logged_errEvent hold.1 hold.2.1 _ _ _ _ _
    · exact logged_errEvent hold.1 hold.2.1 _ _ _ _ _

/-! ### Submissions (R108, R109, R237) -/

/-- The reason that the checks of a record give, in their order. -/
theorem maskCheck_reasons (s : State) (r : List Byte) (addr : Nat) (crc : Bool) :
    let sound := crc = true → crc8 (r.take 15) = byteAt r 15
    (r.length ≠ 16 → s.maskCheck r addr crc = 1) ∧
      (r.length = 16 → addr ≠ 0x2C00 → s.maskCheck r addr crc = 2) ∧
      (r.length = 16 → addr = 0x2C00 → crc = true → crc8 (r.take 15) ≠ byteAt r 15 → s.maskCheck r addr crc = 3) ∧
      (r.length = 16 → addr = 0x2C00 → sound → recordOk r = false → s.maskCheck r addr crc = 4) ∧
      (r.length = 16 → addr = 0x2C00 → sound → recordOk r = true → s.streams (chan (byteAt r 0)) = false →
        s.maskCheck r addr crc = 5) ∧
      (r.length = 16 → addr = 0x2C00 → sound → recordOk r = true → s.streams (chan (byteAt r 0)) = true →
        s.maskCheck r addr crc = 0) := by
  intro sound
  refine ⟨fun h => ?_, fun h h2 => ?_, fun h h2 h3 h4 => ?_, fun h h2 h3 h4 => ?_, fun h h2 h3 h4 h5 => ?_, fun h h2 h3 h4 h5 => ?_⟩
  · simp [maskCheck, h]
  · simp [maskCheck, h, h2]
  · simp [maskCheck, h, h2, h3, h4]
  · simpa [maskCheck, h, h2, h4] using h3
  · simpa [maskCheck, h, h2, h4, h5] using h3
  · simpa [maskCheck, h, h2, h4, h5] using h3

theorem maskSubmit_accept {s : State} {r : List Byte} {addr : Nat} {crc : Bool} (cause : Nat) (h : s.maskCheck r addr crc = 0) :
    s.maskSubmit r addr crc cause = s.maskAccept (chan (byteAt r 0)) r cause := if_pos h

theorem maskSubmit_drop {s : State} {r : List Byte} {addr reason : Nat} {crc : Bool} (cause : Nat)
    (h : s.maskCheck r addr crc = reason) (h0 : reason ≠ 0) : s.maskSubmit r addr crc cause = s.maskDrop r reason := by
  subst h
  exact if_neg h0

/-- A record leaves the error count of the HSPI. -/
theorem maskSubmit_errCount (s : State) (r : List Byte) (addr : Nat) (crc : Bool) (cause : Nat) :
    (s.maskSubmit r addr crc cause).rd F.MBX_HSPI_ERR_CNT_COUNT = s.rd F.MBX_HSPI_ERR_CNT_COUNT := by
  by_cases h : s.maskCheck r addr crc = 0
  · rw [maskSubmit_accept cause h, rd_congr (maskAccept_mailbox _ _ _ _ (by decide)),
      rd_congr (flCounted_get _ (by decide) (by decide))]
  · rw [maskSubmit_drop cause rfl h, rd_congr (maskDrop_mailbox _ _ _ (by decide) (by decide) (by decide) (by decide)), dropShown,
      modMbx_rd, rd_wr_ne _ _ (by decide), rd_wr_ne _ _ (by decide), rd_wr_ne _ _ (by decide), rd_wr_ne _ _ (by decide), addSat,
      rd_wr_ne _ _ (by decide)]

/-- LAST_ERR and the error count after a malformed transaction (R86). -/
theorem malformed_reads (s : State) (op : Nat) : (s.malformed op).rd F.MBX_HSTAT_LAST_ERR = 1 ∧
    (s.malformed op).rd F.MBX_HSPI_ERR_CNT_COUNT =
      satN (F.MBX_HSPI_ERR_CNT_COUNT).w (s.rd F.MBX_HSPI_ERR_CNT_COUNT + 1) := by
  obtain ⟨-, -, -, hcount, -⟩ := s.malformed_spec op
  refine ⟨?_, hcount⟩
  rw [malformed, logEvent_rd _ _ _ _ _ (by decide), rd_incSat_apart _ (by decide), rd_wr _ _ (by decide)]
  rfl

theorem malformed_lec (s : State) (op : Nat) : (s.malformed op).lec = s.lec := by simp [malformed]

/-- A served Fast Lane transaction. -/
theorem fastLane_quad {s : State} {addr part : Nat} {r : List Byte} (hs : s.hspiServed = true) (hst : s.stood 245 245 = false)
    (hq : s.on F.MBX_HCFG_QUAD = true) : exec (.fastLaneWrite addr r part) s =
      .next ((s.maskSubmit r (addr % 2 ^ 24) true 0).cutShort 0xA5 part) := by
  change Host.Outcome.next (s.fastLane addr r part) = _
  simp [fastLane, hs, hst, hq]

theorem fastLane_noQuad {s : State} {addr part : Nat} {r : List Byte} (hs : s.hspiServed = true) (hst : s.stood 245 245 = false)
    (hq : s.on F.MBX_HCFG_QUAD = false) : exec (.fastLaneWrite addr r part) s = .next (s.malformed 0xA5) := by
  change Host.Outcome.next (s.fastLane addr r part) = _
  simp [fastLane, hs, hst, hq]

theorem fastLane_cutShort {s : State} {addr part : Nat} {r : List Byte} (hs : s.hspiServed = true) (hst : s.stood 245 245 = false)
    (hq : s.on F.MBX_HCFG_QUAD = true) (hp : part % 8 ≠ 0) :
    ∃ t, exec (.fastLaneWrite addr r part) s = .next t ∧ t.rd F.MBX_HSTAT_LAST_ERR = 1 ∧
      t.rd F.MBX_HSPI_ERR_CNT_COUNT = satN (F.MBX_HSPI_ERR_CNT_COUNT).w (s.rd F.MBX_HSPI_ERR_CNT_COUNT + 1) := by
  refine ⟨_, fastLane_quad hs hst hq, ?_⟩
  rw [cutShort_part _ _ hp, ← s.maskSubmit_errCount r (addr % 2 ^ 24) true 0]
  exact malformed_reads _ _

/-! ### Lifetimes and acknowledgements (R221, R230) -/

/-- A change not acknowledged in time is counted and reported. -/
def ackMissed (s : State) (n : Fin 4) (k : Nat) : State :=
  (s.errEvent (mskBase n) (0x1022 + 256 * n.val) 4 k (s.rd (F.MSK_HSs_GEN n k))).incSat (F.MSK_CNT_UNACKED n)

theorem sendHard_apart (s : State) {n : Fin 4} (k : Nat) {f : Fld} (h : apart (F.MSK_CNT_PACKETS n) f = true) :
    (s.sendHard n k).rd f = s.rd f := by
  unfold sendHard
  split
  · rfl
  · split
    · rw [modMask_rd, rd_incSat_apart _ h]
      exact ((MaskKeeps.refl (n := n) (W := fun _ => True) s).send).rd trivial
    · rw [modMask_rd]

theorem ackMissed_counts (s : State) (n : Fin 4) (k : Nat) :
    (s.ackMissed n k).rd (F.MSK_CNT_UNACKED n) = min (s.rd (F.MSK_CNT_UNACKED n) + 1) 127 := by
  rw [ackMissed, rd_incSat _ (show 24 + 7 ≤ 32 by decide),
    errEvent_rd _ _ _ _ _ _ (by decide +revert) (by decide +revert) (by decide +revert)]
  rfl

/-- The report leaves the entries. -/
theorem ackMissed_entry (s : State) {n : Fin 4} {k j a : Nat} (h : SlotWord n j a) (hj : j < 64) : (s.ackMissed n k).get a = s.get a := by
  have ha : a ≠ R.MSK_CNT n := by
    rintro rfl
    exact (not_entryWord n).2 (h.entry hj)
  unfold SlotWord at h
  obtain ⟨c, rfl⟩ : ∃ c, a = lecBase n + c := ⟨a - lecBase n, by omega⟩
  rw [ackMissed, get_incSat_ne _ ha, errEvent_get _ _ _ _ _ _ (channel_not_mem_eventRegs n c)]
  all_goals
    unfold mskBase
    omega

theorem ackMissed_spec (s : State) (n : Fin 4) {k : Nat} (hk : k < 64) :
    let t := (s.ackMissed n k).sendHard n k
    s.logged t (0x1022 + 256 * n.val) 4 k (s.rd (F.MSK_HSs_GEN n k)) ∧
      t.rd (F.MSK_CNT_UNACKED n) = min (s.rd (F.MSK_CNT_UNACKED n) + 1) 127 ∧ t.hardRec n k = s.hardRec n k ∧ t.dram = s.dram := by
  intro t
  have hsend : MaskKeeps n (EntryWord n) (s.ackMissed n k) t := (MaskKeeps.refl _).sendHard
  refine ⟨logged_congr ?_ (logged_errEvent rfl rfl (mskBase n) (0x1022 + 256 * n.val) 4 k (s.rd (F.MSK_HSs_GEN n k))), ?_, ?_, ?_⟩
  · rw [hsend.evr, ackMissed, incSat_evr]
  · exact (sendHard_apart _ _ (by simp [apart, F.MSK_CNT_PACKETS, F.MSK_CNT_UNACKED])).trans (s.ackMissed_counts n k)
  · exact hardRec_congr fun a ha => (hsend.word a (ha.entry hk)).trans (s.ackMissed_entry ha hk)
  · rw [hsend.dram, ackMissed, incSat_dram, errEvent_dram]

/-- An entry whose lifetime has ended (R221). -/
theorem lifetimeEnd_spec (s : State) (n : Fin 4) {k : Nat} (hk : k < 64) :
    let t := (s.replayReload n k).hardEmpty n k 3
    t.hardLive n k = false ∧ t.rd (F.MSK_HRs_REMAIN n k) = 0 ∧ t.rd (F.MSK_LAST_CAUSE n) = 3 ∧
      t.rd (F.MSK_HSs_GEN n k) = (s.rd (F.MSK_HSs_GEN n k) + 1) % 256 ∧ t.evr = s.evr ∧ t.dram = s.dram := by
  intro t
  obtain ⟨hchange, hremain⟩ := (s.replayReload n k).hardEmpty_change n 3 hk
  obtain ⟨hkeeps, hgen, hlive, hcause⟩ := hchange.after_entries (MaskKeeps.refl s).replayReload hk
  exact ⟨hlive, hremain, hcause, hgen, hkeeps.evr, hkeeps.dram⟩

end State

/-- Settles O56. The checks of R109 decide between a change of the hard entry of the slot, which leaves the other entries, and a
count with an event. -/
theorem maskRecords : Obligations.MaskRecords := by
  intro addr part r n v slot s accepted dropped inj
  have hinj : inj.length = 16 := by simp [inj, leBytes]
  have haccept : ∀ (r : List Byte) (cause : Nat), r.length = 16 → cause < 8 → accepted (s.maskAccept (chan (byteAt r 0)) r cause) r cause :=
    fun r cause hlen hc => s.maskAccept_spec _ hlen hc
  have hdrop : ∀ (r : List Byte) (reason : Nat), reason < 8 → dropped (s.maskDrop r reason) r reason :=
    fun r reason hlt => s.maskDrop_spec r hlt
  refine ⟨fun hs hst hq hp => fastLane_cutShort hs hst hq hp, fun hs hst hq => ⟨_, fastLane_noQuad hs hst hq, ?_⟩,
    fun hs hst hq hp => ⟨_, fastLane_quad hs hst hq, ?_⟩, fun hh => ?_, fun hstill => ?_, fun hstill => ?_⟩
  · obtain ⟨-, -, -, -, hlog⟩ := s.malformed_spec 0xA5
    exact ⟨(s.malformed_reads 0xA5).1, s.malformed_lec 0xA5, hlog⟩
  · obtain ⟨h1, h2, h3, h4, h5, h0⟩ := s.maskCheck_reasons r (addr % 2 ^ 24) true
    rw [cutShort_whole _ _ hp]
    refine ⟨fun hlen ha hc ho hstr => ?_, fun hlen => ?_, fun hlen ha => ?_, fun hlen ha hc => ?_, fun hlen ha hc ho => ?_,
      fun hlen ha hc ho hstr => ?_⟩
    · exact maskSubmit_accept 0 (h0 hlen ha (fun _ => hc) ho hstr) ▸ haccept r 0 hlen (by decide)
    · exact maskSubmit_drop 0 (h1 hlen) (by decide) ▸ hdrop r 1 (by decide)
    · exact maskSubmit_drop 0 (h2 hlen ha) (by decide) ▸ hdrop r 2 (by decide)
    · exact maskSubmit_drop 0 (h3 hlen ha rfl hc) (by decide) ▸ hdrop r 3 (by decide)
    · exact maskSubmit_drop 0 (h4 hlen ha (fun _ => hc) ho) (by decide) ▸ hdrop r 4 (by decide)
    · exact maskSubmit_drop 0 (h5 hlen ha (fun _ => hc) ho hstr) (by decide) ▸ hdrop r 5 (by decide)
  · obtain ⟨-, -, -, h4, h5, h0⟩ := s.maskCheck_reasons inj 0x2C00 false
    have hexec : exec (.maskInject n v) s = .next (if bit v.toNat 0 && !s.subHeld n 6 then s.maskSubmit inj 0x2C00 false 1 else s) := rfl
    rw [hexec, hh]
    refine ⟨_, rfl, fun hb => by simp [hb], fun hb ho hstr => ?_, fun hb ho => ?_, fun hb ho hstr => ?_⟩
    · rw [hb, if_pos (by decide), maskSubmit_accept 1 (h0 hinj rfl nofun ho hstr)]
      exact haccept inj 1 hinj (by decide)
    · rw [hb, if_pos (by decide), maskSubmit_drop 1 (h4 hinj rfl nofun ho) (by decide)]
      exact hdrop inj 4 (by decide)
    · rw [hb, if_pos (by decide), maskSubmit_drop 1 (h5 hinj rfl nofun ho hstr) (by decide)]
      exact hdrop inj 5 (by decide)
  · have hexec : exec (.maskLifetimeExpiry n slot) s =
        .next (if s.hardEnded n slot.val && !s.subStill n 6 then (s.replayReload n slot.val).hardEmpty n slot.val 3 else s) := rfl
    refine ⟨_, hexec, ?_⟩
    rw [hstill, Bool.not_false, Bool.and_true]
    by_cases he : s.hardEnded n slot.val = true
    · rw [if_pos he, if_pos he]
      exact s.lifetimeEnd_spec n slot.isLt
    · rw [if_neg he, if_neg he]
  · have hexec : exec (.maskAckTimeout n slot) s = .next (if (s.ch n).mask.unacked.contains slot.val && s.linkUp n && !s.subStill n 6
        then (s.ackMissed n slot.val).sendHard n slot.val else s) := rfl
    refine ⟨_, hexec, ?_⟩
    rw [hstill, Bool.not_false, Bool.and_true]
    by_cases hu : ((s.ch n).mask.unacked.contains slot.val && s.linkUp n) = true
    · rw [if_pos hu, if_pos hu]
      exact s.ackMissed_spec n slot.isLt
    · rw [if_neg hu, if_neg hu]

end Sys2Proof.Machine
end

section
/-! SUPPORT. Commands of the mailboxes: what a handler's answer leaves beside the mailbox it came from. -/

set_option Elab.async false

namespace Sys2Proof.Machine
open State

/-- Nothing changed is nothing but the ports changed. -/
theorem State.mailOnly.refl (s : State) : s.mailOnly s :=
  ⟨fun _ _ => rfl, rfl, ⟨rfl, rfl, rfl, rfl⟩, rfl, rfl, rfl, rfl, rfl, rfl, rfl, rfl, rfl, rfl, rfl⟩

theorem State.mailOnly.trans {s t u : State} (h : s.mailOnly t) (k : t.mailOnly u) : s.mailOnly u := by
  obtain ⟨hp, hc, hs, ha⟩ := h.banks
  obtain ⟨kp, kc, ks, ka⟩ := k.banks
  exact ⟨fun a m => (k.regs a m).trans (h.regs a m), k.dram.trans h.dram, ⟨kp.trans hp, kc.trans hc, ks.trans hs, ka.trans ha⟩,
    k.time.trans h.time, k.evr.trans h.evr, k.sys.trans h.sys, k.rst.trans h.rst, k.aon.trans h.aon, k.pins.trans h.pins,
    k.csi.trans h.csi, k.lec.trans h.lec, k.dmc.trans h.dmc, k.cal.trans h.cal, k.tap.trans h.tap⟩

namespace State

/-- A register that firmware's answer does not touch. -/
theorem mailOnly_get {s t : State} (h : s.mailOnly t) {a : Nat} (h1 : a ≠ R.MBX_HSTAT) (h2 : a ≠ R.MBX_IRQ_STATUS) :
    t.get a = s.get a := h.regs a (by simp [h1, h2])

theorem opened_mailOnly (s : State) (p : Fin 3) (mb : Fin 6) (q : Nat) : s.mailOnly (s.opened p mb q) := by
  refine ⟨fun a ha => ?_, by simp, by simp, by simp, by simp, by simp, by simp, by simp, by simp, by simp, by simp, by simp, by simp, by simp⟩
  simp only [List.mem_cons, List.not_mem_nil, or_false, not_or] at ha
  exact opened_get _ _ _ _ ha.1

theorem closed_mailOnly (a : Ans) (t : Tag) (ht : t.op ≠ 1 ∨ a.st = stOK) : a.s.mailOnly (closed a t) := by
  refine ⟨fun x hx => ?_, by simp, by simp, by simp, by simp, by simp, by simp, by simp, by simp, by simp, by simp, by simp, by simp, by simp⟩
  simp only [List.mem_cons, List.not_mem_nil, or_false, not_or] at hx
  exact closed_get _ _ hx.1 hx.2 (.inr ht)

/-- An answer of a handler that has left the machine as u. -/
theorem performs_closed {u v : State} {p : Fin 3} {mb : Fin 6} {op seq : Nat} (flags : Nat) {st d : Nat} {data : List Byte} (hop : op ≠ 1)
    (hst : st ≠ stDEFER) (hseq : sget (fun _ => none) (v.port p).seqs mb.val = some ⟨seq, []⟩) (hv : u.mailOnly v) (hfw : v.fw = u.fw) :
    u.performs (closed ⟨v, st, d, data⟩ (tagOf p mb op flags seq)) p mb op seq st d (if st = stOK ∨ st = stACCEPTED then data else []) :=
  ⟨answered_closed ⟨v, st, d, data⟩ p mb op flags seq hst hseq, hv.trans (closed_mailOnly ⟨v, st, d, data⟩ (tagOf p mb op flags seq) (.inl hop)), (closed_fw ..).trans hfw⟩

/-- A command that asks is answered as its handler says, from the state o that its message was taken in. -/
theorem serve_performs {s o v : State} {p : Fin 3} {mb : Fin 6} {op flags seq : Nat} {pl : List Byte} (a : s.Asks p mb op flags seq pl)
    (mine : Nat → Bool) (hm : mine op = true) (h : Handler) (hd : definedOp op = true) (hop : op ≠ 1) (ho : s.opened p mb seq = o)
    {st d : Nat} {data : List Byte} (hh : h o (tagOf p mb op flags seq) pl = ⟨v, st, d, data⟩) (hst : st ≠ stDEFER)
    (hl : data.length + 4 ≤ s.maxPay p) (hseq : (v.port p).seqs = (o.port p).seqs) :
    v.performs (s.serve p mb mine h) p mb op seq st d (if st = stOK ∨ st = stACCEPTED then data else []) := by
  subst ho
  rw [serve_ok a mine hm h hd (by rw [hh]; exact hl), hh]
  exact performs_closed flags hop hst (by rw [hseq, opened_seqs]) (mailOnly.refl v) rfl

/-- A refusal changes nothing. -/
theorem refuse_performs (s : State) (p : Fin 3) (mb : Fin 6) {op : Nat} (flags seq : Nat) {st : Nat} (d : Nat) (hop : op ≠ 1) (hst : st ≠ stDEFER) :
    s.performs (closed (refuse (s.opened p mb seq) st d) (tagOf p mb op flags seq)) p mb op seq st d [] := by
  have h := performs_closed (d := d) (data := []) flags hop hst (opened_seqs s p mb seq) (opened_mailOnly s p mb seq) (opened_fw ..)
  rwa [ite_self] at h

end State
end Sys2Proof.Machine
end

section
/-! SUPPORT. The queries GET_INFO and GET_STATUS, and the log as READ_EVENTS and CLEAR_EVENTS act on it (R117, R118, R136, R137). -/

set_option Elab.async false

namespace Sys2Proof.Machine
open State
namespace State

/-! ### GET_INFO, GET_STATUS (R117, R118) -/

theorem infoDevice_length (s : State) : s.infoDevice.length = 40 := by simp [infoDevice, canInfo]

theorem infoNode_length (s : State) (n : Fin 4) : (s.infoNode n).length = 28 := by simp [infoNode]

/-- GET_STATUS of firmware. -/
theorem getStatus_running {s : State} (h : s.rst.cpu = .running) : ∃ rest, rest.length = 36 ∧
    s.getStatus [] = ⟨s, stOK, 0, leBytes 4 (s.get R.SYS_MODE) ++ leBytes 4 (s.get R.RST_CAUSE) ++ rest⟩ := by
  refine ⟨leBytes 1 (degC s.hottest) ++ leBytes 1 s.statusFlags ++ leBytes 2 (s.rd F.EVR_STATUS_USED) ++
    (chans.map fun n => s.statusChannel n).flatten, by simp [statusChannel, chans], ?_⟩
  simp [getStatus, h]

theorem getInfo_device (s : State) : s.getInfo [0] = ⟨s, stOK, 0, s.infoDevice⟩ := by simp [getInfo, byteAt]

theorem getInfo_node (s : State) (n : Fin 4) : s.getInfo (leBytes 1 (n.val + 1)) = ⟨s, stOK, 0, s.infoNode n⟩ := by
  have hpage : byteAt (leBytes 1 (n.val + 1)) 0 = n.val + 1 ∧ chan (n.val + 1 - 1) = n := by clear s; decide +revert
  have hn := n.isLt
  simp only [getInfo, hpage, leBytes_length]
  rw [if_neg (by simp), if_neg (by omega), if_neg (by omega)]

/-! ### READ_EVENTS (R136) -/

/-- READ_EVENTS of a request in range. -/
theorem readEvents_eq {s : State} {t : Tag} {pl : List Byte} (hl : pl.length = 4) (hm : byteAt pl 2 ≤ (s.maxPay t.port - 12) / 16)
    (h0 : le16 pl 0 < 2048) (h1 : 1 ≤ byteAt pl 2) (h7 : byteAt pl 3 ≤ 7) : s.readEvents t pl =
      let r := s.scanSlots (byteAt pl 3) (2048 - le16 pl 0) (le16 pl 0) (byteAt pl 2)
      ⟨s, stOK, 0, leBytes 2 r.2 ++ leBytes 1 r.1.length ++ [0] ++ leBytes 4 (s.rd F.EVR_DROPPED_COUNT) ++
        (r.1.map fun k => s.slotBytes k).flatten⟩ := by
  unfold readEvents
  rw [if_neg (by simp [hl]), if_neg (by omega), if_neg (by simp [h0, h1, h7])]

theorem slotBytes_length (s : State) (k : Nat) : (s.slotBytes k).length = 16 := by simp [slotBytes]

theorem slotsBytes_length (s : State) (l : List Nat) : (l.map fun k => s.slotBytes k).flatten.length = 16 * l.length := by
  simp [List.length_flatten, Function.comp_def, slotBytes_length, Nat.mul_comm]

/-- READ_EVENTS, as O14 states it. -/
theorem readEvents_spec {p : Fin 3} {mb : Fin 6} {flags seq : Nat} {pl : List Byte} {s : State} (a : s.Asks p mb 0x0F flags seq pl)
    (hl : pl.length = 4) (h0 : le16 pl 0 < 2048) (h1 : 1 ≤ byteAt pl 2) (h7 : byteAt pl 3 ≤ 7)
    (hm : byteAt pl 2 ≤ (s.maxPay p - 12) / 16) :
    ∃ t, ∃ found : List Nat, ∃ next : Nat, exec (.readEvents p mb) s = .next t ∧
      t.answered p mb 0x0F seq stOK 0 (leBytes 2 next ++ leBytes 1 found.length ++ [0] ++
        leBytes 4 (s.rd F.EVR_DROPPED_COUNT) ++ (found.map fun k => s.slotBytes k).flatten) ∧
      found.length ≤ byteAt pl 2 ∧ next ≤ 2048 ∧
      (∀ k, k ∈ found ↔ le16 pl 0 ≤ k ∧ k < next ∧ s.slotCode k ≠ 0 ∧ byteAt pl 3 ≤ s.slotSev k) ∧
      (next < 2048 → found.length = byteAt pl 2) ∧ s.mailOnly t ∧ t.fw = s.fw := by
  obtain ⟨hnext, -, hlen, hmem, hfull⟩ := (s.opened p mb seq).scan_spec (byteAt pl 3) (2048 - le16 pl 0) (le16 pl 0) (byteAt pl 2)
  have heq := readEvents_eq (s := s.opened p mb seq) (t := tagOf p mb 0x0F flags seq) hl (by rw [show (tagOf p mb 0x0F flags seq).port = p from rfl, opened_maxPay]; exact hm) h0 h1 h7
  generalize (s.opened p mb seq).scanSlots (byteAt pl 3) (2048 - le16 pl 0) (le16 pl 0) (byteAt pl 2) = r at *
  rw [show le16 pl 0 + (2048 - le16 pl 0) = 2048 by omega] at hnext hfull
  have hbytes : (r.1.map fun k => (s.opened p mb seq).slotBytes k) = r.1.map fun k => s.slotBytes k :=
    List.map_congr_left fun k hk => opened_slotBytes s p mb seq k (Nat.lt_of_lt_of_le ((hmem k).mp hk).2.1 hnext)
  dsimp only at heq
  rw [hbytes, opened_rd _ _ _ _ (by decide)] at heq
  obtain ⟨hans, hmail, hfw⟩ := query_says a (· == 0x0F) rfl State.readEvents rfl heq (by
    simp only [List.length_append, leBytes_length, slotsBytes_length, List.length_singleton]
    omega)
  refine ⟨_, r.1, r.2, rfl, hans, hlen, hnext, fun k => (hmem k).trans ?_, hfull, hmail, hfw⟩
  refine and_congr_right fun _ => and_congr_right fun hk => ?_
  have hk2 : k < 2048 := Nat.lt_of_lt_of_le hk hnext
  rw [opened_slotCode _ _ _ _ _ hk2, opened_slotSev _ _ _ _ _ hk2]

/-! ### CLEAR_EVENTS (R137, R396) -/

/-- A request to clear the log leaves the ports and the clocks. -/
theorem clearRequest_ports (s : State) (k : Nat) : (∀ p, (s.clearRequest k).port p = s.port p) ∧ (s.clearRequest k).sys = s.sys := by
  unfold clearRequest faultRelease
  dsimp only
  split <;> simp

theorem exec_logClearEnd {s : State} {c : ClearRun} (h : s.stood 233 233 = false) (hc : s.evr.clearing = some c) :
    exec .logClearEnd s = .next (s.clearEnd c) := by
  change Host.Outcome.next (if s.stood 233 233 then s else _) = _
  rw [if_neg (by simp [h]), hc]

end State

/-- Settles O14: each query answers from the state as it stands; READ_EVENTS by `State.scan_spec`. -/
theorem queriesAndRecordReads : Obligations.QueriesAndRecordReads := by
  refine ⟨fun p mb flags seq pl s hmax => ⟨?_, ?_, ?_⟩, fun p mb flags seq pl s a hl h0 h1 _ h7 hm => readEvents_spec a hl h0 h1 h7 hm⟩
  · rintro a rfl
    obtain ⟨hans, hmail, hfw⟩ := query_says a (· == 0x02) rfl (fun s _ pl => s.getInfo pl) rfl (getInfo_device _)
      (by rw [infoDevice_length]; omega)
    refine ⟨_, _, rfl, hans, ?_, infoDevice_length _, hmail, hfw⟩
    rw [infoDevice, opened_get _ _ _ _ (by decide)]
    simp [leBytes]
  · rintro a n rfl
    obtain ⟨hans, hmail, hfw⟩ := query_says a (· == 0x02) rfl (fun s _ pl => s.getInfo pl) rfl (getInfo_node _ n)
      (by rw [infoNode_length]; omega)
    refine ⟨_, _, rfl, hans, ?_, infoNode_length _ n, hmail, hfw⟩
    have htype : (s.opened p mb seq).cap n 3 = s.nodeType n := by
      rw [nodeType, cap, cap, opened_ch, opened_get _ _ _ _ (by clear * -; decide +revert)]
    rw [infoNode, htype]
    simp [leBytes]
  · rintro a rfl
    obtain ⟨rest, hrest, heq⟩ := getStatus_running (s := s.opened p mb seq) (by rw [opened_rst, a.running])
    rw [opened_get _ _ _ _ (by decide), opened_get _ _ _ _ (by decide)] at heq
    obtain ⟨hans, hmail, hfw⟩ := query_says a (· == 0x04) rfl (fun s _ pl => s.getStatus pl) rfl heq
      (by simp [hrest]; omega)
    exact ⟨_, _, rfl, hans, by simp [leBytes], by simp [hrest], hmail, hfw⟩

/-- Settles O15: `State.clearRequest_facts` and `State.clearEnd_facts`. -/
theorem clearEventsEmptiesLog : Obligations.ClearEventsEmptiesLog := by
  intro p mb flags seq s a hmax hclr hstood
  generalize hu : s.opened p mb seq = u
  have hevr : u.evr = s.evr := hu ▸ opened_evr ..
  have hused : u.rd F.EVR_STATUS_USED = s.rd F.EVR_STATUS_USED := hu ▸ opened_rd _ _ _ _ (by decide)
  have heq : u.clearEvents (tagOf p mb 0x10 flags seq) [] = ⟨u.clearRequest p.val, stOK, 0, leBytes 2 (s.rd F.EVR_STATUS_USED)⟩ := by
    rw [← hused]
    simp [clearEvents, hevr, hclr, tagOf]
  obtain ⟨hrun, hclearing, hfault, hlatch, hdram, hlec, -, -⟩ := u.clearRequest_facts p.val (by rw [hevr, hclr])
  obtain ⟨hport, hsys⟩ := u.clearRequest_ports p.val
  rw [hused] at hrun
  obtain ⟨hans, hmail, -⟩ := serve_performs a (· == 0x10) rfl State.clearEvents rfl (by decide) hu heq (by decide)
    (by simpa using hmax) (by rw [hport])
  have hexec : exec (.clearEvents p mb) s = .next (s.serve p mb (· == 0x10) State.clearEvents) := rfl
  generalize s.serve p mb (· == 0x10) State.clearEvents = t at *
  have hclr2 : t.evr.clearing = some ⟨0, s.rd F.EVR_STATUS_USED, p.val⟩ := by rw [hmail.evr, hrun]
  have hon : ∀ f : Fld, f.addr ≠ R.MBX_HSTAT → f.addr ≠ R.MBX_IRQ_STATUS → t.on f = (u.clearRequest p.val).on f := fun f h1 h2 =>
    on_congr (rd_congr (mailOnly_get hmail h1 h2))
  have hend := exec_logClearEnd (s := t) (by rw [stood, hmail.sys, hsys, ← hu, opened_sys]; exact hstood) hclr2
  obtain ⟨h0, hone, hdropped, hnone, hempty⟩ := t.clearEnd_facts ⟨0, s.rd F.EVR_STATUS_USED, p.val⟩ rfl
  refine ⟨t, _, hexec, hans, hclr2, ?_, ?_, ?_, ?_, ?_, hend, h0, hone, hdropped, hnone, hempty⟩
  · rw [hon _ (by decide) (by decide), hclearing]
  · rw [hmail.pins, hfault]
  · rw [hon _ (by decide) (by decide), hlatch]
  · rw [hmail.dram, hdram, ← hu, opened_dram]
  · rw [hmail.lec, hlec, ← hu, opened_lec]

end Sys2Proof.Machine
end

section
/-! SUPPORT. The staging commands SET_TIMING, SET_LAYER, SET_MASKS, SET_ANIMATION, SET_GROUPS, SET_DERATE and SET_LEVELLING (R113,
R121–R128). -/

set_option Elab.async false

namespace Sys2Proof.Machine
open State

/-! ### Loops over the channels of a mask -/

/-- What the step of one element establishes, and every step keeps. -/
theorem foldl_establishes {α β : Type} {f : α → β → α} {l : List β} {x : β} {P : α → Prop} (hp : ∀ a, P (f a x))
    (hk : ∀ a, ∀ y ∈ l, P a → P (f a y)) (a : α) (hx : x ∈ l) : P (l.foldl f a) := by
  have loop : ∀ (l : List β) (a : α), (∀ a, ∀ y ∈ l, P a → P (f a y)) → x ∈ l ∨ P a → P (l.foldl f a) := fun l => by
    induction l with
    | nil => exact fun a _ ha => ha.resolve_left List.not_mem_nil
    | cons y l ih =>
      refine fun a hk ha => ih _ (fun a z hz => hk a z (.tail _ hz)) ?_
      rcases ha with hx | ha
      · rcases List.mem_cons.mp hx with rfl | hx
        · exact .inr (hp a)
        · exact .inl hx
      · exact .inr (hk a y (.head _) ha)
  exact loop l a hk (.inl hx)

section
variable {α : Type} {f : α → Fin 4 → α} {mask : Nat} {n : Fin 4}

/-- What the step of a named channel establishes, and other steps keep. -/
theorem foldl_mask_named {P : α → Prop} (hp : ∀ a, P (f a n)) (hk : ∀ a m, P a → P (f a m)) (a : α)
    (h : bit mask n.val = true) : P (chans.foldl (fun a m => if bit mask m.val then f a m else a) a) := by
  refine foldl_establishes (x := n) (fun a => by simpa [h] using hp a) (fun a m _ ha => ?_) a (mem_chans n)
  split
  · exact hk a m ha
  · exact ha

/-- What the steps of the named channels keep. -/
theorem foldl_mask_keeps {β : Type} (g : α → β) (hk : ∀ a m, bit mask m.val = true → g (f a m) = g a) (a : α) :
    g (chans.foldl (fun a m => if bit mask m.val then f a m else a) a) = g a := by
  have loop : ∀ (l : List (Fin 4)) (a : α), g (l.foldl (fun a m => if bit mask m.val then f a m else a) a) = g a := fun l => by
    induction l with
    | nil => exact fun _ => rfl
    | cons m l ih =>
      refine fun a => (ih _).trans ?_
      dsimp only
      split
      · next h => exact hk a m h
      · rfl
  exact loop chans a
end

/-! ### Staged fields -/

namespace Stage

theorem reg_setFld (m : Stage) (f : Fld) (v a : Nat) :
    (m.setFld f v).reg a = if a = f.addr then setBits (m.reg f.addr) f.lo f.w v % 2 ^ 32 else m.reg a := by
  simp only [reg, setFld, sget_sset]
  split
  · rw [BitVec.toNat_ofNat]
  · rfl

theorem reg_lt (m : Stage) (a : Nat) : m.reg a < 2 ^ 32 := (sget stageDefault m.regs a).isLt

/-- A field that was staged. -/
theorem fld_setFld (m : Stage) {f : Fld} {v : Nat} (h : f.lo + f.w ≤ 32) (hv : v < 2 ^ f.w) : (m.setFld f v).fld f = v := by
  rw [fld, reg_setFld, if_pos rfl, Nat.mod_eq_of_lt (setBits_lt (reg_lt m _) h), bits_setBits_self, Nat.mod_eq_of_lt hv]

/-- A field apart from the one staged. -/
theorem fld_setFld_apart (m : Stage) {f g : Fld} (v : Nat) (h : apart f g = true) : (m.setFld f v).fld g = m.fld g := by
  by_cases ha : f.addr = g.addr
  · simp only [apart, ha, bne_self_eq_false, Bool.false_or, Bool.and_eq_true, decide_eq_true_eq, Bool.or_eq_true] at h
    rw [fld, fld, reg_setFld, if_pos ha.symm, Nat.mod_eq_of_lt (setBits_lt (reg_lt m _) h.1), ha]
    exact h.2.elim (fun h1 => bits_setBits_below h1) fun h1 => bits_setBits_above h1
  · rw [fld, fld, reg_setFld, if_neg (Ne.symm ha)]

/-- A field of another word. -/
theorem fld_setFld_ne (m : Stage) {f g : Fld} (v : Nat) (h : g.addr ≠ f.addr) : (m.setFld f v).fld g = m.fld g := by
  rw [fld, fld, reg_setFld, if_neg h]

end Stage

/-! ### Payload bytes -/

theorem take_all_zero (k : Nat) (l : List Byte) : (l.take k).all (· == 0) = true ↔ ∀ j < k, (l.getD j 0).toNat = 0 := by
  induction k generalizing l with
  | zero => simp
  | succ k ih =>
    cases l with
    | nil => simp
    | cons b l =>
      have hb : (b == 0#8) = true ↔ b.toNat = 0 := by
        rw [beq_iff_eq]
        exact BitVec.toNat_eq ..
      rw [List.take_succ_cons, List.all_cons, Bool.and_eq_true, ih, show (0 : Byte) = 0#8 from rfl, hb]
      refine ⟨fun ⟨h0, h⟩ j hj => ?_, fun h => ⟨h 0 (Nat.succ_pos k), fun j hj => h (j + 1) (Nat.succ_lt_succ hj)⟩⟩
      cases j with
      | zero => exact h0
      | succ j => exact h j (Nat.lt_of_succ_lt_succ hj)

/-- Reserved bytes. -/
theorem zeroAt_iff {pl : List Byte} {i k : Nat} : zeroAt pl i k = true ↔ ∀ j < k, byteAt pl (i + j) = 0 := by
  rw [zeroAt, slice, take_all_zero]
  simp [byteAt]

namespace State

/-! ### Handlers that stage (R113) -/

/-- A command whose handler changes firmware's data alone. -/
theorem serve_modFw {s : State} {p : Fin 3} {mb : Fin 6} {op flags seq : Nat} {pl : List Byte} (a : s.Asks p mb op flags seq pl)
    (mine : Nat → Bool) (hm : mine op = true) (h : Handler) (hd : definedOp op = true) (hop : op ≠ 1) (hl : 4 ≤ s.maxPay p)
    {f : Fw → Fw} {st : Nat} (hst : st ≠ stDEFER)
    (hh : h (s.opened p mb seq) (tagOf p mb op flags seq) pl = ⟨(s.opened p mb seq).modFw f, st, 0, []⟩) :
    s.replies (s.serve p mb mine h) p mb op seq st (f s.fw) := by
  rw [serve_ok a mine hm h hd (by rw [hh]; exact hl), hh]
  exact replies_modFw s p mb flags seq hop hst f

/-- A command whose handler stages. -/
theorem serve_staged {s : State} {p : Fin 3} {mb : Fin 6} {op flags seq : Nat} {pl : List Byte} (a : s.Asks p mb op flags seq pl)
    (mine : Nat → Bool) (hm : mine op = true) (h : Handler) (hd : definedOp op = true) (hop : op ≠ 1) (hl : 4 ≤ s.maxPay p)
    {f : Stage → Stage} (hh : h (s.opened p mb seq) (tagOf p mb op flags seq) pl = (s.opened p mb seq).staged f) :
    s.stages (s.serve p mb mine h) p mb op seq (f s.fw.stage) := by
  rw [show (s.opened p mb seq).staged f = ⟨(s.opened p mb seq).modFw fun w => { w with stage := f s.fw.stage }, stOK, 0, []⟩ by
    rw [staged, restage, opened_fw]] at hh
  exact serve_modFw a mine hm h hd hop hl (by decide) hh

/-- A command that is refused. -/
theorem serve_refused {s : State} {p : Fin 3} {mb : Fin 6} {op flags seq : Nat} {pl : List Byte} (a : s.Asks p mb op flags seq pl)
    (mine : Nat → Bool) (hm : mine op = true) (h : Handler) (hd : definedOp op = true) (hop : op ≠ 1) (hl : 4 ≤ s.maxPay p)
    {st d : Nat} (hst : st ≠ stDEFER) (hh : h (s.opened p mb seq) (tagOf p mb op flags seq) pl = refuse (s.opened p mb seq) st d) :
    s.performs (s.serve p mb mine h) p mb op seq st d [] := by
  rw [serve_ok a mine hm h hd (by rw [hh]; exact hl), hh]
  exact refuse_performs s p mb flags seq d hop hst

/-- The payload maximum of a port holds an answer without data where it holds a payload of four bytes. -/
theorem Asks.roomFor {s : State} {p : Fin 3} {mb : Fin 6} {op flags seq : Nat} {pl : List Byte} (a : s.Asks p mb op flags seq pl)
    (h : 4 ≤ pl.length) : 4 ≤ s.maxPay p := Nat.le_trans h a.max

/-! ### SET_LAYER, SET_ANIMATION, SET_MASKS (R122, R124, R125) -/

/-- A SET_LAYER request in range (R122). -/
def layerTaken (pl : List Byte) : Prop :=
  byteAt pl 0 < 4 ∧ byteAt pl 1 < 4 ∧ byteAt pl 2 < 8 ∧ (bit (byteAt pl 2) 0 = true → layerOk pl = true)

theorem setLayer_taken (s : State) {pl : List Byte} (hl : pl.length = 32) (h : layerTaken pl) :
    s.setLayer pl = s.staged fun m => m.setLay (chan (byteAt pl 0)) (chan (byteAt pl 1)) pl := by
  obtain ⟨h0, h1, h2, hok⟩ := h
  have hen : (bit (byteAt pl 2) 0 && !layerOk pl) = false := by
    cases hb : bit (byteAt pl 2) 0 with
    | false => rfl
    | true => rw [hok hb]; rfl
  rw [setLayer, if_neg (by simp [hl]), if_neg (by simp [h0, h1, h2, hen])]

theorem setLayer_refused (s : State) {pl : List Byte} (hl : pl.length = 32) (h : ¬ layerTaken pl) :
    s.setLayer pl = refuse s stBAD_PARAM 0 := by
  rw [setLayer, if_neg (by simp [hl]), if_pos]
  by_contra hc
  refine h ?_
  simp only [Bool.not_eq_true, Bool.or_eq_false_iff, Bool.not_eq_false', decide_eq_true_eq, Bool.and_eq_false_imp] at hc
  obtain ⟨⟨h0, h1, h2⟩, hok⟩ := hc
  exact ⟨h0, h1, h2, hok⟩

/-- A SET_ANIMATION request in range (R125). -/
def animationTaken (pl : List Byte) : Prop := byteAt pl 0 < 4 ∧ byteAt pl 1 ≤ 2 ∧ byteAt pl 6 ≤ 1 ∧ byteAt pl 7 = 0

theorem setAnimation_taken (s : State) {pl : List Byte} (hl : pl.length = 8) (h : animationTaken pl) :
    s.setAnimation pl = s.staged fun m => { m with anim := m.anim.set (chan (byteAt pl 0)) pl } := by
  obtain ⟨h0, h1, h6, h7⟩ := h
  rw [setAnimation, if_neg (by simp [hl]), if_neg (by simp [h0, h1, h6, zeroAt_iff, h7])]

theorem setAnimation_refused (s : State) {pl : List Byte} (hl : pl.length = 8) (h : ¬ animationTaken pl) :
    s.setAnimation pl = refuse s stBAD_PARAM 0 := by
  rw [setAnimation, if_neg (by simp [hl]), if_pos]
  by_contra hc
  refine h ?_
  simp only [Bool.not_eq_true, Bool.or_eq_false_iff, Bool.not_eq_false', decide_eq_true_eq] at hc
  obtain ⟨⟨h0, h1, h6⟩, h7⟩ := hc
  exact ⟨h0, h1, h6, zeroAt_iff.mp h7 0 (by decide)⟩

/-- A record that SET_MASKS takes (R124). -/
def maskTaken (pl : List Byte) (i : Nat) : Prop :=
  recordOk (maskRec pl i) = true ∧ byteAt (maskRec pl i) 0 = byteAt pl 0 ∧ crc8 ((maskRec pl i).take 15) = byteAt (maskRec pl i) 15

/-- A SET_MASKS request with a well-formed header that leaves other slots as they are. -/
structure MaskHeader (pl : List Byte) (count : Nat) : Prop where
  len : pl.length = 4 + 16 * count
  named : byteAt pl 1 = count
  most : count ≤ 64
  channel : byteAt pl 0 < 4
  zeros : byteAt pl 2 = 0 ∧ byteAt pl 3 = 0

theorem maskRecs_all {pl : List Byte} {count : Nat} : (((List.range count).map fun i => maskRec pl i).all fun r =>
    recordOk r && byteAt r 0 == byteAt pl 0 && crc8 (r.take 15) == byteAt r 15) = true ↔ ∀ i, i < count → maskTaken pl i := by
  simp [maskTaken, and_assoc]

/-- The soft-mask part of the stage after a SET_MASKS that is taken (R223). -/
def masksStaged (w : Fw) (pl : List Byte) (count : Nat) : Four (List SoftChg) :=
  let n := chan (byteAt pl 0)
  w.masks.set n (w.masks.get n ++ (List.range count).map fun i => softOf (maskRec pl i))

theorem setMasks_taken (s : State) {pl : List Byte} {count : Nat} (hd : MaskHeader pl count) (h : ∀ i, i < count → maskTaken pl i) :
    s.setMasks pl = ⟨s.modFw fun w => { w with masks := masksStaged s.fw pl count }, stOK, 0, []⟩ := by
  obtain ⟨hl, hc, hm, h0, h2, h3⟩ := hd
  have hz : zeroAt pl 3 1 = true := zeroAt_iff.mpr (by simp [h3])
  have hb : bit 0 0 = false := rfl
  have hall := maskRecs_all.mpr h
  unfold setMasks
  dsimp only
  rw [hc, hall, h2, hz]
  simp [hl, h0, hm, hb, masksStaged, Function.comp_def]

theorem setMasks_refused (s : State) {pl : List Byte} {count : Nat} (hd : MaskHeader pl count) {i : Nat} (hi : i < count)
    (h : ¬ maskTaken pl i) : s.setMasks pl = refuse s stBAD_PARAM 0 := by
  have hall : (((List.range count).map fun i => maskRec pl i).all fun r =>
      recordOk r && byteAt r 0 == byteAt pl 0 && crc8 (r.take 15) == byteAt r 15) = false :=
    Bool.eq_false_iff.mpr fun hc => h (maskRecs_all.mp hc i hi)
  unfold setMasks
  dsimp only
  rw [hd.named, hall]
  simp [hd.len]

end State

/-- Settles O16: a request in range is staged as sent, any other is refused by the check of its ranges. -/
theorem layersAndMasksStage : Obligations.LayersAndMasksStage := by
  refine ⟨fun p mb flags seq pl s => ⟨fun a hl => ⟨_, rfl, ?_⟩, fun a hl => ⟨_, rfl, ?_⟩⟩,
    fun p mb flags seq count pl s a hl hc hm h0 h2 h3 => ?_⟩
  · have room : 4 ≤ s.maxPay p := a.roomFor (by omega)
    split
    · next h =>
      exact serve_staged a (· == 0x07) rfl (fun s _ pl => s.setLayer pl) rfl (by decide) room (setLayer_taken _ hl h)
    · next h =>
      exact serve_refused a (· == 0x07) rfl (fun s _ pl => s.setLayer pl) rfl (by decide) room (by decide) (setLayer_refused _ hl h)
  · have room : 4 ≤ s.maxPay p := a.roomFor (by omega)
    split
    · next h =>
      exact serve_staged a (· == 0x0B) rfl (fun s _ pl => s.setAnimation pl) rfl (by decide) room (setAnimation_taken _ hl h)
    · next h =>
      exact serve_refused a (· == 0x0B) rfl (fun s _ pl => s.setAnimation pl) rfl (by decide) room (by decide) (setAnimation_refused _ hl h)
  · have room : 4 ≤ s.maxPay p := a.roomFor (by omega)
    have hd : MaskHeader pl count := ⟨hl, hc, hm, h0, h2, h3⟩
    refine ⟨_, rfl, fun h => ?_, fun i hi h => ?_⟩
    · have heq := setMasks_taken (s.opened p mb seq) hd h
      rw [opened_fw] at heq
      exact serve_modFw a (· == 0x0A) rfl (fun s _ pl => s.setMasks pl) rfl (by decide) room (by decide) heq
    · exact serve_refused a (· == 0x0A) rfl (fun s _ pl => s.setMasks pl) rfl (by decide) room (by decide) (setMasks_refused _ hd hi h)

namespace State

/-! ### SET_GROUPS (R126) -/

/-- DEFINE, ARM and DELETE: the groups that are touched, and the change of the stage. -/
def groupsMask (pl : List Byte) : Nat := if byteAt pl 0 = 2 then le32 pl 4 else 2 ^ byteAt pl 1

/-- What DEFINE, ARM and DELETE stage. -/
def groupsStage (pl : List Byte) (m : Stage) : Stage :=
  let g := byteAt pl 1
  let on := byteAt pl 8
  match byteAt pl 0 with
  | 0 => { m with groups := sset (fun _ => []) m.groups g pl }
  | 2 => { m with garm := armBits m.garm (le32 pl 4) (bit on 0), gprobe := armBits m.gprobe (le32 pl 4) (bit on 1), window := le16 pl 10 }
  | _ => { m with groups := sdel m.groups g, garm := armBits m.garm (2 ^ g) false, gprobe := armBits m.gprobe (2 ^ g) false }

theorem groupsOk_action {pl : List Byte} (h : groupsOk pl = true) : byteAt pl 0 < 4 := by
  unfold groupsOk at h
  split at h
  case h_5 => cases h
  all_goals omega

/-- DEFINE, ARM and DELETE change firmware's data alone. -/
theorem setGroups_staged (s : State) {pl : List Byte} (hl : pl.length = groupsLength pl) (hok : groupsOk pl = true) (h1 : byteAt pl 0 ≠ 1) :
    s.setGroups pl =
      ⟨s.modFw fun w => { w with grpNew := s.fw.grpNew ||| groupsMask pl, stage := groupsStage pl s.fw.stage }, stOK, 0, []⟩ := by
  have h4 := groupsOk_action hok
  unfold setGroups groupsStage groupsMask
  rw [if_neg (by simp [← hl]), if_neg (by simp [hok])]
  generalize byteAt pl 0 = act at *
  match act with
  | 0 | 2 | 3 => rfl
  | 1 => exact absurd rfl h1

theorem setGroups_level (s : State) {pl : List Byte} (hl : pl.length = groupsLength pl) (hok : groupsOk pl = true) (h1 : byteAt pl 0 = 1) :
    s.setGroups pl = ⟨s.groupLevel (le32 pl 4) (le16 pl 8) (byteAt pl 10), stOK, 0, []⟩ := by
  unfold setGroups
  rw [if_neg (by simp [← hl]), if_neg (by simp [hok]), h1]
  rfl

/-- LEVEL of one group on one port. -/
def levelOne (level fade g : Nat) (s : State) (n : Fin 4) : State :=
  ((s.wr (F.CHN_GTGTg_TARGET n g) level).wr (F.CHN_GTGTg_FADE n g) fade).levelNew n g

/-- The target and the fade of a group on a port. -/
def levelIs (level fade g : Nat) (n : Fin 4) (s : State) : Prop :=
  s.rd (F.CHN_GTGTg_TARGET n g) = level ∧ s.rd (F.CHN_GTGTg_FADE n g) = fade

theorem levelOne_is {level fade : Nat} (hl : level < 2 ^ 16) (hf : fade < 2 ^ 8) (g : Nat) (n : Fin 4) (s : State) :
    levelIs level fade g n (levelOne level fade g s n) := by
  unfold levelIs levelOne levelNew modChn
  rw [modCh_rd, modCh_rd, rd_wr_apart _ _ (by simp [apart, F.CHN_GTGTg_FADE, F.CHN_GTGTg_TARGET]), rd_wr _ _ (show 0 + 16 ≤ 32 by decide),
    rd_wr _ _ (show 16 + 8 ≤ 32 by decide)]
  exact ⟨Nat.mod_eq_of_lt hl, Nat.mod_eq_of_lt hf⟩

theorem levelOne_get (level fade : Nat) (s : State) (n : Fin 4) {g a : Nat} (h : a ≠ R.CHN_GTGTg n g) :
    (levelOne level fade g s n).get a = s.get a := by
  unfold levelOne levelNew modChn
  rw [modCh_get, get_wr_ne _ _ h, get_wr_ne _ _ h]

/-- The words of the groups of the ports are apart. -/
theorem groupWord_inj {n m : Fin 4} {g k : Nat} (hg : g < 32) (hk : k < 32) (h : R.CHN_GTGTg n g = R.CHN_GTGTg m k) : n = m ∧ g = k := by
  unfold R.CHN_GTGTg lecBase at h
  exact ⟨Fin.ext (by omega), by omega⟩

theorem levelOne_keeps {level fade : Nat} (hl : level < 2 ^ 16) (hf : fade < 2 ^ 8) {g k : Nat} (hg : g < 32) (hk : k < 32) (n m : Fin 4) {s : State}
    (h : levelIs level fade g n s) : levelIs level fade g n (levelOne level fade k s m) := by
  by_cases he : R.CHN_GTGTg n g = R.CHN_GTGTg m k
  · obtain ⟨rfl, rfl⟩ := groupWord_inj hg hk he
    exact levelOne_is hl hf g n s
  · have hw : (levelOne level fade k s m).get (R.CHN_GTGTg n g) = s.get (R.CHN_GTGTg n g) := levelOne_get _ _ _ _ he
    exact ⟨(rd_congr hw).trans h.1, (rd_congr hw).trans h.2⟩

theorem bit_lt_32 {v i : Nat} (hv : v < 2 ^ 32) (h : bit v i = true) : i < 32 := by
  by_contra hi
  have : v / 2 ^ i = 0 := Nat.div_eq_of_lt (Nat.lt_of_lt_of_le hv (Nat.pow_le_pow_right (by decide) (by omega)))
  simp [bit, this] at h

/-- LEVEL sets the target and the fade of every committed group of its mask on every port. -/
theorem groupLevel_is (s : State) {mask level fade g : Nat} (hm : mask < 2 ^ 32) (hl : level < 2 ^ 16) (hf : fade < 2 ^ 8)
    (hg : g ∈ s.fw.act.groups.map (·.1)) (hb : bit mask g = true) (n : Fin 4) : levelIs level fade g n (s.groupLevel mask level fade) := by
  obtain ⟨e, he, rfl⟩ := List.mem_map.mp hg
  refine foldl_establishes (x := e) (P := levelIs level fade e.1 n) (fun u => ?_) (fun u k hk hu => ?_) s (List.mem_filter.mpr ⟨he, hb⟩)
  · exact foldl_establishes (f := levelOne level fade e.1) (x := n) (fun v => levelOne_is hl hf _ _ _)
      (fun v m _ hv => levelOne_keeps hl hf (bit_lt_32 hm hb) (bit_lt_32 hm hb) _ _ hv) u (mem_chans n)
  · have hk32 := bit_lt_32 hm (List.mem_filter.mp hk).2
    exact List.foldlRecOn chans (levelOne level fade k.1) (motive := levelIs level fade e.1 n) hu
      fun v hv m _ => levelOne_keeps hl hf (bit_lt_32 hm hb) hk32 _ _ hv

/-- What LEVEL leaves. -/
theorem groupLevel_keeps {β : Type} (g : State → β) {level fade : Nat} (h : ∀ k u n, g (levelOne level fade k u n) = g u) (s : State) (mask : Nat) :
    g (s.groupLevel mask level fade) = g s := by
  unfold groupLevel
  refine foldl_keeps g (fun u e => ?_) _ s
  exact foldl_keeps (f := levelOne level fade e.1) g (h e.1) chans u

/-- A bit of a set of groups that was armed or disarmed. -/
theorem bit_armBits {old mask g : Nat} (hg : g < 32) (hb : bit mask g = true) (on : Bool) : bit (armBits old mask on) g = on := by
  unfold armBits
  cases on with
  | true => simp [bit_or, hb]
  | false =>
    have hall : Nat.testBit 0xFFFFFFFF g = true := by clear hb; decide +revert
    simp only [Bool.false_eq_true, if_false]
    rw [bit_eq_testBit] at hb ⊢
    rw [Nat.testBit_and, Nat.testBit_xor, hall, hb]
    simp

/-- What DEFINE, ARM and DELETE stage of each group. -/
theorem groupsStage_spec (pl : List Byte) (m : Stage) : let t := groupsStage pl m
    (byteAt pl 0 = 0 → t = { m with groups := t.groups } ∧ sget (fun _ => []) t.groups (byteAt pl 1) = pl ∧
      ∀ g, g ≠ byteAt pl 1 → sget (fun _ => []) t.groups g = sget (fun _ => []) m.groups g) ∧
    (byteAt pl 0 = 2 → t.window = le16 pl 10 ∧ t.groups = m.groups ∧ ∀ g, g < 32 → bit (le32 pl 4) g = true →
      bit t.garm g = bit (byteAt pl 8) 0 ∧ bit t.gprobe g = bit (byteAt pl 8) 1) ∧
    (byteAt pl 0 = 3 → sget (fun _ => []) t.groups (byteAt pl 1) = []) := by
  unfold groupsStage
  refine ⟨fun h => ?_, fun h => ?_, fun h => ?_⟩
  · rw [h]
    exact ⟨rfl, sget_sset_self .., fun g hg => sget_sset_ne _ _ _ hg⟩
  · rw [h]
    exact ⟨rfl, rfl, fun g hg hb => ⟨bit_armBits hg hb _, bit_armBits hg hb _⟩⟩
  · rw [h]
    exact (sget_sdel ..).trans (if_pos rfl)

/-- SET_GROUPS, as O18 states it. -/
theorem setGroups_spec {p : Fin 3} {mb : Fin 6} {flags seq : Nat} {pl : List Byte} {s : State} (a : s.Asks p mb 0x0C flags seq pl)
    (hl : pl.length = groupsLength pl) (hok : groupsOk pl = true) :
    ∃ t, exec (.setGroups p mb) s = .next t ∧ t.answered p mb 0x0C seq stOK 0 [] ∧ t.fw.act = s.fw.act ∧
      (byteAt pl 0 ≠ 1 → s.mailOnly t) ∧
      (byteAt pl 0 = 0 → t.fw.stage = { s.fw.stage with groups := t.fw.stage.groups } ∧
        sget (fun _ => []) t.fw.stage.groups (byteAt pl 1) = pl ∧
        ∀ g, g ≠ byteAt pl 1 → sget (fun _ => []) t.fw.stage.groups g = sget (fun _ => []) s.fw.stage.groups g) ∧
      (byteAt pl 0 = 1 → t.fw.stage = s.fw.stage ∧ t.dram = s.dram ∧
        ∀ g, g ∈ s.fw.act.groups.map (·.1) → g < 32 → bit (le32 pl 4) g = true → ∀ n : Fin 4,
          t.rd (F.CHN_GTGTg_TARGET n g) = le16 pl 8 ∧ t.rd (F.CHN_GTGTg_FADE n g) = byteAt pl 10) ∧
      (byteAt pl 0 = 2 → t.fw.stage.window = le16 pl 10 ∧ t.fw.stage.groups = s.fw.stage.groups ∧
        ∀ g, g < 32 → bit (le32 pl 4) g = true → bit t.fw.stage.garm g = bit (byteAt pl 8) 0 ∧
          bit t.fw.stage.gprobe g = bit (byteAt pl 8) 1) ∧
      (byteAt pl 0 = 3 → sget (fun _ => []) t.fw.stage.groups (byteAt pl 1) = []) := by
  have room : 4 ≤ s.maxPay p := a.roomFor (by rw [hl, groupsLength]; split <;> (try split) <;> omega)
  refine ⟨_, rfl, ?_⟩
  by_cases h1 : byteAt pl 0 = 1
  · generalize hu : s.opened p mb seq = u
    have hkeep {β : Type} (g : State → β) (hg : ∀ k u n, g (levelOne (le16 pl 8) (byteAt pl 10) k u n) = g u) :=
      groupLevel_keeps g hg u (le32 pl 4)
    obtain ⟨hans, hmail, hfw⟩ := serve_performs a (· == 0x0C) rfl (fun s _ pl => s.setGroups pl) rfl (by decide) hu
      (u.setGroups_level hl hok h1) (by decide) room (congrArg Port.seqs (hkeep (·.port p) fun _ _ _ => by simp [levelOne, levelNew, modChn]))
    have hfw2 := hfw.trans ((hkeep (·.fw) fun _ _ _ => by simp [levelOne, levelNew, modChn]).trans (hu ▸ opened_fw ..))
    refine ⟨hans, by rw [hfw2], fun h => absurd h1 h, fun h => absurd (h1.symm.trans h) (by decide), fun _ => ⟨by rw [hfw2], ?_, ?_⟩,
      fun h => absurd (h1.symm.trans h) (by decide), fun h => absurd (h1.symm.trans h) (by decide)⟩
    · exact hmail.dram.trans ((hkeep (·.dram) fun _ _ _ => by simp [levelOne, levelNew, modChn]).trans (hu ▸ opened_dram ..))
    · intro g hg hg32 hb n
      have hne : R.CHN_GTGTg n g ≠ R.MBX_HSTAT ∧ R.CHN_GTGTg n g ≠ R.MBX_IRQ_STATUS := by
        unfold R.CHN_GTGTg lecBase R.MBX_HSTAT R.MBX_IRQ_STATUS
        omega
      have hw := mailOnly_get hmail hne.1 hne.2
      obtain ⟨ht, hf⟩ := u.groupLevel_is (le32_lt pl 4) (le16_lt pl 8) (byteAt_lt pl 10) (g := g) (by rwa [← hu, opened_fw]) hb n
      exact ⟨(rd_congr hw).trans ht, (rd_congr hw).trans hf⟩
  · obtain ⟨hans, hmail, hfw⟩ := serve_modFw a (· == 0x0C) rfl (fun s _ pl => s.setGroups pl) rfl (by decide) room (by decide)
      (setGroups_staged _ hl hok h1)
    have hstage := congrArg Fw.stage hfw
    obtain ⟨hdef, harm, hdel⟩ := groupsStage_spec pl s.fw.stage
    rw [opened_fw] at hstage
    exact ⟨hans, by rw [hfw], fun _ => hmail, hstage ▸ hdef, fun h => absurd h h1, hstage ▸ harm, hstage ▸ hdel⟩

/-! ### SET_TIMING (R121) -/

/-- The stage with a SET_TIMING request for every channel of its mask. -/
def timingStage (pl : List Byte) (m : Stage) : Stage := m.each (byteAt pl 0) fun m n => { m with timing := m.timing.set n pl }

theorem timingStage_eq (pl : List Byte) (m : Stage) : timingStage pl m = { m with timing := (timingStage pl m).timing } := by
  unfold timingStage Stage.each
  refine List.foldlRecOn chans _ (motive := fun x : Stage => x = { m with timing := x.timing }) ?_ fun x hx n _ => ?_
  · rfl
  split
  · rw [hx]
  · exact hx

theorem timingStage_get (pl : List Byte) (m : Stage) (n : Fin 4) :
    (timingStage pl m).timing.get n = if bit (byteAt pl 0) n.val then pl else m.timing.get n := by
  split
  · next h =>
    refine foldl_mask_named (P := fun x : Stage => x.timing.get n = pl) (fun x => Four.get_set_self ..) (fun x k hx => ?_) m h
    by_cases hk : k = n
    · subst hk
      exact Four.get_set_self ..
    · exact (Four.get_set_ne _ _ (Ne.symm hk)).trans hx
  · next h =>
    refine foldl_mask_keeps (fun x : Stage => x.timing.get n) (fun x k hk => Four.get_set_ne _ _ ?_) m
    rintro rfl
    exact h hk

/-- COMMIT_GUARD written for every channel of a mask. -/
def guardWritten (mask v : Nat) (s : State) : State := s.forMask mask fun s n => s.wr (F.LEC_COMMIT_CFG_COMMIT_GUARD n) v

theorem guardWord_inj {n m : Fin 4} (h : R.LEC_COMMIT_CFG n = R.LEC_COMMIT_CFG m) : n = m := by
  unfold R.LEC_COMMIT_CFG lecBase at h
  exact Fin.ext (by omega)

theorem guardWritten_named {mask v : Nat} (hv : v < 2 ^ 4) (s : State) {n : Fin 4} (h : bit mask n.val = true) :
    (guardWritten mask v s).rd (F.LEC_COMMIT_CFG_COMMIT_GUARD n) = v := by
  have hset : ∀ u : State, (u.wr (F.LEC_COMMIT_CFG_COMMIT_GUARD n) v).rd (F.LEC_COMMIT_CFG_COMMIT_GUARD n) = v := fun u => by
    rw [rd_wr _ _ (show 0 + 4 ≤ 32 by decide)]
    exact Nat.mod_eq_of_lt hv
  refine foldl_mask_named (f := fun (u : State) n => u.wr (F.LEC_COMMIT_CFG_COMMIT_GUARD n) v)
    (P := fun u => u.rd (F.LEC_COMMIT_CFG_COMMIT_GUARD n) = v) hset (fun u k hu => ?_) s h
  by_cases hk : k = n
  · subst hk
    exact hset u
  · exact (rd_wr_ne _ _ fun e => hk (guardWord_inj e).symm).trans hu

theorem guardWritten_get (mask v : Nat) (s : State) {a : Nat} (h : ∀ n, bit mask n.val = true → a ≠ R.LEC_COMMIT_CFG n) :
    (guardWritten mask v s).get a = s.get a :=
  foldl_mask_keeps (fun u : State => u.get a) (fun _ n hn => get_wr_ne _ _ (h n hn)) s

theorem setTiming_eq (s : State) {pl : List Byte} (hl : pl.length = 12) (hok : timingOk pl = true) :
    s.setTiming pl = (guardWritten (byteAt pl 0) (byteAt pl 3) s).staged (timingStage pl) := by
  unfold setTiming
  rw [if_neg (by simp [hl]), if_neg (by simp [hok])]
  rfl

/-- SET_TIMING, as O18 states it. -/
theorem setTiming_spec {p : Fin 3} {mb : Fin 6} {flags seq : Nat} {pl : List Byte} {s : State} (a : s.Asks p mb 0x05 flags seq pl)
    (hl : pl.length = 12) (hok : timingOk pl = true) :
    ∃ t, exec (.setTiming p mb) s = .next t ∧ t.answered p mb 0x05 seq stOK 0 [] ∧
      t.fw = { s.fw with stage := { s.fw.stage with timing := t.fw.stage.timing } } ∧
      s.regsKeep t ([R.MBX_HSTAT, R.MBX_IRQ_STATUS] ++ (List.finRange 4).map R.LEC_COMMIT_CFG) ∧
      t.dram = s.dram ∧ t.lec = s.lec ∧ t.strm = s.strm ∧ t.comp = s.comp ∧ t.pend = s.pend ∧
      ∀ n : Fin 4, if bit (byteAt pl 0) n.val = true
        then t.fw.stage.timing.get n = pl ∧ t.rd (F.LEC_COMMIT_CFG_COMMIT_GUARD n) = byteAt pl 3
        else t.fw.stage.timing.get n = s.fw.stage.timing.get n ∧ t.get (R.LEC_COMMIT_CFG n) = s.get (R.LEC_COMMIT_CFG n) := by
  generalize hu : s.opened p mb seq = u
  have hguard : byteAt pl 3 < 2 ^ 4 := by
    simp only [timingOk, Bool.and_eq_true, decide_eq_true_eq] at hok
    omega
  have keep {β : Type} (g : State → β) (hg : ∀ u n, g (wr u (F.LEC_COMMIT_CFG_COMMIT_GUARD n) (byteAt pl 3)) = g u) :
      g (guardWritten (byteAt pl 0) (byteAt pl 3) u) = g u := forMask_keeps g hg _ u
  have heq := u.setTiming_eq hl hok
  have hfw := (keep (·.fw) fun _ _ => by simp).trans (hu ▸ opened_fw ..)
  generalize hv : guardWritten (byteAt pl 0) (byteAt pl 3) u = v at *
  obtain ⟨hans, hmail, hend⟩ := serve_performs a (· == 0x05) rfl (fun s _ pl => s.setTiming pl) rfl (by decide) hu
    heq (by decide) (a.roomFor (by omega)) (by rw [restage_port, keep (·.port p) fun _ _ => by simp])
  have hfin : (s.serve p mb (· == 0x05) fun s _ pl => s.setTiming pl).fw = { s.fw with stage := timingStage pl s.fw.stage } := by
    rw [hend, restage, modFw, hfw]
  obtain ⟨hpend, hcomp, hstrm, -⟩ := hmail.banks
  have hword : ∀ x, (∀ n, bit (byteAt pl 0) n.val = true → x ≠ R.LEC_COMMIT_CFG n) → x ≠ R.MBX_HSTAT → x ≠ R.MBX_IRQ_STATUS →
      (s.serve p mb (· == 0x05) fun s _ pl => s.setTiming pl).get x = s.get x := fun x hx h1 h2 => by
    rw [mailOnly_get hmail h1 h2, restage_get, ← hv, guardWritten_get _ _ _ hx, ← hu, opened_get _ _ _ _ h1]
  have hcfg : ∀ n, R.LEC_COMMIT_CFG n ≠ R.MBX_HSTAT ∧ R.LEC_COMMIT_CFG n ≠ R.MBX_IRQ_STATUS := fun n => by
    unfold R.LEC_COMMIT_CFG lecBase R.MBX_HSTAT R.MBX_IRQ_STATUS
    omega
  refine ⟨_, rfl, hans, ?_, fun x hx => ?_, ?_, ?_, ?_, ?_, ?_, fun n => ?_⟩
  · rw [hfin, ← timingStage_eq]
  · simp only [List.mem_append, List.mem_cons, List.not_mem_nil, or_false, List.mem_map, List.mem_finRange, true_and, not_or, not_exists] at hx
    exact hword x (fun n _ => Ne.symm (hx.2 n)) hx.1.1 hx.1.2
  · rw [hmail.dram, restage_dram, keep (·.dram) fun _ _ => by simp, ← hu, opened_dram]
  · rw [hmail.lec, restage_lec, keep (·.lec) fun _ _ => by simp, ← hu, opened_lec]
  · rw [hstrm, restage_strm, keep (·.strm) fun _ _ => by simp, ← hu, opened_strm]
  · rw [hcomp, restage_comp, keep (·.comp) fun _ _ => by simp, ← hu, opened_comp]
  · rw [hpend, restage_pend, keep (·.pend) fun _ _ => by simp, ← hu, opened_pend]
  · rw [hfin, timingStage_get]
    split
    · next h =>
      refine ⟨rfl, ?_⟩
      rw [rd_congr (mailOnly_get hmail (hcfg n).1 (hcfg n).2), restage_rd, ← hv, guardWritten_named hguard _ h]
    · next h =>
      exact ⟨rfl, hword _ (fun m hm e => h (guardWord_inj e ▸ hm)) (hcfg n).1 (hcfg n).2⟩

end State

/-- Settles O18: SET_GROUPS and SET_TIMING, request by request. -/
theorem groupsAndTimingStage : Obligations.GroupsAndTimingStage :=
  ⟨fun _ _ _ _ _ _ a hl hok => setGroups_spec a hl hok, fun _ _ _ _ _ _ a hl hok => setTiming_spec a hl hok⟩

namespace State

/-! ### SET_DERATE (R127) -/

/-- A SET_DERATE request without a fault of form. -/
structure DerateForm (pl : List Byte) : Prop where
  len : pl.length = 8
  mask : 0 < byteAt pl 0 ∧ byteAt pl 0 < 16
  zeros : byteAt pl 6 = 0 ∧ byteAt pl 7 = 0

/-- The ranges of the four parameters of SET. -/
def derateRanges (pl : List Byte) : Prop := 60 ≤ byteAt pl 2 ∧ byteAt pl 2 ≤ 140 ∧ 5 ≤ byteAt pl 3 ∧ byteAt pl 3 ≤ 100 ∧
  10 ≤ byteAt pl 4 ∧ byteAt pl 4 ≤ 100 ∧ byteAt pl 5 ≤ 2

theorem DerateForm.passes {pl : List Byte} (h : DerateForm pl) : maskOk (byteAt pl 0) = true ∧ zeroAt pl 6 2 = true := by
  obtain ⟨-, ⟨h0, h16⟩, h6, h7⟩ := h
  refine ⟨by simp [maskOk, h0, h16], zeroAt_iff.mpr fun j hj => ?_⟩
  match j, hj with
  | 0, _ => exact h6
  | 1, _ => exact h7

theorem setDerate_taken (s : State) {pl : List Byte} (h : DerateForm pl)
    (hact : byteAt pl 1 = 0 ∧ derateRanges pl ∨ byteAt pl 1 = 1 ∨ byteAt pl 1 = 2 ∧ lightMode s.mode = false) :
    s.setDerate pl = s.staged fun m => m.each (byteAt pl 0) (derateStage pl) := by
  obtain ⟨hm, hz⟩ := h.passes
  unfold setDerate
  dsimp only
  rw [if_neg (by simp [h.len]), if_neg, if_neg]
  · rintro ⟨h2, hl⟩
    rcases hact with ⟨h0, -⟩ | h1 | ⟨-, hd⟩
    · omega
    · omega
    · rw [hd] at hl
      cases hl
  · rw [hm, hz]
    rcases hact with ⟨h0, hr⟩ | h1 | ⟨h2, -⟩
    · unfold derateRanges at hr
      simp [h0, hr]
    · simp [h1]
    · simp [h2]

theorem setDerate_light (s : State) {pl : List Byte} (h : DerateForm pl) (h2 : byteAt pl 1 = 2) (hl : lightMode s.mode = true) :
    s.setDerate pl = refuse s stWRONG_MODE 0 := by
  obtain ⟨hm, hz⟩ := h.passes
  unfold setDerate
  dsimp only
  rw [if_neg (by simp [h.len]), if_neg (by simp [hm, hz, h2]), if_pos ⟨h2, hl⟩]

/-- The law's register of a channel. -/
theorem derateWord_inj {n m : Fin 4} (h : R.SRC_DERATE_CFG n = R.SRC_DERATE_CFG m) : n = m := by
  unfold R.SRC_DERATE_CFG lecBase at h
  exact Fin.ext (by omega)

/-- The law of another channel stays. -/
theorem fld_derateStage_ne (pl : List Byte) (m : Stage) {n k : Fin 4} (hk : k ≠ n) {f : Fld} (hf : f.addr = R.SRC_DERATE_CFG n) :
    (derateStage pl m k).fld f = m.fld f := by
  have h : f.addr ≠ R.SRC_DERATE_CFG k := fun e => hk (derateWord_inj (hf.symm.trans e)).symm
  unfold derateStage
  split
  · rw [Stage.fld_setFld_ne _ _ h, Stage.fld_setFld_ne _ _ h, Stage.fld_setFld_ne _ _ h, Stage.fld_setFld_ne _ _ h]
  · exact Stage.fld_setFld_ne _ _ h
  · exact Stage.fld_setFld_ne _ _ h

/-- A field of the law of a named channel. -/
theorem fld_derateStage_each {pl : List Byte} {n : Fin 4} {f : Fld} (hf : f.addr = R.SRC_DERATE_CFG n) {v : Nat}
    (hp : ∀ m, (derateStage pl m n).fld f = v) (m : Stage) (h : bit (byteAt pl 0) n.val = true) :
    (m.each (byteAt pl 0) (derateStage pl)).fld f = v := by
  refine foldl_mask_named (f := derateStage pl) (P := fun x => x.fld f = v) hp (fun x k hx => ?_) m h
  by_cases hk : k = n
  · exact hk ▸ hp x
  · exact (fld_derateStage_ne pl x hk hf).trans hx

theorem fld_derateStage_set {pl : List Byte} (h0 : byteAt pl 1 = 0) (hr : derateRanges pl) (m : Stage) (n : Fin 4) :
    let t := derateStage pl m n
    t.fld (F.SRC_DERATE_CFG_KNEE n) = byteAt pl 2 ∧ t.fld (F.SRC_DERATE_CFG_SLOPE n) = byteAt pl 3 ∧
      t.fld (F.SRC_DERATE_CFG_FLOOR n) = byteAt pl 4 ∧ t.fld (F.SRC_DERATE_CFG_TSEL n) = byteAt pl 5 := by
  obtain ⟨-, -, -, h3, -, h4, h5⟩ := hr
  have hknee : apart (F.SRC_DERATE_CFG_SLOPE n) (F.SRC_DERATE_CFG_KNEE n) = true ∧ apart (F.SRC_DERATE_CFG_FLOOR n) (F.SRC_DERATE_CFG_KNEE n) = true ∧
      apart (F.SRC_DERATE_CFG_TSEL n) (F.SRC_DERATE_CFG_KNEE n) = true := by clear * -; decide +revert
  have hslope : apart (F.SRC_DERATE_CFG_FLOOR n) (F.SRC_DERATE_CFG_SLOPE n) = true ∧
      apart (F.SRC_DERATE_CFG_TSEL n) (F.SRC_DERATE_CFG_SLOPE n) = true ∧
      apart (F.SRC_DERATE_CFG_TSEL n) (F.SRC_DERATE_CFG_FLOOR n) = true := by clear * -; decide +revert
  have heq : derateStage pl m n = (((m.setFld (F.SRC_DERATE_CFG_KNEE n) (byteAt pl 2)).setFld (F.SRC_DERATE_CFG_SLOPE n) (byteAt pl 3)).setFld
      (F.SRC_DERATE_CFG_FLOOR n) (byteAt pl 4)).setFld (F.SRC_DERATE_CFG_TSEL n) (byteAt pl 5) := by
    unfold derateStage
    rw [h0]
    rfl
  dsimp only
  rw [heq]
  refine ⟨?_, ?_, ?_, ?_⟩
  · rw [Stage.fld_setFld_apart _ _ hknee.2.2, Stage.fld_setFld_apart _ _ hknee.2.1, Stage.fld_setFld_apart _ _ hknee.1]
    exact Stage.fld_setFld _ (show 0 + 8 ≤ 32 by decide) (byteAt_lt pl 2)
  · rw [Stage.fld_setFld_apart _ _ hslope.2.1, Stage.fld_setFld_apart _ _ hslope.1]
    exact Stage.fld_setFld _ (show 8 + 7 ≤ 32 by decide) (show _ < 128 by omega)
  · rw [Stage.fld_setFld_apart _ _ hslope.2.2]
    exact Stage.fld_setFld _ (show 16 + 7 ≤ 32 by decide) (show _ < 128 by omega)
  · exact Stage.fld_setFld _ (show 24 + 2 ≤ 32 by decide) (show _ < 4 by omega)

theorem fld_derateStage_armed {pl : List Byte} (h : byteAt pl 1 = 1 ∨ byteAt pl 1 = 2) (m : Stage) (n : Fin 4) :
    (derateStage pl m n).fld (F.SRC_DERATE_CFG_ARMED n) = 2 - byteAt pl 1 := by
  unfold derateStage
  rcases h with h | h
  all_goals
    rw [h]
    exact Stage.fld_setFld _ (show 31 + 1 ≤ 32 by decide) (show _ < 2 ^ 1 by decide)

/-- SET_DERATE, as O19 states it. -/
theorem setDerate_spec {p : Fin 3} {mb : Fin 6} {flags seq : Nat} {pl : List Byte} {s : State} (a : s.Asks p mb 0x0D flags seq pl)
    (hf : DerateForm pl) :
    ∃ t, exec (.setDerate p mb) s = .next t ∧
      (byteAt pl 1 = 0 → 60 ≤ byteAt pl 2 → byteAt pl 2 ≤ 140 → 5 ≤ byteAt pl 3 → byteAt pl 3 ≤ 100 → 10 ≤ byteAt pl 4 →
        byteAt pl 4 ≤ 100 → byteAt pl 5 ≤ 2 → ∃ m, s.stages t p mb 0x0D seq m ∧
        ∀ n : Fin 4, bit (byteAt pl 0) n.val = true →
          m.fld (F.SRC_DERATE_CFG_KNEE n) = byteAt pl 2 ∧ m.fld (F.SRC_DERATE_CFG_SLOPE n) = byteAt pl 3 ∧
          m.fld (F.SRC_DERATE_CFG_FLOOR n) = byteAt pl 4 ∧ m.fld (F.SRC_DERATE_CFG_TSEL n) = byteAt pl 5) ∧
      (byteAt pl 1 = 1 ∨ byteAt pl 1 = 2 ∧ lightMode s.mode = false → ∃ m, s.stages t p mb 0x0D seq m ∧
        ∀ n : Fin 4, bit (byteAt pl 0) n.val = true → m.fld (F.SRC_DERATE_CFG_ARMED n) = 2 - byteAt pl 1) ∧
      (byteAt pl 1 = 2 → lightMode s.mode = true → s.replies t p mb 0x0D seq stWRONG_MODE s.fw) := by
  have room : 4 ≤ s.maxPay p := a.roomFor (by rw [hf.len]; decide)
  have hmode : (s.opened p mb seq).mode = s.mode := opened_mode ..
  have taken := fun hact => serve_staged a (· == 0x0D) rfl (fun s _ pl => s.setDerate pl) rfl (by decide) room
    (setDerate_taken (s.opened p mb seq) hf hact)
  refine ⟨_, rfl, fun h0 h1 h2 h3 h4 h5 h6 h7 => ?_, fun h => ?_, fun h2 hl => ?_⟩
  · have hr : derateRanges pl := ⟨h1, h2, h3, h4, h5, h6, h7⟩
    have hset := fld_derateStage_set h0 hr
    exact ⟨_, taken (.inl ⟨h0, hr⟩), fun n hn => ⟨fld_derateStage_each rfl (fun m => (hset m n).1) _ hn,
      fld_derateStage_each rfl (fun m => (hset m n).2.1) _ hn, fld_derateStage_each rfl (fun m => (hset m n).2.2.1) _ hn,
      fld_derateStage_each rfl (fun m => (hset m n).2.2.2) _ hn⟩⟩
  · exact ⟨_, taken (.inr (by rwa [hmode])), fun n hn =>
      fld_derateStage_each rfl (fun m => fld_derateStage_armed (h.imp_right And.left) m n) _ hn⟩
  · exact serve_refused a (· == 0x0D) rfl (fun s _ pl => s.setDerate pl) rfl (by decide) room (by decide)
      (setDerate_light _ hf h2 (by rwa [hmode]))

/-! ### SET_LEVELLING (R128) -/

/-- A SET_LEVELLING request in range. -/
structure LevellingForm (pl : List Byte) : Prop where
  len : pl.length = 20
  mask : 0 < byteAt pl 0 ∧ byteAt pl 0 < 16
  flags : byteAt pl 1 < 8
  zeros : (byteAt pl 2 = 0 ∧ byteAt pl 3 = 0) ∧ byteAt pl 9 = 0 ∧ byteAt pl 18 = 0 ∧ byteAt pl 19 = 0
  id : le32 pl 4 < (if bit (byteAt pl 1) 2 then 2 ^ 29 else 2 ^ 11)
  offset : byteAt pl 8 ≤ 62
  timeout : 2 ≤ le16 pl 16 ∧ le16 pl 16 ≤ 1000

/-- The pitch input of one channel set. -/
def pitchSet (pl : List Byte) (s : State) (n : Fin 4) : State :=
  s.modTut n fun t => { t with pitch := pitchOf pl, pitchTick := s.tb.toNat }

/-- The aim and the limits of one channel staged. -/
def aimStage (pl : List Byte) (m : Stage) (n : Fin 4) : Stage :=
  ((m.setFld (F.WRP_AIM_AIM n) (le16 pl 10)).setFld (F.WRP_OFF_LIM_MIN n) (le16 pl 12)).setFld (F.WRP_OFF_LIM_MAX n) (le16 pl 14)

theorem setLevelling_eq (s : State) {pl : List Byte} (h : LevellingForm pl) : s.setLevelling pl =
    (s.forMask (byteAt pl 0) (pitchSet pl)).staged fun m => m.each (byteAt pl 0) (aimStage pl) := by
  obtain ⟨hl, ⟨h0, h16⟩, hfl, ⟨⟨h2, h3⟩, h9, h18, h19⟩, hid, hoff, hto⟩ := h
  have two : ∀ i, byteAt pl i = 0 → byteAt pl (i + 1) = 0 → zeroAt pl i 2 = true := fun i hi hj => zeroAt_iff.mpr fun j hj2 => by
    match j, hj2 with
    | 0, _ => exact hi
    | 1, _ => exact hj
  have hz : zeroAt pl 9 1 = true := zeroAt_iff.mpr (by simp [h9])
  unfold setLevelling
  dsimp only
  rw [if_neg (by simp [hl]), if_neg]
  · rfl
  · simp only [two 2 h2 h3, hz, two 18 h18 h19, hid, hoff, hto, hfl, maskOk, h0, h16]
    decide

/-- The aim and the limits that are staged for one channel. -/
def aimIs (pl : List Byte) (n : Fin 4) (m : Stage) : Prop :=
  m.fld (F.WRP_AIM_AIM n) = le16 pl 10 ∧ m.fld (F.WRP_OFF_LIM_MIN n) = le16 pl 12 ∧ m.fld (F.WRP_OFF_LIM_MAX n) = le16 pl 14

theorem aimStage_is (pl : List Byte) (m : Stage) (n : Fin 4) : aimIs pl n (aimStage pl m n) := by
  have hap : apart (F.WRP_OFF_LIM_MIN n) (F.WRP_AIM_AIM n) = true ∧ apart (F.WRP_OFF_LIM_MAX n) (F.WRP_AIM_AIM n) = true ∧
      apart (F.WRP_OFF_LIM_MAX n) (F.WRP_OFF_LIM_MIN n) = true := by clear * -; decide +revert
  unfold aimStage
  refine ⟨?_, ?_, ?_⟩
  · rw [Stage.fld_setFld_apart _ _ hap.2.1, Stage.fld_setFld_apart _ _ hap.1]
    exact Stage.fld_setFld _ (show 0 + 16 ≤ 32 by decide) (le16_lt pl 10)
  · rw [Stage.fld_setFld_apart _ _ hap.2.2]
    exact Stage.fld_setFld _ (show 0 + 16 ≤ 32 by decide) (le16_lt pl 12)
  · exact Stage.fld_setFld _ (show 16 + 16 ≤ 32 by decide) (le16_lt pl 14)

theorem aimStage_keeps (pl : List Byte) {m : Stage} {n : Fin 4} (k : Fin 4) (h : aimIs pl n m) : aimIs pl n (aimStage pl m k) := by
  by_cases hk : k = n
  · exact hk ▸ aimStage_is pl m k
  · have hne : ∀ {f : Fld}, f.addr = R.WRP_AIM n ∨ f.addr = R.WRP_OFF_LIM n → (aimStage pl m k).fld f = m.fld f := fun {f} hf => by
      have hv : k.val ≠ n.val := fun e => hk (Fin.ext e)
      have h1 : f.addr ≠ R.WRP_AIM k ∧ f.addr ≠ R.WRP_OFF_LIM k := by
        unfold R.WRP_AIM R.WRP_OFF_LIM lecBase at *
        omega
      unfold aimStage
      rw [Stage.fld_setFld_ne _ _ h1.2, Stage.fld_setFld_ne _ _ h1.2, Stage.fld_setFld_ne _ _ h1.1]
    obtain ⟨haim, hmin, hmax⟩ := h
    exact ⟨(hne (.inl rfl)).trans haim, (hne (.inr rfl)).trans hmin, (hne (.inr rfl)).trans hmax⟩

/-- The pitch input of a channel, set now. -/
def pitchIs (pl : List Byte) (n : Fin 4) (s : State) : Prop := (s.ch n).tut.pitch = pitchOf pl ∧ (s.ch n).tut.pitchTick = s.tb.toNat

theorem pitchSet_is (pl : List Byte) (s : State) (n : Fin 4) : pitchIs pl n (pitchSet pl s n) := by
  unfold pitchIs pitchSet modTut
  rw [ch_modCh]
  exact ⟨rfl, rfl⟩

theorem pitchSet_keeps (pl : List Byte) {s : State} {n : Fin 4} (k : Fin 4) (h : pitchIs pl n s) : pitchIs pl n (pitchSet pl s k) := by
  by_cases hk : k = n
  · exact hk ▸ pitchSet_is pl s k
  · unfold pitchIs pitchSet modTut
    rw [ch_modCh_ne _ _ (Ne.symm hk)]
    exact h

/-- SET_LEVELLING, as O19 states it. -/
theorem setLevelling_spec {p : Fin 3} {mb : Fin 6} {flags seq : Nat} {pl : List Byte} {s : State} (a : s.Asks p mb 0x12 flags seq pl)
    (hf : LevellingForm pl) :
    ∃ t, exec (.setLevelling p mb) s = .next t ∧ t.answered p mb 0x12 seq stOK 0 [] ∧
      s.regsKeep t [R.MBX_HSTAT, R.MBX_IRQ_STATUS] ∧ t.dram = s.dram ∧ t.strm = s.strm ∧
      ∀ n : Fin 4, bit (byteAt pl 0) n.val = true → (t.ch n).tut.pitch = State.pitchOf pl ∧ (t.ch n).tut.pitchTick = s.tb.toNat ∧
        t.fw.stage.fld (F.WRP_AIM_AIM n) = le16 pl 10 ∧ t.fw.stage.fld (F.WRP_OFF_LIM_MIN n) = le16 pl 12 ∧
        t.fw.stage.fld (F.WRP_OFF_LIM_MAX n) = le16 pl 14 := by
  generalize hu : s.opened p mb seq = u
  have keep {β : Type} (g : State → β) (hg : ∀ u n, g (pitchSet pl u n) = g u) : g (u.forMask (byteAt pl 0) (pitchSet pl)) = g u :=
    forMask_keeps g hg _ u
  have hpitch : ∀ n : Fin 4, bit (byteAt pl 0) n.val = true → pitchIs pl n (u.forMask (byteAt pl 0) (pitchSet pl)) := fun n hn =>
    foldl_mask_named (f := pitchSet pl) (fun v => pitchSet_is pl v n) (fun v k hv => pitchSet_keeps pl k hv) u hn
  have htb : (u.forMask (byteAt pl 0) (pitchSet pl)).tb = s.tb := (keep (·.tb) fun _ _ => rfl).trans (hu ▸ opened_tb ..)
  have heq := u.setLevelling_eq hf
  generalize hv : u.forMask (byteAt pl 0) (pitchSet pl) = v at *
  obtain ⟨hans, hmail, hend⟩ := serve_performs a (· == 0x12) rfl (fun s _ pl => s.setLevelling pl) rfl (by decide) hu
    heq (by decide) (a.roomFor (by rw [hf.len]; decide)) (by rw [restage_port, keep (·.port p) fun _ _ => rfl])
  refine ⟨_, rfl, hans, fun x hx => ?_, ?_, ?_, fun n hn => ?_⟩
  · rw [hmail.regs x hx, restage_get, keep (·.get x) fun _ _ => rfl, ← hu, (opened_mailOnly ..).regs x hx]
  · rw [hmail.dram, restage_dram, keep (·.dram) fun _ _ => rfl, ← hu, opened_dram]
  · rw [hmail.banks.2.2.1, restage_strm, keep (·.strm) fun _ _ => rfl, ← hu, opened_strm]
  · obtain ⟨hp, htick⟩ := hpitch n hn
    have hch : (s.serve p mb (· == 0x12) fun s _ pl => s.setLevelling pl).ch n = v.ch n := by
      rw [ch, hmail.lec, restage_lec, ch]
    rw [hch, hend]
    exact ⟨hp, htick.trans (by rw [htb]), foldl_mask_named (f := aimStage pl) (P := aimIs pl n) (fun m => aimStage_is pl m n)
      (fun m k hm => aimStage_keeps pl k hm) _ hn⟩

end State

/-- Settles O19: SET_DERATE and SET_LEVELLING stage channel by channel (`Stage.each`). -/
theorem derateAndLevellingStage : Obligations.DerateAndLevellingStage :=
  fun _ _ _ _ _ _ h0 h16 => ⟨fun a hl h6 h7 => setDerate_spec a ⟨hl, ⟨h0, h16⟩, h6, h7⟩,
    fun a hl h1 h2 h3 h9 h18 h19 hid hoff hlo hhi => setLevelling_spec a ⟨hl, ⟨h0, h16⟩, h1, ⟨⟨h2, h3⟩, h9, h18, h19⟩, hid, hoff, hlo, hhi⟩⟩

end Sys2Proof.Machine
end

section
/-! SUPPORT. Register words written one after another, and requests read as bytes and words. -/

set_option Elab.async false

namespace Sys2Proof.Machine
open State

/-! ### Requests -/

theorem byteAt_append {l m : List Byte} {i : Nat} (h : i < l.length) : byteAt (l ++ m) i = byteAt l i := by
  simp [byteAt, List.getElem?_append_left h]

theorem byteAt_append_add (l m : List Byte) (i : Nat) : byteAt (l ++ m) (l.length + i) = byteAt m i := by
  simp [byteAt, List.getElem?_append_right]

theorem le32_append_add (l m : List Byte) (i : Nat) : le32 (l ++ m) (l.length + i) = le32 m i := by
  simp only [le32, le16, Nat.add_assoc, byteAt_append_add]

/-- The words of a list after one another as bytes. -/
def wordBytes (ws : List Word) : List Byte := (ws.map fun w => leBytes 4 w.toNat).flatten

theorem wordBytes_length (ws : List Word) : (wordBytes ws).length = 4 * ws.length := by
  simp [wordBytes, List.length_flatten, Function.comp_def, Nat.mul_comm]

theorem le32_wordBytes (ws : List Word) (k : Nat) : le32 (wordBytes ws) (4 * k) = (ws.getD k 0).toNat := by
  induction ws generalizing k with
  | nil => simp [wordBytes, le32, le16, byteAt]
  | cons w ws ih =>
    have hc : wordBytes (w :: ws) = leBytes 4 w.toNat ++ wordBytes ws := by simp [wordBytes]
    cases k with
    | zero =>
      have h := le32_leBytes w.isLt
      simp only [le32, le16] at h ⊢
      rw [hc, byteAt_append (by simp), byteAt_append (by simp), byteAt_append (by simp), byteAt_append (by simp)]
      exact h
    | succ k =>
      have h := le32_append_add (leBytes 4 w.toNat) (wordBytes ws) (4 * k)
      rw [leBytes_length] at h
      rw [hc, Nat.mul_succ, Nat.add_comm, h, ih]
      rfl

theorem zeroAt_one {pl : List Byte} {i : Nat} : zeroAt pl i 1 = true ↔ byteAt pl i = 0 := by
  rw [zeroAt_iff]
  exact ⟨fun h => h 0 (by decide), fun h j hj => by rw [show j = 0 by omega]; exact h⟩

theorem zeroAt_two {pl : List Byte} {i : Nat} : zeroAt pl i 2 = true ↔ byteAt pl i = 0 ∧ byteAt pl (i + 1) = 0 := by
  rw [zeroAt_iff]
  refine ⟨fun h => ⟨h 0 (by decide), h 1 (by decide)⟩, fun ⟨h0, h1⟩ j hj => ?_⟩
  obtain rfl | rfl : j = 0 ∨ j = 1 := by omega
  · exact h0
  · exact h1

/-! ### Words written -/

namespace State

/-- Register words of a set may differ, and nothing else does. -/
structure Puts (A : Nat → Prop) (s t : State) : Prop where
  rest : t = s.setRegs t.regs
  word : ∀ x, ¬ A x → t.get x = s.get x

namespace Puts
variable {A B : Nat → Prop} {s t u : State}

theorem refl (s : State) : Puts A s s := ⟨rfl, fun _ _ => rfl⟩

theorem trans (h : Puts A s t) (k : Puts A t u) : Puts A s u :=
  ⟨by rw [k.rest, h.rest]; rfl, fun x hx => (k.word x hx).trans (h.word x hx)⟩

theorem mono (h : Puts A s t) (k : ∀ x, A x → B x) : Puts B s t :=
  ⟨h.rest, fun x hx => h.word x fun ha => hx (k x ha)⟩

theorem put (h : Puts A s t) {a v : Nat} (ha : A a) : Puts A s (t.put a v) :=
  h.trans ⟨rfl, fun _ hx => get_put_ne _ _ (fun e => hx (e ▸ ha))⟩

theorem wr (h : Puts A s t) {f : Fld} {v : Nat} (ha : A f.addr) : Puts A s (t.wr f v) := h.put ha

theorem wrB (h : Puts A s t) {f : Fld} {b : Bool} (ha : A f.addr) : Puts A s (t.wrB f b) := h.put ha

theorem ite {c : Prop} {_ : Decidable c} (h : Puts A s t) (k : Puts A s u) : Puts A s (if c then t else u) := by
  split
  · exact h
  · exact k

theorem foldl {α : Type} {l : List α} {f : State → α → State} (h : Puts A s t) (k : ∀ u x, x ∈ l → Puts A s u → Puts A s (f u x)) :
    Puts A s (l.foldl f t) := by
  induction l generalizing t with
  | nil => exact h
  | cons x l ih => exact ih (k t x (.head _) h) fun u y hy => k u y (.tail x hy)

theorem dram (h : Puts A s t) : t.dram = s.dram := by rw [h.rest]; rfl
theorem lec (h : Puts A s t) : t.lec = s.lec := by rw [h.rest]; rfl
theorem mbx (h : Puts A s t) : t.mbx = s.mbx := by rw [h.rest]; rfl
theorem fw (h : Puts A s t) : t.fw = s.fw := by rw [h.rest]; rfl
theorem port (h : Puts A s t) (p : Fin 3) : t.port p = s.port p := by rw [h.rest]; rfl
theorem tb (h : Puts A s t) : t.tb = s.tb := by rw [h.rest]; rfl

/-- Everything but firmware's mailboxes and the words of the set. -/
theorem regsKeep (h : Puts A s t) {l : List Nat} (k : ∀ x, A x → x ∈ l) : s.regsKeep t l := fun x hx => h.word x (hx ∘ k x)

end Puts

/-- Taking a message changes no word of a channel. -/
theorem opened_window (s : State) (p : Fin 3) (mb : Fin 6) (q : Nat) {n : Fin 4} {a : Nat} (h : lecBase n ≤ a) :
    (s.opened p mb q).get a = s.get a := opened_get s p mb q (by unfold lecBase at h; simp only [R.MBX_HSTAT]; omega)

theorem opened_windowFld (s : State) (p : Fin 3) (mb : Fin 6) (q : Nat) {n : Fin 4} {f : Fld} (h : lecBase n ≤ f.addr) :
    (s.opened p mb q).rd f = s.rd f := rd_congr (opened_window s p mb q h)

/-! ### Loop contexts -/

@[simp] theorem tu_modTut (s : State) (n : Fin 4) (f : TutRun → TutRun) : (s.modTut n f).tu n = f (s.tu n) := by simp [modTut, tu]

theorem tu_modTut_ne (s : State) {n m : Fin 4} (f : TutRun → TutRun) (h : m ≠ n) : (s.modTut n f).tu m = s.tu m := by
  simp [modTut, tu, ch_modCh_ne s _ h]

@[simp] theorem ctx_modCtx (s : State) (n c : Fin 4) (f : CtxRun → CtxRun) : (s.modCtx n c f).ctx n c = f (s.ctx n c) := by
  simp [modCtx, ctx]

section
variable {α : Type} (a v : α → Nat)

/-- Words written at the addresses of a list. -/
def putEach (l : List α) (s : State) : State := l.foldl (fun s i => s.put (a i) (v i)) s

theorem putEach_puts (l : List α) (s : State) : Puts (fun x => ∃ i ∈ l, a i = x) s (s.putEach a v l) :=
  (Puts.refl s).foldl fun _ i hi h => h.put ⟨i, hi, rfl⟩

/-- A word written once is read as written. -/
theorem putEach_get {l : List α} (s : State) {i : α} (hi : i ∈ l) (h : ∀ j ∈ l, a j = a i → j = i) :
    (s.putEach a v l).get (a i) = v i % 2 ^ 32 := by
  induction l generalizing s with
  | nil => simp at hi
  | cons j l ih =>
    rw [show s.putEach a v (j :: l) = (s.put (a j) (v j)).putEach a v l from rfl]
    by_cases hl : i ∈ l
    · exact ih _ hl fun k hk => h k (.tail _ hk)
    · obtain rfl : i = j := by simpa [hl] using hi
      rw [(putEach_puts a v l _).word _ fun ⟨k, hk, e⟩ => hl (h k (.tail _ hk) e ▸ hk), get_put_self]

end

end State
end Sys2Proof.Machine
end

section
/-! SUPPORT. LOOP_LOAD_MATRIX and TIMETABLE_LOAD (R143, R144). -/

set_option Elab.async false

namespace Sys2Proof.Machine
open State
namespace State

/-! ### LOOP_LOAD_MATRIX (R144) -/

/-- The entries of a matrix in matrix memory, row by row. -/
def matCells (m : Nat) : List (Nat × Nat) :=
  (List.range (matLimit m).1).flatMap fun i => (List.range (matLimit m).2).map fun j => (i, j)

/-- The word of matrix memory that holds an entry. -/
def matWord (n c : Fin 4) (m : Nat) (p : Nat × Nat) : Nat := R.TUT_CTXc_MAT n c.val ((matPlace m).1 + (matPlace m).2 * p.1 + p.2)

/-- The entry that a request gives. -/
def matEntry (rows cols : Nat) (pl : List Byte) (p : Nat × Nat) : Nat :=
  if p.1 < rows ∧ p.2 < cols then le32 pl (12 + 4 * (cols * p.1 + p.2)) else 0

theorem mem_matCells {m : Nat} {p : Nat × Nat} : p ∈ matCells m ↔ p.1 < (matLimit m).1 ∧ p.2 < (matLimit m).2 := by
  obtain ⟨i, j⟩ := p
  simp [matCells, List.mem_flatMap]

theorem putMatrix_eq (s : State) (n c : Fin 4) (m rows cols : Nat) (pl : List Byte) :
    s.putMatrix n c m rows cols pl = s.putEach (matWord n c m) (matEntry rows cols pl) (matCells m) := by
  simp [putMatrix, putEach, matCells, List.foldl_flatMap, List.foldl_map, matWord, matEntry]

/-- The rows of a matrix stand one after another (R330). -/
theorem matPlace_row (m : Nat) : (matPlace m).2 = (matLimit m).2 := by
  unfold matPlace matLimit
  split <;> rfl

theorem matWord_inj {n c : Fin 4} {m : Nat} {p q : Nat × Nat} (hp : p ∈ matCells m) (hq : q ∈ matCells m)
    (h : matWord n c m p = matWord n c m q) : p = q := by
  obtain ⟨-, hp⟩ := mem_matCells.mp hp
  obtain ⟨-, hq⟩ := mem_matCells.mp hq
  unfold matWord R.TUT_CTXc_MAT at h
  rw [matPlace_row] at h
  have he : (matLimit m).2 * p.1 + p.2 = (matLimit m).2 * q.1 + q.2 := by omega
  have h2 : p.2 = q.2 := by
    have := congrArg (· % (matLimit m).2) he
    simpa [Nat.mul_add_mod, Nat.mod_eq_of_lt hp, Nat.mod_eq_of_lt hq] using this
  have h1 : p.1 = q.1 := Nat.eq_of_mul_eq_mul_left (by omega) (show (matLimit m).2 * p.1 = (matLimit m).2 * q.1 by omega)
  exact Prod.ext h1 h2

theorem matWord_ne_ctrl (n c : Fin 4) (m : Nat) (p : Nat × Nat) : matWord n c m p ≠ R.TUT_CTXc_CTRL n c.val := by
  have hc := c.isLt
  unfold matWord R.TUT_CTXc_MAT R.TUT_CTXc_CTRL
  omega

/-- The dimensions go into the control word. -/
theorem putDims_puts (s : State) (n c : Fin 4) (m rows cols : Nat) : Puts (· = R.TUT_CTXc_CTRL n c.val) s (s.putDims n c m rows cols) := by
  unfold putDims
  obtain ⟨d1, d2, d3⟩ := matDims m rows cols
  have one : ∀ (u : State) (f : Fld) (v : Option Nat), f.addr = R.TUT_CTXc_CTRL n c.val →
      Puts (· = R.TUT_CTXc_CTRL n c.val) u (match v with | some k => u.wr f (k - 1) | none => u) := by
    intro u f v hf
    cases v with
    | none => exact .refl u
    | some k => exact (Puts.refl u).wr hf
  exact ((one _ _ d1 rfl).trans (one _ _ d2 rfl)).trans (one _ _ d3 rfl)

/-- The machine with a matrix loaded. -/
def matrixLoaded (s : State) (n c : Fin 4) (m rows cols : Nat) (pl : List Byte) : State :=
  ((s.putMatrix n c m rows cols pl).putDims n c m rows cols).modCtx n c fun k =>
    { k with loaded := (k.loaded.filter fun l => l.1 != m) ++ [(m, rows, cols)] }

/-- The bytes of a LOOP_LOAD_MATRIX request of one matrix. -/
structure MatrixForm (pl : List Byte) (n c : Fin 4) (m rows cols : Nat) (ws : List Word) : Prop where
  len : pl.length = 12 + 4 * ws.length
  chn : byteAt pl 4 = n.val
  ctx : byteAt pl 5 = c.val
  mat : byteAt pl 6 = m
  row : byteAt pl 8 = rows
  col : byteAt pl 9 = cols
  zero7 : byteAt pl 7 = 0
  zero10 : byteAt pl 10 = 0 ∧ byteAt pl 11 = 0
  word : ∀ k, le32 pl (12 + 4 * k) = (ws.getD k 0).toNat

theorem matrixForm {num m rows cols : Nat} {ws : List Word} {n c : Fin 4} (hm : m < 256) (hr : rows < 256) (hc : cols < 256) :
    MatrixForm (leBytes 4 num ++ leBytes 1 n.val ++ leBytes 1 c.val ++ leBytes 1 m ++ [0] ++ leBytes 1 rows ++ leBytes 1 cols ++ [0, 0] ++
      wordBytes ws) n c m rows cols ws := by
  have hn : n.val < 256 := by omega
  have hc' : c.val < 256 := by omega
  have hw := fun k => le32_append_add (leBytes 4 num ++ leBytes 1 n.val ++ leBytes 1 c.val ++ leBytes 1 m ++ [0] ++ leBytes 1 rows ++
    leBytes 1 cols ++ [0, 0]) (wordBytes ws) (4 * k)
  refine ⟨?_, ?_, ?_, ?_, ?_, ?_, ?_, ?_, fun k => ?_⟩
  · simp [wordBytes_length]; omega
  · simp [leBytes, byteAt]; omega
  · simp [leBytes, byteAt]; omega
  · simp [leBytes, byteAt]; omega
  · simp [leBytes, byteAt]; omega
  · simp [leBytes, byteAt]; omega
  · simp [leBytes, byteAt]
  · simp [leBytes, byteAt]
  · have h := hw k
    simp only [List.length_append, leBytes_length, List.length_cons, List.length_nil] at h
    rw [← le32_wordBytes, ← h]

theorem matEntry_form {pl : List Byte} {n c : Fin 4} {m rows cols : Nat} {ws : List Word} (f : MatrixForm pl n c m rows cols ws) (i j : Nat) :
    matEntry rows cols pl (i, j) = if i < rows ∧ j < cols then (ws.getD (cols * i + j) 0).toNat else 0 := by
  rw [matEntry, f.word]

/-- LOOP_LOAD_MATRIX of a request in range. -/
theorem loopLoadMatrix_taken (s : State) {pl : List Byte} {n c : Fin 4} {m rows cols : Nat} {ws : List Word} (f : MatrixForm pl n c m rows cols ws)
    (hl : ws.length = rows * cols) (hm : m ≤ 5) (hr : 1 ≤ rows ∧ rows ≤ (matLimit m).1) (hc : 1 ≤ cols ∧ cols ≤ (matLimit m).2)
    (hq : ∀ w ∈ ws, q27Ok w.toNat = true) (ha : matAgrees (s.ctx n c).loaded m rows cols = true) :
    s.loopLoadMatrix pl = if s.tutorIdle n then ⟨s.matrixLoaded n c m rows cols pl, stOK, 0, []⟩ else refuse s stBUSY 0 := by
  have hchan : ∀ k : Fin 4, chan k.val = k := by decide
  have hall : (List.range (rows * cols)).all (fun i => q27Ok (le32 pl (12 + 4 * i))) = true := by
    rw [List.all_eq_true]
    intro i hi
    have hi : i < ws.length := hl ▸ List.mem_range.mp hi
    rw [f.word, List.getD_eq_getElem _ _ hi]
    exact hq _ (List.getElem_mem hi)
  unfold loopLoadMatrix
  simp only [f.chn, f.ctx, f.mat, f.row, f.col, hchan]
  rw [if_neg (by simp [f.len, hl, Nat.mul_assoc]), if_neg (by simp [zeroAt_one.mpr f.zero7, zeroAt_two.mpr f.zero10, hall, ha, hm, hr, hc, n.isLt, c.isLt])]
  cases s.tutorIdle n <;> rfl

theorem opened_tutorIdle (s : State) (p : Fin 3) (mb : Fin 6) (q : Nat) (n : Fin 4) : (s.opened p mb q).tutorIdle n = s.tutorIdle n := by
  have h : ∀ c : Nat, (s.opened p mb q).on (F.TUT_CTXc_CTRL_EN n c) = s.on (F.TUT_CTXc_CTRL_EN n c) := fun c =>
    on_congr (opened_windowFld s p mb q (n := n) (show lecBase n ≤ R.TUT_CTXc_CTRL n c by unfold R.TUT_CTXc_CTRL; omega))
  simp [tutorIdle, h]

/-- The words of a loaded matrix and its dimensions. -/
theorem matrixPut_puts (s : State) (n c : Fin 4) (m rows cols : Nat) (pl : List Byte) :
    Puts (fun x => (∃ p ∈ matCells m, matWord n c m p = x) ∨ x = R.TUT_CTXc_CTRL n c.val) s
      ((s.putMatrix n c m rows cols pl).putDims n c m rows cols) := by
  rw [putMatrix_eq]
  exact ((putEach_puts ..).mono fun _ => .inl).trans ((putDims_puts ..).mono fun _ => .inr)

theorem matrixLoaded_port (s : State) (n c : Fin 4) (m rows cols : Nat) (pl : List Byte) (p : Fin 3) :
    (s.matrixLoaded n c m rows cols pl).port p = s.port p := (matrixPut_puts ..).port p
theorem matrixLoaded_dram (s : State) (n c : Fin 4) (m rows cols : Nat) (pl : List Byte) :
    (s.matrixLoaded n c m rows cols pl).dram = s.dram := (matrixPut_puts ..).dram
theorem matrixLoaded_fw (s : State) (n c : Fin 4) (m rows cols : Nat) (pl : List Byte) :
    (s.matrixLoaded n c m rows cols pl).fw = s.fw := (matrixPut_puts ..).fw

theorem matWord_ne_mailbox (n c : Fin 4) (m : Nat) (p : Nat × Nat) : matWord n c m p ≠ R.MBX_HSTAT ∧ matWord n c m p ≠ R.MBX_IRQ_STATUS := by
  simp only [matWord, R.TUT_CTXc_MAT, lecBase, R.MBX_HSTAT, R.MBX_IRQ_STATUS]
  omega

/-- The machine with a matrix loaded, beside its registers: the context knows its matrices. -/
theorem matrixLoaded_ctx (s : State) (n c : Fin 4) (m rows cols : Nat) (pl : List Byte) :
    (m, rows, cols) ∈ ((s.matrixLoaded n c m rows cols pl).ctx n c).loaded := by
  simp [matrixLoaded, ctx_modCtx]

/-- The registers of the machine with a matrix loaded. -/
theorem matrixLoaded_get (s : State) (n c : Fin 4) (m rows cols : Nat) (pl : List Byte) (a : Nat) :
    (s.matrixLoaded n c m rows cols pl).get a = ((s.putEach (matWord n c m) (matEntry rows cols pl) (matCells m)).putDims n c m rows cols).get a := by
  rw [← putMatrix_eq]
  rfl

theorem matrixLoaded_cell (s : State) (n c : Fin 4) (m rows cols : Nat) (pl : List Byte) {p : Nat × Nat} (hp : p ∈ matCells m) :
    (s.matrixLoaded n c m rows cols pl).get (matWord n c m p) = matEntry rows cols pl p := by
  have hlt : matEntry rows cols pl p < 2 ^ 32 := by
    unfold matEntry
    split
    · exact le32_lt ..
    · decide
  rw [matrixLoaded_get, (putDims_puts ..).word _ (matWord_ne_ctrl n c m p),
    putEach_get _ _ s hp fun q hq e => matWord_inj hq hp e, Nat.mod_eq_of_lt hlt]

theorem matrixLoaded_word (s : State) (n c : Fin 4) (m rows cols : Nat) (pl : List Byte) {a : Nat} (h : a ≠ R.TUT_CTXc_CTRL n c.val)
    (hm : ∀ p ∈ matCells m, matWord n c m p ≠ a) : (s.matrixLoaded n c m rows cols pl).get a = s.get a := by
  rw [matrixLoaded_get, (putDims_puts ..).word _ h, (putEach_puts ..).word _ fun ⟨p, hp, e⟩ => hm p hp e]

theorem loopLoadMatrix_spec {mb : Fin 6} {flags seq m rows cols : Nat} {pl : List Byte} {ws : List Word} {n c : Fin 4} {s : State}
    (a : s.Asks 0 mb 0x8C flags seq pl) (f : MatrixForm pl n c m rows cols ws) (hl : ws.length = rows * cols) (hm : m ≤ 5)
    (hr : 1 ≤ rows ∧ rows ≤ (matLimit m).1) (hc : 1 ≤ cols ∧ cols ≤ (matLimit m).2) (hq : ∀ w ∈ ws, q27Ok w.toNat = true)
    (ha : matAgrees (s.ctx n c).loaded m rows cols = true) :
    ∃ t, exec (.loopLoadMatrix 0 mb) s = .next t ∧ t.dram = s.dram ∧ t.fw = s.fw ∧
      (s.tutorIdle n = false → s.performs t 0 mb 0x8C seq stBUSY 0 []) ∧
      (s.tutorIdle n = true → t.answered 0 mb 0x8C seq stOK 0 [] ∧ (m, rows, cols) ∈ (t.ctx n c).loaded ∧
        (∀ p ∈ matCells m, t.get (matWord n c m p) = matEntry rows cols pl p) ∧
        s.regsKeep t (R.MBX_HSTAT :: R.MBX_IRQ_STATUS :: R.TUT_CTXc_CTRL n c.val :: (matCells m).map (matWord n c m))) := by
  have hroom := a.roomFor (by rw [f.len]; omega)
  have he : exec (.loopLoadMatrix 0 mb) s = .next (s.serve 0 mb (· == 0x8C) fun s _ pl => s.loopLoadMatrix pl) := rfl
  have hh := loopLoadMatrix_taken (s.opened 0 mb seq) f hl hm hr hc hq (by simpa [ctx, tu] using ha)
  rw [opened_tutorIdle] at hh
  cases hi : s.tutorIdle n with
  | false =>
    rw [hi, if_neg (by decide)] at hh
    have hp := serve_refused a (· == 0x8C) rfl (fun s _ pl => s.loopLoadMatrix pl) rfl (by decide) hroom (by decide) hh
    exact ⟨_, he, hp.2.1.dram, hp.2.2, fun _ => hp, fun h => absurd h (by decide)⟩
  | true =>
    rw [hi, if_pos rfl] at hh
    have hp := serve_performs a (· == 0x8C) rfl (fun s _ pl => s.loopLoadMatrix pl) rfl (by decide) rfl hh (by decide) hroom
      (by rw [matrixLoaded_port])
    obtain ⟨hans, hkeep, hfw⟩ := hp
    have hg : ∀ x, x ≠ R.MBX_HSTAT → x ≠ R.MBX_IRQ_STATUS → (s.serve 0 mb (· == 0x8C) fun s _ pl => s.loopLoadMatrix pl).get x =
        ((s.opened 0 mb seq).matrixLoaded n c m rows cols pl).get x := fun x => mailOnly_get hkeep
    refine ⟨_, he, ?_, ?_, fun h => absurd h (by decide), fun _ => ⟨hans, ?_, fun p hp => ?_, fun x hx => ?_⟩⟩
    · rw [hkeep.dram, matrixLoaded_dram, opened_dram]
    · rw [hfw, matrixLoaded_fw, opened_fw]
    · rw [show ∀ u : State, u.ctx n c = (u.lec.get n).tut.ctx.get c from fun _ => rfl, hkeep.lec]
      exact matrixLoaded_ctx ..
    · obtain ⟨h1, h2⟩ := matWord_ne_mailbox n c m p
      rw [hg _ h1 h2, matrixLoaded_cell _ n c m rows cols pl hp]
    · simp only [List.mem_cons, List.mem_map, not_or, not_exists, not_and] at hx
      obtain ⟨h1, h2, h3, h4⟩ := hx
      rw [hg x h1 h2, matrixLoaded_word _ n c m rows cols pl h3 h4, opened_get _ _ _ _ h1]


/-! ### TIMETABLE_LOAD (R143, R198) -/

theorem opened_cap (s : State) (p : Fin 3) (mb : Fin 6) (q : Nat) (n : Fin 4) (i : Nat) : (s.opened p mb q).cap n i = s.cap n i := by
  unfold cap
  rw [opened_ch, opened_window s p mb q (show lecBase n ≤ R.LNK_CAP n (i / 4) by unfold R.LNK_CAP; omega)]

theorem opened_linkMode (s : State) (p : Fin 3) (mb : Fin 6) (q : Nat) (n : Fin 4) : (s.opened p mb q).linkMode n = s.linkMode n := by
  have h : ∀ f : Fld, lecBase n ≤ f.addr → (s.opened p mb q).rd f = s.rd f := fun f => opened_windowFld s p mb q
  unfold linkMode linkUp linkState
  rw [h (F.LNK_MODE_LANES n) (Nat.le_add_right ..), h (F.LNK_MODE_RATE n) (Nat.le_add_right ..),
    h (F.LNK_LIMIT_LANES n) (Nat.le_add_right ..), h (F.LNK_LIMIT_RATE n) (Nat.le_add_right ..), h (F.LNK_STATUS_STATE n) (Nat.le_add_right ..)]

theorem opened_profileNow (s : State) (p : Fin 3) (mb : Fin 6) (q : Nat) : (s.opened p mb q).profileNow = s.profileNow := by
  unfold profileNow profileOf
  rw [opened_mode, opened_fw, opened_rd s p mb q (by decide)]

theorem opened_checkTimes (s : State) (p : Fin 3) (mb : Fin 6) (q : Nat) (m : Stage) (n : Fin 4) (pr : Profile) (mode : Nat × Nat) :
    (s.opened p mb q).checkTimes m n pr mode = s.checkTimes m n pr mode := by
  simp only [checkTimes, nodeBlocks, nodeTmb, nodeSettle, stageOf, nodeCacheKB, cap16, opened_cap]

theorem opened_hasNode (s : State) (p : Fin 3) (mb : Fin 6) (q : Nat) (n : Fin 4) : (s.opened p mb q).hasNode n = s.hasNode n := by
  rw [hasNode, opened_ch, hasNode]

theorem opened_rdC (s : State) (p : Fin 3) (mb : Fin 6) (q : Nat) (f : Fld) : (s.opened p mb q).rdC f = s.rdC f := by
  rw [rdC, getC, opened_comp, rdC, getC]

theorem opened_loadChecks (s : State) (p : Fin 3) (mb : Fin 6) (q : Nat) (n : Fin 4) (fs : List (List Slot)) :
    (s.opened p mb q).loadChecks n fs = s.loadChecks n fs := by
  unfold loadChecks
  simp only [opened_hasNode, nodeType, nodeSources, opened_cap, opened_linkMode, opened_profileNow, opened_fw, opened_checkTimes, opened_rdC]

theorem opened_timetableUsed (s : State) (p : Fin 3) (mb : Fin 6) (q : Nat) (n : Fin 4) (i : Nat) :
    (s.opened p mb q).timetableUsed n i = s.timetableUsed n i := by simp only [timetableUsed, opened_ch]

/-- A field list loaded under an index. -/
def timetableStored (n : Fin 4) (i : Nat) (b : List Byte) (w : Fw) : Fw :=
  { w with tables := sset (fun _ => []) w.tables (16 * n.val + i) b }

/-- The bytes of a TIMETABLE_LOAD request of a field list without a D1 variant. -/
structure TimetableForm (pl b : List Byte) (n : Fin 4) (i k : Nat) : Prop where
  len : 8 ≤ pl.length
  chn : byteAt pl 4 = n.val
  index : byteAt pl 5 = i
  fields : byteAt pl 6 = k
  noD1 : byteAt pl 7 = 0
  list : pl.drop 6 = b

theorem timetableForm {num i k : Nat} {body : List Byte} {n : Fin 4} (hi : i < 16) (hk : k = 1 ∨ k = 3) :
    TimetableForm (leBytes 4 num ++ leBytes 1 n.val ++ leBytes 1 i ++ leBytes 1 k ++ [0] ++ body) (leBytes 1 k ++ [0] ++ body) n i k := by
  refine ⟨?_, ?_, ?_, ?_, ?_, ?_⟩
  · simp; omega
  · simp [leBytes, byteAt]; omega
  · simp [leBytes, byteAt]; omega
  · simp [leBytes, byteAt]; omega
  · simp [leBytes, byteAt]
  · simp [leBytes]

/-- TIMETABLE_LOAD of well-formed fields. -/
theorem timetableLoad_taken (s : State) {pl b : List Byte} {n : Fin 4} {i k : Nat} (f : TimetableForm pl b n i k) (hi : i < 16)
    (hk : k = 1 ∨ k = 3) (he : fieldsEnd b k 2 = b.length) (hok : fieldsOk b k 2 = true) : s.timetableLoad pl =
      if s.timetableUsed n i then refuse s stBUSY 0
      else if s.loadChecks n (ttParse b k 2).1 then ⟨s.modFw (timetableStored n i b), stOK, 0, []⟩
      else refuse s stREJECTED_CONFIG rjTIMETABLE := by
  have hchan : ∀ k : Fin 4, chan k.val = k := by decide
  unfold timetableLoad
  simp only [f.chn, f.index, f.fields, f.noD1, f.list, hchan]
  rw [if_neg (by have := f.len; omega), if_neg (by simp [n.isLt, hi, hk])]
  simp only [show bit 0 0 = false from rfl, Bool.false_eq_true, if_false]
  rw [if_neg (by simp [he]), if_neg (by simp [hok])]
  simp only [Bool.not_false, Bool.true_or, Bool.and_true]
  cases s.timetableUsed n i with
  | true => rfl
  | false => cases s.loadChecks n (ttParse b k 2).1 <;> rfl

theorem timetableLoad_spec {mb : Fin 6} {flags seq num i k : Nat} {body : List Byte} {n : Fin 4} {s : State}
    (a : s.Asks 0 mb 0x8D flags seq (leBytes 4 num ++ leBytes 1 n.val ++ leBytes 1 i ++ leBytes 1 k ++ [0] ++ body)) (hi : i < 16)
    (hk : k = 1 ∨ k = 3) :
    let b := leBytes 1 k ++ [0] ++ body
    fieldsEnd b k 2 = b.length → fieldsOk b k 2 = true →
      ∃ t, exec (.timetableLoad 0 mb) s = .next t ∧
        (s.timetableUsed n i = true → s.performs t 0 mb 0x8D seq stBUSY 0 []) ∧
        (s.timetableUsed n i = false → s.loadChecks n (ttParse b k 2).1 = false →
          s.performs t 0 mb 0x8D seq stREJECTED_CONFIG rjTIMETABLE []) ∧
        (s.timetableUsed n i = false → s.loadChecks n (ttParse b k 2).1 = true →
          s.replies t 0 mb 0x8D seq stOK (timetableStored n i b s.fw)) := by
  intro b he hok
  have f := timetableForm (num := num) (body := body) (n := n) hi hk
  have hroom := a.roomFor (Nat.le_trans (by decide) f.len)
  have hh := timetableLoad_taken (s.opened 0 mb seq) f hi hk he hok
  rw [opened_timetableUsed, opened_loadChecks] at hh
  refine ⟨_, rfl, fun hu => ?_, fun hu hc => ?_, fun hu hc => ?_⟩
  · exact serve_refused a (· == 0x8D) rfl (fun s _ pl => s.timetableLoad pl) rfl (by decide) hroom (by decide)
      (hh.trans (if_pos hu))
  · exact serve_refused a (· == 0x8D) rfl (fun s _ pl => s.timetableLoad pl) rfl (by decide) hroom (by decide)
      ((hh.trans (if_neg (by simp [hu]))).trans (if_neg (ne_true_of_eq_false hc)))
  · exact serve_modFw a (· == 0x8D) rfl (fun s _ pl => s.timetableLoad pl) rfl (by decide) hroom (by decide)
      ((hh.trans (if_neg (by simp [hu]))).trans (if_pos hc))

end State

/-- Settles O36. -/
theorem matrixAndTimetableLoads : Obligations.MatrixAndTimetableLoads := by
  refine ⟨fun mb flags seq num m rows cols ws n c s a hl hm hr1 hr hc1 hc hq ha => ?_,
    fun mb flags seq num i k body n s a hi hk => timetableLoad_spec a hi hk⟩
  have hb : ∀ m, (matLimit m).1 ≤ 16 ∧ (matLimit m).2 ≤ 16 := fun m => by unfold matLimit; split <;> decide
  have hb := hb m
  have f : MatrixForm _ n c m rows cols ws := matrixForm (num := num) (by omega) (by omega) (by omega)
  obtain ⟨t, he, hd, hfw, hbusy, hok⟩ := loopLoadMatrix_spec a f hl hm ⟨hr1, hr⟩ ⟨hc1, hc⟩ hq ha
  refine ⟨t, he, hd, hfw, hbusy, fun hi => ?_⟩
  obtain ⟨hans, hmem, hcell, hkeep⟩ := hok hi
  refine ⟨hans, hmem, fun i j hi hj => (hcell (i, j) (mem_matCells.mpr ⟨hi, hj⟩)).trans (matEntry_form f i j), ?_⟩
  simpa [matCells, List.flatMap, Function.comp_def, matWord, List.map_flatten] using hkeep

end Sys2Proof.Machine
end

section
/-! SUPPORT. What a latch and a release of a loop context leave alone (R308, R313): the registers of the context, its outputs, and
what waits in it. -/

set_option Elab.async false

namespace Sys2Proof.Machine
open State

/-- The registers TUT_CTXc of a context and its outputs. -/
def loopWord (n c : Fin 4) (a : Nat) : Bool :=
  decide (lecBase n + 0x18400 + 0x100 * c.val ≤ a ∧ a < lecBase n + 0x18500 + 0x100 * c.val ∨
    lecBase n + 0x1e080 + 0x100 * c.val ≤ a ∧ a < lecBase n + 0x1e090 + 0x100 * c.val)

theorem loopWord_uj (n c : Fin 4) {j : Nat} (h : j < 4) : loopWord n c (R.TUT_CTXc_Uj n c.val j) = true :=
  decide_eq_true (by unfold R.TUT_CTXc_Uj; omega)

theorem loopWord_not_event {n c : Fin 4} {a : Nat} (h : loopWord n c a = true) : a ∉ eventRegs := fun he => by
  have : ∀ x ∈ eventRegs, x < 0x40100000 := by decide
  have := this a he
  have := of_decide_eq_true h
  unfold lecBase at this
  omega

namespace State

/-- What a latch and a release of context c leave alone beside the words they are for. -/
structure Beside (n c : Fin 4) (s t : State) : Prop where
  word : ∀ a, loopWord n c a = true → t.get a = s.get a
  dram : t.dram = s.dram
  fresh : (t.ctx n c).fresh = (s.ctx n c).fresh
  rel : (t.ctx n c).rel = (s.ctx n c).rel

namespace Beside
variable {s t u : State}

theorem refl {n c : Fin 4} (s : State) : Beside n c s s := ⟨fun _ _ => rfl, rfl, rfl, rfl⟩
theorem trans {n c : Fin 4} (h : Beside n c s t) (k : Beside n c t u) : Beside n c s u :=
  ⟨fun a ha => (k.word a ha).trans (h.word a ha), k.dram.trans h.dram, k.fresh.trans h.fresh, k.rel.trans h.rel⟩

theorem rd {n c : Fin 4} (h : Beside n c s t) {f : Fld} (hf : loopWord n c f.addr = true) : t.rd f = s.rd f := rd_congr (h.word _ hf)

theorem bind {n c : Fin 4} (h : Beside n c s t) (k : Beside n c s t → Beside n c s u) : Beside n c s u := k h
theorem ite {n c : Fin 4} {p : Prop} {_ : Decidable p} (h : Beside n c s t) (k : Beside n c s u) : Beside n c s (if p then t else u) := by
  split
  · exact h
  · exact k
theorem iteFst {n c : Fin 4} {α : Type} {p : Prop} {_ : Decidable p} {x y : State × α} (h : Beside n c s x.1) (k : Beside n c s y.1) :
    Beside n c s (if p then x else y).1 := by
  split
  · exact h
  · exact k
theorem fst {n c : Fin 4} {α : Type} {x : α} (h : Beside n c s t) : Beside n c s (t, x).1 := h
theorem ofPair {n c : Fin 4} {α : Type} {p : State × α} {x : α} (h : Beside n c s p.1) (e : p = (u, x)) : Beside n c s u := by
  rw [e] at h
  exact h
theorem foldl {n c : Fin 4} {α : Type} {l : List α} {f : State → α → State} (h : Beside n c s t) (k : ∀ u x, x ∈ l → Beside n c s u → Beside n c s (f u x)) :
    Beside n c s (l.foldl f t) := by
  induction l generalizing t with
  | nil => exact h
  | cons x l ih => exact ih (k t x (.head _) h) fun u y hy => k u y (.tail x hy)
theorem foldlFst {n c : Fin 4} {α β : Type} {l : List α} {f : State × β → α → State × β} {p : State × β} (h : Beside n c s p.1)
    (k : ∀ q x, Beside n c s q.1 → Beside n c s (f q x).1) : Beside n c s (l.foldl f p).1 := by
  induction l generalizing p with
  | nil => exact h
  | cons x l ih => exact ih (k p x h)

/-! ### Ops -/

/-- An operation that changes no register and no context. -/
theorem other {n c : Fin 4} (h : Beside n c s t) (hr : u.regs = t.regs := by exact rfl) (hd : u.dram = t.dram := by exact rfl)
    (hl : u.ctx n c = t.ctx n c := by exact rfl) : Beside n c s u :=
  h.trans ⟨fun a _ => get_congr hr a, hd, by rw [hl], by rw [hl]⟩
theorem put {n c : Fin 4} (h : Beside n c s t) {a v : Nat} (ha : loopWord n c a = false := by clear * -; decide +revert) : Beside n c s (t.put a v) :=
  h.trans ⟨fun x hx => get_put_ne _ _ (by rintro rfl; simp [ha] at hx), rfl, rfl, rfl⟩
theorem wr {n c : Fin 4} (h : Beside n c s t) {f : Fld} {v : Nat} (ha : loopWord n c f.addr = false := by clear * -; decide +revert) :
    Beside n c s (t.wr f v) := h.put ha
theorem wrB {n c : Fin 4} (h : Beside n c s t) {f : Fld} {b : Bool} (ha : loopWord n c f.addr = false := by clear * -; decide +revert) :
    Beside n c s (t.wrB f b) := h.put ha
theorem incSat {n c : Fin 4} (h : Beside n c s t) {f : Fld} (ha : loopWord n c f.addr = false := by clear * -; decide +revert) :
    Beside n c s (t.incSat f) := h.put ha
theorem nextFree {n c : Fin 4} (h : Beside n c s t) : Beside n c s t.nextFree := h.other
theorem drillDone {n c : Fin 4} (h : Beside n c s t) : Beside n c s t.drillDone := h.other
theorem logEvent {n c : Fin 4} (h : Beside n c s t) {code sev a b : Nat} : Beside n c s (t.logEvent code sev a b) :=
  h.trans ⟨fun _ hx => logEvent_get _ _ _ _ _ (loopWord_not_event hx), by simp, by simp [ctx, tu], by simp [ctx, tu]⟩
theorem blockEvent {n c : Fin 4} (h : Beside n c s t) {code sev a b : Nat} : Beside n c s (t.blockEvent (tutBase n) code sev a b) := by
  have h0 : loopWord n c (tutBase n + 0x1F0) = false := by clear * -; decide +revert
  have h1 : loopWord n c (tutBase n + 0x1F4) = false := by clear * -; decide +revert
  exact ite (ite ((h.put h0).put h1) ((h.put h0).put h1)).logEvent h.logEvent
theorem modTut {n c : Fin 4} (h : Beside n c s t) {f : TutRun → TutRun} (hf : (f (t.tu n)).ctx = (t.tu n).ctx := by exact rfl) :
    Beside n c s (t.modTut n f) :=
  h.trans ⟨fun _ _ => rfl, rfl, by simp [ctx, hf], by simp [ctx, hf]⟩
theorem modCtx {n c : Fin 4} (h : Beside n c s t) {f : CtxRun → CtxRun} (hf : (f (t.ctx n c)).fresh = (t.ctx n c).fresh := by exact rfl)
    (hr : (f (t.ctx n c)).rel = (t.ctx n c).rel := by exact rfl) : Beside n c s (t.modCtx n c f) :=
  h.trans ⟨fun _ _ => rfl, rfl, by simp [hf], by simp [hr]⟩
theorem modSrc {n c : Fin 4} (h : Beside n c s t) {f : SrcRun → SrcRun} : Beside n c s (t.modSrc n f) :=
  h.trans ⟨fun _ _ => rfl, rfl, by simp [ctx, tu, State.modSrc], by simp [ctx, tu, State.modSrc]⟩

/-! ### The steps of a latch -/

theorem setX {n c : Fin 4} (h : Beside n c s t) {i : Nat} {v : Int} (hi : i < 16) : Beside n c s (t.setX n c i v) := by
  have hlo : loopWord n c (R.TUT_CTXc_Xi_LO n c.val i) = false := decide_eq_false (by unfold R.TUT_CTXc_Xi_LO; omega)
  have hhi : loopWord n c (R.TUT_CTXc_Xi_HI n c.val i) = false := decide_eq_false (by unfold R.TUT_CTXc_Xi_HI; omega)
  exact (h.put hlo).put hhi
theorem satEvent {n c : Fin 4} (h : Beside n c s t) {kind b : Nat} : Beside n c s (t.satEvent n c kind b) := by
  unfold State.satEvent
  dsimp only
  refine blockEvent (wr h ?_)
  split
  · clear * -; decide +revert
  · split
    · clear * -; decide +revert
    · clear * -; decide +revert
theorem satEvents {n c : Fin 4} (h : Beside n c s t) {kind b : Nat} {raw sat : List Int} : Beside n c s (t.satEvents n c kind b raw sat) :=
  h.foldl fun _ _ _ h => ite h h.satEvent
theorem injTick {n c : Fin 4} (h : Beside n c s t) : Beside n c s (t.injTick n c).1 := by
  unfold State.injTick
  exact iteFst (fst h) (iteFst (fst h.wr.wr) (iteFst (fst h) (iteFst (fst h)
    ((ite h.wr.modTut h).bind fun h₁ => (ite h₁.modTut h₁).modTut.incSat.nextFree.bind fun h => fst
    (ite h.wr.wr h)))))
theorem converted {n c : Fin 4} (h : Beside n c s t) {u x : List Int} : Beside n c s (t.converted n c u x).1 := fst h.satEvents.satEvents
theorem traceTick {n c : Fin 4} (h : Beside n c s t) {began : Bool} : Beside n c s (t.traceTick n c began).1 := by
  unfold State.traceTick
  exact iteFst (fst h) ((ite h.wr.modTut.modCtx h).bind fun h => iteFst (fst h.modCtx) (fst h))
theorem innovation {n c : Fin 4} (h : Beside n c s t) {i : Nat} {e : Int} : Beside n c s (t.innovation n c i e).1 := by
  unfold State.innovation
  exact iteFst (fst h.wr.blockEvent) (fst h)

/-! ### The steps of a release -/

theorem trimWrite {n c : Fin 4} (h : Beside n c s t) {key level : Nat} {w : Int} : Beside n c s (t.trimWrite n key level w) :=
  ite h.incSat (ite h h.incSat).modTut
theorem destWrite {n c : Fin 4} (h : Beside n c s t) {ix dest srcs level fmask : Nat} {w : Int} :
    Beside n c s (t.destWrite n c ix dest srcs level fmask w) := by
  unfold State.destWrite
  split
  · exact h.modSrc
  · exact h.modTut
  · exact h.foldl fun _ _ _ h₁ => ite (h₁.foldl fun _ _ _ h => ite h.trimWrite h) h₁
  · exact h.modTut
  · exact h.modTut
  · exact h
theorem traceRecord {n c : Fin 4} (h : Beside n c s t) {r : Rel} : Beside n c s (t.traceRecord n r) := by
  have hw : ∀ k, loopWord n c (R.TUT_TRC_WORDw n k) = false := fun k => decide_eq_false (by unfold R.TUT_TRC_WORDw; omega)
  exact ite h (ite h.wr.wr ((h.foldl fun _ _ _ h => h.put (hw _)).bind fun h₂ => (ite h₂.wr h₂).bind fun h₁ =>
    (ite h₁.wr h₁).wr.bind fun h => ite h.wr.wr h))

end Beside
end State
end Sys2Proof.Machine
end

section
/-! SUPPORT. The latch and the release of a loop context (R308, R313, R318). -/

set_option Elab.async false

namespace Sys2Proof.Machine
open State
namespace State

/-! ### The latch (R308) -/

/-- A context that has counted a latch and taken its inputs, with its outputs as they were. -/
structure Latched (n c : Fin 4) (s t : State) : Prop where
  count : t.rd (F.TUT_CTXc_STATUS_LATCHES n c.val) = (s.rd (F.TUT_CTXc_STATUS_LATCHES n c.val) + 1) % 2 ^ (F.TUT_CTXc_STATUS_LATCHES n c.val).w
  taken : (t.ctx n c).fresh = []
  outputs : ∀ j, j < 4 → t.get (R.TUT_CTXc_Uj n c.val j) = s.get (R.TUT_CTXc_Uj n c.val j)
  dram : t.dram = s.dram

theorem loopWord_latches (n c : Fin 4) : loopWord n c (F.TUT_CTXc_STATUS_LATCHES n c.val).addr = true := by decide +revert

theorem Latched.beside {n c : Fin 4} {s t u : State} (h : Latched n c s t) (k : Beside n c t u) : Latched n c s u :=
  ⟨(k.rd (loopWord_latches n c)).trans h.count, k.fresh.trans h.taken,
    fun j hj => (k.word _ (loopWord_uj n c hj)).trans (h.outputs j hj), k.dram.trans h.dram⟩

theorem Latched.setFrozen {n c : Fin 4} {s t : State} (h : Latched n c s t) (b : Bool) : Latched n c s (t.setFrozen n c b) := by
  unfold State.setFrozen
  split
  · exact h
  · have hf : Latched n c s (t.wrB (F.TUT_CTXc_STATUS_FROZEN n c.val) b) := by
      refine ⟨(rd_wr_apart _ _ (by clear * -; decide +revert)).trans h.count, h.taken, fun j hj => ?_, h.dram⟩
      exact (get_wrB_ne _ _ (by unfold F.TUT_CTXc_STATUS_FROZEN R.TUT_CTXc_STATUS R.TUT_CTXc_Uj; dsimp only; omega)).trans (h.outputs j hj)
    exact hf.beside (Beside.refl _).wr.blockEvent

/-- The inputs of a latch are taken. -/
theorem latched_modCtx {n c : Fin 4} {s u : State}
    (hc : u.rd (F.TUT_CTXc_STATUS_LATCHES n c.val) = (s.rd (F.TUT_CTXc_STATUS_LATCHES n c.val) + 1) % 2 ^ (F.TUT_CTXc_STATUS_LATCHES n c.val).w)
    (ho : ∀ j, j < 4 → u.get (R.TUT_CTXc_Uj n c.val j) = s.get (R.TUT_CTXc_Uj n c.val j)) (hd : u.dram = s.dram) {f : CtxRun → CtxRun}
    (hf : ∀ k, (f k).fresh = []) : Latched n c s (u.modCtx n c f) :=
  ⟨hc, by rw [ctx_modCtx, hf], ho, hd⟩

/-- The count of a latch. -/
theorem latched_first (s : State) (n c : Fin 4) (absent : Nat) {f : CtxRun → CtxRun} (hf : ∀ k, (f k).fresh = []) :
    Latched n c s (((s.wr (F.TUT_CTXc_STATUS_ABSENT n c.val) absent).incWrap (F.TUT_CTXc_STATUS_LATCHES n c.val)).modCtx n c f) := by
  refine latched_modCtx ?_ (fun j hj => ?_) (by simp [incWrap]) hf
  · rw [incWrap, rd_wr _ _ (by clear * -; decide +revert), rd_wr_apart _ _ (by clear * -; decide +revert)]
  · have hne : R.TUT_CTXc_Uj n c.val j ≠ R.TUT_CTXc_STATUS n c.val := by unfold R.TUT_CTXc_STATUS R.TUT_CTXc_Uj; omega
    rw [incWrap, get_wr_ne _ _ hne, get_wr_ne _ _ hne]

/-- A latch whose release waits. -/
structure Pends (n c : Fin 4) (s t : State) : Prop where
  latched : Latched n c s t
  waits : (t.ctx n c).rel.isSome = true

theorem Latched.pends {n c : Fin 4} {s t u : State} (h : Latched n c s t) (k : Beside n c t u) (r : Rel) :
    Pends n c s (u.modCtx n c fun x => { x with rel := some r }) :=
  have hu := h.beside k
  ⟨⟨hu.count, by simpa using hu.taken, hu.outputs, hu.dram⟩, by simp⟩

/-- An operation latches its context. It stands as a structure, as `KeptBy` does. -/
structure LatchedBy (f : State → Fin 4 → Fin 4 → State) : Prop where
  pends : ∀ s n c, Pends n c s (f s n c)

/-- The latch of an enabled context (R308). -/
theorem latchedBy_tutorStep : LatchedBy State.tutorStep := by
  delta State.tutorStep
  refine ⟨fun s n c => ?_⟩
  extract_lets nx nz nu ins used allAbsent absent s₁ s₂ run fz frozen x s₃ s₄ f r0 y0 st0
  have h₄ : Latched n c s s₄ := (latched_first s n c absent (f := fun k => { k with absentRun := run, fresh := [] }) fun _ => rfl).setFrozen frozen
  have hnx : nx ≤ 16 := by
    have := bits_lt (s.get (F.TUT_CTXc_CTRL_NX_M1 n c.val).addr) (F.TUT_CTXc_CTRL_NX_M1 n c.val).lo (F.TUT_CTXc_CTRL_NX_M1 n c.val).w
    exact this
  have hx : x.length = nx := by simp [x]
  clear_value s₄ x
  split
  next s₅ w hinj =>
  have h₅ : Beside n c s₄ s₅ := (Beside.refl s₄).injTick.ofPair hinj
  extract_lets began r u routes y s₆ ur trip ur' s₇ s₈ ui s₉ u'
  split
  · split
    next htrace => exact h₄.pends (h₅.traceTick.ofPair htrace) _
  · have h₉ : Beside n c s₄ s₉ := (Beside.ite h₅.modCtx.drillDone.nextFree h₅.modCtx).satEvents.satEvents
    clear_value s₉
    split
    next s₁₀ e hinn =>
    have h₁₀ : Beside n c s₄ s₁₀ :=
      ((h₉.fst (x := [])).foldlFst fun _ _ h => .iteFst (.fst h) (.fst h.innovation)).ofPair hinn
    extract_lets xr s₁₁ xi s₁₂ xn
    have h₁₂ : Beside n c s₄ s₁₂ := h₁₀.satEvents.satEvents
    have hxn : xn.length = nx := by simp [xn, xi, xr]
    clear_value s₁₂ xn
    split
    next s₁₃ _ hconv =>
    have h₁₃ : Beside n c s₄ s₁₃ := h₁₂.converted.ofPair hconv
    split
    next s₁₄ _ htrace =>
    have h₁₄ : Beside n c s₄ s₁₄ := h₁₃.traceTick.ofPair htrace
    refine h₄.pends (h₁₄.foldl fun _ p hp h => h.setX ?_) _
    have := (List.mem_zipIdx hp).2.1
    omega

/-! ### The release (R313, R318) -/

theorem unsigned_lt (v : Int) (w : Nat) : unsigned v w < 2 ^ w := by
  have h0 := Int.emod_nonneg v (show ((2 ^ w : Nat) : Int) ≠ 0 by have := Nat.two_pow_pos w; omega)
  have h1 := Int.emod_lt_of_pos v (show (0 : Int) < ((2 ^ w : Nat) : Int) by have := Nat.two_pow_pos w; omega)
  unfold unsigned
  omega

/-- The outputs of a release stand in their words. -/
theorem outputs_get (s : State) (n c : Fin 4) (u : List Int) {j : Nat} (hj : j < u.length) :
    (u.zipIdx.foldl (fun s p => s.put (R.TUT_CTXc_Uj n c.val p.2) (unsigned p.1 32)) s).get (R.TUT_CTXc_Uj n c.val j) = unsigned (u.getD j 0) 32 := by
  have hi : (u[j], j) ∈ u.zipIdx := List.mem_zipIdx_iff_getElem?.mpr (by simp [hj])
  have h := putEach_get (fun p : Int × Nat => R.TUT_CTXc_Uj n c.val p.2) (fun p => unsigned p.1 32) (l := u.zipIdx) s hi fun q hq e => by
    have h2 : q.2 = j := by simp only [R.TUT_CTXc_Uj] at e; omega
    have := List.mem_zipIdx_iff_getElem?.mp hq
    rw [h2, List.getElem?_eq_getElem hj] at this
    exact Prod.ext (Option.some.inj this).symm h2
  rw [List.getD_eq_getElem _ _ hj]
  refine h.trans (Nat.mod_eq_of_lt (unsigned_lt ..))

theorem destWrite_none (s : State) (n c : Fin 4) (ix srcs level fmask : Nat) (w : Int) : s.destWrite n c ix 0 srcs level fmask w = s := rfl

theorem foldl_idle {α β : Type} {l : List α} {f : β → α → β} {u : β} (h : ∀ x ∈ l, f u x = u) : l.foldl f u = u := by
  induction l with
  | nil => rfl
  | cons x l ih => rw [List.foldl_cons, h x (.head _), ih fun y hy => h y (.tail _ hy)]

/-- The routes of a release, then its taps. -/
def routesWritten (n c : Fin 4) (routes : List Int) (s : State) : State :=
  [0, 1, 2, 3].foldl (fun s j => s.destWrite n c j (s.rd (F.TUT_CTXc_ROUTEj_DEST n c.val j)) (s.rd (F.TUT_CTXc_ROUTEj_SRCMASK n c.val j))
    (s.rd (F.TUT_CTXc_ROUTEj_LEVEL n c.val j)) (s.rd (F.TUT_CTXc_ROUTEj_FMASK n c.val j)) (routes.getD j 0)) s
def tapsWritten (n c : Fin 4) (routes : List Int) (s : State) : State :=
  (List.range 8).foldl (fun s j => s.destWrite n c (4 + j) (s.rd (F.TUT_CTXc_TAPt_DEST n c.val j)) (s.rd (F.TUT_CTXc_TAPt_SRCMASK n c.val j))
    (s.rd (F.TUT_CTXc_TAPt_LEVEL n c.val j)) (s.rd (F.TUT_CTXc_TAPt_FMASK n c.val j)) (routes.getD (4 + j) 0)) s

theorem routesWritten_beside {n c : Fin 4} (routes : List Int) (s : State) : Beside n c s (routesWritten n c routes s) :=
  (Beside.refl s).foldl fun _ _ _ h => h.destWrite
theorem tapsWritten_beside {n c : Fin 4} (routes : List Int) (s : State) : Beside n c s (tapsWritten n c routes s) :=
  (Beside.refl s).foldl fun _ _ _ h => h.destWrite

/-- A vertical offset from the first route, and no other destination. -/
theorem routesWritten_offset {n c : Fin 4} (routes : List Int) {s : State} (h0 : s.rd (F.TUT_CTXc_ROUTEj_DEST n c.val 0) = 2)
    (h : ∀ j, 0 < j → j < 4 → s.rd (F.TUT_CTXc_ROUTEj_DEST n c.val j) = 0) :
    routesWritten n c routes s = s.modTut n fun t => { t with offset := some (routes.getD 0 0) } := by
  have hk : ∀ f, (s.modTut n fun t => { t with offset := some (routes.getD 0 0) }).rd f = s.rd f := fun _ => rfl
  have hd : ∀ j, 0 < j → j < 4 → ∀ a b d (w : Int),
      (s.modTut n fun t => { t with offset := some (routes.getD 0 0) }).destWrite n c j (s.rd (F.TUT_CTXc_ROUTEj_DEST n c.val j)) a b d w =
        s.modTut n fun t => { t with offset := some (routes.getD 0 0) } := fun j h1 h4 a b d w => by rw [h j h1 h4, destWrite_none]
  have first : ∀ a b d (w : Int), s.destWrite n c 0 2 a b d w = s.modTut n fun t => { t with offset := some w } := fun _ _ _ _ => rfl
  unfold routesWritten
  simp only [List.foldl_cons, List.foldl_nil, h0, first, hk]
  rw [hd 1 (by decide) (by decide)]
  simp only [hk]
  rw [hd 2 (by decide) (by decide)]
  simp only [hk]
  rw [hd 3 (by decide) (by decide)]

theorem tapsWritten_none {n c : Fin 4} (routes : List Int) {s : State} (h : ∀ j, j < 8 → s.rd (F.TUT_CTXc_TAPt_DEST n c.val j) = 0) :
    tapsWritten n c routes s = s :=
  foldl_idle fun j hj => by rw [h j (List.mem_range.mp hj), destWrite_none]

theorem traceRecord_puts (s : State) (n : Fin 4) (r : Rel) : Puts (fun _ => True) s (s.traceRecord n r) := by
  unfold traceRecord
  have fin : ∀ u, Puts (fun _ => True) s u → Puts (fun _ => True) s ((u.wr (F.TUT_TRC_STATUS_STATE n) 3).wr (F.TUT_TRC_CFG_ARM n) 0) :=
    fun _ h => (h.wr trivial).wr trivial
  have bind : ∀ {u v : State}, Puts (fun _ => True) s u → (Puts (fun _ => True) s u → Puts (fun _ => True) s v) → Puts (fun _ => True) s v :=
    fun h k => k h
  exact .ite (.refl s) (.ite (fin _ (.refl s)) (bind ((Puts.refl s).foldl fun _ _ _ h => h.put trivial) fun h₂ =>
    bind (Puts.ite (h₂.wr trivial) h₂) fun h₁ => bind ((Puts.ite (h₁.wr trivial) h₁).wr trivial) fun h => .ite (fin _ h) h))

/-- A release that waits, of an enabled context. -/
theorem tutorRelease_enabled {s : State} {n c : Fin 4} {r : Rel} (h : (s.ctx n c).rel = some r) (en : s.on (F.TUT_CTXc_CTRL_EN n c.val) = true) :
    s.tutorRelease n c =
      let u := tapsWritten n c r.routes (routesWritten n c r.routes (r.u.zipIdx.foldl
        (fun s p => s.put (R.TUT_CTXc_Uj n c.val p.2) (unsigned p.1 32)) (s.modCtx n c fun k => { k with rel := none })))
      if r.trace then u.traceRecord n r else u := by
  unfold tutorRelease
  rw [h]
  dsimp only
  rw [if_neg (by
    rw [show (s.modCtx n c fun k => { k with rel := none }).on (F.TUT_CTXc_CTRL_EN n c.val) = s.on (F.TUT_CTXc_CTRL_EN n c.val) from rfl, en]
    decide)]
  rfl

theorem tutorRelease_disabled {s : State} {n c : Fin 4} {r : Rel} (h : (s.ctx n c).rel = some r) (en : s.on (F.TUT_CTXc_CTRL_EN n c.val) = false) :
    s.tutorRelease n c = s.modCtx n c fun k => { k with rel := none } := by
  unfold tutorRelease
  rw [h]
  dsimp only
  rw [if_pos (by
    rw [show (s.modCtx n c fun k => { k with rel := none }).on (F.TUT_CTXc_CTRL_EN n c.val) = s.on (F.TUT_CTXc_CTRL_EN n c.val) from rfl, en]
    decide)]

/-- The release (R313), as O60 states it. -/
theorem tutorRelease_spec {s : State} {n c : Fin 4} {r : Rel} (h : (s.ctx n c).rel = some r) :
    let en := s.on (F.TUT_CTXc_CTRL_EN n c.val)
    let t := s.tutorRelease n c
    t.dram = s.dram ∧ (t.ctx n c).rel = none ∧ (en = false → t.regs = s.regs) ∧
      (en = true → r.u.length ≤ 4 → ∀ j, j < r.u.length → t.get (R.TUT_CTXc_Uj n c.val j) = unsigned (r.u.getD j 0) 32) ∧
      (en = true → r.u.length ≤ 4 → s.rd (F.TUT_CTXc_ROUTEj_DEST n c.val 0) = 2 → (∀ j, 0 < j → j < 4 → s.rd (F.TUT_CTXc_ROUTEj_DEST n c.val j) = 0) →
        (∀ j, j < 8 → s.rd (F.TUT_CTXc_TAPt_DEST n c.val j) = 0) → (t.tu n).offset = some (r.routes.getD 0 0)) := by
  dsimp only
  cases en : s.on (F.TUT_CTXc_CTRL_EN n c.val) with
  | false =>
    rw [tutorRelease_disabled h en]
    exact ⟨rfl, by simp, fun _ => rfl, nofun, nofun⟩
  | true =>
    rw [tutorRelease_enabled h en]
    dsimp only
    have hp := putEach_puts (fun p : Int × Nat => R.TUT_CTXc_Uj n c.val p.2) (fun p => unsigned p.1 32) r.u.zipIdx
      (s.modCtx n c fun k => { k with rel := none })
    have hu := fun j => outputs_get (s.modCtx n c fun k => { k with rel := none }) n c r.u (j := j)
    unfold putEach at hp
    generalize r.u.zipIdx.foldl _ _ = v at hp hu ⊢
    have hrel : (v.ctx n c).rel = none := by
      rw [ctx, tu, ch, hp.lec]
      simp [modCtx, modTut, modCh]
    have hb : Beside n c v (tapsWritten n c r.routes (routesWritten n c r.routes v)) := (routesWritten_beside ..).trans (tapsWritten_beside ..)
    have hword : ∀ f : Fld, (∀ j, R.TUT_CTXc_Uj n c.val j ≠ f.addr) → v.rd f = s.rd f := fun f hf =>
      rd_congr (hp.word _ fun ⟨p, _, e⟩ => hf p.2 e)
    have hoff : s.rd (F.TUT_CTXc_ROUTEj_DEST n c.val 0) = 2 → (∀ j, 0 < j → j < 4 → s.rd (F.TUT_CTXc_ROUTEj_DEST n c.val j) = 0) →
        (∀ j, j < 8 → s.rd (F.TUT_CTXc_TAPt_DEST n c.val j) = 0) →
        ((tapsWritten n c r.routes (routesWritten n c r.routes v)).tu n).offset = some (r.routes.getD 0 0) := by
      intro h0 hr ht
      have hroute : ∀ j, j < 4 → v.rd (F.TUT_CTXc_ROUTEj_DEST n c.val j) = s.rd (F.TUT_CTXc_ROUTEj_DEST n c.val j) := fun j hj =>
        hword _ fun k => by simp only [F.TUT_CTXc_ROUTEj_DEST, R.TUT_CTXc_ROUTEj, R.TUT_CTXc_Uj]; omega
      have htap : ∀ j, j < 8 → v.rd (F.TUT_CTXc_TAPt_DEST n c.val j) = s.rd (F.TUT_CTXc_TAPt_DEST n c.val j) := fun j hj =>
        hword _ fun k => by simp only [F.TUT_CTXc_TAPt_DEST, R.TUT_CTXc_TAPt, R.TUT_CTXc_Uj]; omega
      rw [routesWritten_offset r.routes ((hroute 0 (by decide)).trans h0) fun j h1 h4 => (hroute j h4).trans (hr j h1 h4),
        tapsWritten_none (s := v.modTut n fun t => { t with offset := some (r.routes.getD 0 0) }) r.routes
          fun j hj => (htap j hj).trans (ht j hj), tu_modTut]
    have hfin : v.dram = s.dram := hp.dram
    generalize tapsWritten n c r.routes (routesWritten n c r.routes v) = w at hb hoff ⊢
    have hlast : Beside n c w (if r.trace then w.traceRecord n r else w) := .ite (Beside.refl w).traceRecord (.refl w)
    have htu : (if r.trace then w.traceRecord n r else w).tu n = w.tu n := by
      split
      · rw [tu, ch, (traceRecord_puts ..).lec, tu, ch]
      · rfl
    have hall := hb.trans hlast
    refine ⟨hall.dram.trans hfin, hall.rel.trans hrel, nofun, fun _ hl j hj => ?_, fun _ _ h0 hr ht => ?_⟩
    · rw [hall.word _ (loopWord_uj n c (by omega)), hu j hj]
    · rw [htu, hoff h0 hr ht]

/-! ### The pitch input (R128, R311, R316) -/

/-- Only words TUT_CTXc_ZFW of a channel and samples of its contexts may differ. -/
structure Pitched (n : Fin 4) (s t : State) : Prop where
  word : ∀ a, (∀ (c : Fin 4) (i : Nat), i < 8 → a ≠ R.TUT_CTXc_ZFWi n c.val i) → t.get a = s.get a
  dram : t.dram = s.dram
  evr : t.evr = s.evr
  others : ∀ m, m ≠ n → t.tu m = s.tu m

namespace Pitched
variable {s t u : State}
theorem refl {n : Fin 4} (s : State) : Pitched n s s := ⟨fun _ _ => rfl, rfl, rfl, fun _ _ => rfl⟩
theorem trans {n : Fin 4} (h : Pitched n s t) (k : Pitched n t u) : Pitched n s u :=
  ⟨fun a ha => (k.word a ha).trans (h.word a ha), k.dram.trans h.dram, k.evr.trans h.evr, fun m hm => (k.others m hm).trans (h.others m hm)⟩
theorem modTut {n : Fin 4} (h : Pitched n s t) {f : TutRun → TutRun} : Pitched n s (t.modTut n f) :=
  h.trans ⟨fun _ _ => rfl, rfl, rfl, fun _ hm => tu_modTut_ne _ _ hm⟩
theorem modCtx {n : Fin 4} (h : Pitched n s t) {c : Fin 4} {f : CtxRun → CtxRun} : Pitched n s (t.modCtx n c f) := h.modTut
theorem ite {n : Fin 4} {p : Prop} {_ : Decidable p} (h : Pitched n s t) (k : Pitched n s u) : Pitched n s (if p then t else u) := by
  split
  · exact h
  · exact k
theorem zfwWrite {n : Fin 4} (h : Pitched n s t) {c : Fin 4} {i v : Nat} (hi : i < 8) : Pitched n s (t.zfwWrite n c i v) := by
  have hw : Pitched n s (t.wr (F.TUT_CTXc_ZFWi_SAMPLE n c.val i) v) :=
    h.trans ⟨fun a ha => get_wr_ne _ _ (ha c i hi), rfl, rfl, fun _ _ => rfl⟩
  exact ite hw.modCtx.modCtx hw.modCtx
theorem foldl {α : Type} {n : Fin 4} {l : List α} {f : State → α → State} (h : Pitched n s t)
    (k : ∀ u x, x ∈ l → Pitched n s u → Pitched n s (f u x)) : Pitched n s (l.foldl f t) := by
  induction l generalizing t with
  | nil => exact h
  | cons x l ih => exact ih (k t x (.head _) h) fun u y hy => k u y (.tail x hy)

/-- The inputs of a channel stand as they were. -/
theorem inputs {n : Fin 4} (h : Pitched n s t) (m : Fin 4) : t.pitchInputs m = s.pitchInputs m := by
  have hrd : ∀ (c : Fin 4) (f : Fld), f.addr = R.TUT_CTXc_CTRL m c.val → t.rd f = s.rd f := fun c f hf => rd_congr (h.word _ fun d i hi => by
    rw [hf]
    unfold R.TUT_CTXc_CTRL R.TUT_CTXc_ZFWi lecBase
    omega)
  have hsrc : ∀ (c : Fin 4) (i : Nat), i < 8 → t.rd (F.TUT_CTXc_ZSELi_SRC m c.val i) = s.rd (F.TUT_CTXc_ZSELi_SRC m c.val i) :=
    fun c i hi => rd_congr (h.word _ fun d j hj => by
      unfold F.TUT_CTXc_ZSELi_SRC R.TUT_CTXc_ZSELi R.TUT_CTXc_ZFWi lecBase
      dsimp only
      omega)
  have hz : ∀ c, s.nz m c ≤ 8 := fun c => Nat.min_le_left ..
  have hnz : ∀ c, t.nz m c = s.nz m c := fun c => by rw [nz, hrd c _ rfl, nz]
  unfold pitchInputs
  congr 1
  refine List.map_congr_left fun c _ => ?_
  rw [on_congr (hrd c (F.TUT_CTXc_CTRL_EN m c.val) rfl), hrd c (F.TUT_CTXc_CTRL_TEMPLATE m c.val) rfl, hnz]
  split
  · refine congrArg _ (List.filter_congr fun i hi => ?_)
    rw [hsrc c i (Nat.lt_of_lt_of_le (List.mem_range.mp hi) (hz c))]
  · rfl
end Pitched

/-- A firmware input of a running LEVELLING context. -/
theorem mem_pitchInputs {s : State} {n : Fin 4} {e : Fin 4 × Nat} (h : e ∈ s.pitchInputs n) :
    e.2 < 8 ∧ s.rd (F.TUT_CTXc_ZSELi_SRC n e.1.val e.2) = 2 := by
  obtain ⟨l, hl, he⟩ := List.mem_flatten.mp h
  obtain ⟨c, -, rfl⟩ := List.mem_map.mp hl
  split at he
  · obtain ⟨i, hi, rfl⟩ := List.mem_map.mp he
    obtain ⟨hr, hs⟩ := List.mem_filter.mp hi
    exact ⟨Nat.lt_of_lt_of_le (List.mem_range.mp hr) (Nat.min_le_left ..), by simpa using hs⟩
  · simp at he

/-- The sample of a firmware input. -/
def sampleIs (n : Fin 4) (v : Nat) (e : Fin 4 × Nat) (t : State) : Prop :=
  t.rd (F.TUT_CTXc_ZFWi_SAMPLE n e.1.val e.2) = v ∧ sget (fun _ => none) (t.ctx n e.1).fresh e.2 = some (signed v 16)

theorem ctx_modCtx_ne (s : State) (n : Fin 4) {c d : Fin 4} (f : CtxRun → CtxRun) (h : d ≠ c) : (s.modCtx n c f).ctx n d = s.ctx n d := by
  simp [modCtx, ctx, Four.get_set_ne _ _ h]

theorem zfwWrite_eq (s : State) {n : Fin 4} {e : Fin 4 × Nat} (v : Nat) (h : s.rd (F.TUT_CTXc_ZSELi_SRC n e.1.val e.2) = 2) :
    s.zfwWrite n e.1 e.2 v = ((s.wr (F.TUT_CTXc_ZFWi_SAMPLE n e.1.val e.2) v).modCtx n e.1 fun x => { x with hold := setBit x.hold e.2 false }).present n e.1 e.2
      (signed v 16) := by
  have hne : (F.TUT_CTXc_ZSELi_SRC n e.1.val e.2).addr ≠ (F.TUT_CTXc_ZFWi_SAMPLE n e.1.val e.2).addr := by
    unfold F.TUT_CTXc_ZSELi_SRC F.TUT_CTXc_ZFWi_SAMPLE R.TUT_CTXc_ZSELi R.TUT_CTXc_ZFWi
    dsimp only
    omega
  unfold zfwWrite
  dsimp only
  rw [if_pos]
  rw [show ∀ (u : State) f g, (u.modCtx n e.1 f).rd g = u.rd g from fun _ _ _ => rfl, rd_wr_ne _ _ hne, h]
  rfl

theorem zfwWrite_is (s : State) {n : Fin 4} {e : Fin 4 × Nat} {v : Nat} (hv : v < 2 ^ 16)
    (h : s.rd (F.TUT_CTXc_ZSELi_SRC n e.1.val e.2) = 2) : sampleIs n v e (s.zfwWrite n e.1 e.2 v) := by
  rw [zfwWrite_eq s v h]
  refine ⟨?_, ?_⟩
  · rw [present, show ∀ (u : State) f g, (u.modCtx n e.1 f).rd g = u.rd g from fun _ _ _ => rfl,
      show ∀ (u : State) f g, (u.modCtx n e.1 f).rd g = u.rd g from fun _ _ _ => rfl]
    exact (rd_wr _ _ (show 0 + 16 ≤ 32 by decide)).trans (Nat.mod_eq_of_lt hv)
  · simp [present]

/-- A sample written stays while others are written. -/
theorem zfwWrite_keeps {s : State} {n : Fin 4} {e d : Fin 4 × Nat} {v : Nat} (hv : v < 2 ^ 16) (hi : e.2 < 8) (hd : d.2 < 8)
    (h : s.rd (F.TUT_CTXc_ZSELi_SRC n d.1.val d.2) = 2) (k : sampleIs n v e s) : sampleIs n v e (s.zfwWrite n d.1 d.2 v) := by
  by_cases hed : e = d
  · subst hed
    exact zfwWrite_is s hv h
  · have hne : (F.TUT_CTXc_ZFWi_SAMPLE n e.1.val e.2).addr ≠ (F.TUT_CTXc_ZFWi_SAMPLE n d.1.val d.2).addr := by
      intro he
      unfold F.TUT_CTXc_ZFWi_SAMPLE R.TUT_CTXc_ZFWi at he
      dsimp only at he
      exact hed (Prod.ext (Fin.ext (by omega)) (by omega))
    obtain ⟨kr, kf⟩ := k
    rw [zfwWrite_eq s v h]
    refine ⟨?_, ?_⟩
    · rw [present, show ∀ (u : State) f g, (u.modCtx n d.1 f).rd g = u.rd g from fun _ _ _ => rfl,
        show ∀ (u : State) f g, (u.modCtx n d.1 f).rd g = u.rd g from fun _ _ _ => rfl, rd_wr_ne _ _ hne, kr]
    · by_cases hc : e.1 = d.1
      · have h2 : e.2 ≠ d.2 := fun h2 => hed (Prod.ext hc h2)
        rw [hc] at kf ⊢
        rw [present, ctx_modCtx, ctx_modCtx, sget_sset, if_neg h2]
        exact kf
      · rw [present, ctx_modCtx_ne _ _ _ hc, ctx_modCtx_ne _ _ _ hc]
        exact kf

theorem zfwWrite_source {s : State} {n : Fin 4} {e d : Fin 4 × Nat} {v : Nat} (he : e.2 < 8) (hd : d.2 < 8)
    (h : s.rd (F.TUT_CTXc_ZSELi_SRC n e.1.val e.2) = 2) : (s.zfwWrite n d.1 d.2 v).rd (F.TUT_CTXc_ZSELi_SRC n e.1.val e.2) = 2 := by
  refine (rd_congr (((Pitched.refl s).zfwWrite hd).word _ fun c i hi => ?_)).trans h
  unfold F.TUT_CTXc_ZSELi_SRC R.TUT_CTXc_ZSELi R.TUT_CTXc_ZFWi
  dsimp only
  omega

/-- Samples written one after another. -/
theorem zfwWrites_keeps {n : Fin 4} {v : Nat} (hv : v < 2 ^ 16) {l : List (Fin 4 × Nat)} {s : State}
    (hl : ∀ e ∈ l, e.2 < 8 ∧ s.rd (F.TUT_CTXc_ZSELi_SRC n e.1.val e.2) = 2) {e : Fin 4 × Nat} (he : e.2 < 8) (k : sampleIs n v e s) :
    sampleIs n v e (l.foldl (fun s q => s.zfwWrite n q.1 q.2 v) s) := by
  induction l generalizing s with
  | nil => exact k
  | cons d l ih =>
    obtain ⟨hd, hs⟩ := hl d (.head _)
    exact ih (fun x hx => ⟨(hl x (.tail _ hx)).1, zfwWrite_source (hl x (.tail _ hx)).1 hd (hl x (.tail _ hx)).2⟩) (zfwWrite_keeps hv he hd hs k)

/-- A frame for a channel reaches every firmware input of its running LEVELLING contexts. -/
theorem zfwWrites_is {n : Fin 4} {v : Nat} (hv : v < 2 ^ 16) {l : List (Fin 4 × Nat)} {s : State}
    (hl : ∀ e ∈ l, e.2 < 8 ∧ s.rd (F.TUT_CTXc_ZSELi_SRC n e.1.val e.2) = 2) {e : Fin 4 × Nat} (he : e ∈ l) :
    sampleIs n v e (l.foldl (fun s q => s.zfwWrite n q.1 q.2 v) s) := by
  induction l generalizing s with
  | nil => nomatch he
  | cons d l ih =>
    obtain ⟨hd, hs⟩ := hl d (.head _)
    have hl' : ∀ x ∈ l, x.2 < 8 ∧ (s.zfwWrite n d.1 d.2 v).rd (F.TUT_CTXc_ZSELi_SRC n x.1.val x.2) = 2 := fun x hx =>
      ⟨(hl x (.tail _ hx)).1, zfwWrite_source (hl x (.tail _ hx)).1 hd (hl x (.tail _ hx)).2⟩
    obtain rfl | he := List.mem_cons.mp he
    · exact zfwWrites_keeps hv hl' hd (zfwWrite_is s hv hs)
    · exact ih hl' he

/-- A loop that establishes P at one of its elements, from what the elements before it keep. -/
theorem foldl_establishes_at {α β : Type} {I P : β → Prop} {f : β → α → β} {l : List α} {x : α} (hnd : l.Nodup) (hx : x ∈ l)
    (hI : ∀ u y, y ≠ x → I u → I (f u y)) (hf : ∀ u, I u → P (f u x)) (hP : ∀ u y, y ≠ x → P u → P (f u y)) {s : β} (h : I s) :
    P (l.foldl f s) := by
  have rest : ∀ {l : List α}, x ∉ l → ∀ {u}, P u → P (l.foldl f u) := by
    intro l hl
    induction l with
    | nil => exact id
    | cons y l ih => exact fun hu => ih (fun hy => hl (.tail _ hy)) (hP _ y (fun e => hl (e ▸ .head _)) hu)
  induction l generalizing s with
  | nil => nomatch hx
  | cons y l ih =>
    obtain ⟨hy, hnd⟩ := List.nodup_cons.mp hnd
    by_cases hxy : y = x
    · subst hxy
      exact rest hy (hf s h)
    · exact ih hnd (by simpa [Ne.symm hxy] using hx) (hI s y hxy h)

/-- A frame at one channel (R128). -/
def framed (can id : Nat) (bytes : List Byte) (s : State) (n : Fin 4) : State :=
  match (s.tu n).pitch with
  | some p =>
    if p.can = can ∧ p.id = id ∧ p.off + 2 ≤ bytes.length then
      (s.pitchInputs n).foldl (fun s q => s.zfwWrite n q.1 q.2 (le16 bytes p.off)) (s.modTut n fun t => { t with pitchTick := s.tb.toNat })
    else s
  | none => s

theorem pitchFrame_eq (s : State) (can id : Nat) (bytes : List Byte) :
    s.pitchFrame can id bytes = if s.fwRuns then chans.foldl (framed can id bytes) s else s := by
  unfold pitchFrame
  cases s.fwRuns <;> rfl

theorem framed_pitched (can id : Nat) (bytes : List Byte) (s : State) (n : Fin 4) : Pitched n s (framed can id bytes s n) := by
  unfold framed
  split
  · exact .ite ((Pitched.refl s).modTut.foldl fun _ q hq h => h.zfwWrite (mem_pitchInputs hq).1) (.refl s)
  · exact .refl s

theorem framed_none {can id : Nat} {bytes : List Byte} {s : State} {n : Fin 4} (h : (s.tu n).pitch = none) : framed can id bytes s n = s := by
  rw [framed, h]

/-- A frame at the channel that expects it. -/
theorem framed_is {can id : Nat} {bytes : List Byte} {s : State} {n : Fin 4} {q : Pitch} (h : (s.tu n).pitch = some q) (hc : q.can = can)
    (hi : q.id = id) (ho : q.off + 2 ≤ bytes.length) {e : Fin 4 × Nat} (he : e ∈ s.pitchInputs n) :
    sampleIs n (le16 bytes q.off) e (framed can id bytes s n) := by
  rw [framed, h]
  dsimp only
  rw [if_pos ⟨hc, hi, ho⟩]
  exact zfwWrites_is (le16_lt ..) (fun d hd => mem_pitchInputs hd) he

/-- Samples of a channel stay while a frame reaches another. -/
theorem Pitched.sampleIs {s t : State} {n m : Fin 4} (h : Pitched m s t) (hm : m ≠ n) {v : Nat} {e : Fin 4 × Nat} (he : e.2 < 8)
    (k : sampleIs n v e s) : sampleIs n v e t := by
  obtain ⟨kr, kf⟩ := k
  refine ⟨(rd_congr (h.word _ fun c i hi => ?_)).trans kr, ?_⟩
  · have : m.val ≠ n.val := fun e => hm (Fin.ext e)
    unfold F.TUT_CTXc_ZFWi_SAMPLE R.TUT_CTXc_ZFWi lecBase
    dsimp only
    omega
  · rw [ctx, h.others n hm.symm]
    exact kf

/-- The pitch-rate frame, as O60 states it. -/
theorem pitchFrame_spec (s : State) (n : Fin 4) (can id : Nat) (bytes : List Byte) :
    let t := s.pitchFrame can id bytes
    t.dram = s.dram ∧ t.evr = s.evr ∧ ((∀ m : Fin 4, (s.tu m).pitch = none) ∨ s.fwRuns = false → t = s) ∧
      ∀ q, (s.tu n).pitch = some q → s.fwRuns = true → q.can = can → q.id = id → q.off + 2 ≤ bytes.length →
        ∀ e ∈ s.pitchInputs n, sampleIs n (le16 bytes q.off) e t := by
  dsimp only
  rw [pitchFrame_eq]
  refine ⟨?_, ?_, ?_, fun q hq hf hc hi ho e he => ?_⟩
  · split
    · exact foldl_keeps (·.dram) (fun u m => (framed_pitched can id bytes u m).dram) ..
    · rfl
  · split
    · exact foldl_keeps (·.evr) (fun u m => (framed_pitched can id bytes u m).evr) ..
    · rfl
  · rintro (h | h)
    · rw [foldl_idle fun m _ => framed_none (h m), ite_self]
    · rw [if_neg (by simp [h])]
  · rw [if_pos hf]
    have hpi := mem_pitchInputs he
    refine foldl_establishes_at (x := n) (I := fun u => (u.tu n).pitch = some q ∧ u.pitchInputs n = s.pitchInputs n)
      (P := sampleIs n (le16 bytes q.off) e) (by decide) (mem_chans n) (fun u m hm ⟨h1, h2⟩ => ?_) (fun u ⟨h1, h2⟩ => ?_)
      (fun u m hm h => (framed_pitched can id bytes u m).sampleIs hm hpi.1 h) ⟨hq, rfl⟩
    · have hp := framed_pitched can id bytes u m
      exact ⟨by rw [hp.others n hm.symm, h1], by rw [hp.inputs, h2]⟩
    · exact framed_is h1 hc hi ho (h2 ▸ he)

/-- What holds an input that timed out (R311). -/
def held (n : Fin 4) (s : State) (q : Fin 4 × Nat) : State :=
  if bit (s.ctx n q.1).hold q.2 then s
  else (s.modCtx n q.1 fun k => { k with hold := setBit k.hold q.2 true }).blockEvent (tutBase n) (0x4002 + 256 * n.val) 2 q.1.val (0x80 + q.2)

theorem held_dram (n : Fin 4) (s : State) (q : Fin 4 × Nat) : (held n s q).dram = s.dram := by
  unfold held
  split
  · rfl
  · simp [blockEvent, modCtx, modTut]

theorem blockEvent_ctx (s : State) (n c : Fin 4) (base code sev a b : Nat) : (s.blockEvent base code sev a b).ctx n c = s.ctx n c := by
  unfold blockEvent
  split <;> simp [ctx, tu]

theorem held_bit (n : Fin 4) (s : State) (q : Fin 4 × Nat) : bit ((held n s q).ctx n q.1).hold q.2 = true := by
  unfold held
  split
  · assumption
  · rw [blockEvent_ctx, ctx_modCtx]
    exact bit_setBit_self ..

theorem held_keeps (n : Fin 4) (s : State) (q e : Fin 4 × Nat) (h : bit (s.ctx n e.1).hold e.2 = true) :
    bit ((held n s q).ctx n e.1).hold e.2 = true := by
  unfold held
  split
  · exact h
  · rw [blockEvent_ctx]
    by_cases hc : e.1 = q.1
    · rw [hc] at h ⊢
      rw [ctx_modCtx]
      by_cases hi : e.2 = q.2
      · rw [hi]
        exact bit_setBit_self ..
      · exact (bit_setBit_ne _ _ hi).trans h
    · rw [ctx_modCtx_ne _ _ _ hc]
      exact h

theorem pitchTimeout_none {s : State} {n : Fin 4} (h : (s.tu n).pitch = none) : s.pitchTimeout n = s := by rw [pitchTimeout, h]

theorem pitchTimeout_eq {s : State} {n : Fin 4} {q : Pitch} (h : (s.tu n).pitch = some q) : s.pitchTimeout n =
    if s.fwRuns && pastMs (s.tb.toNat - (s.tu n).pitchTick) q.timeout then (s.pitchInputs n).foldl (held n) s else s := by
  rw [pitchTimeout, h]
  rfl

/-- The time-out of the pitch input, as O60 states it. -/
theorem pitchTimeout_spec (s : State) (n : Fin 4) :
    let t := s.pitchTimeout n
    t.dram = s.dram ∧ ((s.tu n).pitch = none ∨ s.fwRuns = false → t = s) ∧
      (∀ q, (s.tu n).pitch = some q → pastMs (s.tb.toNat - (s.tu n).pitchTick) q.timeout = false → t = s) ∧
      (∀ q, (s.tu n).pitch = some q → s.fwRuns = true → pastMs (s.tb.toNat - (s.tu n).pitchTick) q.timeout = true →
        (∀ e ∈ s.pitchInputs n, bit (t.ctx n e.1).hold e.2 = true) ∧
        (∀ e, s.pitchInputs n = [e] → bit (s.ctx n e.1).hold e.2 = false → s.logged t (0x4002 + 256 * n.val) 2 e.1.val (0x80 + e.2))) := by
  dsimp only
  cases hp : (s.tu n).pitch with
  | none =>
    rw [pitchTimeout_none hp]
    exact ⟨rfl, fun _ => rfl, nofun, nofun⟩
  | some p =>
    rw [pitchTimeout_eq hp]
    refine ⟨?_, ?_, ?_, ?_⟩
    · split
      · exact foldl_keeps (·.dram) (held_dram n) ..
      · rfl
    · rintro (h | h)
      · nomatch h
      · rw [h, Bool.false_and, if_neg (by decide)]
    · rintro q hq h
      cases hq
      rw [h, Bool.and_false, if_neg (by decide)]
    · rintro q hq hf h
      cases hq
      rw [hf, h, Bool.and_true, if_pos rfl]
      refine ⟨fun e he => ?_, fun e he hb => ?_⟩
      · exact foldl_establishes (f := held n) (x := e) (P := fun u => bit (u.ctx n e.1).hold e.2 = true) (fun u => held_bit n u e)
          (fun u q _ h => held_keeps n u q e h) s he
      · rw [he, List.foldl_cons, List.foldl_nil, held, if_neg (by simp [hb]), blockEvent, if_pos (by decide)]
        exact logged_errEvent (s := s) (by rfl) (by rfl) _ _ _ _ _

/-! ### Trace and injection (R328, R329) -/

/-- The fields of a register that its row declares RW. -/
def rwOnly (a : Nat) : Bool := (specAt a).any fun r => r.fields.all fun f => f.acc == .rw

/-- The word that a write leaves in such a register. -/
def rwWord (s : State) (a v : Nat) : Nat :=
  match specAt a with
  | some r => r.fields.foldl (writeField true v) (s.get a)
  | none => 0

/-- A register whose fields are all RW takes the written bits, and nothing else happens (R9). -/
theorem plainWrite_rw (s : State) {a : Nat} (h : rwOnly a = true) (v : Nat) : s.plainWrite a v = s.put a (s.rwWord a v) := by
  unfold rwOnly at h
  unfold plainWrite rwWord
  cases hr : specAt a with
  | none => simp [hr] at h
  | some r =>
    rw [hr] at h
    have hacc : ∀ f ∈ r.fields, f.acc = .rw := fun f hf => by simpa using List.all_eq_true.mp h f hf
    have hclr : r.fields.any (clearField v) = false := List.any_eq_false.mpr fun f hf => by simp [clearField, hacc f hf]
    have hrep : ∀ st, r.fields.any (reportField st v (s.get a)) = false := fun st => List.any_eq_false.mpr fun f hf => by
      simp [reportField, hacc f hf]
    have hfold : ∀ st, r.fields.foldl (writeField st v) (s.get a) = r.fields.foldl (writeField true v) (s.get a) := fun st =>
      List.foldl_ext _ _ _ fun o f hf => by simp [writeField, hacc f hf]
    dsimp only
    rw [hrep, hclr, if_neg (by decide), if_neg (by decide), hfold]

theorem rwOnly_trcCfg (n : Fin 4) : rwOnly (R.TUT_TRC_CFG n) = true := by decide +revert
theorem rwOnly_injCfg (n : Fin 4) : rwOnly (R.TUT_INJ_CFG n) = true := by decide +revert

theorem modTut_rd (s : State) (n : Fin 4) (g : TutRun → TutRun) (f : Fld) : (s.modTut n g).rd f = s.rd f := rfl

/-- A trace armed: its capture is discarded. -/
def traceArmed (s : State) (n : Fin 4) : State :=
  (((s.put (R.TUT_TRC_STATUS n) 0).wr (F.TUT_TRC_STATUS_STATE n) 1).wr (F.TUT_TRC_INJ_INDEX n) 0xFFFF).modTut n fun t =>
    { t with evtHit := false, injFirst := false }

theorem traceArmed_spec (s : State) (n : Fin 4) : (s.traceArmed n).rd (F.TUT_TRC_STATUS_STATE n) = 1 ∧
    (s.traceArmed n).rd (F.TUT_TRC_STATUS_WORDS n) = 0 ∧ (s.traceArmed n).rd (F.TUT_TRC_INJ_INDEX n) = 0xFFFF ∧
    ((s.traceArmed n).tu n).evtHit = false := by
  unfold traceArmed
  rw [modTut_rd, modTut_rd, modTut_rd, tu_modTut]
  refine ⟨?_, ?_, ?_, rfl⟩
  · rw [rd_wr_ne _ _ (by clear * -; decide +revert), rd_wr _ _ (show 0 + 2 ≤ 32 by decide)]
    rfl
  · rw [rd_wr_ne _ _ (by clear * -; decide +revert), rd_wr_apart _ _ (by clear * -; decide +revert), State.rd]
    simp only [F.TUT_TRC_STATUS_WORDS, get_put_self]
    rfl
  · rw [rd_wr _ _ (show 0 + 16 ≤ 32 by decide)]
    rfl

theorem trcCfgWrite_eq (s : State) (n : Fin 4) (v : Nat) : s.trcCfgWrite n v =
    let u := s.put (R.TUT_TRC_CFG n) (s.rwWord (R.TUT_TRC_CFG n) v)
    let t := if bit v 4 then u.traceArmed n else u
    t.wrB (F.TUT_TRC_CFG_ARM n) (t.rd (F.TUT_TRC_STATUS_STATE n) == 1 || t.rd (F.TUT_TRC_STATUS_STATE n) == 2) := by
  unfold trcCfgWrite
  rw [plainWrite_rw s (rwOnly_trcCfg n)]
  rfl

/-- A write of TUT_TRC_CFG (R328). -/
theorem trcCfgWrite_spec (s : State) (n : Fin 4) (v : Nat) : let t := s.trcCfgWrite n v
    (bit v 4 = true → t.rd (F.TUT_TRC_STATUS_STATE n) = 1 ∧ t.rd (F.TUT_TRC_STATUS_WORDS n) = 0 ∧
      t.rd (F.TUT_TRC_INJ_INDEX n) = 0xFFFF ∧ (t.tu n).evtHit = false ∧ t.on (F.TUT_TRC_CFG_ARM n) = true) ∧
    (bit v 4 = false → t.rd (F.TUT_TRC_STATUS_STATE n) = s.rd (F.TUT_TRC_STATUS_STATE n)) := by
  have hne : ∀ f : Fld, f.addr = R.TUT_TRC_STATUS n ∨ f.addr = R.TUT_TRC_INJ n → f.addr ≠ (F.TUT_TRC_CFG_ARM n).addr := fun f hf e => by
    have h1 : R.TUT_TRC_STATUS n ≠ (F.TUT_TRC_CFG_ARM n).addr := by clear * -; decide +revert
    have h2 : R.TUT_TRC_INJ n ≠ (F.TUT_TRC_CFG_ARM n).addr := by clear * -; decide +revert
    obtain h | h := hf
    · exact h1 (h ▸ e)
    · exact h2 (h ▸ e)
  rw [trcCfgWrite_eq]
  dsimp only
  refine ⟨fun h => ?_, fun h => ?_⟩
  · rw [if_pos h]
    obtain ⟨hs, hw, hi, he⟩ := traceArmed_spec (s.put (R.TUT_TRC_CFG n) (s.rwWord (R.TUT_TRC_CFG n) v)) n
    refine ⟨?_, ?_, ?_, by simpa [tu] using he, ?_⟩
    · exact (rd_wr_ne _ _ (hne _ (.inl rfl))).trans hs
    · exact (rd_wr_ne _ _ (hne _ (.inl rfl))).trans hw
    · exact (rd_wr_ne _ _ (hne _ (.inr rfl))).trans hi
    · rw [hs, on, wrB, rd_wr _ _ (show 4 + 1 ≤ 32 by decide)]
      rfl
  · rw [if_neg (by simp [h])]
    exact (rd_wr_ne _ _ (hne _ (.inl rfl))).trans (rd_put_ne _ _ (by clear * -; decide +revert))

theorem trcCfgWrite_dram (s : State) (n : Fin 4) (v : Nat) : (s.trcCfgWrite n v).dram = s.dram := by
  rw [trcCfgWrite_eq]
  dsimp only
  split
  · simp [traceArmed, modTut]
  · simp

/-- An injection armed (R329). -/
def injArmed (s : State) (n : Fin 4) : State :=
  ((s.wr (F.TUT_INJ_STATUS_STATE n) 1).wr (F.TUT_INJ_STATUS_SAMPLES n) 0).modTut n fun t => { t with injFrame := false, injK := 0 }

theorem injCfgWrite_eq (s : State) (n : Fin 4) (v : Nat) : s.injCfgWrite n v =
    let u := s.put (R.TUT_INJ_CFG n) (s.rwWord (R.TUT_INJ_CFG n) v)
    let run := s.rd (F.TUT_INJ_STATUS_STATE n) == 1 || s.rd (F.TUT_INJ_STATUS_STATE n) == 2
    if bit v 6 then (if bits v 2 3 = 0 then u.wrB (F.TUT_INJ_CFG_GO n) run else u.injArmed n) else u.wrB (F.TUT_INJ_CFG_GO n) run := by
  unfold injCfgWrite
  rw [plainWrite_rw s (rwOnly_injCfg n)]
  rfl

/-- A write of TUT_INJ_CFG (R329). -/
theorem injCfgWrite_spec (s : State) (n : Fin 4) (v : Nat) : let t := s.injCfgWrite n v
    (bit v 6 = true → bits v 2 3 ≠ 0 → t.rd (F.TUT_INJ_STATUS_STATE n) = 1 ∧ t.rd (F.TUT_INJ_STATUS_SAMPLES n) = 0) ∧
    (bit v 6 = false ∨ bits v 2 3 = 0 → t.rd (F.TUT_INJ_STATUS_STATE n) = s.rd (F.TUT_INJ_STATUS_STATE n)) := by
  have idle : ∀ w b, ((s.put (R.TUT_INJ_CFG n) w).wrB (F.TUT_INJ_CFG_GO n) b).rd (F.TUT_INJ_STATUS_STATE n) = s.rd (F.TUT_INJ_STATUS_STATE n) :=
    fun w b => (rd_wr_ne _ _ (by clear * -; decide +revert)).trans (rd_put_ne _ _ (by clear * -; decide +revert))
  rw [injCfgWrite_eq]
  dsimp only
  refine ⟨fun h h2 => ?_, fun h => ?_⟩
  · rw [if_pos h, if_neg h2, injArmed, modTut_rd, modTut_rd]
    refine ⟨?_, ?_⟩
    · rw [rd_wr_apart _ _ (by clear * -; decide +revert), rd_wr _ _ (show 0 + 2 ≤ 32 by decide)]
      rfl
    · rw [rd_wr _ _ (show 16 + 16 ≤ 32 by decide)]
      rfl
  · split
    · next h6 =>
      rw [if_pos (h.resolve_left (by simp [h6])), idle]
    · rw [idle]

theorem injCfgWrite_dram (s : State) (n : Fin 4) (v : Nat) : (s.injCfgWrite n v).dram = s.dram := by
  rw [injCfgWrite_eq]
  dsimp only
  split
  · split
    · simp
    · simp [injArmed, modTut]
  · simp

end State

/-- Settles O60. -/
theorem tutorCycle : Obligations.TutorCycle := by
  intro n c can id bytes v r s
  refine ⟨fun h => ?_, fun h hr => ?_, fun h hr => ?_, ?_, ?_, fun h => ?_, fun h => ?_⟩
  · have he : exec (.tutorLatch n c) s = .next (s.tutorLatch n c) := congrArg Host.Outcome.next (if_neg (by simp [h]))
    refine ⟨_, he, ?_, fun en => ?_, fun en => ?_⟩
    · unfold tutorLatch
      split
      · exact (latchedBy_tutorStep.pends s n c).latched.dram
      · rfl
    · rw [tutorLatch, if_neg (by simp [en])]
    · obtain ⟨hl, hw⟩ := latchedBy_tutorStep.pends s n c
      rw [tutorLatch, if_pos en]
      exact ⟨hl.count, hw, hl.taken, hl.outputs⟩
  · refine (congrArg Host.Outcome.next (if_neg (by simp [h]))).trans ?_
    rw [tutorRelease, hr]
  · exact ⟨_, congrArg Host.Outcome.next (if_neg (by simp [h])), tutorRelease_spec hr⟩
  · exact ⟨_, rfl, pitchFrame_spec s n can.val id bytes⟩
  · exact ⟨_, rfl, pitchTimeout_spec s n⟩
  · exact ⟨_, congrArg Host.Outcome.next (if_neg (by simp [h])), trcCfgWrite_dram .., trcCfgWrite_spec ..⟩
  · exact ⟨_, congrArg Host.Outcome.next (if_neg (by simp [h])), injCfgWrite_dram .., injCfgWrite_spec ..⟩

end Sys2Proof.Machine
end

section
/-! SUPPORT. SET_LOOP and the tuning commands (R129, R145, R320, R323, R326, R328, R329). -/

set_option Elab.async false

namespace Sys2Proof.Machine
open State
namespace State

/-! ### What a command on a loop context leaves alone -/

/-- Words of a set and channel state may differ; the banks, the mailboxes, DRAM and firmware's data stand. -/
structure LoopKept (A : Nat → Prop) (s t : State) : Prop where
  word : ∀ x, ¬ A x → t.get x = s.get x
  dram : t.dram = s.dram
  comp : t.comp = s.comp
  strm : t.strm = s.strm
  mbx : t.mbx = s.mbx
  fw : t.fw = s.fw

namespace LoopKept
variable {A B : Nat → Prop} {s t u : State}

theorem refl (s : State) : LoopKept A s s := ⟨fun _ _ => rfl, rfl, rfl, rfl, rfl, rfl⟩
theorem trans (h : LoopKept A s t) (k : LoopKept A t u) : LoopKept A s u :=
  ⟨fun a ha => (k.word a ha).trans (h.word a ha), k.dram.trans h.dram, k.comp.trans h.comp, k.strm.trans h.strm, k.mbx.trans h.mbx,
    k.fw.trans h.fw⟩
theorem mono (h : LoopKept A s t) (k : ∀ x, A x → B x) : LoopKept B s t :=
  ⟨fun x hx => h.word x fun ha => hx (k x ha), h.dram, h.comp, h.strm, h.mbx, h.fw⟩
theorem rd (h : LoopKept A s t) {f : Fld} (hf : ¬ A f.addr) : t.rd f = s.rd f := rd_congr (h.word _ hf)
theorem port (h : LoopKept A s t) (p : Fin 3) : t.port p = s.port p := by rw [State.port, h.mbx, State.port]
theorem bind (h : LoopKept A s t) (k : LoopKept A s t → LoopKept A s u) : LoopKept A s u := k h
theorem ite {p : Prop} {_ : Decidable p} (h : LoopKept A s t) (k : LoopKept A s u) : LoopKept A s (if p then t else u) := by
  split
  · exact h
  · exact k
theorem foldl {α : Type} {l : List α} {f : State → α → State} (h : LoopKept A s t)
    (k : ∀ u x, x ∈ l → LoopKept A s u → LoopKept A s (f u x)) : LoopKept A s (l.foldl f t) := by
  induction l generalizing t with
  | nil => exact h
  | cons x l ih => exact ih (k t x (.head _) h) fun u y hy => k u y (.tail x hy)
theorem puts (h : LoopKept A s t) (k : Puts A t u) : LoopKept A s u :=
  h.trans ⟨k.word, k.dram, by rw [k.rest]; rfl, by rw [k.rest]; rfl, k.mbx, k.fw⟩
theorem put (h : LoopKept A s t) {a v : Nat} (ha : A a) : LoopKept A s (t.put a v) := h.puts ((Puts.refl t).put ha)
theorem wr (h : LoopKept A s t) {f : Fld} {v : Nat} (ha : A f.addr) : LoopKept A s (t.wr f v) := h.put ha
theorem wrB (h : LoopKept A s t) {f : Fld} {b : Bool} (ha : A f.addr) : LoopKept A s (t.wrB f b) := h.put ha
theorem modTut (h : LoopKept A s t) {n : Fin 4} {f : TutRun → TutRun} : LoopKept A s (t.modTut n f) :=
  h.trans ⟨fun _ _ => rfl, rfl, rfl, rfl, rfl, rfl⟩
theorem modCtx (h : LoopKept A s t) {n c : Fin 4} {f : CtxRun → CtxRun} : LoopKept A s (t.modCtx n c f) := h.modTut
theorem setFree (h : LoopKept A s t) {k : Nat} : LoopKept A s (t.setFree k) := h.trans ⟨fun _ _ => rfl, rfl, rfl, rfl, rfl, rfl⟩
theorem putList (h : LoopKept A s t) {f : Nat → Nat} {k : Nat} {l : List Nat} (hf : ∀ i, i < k → A (f i)) :
    LoopKept A s (t.putList f k l) := h.foldl fun _ _ hi h => h.put (hf _ (List.mem_range.mp hi))

/-! ### Enable and disable (R320) -/

theorem alignUpdate (h : LoopKept A s t) {n c : Fin 4} (h1 : A (R.TUT_CTXc_CTRL n c.val)) (h2 : A (R.TUT_STATUS n)) :
    LoopKept A s (t.alignUpdate n c) := (h.wrB h1).wr h2
theorem ctxRunning (h : LoopKept A s t) {n c : Fin 4} {b : Bool} (h1 : A (R.TUT_CTXc_CTRL n c.val)) (h2 : A (R.TUT_STATUS n))
    (h3 : A (R.TUT_CTXc_STATUS n c.val)) : LoopKept A s (t.ctxRunning n c b) := ((h.wrB h1).wrB h3).wr h2
theorem juncClear (h : LoopKept A s t) {n c : Fin 4} : LoopKept A s (t.juncClear n c) := h.modTut
theorem setX (h : LoopKept A s t) {n c : Fin 4} {i : Nat} {v : Int} (h1 : A (R.TUT_CTXc_Xi_LO n c.val i)) (h2 : A (R.TUT_CTXc_Xi_HI n c.val i)) :
    LoopKept A s (t.setX n c i v) := (h.put h1).put h2

end LoopKept

/-- The words of Tutor below the matrices and the states (R330). -/
def lowWord (n : Fin 4) (a : Nat) : Prop := a < lecBase n + 0x1a000

/-- The states loaded from X0 (R320). -/
def statesLoaded (s : State) (n c : Fin 4) : State := (List.range 16).foldl (fun s i => s.setX n c i (32 * s.coef n c (656 + i))) s

/-- What follows the states at an enable. -/
def enabledFrom (s : State) (n c : Fin 4) : State :=
  let s := s.wr (F.TUT_CTXc_STATUS_FROZEN n c.val) 0
  let s := s.wr (F.TUT_STATUS_FROZEN n) (setBit (s.rd (F.TUT_STATUS_FROZEN n)) c.val false)
  let s := [F.TUT_SAT_OUT_SAT n, F.TUT_SAT_ROUTE_SAT n, F.TUT_SAT_STATE_SAT n, F.TUT_SAT_INNOV n].foldl
    (fun s f => s.wr f (setBit (s.rd f) c.val false)) s
  let s := s.wr (F.TUT_CTXc_STATUS_LATCHES n c.val) 0
  let s := s.modCtx n c fun k => { k with fresh := [], hold := 0, absentRun := 0, rel := none }
  ((s.juncClear n c).alignUpdate n c).ctxRunning n c true

theorem ctxEnable_eq (s : State) (n c : Fin 4) : s.ctxEnable n c = (s.statesLoaded n c).enabledFrom n c := rfl

theorem enabledFrom_kept (s : State) (n c : Fin 4) : LoopKept (lowWord n) s (s.enabledFrom n c) := by
  have hs : lowWord n (R.TUT_STATUS n) := by unfold lowWord R.TUT_STATUS; omega
  have hsat : ∀ f ∈ [F.TUT_SAT_OUT_SAT n, F.TUT_SAT_ROUTE_SAT n, F.TUT_SAT_STATE_SAT n, F.TUT_SAT_INNOV n], lowWord n f.addr := by
    have h : lowWord n (R.TUT_SAT n) := by unfold lowWord R.TUT_SAT; omega
    intro f hf
    simp only [List.mem_cons, List.not_mem_nil, or_false] at hf
    obtain rfl | rfl | rfl | rfl := hf <;> exact h
  have hc : lowWord n (R.TUT_CTXc_CTRL n c.val) := by unfold lowWord R.TUT_CTXc_CTRL; omega
  have hst : lowWord n (R.TUT_CTXc_STATUS n c.val) := by unfold lowWord R.TUT_CTXc_STATUS; omega
  exact (((((((LoopKept.refl s).wr hst).wr hs).foldl fun _ f hf h => h.wr (hsat f hf)).wr hst).modCtx.juncClear.alignUpdate hc hs).ctxRunning hc hs hst)

theorem statesLoaded_kept (s : State) (n c : Fin 4) : LoopKept (fun _ => True) s (s.statesLoaded n c) :=
  (LoopKept.refl s).foldl fun _ _ _ h => h.setX trivial trivial

theorem ctxEnable_kept (s : State) (n c : Fin 4) : LoopKept (fun _ => True) s (s.ctxEnable n c) := by
  rw [ctxEnable_eq]
  exact (statesLoaded_kept s n c).trans ((enabledFrom_kept _ n c).mono fun _ _ => trivial)

theorem ctxDisable_kept (s : State) (n c : Fin 4) : LoopKept (fun _ => True) s (s.ctxDisable n c) :=
  (LoopKept.refl s).juncClear.modCtx.ctxRunning trivial trivial trivial

theorem ctxRunning_on (s : State) (n c : Fin 4) (b : Bool) : (s.ctxRunning n c b).on (F.TUT_CTXc_CTRL_EN n c.val) = b := by
  have h1 : (F.TUT_CTXc_CTRL_EN n c.val).addr ≠ (F.TUT_STATUS_RUNNING n).addr := by
    unfold F.TUT_CTXc_CTRL_EN F.TUT_STATUS_RUNNING R.TUT_CTXc_CTRL R.TUT_STATUS
    dsimp only
    omega
  have h2 : (F.TUT_CTXc_CTRL_EN n c.val).addr ≠ (F.TUT_CTXc_STATUS_RUNNING n c.val).addr := by
    unfold F.TUT_CTXc_CTRL_EN F.TUT_CTXc_STATUS_RUNNING R.TUT_CTXc_CTRL R.TUT_CTXc_STATUS
    dsimp only
    omega
  exact (on_congr (rd_wr_ne _ _ h1)).trans ((on_congr (rd_wr_ne _ _ h2)).trans (on_wrB _ _ (show 0 + 1 ≤ 32 by decide) rfl))

theorem ctxRunning_ctx (s : State) (n c d : Fin 4) (b : Bool) : (s.ctxRunning n c b).ctx n d = s.ctx n d := by
  unfold ctxRunning
  simp [ctx, tu]

theorem alignUpdate_ctx (s : State) (n c d : Fin 4) : (s.alignUpdate n c).ctx n d = s.ctx n d := by
  unfold alignUpdate
  simp [ctx, tu]

theorem ctxEnable_rel (s : State) (n c : Fin 4) : ((s.ctxEnable n c).ctx n c).rel = none := by
  rw [ctxEnable_eq, enabledFrom, ctxRunning_ctx, alignUpdate_ctx, juncClear, ctx, tu_modTut]
  exact congrArg CtxRun.rel (ctx_modCtx ..)

theorem ctxEnable_on (s : State) (n c : Fin 4) : (s.ctxEnable n c).on (F.TUT_CTXc_CTRL_EN n c.val) = true := ctxRunning_on ..
theorem ctxDisable_on (s : State) (n c : Fin 4) : (s.ctxDisable n c).on (F.TUT_CTXc_CTRL_EN n c.val) = false := ctxRunning_on ..

/-! ### The states of a context -/

theorem signed_unsigned {v : Int} (h0 : -2 ^ 39 ≤ v) (h1 : v < 2 ^ 39) : signed (unsigned v 40) 40 = v := by
  unfold signed unsigned
  dsimp only
  split
  · omega
  · omega

theorem xOf_setX (s : State) (n c : Fin 4) (i : Nat) {v : Int} (h0 : -2 ^ 39 ≤ v) (h1 : v < 2 ^ 39) : (s.setX n c i v).xOf n c i = v := by
  have hne : R.TUT_CTXc_Xi_LO n c.val i ≠ R.TUT_CTXc_Xi_HI n c.val i := by unfold R.TUT_CTXc_Xi_LO R.TUT_CTXc_Xi_HI; omega
  have hu := unsigned_lt v 40
  have hb : bits (unsigned v 40 / 2 ^ 32 % 2 ^ 32) 0 8 = unsigned v 40 / 2 ^ 32 := by
    unfold bits
    omega
  unfold xOf setX
  dsimp only
  rw [get_put_ne _ _ hne, get_put_self, get_put_self, hb, Nat.mod_mod, Nat.mod_add_div' ]
  exact signed_unsigned h0 h1

theorem xOf_setX_ne (s : State) (n c : Fin 4) {i j : Nat} (v : Int) (h : i ≠ j) : (s.setX n c j v).xOf n c i = s.xOf n c i := by
  unfold xOf setX
  dsimp only
  rw [get_put_ne, get_put_ne, get_put_ne, get_put_ne]
  all_goals
    simp only [R.TUT_CTXc_Xi_LO, R.TUT_CTXc_Xi_HI]
    omega

theorem coef_setX (s : State) (n c : Fin 4) {i w : Nat} (v : Int) (hw : w < 768) : (s.setX n c i v).coef n c w = s.coef n c w := by
  have hc := c.isLt
  unfold coef setX
  dsimp only
  rw [get_put_ne, get_put_ne]
  all_goals
    simp only [R.TUT_CTXc_Xi_LO, R.TUT_CTXc_Xi_HI, R.TUT_CTXc_MAT]
    omega

theorem coef_range (s : State) (n c : Fin 4) (w : Nat) : -2 ^ 30 ≤ s.coef n c w ∧ s.coef n c w < 2 ^ 30 := by
  unfold coef q27 clampI
  split
  · omega
  · split
    · omega
    · omega

theorem statesLoaded_x (s : State) (n c : Fin 4) {i : Nat} (hi : i < 16) : (s.statesLoaded n c).xOf n c i = 32 * s.coef n c (656 + i) :=
  foldl_establishes_at (x := i) (I := fun u => ∀ w, w < 768 → u.coef n c w = s.coef n c w) (P := fun u => u.xOf n c i = 32 * s.coef n c (656 + i))
    List.nodup_range (List.mem_range.mpr hi) (fun u j _ h w hw => (coef_setX u n c _ hw).trans (h w hw))
    (fun u h => by
      obtain ⟨h0, h1⟩ := coef_range u n c (656 + i)
      rw [xOf_setX u n c i (by omega) (by omega), h _ (by omega)])
    (fun u j hj h => (xOf_setX_ne u n c _ hj.symm).trans h) fun _ _ => rfl

/-- An enable loads the states from X0. -/
theorem ctxEnable_x (s : State) (n c : Fin 4) {i : Nat} (hi : i < 16) : (s.ctxEnable n c).xOf n c i = 32 * s.coef n c (656 + i) := by
  rw [← statesLoaded_x s n c hi, ctxEnable_eq]
  have hk := enabledFrom_kept (s.statesLoaded n c) n c
  have hlo : ¬ lowWord n (R.TUT_CTXc_Xi_LO n c.val i) := by unfold lowWord R.TUT_CTXc_Xi_LO; omega
  have hhi : ¬ lowWord n (R.TUT_CTXc_Xi_HI n c.val i) := by unfold lowWord R.TUT_CTXc_Xi_HI; omega
  rw [xOf, hk.word _ hlo, hk.word _ hhi, xOf]

end State
end Sys2Proof.Machine
end

section
/-! SUPPORT. SET_LOOP (R129, R320, R323, R326). -/

set_option Elab.async false

namespace Sys2Proof.Machine
open State
namespace State

/-! ### Templates (R323, R326) -/

/-- Every word but the control word of a context. -/
def besideCtrl (n c : Fin 4) (a : Nat) : Prop := a ≠ R.TUT_CTXc_CTRL n c.val

/-- The control word that a template puts. -/
def templateCtrl (kind : Nat) (t : Template) : Nat :=
  2 * t.clip + 4 * kind + 16 * t.derate + 256 * t.freeze + 65536 * (t.nx - 1) + 2 ^ 20 * (t.nz - 1) + 2 ^ 24 * (t.nu - 1)

/-- The words of a template after its control word. -/
def templateWords (s : State) (n c : Fin 4) (rate phi : Nat) (t : Template) : State :=
  let s := if t.routes.any fun r => bits r 4 3 == 1 then s.wr (F.TUT_CTXc_PERIOD_M n c.val) (max 2 (roundDiv 390625 rate))
    else s.wr (F.TUT_CTXc_PERIOD_CYCLES n c.val) (roundDiv 600000000 rate)
  let s := s.wr (F.TUT_CTXc_PHASE_PHI n c.val) phi
  let s := s.putList (R.TUT_CTXc_MAT n c.val) 672 t.mats
  let s := (s.putList (R.TUT_CTXc_ZSELi n c.val) 8 t.zsel).putList (R.TUT_CTXc_ZSCALEi n c.val) 8 t.zscale
  let s := (s.putList (R.TUT_CTXc_ZOFFi n c.val) 8 t.zoff).putList (R.TUT_CTXc_EBOUNDi n c.val) 8 t.ebound
  (s.putList (R.TUT_CTXc_ROUTEj n c.val) 4 t.routes).putList (R.TUT_CTXc_TAPt n c.val) 8 t.taps

theorem templateWords_kept (s : State) (n c : Fin 4) (rate phi : Nat) (t : Template) :
    LoopKept (besideCtrl n c) s (s.templateWords n c rate phi t) := by
  have hper : besideCtrl n c (R.TUT_CTXc_PERIOD n c.val) := by unfold besideCtrl R.TUT_CTXc_PERIOD R.TUT_CTXc_CTRL; omega
  have hphi : besideCtrl n c (R.TUT_CTXc_PHASE n c.val) := by unfold besideCtrl R.TUT_CTXc_PHASE R.TUT_CTXc_CTRL; omega
  have hmat : ∀ i, i < 672 → besideCtrl n c (R.TUT_CTXc_MAT n c.val i) := fun i _ => by unfold besideCtrl R.TUT_CTXc_MAT R.TUT_CTXc_CTRL; omega
  have hzsel : ∀ i, i < 8 → besideCtrl n c (R.TUT_CTXc_ZSELi n c.val i) := fun i _ => by unfold besideCtrl R.TUT_CTXc_ZSELi R.TUT_CTXc_CTRL; omega
  have hzscale : ∀ i, i < 8 → besideCtrl n c (R.TUT_CTXc_ZSCALEi n c.val i) := fun i _ => by unfold besideCtrl R.TUT_CTXc_ZSCALEi R.TUT_CTXc_CTRL; omega
  have hzoff : ∀ i, i < 8 → besideCtrl n c (R.TUT_CTXc_ZOFFi n c.val i) := fun i _ => by unfold besideCtrl R.TUT_CTXc_ZOFFi R.TUT_CTXc_CTRL; omega
  have hbound : ∀ i, i < 8 → besideCtrl n c (R.TUT_CTXc_EBOUNDi n c.val i) := fun i _ => by unfold besideCtrl R.TUT_CTXc_EBOUNDi R.TUT_CTXc_CTRL; omega
  have hroute : ∀ i, i < 4 → besideCtrl n c (R.TUT_CTXc_ROUTEj n c.val i) := fun i _ => by unfold besideCtrl R.TUT_CTXc_ROUTEj R.TUT_CTXc_CTRL; omega
  have htap : ∀ i, i < 8 → besideCtrl n c (R.TUT_CTXc_TAPt n c.val i) := fun i _ => by unfold besideCtrl R.TUT_CTXc_TAPt R.TUT_CTXc_CTRL; omega
  have h0 : LoopKept (besideCtrl n c) s (if t.routes.any fun r => bits r 4 3 == 1 then s.wr (F.TUT_CTXc_PERIOD_M n c.val) (max 2 (roundDiv 390625 rate))
      else s.wr (F.TUT_CTXc_PERIOD_CYCLES n c.val) (roundDiv 600000000 rate)) := .ite ((LoopKept.refl s).wr hper) ((LoopKept.refl s).wr hper)
  exact (((((((h0.wr hphi).putList hmat).putList hzsel).putList hzscale).putList hzoff).putList hbound).putList hroute).putList htap

theorem putTemplate_eq (s : State) (n c : Fin 4) (kind rate phi : Nat) (t : Template) : ∃ f, s.putTemplate n c kind rate phi t =
    (((s.put (R.TUT_CTXc_CTRL n c.val) (templateCtrl kind t)).templateWords n c rate phi t).modCtx n c f).alignUpdate n c := ⟨_, rfl⟩

theorem putTemplate_kept (s : State) (n c : Fin 4) (kind rate phi : Nat) (t : Template) :
    LoopKept (fun _ => True) s (s.putTemplate n c kind rate phi t) := by
  obtain ⟨f, hf⟩ := putTemplate_eq s n c kind rate phi t
  rw [hf]
  exact ((((LoopKept.refl s).put trivial).trans ((templateWords_kept ..).mono fun _ _ => trivial)).modCtx).alignUpdate trivial trivial

/-- A field of the control word after a template was put: ALIGN apart, it reads as the template has it. -/
theorem putTemplate_ctrl (s : State) (n c : Fin 4) (kind rate phi : Nat) (t : Template) {f : Fld} (hf : f.addr = R.TUT_CTXc_CTRL n c.val)
    (ha : apart (F.TUT_CTXc_CTRL_ALIGN n c.val) f = true) :
    (s.putTemplate n c kind rate phi t).rd f = bits (templateCtrl kind t % 2 ^ 32) f.lo f.w := by
  obtain ⟨g, hg⟩ := putTemplate_eq s n c kind rate phi t
  have hne : f.addr ≠ (F.TUT_STATUS_ALIGNED n).addr := by
    rw [hf]
    unfold F.TUT_STATUS_ALIGNED R.TUT_CTXc_CTRL R.TUT_STATUS
    dsimp only
    omega
  have hk := templateWords_kept (s.put (R.TUT_CTXc_CTRL n c.val) (templateCtrl kind t)) n c rate phi t
  rw [hg, alignUpdate]
  refine (rd_wr_ne _ _ hne).trans ((rd_wrB_apart _ _ ha).trans ?_)
  rw [modCtx, modTut_rd, hk.rd (by unfold besideCtrl; simp [hf]), State.rd, hf, get_put_self]

/-- The references of a request (R129). -/
theorem putRefs_puts (s : State) (n c : Fin 4) (pl : List Byte) :
    Puts (fun x => ∃ i ∈ List.range 4, R.TUT_CTXc_REFi n c.val i = x) s (s.putRefs n c pl) := putEach_puts ..

theorem putRefs_get (s : State) (n c : Fin 4) (pl : List Byte) {i : Nat} (hi : i < 4) :
    (s.putRefs n c pl).get (R.TUT_CTXc_REFi n c.val i) = le32 pl (12 + 4 * i) := by
  refine (putEach_get (R.TUT_CTXc_REFi n c.val) (fun i => ((List.range 4).map fun i => le32 pl (12 + 4 * i)).getD i 0) s
    (List.mem_range.mpr hi) fun j _ e => by unfold R.TUT_CTXc_REFi at e; omega).trans ?_
  rw [List.getD_eq_getElem _ _ (by simpa using hi), List.getElem_map, List.getElem_range, Nat.mod_eq_of_lt (le32_lt ..)]

/-! ### The command in general -/

/-- An answer without data that leaves the banks, the mailboxes and DRAM as they were. -/
structure LoopAns (s : State) (a : Ans) : Prop where
  data : a.data = []
  dram : a.s.dram = s.dram
  comp : a.s.comp = s.comp
  strm : a.s.strm = s.strm

theorem LoopAns.refused (s : State) (st d : Nat) : LoopAns s (refuse s st d) := ⟨rfl, rfl, rfl, rfl⟩
theorem LoopAns.ok {A : Nat → Prop} {s t : State} (h : LoopKept A s t) : LoopAns s ⟨t, stOK, 0, []⟩ := ⟨rfl, h.dram, h.comp, h.strm⟩
theorem LoopAns.ite {s : State} {p : Prop} {_ : Decidable p} {a b : Ans} (h : LoopAns s a) (k : LoopAns s b) : LoopAns s (if p then a else b) := by
  split
  · exact h
  · exact k

/-- The machine with a template loaded. -/
def templateLoaded (s : State) (n c : Fin 4) (kind rate phi : Nat) (pl : List Byte) (t : Template) : State :=
  ((s.setFree (s.free + 684)).putTemplate n c kind rate phi t).putRefs n c pl

theorem templateLoaded_kept (s : State) (n c : Fin 4) (kind rate phi : Nat) (pl : List Byte) (t : Template) :
    LoopKept (fun _ => True) s (s.templateLoaded n c kind rate phi pl t) :=
  (((LoopKept.refl s).setFree).trans (putTemplate_kept ..)).puts ((putRefs_puts ..).mono fun _ _ => trivial)

theorem loadTemplate_ans (s : State) (n c : Fin 4) (pl : List Byte) : LoopAns s (s.loadTemplate n c pl) := by
  have go : ∀ t : Template, LoopAns s ⟨if byteAt pl 3 = 1 then (s.templateLoaded n c (byteAt pl 3) (le32 pl 4) (le16 pl 8) pl t).stageSpSel n c
      else s.templateLoaded n c (byteAt pl 3) (le32 pl 4) (le16 pl 8) pl t, stOK, 0, []⟩ := fun t => by
    have h := templateLoaded_kept s n c (byteAt pl 3) (le32 pl 4) (le16 pl 8) pl t
    split
    · unfold stageSpSel
      split
      · exact .ok h
      · exact ⟨rfl, by simpa [restage] using h.dram, by simpa [restage] using h.comp, by simpa [restage] using h.strm⟩
    · exact .ok h
  unfold loadTemplate
  dsimp only
  refine .ite (.refused ..) ?_
  split
  · exact .refused ..
  · refine .ite (.ite (go _) (.refused ..)) ?_
    split
    · exact .refused ..
    · split
      · exact .refused ..
      · exact .ite (go _) (.refused ..)

theorem setLoop_ans (s : State) (pl : List Byte) : LoopAns s (s.setLoop pl) := by
  unfold setLoop
  dsimp only
  refine .ite (.refused ..) (.ite (.refused ..) (.ite (loadTemplate_ans ..) (.ite (.refused ..) (.ite ?_ (.ite
    (.ite (.refused ..) (.ite (.refused ..) ?_)) (.ite (.refused ..) ?_))))))
  · exact .ok (.ite (ctxDisable_kept ..) (.refl s))
  · exact .ok (.ite (.refl s) (ctxEnable_kept ..))
  · exact .ok ((LoopKept.refl s).puts (putRefs_puts ..))

end State
end Sys2Proof.Machine
end

section
/-! SUPPORT. SET_LOOP and the tuning commands as O35 states them. -/

set_option Elab.async false

namespace Sys2Proof.Machine
open State

theorem le32_append {l m : List Byte} {i : Nat} (h : i + 3 < l.length) : le32 (l ++ m) i = le32 l i := by
  simp only [le32, le16]
  rw [byteAt_append (by omega), byteAt_append (by omega), byteAt_append (by omega), byteAt_append (by omega)]

namespace State

/-- The bytes of a SET_LOOP request (R129). -/
structure LoopForm (pl : List Byte) (n c : Fin 4) (act kind rate phi : Nat) (refs : List Word) : Prop where
  len : pl.length = 30
  chn : byteAt pl 0 = n.val
  ctx : byteAt pl 1 = c.val
  action : byteAt pl 2 = act % 256
  kind : byteAt pl 3 = kind
  rate : le32 pl 4 = rate
  phi : le16 pl 8 = phi
  zero : zeroAt pl 10 2 = true
  ref : ∀ i, i < 4 → le32 pl (12 + 4 * i) = (refs.getD i 0).toNat
  set : le16 pl 28 = 0

theorem loopForm {n c : Fin 4} {act kind rate phi : Nat} {refs : List Word} (hr : refs.length = 4) (hk : kind < 4) (hrate : rate < 2 ^ 32)
    (hphi : phi < 2 ^ 16) :
    LoopForm (leBytes 1 n.val ++ leBytes 1 c.val ++ leBytes 1 act ++ leBytes 1 kind ++ leBytes 4 rate ++ leBytes 2 phi ++ [0, 0] ++
      wordBytes refs ++ [0, 0]) n c act kind rate phi refs := by
  have hw := wordBytes_length refs
  refine ⟨?_, ?_, ?_, ?_, ?_, ?_, ?_, ?_, fun i hi => ?_, ?_⟩
  · simp [hw, hr]
  · simp [leBytes, byteAt]; omega
  · simp [leBytes, byteAt]; omega
  · simp [leBytes, byteAt]
  · simp [leBytes, byteAt]; omega
  · simp [leBytes, le32, le16, byteAt]; omega
  · simp [leBytes, le16, byteAt]; omega
  · simp [zeroAt_two, leBytes, byteAt]
  · rw [le32_append (by simp [hw, hr]; omega)]
    have h := le32_append_add (leBytes 1 n.val ++ leBytes 1 c.val ++ leBytes 1 act ++ leBytes 1 kind ++ leBytes 4 rate ++ leBytes 2 phi ++
      [0, 0]) (wordBytes refs) (4 * i)
    rw [← le32_wordBytes, ← h]
    simp
  · have h := byteAt_append_add (leBytes 1 n.val ++ leBytes 1 c.val ++ leBytes 1 act ++ leBytes 1 kind ++ leBytes 4 rate ++ leBytes 2 phi ++
      [0, 0] ++ wordBytes refs) [0, 0]
    have h0 := h 0
    have h1 := h 1
    simp only [List.length_append, leBytes_length, List.length_cons, List.length_nil, hw, hr] at h0 h1
    rw [le16, h0, h1]
    rfl

section
variable {s : State} {pl : List Byte} {n c : Fin 4} {act kind rate phi : Nat} {refs : List Word}

theorem chan_val (k : Fin 4) : chan k.val = k := by decide +revert

theorem LoopForm.passes (f : LoopForm pl n c act kind rate phi refs) (h : act < 4) :
    (!decide (byteAt pl 0 < 4 ∧ byteAt pl 1 < 4 ∧ byteAt pl 2 < 4) || !zeroAt pl 10 2) = false := by
  have ha : byteAt pl 2 < 4 := by rw [f.action]; omega
  simp [f.chn, f.ctx, f.zero, n.isLt, c.isLt, ha]

theorem LoopForm.refsOk (f : LoopForm pl n c act kind rate phi refs) (hr : refs.length = 4) (hq : ∀ w ∈ refs, q27Ok w.toNat = true) :
    (List.range 4).all (fun i => q27Ok (le32 pl (12 + 4 * i))) = true := by
  rw [List.all_eq_true]
  intro i hi
  have hi := List.mem_range.mp hi
  rw [f.ref i hi, List.getD_eq_getElem _ _ (by omega)]
  exact hq _ (List.getElem_mem _)

/-- SET_LOOP DISABLE. -/
theorem setLoop_disable (f : LoopForm pl n c 0 0 rate phi refs) :
    s.setLoop pl = ⟨if s.on (F.TUT_CTXc_CTRL_EN n c.val) then s.ctxDisable n c else s, stOK, 0, []⟩ := by
  unfold setLoop
  rw [if_neg (by simp [f.len]), f.passes (by decide), if_neg (by decide)]
  simp only [f.chn, f.ctx, f.action, f.kind, chan_val]
  rfl

/-- SET_LOOP ENABLE. -/
theorem setLoop_enable (f : LoopForm pl n c 1 0 rate phi refs) (hd : s.destShared n c = false) (hb : s.bistNames (2 ^ n.val) false = false) :
    s.setLoop pl = ⟨if s.on (F.TUT_CTXc_CTRL_EN n c.val) then s else s.ctxEnable n c, stOK, 0, []⟩ := by
  unfold setLoop
  rw [if_neg (by simp [f.len]), f.passes (by decide), if_neg (by decide)]
  simp only [f.chn, f.ctx, f.action, f.kind, chan_val, hd, hb]
  rfl

/-- SET_LOOP SET_REF. -/
theorem setLoop_refs (f : LoopForm pl n c 3 0 rate phi refs) (hr : refs.length = 4) (hq : ∀ w ∈ refs, q27Ok w.toNat = true) :
    s.setLoop pl = ⟨s.putRefs n c pl, stOK, 0, []⟩ := by
  unfold setLoop
  rw [if_neg (by simp [f.len]), f.passes (by decide), if_neg (by decide)]
  simp only [f.chn, f.ctx, f.action, f.kind, chan_val, f.refsOk hr hq]
  rfl

/-- SET_LOOP LOAD_TEMPLATE of LEVELLING without a tuning set. -/
theorem setLoop_levelling (f : LoopForm pl n c 2 3 rate phi refs) (hr : refs.length = 4) (hq : ∀ w ∈ refs, q27Ok w.toNat = true)
    (hlo : 1000 ≤ rate) (hhi : rate ≤ 200000) (hphi : 176 ≤ phi) (hper : phi * rate < 600000000) :
    s.setLoop pl = if s.tutorIdle n then ⟨s.templateLoaded n c 3 rate phi pl (s.levelTemplate n rate), stOK, 0, []⟩ else refuse s stBUSY 0 := by
  have hload : s.setLoop pl = s.loadTemplate n c pl := by
    unfold setLoop
    rw [if_neg (by simp [f.len]), f.passes (by decide), if_neg (by decide)]
    simp only [f.chn, f.ctx, f.action, chan_val]
    rfl
  rw [hload]
  unfold loadTemplate
  simp only [f.kind, f.rate, f.phi, f.set, f.refsOk hr hq]
  rw [if_neg (by simp [hlo, hhi, hphi, hper])]
  rfl

end

/-! ### Reads of the state that a message leaves -/

theorem opened_ctxWord (s : State) (p : Fin 3) (mb : Fin 6) (q : Nat) (n : Fin 4) {f : Fld} (h : lecBase n ≤ f.addr) :
    (s.opened p mb q).on f = s.on f := on_congr (opened_windowFld s p mb q h)

theorem opened_ctxOn (s : State) (p : Fin 3) (mb : Fin 6) (q : Nat) (n : Fin 4) (c : Nat) :
    (s.opened p mb q).on (F.TUT_CTXc_CTRL_EN n c) = s.on (F.TUT_CTXc_CTRL_EN n c) :=
  opened_ctxWord s p mb q n (show lecBase n ≤ R.TUT_CTXc_CTRL n c by unfold R.TUT_CTXc_CTRL; omega)

theorem opened_destShared (s : State) (p : Fin 3) (mb : Fin 6) (q : Nat) (n c : Fin 4) :
    (s.opened p mb q).destShared n c = s.destShared n c := by
  have hr : ∀ c j : Nat, (s.opened p mb q).get (R.TUT_CTXc_ROUTEj n c j) = s.get (R.TUT_CTXc_ROUTEj n c j) := fun c j =>
    opened_window s p mb q (n := n) (by unfold R.TUT_CTXc_ROUTEj; omega)
  have ht : ∀ c j : Nat, (s.opened p mb q).get (R.TUT_CTXc_TAPt n c j) = s.get (R.TUT_CTXc_TAPt n c j) := fun c j =>
    opened_window s p mb q (n := n) (by unfold R.TUT_CTXc_TAPt; omega)
  simp only [destShared, destsOf, opened_ctxOn, hr, ht]

theorem opened_bistNames (s : State) (p : Fin 3) (mb : Fin 6) (q mask : Nat) (b : Bool) :
    (s.opened p mb q).bistNames mask b = s.bistNames mask b := by simp only [bistNames, bistOn, opened_tap]

theorem opened_coef (s : State) (p : Fin 3) (mb : Fin 6) (q : Nat) (n c : Fin 4) (w : Nat) : (s.opened p mb q).coef n c w = s.coef n c w := by
  rw [coef, opened_window s p mb q (n := n) (by unfold R.TUT_CTXc_MAT; omega), coef]

/-- A word of a channel that a command has changed. -/
theorem mailOnly_window {s t : State} (h : s.mailOnly t) {n : Fin 4} {a : Nat} (ha : lecBase n ≤ a) : t.get a = s.get a :=
  mailOnly_get h (by unfold lecBase at ha; simp only [R.MBX_HSTAT]; omega) (by unfold lecBase at ha; simp only [R.MBX_IRQ_STATUS]; omega)

theorem mailOnly_ctx {s t : State} (h : s.mailOnly t) (n c : Fin 4) : t.ctx n c = s.ctx n c := by
  simp only [ctx, tu, ch, h.lec]

/-! ### The commands -/

/-- SET_LOOP answers, and leaves the banks and DRAM as they were. -/
theorem setLoop_kept {p : Fin 3} {mb : Fin 6} {flags seq : Nat} {pl : List Byte} {s : State} (a : s.Asks p mb 0x17 flags seq pl)
    (hl : 4 ≤ pl.length) : let t := s.serve p mb (· == 0x17) fun s _ pl => s.setLoop pl
    t.dram = s.dram ∧ t.comp = s.comp ∧ t.strm = s.strm := by
  have h := setLoop_ans (s.opened p mb seq) pl
  have hs := serve_ok a (· == 0x17) rfl (fun s _ pl => s.setLoop pl) rfl (by rw [h.data]; exact a.roomFor hl)
  dsimp only
  rw [hs, closed_dram, closed_comp, closed_strm, h.dram, h.comp, h.strm]
  simp

/-- A SET_LOOP that is answered OK, from the state that it leaves. -/
theorem setLoop_performs {p : Fin 3} {mb : Fin 6} {flags seq : Nat} {pl : List Byte} {s v : State} (a : s.Asks p mb 0x17 flags seq pl)
    (hl : 4 ≤ pl.length) (hh : (s.opened p mb seq).setLoop pl = ⟨v, stOK, 0, []⟩) {A : Nat → Prop} (hv : LoopKept A (s.opened p mb seq) v) :
    v.performs (s.serve p mb (· == 0x17) fun s _ pl => s.setLoop pl) p mb 0x17 seq stOK 0 [] :=
  serve_performs a (· == 0x17) rfl (fun s _ pl => s.setLoop pl) rfl (by decide) rfl hh (by decide) (a.roomFor hl) (by rw [hv.port])

/-- A field of a channel after a command. -/
theorem performs_rd {u t : State} {p : Fin 3} {mb : Fin 6} {op seq st d : Nat} {data : List Byte} (h : u.performs t p mb op seq st d data)
    {n : Fin 4} {f : Fld} (hf : lecBase n ≤ f.addr) : t.rd f = u.rd f := rd_congr (mailOnly_window h.2.1 hf)

theorem ctrl_window (n c : Fin 4) : lecBase n ≤ R.TUT_CTXc_CTRL n c.val := by unfold R.TUT_CTXc_CTRL; omega

/-- The LEVELLING template has two states, one input and one output (R326). -/
theorem templateCtrl_level (s : State) (n : Fin 4) (rate : Nat) : templateCtrl 3 (s.levelTemplate n rate) = 65548 := by
  simp [templateCtrl, levelTemplate, bareTemplate]

theorem levelLoaded_ctrl (s : State) (n c : Fin 4) (rate phi : Nat) (pl : List Byte) {f : Fld} (hf : f.addr = R.TUT_CTXc_CTRL n c.val)
    (ha : apart (F.TUT_CTXc_CTRL_ALIGN n c.val) f = true) :
    (s.templateLoaded n c 3 rate phi pl (s.levelTemplate n rate)).rd f = bits 65548 f.lo f.w := by
  have hne : ¬ ∃ i ∈ List.range 4, R.TUT_CTXc_REFi n c.val i = f.addr := fun ⟨i, _, e⟩ => by
    rw [hf] at e
    unfold R.TUT_CTXc_REFi R.TUT_CTXc_CTRL at e
    omega
  rw [templateLoaded, rd_congr ((putRefs_puts _ n c pl).word _ hne), putTemplate_ctrl _ n c 3 rate phi _ hf ha, templateCtrl_level]
  rfl

theorem levelLoaded_fields (s : State) (n c : Fin 4) (rate phi : Nat) (pl : List Byte) :
    let t := s.templateLoaded n c 3 rate phi pl (s.levelTemplate n rate)
    t.nx n c = 2 ∧ t.nz n c = 1 ∧ t.nu n c = 1 ∧ t.rd (F.TUT_CTXc_CTRL_TEMPLATE n c.val) = 3 ∧ t.on (F.TUT_CTXc_CTRL_EN n c.val) = false := by
  dsimp only
  rw [nx, nz, nu, on, levelLoaded_ctrl (f := F.TUT_CTXc_CTRL_NX_M1 n c.val) s n c rate phi pl rfl (by clear * -; decide +revert),
    levelLoaded_ctrl (f := F.TUT_CTXc_CTRL_NZ_M1 n c.val) s n c rate phi pl rfl (by clear * -; decide +revert),
    levelLoaded_ctrl (f := F.TUT_CTXc_CTRL_NU_M1 n c.val) s n c rate phi pl rfl (by clear * -; decide +revert),
    levelLoaded_ctrl (f := F.TUT_CTXc_CTRL_TEMPLATE n c.val) s n c rate phi pl rfl (by clear * -; decide +revert),
    levelLoaded_ctrl (f := F.TUT_CTXc_CTRL_EN n c.val) s n c rate phi pl rfl (by clear * -; decide +revert)]
  simp only [F.TUT_CTXc_CTRL_NX_M1, F.TUT_CTXc_CTRL_NZ_M1, F.TUT_CTXc_CTRL_NU_M1, F.TUT_CTXc_CTRL_TEMPLATE, F.TUT_CTXc_CTRL_EN]
  decide

section
variable {p : Fin 3} {mb : Fin 6} {flags seq act kind rate phi : Nat} {pl : List Byte} {refs : List Word} {n c : Fin 4} {s : State}

theorem setLoop_disabled (a : s.Asks p mb 0x17 flags seq pl) (f : LoopForm pl n c 0 0 rate phi refs) :
    let t := s.serve p mb (· == 0x17) fun s _ pl => s.setLoop pl
    t.answered p mb 0x17 seq stOK 0 [] ∧ t.on (F.TUT_CTXc_CTRL_EN n c.val) = false ∧ t.fw = s.fw := by
  have hv : LoopKept (fun _ => True) (s.opened p mb seq) (if (s.opened p mb seq).on (F.TUT_CTXc_CTRL_EN n c.val) then
      (s.opened p mb seq).ctxDisable n c else s.opened p mb seq) := .ite (ctxDisable_kept ..) (.refl _)
  have h := setLoop_performs a (by rw [f.len]; decide) (setLoop_disable f) hv
  refine ⟨h.1, (on_congr (performs_rd h (ctrl_window n c))).trans ?_, h.2.2.trans (hv.fw.trans (opened_fw ..))⟩
  cases hon : (s.opened p mb seq).on (F.TUT_CTXc_CTRL_EN n c.val) with
  | true => exact ctxDisable_on ..
  | false => exact hon

theorem setLoop_enabled (a : s.Asks p mb 0x17 flags seq pl) (f : LoopForm pl n c 1 0 rate phi refs) (hd : s.destShared n c = false)
    (hb : s.bistNames (2 ^ n.val) false = false) :
    let t := s.serve p mb (· == 0x17) fun s _ pl => s.setLoop pl
    t.answered p mb 0x17 seq stOK 0 [] ∧ t.on (F.TUT_CTXc_CTRL_EN n c.val) = true ∧ t.fw = s.fw ∧
      (s.on (F.TUT_CTXc_CTRL_EN n c.val) = false → (t.ctx n c).rel = none ∧ ∀ i, i < 16 → t.xOf n c i = 32 * s.coef n c (656 + i)) := by
  have hv : LoopKept (fun _ => True) (s.opened p mb seq) (if (s.opened p mb seq).on (F.TUT_CTXc_CTRL_EN n c.val) then s.opened p mb seq
      else (s.opened p mb seq).ctxEnable n c) := .ite (.refl _) (ctxEnable_kept ..)
  have h := setLoop_performs a (by rw [f.len]; decide)
    (setLoop_enable f (by rw [opened_destShared, hd]) (by rw [opened_bistNames, hb])) hv
  refine ⟨h.1, (on_congr (performs_rd h (ctrl_window n c))).trans ?_, h.2.2.trans (hv.fw.trans (opened_fw ..)), fun hw => ?_⟩
  · cases hon : (s.opened p mb seq).on (F.TUT_CTXc_CTRL_EN n c.val) with
    | true => exact hon
    | false => exact ctxEnable_on ..
  · rw [opened_ctxOn, hw, if_neg (by decide)] at h
    rw [mailOnly_ctx h.2.1, ctxEnable_rel]
    refine ⟨rfl, fun i hi => ?_⟩
    rw [← opened_coef s p mb seq, ← ctxEnable_x (s.opened p mb seq) n c hi]
    simp only [xOf]
    rw [mailOnly_window h.2.1 (n := n) (by unfold R.TUT_CTXc_Xi_LO; omega), mailOnly_window h.2.1 (n := n) (by unfold R.TUT_CTXc_Xi_HI; omega)]

theorem setLoop_setRefs (a : s.Asks p mb 0x17 flags seq pl) (f : LoopForm pl n c 3 0 rate phi refs) (hr : refs.length = 4)
    (hq : ∀ w ∈ refs, q27Ok w.toNat = true) :
    let t := s.serve p mb (· == 0x17) fun s _ pl => s.setLoop pl
    t.answered p mb 0x17 seq stOK 0 [] ∧ t.fw = s.fw ∧ t.lec = s.lec ∧
      (∀ i, i < 4 → t.get (R.TUT_CTXc_REFi n c.val i) = (refs.getD i 0).toNat) ∧
      s.regsKeep t (R.MBX_HSTAT :: R.MBX_IRQ_STATUS :: (List.range 4).map (R.TUT_CTXc_REFi n c.val)) := by
  have hp := putRefs_puts (s.opened p mb seq) n c pl
  have h := setLoop_performs a (by rw [f.len]; decide) (setLoop_refs f hr hq) ((LoopKept.refl _).puts hp)
  refine ⟨h.1, h.2.2.trans (hp.fw.trans (opened_fw ..)), h.2.1.lec.trans (hp.lec.trans (opened_lec ..)), fun i hi => ?_, fun x hx => ?_⟩
  · rw [mailOnly_window h.2.1 (n := n) (by unfold R.TUT_CTXc_REFi; omega), putRefs_get _ _ _ _ hi, f.ref i hi]
  · simp only [List.mem_cons, List.mem_map, not_or, not_exists, not_and] at hx
    obtain ⟨h1, h2, h3⟩ := hx
    rw [mailOnly_get h.2.1 h1 h2, hp.word x fun ⟨i, hi, e⟩ => h3 i hi e, opened_get _ _ _ _ h1]

theorem setLoop_levelled (a : s.Asks p mb 0x17 flags seq pl) (f : LoopForm pl n c 2 3 rate phi refs) (hr : refs.length = 4)
    (hq : ∀ w ∈ refs, q27Ok w.toNat = true) (hlo : 1000 ≤ rate) (hhi : rate ≤ 200000) (hphi : 176 ≤ phi) (hper : phi * rate < 600000000) :
    let t := s.serve p mb (· == 0x17) fun s _ pl => s.setLoop pl
    (s.tutorIdle n = false → s.performs t p mb 0x17 seq stBUSY 0 []) ∧
      (s.tutorIdle n = true → t.answered p mb 0x17 seq stOK 0 [] ∧ t.nx n c = 2 ∧ t.nz n c = 1 ∧ t.nu n c = 1 ∧
        t.rd (F.TUT_CTXc_CTRL_TEMPLATE n c.val) = 3 ∧ t.on (F.TUT_CTXc_CTRL_EN n c.val) = false ∧
        ∀ i, i < 4 → t.get (R.TUT_CTXc_REFi n c.val i) = (refs.getD i 0).toNat) := by
  have hh := setLoop_levelling (s := s.opened p mb seq) f hr hq hlo hhi hphi hper
  rw [opened_tutorIdle] at hh
  refine ⟨fun hi => ?_, fun hi => ?_⟩
  · exact serve_refused a (· == 0x17) rfl (fun s _ pl => s.setLoop pl) rfl (by decide) (a.roomFor (by rw [f.len]; decide)) (by decide)
      (hh.trans (if_neg (by simp [hi])))
  · have h := setLoop_performs a (by rw [f.len]; decide) (hh.trans (if_pos hi)) (templateLoaded_kept ..)
    obtain ⟨hnx, hnz, hnu, htpl, hon⟩ := levelLoaded_fields (s.opened p mb seq) n c rate phi pl
    have hc : ∀ f : Fld, f.addr = R.TUT_CTXc_CTRL n c.val → (s.serve p mb (· == 0x17) fun s _ pl => s.setLoop pl).rd f =
        ((s.opened p mb seq).templateLoaded n c 3 rate phi pl ((s.opened p mb seq).levelTemplate n rate)).rd f := fun f hf =>
      performs_rd h (hf ▸ ctrl_window n c)
    refine ⟨h.1, ?_, ?_, ?_, (hc _ rfl).trans htpl, (on_congr (hc _ rfl)).trans hon, fun i hi => ?_⟩
    · rw [← hnx, nx, hc _ rfl, nx]
    · rw [← hnz, nz, hc _ rfl, nz]
    · rw [← hnu, nu, hc _ rfl, nu]
    · rw [mailOnly_window h.2.1 (n := n) (by unfold R.TUT_CTXc_REFi; omega), templateLoaded, putRefs_get _ _ _ _ hi, f.ref i hi]

end

/-! ### TRACE_SETUP (R328) -/

/-- The bytes of a TRACE_SETUP request. -/
structure TraceForm (pl : List Byte) (n c : Fin 4) (trig decim len code nodes : Nat) : Prop where
  size : pl.length = 16
  chn : byteAt pl 4 = n.val
  ctx : byteAt pl 5 = c.val
  trig : byteAt pl 6 = trig
  decim : byteAt pl 7 = decim
  len : le16 pl 8 = len
  code : le16 pl 10 = code
  node : ∀ i, i < 4 → byteAt pl (12 + i) = nodes / 256 ^ i % 256
  nodes : le32 pl 12 = nodes

theorem traceForm {n c : Fin 4} {num trig decim len code nodes : Nat} (ht : trig ≤ 2) (hd : decim < 256) (hl : len ≤ 8192) (hc : code < 2 ^ 16)
    (hn : nodes < 2 ^ 32) :
    TraceForm (leBytes 4 num ++ leBytes 1 n.val ++ leBytes 1 c.val ++ leBytes 1 trig ++ leBytes 1 decim ++ leBytes 2 len ++ leBytes 2 code ++
      leBytes 4 nodes) n c trig decim len code nodes := by
  refine ⟨?_, ?_, ?_, ?_, ?_, ?_, ?_, fun i hi => ?_, ?_⟩
  · simp
  · simp [leBytes, byteAt]; omega
  · simp [leBytes, byteAt]; omega
  · simp [leBytes, byteAt]; omega
  · simp [leBytes, byteAt]; omega
  · simp [leBytes, le16, byteAt]; omega
  · simp [leBytes, le16, byteAt]; omega
  · obtain rfl | rfl | rfl | rfl : i = 0 ∨ i = 1 ∨ i = 2 ∨ i = 3 := by omega
    · simp [leBytes, byteAt]
    · simp [leBytes, byteAt]
    · simp [leBytes, byteAt]; omega
    · simp [leBytes, byteAt]; omega
  · simp [leBytes, le32, le16, byteAt]; omega

/-- The machine with a trace set up. -/
def traceSet (s : State) (n c : Fin 4) (trig decim len code nodes : Nat) : State :=
  ((s.put (R.TUT_TRC_NODES n) nodes).wr (F.TUT_TRC_EVT_CODE n) code).trcCfgWrite n (c.val + 4 * trig + 16 + 256 * decim + 65536 * len)

theorem traceSetup_taken (s : State) {pl : List Byte} {n c : Fin 4} {trig decim len code nodes : Nat} (f : TraceForm pl n c trig decim len code nodes)
    (ht : trig ≤ 2) (hd : 1 ≤ decim) (hl : 1 ≤ len ∧ len ≤ 8192) (hn : ∀ i, i < 4 → nodeOk (nodes / 256 ^ i % 256) = true) :
    s.traceSetup pl = ⟨s.traceSet n c trig decim len code nodes, stOK, 0, []⟩ := by
  have hall : (List.range 4).all (fun i => nodeOk (byteAt pl (12 + i))) = true := by
    rw [List.all_eq_true]
    intro i hi
    rw [f.node i (List.mem_range.mp hi)]
    exact hn i (List.mem_range.mp hi)
  unfold traceSetup
  simp only [f.chn, f.ctx, f.trig, f.decim, f.len, f.code, f.nodes, chan_val]
  rw [if_neg (by simp [f.size]), if_neg (by simp [hall, n.isLt, c.isLt, ht, hd, hl])]
  rfl

theorem trcCfgWrite_kept (s : State) (n : Fin 4) (v : Nat) :
    LoopKept (fun a => a = R.TUT_TRC_CFG n ∨ a = R.TUT_TRC_STATUS n ∨ a = R.TUT_TRC_INJ n) s (s.trcCfgWrite n v) := by
  rw [trcCfgWrite_eq]
  have h0 := (LoopKept.refl (A := fun a => a = R.TUT_TRC_CFG n ∨ a = R.TUT_TRC_STATUS n ∨ a = R.TUT_TRC_INJ n) s).put
    (v := s.rwWord (R.TUT_TRC_CFG n) v) (.inl rfl)
  exact (LoopKept.ite (((h0.put (.inr (.inl rfl))).wr (.inr (.inl rfl))).wr (.inr (.inr rfl))).modTut h0).wrB (.inl rfl)

theorem traceSetup_spec {mb : Fin 6} {flags seq : Nat} {pl : List Byte} {n c : Fin 4} {trig decim len code nodes : Nat} {s : State}
    (a : s.Asks 0 mb 0x89 flags seq pl) (f : TraceForm pl n c trig decim len code nodes) (ht : trig ≤ 2) (hd : 1 ≤ decim)
    (hl : 1 ≤ len ∧ len ≤ 8192) (hn : ∀ i, i < 4 → nodeOk (nodes / 256 ^ i % 256) = true) :
    ∃ t, exec (.traceSetup 0 mb) s = .next t ∧ t.answered 0 mb 0x89 seq stOK 0 [] ∧ t.rd (F.TUT_TRC_STATUS_STATE n) = 1 ∧
      t.rd (F.TUT_TRC_STATUS_WORDS n) = 0 ∧ t.rd (F.TUT_TRC_INJ_INDEX n) = 0xFFFF ∧ t.get (R.TUT_TRC_NODES n) = nodes ∧
      t.rd (F.TUT_TRC_EVT_CODE n) = code ∧ t.on (F.TUT_TRC_CFG_ARM n) = true ∧ t.dram = s.dram ∧ t.fw = s.fw := by
  have h4 : bit (c.val + 4 * trig + 16 + 256 * decim + 65536 * len) 4 = true := by
    have hc := c.isLt
    unfold bit
    rw [beq_iff_eq]
    omega
  have hk := trcCfgWrite_kept (((s.opened 0 mb seq).put (R.TUT_TRC_NODES n) nodes).wr (F.TUT_TRC_EVT_CODE n) code) n
    (c.val + 4 * trig + 16 + 256 * decim + 65536 * len)
  have h0 : LoopKept (fun _ => True) (s.opened 0 mb seq) (((s.opened 0 mb seq).put (R.TUT_TRC_NODES n) nodes).wr (F.TUT_TRC_EVT_CODE n) code) :=
    ((LoopKept.refl _).put trivial).wr trivial
  have hall := h0.trans (hk.mono fun _ _ => trivial)
  have h := serve_performs a (· == 0x89) rfl (fun s _ pl => s.traceSetup pl) rfl (by decide) rfl
    (traceSetup_taken (s.opened 0 mb seq) f ht hd hl hn) (by decide) (a.roomFor (by rw [f.size]; decide)) (by rw [traceSet, hall.port])
  obtain ⟨hs, hw, hi, -, harm⟩ := (trcCfgWrite_spec _ n _).1 h4
  have hrd := fun {f : Fld} => performs_rd h (n := n) (f := f)
  have hnodes : nodes < 2 ^ 32 := f.nodes ▸ le32_lt ..
  have hcode : code < 2 ^ 16 := f.code ▸ le16_lt ..
  refine ⟨_, rfl, h.1, ?_, ?_, ?_, ?_, ?_, ?_, ?_, ?_⟩
  · exact (hrd (Nat.le_add_right ..)).trans hs
  · exact (hrd (Nat.le_add_right ..)).trans hw
  · exact (hrd (Nat.le_add_right ..)).trans hi
  · rw [mailOnly_window h.2.1 (n := n) (a := R.TUT_TRC_NODES n) (Nat.le_add_right ..), traceSet, hk.word _ (by clear * -; decide +revert),
      get_wr_ne _ _ (by clear * -; decide +revert), get_put_self, Nat.mod_eq_of_lt hnodes]
  · rw [hrd (f := F.TUT_TRC_EVT_CODE n) (Nat.le_add_right ..), traceSet, hk.rd (by clear * -; decide +revert), rd_wr _ _ (show 0 + 16 ≤ 32 by decide)]
    exact Nat.mod_eq_of_lt hcode
  · exact (on_congr (hrd (Nat.le_add_right ..))).trans harm
  · rw [h.2.1.dram, traceSet, hall.dram, opened_dram]
  · rw [h.2.2, traceSet, hall.fw, opened_fw]

/-! ### INJECT_SETUP (R329) -/

/-- The bytes of an INJECT_SETUP request. -/
structure InjectForm (pl : List Byte) (n c : Fin 4) (node sig amp p1 p2 dur start : Nat) : Prop where
  size : pl.length = 28
  chn : byteAt pl 4 = n.val
  ctx : byteAt pl 5 = c.val
  node : byteAt pl 6 = node
  sig : byteAt pl 7 = sig
  amp : le32 pl 8 = amp
  p1 : le32 pl 12 = p1
  p2 : le32 pl 16 = p2
  dur : le32 pl 20 = dur
  start : byteAt pl 26 = start
  zero : byteAt pl 27 = 0

theorem injectForm {n c : Fin 4} {num node sig amp p1 p2 dur id start : Nat} (hn : node < 256) (hs : sig ≤ 3) (hst : start ≤ 1)
    (ha : amp < 2 ^ 32) (h1 : p1 < 2 ^ 32) (h2 : p2 < 2 ^ 32) (hd : dur < 2 ^ 32) :
    InjectForm (leBytes 4 num ++ leBytes 1 n.val ++ leBytes 1 c.val ++ leBytes 1 node ++ leBytes 1 sig ++ leBytes 4 amp ++ leBytes 4 p1 ++
      leBytes 4 p2 ++ leBytes 4 dur ++ leBytes 2 id ++ leBytes 1 start ++ [0]) n c node sig amp p1 p2 dur start := by
  refine ⟨?_, ?_, ?_, ?_, ?_, ?_, ?_, ?_, ?_, ?_, ?_⟩
  · simp
  · simp [leBytes, byteAt]; omega
  · simp [leBytes, byteAt]; omega
  · simp [leBytes, byteAt]; omega
  · simp [leBytes, byteAt]; omega
  · simp [leBytes, le32, le16, byteAt]; omega
  · simp [leBytes, le32, le16, byteAt]; omega
  · simp [leBytes, le32, le16, byteAt]; omega
  · simp [leBytes, le32, le16, byteAt]; omega
  · simp [leBytes, byteAt]; omega
  · simp [leBytes, byteAt]

/-- The parameters of an injection in their registers. -/
def injectWords (s : State) (n : Fin 4) (amp p1 p2 dur : Nat) : State :=
  (((s.put (R.TUT_INJ_AMP n) amp).put (R.TUT_INJ_P1 n) p1).put (R.TUT_INJ_P2 n) p2).put (R.TUT_INJ_DUR n) dur

theorem injectWords_kept (s : State) (n : Fin 4) (amp p1 p2 dur : Nat) : LoopKept (fun _ => True) s (s.injectWords n amp p1 p2 dur) :=
  ((((LoopKept.refl s).put trivial).put trivial).put trivial).put trivial

theorem injectWords_get (s : State) (n : Fin 4) {amp p1 p2 dur : Nat} (ha : amp < 2 ^ 32) (h1 : p1 < 2 ^ 32) (h2 : p2 < 2 ^ 32) (hd : dur < 2 ^ 32) :
    let t := s.injectWords n amp p1 p2 dur
    t.get (R.TUT_INJ_AMP n) = amp ∧ t.get (R.TUT_INJ_P1 n) = p1 ∧ t.get (R.TUT_INJ_P2 n) = p2 ∧ t.get (R.TUT_INJ_DUR n) = dur := by
  dsimp only [injectWords]
  have e1 : R.TUT_INJ_AMP n ≠ R.TUT_INJ_P1 n ∧ R.TUT_INJ_AMP n ≠ R.TUT_INJ_P2 n ∧ R.TUT_INJ_AMP n ≠ R.TUT_INJ_DUR n ∧
    R.TUT_INJ_P1 n ≠ R.TUT_INJ_P2 n ∧ R.TUT_INJ_P1 n ≠ R.TUT_INJ_DUR n ∧ R.TUT_INJ_P2 n ≠ R.TUT_INJ_DUR n := by clear * -; decide +revert
  obtain ⟨a1, a2, a3, b2, b3, c3⟩ := e1
  refine ⟨?_, ?_, ?_, ?_⟩
  · rw [get_put_ne _ _ a3, get_put_ne _ _ a2, get_put_ne _ _ a1, get_put_self, Nat.mod_eq_of_lt ha]
  · rw [get_put_ne _ _ b3, get_put_ne _ _ b2, get_put_self, Nat.mod_eq_of_lt h1]
  · rw [get_put_ne _ _ c3, get_put_self, Nat.mod_eq_of_lt h2]
  · rw [get_put_self, Nat.mod_eq_of_lt hd]

/-- The machine with an injection set up. -/
def injectSet (s : State) (n c : Fin 4) (node sig amp p1 p2 dur start : Nat) : State :=
  (s.injectWords n amp p1 p2 dur).injCfgWrite n (c.val + 4 * sig + 32 * start + 64 + 256 * node + 65536 * 0)

theorem injectSetup_taken (s : State) {pl : List Byte} {n c : Fin 4} {node sig amp p1 p2 dur start : Nat}
    (f : InjectForm pl n c node sig amp p1 p2 dur start) (hs : sig ≤ 3) (hst : start ≤ 1) (hn : nodeOk node = true)
    (h0 : node / 32 ≠ 0) (h4 : node / 32 ≠ 4) : s.injectSetup pl = ⟨s.injectSet n c node sig amp p1 p2 dur start, stOK, 0, []⟩ := by
  unfold injectSetup
  simp only [f.chn, f.ctx, f.node, f.sig, f.amp, f.p1, f.p2, f.dur, f.start, chan_val]
  rw [if_neg (by simp [f.size]), if_neg (by simp [zeroAt_one.mpr f.zero, hn, h0, h4, n.isLt, c.isLt, hst]; omega), if_pos (by omega)]
  rfl

theorem injCfgWrite_kept (s : State) (n : Fin 4) (v : Nat) :
    LoopKept (fun a => a = R.TUT_INJ_CFG n ∨ a = R.TUT_INJ_STATUS n) s (s.injCfgWrite n v) := by
  rw [injCfgWrite_eq]
  have h0 := (LoopKept.refl (A := fun a => a = R.TUT_INJ_CFG n ∨ a = R.TUT_INJ_STATUS n) s).put
    (v := s.rwWord (R.TUT_INJ_CFG n) v) (.inl rfl)
  exact .ite (.ite (h0.wrB (.inl rfl)) ((h0.wr (.inr rfl)).wr (.inr rfl)).modTut) (h0.wrB (.inl rfl))

theorem injectSetup_spec {mb : Fin 6} {flags seq : Nat} {pl : List Byte} {n c : Fin 4} {node sig amp p1 p2 dur start : Nat} {s : State}
    (a : s.Asks 0 mb 0x8A flags seq pl) (f : InjectForm pl n c node sig amp p1 p2 dur start) (hs : 1 ≤ sig ∧ sig ≤ 3) (hst : start ≤ 1)
    (hn : nodeOk node = true) (h0 : node / 32 ≠ 0) (h4 : node / 32 ≠ 4) :
    ∃ t, exec (.injectSetup 0 mb) s = .next t ∧ t.answered 0 mb 0x8A seq stOK 0 [] ∧ t.rd (F.TUT_INJ_STATUS_STATE n) = 1 ∧
      t.rd (F.TUT_INJ_STATUS_SAMPLES n) = 0 ∧ t.get (R.TUT_INJ_AMP n) = amp ∧ t.get (R.TUT_INJ_P1 n) = p1 ∧
      t.get (R.TUT_INJ_P2 n) = p2 ∧ t.get (R.TUT_INJ_DUR n) = dur ∧ t.dram = s.dram ∧ t.fw = s.fw := by
  obtain ⟨v, hv⟩ : ∃ v, v = c.val + 4 * sig + 32 * start + 64 + 256 * node + 65536 * 0 := ⟨_, rfl⟩
  have h6 : bit v 6 = true := by
    unfold bit
    rw [beq_iff_eq]
    omega
  have h3 : bits v 2 3 ≠ 0 := by
    unfold bits
    omega
  have hk := injCfgWrite_kept ((s.opened 0 mb seq).injectWords n amp p1 p2 dur) n v
  have hall := (injectWords_kept (s.opened 0 mb seq) n amp p1 p2 dur).trans (hk.mono fun _ _ => trivial)
  have hh := injectSetup_taken (s.opened 0 mb seq) f hs.2 hst hn h0 h4
  rw [injectSet, ← hv] at hh
  have h := serve_performs a (· == 0x8A) rfl (fun s _ pl => s.injectSetup pl) rfl (by decide) rfl hh (by decide)
    (a.roomFor (by rw [f.size]; decide)) (by rw [hall.port])
  obtain ⟨hst, hsam⟩ := (injCfgWrite_spec _ n _).1 h6 h3
  obtain ⟨hamp, hp1, hp2, hdur⟩ := injectWords_get (s.opened 0 mb seq) n (f.amp ▸ le32_lt ..) (f.p1 ▸ le32_lt ..) (f.p2 ▸ le32_lt ..)
    (f.dur ▸ le32_lt ..)
  have hget : ∀ x, lecBase n ≤ x → x ≠ R.TUT_INJ_CFG n → x ≠ R.TUT_INJ_STATUS n →
      (s.serve 0 mb (· == 0x8A) fun s _ pl => s.injectSetup pl).get x = ((s.opened 0 mb seq).injectWords n amp p1 p2 dur).get x :=
    fun x hx h1 h2 => (mailOnly_window h.2.1 hx).trans (hk.word x (by simp [h1, h2]))
  refine ⟨_, rfl, h.1, ?_, ?_, ?_, ?_, ?_, ?_, ?_, ?_⟩
  · exact (performs_rd h (Nat.le_add_right ..)).trans hst
  · exact (performs_rd h (Nat.le_add_right ..)).trans hsam
  · exact (hget _ (Nat.le_add_right ..) (by clear * -; decide +revert) (by clear * -; decide +revert)).trans hamp
  · exact (hget _ (Nat.le_add_right ..) (by clear * -; decide +revert) (by clear * -; decide +revert)).trans hp1
  · exact (hget _ (Nat.le_add_right ..) (by clear * -; decide +revert) (by clear * -; decide +revert)).trans hp2
  · exact (hget _ (Nat.le_add_right ..) (by clear * -; decide +revert) (by clear * -; decide +revert)).trans hdur
  · rw [h.2.1.dram, hall.dram, opened_dram]
  · rw [h.2.2, hall.fw, opened_fw]

/-! ### TRACE_READ (R145) -/

/-- What TRACE_READ answers. -/
def traceData (s : State) (n : Fin 4) (first count : Nat) : List Byte :=
  leBytes 1 (s.rd (F.TUT_TRC_STATUS_STATE n)) ++ [0] ++ leBytes 2 (s.rd (F.TUT_TRC_STATUS_WORDS n)) ++
    leBytes 2 (s.rd (F.TUT_TRC_INJ_INDEX n)) ++ [0, 0] ++
    ((List.range count).map fun i => leBytes 4 (s.get (R.TUT_TRC_WORDw n (first + i)))).flatten

theorem traceData_length (s : State) (n : Fin 4) (first count : Nat) : (s.traceData n first count).length = 8 + 4 * count := by
  simp [traceData, List.length_flatten, Function.comp_def]
  omega

theorem opened_traceData (s : State) (p : Fin 3) (mb : Fin 6) (q : Nat) (n : Fin 4) (first count : Nat) :
    (s.opened p mb q).traceData n first count = s.traceData n first count := by
  have hw : ∀ w, (s.opened p mb q).get (R.TUT_TRC_WORDw n w) = s.get (R.TUT_TRC_WORDw n w) := fun w =>
    opened_window s p mb q (n := n) (by unfold R.TUT_TRC_WORDw; omega)
  simp only [traceData, hw]
  rw [opened_windowFld s p mb q (f := F.TUT_TRC_STATUS_STATE n) (Nat.le_add_right ..),
    opened_windowFld s p mb q (f := F.TUT_TRC_STATUS_WORDS n) (Nat.le_add_right ..),
    opened_windowFld s p mb q (f := F.TUT_TRC_INJ_INDEX n) (Nat.le_add_right ..)]

/-- The bytes of a TRACE_READ request. -/
structure TraceReadForm (pl : List Byte) (n : Fin 4) (first count : Nat) : Prop where
  size : pl.length = 10
  chn : byteAt pl 4 = n.val
  zero : byteAt pl 5 = 0
  first : le16 pl 6 = first
  count : le16 pl 8 = count

theorem traceReadForm {num first count : Nat} {n : Fin 4} (h : first + count ≤ 8192) :
    TraceReadForm (leBytes 4 num ++ leBytes 1 n.val ++ [0] ++ leBytes 2 first ++ leBytes 2 count) n first count := by
  refine ⟨?_, ?_, ?_, ?_, ?_⟩
  · simp
  · simp [leBytes, byteAt]; omega
  · simp [leBytes, byteAt]
  · simp [leBytes, le16, byteAt]; omega
  · simp [leBytes, le16, byteAt]; omega

theorem traceRead_taken (s : State) {pl : List Byte} {first count : Nat} {n : Fin 4} (f : TraceReadForm pl n first count) (h1 : 1 ≤ count)
    (h : first + count ≤ 8192) : s.traceRead pl = ⟨s, stOK, 0, s.traceData n first count⟩ := by
  unfold traceRead
  simp only [f.chn, f.first, f.count, chan_val]
  rw [if_neg (by simp [f.size]), if_neg (by simp [zeroAt_one.mpr f.zero, n.isLt, h1]), traceData]
  congr 3
  refine List.map_congr_left fun i hi => ?_
  rw [if_pos (by have := List.mem_range.mp hi; omega)]

end State

/-- Settles O35. -/
theorem loopAndTuningCommands : Obligations.LoopAndTuningCommands := by
  refine ⟨fun p mb flags seq act kind rate phi refs n c s a hr hk hrate hphi hq => ?_, fun mb flags seq num n c s => ⟨?_, ?_, ?_⟩⟩
  · have f : LoopForm _ n c act kind rate phi refs := loopForm hr hk hrate hphi
    obtain ⟨hd, hc, hs⟩ := setLoop_kept a (Nat.le_trans (by decide) (Nat.le_of_eq f.len.symm))
    refine ⟨_, rfl, hd, hc, hs, ?_, ?_, ?_, ?_⟩
    · rintro rfl rfl
      exact setLoop_disabled a f
    · rintro rfl rfl hsh hb
      exact setLoop_enabled a f hsh hb
    · rintro rfl rfl
      exact setLoop_setRefs a f hr hq
    · rintro rfl rfl hlo hhi hph hper
      exact setLoop_levelled a f hr hq hlo hhi hph hper
  · intro trig decim len code nodes a ht hd1 hd hl1 hl hc hn hok
    exact traceSetup_spec a (traceForm ht hd hl hc hn) ht hd1 ⟨hl1, hl⟩ hok
  · intro node sig amp p1 p2 dur id start a hn hs1 hs hst ha h1 h2 hd _ hok h0 h4
    exact injectSetup_spec a (injectForm hn hs hst ha h1 h2 hd) ⟨hs1, hs⟩ hst hok h0 h4
  · intro first count a h1 h hmax
    have hlen := traceData_length s n first count
    have hh := traceRead_taken (s.opened 0 mb seq) (traceReadForm (num := num) (n := n) h) h1 h
    rw [opened_traceData] at hh
    have hp := serve_performs a (· == 0x8B) rfl (fun s _ pl => s.traceRead pl) rfl (by decide) rfl hh (by decide) (by omega) rfl
    exact ⟨_, rfl, hp.1, (opened_mailOnly ..).trans hp.2.1, hp.2.2.trans (opened_fw ..)⟩

end Sys2Proof.Machine
end

section
/-! SUPPORT. RUN_CALIBRATION and CAL_STEP (R135, R146, R333, R335, R340, R348). -/

set_option Elab.async false

namespace Sys2Proof.Machine
open State
namespace State

/-! ### What the calibration engine leaves alone when it moves on or drives an element -/

/-- CAL_STATUS, and the words of the channels and the DRAM controllers. -/
def calAside (a : Nat) : Prop := a = R.CAL_STATUS ∨ 0x40100000 ≤ a

/-- Nothing of the mailboxes, of DRAM and of CAL_STEP differs, and no register but those. -/
structure CalKept (s t : State) : Prop where
  word : ∀ x, ¬ calAside x → t.get x = s.get x
  dram : t.dram = s.dram
  mbx : t.mbx = s.mbx
  step : t.cal.stepTag = s.cal.stepTag

namespace CalKept
variable {s t u : State}

theorem refl (s : State) : CalKept s s := ⟨fun _ _ => rfl, rfl, rfl, rfl⟩
theorem trans (h : CalKept s t) (k : CalKept t u) : CalKept s u :=
  ⟨fun x hx => (k.word x hx).trans (h.word x hx), k.dram.trans h.dram, k.mbx.trans h.mbx, k.step.trans h.step⟩
theorem rd (h : CalKept s t) {f : Fld} (hf : ¬ calAside f.addr) : t.rd f = s.rd f := rd_congr (h.word _ hf)
theorem port (h : CalKept s t) (p : Fin 3) : t.port p = s.port p := by rw [State.port, h.mbx, State.port]
theorem ite {p : Prop} {_ : Decidable p} (h : CalKept s t) (k : CalKept s u) : CalKept s (if p then t else u) := by
  split
  · exact h
  · exact k
theorem foldlMem {α : Type} {l : List α} {f : State → α → State} {P : α → Prop} (h : CalKept s t) (hl : ∀ x ∈ l, P x)
    (k : ∀ u x, P x → CalKept s u → CalKept s (f u x)) : CalKept s (l.foldl f t) := by
  induction l generalizing t with
  | nil => exact h
  | cons x l ih => exact ih (k t x (hl x (.head _)) h) fun y hy => hl y (.tail _ hy)
theorem foldl {α : Type} {l : List α} {f : State → α → State} (h : CalKept s t) (k : ∀ u x, CalKept s u → CalKept s (f u x)) :
    CalKept s (l.foldl f t) := h.foldlMem (P := fun _ => True) (fun _ _ => trivial) fun u x _ => k u x
theorem put (h : CalKept s t) {a v : Nat} (ha : calAside a) : CalKept s (t.put a v) :=
  h.trans ⟨fun _ hx => get_put_ne _ _ (fun e => hx (e ▸ ha)), rfl, rfl, rfl⟩
theorem wr (h : CalKept s t) {f : Fld} {v : Nat} (ha : calAside f.addr) : CalKept s (t.wr f v) := h.put ha
theorem wrB (h : CalKept s t) {f : Fld} {b : Bool} (ha : calAside f.addr) : CalKept s (t.wrB f b) := h.put ha
theorem other (h : CalKept s t) (hr : u.regs = t.regs := by exact rfl) (hd : u.dram = t.dram := by exact rfl)
    (hm : u.mbx = t.mbx := by exact rfl) (hs : u.cal.stepTag = t.cal.stepTag := by exact rfl) : CalKept s u :=
  h.trans ⟨fun _ _ => get_congr hr _, hd, hm, hs⟩

theorem mgmt (h : CalKept s t) {n : Fin 4} {cmd : Nat} {args : List Byte} : CalKept s (t.mgmt n cmd args) := by
  unfold State.mgmt State.send
  exact ite h h.other
theorem calStatus (h : CalKept s t) : CalKept s t.calStatus := by
  unfold State.calStatus
  split
  · exact h.put (.inl rfl)
  · refine (h.put (.inl rfl)).foldlMem (P := fun p => p.1.addr = R.CAL_STATUS) ?_ fun _ _ hp h => h.wr (.inl hp)
    intro x hx
    simp only [List.mem_cons, List.not_mem_nil, or_false] at hx
    obtain rfl | rfl | rfl | rfl | rfl | rfl | rfl | rfl := hx <;> rfl
theorem setRun (h : CalKept s t) {r : Option CalRun} : CalKept s (t.setRun r) := by
  unfold State.setRun
  exact h.other.calStatus
theorem calLoop (h : CalKept s t) {i : Nat} {b : Bool} : CalKept s (t.calLoop i b) := by
  unfold State.calLoop
  refine ite (h.wrB (.inr ?_)).mgmt h
  unfold F.LNK_CTRL_LOOPBACK R.LNK_CTRL lecBase
  dsimp only
  omega
theorem calNext (h : CalKept s t) : CalKept s t.calNext := by
  unfold State.calNext
  refine ite h ?_
  extract_lets
  split
  · exact h.calLoop.setRun
  · refine ite h ?_
    split
    · exact h.calLoop.setRun
    · exact h
theorem dmc (h : CalKept s t) {f : Fld} {v : Nat} {ch : Fin 2} (ha : dmcBase ch ≤ f.addr) : CalKept s (t.wr f v) :=
  h.wr (.inr (by unfold dmcBase at ha; omega))

/-- The trained values stand in the words of the PHY. -/
theorem stepFields_dmc {ch : Fin 2} {r l step : Nat} {f : Fld} (h : f ∈ stepFields ch r l step) : dmcBase ch ≤ f.addr := by
  have dsk : ∀ k, ∀ f ∈ ((List.range 4).map fun i => (⟨R.PHY_Rr_Ll_DSK ch r l k, 8 * i, 8⟩ : Fld)), dmcBase ch ≤ f.addr := by
    intro k f hf
    obtain ⟨i, -, rfl⟩ := List.mem_map.mp hf
    unfold R.PHY_Rr_Ll_DSK
    dsimp only
    omega
  unfold stepFields at h
  dsimp only at h
  split at h
  · obtain rfl := List.mem_singleton.mp h
    unfold F.PHY_Rr_Ll_DLY0_WLEV R.PHY_Rr_Ll_DLY0
    dsimp only
    omega
  · obtain rfl := List.mem_singleton.mp h
    unfold F.PHY_Rr_Ll_DLY0_GATE R.PHY_Rr_Ll_DLY0
    dsimp only
    omega
  · simp only [List.mem_append, List.mem_singleton] at h
    obtain (h | h) | rfl := h
    · exact dsk _ _ h
    · exact dsk _ _ h
    · unfold F.PHY_Rr_Ll_DLY1_RDQS R.PHY_Rr_Ll_DLY1
      dsimp only
      omega
  · simp only [List.mem_append, List.mem_singleton] at h
    obtain (h | h) | rfl := h
    · exact dsk _ _ h
    · exact dsk _ _ h
    · unfold F.PHY_Rr_Ll_DLY1_WDQ R.PHY_Rr_Ll_DLY1
      dsimp only
      omega
  · simp only [List.mem_append, List.mem_singleton] at h
    obtain ((rfl | h) | h) | rfl := h
    · unfold F.PHY_Rr_Ll_VREF_CODE R.PHY_Rr_Ll_VREF
      dsimp only
      omega
    · exact dsk _ _ h
    · exact dsk _ _ h
    · unfold F.PHY_Rr_Ll_DLY1_WDQ R.PHY_Rr_Ll_DLY1
      dsimp only
      omega
  · nomatch h

theorem writeDelays (h : CalKept s t) {ch : Fin 2} : CalKept s (t.writeDelays ch) := by
  unfold State.writeDelays
  refine h.foldlMem (P := fun f => dmcBase ch ≤ f.addr) (fun f hf => ?_) fun u f hf h => (h.dmc hf).other
  simp only [List.mem_flatMap] at hf
  obtain ⟨r, -, l, -, k, -, hf⟩ := hf
  exact stepFields_dmc hf

/-- The hardware takes an element and its taps. -/
theorem calDrive (h : CalKept s t) {i : Nat} : CalKept s (t.calDrive i) := by
  have hdrv : ∀ l, dmcBase (calDram i) ≤ R.PHY_Ll_DRV (calDram i) l := fun l => by unfold R.PHY_Ll_DRV; omega
  have hline : ∀ l, dmcBase (calDram i) ≤ R.PHY_Ll_DLINE (calDram i) l := fun l => by unfold R.PHY_Ll_DLINE; omega
  unfold State.calDrive
  exact ite (h.foldl fun _ l h => (h.dmc (hdrv l)).dmc (hdrv l)) (ite (h.foldl fun _ l h => h.dmc (hline l)).writeDelays h)

end CalKept

/-- The next item that starts changes no Report Card and no due bit. -/
theorem calNext_kept (s : State) : CalKept s s.calNext := (CalKept.refl s).calNext

/-- An answer stands when the calibration engine has moved on. -/
theorem CalKept.answered {s t : State} (h : CalKept s t) {p : Fin 3} {mb : Fin 6} {op seq st d : Nat} {data : List Byte}
    (k : s.answered p mb op seq st d data) : t.answered p mb op seq st d data := by
  obtain ⟨hq, hf, ht⟩ := k
  refine ⟨by rw [h.port]; exact hq, fun hp => ?_, fun hp => by rw [h.port]; exact ht hp⟩
  obtain ⟨hfull, hread⟩ := hf hp
  refine ⟨?_, ?_⟩
  · rw [isFull, h.rd (by unfold calAside; decide), ← isFull]
    exact hfull
  · rw [hostRead, h.mbx]
    exact hread

end State
end Sys2Proof.Machine
end

section
/-! SUPPORT. RUN_CALIBRATION and CAL_STEP: the handlers (R135, R146, R348). -/

set_option Elab.async false

namespace Sys2Proof.Machine
open State
namespace State

/-! ### RUN_CALIBRATION (R135) -/

/-- The state after checks 5 to 9 is the one before them or the handler's. -/
theorem runCommand_state (s : State) (t : Tag) (flags : Nat) (pl : List Byte) (h : Handler) :
    (s.runCommand t flags pl h).s = s ∨ (s.runCommand t flags pl h).s = (h s t pl).s := by
  unfold runCommand
  dsimp only
  split
  · exact .inl rfl
  · split
    · exact .inl rfl
    · split
      · exact .inl rfl
      · split
        · exact .inl rfl
        · split
          · exact .inl rfl
          · split
            · exact .inl rfl
            · exact .inr rfl

/-- A command whose handler leaves DRAM alone leaves it alone. -/
theorem serve_dram {s : State} {p : Fin 3} {mb : Fin 6} {op flags seq : Nat} {pl : List Byte} (a : s.Waits p mb op flags seq pl)
    (mine : Nat → Bool) (hm : mine op = true) (h : Handler) (hk : ∀ u t pl, (h u t pl).s.dram = u.dram) :
    (s.serve p mb mine h).dram = s.dram := by
  rw [serve_asks a mine hm h, closed_dram]
  obtain e | e := runCommand_state (s.opened p mb seq) (tagOf p mb op flags seq) flags pl h
  · rw [e, opened_dram]
  · rw [e, hk, opened_dram]

theorem calQueue_dram (s : State) (m : Nat) : (s.calQueue m).dram = s.dram := by simp [calQueue]
theorem calQueue_mbx (s : State) (m : Nat) : (s.calQueue m).mbx = s.mbx := by simp [calQueue]

theorem runCalibration_dram (s : State) (t : Tag) (pl : List Byte) : (s.runCalibration t pl).s.dram = s.dram := by
  unfold runCalibration
  dsimp only
  split
  · rfl
  · split
    · rfl
    · split
      · rfl
      · split
        · rfl
        · split
          · exact (by simp : (s.done t stOK 0).dram = s.dram)
          · rw [(calNext_kept _).dram, calQueue_dram, modCal_dram]

/-- The payload of RUN_CALIBRATION. -/
structure RunForm (pl : List Byte) (mask act fl : Nat) : Prop where
  length : pl.length = 4
  mask : le16 pl 0 = mask
  act : byteAt pl 2 = act
  fl : byteAt pl 3 = fl

theorem runForm {mask act fl : Nat} (hm : mask ≤ 0x3FFF) (ha : act ≤ 1) (hf : fl ≤ 1) :
    RunForm (leBytes 2 mask ++ leBytes 1 act ++ leBytes 1 fl) mask act fl where
  length := by simp
  mask := by simp [leBytes, le16, byteAt]; omega
  act := by simp [leBytes, byteAt]; omega
  fl := by simp [leBytes, byteAt]; omega

/-- The words of the calibration items are not of the mailboxes. -/
theorem opened_item (s : State) (p : Fin 3) (mb : Fin 6) (q : Nat) {x : Nat} (h : R.CAL_Ii_CFG 0 ≤ x ∧ x < 0x40060000) :
    (s.opened p mb q).get x = s.get x :=
  opened_get _ _ _ _ (by unfold R.CAL_Ii_CFG at h; unfold R.MBX_HSTAT; omega)

theorem opened_calQuery (s : State) (p : Fin 3) (mb : Fin 6) (q : Nat) {i : Nat} (hi : i < 14) :
    (s.opened p mb q).calQuery i = s.calQuery i := by
  have hw : ∀ k, 8 ≤ k → k < 0x20 → (s.opened p mb q).get (0x40050400 + k + 0x20 * i) = s.get (0x40050400 + k + 0x20 * i) := fun k _ _ =>
    opened_item s p mb q (by unfold R.CAL_Ii_CFG; omega)
  have hr : ∀ lo, (s.opened p mb q).rd ⟨R.CAL_Ii_CARD i, lo, 8⟩ = s.rd ⟨R.CAL_Ii_CARD i, lo, 8⟩ := fun lo =>
    rd_congr (hw 8 (by decide) (by decide))
  have hq : (s.opened p mb q).get (R.CAL_Ii_QUAL i) = s.get (R.CAL_Ii_QUAL i) := hw 0xC (by decide) (by decide)
  have ht : (s.opened p mb q).get (R.CAL_Ii_TIME i) = s.get (R.CAL_Ii_TIME i) := hw 0x14 (by decide) (by decide)
  simp only [calQuery, F.CAL_Ii_CARD_RESULT, F.CAL_Ii_CARD_ELEMENT, F.CAL_Ii_CARD_TEMP, hr, hq, ht]

theorem calQuery_length (s : State) (i : Nat) : (s.calQuery i).length = 12 := by simp [calQuery]

/-- QUERY of at most 14 items. -/
theorem calQueries_length (s : State) (mask : Nat) :
    (((List.range 14).filter (bit mask ·)).flatMap fun i => s.calQuery i).length ≤ 12 * 14 := by
  have h : ((List.range 14).filter (bit mask ·)).length ≤ 14 := by simpa using List.length_filter_le (bit mask ·) (List.range 14)
  rw [List.length_flatMap, List.map_congr_left fun i _ => calQuery_length s i, List.map_const', List.sum_replicate, smul_eq_mul]
  omega

/-- The bits of a mask, put together one by one. -/
theorem foldl_maskBits (mask : Nat) (c : Nat → Bool) (hc : ∀ i, c i = bit mask i) :
    ∀ k, (List.range k).foldl (fun m i => if c i then setBit m i true else m) 0 = mask % 2 ^ k
  | 0 => by simp [Nat.mod_one]
  | k + 1 => by
    rw [List.range_succ, List.foldl_append, foldl_maskBits mask c hc k, Nat.mod_pow_succ]
    have hlt : mask % 2 ^ k < 2 ^ k := Nat.mod_lt _ (Nat.two_pow_pos k)
    have h0 : mask % 2 ^ k / 2 ^ (k + 1) = 0 := Nat.div_eq_of_lt (hlt.trans (Nat.pow_lt_pow_right (by decide) (Nat.lt_succ_self k)))
    simp only [List.foldl_cons, List.foldl_nil, hc, bit, beq_iff_eq, setBit, setBits, b2n, if_true]
    split
    · rename_i h
      rw [h0, h, Nat.mod_mod]
      omega
    · rename_i h
      rw [show mask / 2 ^ k % 2 = 0 by omega]
      omega

/-- A run with FORCE is of every item of its mask. -/
theorem forcedRun {mask : Nat} (h : mask ≤ 0x3FFF) (c : Nat → Bool) :
    (List.range 14).foldl (fun m i => if bit mask i && (1 == 1 || c i) then setBit m i true else m) 0 = mask := by
  rw [foldl_maskBits mask _ (fun i => by simp) 14]
  exact Nat.mod_eq_of_lt (by omega)

theorem calQueue_cmd (s : State) {m : Nat} (h : s.rd F.CAL_DUE_CMD = 0) (hm : m ≤ 0x3FFF) : (s.calQueue m).rd F.CAL_DUE_CMD = m := by
  rw [calQueue, rd_wr _ _ (by decide), h, Nat.zero_or]
  exact Nat.mod_eq_of_lt (show m < 2 ^ 14 by omega)

theorem calQueue_due (s : State) {m : Nat} (hm : m ≤ 0x3FFF) : (s.calQueue m).rd F.CAL_DUE_DUE = s.rd F.CAL_DUE_DUE ||| m := by
  rw [calQueue, rd_wr_apart _ _ (by decide), rd_wr _ _ (by decide)]
  exact Nat.mod_eq_of_lt (Nat.or_lt_two_pow (rd_lt s F.CAL_DUE_DUE) (show m < 2 ^ 14 by omega))

/-- A command's answer leaves a calibration register other than the mailboxes' as it is. -/
theorem performs_due {u t : State} {p : Fin 3} {mb : Fin 6} {op seq st d : Nat} {data : List Byte} (h : u.performs t p mb op seq st d data)
    (lo w : Nat) : t.rd ⟨R.CAL_DUE, lo, w⟩ = u.rd ⟨R.CAL_DUE, lo, w⟩ :=
  rd_congr (mailOnly_get h.2.1 (show R.CAL_DUE ≠ _ by decide) (show R.CAL_DUE ≠ _ by decide))

/-- RUN with FORCE, with no run in progress. -/
theorem runCalibration_forced {s : State} {t : Tag} {pl : List Byte} {mask : Nat} (f : RunForm pl mask 0 1) (h0 : 0 < mask)
    (hm : mask ≤ 0x3FFF) (hc : s.rd F.CAL_DUE_CMD = 0) (ht : s.cal.tag = none) (hp : s.cal.pass = none) :
    s.runCalibration t pl =
      ⟨((s.modCal fun c => { c with tag := some t, left := mask, bad := 0 }).calQueue mask).calNext, stACCEPTED, 0, []⟩ := by
  have hr := forcedRun hm s.calDue
  have hlen : (pl.length != 4) = false := by rw [f.length]; rfl
  have hbusy : ¬ (s.rd F.CAL_DUE_CMD ≠ 0 ∨ s.cal.tag.isSome ∨ s.cal.pass.isSome) := by rw [hc, ht, hp]; simp
  unfold runCalibration
  extract_lets m act fl run
  have hm' : m = mask := f.mask
  have ha : act = 0 := f.act
  have hf : fl = 1 := f.fl
  have hrun : run = mask := by
    unfold run
    rw [hm', hf]
    exact hr
  clear_value run
  clear_value m act fl
  subst hrun hm' ha hf
  rw [hlen, if_neg Bool.false_ne_true, if_neg (by omega), if_neg (by omega), if_neg hbusy, if_neg (by omega)]

theorem port_seqs_of_mbx {s t : State} (h : t.mbx = s.mbx) (p : Fin 3) : (t.port p).seqs = (s.port p).seqs := by rw [State.port, h, State.port]

theorem opened_dueWord (s : State) (p : Fin 3) (mb : Fin 6) (q lo w : Nat) : (s.opened p mb q).rd ⟨R.CAL_DUE, lo, w⟩ = s.rd ⟨R.CAL_DUE, lo, w⟩ :=
  opened_rd _ _ _ _ (show R.CAL_DUE ≠ _ by decide)

/-- QUERY of the items of a mask. -/
theorem runCalibration_query {s : State} {t : Tag} {pl : List Byte} {mask fl : Nat} (f : RunForm pl mask 1 fl) (h0 : 0 < mask)
    (hm : mask ≤ 0x3FFF) (hf : fl ≤ 1) :
    s.runCalibration t pl = ⟨s, stOK, 0, ((List.range 14).filter (bit mask ·)).flatMap fun i => s.calQuery i⟩ := by
  have hlen : (pl.length != 4) = false := by rw [f.length]; rfl
  have hact : byteAt pl 2 = 1 := f.act
  unfold runCalibration
  rw [hlen, f.mask, hact, f.fl, if_neg Bool.false_ne_true, if_neg (by omega), if_pos rfl]

/-- A run while a commanded one has not ended. -/
theorem runCalibration_busy {s : State} {t : Tag} {pl : List Byte} {mask fl : Nat} (f : RunForm pl mask 0 fl) (h0 : 0 < mask)
    (hm : mask ≤ 0x3FFF) (hf : fl ≤ 1) (hb : s.rd F.CAL_DUE_CMD ≠ 0) : s.runCalibration t pl = refuse s stBUSY 0 := by
  have hlen : (pl.length != 4) = false := by rw [f.length]; rfl
  unfold runCalibration
  rw [hlen, f.mask, f.act, f.fl, if_neg Bool.false_ne_true, if_neg (by omega), if_neg (by omega), if_pos (.inl hb)]

/-- RUN_CALIBRATION, as O44 states it. -/
theorem runCalibration_spec {p : Fin 3} {mb : Fin 6} {flags seq mask act fl : Nat} {s : State}
    (a : s.Asks p mb 0x0E flags seq (leBytes 2 mask ++ leBytes 1 act ++ leBytes 1 fl)) (h0 : 0 < mask) (hm : mask ≤ 0x3FFF)
    (ha : act ≤ 1) (hf : fl ≤ 1) :
    ∃ t, exec (.runCalibration p mb) s = .next t ∧ t.dram = s.dram ∧
      (act = 1 → 4 + 12 * 14 ≤ s.maxPay p →
        s.performs t p mb 0x0E seq stOK 0 (((List.range 14).filter (bit mask ·)).flatMap fun i => s.calQuery i)) ∧
      (act = 0 → s.rd F.CAL_DUE_CMD ≠ 0 → s.performs t p mb 0x0E seq stBUSY 0 []) ∧
      (act = 0 → fl = 1 → s.rd F.CAL_DUE_CMD = 0 → s.cal.tag = none → s.cal.pass = none →
        t.answered p mb 0x0E seq stACCEPTED 0 [] ∧ t.rd F.CAL_DUE_CMD = mask ∧
          t.rd F.CAL_DUE_DUE = s.rd F.CAL_DUE_DUE ||| mask) := by
  have f := runForm hm ha hf
  generalize leBytes 2 mask ++ leBytes 1 act ++ leBytes 1 fl = pl at a f
  have hroom : 4 ≤ s.maxPay p := a.roomFor (Nat.le_of_eq f.length.symm)
  refine ⟨_, rfl, serve_dram a.toWaits _ rfl _ runCalibration_dram, ?_, ?_, ?_⟩
  · rintro rfl hmax
    have hdata : ((List.range 14).filter (bit mask ·)).flatMap (fun i => (s.opened p mb seq).calQuery i) =
        ((List.range 14).filter (bit mask ·)).flatMap fun i => s.calQuery i :=
      List.flatMap_congr fun i hi => opened_calQuery s p mb seq (List.mem_range.mp (List.mem_of_mem_filter hi))
    refine query_says a _ rfl _ rfl ?_ ?_
    · rw [runCalibration_query f h0 hm hf, hdata]
    · have := calQueries_length s mask
      omega
  · rintro rfl hbusy
    exact serve_refused a _ rfl _ rfl (by decide) hroom (by decide)
      (runCalibration_busy f h0 hm hf (by rw [F.CAL_DUE_CMD, opened_dueWord]; exact hbusy))
  · rintro rfl rfl hc ht hp
    have hc' : (s.opened p mb seq).rd F.CAL_DUE_CMD = 0 := (opened_dueWord ..).trans hc
    have hrun := runCalibration_forced (t := tagOf p mb 0x0E flags seq) f h0 hm hc' (by rw [opened_cal]; exact ht) (by rw [opened_cal]; exact hp)
    have hk := calNext_kept (((s.opened p mb seq).modCal fun c =>
      { c with tag := some (tagOf p mb 0x0E flags seq), left := mask, bad := 0 }).calQueue mask)
    have hq := serve_performs a (· == 0x0E) rfl State.runCalibration rfl (by decide) rfl hrun (by decide) hroom (port_seqs_of_mbx (hk.mbx.trans ((calQueue_mbx _ _).trans (by simp only [modCal_mbx]))) p)
    refine ⟨hq.1, ?_, ?_⟩
    · rw [F.CAL_DUE_CMD, performs_due hq, ← F.CAL_DUE_CMD, hk.rd (by unfold calAside; decide), calQueue_cmd _ (by rw [modCal_rd]; exact hc') hm]
    · rw [F.CAL_DUE_DUE, performs_due hq, ← F.CAL_DUE_DUE, hk.rd (by unfold calAside; decide), calQueue_due _ hm, modCal_rd]
      rw [F.CAL_DUE_DUE, opened_dueWord]

end State
end Sys2Proof.Machine
end

section
/-! SUPPORT. CAL_STEP: MEASURE, SELECT and the Recess slot that a selection waits for (R146, R340, R348). -/

set_option Elab.async false

namespace Sys2Proof.Machine
open State
namespace State

/-! ### CAL_STEP: the request -/

/-- The payload of CAL_STEP. -/
structure StepForm (pl : List Byte) (i act e : Nat) : Prop where
  length : pl.length = 12
  item : byteAt pl 4 = i
  act : byteAt pl 5 = act
  elem : byteAt pl 6 = e
  pad : byteAt pl 7 = 0

theorem stepForm {num i act e : Nat} (hi : i < 14) (ha : act < 256) (he : e < 256) :
    StepForm (leBytes 4 num ++ leBytes 1 i ++ leBytes 1 act ++ leBytes 1 e ++ [0] ++ [0, 0, 0, 0]) i act e where
  length := by simp
  item := by simp [leBytes, byteAt]; omega
  act := by simp [leBytes, byteAt]; omega
  elem := by simp [leBytes, byteAt]; omega
  pad := by simp [leBytes, byteAt]

/-- A CAL_STEP of MEASURE or SELECT that nothing stands against. -/
structure StepFree (s : State) (i e : Nat) : Prop where
  item : i < 14
  elem : calElemOk i e = true
  run : s.cal.run = none
  cmd : s.rd F.CAL_DUE_CMD = 0
  tag : s.cal.stepTag = none
  unmet : s.calUnmet i true = 0

theorem opened_modeOf (s : State) (p : Fin 3) (mb : Fin 6) (q : Nat) (n : Fin 4) : (s.opened p mb q).modeOf n = s.modeOf n := by
  unfold modeOf
  rw [opened_mode, opened_rst, opened_sys]

theorem opened_lightPermit (s : State) (p : Fin 3) (mb : Fin 6) (q : Nat) (n : Fin 4) :
    (s.opened p mb q).lightPermit n = s.lightPermit n := by
  unfold lightPermit
  rw [opened_modeOf, nodeType, opened_cap, on_congr (opened_windowFld s p mb q (f := F.BPF_SRCSEL_PATTERN n) (Nat.le_add_right ..))]
  rfl

theorem opened_arm (s : State) (p : Fin 3) (mb : Fin 6) (q : Nat) (n : Fin 4) : (s.opened p mb q).arm n = s.arm n := by
  unfold arm armRaw
  rw [opened_ch, opened_lightPermit, on_congr (opened_windowFld s p mb q (f := F.LEC_STATUS_RUNNING n) (Nat.le_add_right ..)), rdS, getS,
    opened_strm, nodeSources, opened_cap]
  rfl

theorem opened_calUnmet (s : State) (p : Fin 3) (mb : Fin 6) (q i : Nat) (b : Bool) :
    (s.opened p mb q).calUnmet i b = s.calUnmet i b := by
  have hd : (s.opened p mb q).rd (F.DMC_STATUS_STATE (calDram i)) = s.rd (F.DMC_STATUS_STATE (calDram i)) :=
    opened_rd s p mb q (by unfold F.DMC_STATUS_STATE R.DMC_STATUS dmcBase R.MBX_HSTAT; dsimp only; omega)
  have hs : (s.opened p mb q).rd (F.LNK_STATUS_STATE (calLink i)) = s.rd (F.LNK_STATUS_STATE (calLink i)) :=
    opened_windowFld s p mb q (n := calLink i) (Nat.le_add_right ..)
  have hl : (s.opened p mb q).on (F.LNK_CTRL_LOOPBACK (calLink i)) = s.on (F.LNK_CTRL_LOOPBACK (calLink i)) :=
    on_congr (opened_windowFld s p mb q (n := calLink i) (Nat.le_add_right ..))
  simp only [calUnmet, calOn, linkUp, linkState, opened_mode, opened_sys, opened_arm, hd, hs, hl]

theorem StepFree.opened {s : State} {i e : Nat} (h : s.StepFree i e) (p : Fin 3) (mb : Fin 6) (q : Nat) : (s.opened p mb q).StepFree i e where
  item := h.item
  elem := h.elem
  run := by rw [opened_cal]; exact h.run
  cmd := by rw [F.CAL_DUE_CMD, opened_dueWord]; exact h.cmd
  tag := by rw [opened_cal]; exact h.tag
  unmet := by rw [opened_calUnmet]; exact h.unmet

/-! ### MEASURE -/

/-- The takes of item i. -/
def takes (i x : Nat) : Prop := x = R.CAL_Ii_TAKE1 i ∨ x = R.CAL_Ii_TAKE2 i

theorem wrTakes_get (s : State) (i a b : Nat) {x : Nat} (h : ¬ takes i x) :
    ((s.wr (F.CAL_Ii_TAKE1_Q i) a).wr (F.CAL_Ii_TAKE2_Q i) b).get x = s.get x := by
  have h1 : x ≠ R.CAL_Ii_TAKE1 i := fun e => h (.inl e)
  have h2 : x ≠ R.CAL_Ii_TAKE2 i := fun e => h (.inr e)
  rw [get_wr_ne _ _ h2, get_wr_ne _ _ h1]

/-- The takes a and b of item i stand, and their figure where they agree. -/
def measured (s : State) (i a b : Nat) : State :=
  let u := (s.wr (F.CAL_Ii_TAKE1_Q i) a).wr (F.CAL_Ii_TAKE2_Q i) b
  if (signed a 32 - signed b 32).natAbs ≤ s.rd (F.CAL_Ii_CFG_TOL i) then
    u.modCal fun c => { c with agreed := sset (fun _ => none) c.agreed i (some (figWorse i a b, u.calDeg i)) }
  else u

/-- Only the takes and the agreed figure differ. -/
theorem measured_spec (s : State) (i a b : Nat) :
    (∀ x, (s.measured i a b).get x = ((s.wr (F.CAL_Ii_TAKE1_Q i) a).wr (F.CAL_Ii_TAKE2_Q i) b).get x) ∧
      (s.measured i a b).dram = s.dram ∧ (s.measured i a b).lec = s.lec ∧ (s.measured i a b).mbx = s.mbx := by
  unfold measured
  dsimp only
  split
  · exact ⟨fun x => modCal_get .., by simp, by simp, by simp⟩
  · exact ⟨fun _ => rfl, by simp, by simp, by simp⟩

theorem measured_get (s : State) (i a b : Nat) {x : Nat} (h : ¬ takes i x) : (s.measured i a b).get x = s.get x :=
  ((measured_spec s i a b).1 x).trans (wrTakes_get s i a b h)

theorem measured_takes (s : State) (i : Nat) {a b : Nat} (ha : a < 2 ^ 32) (hb : b < 2 ^ 32) :
    (s.measured i a b).get (R.CAL_Ii_TAKE1 i) = a ∧ (s.measured i a b).get (R.CAL_Ii_TAKE2 i) = b := by
  have hne : R.CAL_Ii_TAKE1 i ≠ R.CAL_Ii_TAKE2 i := by unfold R.CAL_Ii_TAKE1 R.CAL_Ii_TAKE2; omega
  have hw : ∀ (t : State) (x v : Nat), v < 2 ^ 32 → (t.wr ⟨x, 0, 32⟩ v).get x = v := fun t x v hv => by
    rw [get_wr, if_pos rfl]
    have := get_lt t x
    simp [setBits]
    omega
  rw [(measured_spec s i a b).1, (measured_spec s i a b).1]
  exact ⟨(get_wr_ne _ _ hne).trans (hw s _ a ha), hw _ _ b hb⟩

/-- The other words of an item, and the sensors, are not takes. -/
theorem not_takes_card (i : Nat) : ¬ takes i (R.CAL_Ii_CARD i) := by
  unfold takes R.CAL_Ii_CARD R.CAL_Ii_TAKE1 R.CAL_Ii_TAKE2; omega
theorem not_takes_temp (i k : Nat) (h : k < 4) : ¬ takes i (R.CAL_TEMPs k) := by
  unfold takes R.CAL_TEMPs R.CAL_Ii_TAKE1 R.CAL_Ii_TAKE2; omega
theorem calSensor_lt (i : Nat) : calSensor i < 4 := by
  by_cases h : i < 14
  · unfold calSensor
    interval_cases i <;> decide
  · simp [calSensor, Nat.le_of_not_lt h]

/-- Two states that agree beside the takes give the same figures of the card. -/
theorem calDeg_congr {s t : State} (i : Nat) (h : ∀ x, ¬ takes i x → t.get x = s.get x) : t.calDeg i = s.calDeg i := by
  rw [calDeg, calTemp, rd_congr (h (R.CAL_TEMPs (calSensor i)) (not_takes_temp i _ (calSensor_lt i))), ← calTemp, ← calDeg]

/-- The answer of MEASURE. -/
def measureData (s : State) (i a b : Nat) : List Byte :=
  leBytes 1 (if (signed a 32 - signed b 32).natAbs ≤ s.rd (F.CAL_Ii_CFG_TOL i) then 0 else 1) ++
    leBytes 1 (s.rd (F.CAL_Ii_CARD_ELEMENT i)) ++ leBytes 1 (s.calDeg i) ++ [0] ++ leBytes 4 a ++ leBytes 4 b

/-- The answer as it is taken from the state with the takes. -/
theorem measured_data (s : State) (i : Nat) {a b : Nat} (ha : a < 2 ^ 32) (hb : b < 2 ^ 32) :
    (s.measured i a b).calStepData i (if (signed a 32 - signed b 32).natAbs ≤ s.rd (F.CAL_Ii_CFG_TOL i) then 0 else 1) = s.measureData i a b := by
  obtain ⟨h1, h2⟩ := measured_takes s i ha hb
  rw [calStepData, h1, h2, calDeg_congr i (fun x => measured_get s i a b (x := x)), F.CAL_Ii_CARD_ELEMENT,
    rd_congr (measured_get s i a b (not_takes_card i))]
  rfl

/-- The checks that a free MEASURE or SELECT passes. -/
theorem calStep_measure {s : State} {t : Tag} {pl : List Byte} {q i e : Nat} (f : StepForm pl i 0 e) (h : s.StepFree i e) :
    s.calStep t pl q = ⟨s.measured i (q % 2 ^ 32) (q / 2 ^ 32 % 2 ^ 32), stOK, 0, s.measureData i (q % 2 ^ 32) (q / 2 ^ 32 % 2 ^ 32)⟩ := by
  have hi := h.item
  rw [← measured_data s i (Nat.mod_lt _ (by decide)) (Nat.mod_lt _ (by decide))]
  unfold calStep
  rw [f.length, f.item, f.act, f.elem, f.pad, if_neg (by decide), if_neg (by simp [h.elem]; omega), if_neg (by simp [h.run, h.cmd, h.tag]),
    if_neg (by omega), if_neg (by simp [h.unmet]), if_pos rfl]
  rw [show bits q 0 32 = q % 2 ^ 32 by simp [bits], show bits q 32 32 = q / 2 ^ 32 % 2 ^ 32 from rfl]
  generalize q % 2 ^ 32 = a
  generalize q / 2 ^ 32 % 2 ^ 32 = b
  unfold measured
  simp only [decide_eq_true_eq]

theorem calStep_select {s : State} {t : Tag} {pl : List Byte} {q i e : Nat} (f : StepForm pl i 1 e) (h : s.StepFree i e) (h1 : i ≠ 1) :
    s.calStep t pl q = ⟨s.modCal fun c => { c with stepTag := some (t, i, 1, e) }, stDEFER, 0, []⟩ := by
  have hi := h.item
  unfold calStep
  rw [f.length, f.item, f.act, f.elem, f.pad, if_neg (by decide), if_neg (by simp [h.elem]; omega), if_neg (by simp [h.run, h.cmd, h.tag]),
    if_neg (by omega), if_neg (by simp [h.unmet]), if_neg (by omega), if_neg h1, if_pos rfl]

/-- Only the outbox of a command that is answered fills. -/
theorem opened_isFull (s : State) (mb : Fin 6) (q k : Nat) : (s.opened 0 mb q).isFull k = s.isFull k := by
  have h : (s.opened 0 mb q).rd F.MBX_HSTAT_OUTBOX_FULL = ((s.begun 0 mb.val).setBusy mb.val false).rd F.MBX_HSTAT_OUTBOX_FULL := by
    simp [opened, take, setFrag]
  rw [isFull, h, ← isFull, isFull_setBusy]
  rfl

theorem opened_measureData (s : State) (p : Fin 3) (mb : Fin 6) (q : Nat) {i : Nat} (hi : i < 14) (a b : Nat) :
    (s.opened p mb q).measureData i a b = s.measureData i a b := by
  have hw : ∀ f : Fld, 0x40050000 ≤ f.addr → f.addr < 0x40060000 → (s.opened p mb q).rd f = s.rd f := fun f _ _ =>
    opened_rd _ _ _ _ (by unfold R.MBX_HSTAT; omega)
  have hs := calSensor_lt i
  have h1 := hw (F.CAL_Ii_CFG_TOL i) (show 0x40050000 ≤ 0x40050400 + 0x20 * i by omega) (show 0x40050400 + 0x20 * i < 0x40060000 by omega)
  have h2 := hw (F.CAL_Ii_CARD_ELEMENT i) (show 0x40050000 ≤ 0x40050408 + 0x20 * i by omega) (show 0x40050408 + 0x20 * i < 0x40060000 by omega)
  have h3 := hw (F.CAL_TEMPs_T (calSensor i)) (show 0x40050000 ≤ 0x40050010 + 4 * calSensor i by omega)
    (show 0x40050010 + 4 * calSensor i < 0x40060000 by omega)
  simp only [measureData, calDeg, calTemp, h1, h2, h3]

/-- MEASURE and SELECT, as O44 states them. -/
theorem calStep_spec {mb : Fin 6} {flags seq i act e q : Nat} {pl : List Byte} {s : State} (a : s.Asks 0 mb 0x88 flags seq pl)
    (f : act < 2 → StepForm pl i act e) (h : s.StepFree i e) (hmax : 16 ≤ s.maxPay 0) :
    ∃ t, exec (.calStep 0 mb q) s = .next t ∧
      (act = 0 → let a := q % 2 ^ 32
        let b := q / 2 ^ 32 % 2 ^ 32
        t.answered 0 mb 0x88 seq stOK 0 (s.measureData i a b) ∧
        t.get (R.CAL_Ii_TAKE1 i) = a ∧ t.get (R.CAL_Ii_TAKE2 i) = b ∧ t.dram = s.dram ∧ t.lec = s.lec ∧
        s.regsKeep t [R.MBX_HSTAT, R.MBX_IRQ_STATUS, R.CAL_Ii_TAKE1 i, R.CAL_Ii_TAKE2 i]) ∧
      (act = 1 → i ≠ 1 → t.isFull mb.val = s.isFull mb.val ∧ t.cal = { s.cal with stepTag := some (⟨0, mb.val, 0x88, seq, bit flags 3⟩, i, 1, e) } ∧
        t.dram = s.dram ∧ t.lec = s.lec ∧ s.regsKeep t [R.MBX_HSTAT, R.MBX_IRQ_STATUS]) := by
  have ho := h.opened 0 mb seq
  have hi := h.item
  refine ⟨_, rfl, ?_, ?_⟩
  · rintro rfl
    dsimp only
    have hm := calStep_measure (t := tagOf 0 mb 0x88 flags seq) (q := q) (f (by decide)) ho
    have ha : q % 2 ^ 32 < 2 ^ 32 := Nat.mod_lt _ (by decide)
    have hb : q / 2 ^ 32 % 2 ^ 32 < 2 ^ 32 := Nat.mod_lt _ (by decide)
    generalize q % 2 ^ 32 = x at *
    generalize q / 2 ^ 32 % 2 ^ 32 = y at *
    obtain ⟨-, hd, hl, hx⟩ := measured_spec (s.opened 0 mb seq) i x y
    obtain ⟨h1, h2⟩ := measured_takes (s.opened 0 mb seq) i ha hb
    obtain ⟨hans, hkeep, -⟩ := serve_performs a (· == 0x88) rfl (fun s t pl => s.calStep t pl q) rfl (by decide) rfl hm (by decide)
      (by simpa [measureData] using hmax) (port_seqs_of_mbx hx 0)
    have hne : R.CAL_Ii_TAKE1 i < R.MBX_HSTAT ∧ R.CAL_Ii_TAKE2 i < R.MBX_HSTAT := by
      unfold R.CAL_Ii_TAKE1 R.CAL_Ii_TAKE2 R.MBX_HSTAT; omega
    have hlt : R.MBX_HSTAT < R.MBX_IRQ_STATUS := by decide
    refine ⟨opened_measureData s 0 mb seq hi x y ▸ hans, ?_, ?_, ?_, ?_, fun x hx => ?_⟩
    · rw [mailOnly_get hkeep (by omega) (by omega), h1]
    · rw [mailOnly_get hkeep (by omega) (by omega), h2]
    · rw [hkeep.dram, hd, opened_dram]
    · rw [hkeep.lec, hl, opened_lec]
    · simp only [List.mem_cons, List.not_mem_nil, or_false, not_or] at hx
      obtain ⟨hh, hq, hx1, hx2⟩ := hx
      rw [mailOnly_get hkeep hh hq, measured_get _ _ _ _ (by rintro (e | e) <;> contradiction), opened_get _ _ _ _ hh]
  · rintro rfl h1
    have hs := calStep_select (t := tagOf 0 mb 0x88 flags seq) (q := q) (f (by decide)) ho h1
    have hdone := serve_ok a (· == 0x88) rfl (fun s t pl => s.calStep t pl q) rfl (by rw [hs]; exact (show 4 ≤ _ by omega))
    rw [hs] at hdone
    have hc : closed ⟨(s.opened 0 mb seq).modCal fun c => { c with stepTag := some (tagOf 0 mb 0x88 flags seq, i, 1, e) }, stDEFER, 0, []⟩
        (tagOf 0 mb 0x88 flags seq) =
      ((s.opened 0 mb seq).modCal fun c => { c with stepTag := some (tagOf 0 mb 0x88 flags seq, i, 1, e) }).modPort 0
        fun q => { q with defer := q.defer ++ [mb.val] } := by
      unfold closed
      rw [if_pos rfl]
      rfl
    rw [hdone, hc]
    refine ⟨?_, ?_, by simp, by simp, fun x hx => ?_⟩
    · rw [← opened_isFull s mb seq, isFull, isFull, modPort_rd, modCal_rd]
    · rw [modPort_cal, modCal, opened_cal]
      rfl
    · rw [modPort_get, modCal_get]
      exact opened_get _ _ _ _ fun e => hx (by simp [e])

/-! ### The waiting selection -/

/-- The element that the hardware takes changes no Report Card. -/
theorem calDrive_kept (s : State) (i : Nat) : CalKept s (s.calDrive i) := (CalKept.refl s).calDrive

theorem card_not_aside {i : Nat} (hi : i < 14) (lo w : Nat) : ¬ calAside (⟨R.CAL_Ii_CARD i, lo, w⟩ : Fld).addr := by
  unfold calAside R.CAL_Ii_CARD R.CAL_STATUS
  dsimp only
  omega

/-- A selection that waited, with its slot there: its element is in the card. -/
theorem calSet_spec (s : State) {i e : Nat} (hi : i < 14) (he : e < 256) : (s.calSet i 1 e).rd (F.CAL_Ii_CARD_ELEMENT i) = e ∧
    (s.calSet i 1 e).dram = s.dram ∧ (s.calSet i 1 e).mbx = s.mbx ∧ (s.calSet i 1 e).cal.stepTag = s.cal.stepTag := by
  have h := calDrive_kept (s.wr (F.CAL_Ii_CARD_ELEMENT i) e) i
  unfold calSet
  rw [if_pos rfl]
  refine ⟨?_, h.dram.trans (by simp), h.mbx.trans (by simp), h.step.trans (by simp)⟩
  exact (h.rd (card_not_aside hi _ _)).trans ((rd_wr _ _ (show 8 + 8 ≤ 32 by decide)).trans (Nat.mod_eq_of_lt he))

/-- The engine moves on after the answer of a selection that waited, from the state u. -/
theorem stepAnswered {s u : State} {mb : Fin 6} {seq st : Nat} {nt : Bool} {data : List Byte} (hst : st ≠ stDEFER)
    (hq : sget (fun _ => none) (s.port 0).seqs mb.val = some ⟨seq, []⟩) (hm : u.mbx = s.mbx) (hu : u.cal.stepTag = none) :
    let t := (u.answer ⟨0, mb.val, 0x88, seq, nt⟩ st 0 data).calNext
    t.answered 0 mb 0x88 seq st 0 (if st = stOK ∨ st = stACCEPTED then data else []) ∧ t.cal.stepTag = none ∧ t.dram = u.dram ∧
      ∀ i, i < 14 → t.rd (F.CAL_Ii_CARD_ELEMENT i) = u.rd (F.CAL_Ii_CARD_ELEMENT i) := by
  have htag : (⟨0, mb.val, 0x88, seq, nt⟩ : Tag) = tagOf 0 mb 0x88 (if nt then 8 else 0) seq := by
    cases nt <;> rfl
  have hclosed : ∀ g : Tag, u.answer g st 0 data = closed ⟨u, st, 0, data⟩ g := fun g => by
    unfold closed
    rw [if_neg hst]
  rw [hclosed, htag]
  have hans := answered_closed ⟨u, st, 0, data⟩ 0 mb 0x88 (if nt then 8 else 0) seq hst ((congrArg (fun l => sget (fun _ => none) l mb.val) (port_seqs_of_mbx hm 0)).trans hq)
  have hk := calNext_kept (closed ⟨u, st, 0, data⟩ (tagOf 0 mb 0x88 (if nt then 8 else 0) seq))
  refine ⟨hk.answered hans, hk.step.trans (by rw [closed_cal]; exact hu), hk.dram.trans (closed_dram ..), fun i hi => ?_⟩
  have hlt : (R.CAL_Ii_CARD i) < R.MBX_HSTAT := by unfold R.CAL_Ii_CARD R.MBX_HSTAT; omega
  exact (hk.rd (card_not_aside hi _ _)).trans (closed_rd _ _ (show R.CAL_Ii_CARD i ≠ _ by omega)
    (show R.CAL_Ii_CARD i ≠ _ by unfold R.MBX_HSTAT at hlt; unfold R.MBX_IRQ_STATUS; omega) (.inr (.inl (show 0x88 ≠ 1 by decide))))

/-- The Recess slot, or the end of the time, of a selection that waits, as O44 states it. -/
theorem calStep_waiting {mb : Fin 6} {seq i e : Nat} {nt : Bool} {s : State} (hi : i < 14) (he : e < 256)
    (ht : s.cal.stepTag = some (⟨0, mb.val, 0x88, seq, nt⟩, i, 1, e)) (hq : sget (fun _ => none) (s.port 0).seqs mb.val = some ⟨seq, []⟩) :
    (s.sysStill 7 = true → exec .calRecessApply s = .next s) ∧
    (s.sysStill 7 = false → ∃ t data, exec .calRecessApply s = .next t ∧ t.answered 0 mb 0x88 seq stOK 0 data ∧ t.cal.stepTag = none ∧
      t.rd (F.CAL_Ii_CARD_ELEMENT i) = e ∧ t.dram = s.dram) ∧
    (∃ t, exec .calStepTimeout s = .next t ∧ t.answered 0 mb 0x88 seq stTIMEOUT 0 [] ∧ t.cal.stepTag = none ∧
      (∀ j, j < 14 → t.rd (F.CAL_Ii_CARD_ELEMENT j) = s.rd (F.CAL_Ii_CARD_ELEMENT j)) ∧ t.dram = s.dram) := by
  refine ⟨fun h => ?_, fun h => ?_, ?_⟩
  · exact congrArg Host.Outcome.next (if_pos h)
  · obtain ⟨h1, h2, h3, h4⟩ := calSet_spec (s.modCal fun c => { c with stepTag := none }) hi he
    obtain ⟨k1, k2, k3, k4⟩ := stepAnswered (nt := nt) (st := stOK)
      (data := ((s.modCal fun c => { c with stepTag := none }).calSet i 1 e).calStepData i 0) (by decide) hq (h3.trans (by simp)) h4
    refine ⟨_, _, (congrArg Host.Outcome.next (if_neg (by simp [h]))).trans ?_, k1, k2, (k4 i hi).trans h1, k3.trans (h2.trans (by simp))⟩
    unfold calRecess
    rw [ht]
  · obtain ⟨k1, k2, k3, k4⟩ := stepAnswered (nt := nt) (st := stTIMEOUT) (data := []) (u := s.modCal fun c => { c with stepTag := none })
      (by decide) hq (by simp) (by simp [modCal])
    refine ⟨_, congrArg Host.Outcome.next ?_, k1, k2, fun j hj => (k4 j hj).trans (by simp), k3.trans (by simp)⟩
    rw [ht]

end State

/-- Settles O44: an answer stands when the engine has moved on to the next item, which touches no Report Card. -/
theorem calibrationCommands : Obligations.CalibrationCommands := by
  refine ⟨fun p mb flags seq mask act fl s a => runCalibration_spec a, fun mb flags seq num i act e q s a hi he hok hr hc ht hu hm => ?_,
    fun mb seq i e nt s hi he ht hq _ => calStep_waiting hi he ht hq⟩
  exact calStep_spec a (fun ha => stepForm hi (by omega) he) ⟨hi, hok, hr, hc, ht, hu⟩ hm

end Sys2Proof.Machine
end

section
/-! SUPPORT. LINK_EQ on a channel whose firmware holds more than three back-lane cursors (R146, R266). -/

set_option Elab.async false

namespace Sys2Proof.Machine
open State

/-- A request to LINK_EQ under Hall Pass 1: read the back lane of channel 0. -/
def cursorsRequest : List Byte := leBytes 4 1 ++ leBytes 1 0 ++ leBytes 1 2 ++ leBytes 1 0 ++ [0] ++ leBytes 4 0

/-- A machine awake in SERVICE with Hall Pass 1 for every block, where the request waits in MB0 of HSPI; firmware holds 504 bytes
as the cursors that it last sent to the node of channel 0. No step gives that list any length but three. -/
def cursorsRead : State :=
  let s : State := { State.reset with
    rst := { State.reset.rst with cpu := .running }
    aon := { State.reset.aon with vaonGood := true, coreGood := true }
    mbx := { State.reset.mbx with grants := [⟨1, 0, 1000⟩], issued := [1] } }
  let s := ((s.wr F.SYS_MODE_MODE modeSERVICE).wr F.RST_OPT_HOSTSEL 1).modLink 0 fun l => { l with backTx := List.replicate 504 0 }
  (s.hostWrite (inboxAt 0) (mkMessage 0x8E 2 1 cursorsRequest)).setBusy 0 true

theorem cursorsRead_asks : cursorsRead.Asks 0 0 0x8E 2 1 cursorsRequest where
  served := by decide +kernel
  waits := ⟨List.replicate 492 0, by decide +kernel⟩
  op_lt := by decide
  seq_lt := by decide
  flags_ok := by decide
  whole := by decide
  max := by decide +kernel
  len_lt := by decide
  fresh := by decide +kernel
  noFrag := by decide +kernel
  running := by decide
  turn := by decide +kernel
  expert := fun _ => rfl
  grant := by decide +kernel
  legal := by decide +kernel

/-- The state after a command. -/
def answerTo (c : Instr) (s : State) : State := match exec c s with | .next t => t | _ => s

/-- The status in the response that MB0 of HSPI last cached. -/
def cachedStatus (s : State) : Option Nat := (sget (fun _ => none) (s.port 0).seqs 0).map fun q => byteAt q.cache 8

/-- The report of the settings does not fit the settled payload, and the answer is BAD_LENGTH. -/
theorem cursorsRead_refused : cachedStatus (answerTo (.linkEq 0 0 1 1) cursorsRead) = some stBAD_LENGTH := by decide +kernel

/-- The response that O33 states begins with OK. -/
theorem cursorsRead_stated : byteAt (mkMessage 0x8E 1 1 (statusWord stOK 0 ++ (leBytes 2 1 ++ leBytes 2 1 ++ cursorsRead.eqReport 0 2))) 8 =
    stOK := by decide +kernel

/-- Refutes O33: LINK_EQ is stated to return the back lane's settings in every state, and the cursors among them, a list of any
length in the state, are not stated to fit the settled payload; one longer is answered BAD_LENGTH (R95). -/
theorem not_linkCommands : ¬ Obligations.LinkCommands := by
  intro h
  obtain ⟨-, hEq⟩ := h
  obtain ⟨t, ht, hread, -⟩ := hEq 0 2 1 1 2 0 0 1 1 0 cursorsRead cursorsRead_asks (by decide) (by decide)
  obtain ⟨⟨hcache, -⟩, -⟩ := hread rfl
  have hafter : answerTo (.linkEq 0 0 1 1) cursorsRead = t := by rw [answerTo, ht]
  have hok : cachedStatus t = some stOK := by
    rw [cachedStatus, show sget (fun _ => none) (t.port 0).seqs 0 = _ from hcache, Option.map_some, cursorsRead_stated]
  have := cursorsRead_refused
  rw [hafter, hok] at this
  exact absurd this (by decide)

end Sys2Proof.Machine
end

section
/-! SUPPORT. REG_READ, REG_WRITE and REG_MODIFY on the blocks AON and CAL (R141). -/

set_option Elab.async false

namespace Sys2Proof.Machine
open State

/-- A word of AON or CAL other than the low word of the timebase, which a read latches (R48). -/
def quietWord (a : Nat) : Prop := (∃ b, blockOf a = some (3, b) ∨ blockOf a = some (5, b)) ∧ a ≠ R.AON_TB_LO

theorem quietWord_cases {a : Nat} (h : quietWord a) : ∃ id b, blockOf a = some (id, b) ∧ (id = 3 ∨ id = 5) := by
  obtain ⟨⟨b, h | h⟩, -⟩ := h
  · exact ⟨3, b, h, .inl rfl⟩
  · exact ⟨5, b, h, .inr rfl⟩

theorem quietWord_range {a : Nat} (h : quietWord a) : (0x40020000 ≤ a ∧ a < 0x40030000) ∨ (0x40050000 ≤ a ∧ a < 0x40060000) := by
  obtain ⟨id, b, hb, hid⟩ := quietWord_cases h
  exact range_of_blockOf hb hid

theorem quietWord_inMap {a : Nat} (h : quietWord a) : inMap a = true := by
  obtain ⟨id, b, hb, -⟩ := quietWord_cases h
  rw [inMap, hb]
  rfl

namespace State

/-! ### Reads -/

/-- Reading such a word has no effect. -/
theorem busRead_quietWord (s : State) {a : Nat} (h : quietWord a) : s.busRead a = (s, s.plainRead a, true) := by
  have hr := quietWord_range h
  obtain ⟨id, b, hb, hid⟩ := quietWord_cases h
  have h1 : ¬ (a = R.MBX_GRANT_STATUS ∨ a = R.MBX_HSTAT) := by unfold R.MBX_GRANT_STATUS R.MBX_HSTAT; omega
  have h2 : a ≠ R.MBX_HID := by unfold R.MBX_HID; omega
  have h3 : a ≠ R.PHY_STATUS (duo (id - 9)) := by unfold R.PHY_STATUS dmcBase; omega
  unfold busRead
  rw [hb]
  dsimp only
  rw [if_neg (by omega), if_neg h.2, if_neg h1, if_neg h2, if_neg (by omega), if_neg h3]

/-- Words that a read leaves as they are are read in order. -/
theorem readWords_eq {s : State} {f : Nat → Nat} : ∀ (k a : Nat), (∀ i, i < k → s.busRead (a + 4 * i) = (s, f (a + 4 * i), true)) →
    readWords k a s = (s, (List.range k).map (fun i => f (a + 4 * i)), true)
  | 0, _, _ => rfl
  | k + 1, a, h => by
    have h0 : s.busRead a = (s, f a, true) := h 0 (Nat.succ_pos k)
    have ht : readWords k (a + 4) s = (s, (List.range k).map (fun i => f (a + 4 + 4 * i)), true) :=
      readWords_eq k (a + 4) fun i hi => by
        have := h (i + 1) (by omega)
        rwa [show a + 4 + 4 * i = a + 4 * (i + 1) by omega]
    rw [readWords, h0, ht, List.range_succ_eq_map, List.map_cons, List.map_map]
    simp [Function.comp_def, Nat.mul_add, Nat.add_assoc, Nat.add_comm]

/-- The payload of REG_READ. -/
structure RegReadForm (pl : List Byte) (a k : Nat) : Prop where
  length : pl.length = 10
  addr : le32 pl 4 = a
  count : le16 pl 8 = k

theorem regReadForm {num a k : Nat} (ha : a < 2 ^ 32) (hk : k < 2 ^ 16) : RegReadForm (leBytes 4 num ++ leBytes 4 a ++ leBytes 2 k) a k where
  length := by simp
  addr := by simp [leBytes, le32, le16, byteAt]; omega
  count := by simp [leBytes, le16, byteAt]; omega

/-- A word outside the map among those named. -/
theorem regRead_outside {s : State} {pl : List Byte} {a k : Nat} (f : RegReadForm pl a k) (ha : a % 4 = 0) (hk : 0 < k)
    (hout : ∃ i, i < k ∧ blockOf (a + 4 * i) = none) : s.regRead pl = refuse s stNOT_PRESENT 0 := by
  obtain ⟨i, hi, hb⟩ := hout
  have hin : wordsIn a k = false := by
    rw [wordsIn, List.all_eq_false]
    exact ⟨i, List.mem_range.mpr hi, by simp [inMap, hb]⟩
  unfold regRead
  rw [f.length, f.addr, f.count, if_neg (by decide), if_neg (by omega), hin]
  rfl

/-- Words of AON and CAL. -/
theorem regRead_plain {s : State} {pl : List Byte} {a k : Nat} (f : RegReadForm pl a k) (ha : a % 4 = 0) (hk : 0 < k)
    (h : ∀ i, i < k → quietWord (a + 4 * i)) :
    s.regRead pl = ⟨s, stOK, 0, ((List.range k).map fun i => leBytes 4 (s.plainRead (a + 4 * i))).flatten⟩ := by
  have hin : wordsIn a k = true := List.all_eq_true.mpr fun i hi => quietWord_inMap (h i (List.mem_range.mp hi))
  unfold regRead
  rw [f.length, f.addr, f.count, if_neg (by decide), if_neg (by omega), hin, if_neg (by decide),
    readWords_eq (f := s.plainRead) k a fun i hi => s.busRead_quietWord (h i hi)]
  simp [List.map_map, Function.comp_def]

theorem opened_plainRead (s : State) (p : Fin 3) (mb : Fin 6) (q : Nat) {a : Nat} (h : a ≠ R.MBX_HSTAT) :
    (s.opened p mb q).plainRead a = s.plainRead a := by rw [plainRead, opened_get _ _ _ _ h, plainRead]

theorem quietWord_mbx {a : Nat} (h : quietWord a) : a ≠ R.MBX_HSTAT ∧ a ≠ R.MBX_IRQ_STATUS := by
  have := quietWord_range h
  unfold R.MBX_HSTAT R.MBX_IRQ_STATUS
  omega

theorem wordList_length (f : Nat → Nat) (k : Nat) : ((List.range k).map fun i => leBytes 4 (f i)).flatten.length = 4 * k := by
  simp [List.length_flatten, Function.comp_def, Nat.mul_comm]

/-- REG_READ, as O32 states it. -/
theorem regRead_spec {mb : Fin 6} {flags seq num a k : Nat} {s : State} (ha : a < 2 ^ 32) (h4 : a % 4 = 0)
    (asks : s.Asks 0 mb 0x82 flags seq (leBytes 4 num ++ leBytes 4 a ++ leBytes 2 k)) (hk : 0 < k) (hmax : 4 + 4 * k ≤ s.maxPay 0)
    (hk2 : k < 2 ^ 16) :
    ∃ t, exec (.regRead 0 mb) s = .next t ∧
      ((∃ i, i < k ∧ blockOf (a + 4 * i) = none) → s.performs t 0 mb 0x82 seq stNOT_PRESENT 0 []) ∧
      ((∀ i, i < k → quietWord (a + 4 * i)) →
        s.performs t 0 mb 0x82 seq stOK 0 ((List.range k).map fun i => leBytes 4 (s.plainRead (a + 4 * i))).flatten) := by
  have f := regReadForm (num := num) ha hk2
  generalize leBytes 4 num ++ leBytes 4 a ++ leBytes 2 k = pl at asks f
  have hroom : 4 ≤ s.maxPay 0 := asks.roomFor (by rw [f.length]; decide)
  refine ⟨_, rfl, fun hout => serve_refused asks _ rfl _ rfl (by decide) hroom (by decide) (regRead_outside f h4 hk hout), fun h => ?_⟩
  have hdata : (List.range k).map (fun i => leBytes 4 ((s.opened 0 mb seq).plainRead (a + 4 * i))) =
      (List.range k).map fun i => leBytes 4 (s.plainRead (a + 4 * i)) :=
    List.map_congr_left fun i hi => by rw [opened_plainRead _ _ _ _ (quietWord_mbx (h i (List.mem_range.mp hi))).1]
  refine query_says asks _ rfl _ rfl ?_ ?_
  · exact (regRead_plain f h4 hk h).trans (by rw [hdata])
  · rw [wordList_length]
    omega

/-! ### Writes -/

theorem mailOnly_put {s t : State} (h : s.mailOnly t) (a v : Nat) : (s.put a v).mailOnly (t.put a v) := by
  obtain ⟨hr, hd, hb, htb, he, hs, hrst, ha, hp, hc, hl, hdm, hcal, htap⟩ := h
  refine ⟨fun x hx => ?_, hd, hb, htb, he, hs, hrst, ha, hp, hc, hl, hdm, hcal, htap⟩
  by_cases e : x = a
  · rw [e, get_put_self, get_put_self]
  · rw [get_put_ne _ _ e, get_put_ne _ _ e, hr x hx]

theorem heldId_congr {s t : State} (h : s.mailOnly t) {id : Nat} (hid : id = 3 ∨ id = 5) : t.heldId id = s.heldId id := by
  obtain rfl | rfl := hid
  · rfl
  · show t.sysHeld 7 = s.sysHeld 7
    rw [sysHeld, mailOnly_get h (by decide) (by decide), sysHeld]

/-- How a word of AON or CAL is written. -/
theorem busWrite_quietWord (s : State) {a id b : Nat} (h : blockOf a = some (id, b)) (hid : id = 3 ∨ id = 5) (v : Nat) :
    s.busWrite a v = if s.heldId id then s else if isErr a then s.errWrite a v else
      match specAt a with | none => s | some r => s.put a (r.fields.foldl (writeField true v) (s.get a)) := by
  by_cases hh : s.heldId id = true
  · rw [if_pos hh, s.busWrite_held h hh]
  · rw [if_neg hh]
    have hh' : s.heldId id = false := by simpa using hh
    by_cases he : isErr a = true
    · rw [if_pos he]
      unfold busWrite
      rw [h]
      dsimp only
      rw [hh', if_neg (by decide), if_neg (by omega), if_pos he]
    · rw [if_neg he]
      have he' : isErr a = false := by simpa using he
      cases hr : specAt a with
      | some r => exact s.busWrite_aon_cal h hid hh' he' hr v
      | none =>
        unfold busWrite
        rw [h]
        dsimp only
        rw [hh', he', if_neg (by decide), if_neg (by omega), if_neg (by decide), if_neg (by omega), if_neg (by omega), if_neg (by omega),
          if_neg (by omega), if_neg (by omega), if_neg (by omega), if_neg (by omega), if_neg (by omega), plainWrite, hr]

/-- Such a write changes registers alone, and the same ones in two states that differ by their mailboxes. -/
theorem busWrite_mailOnly {s t : State} (h : s.mailOnly t) {a : Nat} (ha : quietWord a) (v : Nat) :
    (s.busWrite a v).mailOnly (t.busWrite a v) ∧ (t.busWrite a v).mbx = t.mbx ∧ (t.busWrite a v).fw = t.fw := by
  obtain ⟨id, b, hb, hid⟩ := quietWord_cases ha
  obtain ⟨hm1, hm2⟩ := quietWord_mbx ha
  rw [s.busWrite_quietWord hb hid, t.busWrite_quietWord hb hid, heldId_congr h hid, mailOnly_get h hm1 hm2]
  split
  · exact ⟨h, rfl, rfl⟩
  · split
    · unfold errWrite
      split
      · unfold errClear
        exact ⟨mailOnly_put (mailOnly_put h _ _) _ _, by simp, by simp⟩
      · exact ⟨h, rfl, rfl⟩
    · split
      · exact ⟨h, rfl, rfl⟩
      · exact ⟨mailOnly_put h _ _, by simp, by simp⟩

/-- A command that asks is answered as its handler says; the state that the handler leaves is u but for the mailboxes. -/
theorem serve_becomes {s u v : State} {p : Fin 3} {mb : Fin 6} {op flags seq : Nat} {pl : List Byte} (a : s.Asks p mb op flags seq pl)
    (mine : Nat → Bool) (hm : mine op = true) (h : Handler) (hd : definedOp op = true) (hop : op ≠ 1) {data : List Byte}
    (hh : h (s.opened p mb seq) (tagOf p mb op flags seq) pl = ⟨v, stOK, 0, data⟩) (hl : data.length + 4 ≤ s.maxPay p)
    (hv : u.mailOnly v) (hfw : v.fw = u.fw) (hmbx : v.mbx = (s.opened p mb seq).mbx) :
    u.performs (s.serve p mb mine h) p mb op seq stOK 0 data := by
  rw [serve_ok a mine hm h hd (by rw [hh]; exact hl), hh]
  exact performs_closed flags hop (by decide) (by rw [port_seqs_of_mbx hmbx, opened_seqs]) hv hfw

/-- The payload of REG_WRITE with one word. -/
structure RegWriteForm (pl : List Byte) (a v : Nat) : Prop where
  length : pl.length = 12
  addr : le32 pl 4 = a
  words : wordsOf (pl.drop 8) = [v]

theorem regWriteForm {num a v : Nat} (ha : a < 2 ^ 32) (hv : v < 2 ^ 32) : RegWriteForm (leBytes 4 num ++ leBytes 4 a ++ leBytes 4 v) a v where
  length := by simp
  addr := by simp [leBytes, le32, le16, byteAt]; omega
  words := by
    have hd : (leBytes 4 num ++ leBytes 4 a ++ leBytes 4 v).drop 8 = leBytes 4 v := List.drop_left' (by simp)
    have hn : leNat (leBytes 4 v) = v := by rw [leNat_leBytes]; exact Nat.mod_eq_of_lt (by omega)
    rw [hd]
    exact congrArg (fun x => [x]) hn

theorem wordsIn_one (a : Nat) : wordsIn a 1 = inMap a := by simp [wordsIn]
theorem wordsKept_one (a : Nat) : wordsKept a 1 = (cpuOnly a || cardReg a) := by simp [wordsKept]

/-- REG_WRITE of one word. -/
theorem regWrite_one {s : State} {pl : List Byte} {a v : Nat} (f : RegWriteForm pl a v) (h4 : a % 4 = 0) :
    s.regWrite pl = if inMap a = false then refuse s stNOT_PRESENT 0
      else if cpuOnly a || cardReg a then refuse s stBAD_PARAM 0 else ⟨s.busWrite a v, stOK, 0, []⟩ := by
  unfold regWrite
  rw [f.length, f.addr, f.words, if_neg (by decide), if_neg (by omega), List.length_singleton, wordsIn_one, wordsKept_one]
  simp only [Bool.not_eq_true']
  rfl

/-- The words that firmware alone writes lie in the map. -/
theorem inMap_of_kept {a : Nat} (h : (cpuOnly a || cardReg a) = true) : inMap a = true := by
  simp only [cpuOnly, cardReg, Bool.or_eq_true, beq_iff_eq, List.any_eq_true, List.mem_range] at h
  obtain ((rfl | rfl) | rfl) | ⟨i, hi, hc⟩ := h
  · decide
  · decide
  · decide
  · have hr : 0x40050000 ≤ a ∧ a < 0x40060000 := by
      unfold R.CAL_Ii_CARD R.CAL_Ii_QUAL R.CAL_Ii_TAP R.CAL_Ii_TIME at hc
      omega
    grind [inMap, blockOf]

theorem quietWord_not_cpuOnly {a : Nat} (h : quietWord a) : cpuOnly a = false := by
  have := quietWord_range h
  simp only [cpuOnly, Bool.or_eq_false_iff, beq_eq_false_iff_ne]
  unfold R.SYS_MODE_CTRL R.RST_DEVICE R.RST_WDT_KICK
  omega

/-- REG_WRITE, as O32 states it. -/
theorem regWrite_spec {mb : Fin 6} {flags seq num a : Nat} {v : Word} {s : State} (ha : a < 2 ^ 32) (h4 : a % 4 = 0)
    (asks : s.Asks 0 mb 0x83 flags seq (leBytes 4 num ++ leBytes 4 a ++ leBytes 4 v.toNat)) :
    ∃ t, exec (.regWrite 0 mb) s = .next t ∧
      (blockOf a = none → s.performs t 0 mb 0x83 seq stNOT_PRESENT 0 []) ∧
      ((cpuOnly a || cardReg a) = true → s.performs t 0 mb 0x83 seq stBAD_PARAM 0 []) ∧
      (quietWord a → cardReg a = false → ∃ u, exec (.registerWrite a v) s = .next u ∧ u.performs t 0 mb 0x83 seq stOK 0 []) := by
  have f := regWriteForm (num := num) ha v.isLt
  generalize leBytes 4 num ++ leBytes 4 a ++ leBytes 4 v.toNat = pl at asks f
  have hroom : 4 ≤ s.maxPay 0 := asks.roomFor (by rw [f.length]; decide)
  have hone := regWrite_one (s := s.opened 0 mb seq) f h4
  refine ⟨_, rfl, fun hb => ?_, fun hk => ?_, fun hq hc => ⟨_, rfl, ?_⟩⟩
  · rw [if_pos (by simp [inMap, hb])] at hone
    exact serve_refused asks _ rfl _ rfl (by decide) hroom (by decide) hone
  · rw [if_neg (by simp [inMap_of_kept hk]), if_pos hk] at hone
    exact serve_refused asks _ rfl _ rfl (by decide) hroom (by decide) hone
  · rw [if_neg (by simp [quietWord_inMap hq]), if_neg (by simp [quietWord_not_cpuOnly hq, hc])] at hone
    obtain ⟨hv, hmbx, hfw⟩ := busWrite_mailOnly (opened_mailOnly s 0 mb seq) hq v.toNat
    obtain ⟨-, -, hfw'⟩ := busWrite_mailOnly (mailOnly.refl s) hq v.toNat
    exact serve_becomes asks _ rfl _ rfl (by decide) hone hroom hv (hfw.trans ((opened_fw ..).trans hfw'.symm)) hmbx

/-! ### Read, modify, write -/

/-- The payload of REG_MODIFY. -/
structure RegModifyForm (pl : List Byte) (a m v : Nat) : Prop where
  length : pl.length = 16
  addr : le32 pl 4 = a
  mask : le32 pl 8 = m
  value : le32 pl 12 = v

theorem regModifyForm {num a m v : Nat} (ha : a < 2 ^ 32) (hm : m < 2 ^ 32) (hv : v < 2 ^ 32) :
    RegModifyForm (leBytes 4 num ++ leBytes 4 a ++ leBytes 4 m ++ leBytes 4 v) a m v where
  length := by simp
  addr := by simp [leBytes, le32, le16, byteAt]; omega
  mask := by simp [leBytes, le32, le16, byteAt]; omega
  value := by simp [leBytes, le32, le16, byteAt]; omega

/-- A word is read as fields within its 32 bits. -/
theorem readFields_lt {fs : List FieldSpec} (h : ∀ f ∈ fs, f.lo + f.width ≤ 32) (old : Nat) :
    ∀ acc, acc < 2 ^ 32 → fs.foldl (readField old) acc < 2 ^ 32 := by
  induction fs with
  | nil => exact fun _ h => h
  | cons f fs ih =>
    intro acc hacc
    refine ih (fun g hg => h g (.tail _ hg)) _ ?_
    unfold readField
    split
    · exact hacc
    · exact setBits_lt hacc (h f (.head _))

theorem plainRead_lt (s : State) {a : Nat} (h : quietWord a) : s.plainRead a < 2 ^ 32 := by
  obtain ⟨id, b, hb, hid⟩ := quietWord_cases h
  have hr := quietWord_range h
  unfold plainRead
  rw [if_neg (by omega)]
  split
  · decide
  · rename_i r hs
    exact readFields_lt (fun f hf => ((r.tidy_iff.mp (tidy_of_specAt hb hid hs)).1 f hf).1) _ 0 (by decide)

/-- The word that a modify writes. -/
theorem modified_toNat {x : Nat} (hx : x < 2 ^ 32) (m v : Word) :
    ((BitVec.ofNat 32 x &&& ~~~m) ||| (v &&& m)).toNat = (x &&& (0xFFFFFFFF ^^^ m.toNat)) ||| (v.toNat &&& m.toNat) := by
  have hnot : (~~~m).toNat = 0xFFFFFFFF ^^^ m.toNat := by
    rw [← BitVec.allOnes_xor, BitVec.toNat_xor]
    rfl
  rw [BitVec.toNat_or, BitVec.toNat_and, BitVec.toNat_and, BitVec.toNat_ofNat, Nat.mod_eq_of_lt hx, hnot]

theorem regModify_quiet {s : State} {pl : List Byte} {a m v : Nat} (f : RegModifyForm pl a m v) (h4 : a % 4 = 0) (h : quietWord a)
    (hc : cardReg a = false) :
    let u := s.busWrite a ((s.plainRead a &&& (0xFFFFFFFF ^^^ m)) ||| (v &&& m))
    s.regModify pl = ⟨u, stOK, 0, leBytes 4 (s.plainRead a) ++ leBytes 4 (u.plainRead a)⟩ := by
  unfold regModify
  rw [f.length, f.addr, f.mask, f.value, if_neg (by decide), if_neg (by omega), quietWord_inMap h, if_neg (by decide),
    quietWord_not_cpuOnly h, hc, if_neg (by decide), s.busRead_quietWord h]
  dsimp only
  rw [busRead_quietWord _ h, if_neg (by decide)]

/-- REG_MODIFY, as O32 states it. -/
theorem regModify_spec {mb : Fin 6} {flags seq num a : Nat} {m v w : Word} {s : State} (ha : a < 2 ^ 32) (h4 : a % 4 = 0)
    (asks : s.Asks 0 mb 0x84 flags seq (leBytes 4 num ++ leBytes 4 a ++ leBytes 4 m.toNat ++ leBytes 4 v.toNat))
    (hq : quietWord a) (hc : cardReg a = false) (hw : w = ((BitVec.ofNat 32 (s.plainRead a) &&& ~~~m) ||| (v &&& m)))
    (hmax : 12 ≤ s.maxPay 0) :
    ∃ t u, exec (.regModify 0 mb) s = .next t ∧ exec (.registerWrite a w) s = .next u ∧
      u.performs t 0 mb 0x84 seq stOK 0 (leBytes 4 (s.plainRead a) ++ leBytes 4 (u.plainRead a)) := by
  have f := regModifyForm (num := num) ha m.isLt v.isLt
  generalize leBytes 4 num ++ leBytes 4 a ++ leBytes 4 m.toNat ++ leBytes 4 v.toNat = pl at asks f
  have hmod := regModify_quiet (s := s.opened 0 mb seq) f h4 hq hc
  have hm := quietWord_mbx hq
  rw [opened_plainRead _ _ _ _ hm.1, ← modified_toNat (s.plainRead_lt hq), ← hw] at hmod
  obtain ⟨hv, hmbx, hfw⟩ := busWrite_mailOnly (opened_mailOnly s 0 mb seq) hq w.toNat
  obtain ⟨-, -, hfw'⟩ := busWrite_mailOnly (mailOnly.refl s) hq w.toNat
  have hread : ((s.opened 0 mb seq).busWrite a w.toNat).plainRead a = (s.busWrite a w.toNat).plainRead a := by
    rw [plainRead, mailOnly_get hv hm.1 hm.2, plainRead]
  dsimp only at hmod
  rw [hread] at hmod
  exact ⟨_, _, rfl, rfl, serve_becomes asks _ rfl _ rfl (by decide) hmod (by simpa using hmax) hv
    (hfw.trans ((opened_fw ..).trans hfw'.symm)) hmbx⟩

end State
end Sys2Proof.Machine
end

section
/-! SUPPORT. MEM_READ and MEM_WRITE on DRAM, a fallback pattern SRAM and a chain frame memory (R142). -/

set_option Elab.async false

namespace Sys2Proof.Machine
open State

/-! ### Byte lists and words -/

theorem leBytes_leNat (bs : List Byte) : leBytes bs.length (leNat bs) = bs := by
  induction bs with
  | nil => rfl
  | cons b bs ih =>
    have hb := b.isLt
    have hdiv : (b.toNat + 256 * leNat bs) / 256 = leNat bs := by omega
    rw [List.length_cons, leNat, leBytes, hdiv, ih]
    congr 1
    refine BitVec.eq_of_toNat_eq ?_
    rw [BitVec.toNat_ofNat]
    omega

/-- A value of a sparse map after a write of successive values. -/
theorem sget_ssets {α : Type} [DecidableEq α] (d : Nat → α) (xs : List α) (m : Sparse α) (a x : Nat) (z : α) :
    sget d (ssets d m a xs) x = if a ≤ x ∧ x < a + xs.length then xs.getD (x - a) z else sget d m x := by
  split
  · rename_i h
    obtain ⟨i, rfl⟩ := Nat.exists_eq_add_of_le h.1
    have hi : i < xs.length := by omega
    rw [sget_ssets_in _ _ _ _ _ hi, Nat.add_sub_cancel_left, List.getD_eq_getElem _ _ hi]
  · exact sget_ssets_out _ _ _ _ _ (by omega)

/-- Four bytes at a time. -/
theorem words_sgets (d : Nat → Byte) (m : Sparse Byte) (k a : Nat) :
    ((List.range k).map fun i => leBytes 4 (leNat (sgets d m (a + 4 * i) 4))).flatten = sgets d m a (4 * k) := by
  induction k generalizing a with
  | zero => rfl
  | succ k ih =>
    have htail : (List.range k).map ((fun i => leBytes 4 (leNat (sgets d m (a + 4 * i) 4))) ∘ Nat.succ) =
        (List.range k).map fun i => leBytes 4 (leNat (sgets d m (a + 4 + 4 * i) 4)) :=
      List.map_congr_left fun i _ => by simp [Nat.mul_add, Nat.add_assoc, Nat.add_comm]
    rw [List.range_succ_eq_map, List.map_cons, List.map_map, List.flatten_cons, htail, ih (a + 4), Nat.mul_zero, Nat.add_zero]
    exact congrArg (· ++ sgets d m (a + 4) (4 * k)) (leBytes_leNat (sgets d m a 4))

/-! ### The request -/

/-- The payload of MEM_READ and of MEM_WRITE. -/
structure MemForm (pl : List Byte) (sp a len : Nat) (d : List Byte) : Prop where
  length : pl.length = 20 + d.length
  space : byteAt pl 4 = sp
  addr : le32 pl 8 + 2 ^ 32 * le32 pl 12 = a
  len : le16 pl 16 = len
  pad : zeroAt pl 5 3 = true
  tail : zeroAt pl 18 2 = true
  data : pl.drop 20 = d

theorem memForm {num sp a len : Nat} {d : List Byte} (hsp : sp < 256) (hlen : len < 2 ^ 16) :
    MemForm (leBytes 4 num ++ leBytes 1 sp ++ [0, 0, 0] ++ leBytes 8 a ++ leBytes 2 len ++ [0, 0] ++ d) sp (a % 2 ^ 64) len d where
  length := by simp; omega
  space := by simp [leBytes, byteAt]; omega
  addr := by simp [leBytes, le32, le16, byteAt]; omega
  len := by simp [leBytes, le16, byteAt]; omega
  pad := by simp [leBytes, zeroAt, slice]
  tail := by simp [leBytes, zeroAt, slice]
  data := List.drop_left' (by simp)

/-- The header passes its checks. -/
theorem memCheck_ok {pl d : List Byte} {sp a len : Nat} (f : MemForm pl sp a len d) (h4 : a % 4 = 0) (hl : len % 4 = 0)
    (h : sp = 0 ∧ wordsIn a (len / 4) = true ∨ 0 < sp ∧ sp ≤ 8 ∧ a + len ≤ spaceSize sp) : memCheck pl = stOK := by
  unfold memCheck
  dsimp only
  rw [f.space, f.addr, f.len, f.pad, f.tail]
  obtain ⟨rfl, hin⟩ | ⟨h0, h8, hsize⟩ := h
  · rw [if_neg (by simp [h4, hl]), if_pos rfl, if_pos hin]
  · rw [if_neg (by simp [h4, hl, h8]), if_neg (by omega), if_neg (by omega)]

namespace State

/-! ### DRAM -/

/-- Bytes of populated DRAM. -/
def dramBlock (s : State) (a len : Nat) : Prop := ∀ i, i < len → 0x100000000 ≤ a + i ∧ a + i < 0x500000000 ∧ s.dramHit (a + i) = true

theorem blockOf_dram {a : Nat} (h : 0x100000000 ≤ a) (h2 : a < 0x500000000) : blockOf a = some (15, 0x100000000) := by
  unfold blockOf
  rw [if_neg (by omega), if_neg (by omega), if_neg (by omega), if_neg (by omega), if_neg (by omega), if_neg (by omega), if_neg (by omega),
    if_neg (by omega), if_neg (by omega), if_neg (by omega), if_neg (by omega), if_neg (by omega), if_neg (by omega), if_neg (by omega),
    if_neg (by omega), if_neg (by omega), if_neg (by omega), if_neg (by omega), if_neg (by omega), if_neg (by omega), if_neg (by omega),
    if_neg (by omega), if_neg (by omega), if_pos h2]

theorem wordsIn_dram {s : State} {a len : Nat} (hl : len % 4 = 0) (h : s.dramBlock a len) : wordsIn a (len / 4) = true := by
  refine List.all_eq_true.mpr fun i hi => ?_
  have hi' := List.mem_range.mp hi
  obtain ⟨h1, h2, -⟩ := h (4 * i) (by omega)
  rw [inMap, blockOf_dram h1 h2]
  rfl

theorem busRead_dram (s : State) {a : Nat} (h1 : 0x100000000 ≤ a) (h2 : a < 0x500000000) (hh : s.dramHit a = true)
    (hp : s.poisoned a = false) : s.busRead a = (s, leNat (s.dread a 4), true) := by
  unfold busRead
  rw [blockOf_dram h1 h2]
  dsimp only
  rw [if_pos rfl, hh, hp]
  rfl

theorem memRead_dram {s : State} {pl d : List Byte} {a len : Nat} (f : MemForm pl 0 a len d) (hd : d = []) (h4 : a % 4 = 0)
    (hl : len % 4 = 0) (h : s.dramBlock a len) (hp : ∀ i, i < len → s.poisoned (a + i) = false) :
    s.memRead pl = ⟨s, stOK, 0, s.dread a len⟩ := by
  have hlen : pl.length = 20 := by rw [f.length, hd]; rfl
  have hw : readWords (len / 4) a s = (s, (List.range (len / 4)).map (fun i => leNat (s.dread (a + 4 * i) 4)), true) :=
    readWords_eq (f := fun x => leNat (s.dread x 4)) _ _ fun i hi => by
      obtain ⟨h1, h2, h3⟩ := h (4 * i) (by omega)
      exact s.busRead_dram h1 h2 h3 (hp _ (by omega))
  have hdata : (((List.range (len / 4)).map (fun i => leNat (s.dread (a + 4 * i) 4))).map fun v => leBytes 4 v).flatten = s.dread a len := by
    rw [List.map_map]
    exact (words_sgets memReset s.dram (len / 4) a).trans (congrArg (sgets memReset s.dram a) (by omega))
  unfold memRead
  dsimp only
  rw [hlen, memCheck_ok f h4 hl (.inl ⟨rfl, wordsIn_dram hl h⟩), f.space, f.addr, f.len, if_neg (by decide), if_neg (by decide),
    if_pos rfl, hw, if_pos rfl, hdata]

/-- A write to DRAM changes DRAM and the poison of its bursts, and nothing else that the statements name. -/
structure DramWrite (s t : State) (a : Nat) (bs : List Byte) : Prop where
  dram : t.dram = ssets memReset s.dram a bs
  regs : t.regs = s.regs
  lec : t.lec = s.lec
  fw : t.fw = s.fw
  mbx : t.mbx = s.mbx

/-- Poison of the bursts that a write covers goes; nothing else changes. -/
theorem clearPoison_kept (keep : Nat → Bool) (l : List (Fin 2)) (s : State) :
    let t := l.foldl (fun (s : State) c => if (s.dmc.get c).poison.isEmpty then s
      else s.modDmc c fun d => { d with poison := skeep keep d.poison }) s
    t.dram = s.dram ∧ t.regs = s.regs ∧ t.lec = s.lec ∧ t.fw = s.fw ∧ t.mbx = s.mbx := by
  induction l generalizing s with
  | nil => exact ⟨rfl, rfl, rfl, rfl, rfl⟩
  | cons c l ih =>
    rw [List.foldl_cons]
    split
    · exact ih s
    · obtain ⟨h1, h2, h3, h4, h5⟩ := ih (s.modDmc c fun d => { d with poison := skeep keep d.poison })
      exact ⟨h1.trans (by simp), h2.trans (by simp), h3.trans (by simp), h4.trans (by simp), h5.trans (by simp)⟩

/-- One word of populated DRAM lies in one burst of it. -/
theorem dramIn_word {s : State} {a : Nat} (h4 : a % 4 = 0) (h : s.dramHit a = true) : s.dramIn a 4 = true := by
  have hb : burstsOf a 4 = [a / 64 * 64] := by
    have hceil : ceilDiv (a + 4 - a / 64 * 64) 64 = 1 := by unfold ceilDiv; omega
    unfold burstsOf
    dsimp only
    rw [hceil]
    simp
  have hch : dramCh (a / 64 * 64) = dramCh a := by
    unfold dramCh
    congr 1
    omega
  have hhit : s.dramHit (a / 64 * 64) = true := by
    simp only [dramHit, Bool.and_eq_true, decide_eq_true_eq] at h ⊢
    rw [hch]
    omega
  rw [dramIn, hb, List.all_cons, hhit]
  simp

theorem dramBytes_congr {s t : State} (h : t.regs = s.regs) (c : Fin 2) : t.dramBytes c = s.dramBytes c := by
  have hr : ∀ f : Fld, t.rd f = s.rd f := fun f => rd_congr (get_congr h _)
  rw [dramBytes, dramBytes, on_congr (hr _), hr, hr]

theorem dramHit_congr {s t : State} (h : t.regs = s.regs) : t.dramHit = s.dramHit := by
  funext x
  rw [dramHit, dramHit, dramBytes_congr h]

theorem dramIn_congr {s t : State} (h : t.regs = s.regs) (a k : Nat) : t.dramIn a k = s.dramIn a k := by
  rw [dramIn, dramIn, dramBytes_congr h, dramBytes_congr h, dramHit_congr h]

/-- A write of a port to populated DRAM. -/
theorem portWrite_in {s : State} (port : Nat) {a : Nat} {bs : List Byte} (h : s.dramIn a bs.length = true) :
    DramWrite s (s.portWrite port a bs) a bs := by
  obtain ⟨h1, h2, h3, h5, h6⟩ := clearPoison_kept (fun b => !decide (a ≤ 64 * b ∧ 64 * b + 64 ≤ a + bs.length)) [0, 1] s
  unfold portWrite
  dsimp only
  generalize ([0, 1] : List (Fin 2)).foldl _ s = t at *
  rw [if_pos ((dramIn_congr h2 ..).trans h)]
  exact ⟨congrArg (fun m => ssets memReset m a bs) h1, h2, h3, h5, h6⟩

theorem busWrite_dram {s : State} {a v : Nat} (h1 : 0x100000000 ≤ a) (h2 : a < 0x500000000) (h4 : a % 4 = 0) (h : s.dramHit a = true) :
    DramWrite s (s.busWrite a v) a (leBytes 4 v) := by
  have e : s.busWrite a v = s.portWrite 10 a (leBytes 4 v) := by
    unfold busWrite
    rw [blockOf_dram h1 h2]
    rfl
  rw [e]
  exact portWrite_in 10 ((congrArg (s.dramIn a) (leBytes_length 4 v)).trans (dramIn_word h4 h))

theorem DramWrite.block {s t : State} {a : Nat} {bs : List Byte} (h : DramWrite s t a bs) {x len : Nat} (k : s.dramBlock x len) :
    t.dramBlock x len := fun i hi => by
  obtain ⟨h1, h2, h3⟩ := k i hi
  exact ⟨h1, h2, (congrFun (dramHit_congr h.regs) _).trans h3⟩

/-- Words of DRAM written one after another are its bytes. -/
theorem writeWords_dram : ∀ (k a : Nat) (d : List Byte) (s : State), d.length = 4 * k → a % 4 = 0 → s.dramBlock a d.length →
    DramWrite s (writeWords (wordsOf d) a s) a d
  | 0, a, d, s, hd, _, _ => by
    obtain rfl := List.length_eq_zero_iff.mp hd
    exact ⟨rfl, rfl, rfl, rfl, rfl⟩
  | k + 1, a, d, s, hd, h4, h => by
    match d, hd, h with
    | x :: y :: z :: w :: ds, hd, h =>
      obtain ⟨h1, h2, h3⟩ := h 0 (Nat.succ_pos _)
      rw [Nat.add_zero] at h1 h2 h3
      have hw := busWrite_dram (v := leNat [x, y, z, w]) h1 h2 h4 h3
      have hb : leBytes 4 (leNat [x, y, z, w]) = [x, y, z, w] := leBytes_leNat [x, y, z, w]
      rw [hb] at hw
      have hrest : s.dramBlock (a + 4) ds.length := fun i hi => by
        have := h (4 + i) (by simp only [List.length_cons]; omega)
        rwa [show a + (4 + i) = a + 4 + i by omega] at this
      obtain ⟨k1, k2, k3, k4, k5⟩ := writeWords_dram k (a + 4) ds (s.busWrite a (leNat [x, y, z, w]))
        (by simp only [List.length_cons] at hd; omega) (by omega) (hw.block hrest)
      refine ⟨k1.trans ?_, k2.trans hw.regs, k3.trans hw.lec, k4.trans hw.fw, k5.trans hw.mbx⟩
      rw [hw.dram]
      rfl

/-- A write of whole words of DRAM. -/
theorem memWrite_dram {s : State} {pl d : List Byte} {a : Nat} (f : MemForm pl 0 a d.length d) (h4 : a % 4 = 0) (hl : d.length % 4 = 0)
    (h : s.dramBlock a d.length) : s.memWrite pl = ⟨writeWords (wordsOf d) a s, stOK, 0, []⟩ := by
  have hkept : wordsKept a (d.length / 4) = false := List.any_eq_false.mpr fun i hi => by
    obtain ⟨h1, -, -⟩ := h (4 * i) (by have := List.mem_range.mp hi; omega)
    by_cases hk : (cpuOnly (a + 4 * i) || cardReg (a + 4 * i)) = true
    · obtain ⟨id, hb⟩ := Option.isSome_iff_exists.mp (inMap_of_kept hk)
      simp only [cpuOnly, cardReg, Bool.or_eq_true, beq_iff_eq, List.any_eq_true, List.mem_range] at hk
      unfold R.SYS_MODE_CTRL R.RST_DEVICE R.RST_WDT_KICK R.CAL_Ii_CARD R.CAL_Ii_QUAL R.CAL_Ii_TAP R.CAL_Ii_TIME at hk
      omega
    · exact hk
  unfold memWrite
  dsimp only
  rw [f.length, memCheck_ok f h4 hl (.inl ⟨rfl, wordsIn_dram hl h⟩), f.space, f.addr, f.len, f.data, if_neg (by simp), if_neg (by decide),
    if_pos rfl, hkept, if_neg (by decide)]

/-! ### The pattern SRAM and the chain frame memory -/

theorem memRead_sram {s : State} {pl d : List Byte} {a len : Nat} {n : Fin 4} (f : MemForm pl (1 + n.val) a len d) (hd : d = [])
    (h4 : a % 4 = 0) (hl : len % 4 = 0) (h : a + len ≤ 0x40000) :
    s.memRead pl = ⟨s, stOK, 0, sgets memReset (s.ch n).sram a len⟩ := by
  have hlen : pl.length = 20 := by rw [f.length, hd]; rfl
  have hn := n.isLt
  have hok := memCheck_ok f h4 hl (.inr ⟨by omega, by omega, by unfold spaceSize; rw [if_pos (by omega)]; exact h⟩)
  have hc : chan (1 + n.val - 1) = n := by rw [Nat.add_sub_cancel_left, chan_val]
  unfold memRead
  dsimp only
  rw [hlen, hok, f.space, f.addr, f.len, if_neg (by decide), if_neg (by decide), if_neg (by omega), if_pos (by omega), hc]

theorem memRead_chain {s : State} {pl d : List Byte} {a len : Nat} {n : Fin 4} (f : MemForm pl (5 + n.val) a len d) (hd : d = [])
    (h4 : a % 4 = 0) (hl : len % 4 = 0) (h : a + len ≤ 0x8000) :
    s.memRead pl = ⟨s, stOK, 0, sgets memReset (s.cn n).mem a len⟩ := by
  have hlen : pl.length = 20 := by rw [f.length, hd]; rfl
  have hn := n.isLt
  have hok := memCheck_ok f h4 hl (.inr ⟨by omega, by omega, by unfold spaceSize; rw [if_neg (by omega)]; exact h⟩)
  have hc : chan (5 + n.val - 5) = n := by rw [Nat.add_sub_cancel_left, chan_val]
  unfold memRead
  dsimp only
  rw [hlen, hok, f.space, f.addr, f.len, if_neg (by decide), if_neg (by decide), if_neg (by omega), if_neg (by omega), hc]

theorem memWrite_sram {s : State} {pl d : List Byte} {a : Nat} {n : Fin 4} (f : MemForm pl (1 + n.val) a d.length d) (h4 : a % 4 = 0)
    (hl : d.length % 4 = 0) (h : a + d.length ≤ 0x40000) :
    s.memWrite pl = if s.showsPattern n then refuse s stBUSY 0 else ⟨if s.bistOn 2 n then s else s.sramWrite n a d, stOK, 0, []⟩ := by
  have hn := n.isLt
  have hok := memCheck_ok f h4 hl (.inr ⟨by omega, by omega, by unfold spaceSize; rw [if_pos (by omega)]; exact h⟩)
  have hc : chan (1 + n.val - 1) = n := by rw [Nat.add_sub_cancel_left, chan_val]
  unfold memWrite
  dsimp only
  rw [f.length, hok, f.space, f.addr, f.len, f.data, if_neg (by simp), if_neg (by decide), if_neg (by omega), if_pos (by omega), hc]

theorem memWrite_chain {s : State} {pl d : List Byte} {a : Nat} {n : Fin 4} (f : MemForm pl (5 + n.val) a d.length d) (h4 : a % 4 = 0)
    (hl : d.length % 4 = 0) (h : a + d.length ≤ 0x8000) : s.memWrite pl = ⟨s.chainWrite n a d, stOK, 0, []⟩ := by
  have hn := n.isLt
  have hok := memCheck_ok f h4 hl (.inr ⟨by omega, by omega, by unfold spaceSize; rw [if_neg (by omega)]; exact h⟩)
  have hc : chan (5 + n.val - 5) = n := by rw [Nat.add_sub_cancel_left, chan_val]
  unfold memWrite
  dsimp only
  rw [f.length, hok, f.space, f.addr, f.len, f.data, if_neg (by simp), if_neg (by decide), if_neg (by omega), if_neg (by omega), hc]

/-- Bytes stored in a chain frame memory one after another. -/
theorem chainStore_fold (n : Fin 4) (a : Nat) : ∀ (d : List Byte) (k : Nat) (s : State),
    let t := (d.zipIdx k).foldl (fun (s : State) q => s.modChn n fun c => { c with mem := sset memReset c.mem (a + q.2) q.1 }) s
    (t.cn n).mem = ssets memReset (s.cn n).mem (a + k) d ∧ t.regs = s.regs ∧ t.dram = s.dram ∧ t.fw = s.fw ∧ t.mbx = s.mbx
  | [], _, _ => ⟨rfl, rfl, rfl, rfl, rfl⟩
  | b :: d, k, s => by
    obtain ⟨h1, h2, h3, h4, h5⟩ := chainStore_fold n a d (k + 1) (s.modChn n fun c => { c with mem := sset memReset c.mem (a + k) b })
    refine ⟨h1.trans ?_, h2.trans (by simp [modChn]), h3.trans (by simp [modChn]), h4.trans (by simp [modChn]), h5.trans (by simp [modChn])⟩
    simp [cn, modChn, ssets, Nat.add_assoc]

/-- A write of a chain frame memory that no self-test holds, of a port that is off. -/
theorem chainWrite_spec {s : State} {n : Fin 4} (he : s.on (F.CHN_CTRL_EN n) = false) (hb : s.bistOn 1 n = false) (a : Nat) (d : List Byte) :
    ((s.chainWrite n a d).cn n).mem = ssets memReset (s.cn n).mem a d ∧ (s.chainWrite n a d).regs = s.regs ∧
      (s.chainWrite n a d).dram = s.dram ∧ (s.chainWrite n a d).fw = s.fw ∧ (s.chainWrite n a d).mbx = s.mbx := by
  have hshut : ((List.range d.length).any fun i => false) = false := by simp
  unfold chainWrite
  simp only [he, hb, Bool.false_and, Bool.or_false, hshut]
  exact chainStore_fold n a d 0 s

/-- A write of a pattern SRAM; the pattern is judged again. -/
theorem sramWrite_spec (s : State) (n : Fin 4) (a : Nat) (d : List Byte) :
    ((s.sramWrite n a d).ch n).sram = ssets memReset (s.ch n).sram a d ∧ s.regsKeep (s.sramWrite n a d) [R.CMP_STATUS n] ∧
      (s.sramWrite n a d).dram = s.dram ∧ (s.sramWrite n a d).fw = s.fw ∧ (s.sramWrite n a d).mbx = s.mbx := by
  unfold sramWrite patternCheck
  refine ⟨by simp, fun x hx => ?_, by simp, by simp, by simp⟩
  have hne : x ≠ R.CMP_STATUS n := by simpa using hx
  exact (get_wrB_ne _ _ hne).trans (modCh_get ..)

/-! ### The commands -/

theorem opened_dramHit (s : State) (p : Fin 3) (mb : Fin 6) (q x : Nat) : (s.opened p mb q).dramHit x = s.dramHit x := by
  have h : ∀ c lo w, (s.opened p mb q).rd ⟨R.DMC_CFG c, lo, w⟩ = s.rd ⟨R.DMC_CFG c, lo, w⟩ := fun c lo w =>
    opened_rd _ _ _ _ (show R.DMC_CFG c ≠ _ by unfold R.DMC_CFG dmcBase R.MBX_HSTAT; omega)
  unfold dramHit dramBytes on F.DMC_CFG_X16 F.DMC_CFG_DENSITY F.DMC_CFG_RANKS2
  rw [h, h, h]

theorem opened_dramBlock (s : State) (p : Fin 3) (mb : Fin 6) (q : Nat) {a len : Nat} (h : s.dramBlock a len) :
    (s.opened p mb q).dramBlock a len := fun i hi => by
  rw [opened_dramHit]
  exact h i hi

theorem opened_showsPattern (s : State) (p : Fin 3) (mb : Fin 6) (q : Nat) (n : Fin 4) : (s.opened p mb q).showsPattern n = s.showsPattern n := by
  unfold showsPattern
  rw [opened_ch, on_congr (opened_windowFld s p mb q (f := F.LEC_STATUS_RUNNING n) (Nat.le_add_right ..)),
    on_congr (opened_windowFld s p mb q (f := F.BPF_SRCSEL_PATTERN n) (Nat.le_add_right ..))]

/-- An address of DRAM fits the 8 bytes of the request, unless nothing is named. -/
theorem dramAddr {a len : Nat} (h : ∀ i, i < len → a + i < 0x500000000) : len = 0 ∨ a % 2 ^ 64 = a := by
  by_cases h0 : len = 0
  · exact .inl h0
  · have := h 0 (by omega)
    exact .inr (Nat.mod_eq_of_lt (by omega))

/-- What the request names of DRAM, as the request's address has it. -/
theorem dramNamed {s : State} {a len : Nat} (h0 : 0x100000000 ≤ a) (h : ∀ i, i < len → a + i < 0x500000000 ∧ s.dramHit (a + i) = true) :
    s.dramBlock (a % 2 ^ 64) len := fun i hi => by
  obtain hl | he := dramAddr fun i hi => (h i hi).1
  · omega
  · rw [he]
    exact ⟨by omega, h i hi⟩

/-- MEM_READ, as O32 states it. -/
theorem memRead_spec {mb : Fin 6} {flags seq a len sp : Nat} {pl : List Byte} {n : Fin 4} {s : State}
    (asks : s.Asks 0 mb 0x85 flags seq pl) (f : sp < 256 → MemForm pl sp (a % 2 ^ 64) len []) (h4 : a % 4 = 0) (hl : len % 4 = 0)
    (hmax : 4 + len ≤ s.maxPay 0) :
    ∃ t, exec (.memRead 0 mb) s = .next t ∧
      ((sp = 0 ∧ 0x100000000 ≤ a ∧ ∀ i, i < len → a + i < 0x500000000 ∧ s.dramHit (a + i) = true) →
        (∀ i, i < len → s.poisoned (a + i) = false) → s.performs t 0 mb 0x85 seq stOK 0 (s.dread a len)) ∧
      ((sp = 1 + n.val ∧ a + len ≤ 0x40000) → s.performs t 0 mb 0x85 seq stOK 0 (sgets memReset (s.ch n).sram a len)) ∧
      ((sp = 5 + n.val ∧ a + len ≤ 0x8000) → s.performs t 0 mb 0x85 seq stOK 0 (sgets memReset (s.cn n).mem a len)) := by
  have h4' : a % 2 ^ 64 % 4 = 0 := by omega
  have hn := n.isLt
  refine ⟨_, rfl, ?_, ?_, ?_⟩
  · rintro ⟨rfl, h0, h⟩ hp
    have hread : (s.opened 0 mb seq).dread (a % 2 ^ 64) len = s.dread a len := by
      rw [dread, opened_dram, dread]
      obtain rfl | he := dramAddr fun i hi => (h i hi).1
      · rfl
      · rw [he]
    have hpoison : ∀ i, i < len → (s.opened 0 mb seq).poisoned (a % 2 ^ 64 + i) = false := fun i hi => by
      obtain rfl | he := dramAddr fun i hi => (h i hi).1
      · nomatch hi
      · rw [he, poisoned, opened_dmc]
        exact hp i hi
    have hr := memRead_dram (f (by decide)) rfl h4' hl (opened_dramBlock s 0 mb seq (dramNamed h0 h)) hpoison
    exact query_says asks _ rfl _ rfl (hr.trans (by rw [hread])) (by rw [dread, sgets_length]; omega)
  · rintro ⟨rfl, h⟩
    have hr := memRead_sram (s := s.opened 0 mb seq) (f (by omega)) rfl h4' hl (by omega)
    rw [Nat.mod_eq_of_lt (by omega), opened_ch] at hr
    exact query_says asks _ rfl _ rfl hr (by rw [sgets_length]; omega)
  · rintro ⟨rfl, h⟩
    have hr := memRead_chain (s := s.opened 0 mb seq) (f (by omega)) rfl h4' hl (by omega)
    rw [Nat.mod_eq_of_lt (by omega), cn, opened_ch] at hr
    exact query_says asks _ rfl _ rfl hr (by rw [sgets_length]; omega)

/-- MEM_WRITE, as O32 states it. -/
theorem memWrite_spec {mb : Fin 6} {flags seq a sp : Nat} {pl d : List Byte} {n : Fin 4} {s : State}
    (asks : s.Asks 0 mb 0x86 flags seq pl) (f : sp < 256 → MemForm pl sp (a % 2 ^ 64) d.length d) (h4 : a % 4 = 0)
    (hl : d.length % 4 = 0) (hroom : 4 ≤ s.maxPay 0) :
    ∃ t, exec (.memWrite 0 mb) s = .next t ∧
      ((sp = 0 ∧ 0x100000000 ≤ a ∧ ∀ i, i < d.length → a + i < 0x500000000 ∧ s.dramHit (a + i) = true) →
        t.answered 0 mb 0x86 seq stOK 0 [] ∧ s.regsKeep t [R.MBX_HSTAT, R.MBX_IRQ_STATUS] ∧ t.lec = s.lec ∧ t.fw = s.fw ∧
          ∀ x, t.dbyte x = if a ≤ x ∧ x < a + d.length then d.getD (x - a) 0 else s.dbyte x) ∧
      ((sp = 1 + n.val ∧ a + d.length ≤ 0x40000) → s.showsPattern n = true → s.performs t 0 mb 0x86 seq stBUSY 0 []) ∧
      ((sp = 1 + n.val ∧ a + d.length ≤ 0x40000) → s.showsPattern n = false → s.bistOn 2 n = false →
        t.answered 0 mb 0x86 seq stOK 0 [] ∧ t.dram = s.dram ∧ t.fw = s.fw ∧
          s.regsKeep t [R.MBX_HSTAT, R.MBX_IRQ_STATUS, R.CMP_STATUS n] ∧
          ∀ x, sget memReset (t.ch n).sram x = if a ≤ x ∧ x < a + d.length then d.getD (x - a) 0 else sget memReset (s.ch n).sram x) ∧
      ((sp = 5 + n.val ∧ a + d.length ≤ 0x8000) → s.on (F.CHN_CTRL_EN n) = false → s.bistOn 1 n = false →
        t.answered 0 mb 0x86 seq stOK 0 [] ∧ t.dram = s.dram ∧ t.fw = s.fw ∧ s.regsKeep t [R.MBX_HSTAT, R.MBX_IRQ_STATUS] ∧
          ∀ x, sget memReset (t.cn n).mem x = if a ≤ x ∧ x < a + d.length then d.getD (x - a) 0 else sget memReset (s.cn n).mem x) := by
  have h4' : a % 2 ^ 64 % 4 = 0 := by omega
  have hn := n.isLt
  refine ⟨_, rfl, ?_, ?_, ?_, ?_⟩
  · rintro ⟨rfl, h0, h⟩
    have hb := opened_dramBlock s 0 mb seq (dramNamed h0 h)
    obtain ⟨hd, hregs, hlec, hfw, hmbx⟩ := writeWords_dram (d.length / 4) _ d _ (by omega) h4' hb
    obtain ⟨hans, hkeep, hf⟩ := serve_performs asks (· == 0x86) rfl (fun s _ pl => s.memWrite pl) rfl (by decide) rfl (memWrite_dram (f (by decide)) h4' hl hb) (by decide) hroom
      (port_seqs_of_mbx hmbx 0)
    refine ⟨hans, fun x hx => ?_, ?_, hf.trans (hfw.trans (opened_fw ..)), fun x => ?_⟩
    · rw [hkeep.regs x hx, get_congr hregs, opened_get _ _ _ _ fun e => hx (by simp [e])]
    · rw [hkeep.lec, hlec, opened_lec]
    · rw [dbyte, hkeep.dram, hd, sget_ssets (z := 0), opened_dram, dbyte]
      obtain h00 | he := dramAddr fun i hi => (h i hi).1
      · rw [if_neg (by omega), if_neg (by omega)]
      · rw [he]
  · rintro ⟨rfl, h⟩ hs
    have hw := memWrite_sram (s := s.opened 0 mb seq) (f (by omega)) h4' hl (by omega)
    rw [opened_showsPattern, if_pos hs] at hw
    exact serve_refused asks _ rfl _ rfl (by decide) hroom (by decide) hw
  · rintro ⟨rfl, h⟩ hs hb
    have hw := memWrite_sram (s := s.opened 0 mb seq) (f (by omega)) h4' hl (by omega)
    have hb' : (s.opened 0 mb seq).bistOn 2 n = false := by rw [bistOn, opened_tap]; exact hb
    rw [opened_showsPattern, hs, hb', if_neg (by decide), if_neg (by decide), Nat.mod_eq_of_lt (by omega)] at hw
    obtain ⟨hsram, hregs, hdram, hfw, hmbx⟩ := sramWrite_spec (s.opened 0 mb seq) n a d
    obtain ⟨hans, hkeep, hf⟩ := serve_performs asks (· == 0x86) rfl (fun s _ pl => s.memWrite pl) rfl (by decide) rfl hw (by decide) hroom (port_seqs_of_mbx hmbx 0)
    refine ⟨hans, hkeep.dram.trans (hdram.trans (opened_dram ..)), hf.trans (hfw.trans (opened_fw ..)), fun x hx => ?_, fun x => ?_⟩
    · simp only [List.mem_cons, List.not_mem_nil, or_false, not_or] at hx
      obtain ⟨h1, h2, h3⟩ := hx
      rw [mailOnly_get hkeep h1 h2, hregs x (by simpa using h3), opened_get _ _ _ _ h1]
    · rw [ch, hkeep.lec, ← ch, hsram, sget_ssets (z := 0), opened_ch]
  · rintro ⟨rfl, h⟩ he hb
    have hw := memWrite_chain (s := s.opened 0 mb seq) (f (by omega)) h4' hl (by omega)
    rw [Nat.mod_eq_of_lt (by omega)] at hw
    have hb' : (s.opened 0 mb seq).bistOn 1 n = false := by rw [bistOn, opened_tap]; exact hb
    have he' : (s.opened 0 mb seq).on (F.CHN_CTRL_EN n) = false :=
      (on_congr (opened_windowFld s 0 mb seq (f := F.CHN_CTRL_EN n) (Nat.le_add_right ..))).trans he
    obtain ⟨hmem, hregs, hdram, hfw, hmbx⟩ := chainWrite_spec he' hb' a d
    obtain ⟨hans, hkeep, hf⟩ := serve_performs asks (· == 0x86) rfl (fun s _ pl => s.memWrite pl) rfl (by decide) rfl hw (by decide) hroom (port_seqs_of_mbx hmbx 0)
    refine ⟨hans, hkeep.dram.trans (hdram.trans (opened_dram ..)), hf.trans (hfw.trans (opened_fw ..)), fun x hx => ?_, fun x => ?_⟩
    · rw [hkeep.regs x hx, get_congr hregs, opened_get _ _ _ _ fun e => hx (by simp [e])]
    · rw [cn, ch, hkeep.lec, ← ch, ← cn, hmem, sget_ssets (z := 0), cn, opened_ch, ← cn]

end State

/-- Settles O32: a word of AON or CAL is written alike with the message taken, and bytes go to their memory in order. -/
theorem registerAndMemoryCommands : Obligations.RegisterAndMemoryCommands := by
  refine ⟨fun mb flags seq num a s _ ha h4 => ⟨fun k asks hk hmax hk2 => regRead_spec ha h4 asks hk hmax hk2, fun v asks => regWrite_spec ha h4 asks,
    fun m v w asks hq hc hw hmax => regModify_spec ha h4 asks hq hc hw hmax⟩,
    fun mb flags seq num a len sp d n s _ hlen hl h4 hd => ⟨fun asks hmax => ?_, fun asks => ?_⟩⟩
  · have f := fun hsp : sp < 256 => memForm (num := num) (a := a) (d := []) hsp hlen
    rw [List.append_nil] at f
    exact memRead_spec asks f h4 hl hmax
  · subst hd
    exact memWrite_spec asks (fun hsp => memForm hsp hlen) h4 hl (asks.roomFor (by simp))

end Sys2Proof.Machine
end

section
/-! SUPPORT. Holds, pattern runs and training steps of a DRAM channel (R146, R369, R371). -/

set_option Elab.async false

namespace Sys2Proof.Machine
open State
namespace State

/-! ### What the controllers leave alone -/

/-- The channels and the mailboxes stay, and under `d` DRAM too. -/
structure DmcKept (d : Prop) (s t : State) : Prop where
  lec : t.lec = s.lec
  mbx : t.mbx = s.mbx
  dram : d → t.dram = s.dram

namespace DmcKept
variable {d : Prop} {s t u : State}

theorem refl (s : State) : DmcKept d s s := ⟨rfl, rfl, fun _ => rfl⟩
theorem trans (h : DmcKept d s t) (k : DmcKept d t u) : DmcKept d s u :=
  ⟨k.lec.trans h.lec, k.mbx.trans h.mbx, fun x => (k.dram x).trans (h.dram x)⟩
theorem ite {c : Prop} {_ : Decidable c} (h : DmcKept d s t) (k : DmcKept d s u) : DmcKept d s (if c then t else u) := by
  split
  · exact h
  · exact k
theorem foldl {α : Type} {l : List α} {f : State → α → State} (h : DmcKept d s t) (k : ∀ u x, DmcKept d s u → DmcKept d s (f u x)) :
    DmcKept d s (l.foldl f t) := by
  induction l generalizing t with
  | nil => exact h
  | cons x l ih => exact ih (k t x h)
/-- A change of registers, of firmware's data or of a controller. -/
theorem other (h : DmcKept d s t) (hl : u.lec = t.lec := by exact rfl) (hm : u.mbx = t.mbx := by exact rfl)
    (hd : u.dram = t.dram := by exact rfl) : DmcKept d s u := h.trans ⟨hl, hm, fun _ => hd⟩
theorem wr (h : DmcKept d s t) {f : Fld} {v : Nat} : DmcKept d s (t.wr f v) := h.other
theorem put (h : DmcKept d s t) {a v : Nat} : DmcKept d s (t.put a v) := h.other
theorem incWrap (h : DmcKept d s t) {f : Fld} : DmcKept d s (t.incWrap f) := h.other
theorem modDmc (h : DmcKept d s t) {c : Fin 2} {f : DmcRun → DmcRun} : DmcKept d s (t.modDmc c f) := h.other
theorem modFw (h : DmcKept d s t) {f : Fw → Fw} : DmcKept d s (t.modFw f) := h.other
theorem nextFree (h : DmcKept d s t) : DmcKept d s t.nextFree := h.other

theorem takeIn (h : DmcKept d s t) {ch : Fin 2} : DmcKept d s (t.takeIn ch) := by
  unfold State.takeIn
  exact ite h h.modDmc
theorem deliver (h : DmcKept d s t) : DmcKept d s t.deliver := h.foldl fun _ _ h => h.modDmc
theorem drain (h : DmcKept d s t) {ch : Fin 2} : DmcKept d s (t.drain ch) := h.modDmc.deliver
theorem srEnter (h : DmcKept d s t) {ch : Fin 2} {st : Nat} : DmcKept d s (t.srEnter ch st) := by
  unfold State.srEnter
  exact ite h.drain.wr h.drain.wr.incWrap
theorem csiClk (h : DmcKept d s t) {rx : Fin 2} {on : Bool} : DmcKept d s (t.csiClk rx on) := by
  obtain ⟨r, y, e⟩ := (SysParts.refl t).setClks (lo := (sysDoms rx.val).1) (hi := (sysDoms rx.val).2) (on := on)
  unfold State.csiClk
  rw [e]
  exact h.other
theorem csiEnable (h : DmcKept d s t) : DmcKept d s t.csiEnable :=
  h.foldl fun _ _ h => ite h.wr.wr.csiClk (ite h.wr.csiClk h)
theorem dmcRun (h : DmcKept d s t) {ch : Fin 2} : DmcKept d s (t.dmcRun ch) := h.wr.wr.wr.wr.takeIn.csiEnable
theorem writeDelay (h : DmcKept d s t) {f : Fld} {tap : Nat} : DmcKept d s (t.writeDelay f tap) := h.wr
theorem trainLane (h : DmcKept d s t) {ch : Fin 2} {r l step : Nat} : DmcKept d s (t.trainLane ch r l step) :=
  (h.foldl fun _ _ h => h.nextFree.modFw.writeDelay).nextFree
theorem trainStore (h : DmcKept d s t) : DmcKept d s t.trainStore := by
  unfold State.trainStore
  dsimp only
  split
  · exact h.modFw
  · exact h.modFw
theorem dramFree (h : DmcKept d s t) {a k : Nat} (hd : ¬ d) : DmcKept d s (t.dramFree a k) :=
  h.trans ⟨rfl, rfl, fun x => absurd x hd⟩
theorem trainArea (h : DmcKept d s t) {ch : Fin 2} {rank : Nat} (hd : ¬ d) : DmcKept d s (t.trainArea ch rank) :=
  h.foldl fun _ _ h => h.dramFree hd
theorem dramLost (h : DmcKept d s t) {ch : Fin 2} (hd : ¬ d) : DmcKept d s (t.dramLost ch) :=
  h.trans ⟨rfl, rfl, fun x => absurd x hd⟩

end DmcKept

/-- The words of a controller and its PHY are not those that all channels share. -/
theorem dmc_not_shared {ch : Fin 2} {x : Nat} (h : dmcBase ch ≤ x) : mayTouch [] x = false := by
  unfold dmcBase at h
  simp only [mayTouch, List.any_nil, Bool.or_false]
  exact decide_eq_false (by omega)

/-- The receivers' clocks do not reach the controllers. -/
theorem csiEnable_dmc (s : State) {ch : Fin 2} {f : Fld} (h : dmcBase ch ≤ f.addr) : s.csiEnable.rd f = s.rd f :=
  (Within.refl (cs := []) s).csiEnable.rd (dmc_not_shared h)

theorem takeIn_rd (s : State) (ch : Fin 2) (f : Fld) : (s.takeIn ch).rd f = s.rd f := by
  unfold takeIn
  split
  · rfl
  · simp

theorem drain_rd (s : State) (ch : Fin 2) (f : Fld) : (s.drain ch).rd f = s.rd f := by
  have hd : ∀ u : State, u.deliver.rd f = u.rd f := fun u =>
    foldl_keeps (fun v => v.rd f) (fun v c => by simp) _ u
  rw [drain, hd, modDmc_rd]

/-! ### DMC_CTRL (R369) -/

theorem bits_one_ne_zero (v i : Nat) : (bits v i 1 != 0) = bit v i := by
  have h : v / 2 ^ i % 2 ^ 1 < 2 := Nat.mod_lt _ (by decide)
  rw [bits, bit, pow_one] at *
  obtain h0 | h1 : v / 2 ^ i % 2 = 0 ∨ v / 2 ^ i % 2 = 1 := by omega
  · rw [h0]; rfl
  · rw [h1]; rfl

/-- The row of DMC_CTRL. -/
def dmcCtrlRow : RegSpec := ⟨"DMC_CTRL", 0, [], [⟨0, 0, .rw, 0⟩, ⟨1, 1, .rw, 0⟩]⟩

theorem specAt_dmcCtrl (ch : Fin 2) : specAt (R.DMC_CTRL ch) = some dmcCtrlRow := by
  decide +revert

/-- The state in which the channel acts on a write of DMC_CTRL. -/
def ctrlWritten (s : State) (ch : Fin 2) (v : Nat) : State := (s.plainWrite (R.DMC_CTRL ch) v).csiEnable

theorem ctrlWritten_spec (s : State) (ch : Fin 2) (v : Nat) : let u := s.ctrlWritten ch v
    u.on (F.DMC_CTRL_RUN ch) = bit v 0 ∧ u.on (F.DMC_CTRL_HOLD_SR ch) = bit v 1 ∧
      (∀ f : Fld, dmcBase ch < f.addr → u.rd f = s.rd f) ∧ DmcKept True s u := by
  have hrw : rwOnly (R.DMC_CTRL ch) = true := by
    rw [rwOnly, specAt_dmcCtrl]
    rfl
  have hw : s.rwWord (R.DMC_CTRL ch) v = dmcCtrlRow.fields.foldl (writeField true v) (s.get (R.DMC_CTRL ch)) := by
    rw [rwWord, specAt_dmcCtrl]
  have hp : s.plainWrite (R.DMC_CTRL ch) v = s.put (R.DMC_CTRL ch) (dmcCtrlRow.fields.foldl (writeField true v) (s.get (R.DMC_CTRL ch))) := by
    rw [plainWrite_rw s hrw, hw]
  have hbit : ∀ g ∈ dmcCtrlRow.fields, ∀ i, g = ⟨i, i, .rw, 0⟩ →
      (s.plainWrite (R.DMC_CTRL ch) v).csiEnable.on ⟨R.DMC_CTRL ch, i, 1⟩ = bit v i := fun g hg i hi => by
    have hb := bits_get_writeFields (s := s) (a := R.DMC_CTRL ch) (r := dmcCtrlRow) (by decide) hg v
    rw [← hp, hi] at hb
    have hone : (FieldSpec.mk i i .rw 0).width = 1 := by simp [FieldSpec.width]
    rw [hone] at hb
    rw [on_congr (csiEnable_dmc _ (ch := ch) (Nat.le_refl _)), on, rd]
    dsimp only at hb ⊢
    rw [hb, FieldSpec.written]
    dsimp only
    rw [hone]
    exact bits_one_ne_zero v i
  refine ⟨hbit ⟨0, 0, .rw, 0⟩ (by decide) 0 rfl, hbit ⟨1, 1, .rw, 0⟩ (by decide) 1 rfl, fun f hf => ?_, ?_⟩
  · rw [ctrlWritten, csiEnable_dmc _ (Nat.le_of_lt hf), hp]
    exact rd_congr (get_put_ne _ _ (by unfold R.DMC_CTRL; omega))
  · rw [ctrlWritten, hp]
    exact (DmcKept.refl s).put.csiEnable

/-- A write of DMC_CTRL. -/
theorem dmcCtrlWrite_eq (s : State) (ch : Fin 2) (v : Nat) : s.dmcCtrlWrite ch v =
    let u := s.ctrlWritten ch v
    if bit v 0 = false then ((u.wr (F.DMC_STATUS_STATE ch) 0).wr (F.DMC_STATUS_SPEED ch) 0).modDmc ch fun d => { d with opened := [] }
    else if bit v 1 = true then (if s.rd (F.DMC_STATUS_STATE ch) = 5 then u else u.srEnter ch 5)
    else if s.rd (F.DMC_STATUS_STATE ch) = 0 ∨ s.rd (F.DMC_STATUS_STATE ch) = 5 then
      ((u.wr (F.DMC_STATUS_STATE ch) 3).wr (F.DMC_STATUS_SPEED ch) (s.rd (F.DMC_CFG_SPEED ch))).takeIn ch
    else u := by
  obtain ⟨hrun, hhold, hrd, -⟩ := ctrlWritten_spec s ch v
  have hlt : ∀ k, 0 < k → dmcBase ch < dmcBase ch + k := fun k hk => Nat.lt_add_of_pos_right hk
  have hst : (s.ctrlWritten ch v).rd (F.DMC_STATUS_STATE ch) = s.rd (F.DMC_STATUS_STATE ch) := hrd _ (hlt 4 (by decide))
  have hcfg : (s.ctrlWritten ch v).rd (F.DMC_CFG_SPEED ch) = s.rd (F.DMC_CFG_SPEED ch) := hrd _ (by clear * -; decide +revert)
  unfold dmcCtrlWrite
  rw [← ctrlWritten]
  dsimp only
  rw [hrun, hhold, hst, hcfg]
  simp only [Bool.not_eq_true']

/-- Holds and their end, as O49 states them. -/
theorem dmcCtrlWrite_spec (s : State) (ch : Fin 2) (v : Nat) : let t := s.dmcCtrlWrite ch v
    t.dram = s.dram ∧ t.lec = s.lec ∧ (bit v 0 = false → t.rd (F.DMC_STATUS_STATE ch) = 0) ∧
      (bit v 0 = true → bit v 1 = true → t.rd (F.DMC_STATUS_STATE ch) = 5 ∧ t.on (F.DMC_CTRL_HOLD_SR ch) = true) ∧
      (bit v 0 = true → bit v 1 = false → s.rd (F.DMC_STATUS_STATE ch) = 5 →
        t.rd (F.DMC_STATUS_STATE ch) = 3 ∧ t.rd (F.DMC_STATUS_SPEED ch) = s.rd (F.DMC_CFG_SPEED ch)) := by
  obtain ⟨-, hhold, hrd, hk⟩ := ctrlWritten_spec s ch v
  have hsp : apart (F.DMC_STATUS_SPEED ch) (F.DMC_STATUS_STATE ch) = true := by clear * -; decide +revert
  rw [dmcCtrlWrite_eq]
  dsimp only
  generalize s.ctrlWritten ch v = u at *
  refine ⟨?_, ?_, fun h0 => ?_, fun h0 h1 => ?_, fun h0 h1 h5 => ?_⟩
  · exact (DmcKept.ite hk.wr.wr.modDmc (.ite (.ite hk hk.srEnter) (.ite hk.wr.wr.takeIn hk))).dram trivial
  · exact (DmcKept.ite hk.wr.wr.modDmc (.ite (.ite hk hk.srEnter) (.ite hk.wr.wr.takeIn hk))).lec
  · rw [if_pos h0, modDmc_rd, rd_wr_apart _ _ hsp, rd_wr _ _ (show 0 + 3 ≤ 32 by decide)]
    rfl
  · rw [if_neg (by simp [h0]), if_pos h1]
    split
    · next h5 => exact ⟨(hrd _ (by clear * -; decide +revert)).trans h5, hhold.trans h1⟩
    · have he : ∀ f : Fld, f.addr ≠ R.DMC_PM_CNT ch → (u.srEnter ch 5).rd f = ((u.drain ch).wr (F.DMC_STATUS_STATE ch) 5).rd f := fun f hf => by
        unfold srEnter
        dsimp only
        split
        · rfl
        · exact rd_congr (get_put_ne _ _ hf)
      refine ⟨?_, ?_⟩
      · rw [he _ (by clear * -; decide +revert), rd_wr _ _ (show 0 + 3 ≤ 32 by decide)]
        rfl
      · rw [on, he _ (by clear * -; decide +revert), rd_wr_ne _ _ (by clear * -; decide +revert), drain_rd, ← on, hhold, h1]
  · rw [if_neg (by simp [h0]), if_neg (by simp [h1]), if_pos (.inr h5), takeIn_rd, takeIn_rd, rd_wr_apart _ _ hsp,
      rd_wr _ _ (show 0 + 3 ≤ 32 by decide), rd_wr _ _ (show 16 + 2 ≤ 32 by decide)]
    exact ⟨rfl, Nat.mod_eq_of_lt (rd_lt s (F.DMC_CFG_SPEED ch))⟩

/-! ### Pattern runs (R371) -/

/-- The comparison counters take a value each. -/
theorem setCounts_spec (ch : Fin 2) (val : Nat → Nat) (s : State) :
    let t := (List.range 72).foldl (fun (s : State) b => s.wr (F.PHY_CMPb_COUNT ch b) (val b)) s
    (∀ b, b < 72 → t.rd (F.PHY_CMPb_COUNT ch b) = val b % 2 ^ 16) ∧ (∀ x, x < R.PHY_CMPb ch 0 → t.get x = s.get x) ∧ DmcKept True s t := by
  have haddr : ∀ {b c : Nat}, b ≠ c → R.PHY_CMPb ch b ≠ R.PHY_CMPb ch c := fun h => by unfold R.PHY_CMPb; omega
  have hrd : ∀ (u : State) (b : Nat), (u.wr (F.PHY_CMPb_COUNT ch b) (val b)).rd (F.PHY_CMPb_COUNT ch b) = val b % 2 ^ 16 := fun u b =>
    rd_wr _ _ (show 0 + 16 ≤ 32 by decide)
  refine ⟨fun b hb => ?_, fun x hx => ?_, (DmcKept.refl s).foldl fun _ _ h => h.wr⟩
  · refine foldl_establishes (P := fun u : State => u.rd (F.PHY_CMPb_COUNT ch b) = val b % 2 ^ 16) (x := b) (fun u => hrd u b)
      (fun u c _ hu => ?_) s (List.mem_range.mpr hb)
    by_cases hc : c = b
    · rw [hc]
      exact hrd u b
    · exact (rd_wr_ne _ _ (haddr (Ne.symm hc))).trans hu
  · refine foldl_keeps (fun u : State => u.get x) (fun u c => get_wr_ne _ _ ?_) _ s
    have : R.PHY_CMPb ch 0 ≤ R.PHY_CMPb ch c := by unfold R.PHY_CMPb; omega
    exact Nat.ne_of_lt (Nat.lt_of_lt_of_le hx this)

theorem patStatus_below (ch : Fin 2) : R.PHY_PAT_STATUS ch < R.PHY_CMPb ch 0 ∧ R.PHY_PAT_CFG ch < R.PHY_CMPb ch 0 := by
  decide +revert

theorem trainArea_rd (s : State) (ch : Fin 2) (rank : Nat) (f : Fld) : (s.trainArea ch rank).rd f = s.rd f :=
  foldl_keeps (fun u : State => u.rd f) (fun u i => by simp [dramFree]) _ s

/-- A pattern run that begins, as O49 states it. -/
theorem patGo_spec {s : State} {ch : Fin 2} {v : Nat} (hv : bit v 0 = true) : let t := s.patGo ch v
    t.lec = s.lec ∧ t.on (F.PHY_PAT_STATUS_BUSY ch) = true ∧ t.on (F.PHY_PAT_STATUS_DONE ch) = false ∧
      (∀ b, b < 72 → t.rd (F.PHY_CMPb_COUNT ch b) = 0) ∧ (s.on (F.PHY_PAT_CFG_WRITE ch) = false → t.dram = s.dram) := by
  obtain ⟨hcnt, hword, hk⟩ := setCounts_spec ch (fun _ => 0) s
  unfold patGo
  rw [if_neg (by simp [hv])]
  dsimp only
  generalize (List.range 72).foldl (fun (s : State) b => s.wr (F.PHY_CMPb_COUNT ch b) 0) s = u at *
  have hwrite : u.on (F.PHY_PAT_CFG_WRITE ch) = s.on (F.PHY_PAT_CFG_WRITE ch) := on_congr (rd_congr (hword _ (patStatus_below ch).2))
  rw [hwrite]
  have harea : ∀ f : Fld, (if s.on (F.PHY_PAT_CFG_WRITE ch) then u.trainArea ch (u.rd (F.PHY_PAT_CFG_RANK ch)) else u).rd f = u.rd f := fun f => by
    split
    · exact trainArea_rd ..
    · rfl
  have hlec : DmcKept (s.on (F.PHY_PAT_CFG_WRITE ch) = false) s
      (if s.on (F.PHY_PAT_CFG_WRITE ch) then u.trainArea ch (u.rd (F.PHY_PAT_CFG_RANK ch)) else u) := by
    have hk' : DmcKept (s.on (F.PHY_PAT_CFG_WRITE ch) = false) s u := ⟨hk.lec, hk.mbx, fun _ => hk.dram trivial⟩
    split
    · next hw => exact hk'.trainArea (by simp [hw])
    · exact hk'
  generalize (if s.on (F.PHY_PAT_CFG_WRITE ch) then u.trainArea ch (u.rd (F.PHY_PAT_CFG_RANK ch)) else u) = w at *
  have hcb : apart (F.PHY_PAT_STATUS_COMPARED ch) (F.PHY_PAT_STATUS_BUSY ch) = true ∧ apart (F.PHY_PAT_STATUS_COMPARED ch) (F.PHY_PAT_STATUS_DONE ch) = true ∧
      apart (F.PHY_PAT_STATUS_BUSY ch) (F.PHY_PAT_STATUS_DONE ch) = true := by clear * -; decide +revert
  refine ⟨hlec.wr.wr.wr.lec, ?_, ?_, fun b hb => ?_, hlec.wr.wr.wr.dram⟩
  · rw [on, rd_wr_apart _ _ hcb.1, rd_wr _ _ (show 1 + 1 ≤ 32 by decide)]
    rfl
  · rw [on, rd_wr_apart _ _ hcb.2.1, rd_wr_apart _ _ hcb.2.2, rd_wr _ _ (show 0 + 1 ≤ 32 by decide)]
    rfl
  · have hne : R.PHY_CMPb ch b ≠ R.PHY_PAT_STATUS ch := by unfold R.PHY_CMPb R.PHY_PAT_STATUS; omega
    rw [rd_wr_ne _ _ hne, rd_wr_ne _ _ hne, rd_wr_ne _ _ hne, harea, hcnt b hb]
    rfl

/-- A pattern run that ends, as O49 states it. -/
theorem patDone_spec (s : State) (ch : Fin 2) (mism : List Nat) : let t := s.patDone ch mism
    t.dram = s.dram ∧ t.lec = s.lec ∧ (s.on (F.PHY_PAT_STATUS_BUSY ch) = false → t = s) ∧
      (s.on (F.PHY_PAT_STATUS_BUSY ch) = true → t.on (F.PHY_PAT_STATUS_BUSY ch) = false ∧ t.on (F.PHY_PAT_STATUS_DONE ch) = true ∧
        ∀ b, b < 72 → t.rd (F.PHY_CMPb_COUNT ch b) = min (mism.getD b 0) 65535) := by
  obtain ⟨hcnt, -, hk⟩ := setCounts_spec ch (fun b => satN 16 (mism.getD b 0)) s
  have hcb : apart (F.PHY_PAT_STATUS_COMPARED ch) (F.PHY_PAT_STATUS_BUSY ch) = true ∧ apart (F.PHY_PAT_STATUS_COMPARED ch) (F.PHY_PAT_STATUS_DONE ch) = true ∧
      apart (F.PHY_PAT_STATUS_BUSY ch) (F.PHY_PAT_STATUS_DONE ch) = true := by clear * -; decide +revert
  unfold patDone
  dsimp only at hcnt hk ⊢
  generalize (List.range 72).foldl (fun (s : State) b => s.wr (F.PHY_CMPb_COUNT ch b) (satN 16 (mism.getD b 0))) s = u at *
  have hend : DmcKept True s (if (!s.on (F.PHY_PAT_STATUS_BUSY ch)) = true then s
      else ((u.wr (F.PHY_PAT_STATUS_DONE ch) 1).wr (F.PHY_PAT_STATUS_BUSY ch) 0).wr (F.PHY_PAT_STATUS_COMPARED ch)
        (u.rd (F.PHY_PAT_CFG_BURSTS ch))) := .ite (.refl s) hk.wr.wr.wr
  refine ⟨hend.dram trivial, hend.lec, fun h => if_pos (by simp [h]), fun h => ?_⟩
  rw [if_neg (by simp [h])]
  refine ⟨?_, ?_, fun b hb => ?_⟩
  · rw [on, rd_wr_apart _ _ hcb.1, rd_wr _ _ (show 1 + 1 ≤ 32 by decide)]
    rfl
  · rw [on, rd_wr_apart _ _ hcb.2.1, rd_wr_apart _ _ hcb.2.2, rd_wr _ _ (show 0 + 1 ≤ 32 by decide)]
    rfl
  · have hne : R.PHY_CMPb ch b ≠ R.PHY_PAT_STATUS ch := by unfold R.PHY_CMPb R.PHY_PAT_STATUS; omega
    rw [rd_wr_ne _ _ hne, rd_wr_ne _ _ hne, rd_wr_ne _ _ hne, hcnt b hb]
    exact Nat.mod_eq_of_lt (by simp only [satN]; omega)

/-! ### Training steps -/

/-- A controller runs. -/
theorem dmcRun_spec (s : State) (ch : Fin 2) : (s.dmcRun ch).rd (F.DMC_STATUS_STATE ch) = 3 ∧ (s.dmcRun ch).on (F.DMC_CTRL_RUN ch) = true := by
  have hlow : dmcBase ch ≤ (F.DMC_STATUS_STATE ch).addr ∧ dmcBase ch ≤ (F.DMC_CTRL_RUN ch).addr := ⟨Nat.le_add_right .., Nat.le_add_right ..⟩
  have h1 : apart (F.DMC_STATUS_SPEED ch) (F.DMC_STATUS_STATE ch) = true ∧ apart (F.DMC_STATUS_SPEED ch) (F.DMC_CTRL_RUN ch) = true ∧
      apart (F.DMC_STATUS_STATE ch) (F.DMC_CTRL_RUN ch) = true ∧ apart (F.DMC_CTRL_HOLD_SR ch) (F.DMC_CTRL_RUN ch) = true := by
    clear * -; decide +revert
  obtain ⟨ha, hb, hc, hd⟩ := h1
  unfold dmcRun
  dsimp only
  refine ⟨?_, ?_⟩
  · rw [csiEnable_dmc _ hlow.1, takeIn_rd, rd_wr_apart _ _ ha, rd_wr _ _ (show 0 + 3 ≤ 32 by decide)]
    rfl
  · rw [on, csiEnable_dmc _ hlow.2, takeIn_rd, rd_wr_apart _ _ hb, rd_wr_apart _ _ hc, rd_wr_apart _ _ hd, rd_wr _ _ (show 0 + 1 ≤ 32 by decide)]
    rfl

/-- The payload of DRAM_TRAIN_STEP. -/
structure TrainForm (pl : List Byte) (ch : Fin 2) (step rank mask : Nat) : Prop where
  length : pl.length = 12
  chan : byteAt pl 4 = ch.val
  step : byteAt pl 5 = step
  rank : byteAt pl 6 = rank
  pad : byteAt pl 7 = 0
  mask : le16 pl 8 = mask
  tail : le16 pl 10 = 0

theorem trainForm {num step rank mask : Nat} {ch : Fin 2} (hs : step ≤ 6) (hr : rank ≤ 1) (hm : mask ≤ 511) :
    TrainForm (leBytes 4 num ++ leBytes 1 ch.val ++ leBytes 1 step ++ leBytes 1 rank ++ [0] ++ leBytes 2 mask ++ [0, 0]) ch step rank mask := by
  have hc := ch.isLt
  exact
    { length := by simp
      chan := by simp [leBytes, byteAt]; omega
      step := by simp [leBytes, byteAt]; omega
      rank := by simp [leBytes, byteAt]; omega
      pad := by simp [leBytes, byteAt]
      mask := by simp [leBytes, le16, byteAt]; omega
      tail := by simp [leBytes, le16, byteAt] }

/-- The result of lane l of a step. -/
def laneResult (s : State) (ch : Fin 2) (step mask : Nat) (results : List (Nat × Nat)) (l : Nat) : Nat × Nat :=
  let q := results.getD l (0, 0)
  if !bit mask l then (3, 0)
  else if q.1 = 0 ∧ 3 ≤ step ∧ step ≤ 5 ∧ q.2 < s.rd (F.PHY_TRAIN_CFG_MIN_MARGIN ch) then (2, q.2) else q

/-- The channel with the lanes trained that passed, before it runs. -/
def trainEnd (s : State) (ch : Fin 2) (step rank mask : Nat) (results : List (Nat × Nat)) : State :=
  let u := if step = 0 then s.dramLost ch else s
  let u := if step = 3 ∨ step = 4 ∨ step = 5 then u.trainArea ch rank else u
  let u := (List.range 9).foldl (fun (u : State) l =>
    if bit mask l && (s.laneResult ch step mask results l).1 == 0 then u.trainLane ch rank l step else u) u
  if step = 6 then u.trainStore else u

theorem trainEnd_kept (s : State) (ch : Fin 2) (step rank mask : Nat) (results : List (Nat × Nat)) :
    DmcKept (step = 1 ∨ step = 2 ∨ step = 6) s (s.trainEnd ch step rank mask results) := by
  have h0 : DmcKept (step = 1 ∨ step = 2 ∨ step = 6) s (if step = 0 then s.dramLost ch else s) := by
    split
    · exact (DmcKept.refl s).dramLost (by omega)
    · exact .refl s
  have h1 : DmcKept (step = 1 ∨ step = 2 ∨ step = 6) s (if step = 3 ∨ step = 4 ∨ step = 5 then
      (if step = 0 then s.dramLost ch else s).trainArea ch rank else (if step = 0 then s.dramLost ch else s)) := by
    split
    · exact h0.trainArea (by omega)
    · exact h0
  have h2 := h1.foldl (l := List.range 9) (f := fun (u : State) l =>
    if bit mask l && (s.laneResult ch step mask results l).1 == 0 then u.trainLane ch rank l step else u) fun _ _ h => .ite h.trainLane h
  exact .ite h2.trainStore h2

/-- DRAM_TRAIN_STEP of a request in range. -/
theorem trainStep_eq {s : State} {pl : List Byte} {ch : Fin 2} {step rank mask : Nat} (f : TrainForm pl ch step rank mask) (hs : step ≤ 6)
    (hr : rank ≤ s.rd (F.DMC_CFG_RANKS2 ch)) (hm : mask ≤ 511) (results : List (Nat × Nat)) :
    s.trainStep pl results = if chans.any fun n => s.on (F.LEC_STATUS_RUNNING n) then refuse s stBUSY 0
      else ⟨(s.trainEnd ch step rank mask results).dmcRun ch, stOK, 0, ((List.range 9).map fun l =>
        leBytes 2 (s.laneResult ch step mask results l).1 ++ leBytes 2 (s.laneResult ch step mask results l).2).flatten⟩ := by
  have hc := ch.isLt
  unfold trainStep
  rw [f.length, f.chan, f.step, f.rank, f.pad, f.mask, f.tail]
  dsimp only
  rw [duo_val, if_neg (by decide), if_neg (by simp; omega)]
  rfl

/-- Some channel runs exactly when the mask of those that do is not empty. -/
theorem runMask_eq_zero (s : State) : s.runMask = 0 ↔ (chans.any fun n => s.on (F.LEC_STATUS_RUNNING n)) = false := by
  have h : ∀ a b c d : Bool, [(0, a), (1, b), (2, c), (3, d)].foldl (fun m (q : Nat × Bool) => if q.2 then setBit m q.1 true else m) 0 = 0 ↔
      ([a, b, c, d].any fun x => x) = false := by decide
  exact h (s.on (F.LEC_STATUS_RUNNING 0)) (s.on (F.LEC_STATUS_RUNNING 1)) (s.on (F.LEC_STATUS_RUNNING 2)) (s.on (F.LEC_STATUS_RUNNING 3))

theorem opened_running (s : State) (p : Fin 3) (mb : Fin 6) (q : Nat) :
    (chans.any fun n => (s.opened p mb q).on (F.LEC_STATUS_RUNNING n)) = chans.any fun n => s.on (F.LEC_STATUS_RUNNING n) :=
  congrArg chans.any (funext fun n => on_congr (opened_windowFld s p mb q (n := n) (Nat.le_add_right ..)))

theorem opened_dmcFld (s : State) (p : Fin 3) (mb : Fin 6) (q : Nat) {ch : Fin 2} {f : Fld} (h : dmcBase ch ≤ f.addr) :
    (s.opened p mb q).rd f = s.rd f := opened_rd s p mb q (by unfold dmcBase at h; unfold R.MBX_HSTAT; omega)

theorem opened_laneResult (s : State) (p : Fin 3) (mb : Fin 6) (q : Nat) (ch : Fin 2) (step mask : Nat) (results : List (Nat × Nat)) (l : Nat) :
    (s.opened p mb q).laneResult ch step mask results l = s.laneResult ch step mask results l := by
  unfold laneResult
  rw [opened_dmcFld s p mb q (ch := ch) (f := F.PHY_TRAIN_CFG_MIN_MARGIN ch) (by clear * -; decide +revert)]

/-- The two result words of each lane, as O49 states them. -/
theorem laneWords (s : State) (ch : Fin 2) (step mask : Nat) (results : List (Nat × Nat)) (l : Nat) :
    let q := results.getD l (0, 0)
    let res := if q.1 = 0 ∧ 3 ≤ step ∧ step ≤ 5 ∧ q.2 < s.rd (F.PHY_TRAIN_CFG_MIN_MARGIN ch) then (2, q.2) else q
    (s.laneResult ch step mask results l).1 = (if bit mask l then res.1 else 3) ∧
      (s.laneResult ch step mask results l).2 = (if bit mask l then res.2 else 0) := by
  unfold laneResult
  cases bit mask l
  · exact ⟨rfl, rfl⟩
  · exact ⟨rfl, rfl⟩

theorem length_laneWords (r : Nat → Nat × Nat) : (((List.range 9).map fun l => leBytes 2 (r l).1 ++ leBytes 2 (r l).2).flatten).length = 36 := by
  simp [List.range_succ]

/-- DRAM_TRAIN_STEP, as O49 states it. -/
theorem trainStep_spec {s : State} {mb : Fin 6} {flags seq step rank mask : Nat} {pl : List Byte} {ch : Fin 2} (a : s.Asks 0 mb 0x87 flags seq pl)
    (f : TrainForm pl ch step rank mask) (hs : step ≤ 6) (hr : rank ≤ s.rd (F.DMC_CFG_RANKS2 ch)) (hm : mask ≤ 511) (h40 : 40 ≤ s.maxPay 0)
    (results : List (Nat × Nat)) : let t := s.serve 0 mb (· == 0x87) fun s _ pl => s.trainStep pl results
    (s.runMask ≠ 0 → s.performs t 0 mb 0x87 seq stBUSY 0 []) ∧
    (s.runMask = 0 → t.rd (F.DMC_STATUS_STATE ch) = 3 ∧ t.on (F.DMC_CTRL_RUN ch) = true ∧ t.lec = s.lec ∧
      (step = 1 ∨ step = 2 ∨ step = 6 → t.dram = s.dram) ∧
      t.answered 0 mb 0x87 seq stOK 0 ((List.range 9).map fun l =>
        leBytes 2 (s.laneResult ch step mask results l).1 ++ leBytes 2 (s.laneResult ch step mask results l).2).flatten) := by
  have hranks : rank ≤ (s.opened 0 mb seq).rd (F.DMC_CFG_RANKS2 ch) := by
    rw [opened_dmcFld s 0 mb seq (ch := ch) (by clear * -; decide +revert)]
    exact hr
  have he := trainStep_eq f hs hranks hm results
  rw [opened_running] at he
  refine ⟨fun h => ?_, fun h => ?_⟩
  · have hbusy : (chans.any fun n => s.on (F.LEC_STATUS_RUNNING n)) = true := by
      rw [← Bool.not_eq_false]
      exact fun hf => h ((runMask_eq_zero s).mpr hf)
    rw [if_pos hbusy] at he
    exact serve_refused a (· == 0x87) rfl (fun s _ pl => s.trainStep pl results) rfl (by decide) (Nat.le_trans (by decide) h40) (by decide) he
  · rw [if_neg (by rw [(runMask_eq_zero s).mp h]; decide)] at he
    have hk := (trainEnd_kept (s.opened 0 mb seq) ch step rank mask results).dmcRun (ch := ch)
    obtain ⟨hst, hrun⟩ := dmcRun_spec ((s.opened 0 mb seq).trainEnd ch step rank mask results) ch
    generalize ((s.opened 0 mb seq).trainEnd ch step rank mask results).dmcRun ch = v at *
    simp only [opened_laneResult] at he
    obtain ⟨hans, hmail, -⟩ := serve_performs a (· == 0x87) rfl (fun s _ pl => s.trainStep pl results) rfl (by decide) rfl he (by decide)
      (by rw [length_laneWords]; exact h40) (port_seqs_of_mbx hk.mbx 0)
    have hget : ∀ f : Fld, dmcBase ch ≤ f.addr → (s.serve 0 mb (· == 0x87) fun s _ pl => s.trainStep pl results).rd f = v.rd f := fun f hf =>
      rd_congr (mailOnly_get hmail (by unfold dmcBase at hf; unfold R.MBX_HSTAT; omega) (by unfold dmcBase at hf; unfold R.MBX_IRQ_STATUS; omega))
    refine ⟨(hget _ (Nat.le_add_right ..)).trans hst, (on_congr (hget _ (Nat.le_add_right ..))).trans hrun,
      hmail.lec.trans (hk.lec.trans (opened_lec ..)), fun hd => hmail.dram.trans ((hk.dram hd).trans (opened_dram ..)), hans⟩

end State

/-- Settles O49: what a controller does touches no mailbox, so the answer of a training step stands beside it. -/
theorem dramControl : Obligations.DramControl := by
  refine ⟨fun ch v mism s => ⟨fun h => ?_, fun h => ⟨?_, ?_⟩, fun h => ?_, fun h => ?_, fun h => ?_⟩,
    fun mb flags seq num step rank mask ch results s a hs hr hm h40 => ?_⟩
  · exact congrArg Host.Outcome.next (if_pos h)
  · exact congrArg Host.Outcome.next (if_pos h)
  · exact congrArg Host.Outcome.next (if_pos h)
  · exact ⟨_, congrArg Host.Outcome.next (if_neg (by simp [h])), dmcCtrlWrite_spec s ch v.toNat⟩
  · refine ⟨_, congrArg Host.Outcome.next (if_neg (by simp [h])), ?_⟩
    cases hv : bit v.toNat 0
    · have hnone : s.patGo ch v.toNat = s := by
        unfold patGo
        rw [if_pos (by simp [hv])]
      rw [hnone]
      exact ⟨rfl, fun _ => rfl, fun hf => absurd hf (by decide)⟩
    · exact ⟨(patGo_spec hv).1, fun hf => absurd hf (by decide), fun _ => (patGo_spec hv).2⟩
  · exact ⟨_, congrArg Host.Outcome.next (if_neg (by simp [h])), patDone_spec s ch mism⟩
  · have hranks : rank ≤ 1 := Nat.le_of_lt_succ (Nat.lt_of_le_of_lt hr (rd_lt s (F.DMC_CFG_RANKS2 ch)))
    obtain ⟨hbusy, hok⟩ := trainStep_spec a (trainForm hs hranks hm) hs hr hm h40 results
    refine ⟨_, rfl, hbusy, fun h => ?_⟩
    obtain ⟨hst, hrun, hlec, hdram, hans⟩ := hok h
    refine ⟨hst, hrun, hlec, hdram, ?_⟩
    simp only [(laneWords s ch step mask results _).1, (laneWords s ch step mask results _).2] at hans
    exact hans

end Sys2Proof.Machine
end

section
/-! SUPPORT. Uploads of assets piece by piece (R130, R212). -/

set_option Elab.async false

namespace Sys2Proof.Machine
open State

/-! ### The request -/

/-- The payload of LOAD_ASSET. -/
structure PieceForm (pl : List Byte) (id typ : Nat) (store : Bool) (total off crc : Nat) (d : List Byte) : Prop where
  id : le16 pl 0 = id
  typ : byteAt pl 2 = typ
  flag : byteAt pl 3 = b2n store
  total : le32 pl 4 = total
  off : le32 pl 8 = off
  crc : le32 pl 12 = crc
  data : pl.drop 16 = d

theorem pieceForm {id typ total off crc : Nat} (store : Bool) (d : List Byte) (hid : id ≤ 1023) (ht : typ ≤ 10) (h1 : total < 2 ^ 32)
    (h2 : off < 2 ^ 32) (h3 : crc < 2 ^ 32) :
    PieceForm (leBytes 2 id ++ leBytes 1 typ ++ leBytes 1 (b2n store) ++ leBytes 4 total ++ leBytes 4 off ++ leBytes 4 crc ++ d)
      id typ store total off crc d where
  id := by simp [leBytes, le16, byteAt]; omega
  typ := by simp [leBytes, byteAt]; omega
  flag := by cases store <;> simp [leBytes, byteAt, b2n]
  total := by simp [leBytes, le32, le16, byteAt]; omega
  off := by simp [leBytes, le32, le16, byteAt]; omega
  crc := by simp [leBytes, le32, le16, byteAt]; omega
  data := List.drop_left' (by simp)

/-! ### The asset area lies in DRAM -/

theorem inArea_fits (raw : Nat) {size : Nat} (h : size ≤ 268435456) :
    0x100000000 ≤ inArea raw (ceilDiv size 4096) * 4096 ∧ inArea raw (ceilDiv size 4096) * 4096 + size ≤ 0x200000000 := by
  have hpages : size ≤ ceilDiv size 4096 * 4096 ∧ ceilDiv size 4096 ≤ 65536 := by unfold ceilDiv; omega
  have harea : Config.areaPage.toNat % (firmPages - areaPages) < firmPages - areaPages := Nat.mod_lt _ (by decide)
  have hplace : raw % (areaPages - min (ceilDiv size 4096) (areaPages - 1)) < areaPages - min (ceilDiv size 4096) (areaPages - 1) :=
    Nat.mod_lt _ (by unfold areaPages; omega)
  obtain ⟨h1, h2⟩ := hpages
  simp only [inArea, Machine.areaPage, firmPages, areaPages, dramPage0] at *
  omega

namespace State

theorem dramBytes_least (s : State) (c : Fin 2) : 2 ^ 31 ≤ s.dramBytes c := by
  have hw : 2 ≤ (if s.on (F.DMC_CFG_X16 c) then 2 else 4) := by split <;> decide
  have hd : 1 ≤ 2 ^ s.rd (F.DMC_CFG_DENSITY c) := Nat.one_le_two_pow
  calc 2 ^ 31 = 2 * 2 ^ 30 * 1 * 1 := rfl
    _ ≤ _ := Nat.mul_le_mul (Nat.mul_le_mul (Nat.mul_le_mul_right _ hw) hd) (Nat.le_add_left ..)

/-- The smallest population of DRAM. -/
theorem dramIn_least (s : State) {a k : Nat} (h0 : 0x100000000 ≤ a) (h1 : a + k ≤ 0x200000000) : s.dramIn a k = true := by
  have h := Nat.le_min.mpr ⟨dramBytes_least s 0, dramBytes_least s 1⟩
  rw [dramIn, decide_eq_true ⟨h0, by omega⟩, Bool.true_or]

theorem opened_dramIn (s : State) (p : Fin 3) (mb : Fin 6) (q a k : Nat) : (s.opened p mb q).dramIn a k = s.dramIn a k := by
  have hc : ∀ c, (s.opened p mb q).dramBytes c = s.dramBytes c := fun c => by
    have hr : ∀ lo w, (s.opened p mb q).rd ⟨R.DMC_CFG c, lo, w⟩ = s.rd ⟨R.DMC_CFG c, lo, w⟩ := fun lo w =>
      opened_dmcFld s p mb q (ch := c) (Nat.le_add_right ..)
    rw [dramBytes, dramBytes, F.DMC_CFG_X16, on_congr (hr ..), F.DMC_CFG_DENSITY, F.DMC_CFG_RANKS2, hr, hr]
  rw [dramIn, dramIn, hc, hc, funext (opened_dramHit s p mb q)]

/-! ### Uploads in progress -/

theorem upload_congr {s t : State} (h : t.fw = s.fw) (id : Nat) : t.upload id = s.upload id := by rw [upload, upload, h]
theorem asset_congr {s t : State} (h : t.fw = s.fw) (id : Nat) : t.asset id = s.asset id := by rw [asset, asset, h]
theorem dread_congr {s t : State} (h : t.dram = s.dram) (a k : Nat) : t.dread a k = s.dread a k := by rw [dread, dread, h]

/-- What replaces the entries of a key in a list is found under it. -/
theorem find?_replaced {α : Type} {p : α → Bool} (l : List α) {x : α} (h : p x = true) : ((l.filter fun y => !p y) ++ [x]).find? p = some x := by
  have hn : (l.filter fun y => !p y).find? p = none := List.find?_eq_none.mpr fun y hy => by simpa using (List.mem_filter.mp hy).2
  rw [List.find?_append, hn, Option.none_or, List.find?_cons_of_pos h]

theorem uploads_dropUpload (s : State) (id : Nat) : (s.dropUpload id).fw.uploads = s.fw.uploads.filter fun u => u.asset.id != id := rfl

theorem upload_dropUpload (s : State) (id : Nat) : (s.dropUpload id).upload id = none := by
  simp [upload, uploads_dropUpload]

/-- The place of a new upload in the asset area. -/
def startPage (s : State) (a : Asset) : Nat := inArea (Config.assetPage a.id s.fw.upCount).toNat (ceilDiv a.size 4096)

/-- A new upload, with nothing in yet. -/
def newUpload (s : State) (a : Asset) (store : Bool) : Upload := ⟨{ a with page := s.startPage a }, store, 0⟩

/-- Any part of a new upload lies in DRAM. -/
theorem newUpload_fits (v s : State) (a : Asset) (store : Bool) {k : Nat} (h : a.size ≤ 268435456) (hk : k ≤ a.size) :
    v.dramIn ((s.newUpload a store).asset.page * 4096 + (s.newUpload a store).got) k = true := by
  obtain ⟨h1, h2⟩ := inArea_fits (Config.assetPage a.id s.fw.upCount).toNat h
  unfold newUpload startPage
  dsimp only
  generalize inArea (Config.assetPage a.id s.fw.upCount).toNat (ceilDiv a.size 4096) = page at *
  rw [Nat.add_zero]
  exact dramIn_least v h1 (by omega)

theorem upload_startUpload (s : State) (a : Asset) (store : Bool) : (s.startUpload a store).upload a.id = some (s.newUpload a store) :=
  find?_replaced s.fw.uploads (beq_self_eq_true a.id)

theorem startUpload_spec (s : State) (a : Asset) (store : Bool) : (s.startUpload a store).dram = s.dram ∧
    (s.startUpload a store).lec = s.lec ∧ (s.startUpload a store).mbx = s.mbx ∧ (s.startUpload a store).fw.assets = s.fw.assets :=
  ⟨rfl, rfl, rfl, rfl⟩

/-- An upload moves on. -/
theorem upload_map {s t : State} {u v : Upload} (hu : s.upload v.asset.id = some u)
    (ht : t.fw.uploads = s.fw.uploads.map fun x => if x.asset.id == v.asset.id then v else x) : t.upload v.asset.id = some v := by
  have hp : ((fun x : Upload => x.asset.id == v.asset.id) ∘ fun x => if x.asset.id == v.asset.id then v else x) =
      fun x => x.asset.id == v.asset.id := by
    funext x
    by_cases hx : x.asset.id = v.asset.id
    · simp [hx]
    · simp [hx]
  rw [upload, ht, List.find?_map, hp]
  rw [upload] at hu
  rw [hu, Option.map_some, if_pos (by simpa using List.find?_some hu)]

/-! ### A piece -/

/-- What the last piece of an asset brings about, from firmware's assets before it. -/
structure Ended (l : List Asset) (a : Asset) (store ok : Bool) (r : Ans) : Prop where
  gone : r.s.upload a.id = none
  badCrc : crc32 (r.s.dread (a.page * 4096) a.size) ≠ a.crc → r.st = stBAD_PARAM ∧ r.detail = 3 ∧ r.s.fw.assets = l
  badLayout : crc32 (r.s.dread (a.page * 4096) a.size) = a.crc → ok = false → r.st = stBAD_PARAM ∧ r.detail = 6 ∧ r.s.fw.assets = l
  good : crc32 (r.s.dread (a.page * 4096) a.size) = a.crc → ok = true →
    r.st = (if store then stACCEPTED else stOK) ∧ r.detail = 0 ∧ r.s.asset a.id = some a

theorem assetOk_congr {s t : State} (h : t.lec = s.lec) (a : Asset) (b : List Byte) : t.assetOk a b = s.assetOk a b := by
  simp only [assetOk, activeSize, ch, h]

/-- An asset takes its place among the complete ones. -/
def assetAdded (s : State) (a : Asset) : State := s.modFw fun w => { w with assets := (s.fw.assets.filter fun x => x.id != a.id) ++ [a] }

/-- The state in which a complete asset with the bytes `b` has its place. -/
def assetTaken (s : State) (a : Asset) (b : List Byte) : State :=
  if a.typ = 7 then ((s.dropUpload a.id).assetAdded a).sramWrite (chan (a.id - 1000)) 0 b else (s.dropUpload a.id).assetAdded a

theorem asset_assetAdded (s : State) (a : Asset) : (s.assetAdded a).asset a.id = some a :=
  find?_replaced s.fw.assets (beq_self_eq_true a.id)

theorem assetTaken_spec (s : State) (a : Asset) (b : List Byte) : (s.assetTaken a b).dram = s.dram ∧ (s.assetTaken a b).mbx = s.mbx ∧
    (s.assetTaken a b).upload a.id = none ∧ (s.assetTaken a b).asset a.id = some a := by
  have h1 : ((s.dropUpload a.id).assetAdded a).upload a.id = none := upload_dropUpload s a.id
  have h2 := asset_assetAdded (s.dropUpload a.id) a
  unfold assetTaken
  split
  · obtain ⟨-, -, h3, h4, h5⟩ := sramWrite_spec ((s.dropUpload a.id).assetAdded a) (chan (a.id - 1000)) 0 b
    exact ⟨h3, h5, (upload_congr h4 _).trans h1, (asset_congr h4 _).trans h2⟩
  · exact ⟨rfl, rfl, h1, h2⟩

/-- The asset goes into the store in flash. -/
def assetStoring (s : State) (t : Tag) (a : Asset) (b : List Byte) : State :=
  s.modFw fun w => { w with
    flash := some ⟨1, a.id, some t, none, if (s.storeBegin a b).isSome then some (a, b) else none⟩, store := (s.storeBegin a b).getD s.fw.store }

theorem finishUpload_eq (s : State) (t : Tag) (u : Upload) (b : List Byte) : s.finishUpload t u b =
    if crc32 b != u.asset.crc then refuse (s.dropUpload u.asset.id) stBAD_PARAM 3
    else if !(s.dropUpload u.asset.id).assetOk u.asset b then refuse (s.dropUpload u.asset.id) stBAD_PARAM 6
    else if u.store then ⟨(s.assetTaken u.asset b).assetStoring t u.asset b, stACCEPTED, 0, []⟩
    else ⟨s.assetTaken u.asset b, stOK, 0, []⟩ := by
  unfold finishUpload
  rfl

theorem finishUpload_spec (s : State) (t : Tag) (u : Upload) : let b := s.dread (u.asset.page * 4096) u.asset.size
    let r := s.finishUpload t u b
    r.s.dram = s.dram ∧ r.s.mbx = s.mbx ∧ r.data = [] ∧ Ended s.fw.assets u.asset u.store (s.assetOk u.asset b) r := by
  dsimp only
  rw [finishUpload_eq, assetOk_congr (show (s.dropUpload u.asset.id).lec = s.lec from rfl)]
  generalize hb : s.dread (u.asset.page * 4096) u.asset.size = b
  have hbr : ∀ v : State, v.dram = s.dram → v.dread (u.asset.page * 4096) u.asset.size = b := fun v hv => (dread_congr hv ..).trans hb
  have hdrop := upload_dropUpload s u.asset.id
  obtain ⟨k1, k2, k3, k4⟩ := assetTaken_spec s u.asset b
  by_cases hc : crc32 b = u.asset.crc
  · rw [if_neg (by simp [hc])]
    cases ho : s.assetOk u.asset b
    · exact ⟨rfl, rfl, rfl, hdrop, fun h => absurd ((congrArg crc32 (hbr _ rfl)).trans hc) h, fun _ _ => ⟨rfl, rfl, rfl⟩, fun _ h => absurd h (by decide)⟩
    · rw [if_neg (by decide)]
      cases hs : u.store
      · exact ⟨k1, k2, rfl, k3, fun h => absurd ((congrArg crc32 (hbr _ k1)).trans hc) h, fun _ h => absurd h (by decide), fun _ _ => ⟨rfl, rfl, k4⟩⟩
      · exact ⟨k1, k2, rfl, k3, fun h => absurd ((congrArg crc32 (hbr _ k1)).trans hc) h, fun _ h => absurd h (by decide), fun _ _ => ⟨rfl, rfl, k4⟩⟩
  · rw [if_pos (by simp [hc])]
    exact ⟨rfl, rfl, rfl, hdrop, fun _ => ⟨rfl, rfl, rfl⟩, fun h => absurd ((congrArg crc32 (hbr _ rfl)).symm.trans h) hc,
      fun h => absurd ((congrArg crc32 (hbr _ rfl)).symm.trans h) hc⟩

/-- An upload in progress replaced by its next state. -/
def pieceIn (s : State) (v : Upload) : State :=
  s.modFw fun w => { w with uploads := s.fw.uploads.map fun x => if x.asset.id == v.asset.id then v else x }

theorem pieceIn_spec (s : State) (v : Upload) : (s.pieceIn v).dram = s.dram ∧ (s.pieceIn v).mbx = s.mbx ∧ (s.pieceIn v).lec = s.lec ∧
    (s.pieceIn v).fw.assets = s.fw.assets ∧
    (s.pieceIn v).fw.uploads = s.fw.uploads.map fun x => if x.asset.id == v.asset.id then v else x := ⟨rfl, rfl, rfl, rfl, rfl⟩

/-- What a piece of an upload brings about. -/
structure PieceTaken (s : State) (u : Upload) (d : List Byte) (r : Ans) : Prop where
  dram : r.s.dram = ssets memReset s.dram (u.asset.page * 4096 + u.got) d
  mbx : r.s.mbx = s.mbx
  data : r.data = []
  more : u.got + d.length ≠ u.asset.size → r.st = stOK ∧ r.detail = 0 ∧ r.s.upload u.asset.id = some { u with got := u.got + d.length } ∧
    r.s.fw.assets = s.fw.assets
  last : u.got + d.length = u.asset.size →
    Ended s.fw.assets u.asset u.store (s.assetOk u.asset (r.s.dread (u.asset.page * 4096) u.asset.size)) r

theorem takePiece_spec {s : State} (t : Tag) {u : Upload} {d : List Byte} (hu : s.upload u.asset.id = some u)
    (hin : s.dramIn (u.asset.page * 4096 + u.got) d.length = true) : PieceTaken s u d (s.takePiece t u d) := by
  obtain ⟨hdram, -, hlec, hfw, hmbx⟩ := portWrite_in 11 hin
  obtain ⟨km, kx, kl, ka, ku⟩ := pieceIn_spec (s.portWrite 11 (u.asset.page * 4096 + u.got) d) { u with got := u.got + d.length }
  have hmap := upload_map (v := { u with got := u.got + d.length }) hu (ku.trans (by rw [hfw]))
  have he' : s.takePiece t u d = if u.got + d.length = u.asset.size
      then ((s.portWrite 11 (u.asset.page * 4096 + u.got) d).pieceIn { u with got := u.got + d.length }).finishUpload t { u with got := u.got + d.length }
        (((s.portWrite 11 (u.asset.page * 4096 + u.got) d).pieceIn { u with got := u.got + d.length }).assetBytes u.asset 0 u.asset.size)
      else ⟨(s.portWrite 11 (u.asset.page * 4096 + u.got) d).pieceIn { u with got := u.got + d.length }, stOK, 0, []⟩ := by
    unfold takePiece
    rfl
  rw [he']
  generalize (s.portWrite 11 (u.asset.page * 4096 + u.got) d).pieceIn { u with got := u.got + d.length } = w at *
  have hassets : w.fw.assets = s.fw.assets := ka.trans (congrArg Fw.assets hfw)
  by_cases he : u.got + d.length = u.asset.size
  · rw [if_pos he]
    obtain ⟨h1, h2, h3, h4⟩ := finishUpload_spec w t { u with got := u.got + d.length }
    dsimp only at h1 h2 h3 h4
    rw [assetBytes, Nat.add_zero]
    refine ⟨h1.trans (km.trans hdram), h2.trans (kx.trans hmbx), h3, fun h => absurd he h, fun _ => ?_⟩
    rw [dread_congr h1, ← hassets, ← assetOk_congr (kl.trans hlec)]
    exact h4
  · rw [if_neg he]
    exact ⟨km.trans hdram, kx.trans hmbx, rfl, fun _ => ⟨rfl, rfl, hmap, hassets⟩, fun h => absurd h he⟩

theorem PieceTaken.not_deferred {s : State} {u : Upload} {d : List Byte} {r : Ans} (h : PieceTaken s u d r) : r.st ≠ stDEFER := by
  by_cases he : u.got + d.length = u.asset.size
  · obtain ⟨-, hcrc, hlay, hgood⟩ := h.last he
    by_cases hc : crc32 (r.s.dread (u.asset.page * 4096) u.asset.size) = u.asset.crc
    · cases ho : s.assetOk u.asset (r.s.dread (u.asset.page * 4096) u.asset.size)
      · rw [(hlay hc ho).1]
        decide
      · rw [(hgood hc ho).1]
        split <;> decide
    · rw [(hcrc hc).1]
      decide
  · rw [(h.more he).1]
    decide

/-! ### The command -/

/-- An asset that may not be replaced now, or a store in flash that has to wait. -/
def pieceBusy (s : State) (id typ : Nat) (store : Bool) : Bool :=
  (store && s.fw.flash.isSome) || s.referenced id || (typ == 7 && s.showsPattern (chan (id - 1000)))

theorem opened_pieceBusy (s : State) (p : Fin 3) (mb : Fin 6) (q id typ : Nat) (store : Bool) :
    (s.opened p mb q).pieceBusy id typ store = s.pieceBusy id typ store := by
  simp only [pieceBusy, referenced, opened_fw, opened_ch, opened_showsPattern]

theorem opened_freeFor (s : State) (p : Fin 3) (mb : Fin 6) (q id : Nat) : (s.opened p mb q).freeFor id = s.freeFor id := by
  simp only [freeFor, freeAssets, dropUpload, modFw, opened_fw]

/-- A request whose identifier, type and flags are in range. -/
structure PieceRange (id typ : Nat) (d : List Byte) : Prop where
  id0 : 1 ≤ id
  id1 : id ≤ 1023
  typ0 : 1 ≤ typ
  typ1 : typ ≤ 10
  fallback : typ = 7 → 1000 ≤ id ∧ id ≤ 1003
  some : d ≠ []

variable {s : State} {pl d : List Byte} {id typ total off crc : Nat} {store : Bool} {t : Tag}

/-- LOAD_ASSET of a request in range. -/
theorem loadAsset_eq (f : PieceForm pl id typ store total off crc d) (h : PieceRange id typ d) : s.loadAsset t pl =
    if off = 0 then
      if assetLimit typ < total ∨ s.freeFor id < total then refuse s stBAD_PARAM 5
      else if total < d.length then refuse s stBAD_PARAM 9
      else if s.pieceBusy id typ store then refuse s stBUSY 0
      else (s.startUpload ⟨id, typ, total, crc, 0⟩ store).takePiece t (s.newUpload ⟨id, typ, total, crc, 0⟩ store) d
    else (s.upload id).elim (refuse s stBAD_PARAM 4) fun u =>
      if off ≠ u.got then refuse s stBAD_PARAM 4
      else if u.asset.typ ≠ typ ∨ u.asset.size ≠ total ∨ u.asset.crc ≠ crc ∨ u.store ≠ store then refuse s stBAD_PARAM 8
      else if total < off + d.length then refuse s stBAD_PARAM 9
      else if s.pieceBusy id typ store then refuse s stBUSY 0
      else s.takePiece t u d := by
  obtain ⟨h1, h2, h3, h4, h7, hd⟩ := h
  have hflag : byteAt pl 3 < 2 ∧ bit (byteAt pl 3) 0 = store := by
    rw [f.flag]
    cases store <;> decide
  have hstart : (s.startUpload ⟨id, typ, total, crc, 0⟩ store).upload id = some (s.newUpload ⟨id, typ, total, crc, 0⟩ store) :=
    upload_startUpload s ⟨id, typ, total, crc, 0⟩ store
  unfold loadAsset
  dsimp only
  rw [f.id, f.typ, f.total, f.off, f.crc, f.data, hflag.2, if_neg (by simpa using hd), if_neg (by simp [h1, h2, h3, h4, hflag.1]),
    if_neg (by simpa using h7), hstart]
  congr 1
  cases s.upload id <;> rfl

/-- A piece at an offset that no upload has reached. -/
theorem loadAsset_misplaced (f : PieceForm pl id typ store total off crc d) (h : PieceRange id typ d) (h0 : off ≠ 0)
    (hu : ∀ u, s.upload id = some u → u.got ≠ off) : s.loadAsset t pl = refuse s stBAD_PARAM 4 := by
  rw [loadAsset_eq f h, if_neg h0]
  cases he : s.upload id with
  | none => rfl
  | some u => exact if_pos (Ne.symm (hu u he))

/-- A piece that opens an upload with room for it. -/
theorem loadAsset_opens (f : PieceForm pl id typ store total 0 crc d) (h : PieceRange id typ d) (hl : total ≤ assetLimit typ)
    (hf : total ≤ s.freeFor id) (hd : d.length ≤ total) : s.loadAsset t pl = if s.pieceBusy id typ store then refuse s stBUSY 0
      else (s.startUpload ⟨id, typ, total, crc, 0⟩ store).takePiece t (s.newUpload ⟨id, typ, total, crc, 0⟩ store) d := by
  rw [loadAsset_eq f h, if_pos rfl, if_neg (by omega), if_neg (by omega)]

/-- A piece that continues an upload. -/
theorem loadAsset_continues {page : Nat} (f : PieceForm pl id typ store total off crc d) (h : PieceRange id typ d) (h0 : off ≠ 0)
    (hu : s.upload id = some ⟨⟨id, typ, total, crc, page⟩, store, off⟩) (hd : off + d.length ≤ total)
    (hb : s.pieceBusy id typ store = false) : s.loadAsset t pl = s.takePiece t ⟨⟨id, typ, total, crc, page⟩, store, off⟩ d := by
  rw [loadAsset_eq f h, if_neg h0, hu, Option.elim_some, if_neg (by simp), if_neg (by simp), if_neg (by omega), hb, if_neg (by decide)]

end State

/-- The bytes of a piece stand at their place and no other byte of DRAM has changed. -/
def piecePlaced (s t : State) (d : List Byte) (at_ : Nat) : Prop :=
  t.dread at_ d.length = d ∧ ∀ x, x < at_ ∨ at_ + d.length ≤ x → t.dbyte x = s.dbyte x

/-- The end of an upload, as O28 states it. -/
def pieceEnds (s t : State) (p : Fin 3) (mb : Fin 6) (seq : Nat) (store : Bool) (a : Asset) : Prop :=
  let b := t.dread (a.page * 4096) a.size
  (crc32 b ≠ a.crc → t.answered p mb 0x06 seq stBAD_PARAM 3 [] ∧ t.upload a.id = none ∧ t.fw.assets = s.fw.assets) ∧
  (crc32 b = a.crc → s.assetOk a b = false → t.answered p mb 0x06 seq stBAD_PARAM 6 [] ∧ t.upload a.id = none ∧ t.fw.assets = s.fw.assets) ∧
  (crc32 b = a.crc → s.assetOk a b = true → t.answered p mb 0x06 seq (if store then stACCEPTED else stOK) 0 [] ∧ t.upload a.id = none ∧
    t.asset a.id = some a)

section
variable {s v : State} {p : Fin 3} {mb : Fin 6} {flags seq : Nat} {pl d : List Byte} {u : Upload}

/-- A piece taken from the state v, which the command reached without a change of DRAM, of the channels or of assets. -/
theorem serve_piece (a : s.Asks p mb 0x06 flags seq pl) (h4 : 4 ≤ pl.length)
    (hh : (s.opened p mb seq).loadAsset (tagOf p mb 0x06 flags seq) pl = v.takePiece (tagOf p mb 0x06 flags seq) u d)
    (hu : v.upload u.asset.id = some u) (hin : v.dramIn (u.asset.page * 4096 + u.got) d.length = true) (hdram : v.dram = s.dram)
    (hlec : v.lec = s.lec) (hmbx : v.mbx = (s.opened p mb seq).mbx) (hassets : v.fw.assets = s.fw.assets) :
    let t := s.serve p mb (· == 0x06) loadAsset
    piecePlaced s t d (u.asset.page * 4096 + u.got) ∧
      (u.got + d.length < u.asset.size → t.answered p mb 0x06 seq stOK 0 [] ∧ t.upload u.asset.id = some { u with got := u.got + d.length } ∧
        t.fw.assets = s.fw.assets) ∧
      (u.got + d.length = u.asset.size → pieceEnds s t p mb seq u.store u.asset) := by
  have k := takePiece_spec (tagOf p mb 0x06 flags seq) hu hin
  generalize v.takePiece (tagOf p mb 0x06 flags seq) u d = r at *
  obtain ⟨hans, hmail, hfw⟩ := serve_performs a (· == 0x06) rfl loadAsset rfl (by decide) rfl hh k.not_deferred
    (by rw [k.data]; exact a.roomFor h4) (port_seqs_of_mbx (k.mbx.trans hmbx) p)
  dsimp only
  generalize s.serve p mb (· == 0x06) loadAsset = t at *
  rw [k.data, ite_self] at hans
  have hread : t.dread (u.asset.page * 4096) u.asset.size = r.s.dread (u.asset.page * 4096) u.asset.size := dread_congr hmail.dram ..
  have hbytes : t.dram = ssets memReset s.dram (u.asset.page * 4096 + u.got) d := by rw [hmail.dram, k.dram, hdram]
  refine ⟨⟨?_, fun x hx => ?_⟩, fun hm => ?_, fun he => ?_⟩
  · rw [dread, hbytes]
    exact sgets_ssets ..
  · rw [dbyte, hbytes, sget_ssets_out _ _ _ _ _ hx, dbyte]
  · obtain ⟨h1, h2, h3, h4⟩ := k.more (Nat.ne_of_lt hm)
    rw [h1, h2] at hans
    exact ⟨hans, (upload_congr hfw _).trans h3, (congrArg Fw.assets hfw).trans (h4.trans hassets)⟩
  · obtain ⟨hgone, hcrc, hlay, hgood⟩ := k.last he
    rw [assetOk_congr hlec] at hlay hgood
    unfold pieceEnds
    dsimp only
    rw [hread, upload_congr hfw, hfw, asset_congr hfw]
    refine ⟨fun hc => ?_, fun hc ho => ?_, fun hc ho => ?_⟩
    · obtain ⟨h1, h2, h3⟩ := hcrc hc
      rw [h1, h2] at hans
      exact ⟨hans, hgone, h3.trans hassets⟩
    · obtain ⟨h1, h2, h3⟩ := hlay hc ho
      rw [h1, h2] at hans
      exact ⟨hans, hgone, h3.trans hassets⟩
    · obtain ⟨h1, h2, h3⟩ := hgood hc ho
      rw [h1, h2] at hans
      exact ⟨hans, hgone, h3⟩

end

/-- Settles O28: a piece taken writes its bytes, and what its end brings about rests on those bytes as they then stand in DRAM. -/
theorem assetPieces : Obligations.AssetPieces := by
  intro p mb flags seq id typ total off crc store d s a hid0 hid1 ht0 ht1 h7 htot hoff hcrc hd
  have f := pieceForm (id := id) (typ := typ) (total := total) (off := off) (crc := crc) store d hid1 ht1 htot hoff hcrc
  generalize leBytes 2 id ++ leBytes 1 typ ++ leBytes 1 (b2n store) ++ leBytes 4 total ++ leBytes 4 off ++ leBytes 4 crc ++ d = pl at *
  have hr : PieceRange id typ d := ⟨hid0, hid1, ht0, ht1, h7, hd⟩
  have h4 : 4 ≤ pl.length := by
    have hlen := congrArg List.length f.data
    have := List.length_pos_iff.mpr hd
    rw [List.length_drop] at hlen
    omega
  have hbusy := opened_pieceBusy s p mb seq id typ store
  refine ⟨_, rfl, fun h0 hu => ?_, fun h0 hl hf hdl hb => ?_, fun h0 hl hf hdl hb => ?_, fun page h0 hu hdl hb hin => ?_⟩
  · exact serve_refused a (· == 0x06) rfl loadAsset rfl (by decide) (a.roomFor h4) (by decide)
      (loadAsset_misplaced f hr h0 fun u e => hu u ((upload_congr (opened_fw s p mb seq) id).symm.trans e))
  · subst h0
    have he := loadAsset_opens (s := s.opened p mb seq) (t := tagOf p mb 0x06 flags seq) f hr hl (by rwa [opened_freeFor]) hdl
    rw [hbusy.trans hb, if_pos rfl] at he
    exact serve_refused a (· == 0x06) rfl loadAsset rfl (by decide) (a.roomFor h4) (by decide) he
  · subst h0
    have he := loadAsset_opens (s := s.opened p mb seq) (t := tagOf p mb 0x06 flags seq) f hr hl (by rwa [opened_freeFor]) hdl
    rw [hbusy.trans hb, if_neg (by decide)] at he
    have hfree : total ≤ 268435456 := Nat.le_trans hf (Nat.sub_le ..)
    obtain ⟨k1, k2, k3, k4⟩ := startUpload_spec (s.opened p mb seq) ⟨id, typ, total, crc, 0⟩ store
    have hs := serve_piece a h4 he (upload_startUpload (s.opened p mb seq) ⟨id, typ, total, crc, 0⟩ store)
      (newUpload_fits _ (s.opened p mb seq) ⟨id, typ, total, crc, 0⟩ store hfree hdl)
      (k1.trans (opened_dram ..)) (k2.trans (opened_lec ..)) k3 (k4.trans (congrArg Fw.assets (opened_fw ..)))
    simp only [newUpload, Nat.zero_add, Nat.add_zero] at hs
    exact ⟨_, hs⟩
  · have hup : (s.opened p mb seq).upload id = some ⟨⟨id, typ, total, crc, page⟩, store, off⟩ := (upload_congr (opened_fw ..) id).trans hu
    have he := loadAsset_continues (t := tagOf p mb 0x06 flags seq) f hr h0 hup hdl (hbusy.trans hb)
    have hs := serve_piece a h4 he hup ((opened_dramIn ..).trans hin) (opened_dram ..) (opened_lec ..) rfl (congrArg Fw.assets (opened_fw ..))
    exact hs

end Sys2Proof.Machine
end
